-- ==== Sys2Proof/Word.lean ====
section
/-! DEFINITION. The word types of the SL8420 and their plainest arithmetic (R7: registers are 32 bits wide). -/

namespace Sys2Proof

/-- A register word (R7). -/
abbrev Word := BitVec 32

/-- The smallest addressable unit (R7). -/
abbrev Byte := BitVec 8

/-- A bit field of a register word, by its lowest bit and its width. -/
structure Field where
  lo    : Nat
  width : Nat
  deriving DecidableEq, Repr

end Sys2Proof
end

