-- ==== Sys2Proof/Syntax.lean ====
section
/-! DEFINITION. The commands of the block: one constructor of `Instr` for every row of
spec/opcode_table.json, with the row's operands. No row of the table gives bits, so a command has no word. -/

namespace Sys2Proof

/-- The masters that reach registers, vat memory and the DRAM aperture (R34, R400). -/
inductive RegMaster where
  | host | cpa | cpb | dma (n : Fin 4) | boot
  deriving DecidableEq, Repr

/-- The crossbar masters, in the order of their codes (R265). -/
inductive Master where
  | pc (n : Fin 8) | seq | mix | packRx | packTx | felt | dma (n : Fin 4) | cpa | cpb | host | boot
  deriving DecidableEq, Repr

/-- The fields of an engine instruction below CLASS and OP (R116). `imm` is bits [31:0]: XSLOT in [31:16] and
YSLOT in [15:0] for the classes with slots, the immediate for the others. -/
structure InstrFields where
  lmask : BitVec 4
  dst   : BitVec 4
  srca  : BitVec 4
  srcb  : BitVec 4
  aux   : BitVec 4
  imm   : BitVec 32
  deriving DecidableEq, Repr

/-- Why a lane leaves UP by itself (R310); the codes of LANE_DOWN word 3 (R341). -/
inductive DownCause where
  | signal | blockLock | degrade
  deriving DecidableEq, Repr

/-- A frame as a MAC receives it: the bytes from the destination address to the last byte before the FCS, whether the
FCS checks, and whether the PCS reported an error block or an uncorrectable codeword overlapped it (R321). -/
structure RxFrame where
  bytes     : List Byte
  fcsOk     : Bool
  codeError : Bool
  deriving DecidableEq, Repr

/-- A serial frame as the port measures it (R495-R505): the falling BCLK edges from its start edge to the next; the PTs of
the falling BCLK edges at which WS goes low and goes high in it, and the BCLK period, in 2^-32 ns; its period in 2^-8 ns, and
the two 32-bit slots as sampled from the start edge on. -/
structure SapFrame where
  edges  : Nat
  wsLow  : Nat
  wsHigh : Nat
  bclk   : Nat
  period : BitVec 24
  left   : Word
  right  : Word
  deriving DecidableEq, Repr

/-- A register of the endpoint's configuration space that the manual names (R615, R616): a base address register, or a part of
the MSI capability. -/
inductive HostCfg where
  | bar (n : Fin 6) | msiControl | msiAddrLo | msiAddrHi | msiData
  deriving DecidableEq, Repr

/-- How an access of the host comes (R615, R617, R619, R620): over PCI Express at an offset in BAR0 or BAR2 or to a register of
configuration space, or as a quad-SPI transaction by its opcode byte and its management address. -/
inductive HostPath where
  | bar0 (offset : BitVec 26)
  | bar2 (offset : BitVec 22)
  | cfg (r : HostCfg)
  | qspi (opcode : BitVec 8) (addr : BitVec 40)
  deriving DecidableEq, Repr

/-- What a calibration of a modulator or a slice measures (R519, R521, R543). -/
structure CalRecord where
  offset : BitVec 32
  gcorr  : BitVec 32
  slope  : BitVec 16
  gslope : BitVec 16
  deriving DecidableEq, Repr

/-- The thresholds of PVDD (R653): below 7.0 V, back above 7.5 V, above 22.0 V, back below 21.5 V. -/
inductive PvddEvent where
  | under | underRelease | over | overRelease
  deriving DecidableEq, Repr

/-- What the SFDP discovery finds (R580): tables valid, a 64 KiB erase type, no timeout, and the capacity in MiB. -/
structure Sfdp where
  valid   : Bool
  erase64 : Bool
  timeout : Bool
  capMiB  : Nat
  deriving DecidableEq, Repr

/-- How a flash command ends (R610): done, or FLASH_ERR with timeout or with a failed erase or program. -/
inductive FlashResult where
  | ok | timeout | failed
  deriving DecidableEq, Repr

/-- The commands: the rows of spec/opcode_table.json that have operands, in its order, then those that have none. Each
docstring gives the row's mnemonic, rule and summary. -/
inductive Instr where
  /-- RESET_N_RISE (R578): RESET_N rises: the straps are latched into BOOT_STRAP and the system PLL starts. -/
  | resetNRise (straps : BitVec 8) (mode : BitVec 3) (pwrgood : Bool := true)
  /-- REGISTER_WRITE (R11): A write to a register that has no row of its own sets its fields according to their access codes. -/
  | registerWrite (m : RegMaster) (addr : BitVec 32) (data : Word)
  /-- WIDE_READ_WORD0 (R35): A master reads word 0 of a wide register, which latches the whole register into that master's shadow. -/
  | wideReadWord0 (m : RegMaster) (addr : BitVec 32)
  /-- WIDE_READ_HIGH (R36): A master reads a higher word of a wide register from its shadow, and a stale read sets STALE_READ and ADDR. -/
  | wideReadHigh (m : RegMaster) (addr : BitVec 32)
  /-- WIDE_WRITE_HIGH (R38): A master writes a higher word of a writable wide register into its own staging. -/
  | wideWriteHigh (m : RegMaster) (addr : BitVec 32) (data : Word)
  /-- WIDE_WRITE_WORD0 (R38): A master writes word 0 of a writable wide register, which moves all of its staged words into effect in one cycle. -/
  | wideWriteWord0 (m : RegMaster) (addr : BitVec 32) (data : Word)
  /-- TIME_INCR_NOM_WRITE (R29): A write to TIME_INCR_NOM takes effect in FREE and is refused with CONFIG_ERR in any other servo state. -/
  | timeIncrNomWrite (m : RegMaster) (data : Word)
  /-- STEP (R30): The TIME_CMD STEP command adds the signed TIME_ADJ to TIME_NOW at the next tick, unless it is refused. -/
  | step (withSet : Bool)
  /-- SET (R30): The TIME_CMD SET command loads TIME_NOW from TIME_ADJ at the next tick, unless it is refused. -/
  | set (withStep : Bool)
  /-- TIME_CTRL_WRITE (R73): A write to TIME_CTRL sets AUDIO_RUN and stages RATE. -/
  | timeCtrlWrite (data : Word)
  /-- SERVO_CTRL_WRITE (R76): A write to TIME_SERVO_CTRL sets enable, source, steering and holdover; writing ENABLE = 0 returns the servo to FREE. -/
  | servoCtrlWrite (data : Word)
  /-- SERVO_OFFSET_SAMPLE (R49): An offset sample arrives by a write of word 0 of TIME_SERVO_OFFSET or by a capture, and moves the servo through its states. -/
  | servoOffsetSample (m : RegMaster) (data : Word)
  /-- FOLIO_BOUNDARY (R40): PT crosses a folio boundary E(8k), the instant at which folio-scheduled activities take place. -/
  | folioBoundary (k : Nat) (errA : Word) (errB : Word)
  /-- AUDIO_START (R55): Audio starts at the first folio boundary at which AUDIO_RUN and LOCKED have held for 1 ms. -/
  | audioStart (k : Nat) (held : Nat) (ms : Nat)
  /-- PULSE_ARM (R57): A write of a non-zero MODE arms a pulse output from START, PERIOD and WIDTH, or refuses it. -/
  | pulseArm (n : Fin 4) (data : Word)
  /-- PULSE_STOP (R62): A write of MODE = 0 ends the pulse output at once. -/
  | pulseStop (n : Fin 4) (data : Word)
  /-- PULSE_EDGE (R59): PT reaches a pulse instant and the leading edge is emitted. -/
  | pulseEdge (n : Fin 4)
  /-- PULSE_WIDTH_END (R78): The pulse width expires, the pin returns to inactive and a once pulse clears ARMED. -/
  | pulseWidthEnd (n : Fin 4)
  /-- CAPTURE_EDGE (R63): A selected edge on TIME_CAPn is recorded, pushed to a quire or dropped. -/
  | captureEdge (n : Fin 4) (rising : Bool)
  /-- SYNTH_SERDES_CTRL_WRITE (R83): A write to SYNTH_SERDES_CTRL enables the SerDes PLLs and changes their MODE while EN is 0. -/
  | synthSerdesCtrlWrite (data : Word)
  /-- SPLL_LOCK (R310): A SerDes PLL locks, which lets its enabled lanes leave OFF. -/
  | spllLock (p : Fin 3)
  /-- SPLL_UNLOCK (R100): An enabled SerDes PLL loses lock. -/
  | spllUnlock (p : Fin 3)
  /-- SYNTH_CTRL_WRITE (R99): A write of SYNTH_x_CTRL.ENABLE powers the VCO up or down. -/
  | synthCtrlWrite (x : Fin 2) (data : Word)
  /-- UPDATE (R89): A write of 1 to SYNTH_x_CTRL.UPDATE applies every staged value of that PLL at the next VCO edge, or refuses the update. -/
  | update (x : Fin 2)
  /-- SYNTH_SCHED (R91): A write of 1 to SCHED schedules an update at SYNTH_x_UPDATE_PT, or refuses an instant that is too early. -/
  | synthSched (x : Fin 2)
  /-- SYNTH_CANCEL (R105): The CANCEL command clears SCHED and leaves the staged values staged. -/
  | synthCancel (x : Fin 2)
  /-- SYNTH_SCHEDULED_UPDATE (R89): PT reaches SYNTH_x_UPDATE_PT with SCHED at 1 and the staged values are applied. -/
  | synthScheduledUpdate (x : Fin 2)
  /-- SYNTH_LOCK (R96): The lock pin voltage rises to 1.50 V, LOCK becomes 1 and the outputs are ungated. -/
  | synthLock (x : Fin 2) (v : BitVec 8)
  /-- SYNTH_UNLOCK (R96): The lock pin voltage falls to 0.50 V, LOCK becomes 0 and STEER freezes. -/
  | synthUnlock (x : Fin 2) (v : BitVec 8)
  /-- SYNTH_FAST_LOSS (R96): No feedback edge arrives for 4 REFCLK periods, so LOCK falls at once and the pin sinks current. -/
  | synthFastLoss (x : Fin 2) (v : BitVec 8)
  /-- SYNTH_FILTER_ERR (R96): The lock pin has stayed at or above 3.00 V for 1 ms, so FILTER_ERR is set and LOCK is held at 0. -/
  | synthFilterErr (x : Fin 2) (v : BitVec 8)
  /-- PE_ENABLE_WRITE (R148): A write of PE_CTRL.ENABLE moves the engine between OFFLINE and IDLE. -/
  | peEnableWrite (e : Fin 64) (data : Word)
  /-- PE_ABORT (R148): A write of PE_CTRL.ABORT, or an abort from the sequencer, stops a running task and moves the engine to DRAIN. -/
  | peAbort (e : Fin 64) (withFault : Bool := false)
  /-- CLEAR_FAULT (R148): A write of PE_CTRL.CLEAR_FAULT releases a held FAULTED engine, or is held in CLEAR_PENDING. -/
  | clearFault (e : Fin 64)
  /-- PE_MEMORY_WRITE (R151): A host, CPA, CPB or BOOT write to the X, Y or P memory of an engine takes effect only in OFFLINE. -/
  | peMemoryWrite (m : RegMaster) (addr : BitVec 32) (be : BitVec 4) (data : Word)
  /-- TASK_DISPATCH (R174): SEQ dispatches a ready task to the lowest IDLE allowed engine, or hands it to MIX. -/
  | taskDispatch (sameCycle : Bool)
  /-- MPY (R109): ACC receives the product of Va and Vb. -/
  | mpy (e : Fin 64) (f : InstrFields)
  /-- MAC (R109): ACC receives ACC plus the product of Va and Vb. -/
  | mac (e : Fin 64) (f : InstrFields)
  /-- MSU (R109): ACC receives ACC minus the product of Va and Vb. -/
  | msu (e : Fin 64) (f : InstrFields)
  /-- ADD (R117): Vd receives Va + Vb modulo 2³². -/
  | add (e : Fin 64) (f : InstrFields)
  /-- SUB (R117): Vd receives Va − Vb modulo 2³². -/
  | sub (e : Fin 64) (f : InstrFields)
  /-- ADDS (R113): Vd receives the saturated sum of Va and Vb. -/
  | adds (e : Fin 64) (f : InstrFields)
  /-- SUBS (R113): Vd receives the saturated difference of Va and Vb. -/
  | subs (e : Fin 64) (f : InstrFields)
  /-- NEGS (R113): Vd receives the saturated negation of Va. -/
  | negs (e : Fin 64) (f : InstrFields)
  /-- ABSS (R113): Vd receives the saturated absolute value of Va. -/
  | abss (e : Fin 64) (f : InstrFields)
  /-- MIN (R117): Vd receives the signed minimum of Va and Vb. -/
  | min (e : Fin 64) (f : InstrFields)
  /-- MAX (R117): Vd receives the signed maximum of Va and Vb. -/
  | max (e : Fin 64) (f : InstrFields)
  /-- AND (R117): Vd receives the bitwise AND of Va and Vb. -/
  | and (e : Fin 64) (f : InstrFields)
  /-- OR (R117): Vd receives the bitwise OR of Va and Vb. -/
  | or (e : Fin 64) (f : InstrFields)
  /-- XOR (R117): Vd receives the bitwise XOR of Va and Vb. -/
  | xor (e : Fin 64) (f : InstrFields)
  /-- NOT (R117): Vd receives the bitwise complement of Va. -/
  | not (e : Fin 64) (f : InstrFields)
  /-- SHL (R117): Vd receives Va shifted left by k, modulo 2³². -/
  | shl (e : Fin 64) (f : InstrFields) (regCount : Bool)
  /-- SHLS (R113): Vd receives Va shifted left by k, saturated. -/
  | shls (e : Fin 64) (f : InstrFields) (regCount : Bool)
  /-- SHR (R112): Vd receives Va shifted arithmetically right by k, floored. -/
  | shr (e : Fin 64) (f : InstrFields) (regCount : Bool)
  /-- SHRL (R117): Vd receives Va shifted logically right by k. -/
  | shrl (e : Fin 64) (f : InstrFields) (regCount : Bool)
  /-- CMPEQ (R117): CF receives 1 when Va equals Vb. -/
  | cmpeq (e : Fin 64) (f : InstrFields)
  /-- CMPLT (R117): CF receives 1 when Va is less than Vb, signed. -/
  | cmplt (e : Fin 64) (f : InstrFields)
  /-- CMPLE (R117): CF receives 1 when Va is less than or equal to Vb, signed. -/
  | cmple (e : Fin 64) (f : InstrFields)
  /-- SEL (R117): Vd receives Va where CF is 1 and Vb where CF is 0. -/
  | sel (e : Fin 64) (f : InstrFields)
  /-- CLR (R110): ACCd is cleared. -/
  | clr (e : Fin 64) (f : InstrFields)
  /-- LDA (R110): ACCd receives Va entered in Q9.63. -/
  | lda (e : Fin 64) (f : InstrFields)
  /-- ADDA (R110): ACCd receives ACCd + ACCa, with AOVF on wrap. -/
  | adda (e : Fin 64) (f : InstrFields)
  /-- SUBA (R110): ACCd receives ACCd − ACCa, with AOVF on wrap. -/
  | suba (e : Fin 64) (f : InstrFields)
  /-- MOVA (R110): ACCd receives ACCa. -/
  | mova (e : Fin 64) (f : InstrFields)
  /-- NEGA (R110): ACCd receives −ACCa, with AOVF on wrap. -/
  | nega (e : Fin 64) (f : InstrFields)
  /-- SHLA (R110): ACCd receives ACCa shifted left by k, with AOVF when the exact value is out of range. -/
  | shla (e : Fin 64) (f : InstrFields)
  /-- SHRA (R112): ACCd receives ACCa shifted arithmetically right by k. -/
  | shra (e : Fin 64) (f : InstrFields)
  /-- RDL (R110): Vd receives ACCa bits [31:0]. -/
  | rdl (e : Fin 64) (f : InstrFields)
  /-- RDM (R110): Vd receives ACCa bits [63:32]. -/
  | rdm (e : Fin 64) (f : InstrFields)
  /-- RDH (R110): Vd receives ACCa bits [71:64], sign-extended. -/
  | rdh (e : Fin 64) (f : InstrFields)
  /-- WRL (R110): ACCd bits [31:0] receive Va. -/
  | wrl (e : Fin 64) (f : InstrFields)
  /-- WRM (R110): ACCd bits [63:32] receive Va. -/
  | wrm (e : Fin 64) (f : InstrFields)
  /-- WRH (R110): ACCd bits [71:64] receive Va[7:0]. -/
  | wrh (e : Fin 64) (f : InstrFields)
  /-- STS (R130): Vd receives the store-path result of ACCa with shift s. -/
  | sts (e : Fin 64) (f : InstrFields)
  /-- ACS_MAX (R140): Two max add-compare-select butterflies per lane, with their decisions shifted into TRACE. -/
  | acsMax (e : Fin 64) (f : InstrFields)
  /-- ACS_MIN (R140): Two min add-compare-select butterflies per lane, with their decisions shifted into TRACE. -/
  | acsMin (e : Fin 64) (f : InstrFields)
  /-- MOVE (R131): A register moves between register files. -/
  | move (e : Fin 64) (f : InstrFields)
  /-- MOVE_NOP (R132): MOVE with OP NOP performs only its memory slots. -/
  | moveNop (e : Fin 64) (f : InstrFields)
  /-- LDI (R131): A 32-bit immediate is loaded into a register of the named file. -/
  | ldi (e : Fin 64) (f : InstrFields)
  /-- NOP (R117): The CTRL NOP does nothing. -/
  | nop (e : Fin 64) (f : InstrFields)
  /-- BR (R135): An unconditional relative branch, which frees left repeat levels. -/
  | br (e : Fin 64) (f : InstrFields)
  /-- BRC (R118): A branch taken when the ANY, ALL or NONE condition over the enabled lanes' CF holds. -/
  | brc (e : Fin 64) (f : InstrFields)
  /-- REP (R133): Takes a repeat level with an immediate count, or skips the body when the count is 0. -/
  | rep (e : Fin 64) (f : InstrFields)
  /-- REPV (R133): Takes a repeat level with its count from Va of the lowest enabled lane. -/
  | repv (e : Fin 64) (f : InstrFields)
  /-- WAIT (R138): Stalls until every named transfer tag has retired. -/
  | wait (e : Fin 64) (f : InstrFields)
  /-- END (R146): Ends the task once every outstanding transfer has retired. -/
  | endTask (e : Fin 64) (f : InstrFields)
  /-- TRAP (R154): Raises the TRAP fault with its code. -/
  | trap (e : Fin 64) (f : InstrFields)
  /-- GETX (R143): Issues a far transfer into X memory. -/
  | getx (e : Fin 64) (f : InstrFields)
  /-- GETY (R143): Issues a far transfer into Y memory. -/
  | gety (e : Fin 64) (f : InstrFields)
  /-- PUTX (R675): Issues a far transfer from X memory, taking the bytes as they stand at issue. -/
  | putx (e : Fin 64) (f : InstrFields)
  /-- PUTY (R675): Issues a far transfer from Y memory, taking the bytes as they stand at issue. -/
  | puty (e : Fin 64) (f : InstrFields)
  /-- XFER_RETIRE (R145): A far transfer retires: GET data stands locally, or PUT data is accepted at the target, or an error answer arrives. -/
  | xferRetire (e : Fin 64) (tag : Fin 8) (err : Bool)
  /-- TASK_COMPLETE (R146): After END and the last retire, the digest is finalised and the completion is posted to SEQ. -/
  | taskComplete (e : Fin 64) (withAbort : Bool := false) (withFault : Bool := false)
  /-- PE_OVERRUN (R153): The task has spent PE_TASK_LIMIT cycles in RUN, which faults it with OVERRUN. -/
  | peOverrun (e : Fin 64)
  /-- PE_DRAIN_DONE (R148): All transfers of an aborted task have retired and the abort is acknowledged to SEQ. -/
  | peDrainDone (e : Fin 64)
  /-- PE_FAULT_RELEASE (R148): A FAULTED engine leaves FAULTED once its transfers have retired, and a fault completion is posted. -/
  | peFaultRelease (e : Fin 64)
  /-- SEQ_ENABLE_WRITE (R199): A write of SEQ_CTRL.ENABLE moves SEQ between OFF, ARMED and STOPPING. -/
  | seqEnableWrite (data : Word)
  /-- SEQ_START (R199): SEQ enters RUNNING at the start boundary and creates the first folios' tasks. -/
  | seqStart (k : Nat)
  /-- FOLIO_RELEASE (R167): PT reaches release(k): folio k is released, tasks are created and digests are handed to REDUN. -/
  | folioRelease (k : Nat)
  /-- FEED_SIGNAL (R171): A feed signals a folio, which sets its present bit and decrements the pending counts of its successors. -/
  | feedSignal (feed : Fin 2048) (k : Nat)
  /-- DEADLINE (R180): PT reaches D(k): incomplete tasks of the folio are aborted or cancelled and substituted. -/
  | deadline (k : Nat)
  /-- SEQ_CANCEL (R196): The SEQ_CMD CANCEL command cancels or aborts a phrase's task and substitutes it. -/
  | seqCancel (phrase : Fin 4096) (slot : Fin 4)
  /-- TABLE_ECC (R201): An uncorrectable error in SEQ's task state substitutes the named task. -/
  | tableEcc (tag : Fin 16384)
  /-- MIX_ABORT (R213): An abort drops a queued mix task, or stops a running one at the next bus record boundary. -/
  | mixAbort (phrase : Fin 4096) (slot : Fin 4)
  /-- SRC_CFG_WRITE (R257): A write of SRC_CHn_CFG enables or disables an SRC channel. -/
  | srcCfgWrite (n : Fin 64) (data : Word)
  /-- SRC_NOLOCK (R247): 100 ms pass in ACQUIRE without lock and SRC_NOLOCK is raised. -/
  | srcNolock (n : Fin 64)
  /-- SRC_GROUP_FEED (R248): Every enabled IN channel of a group has written folio k and the group feed is signalled. -/
  | srcGroupFeed (g : Fin 8) (k : Nat)
  /-- CLAUSE_SUBMIT (R266): The CLAUSE_CMD SUBMIT command takes an image into a slot for validation, or is refused with BUSY. -/
  | clauseSubmit (m : RegMaster) (slot : Fin 16)
  /-- CLAUSE_ADMIT (R269): Validation ends: the clause is admitted and reserves, or is refused with a code. -/
  | clauseAdmit (slot : Fin 16)
  /-- CLAUSE_BANK_FREE (R282): An idle copy that a WAIT_BANK slot needs is freed, and the slot moves to FILLING. -/
  | clauseBankFree (slot : Fin 16)
  /-- CLAUSE_FILL_DONE (R267): Filling ends and the slot becomes ARMED or PREPARED, or commits when IMMEDIATE. -/
  | clauseFillDone (slot : Fin 16)
  /-- CLAUSE_CONFIRM (R288): The CLAUSE_CMD CONFIRM command arms a PREPARED two-phase clause. -/
  | clauseConfirm (slot : Fin 16)
  /-- CLAUSE_ABORT (R289): The CLAUSE_CMD ABORT command unwinds a slot before its freeze point. -/
  | clauseAbort (slot : Fin 16)
  /-- CLAUSE_ARM_DEADLINE (R267): The arm deadline passes and a slot that is not ARMED expires or is refused with TOO_LATE. -/
  | clauseArmDeadline (slot : Fin 16)
  /-- CLAUSE_FREEZE (R267): At C − 2 µs an ARMED slot becomes FROZEN. -/
  | clauseFreeze (slot : Fin 16)
  /-- CLAUSE_COMMIT (R283): At C every record of the clause takes effect together and SEQ is informed. -/
  | clauseCommit (slot : Fin 16)
  /-- CLAUSE_UNWIND_DONE (R267): An unwind completes and the slot reaches EXPIRED, REFUSED or ABORTED. -/
  | clauseUnwindDone (slot : Fin 16)
  /-- CLAUSE_MIRROR_DONE (R280): The last mirror pass is complete and the slot reaches DONE. -/
  | clauseMirrorDone (slot : Fin 16)
  /-- DRAIN_TIMEOUT (R281): At C + 2 µs the frames still holding a retiring entry version are discarded. -/
  | drainTimeout (table : Bool)
  /-- LANE_EN_WRITE (R310): A write of FAB_LANE_CTRL.EN starts a lane's bring-up or turns the lane OFF. -/
  | laneEnWrite (n : Fin 10) (data : Word)
  /-- LANE_LOOP_WRITE (R318): A write of LOOP puts the lane into TEST or returns it to training. -/
  | laneLoopWrite (n : Fin 10) (data : Word)
  /-- LANE_RETRAIN (R310): The RETRAIN command takes a lane from UP back to AN or TRAIN. -/
  | laneRetrain (n : Fin 10)
  /-- AN_COMPLETE (R310): Clause 73 auto-negotiation completes and the lane enters TRAIN. -/
  | anComplete (n : Fin 10)
  /-- TRAIN_READY (R310): The local and partner receivers report ready and the lane enters ALIGN. -/
  | trainReady (n : Fin 10) (precode : Bool)
  /-- LANE_UP (R310): A lane achieves block and codeword lock within skew and enters UP; the port may come UP. -/
  | laneUp (n : Fin 10)
  /-- TRAIN_FAIL (R310): TIMEOUT_MS expires in AN or TRAIN and the lane enters BACKOFF. -/
  | trainFail (n : Fin 10)
  /-- ALIGN_TIMEOUT (R310): 10 ms pass in ALIGN without UP and the lane enters BACKOFF. -/
  | alignTimeout (n : Fin 10) (skew : Bool)
  /-- LANE_DOWN (R310): Loss of signal or of block lock, or degradation, takes a lane out of UP, with the port and queued frames following. -/
  | laneDown (n : Fin 10) (cause : DownCause)
  /-- BACKOFF_EXPIRY (R310): 100 ms of BACKOFF expire and the lane returns to AN or TRAIN. -/
  | backoffExpiry (n : Fin 10)
  /-- FEC_WINDOW (R316): A 1 ms FEC window ends and DEGRADED is set or cleared. `prbs` are the bit errors of the window in PRBS31
  mode (R318), `signal` is the receive signal at its end (R345). -/
  | fecWindow (n : Fin 10) (corr : Nat) (uncorr : Nat) (sym : Nat) (prbs : Nat := 0) (signal : Bool := true)
  /-- FAB_PORTMAP_WRITE (R306): A write of FAB_PORTMAP regroups lanes into ports, or is refused with FAB_CONFIG_ERR. -/
  | fabPortmapWrite (data : Word)
  /-- WAKE_SEND (R338): The FAB_WAKE_CTRL SEND command starts the wake pattern on a lane, or is refused. -/
  | wakeSend (data : Word)
  /-- WAKE_SENT (R338): The 128 µs wake pattern completes and the lane enters BACKOFF or OFF. -/
  | wakeSent (n : Fin 10)
  /-- WAKE_DETECT (R340): A detector recognises a wake pattern and resets the device. -/
  | wakeDetect (n : Fin 10)
  /-- FRAME_RECEIVE (R321): A frame received on a MAC is checked, filtered, learned, forwarded and delivered locally. -/
  | frameReceive (p : Fin 8) (f : RxFrame)
  /-- PAUSE_TIMER_EXPIRY (R335): The pause timer reaches zero and transmission may resume. -/
  | pauseTimerExpiry (p : Fin 8)
  /-- PAUSE_SEND (R336): The MAC_PAUSE_TX SEND command sends one PAUSE frame after the frame in transmission. -/
  | pauseSend (p : Fin 8) (data : Word)
  /-- FRAME_TRANSMIT (R385): A queued frame starts on an egress and its fields are stamped as its bytes leave. -/
  | frameTransmit (p : Fin 8)
  /-- RX_WINDOW_CLOSE (R373): A receive entry's acceptance window closes: the selection is fixed, or the slot is filled as missed. -/
  | rxWindowClose (entry : Fin 8192) (folio : Nat)
  /-- MAC_AGING_SWEEP (R381): The aging sweep visits an entry, clearing HIT or invalidating the entry. -/
  | macAgingSweep (index : Fin 16384) (hit : Bool)
  /-- TX_STALE (R387): A queued frame has not started within STALE_NS and is discarded. -/
  | txStale (p : Fin 8) (timed : Bool)
  /-- XBAR_GRANT (R407): A target grants a waiting transaction by tier and mode. -/
  | xbarGrant (t : Fin 36)
  /-- XBAR_TRANSACTION_DONE (R409): A transaction's last beat is answered and its tag is freed. -/
  | xbarTransactionDone (t : Fin 36) (linkErr : Bool)
  /-- BE_STARVE (R415): A best-effort request has waited more than 100 µs at a target. -/
  | beStarve (t : Fin 36)
  /-- BW_RESTORE (R414): DELIV_t has stayed at or above G_t for 16 ms and the channel returns to NORMAL. -/
  | bwRestore (c : Fin 2)
  /-- DRAM_EN_WRITE (R424): A write of DRAM_CTRL.EN starts INIT or turns the channels OFF. -/
  | dramEnWrite (data : Word)
  /-- DRAM_INIT_DONE (R424): The power-up sequence completes and the channels enter TRAIN or FAILED. -/
  | dramInitDone (gbit0 : BitVec 8) (gbit1 : BitVec 8) (x16 : Bool)
  /-- DRAM_TRAIN_DONE (R424): Training passes, or fails and steps the rate down. -/
  | dramTrainDone (c : Fin 2) (pass : Bool)
  /-- DRAM_REFRESH_POLL (R426): Every 16 ms the refresh multiplier is read and F is updated. -/
  | dramRefreshPoll (c : Fin 2) (mult : BitVec 2)
  /-- QUIRE_CFG_WRITE (R430): A write of QUIRE_CFGq configures, enables or disables a quire. -/
  | quireCfgWrite (q : Fin 16384) (data : Word)
  /-- QUIRE_BASE_WRITE (R429): A write of QUIRE_BASEq takes effect only while EN is 0. -/
  | quireBaseWrite (q : Fin 16384) (data : Word)
  /-- QUIRE_PUSH (R431): A hardware producer pushes an entry, which is accepted or refused. `sw` are the staging windows, with
  their QUIRE_SWn_CMD, that push in the same cycle (R432). -/
  | quirePush (q : Fin 16384) (pushes : List (Nat × List Byte)) (withPop : Bool) (sw : List (Fin 3 × Word) := [])
  /-- QUIRE_POP (R431): A hardware consumer pops the head entry, or the pop returns empty. `sw` are the staging windows, with
  their QUIRE_SWn_CMD, that pop in the same cycle (R432). -/
  | quirePop (q : Fin 16384) (pops : List (Nat × Nat)) (sw : List (Fin 3 × Word) := [])
  /-- QUIRE_SW_PUSH (R435): The staging-window PUSH command copies DATA into a quire. -/
  | quireSwPush (n : Fin 3) (data : Word)
  /-- QUIRE_SW_POP (R435): The staging-window POP command copies the head entry into DATA. -/
  | quireSwPop (n : Fin 3) (data : Word)
  /-- EPOCH_ADOPT (R459): PT reaches EFF and the adopted claim takes effect. `drop` names what drops the claim in the same
  cycle, if anything does: 0 a command, 1 the tally, 2 the sentinel (R460). -/
  | epochAdopt (drop : Option (Fin 3))
  /-- RECLAIM (R452): The REDUN_CMD RECLAIM command restores the solo claim. -/
  | reclaim (withDrop : Bool)
  /-- FELT_BLOCK_RECEIVE (R469): A felt block arrives, is CRC-checked and joins its sheet or track record. -/
  | feltBlockReceive (lane : Fin 2) (bytes : List Byte)
  /-- DECKLE_ARBITRATION (R481): A shared port's deckle window decides which unit drives the data that follows. -/
  | deckleArbitration (p : Fin 32) (partner : Option (BitVec 5)) (ack : Bool)
  /-- SAP_CTRL_WRITE (R509): A write of SAP_CTRL enables or disables a port, or is refused while EN is 1. -/
  | sapCtrlWrite (p : Fin 32) (data : Word)
  /-- SAP_FRAME (R505): A serial frame is received and judged good or not good, with the port state following. -/
  | sapFrame (p : Fin 32) (f : SapFrame)
  /-- SAP_RX_MISS (R501): The block deadline passes, so the missing samples are zero-filled and the feed is signalled. -/
  | sapRxMiss (p : Fin 32) (k : Nat)
  /-- SAP_LOST (R505): No BCLK edge arrives for 1 µs, or no start edge for two frame periods, and the port enters LOST. -/
  | sapLost (p : Fin 32) (edge : Bool)
  /-- AIN_ENABLE_WRITE (R522): A write of AIN_CTRL.EN = 1 enables the inputs and starts a calibration pass. -/
  | ainEnableWrite (data : Word)
  /-- AIN_BLOCK (R512): All 16 input blocks of a folio are written and the AIN feed is signalled. -/
  | ainBlock (k : Nat) (samples : List (List Word)) (overload : BitVec 16)
  /-- AIN_GAIN_SWITCH (R513): The preamplifier switches gain at a zero crossing after C, or at C + 2 folios. -/
  | ainGainSwitch (c : Fin 16)
  /-- AIN_PHANTOM_MUTE_END (R515): The 300 ms phantom mute ends and the samples ramp back. -/
  | ainPhantomMuteEnd (c : Fin 16)
  /-- AIN_CAL_STEP_DONE (R519): A calibration step completes, its record is kept or refused, and the modulators rotate. -/
  | ainCalStepDone (r : CalRecord)
  /-- LOAD_CLASS_EVAL (R523): Every 125 ms the load class is evaluated, which may make records STALE. `taken0` and `taken1` say
  how many samples of the folio released last the two class-D sinks have sent by then. -/
  | loadClassEval (taken0 taken1 : Fin 9)
  /-- AOUT_CFG_WRITE (R526): A write of AOUT_OUTo_CFG enables, disables or mutes an output. -/
  | aoutCfgWrite (o : Fin 14) (data : Word)
  /-- AOUT_BIAS_DONE (R526): The bias time is over and the output ramps up or mutes. -/
  | aoutBiasDone (o : Fin 14)
  /-- AOUT_BIAS_DOWN_DONE (R526): The bias ramp-down is over and the output enters OFF. -/
  | aoutBiasDownDone (o : Fin 14)
  /-- AOUT_OVERCURRENT (R530): A class-D output exceeds 3.5 A for 200 ns and enters FAULT. -/
  | aoutOvercurrent (spk : Fin 2)
  /-- AOUT_FAULT_RETRY (R526): 100 ms in an unlatched FAULT pass and the output returns to MUTED. -/
  | aoutFaultRetry (spk : Fin 2)
  /-- CLASSD_CLOCK_WINDOW (R528): An 8 µs measurement of OUT3 mutes or unmutes the class-D outputs. -/
  | classdClockWindow (missing : Bool) (dev : Int)
  /-- JACK_DECLARE (R531): A jack reading stays stable for its debounce time and insertion or removal is declared. -/
  | jackDeclare (n : Fin 4) (unmute : Option (Fin 14))
  /-- PVDD_THRESHOLD (R653): PVDD crosses its under- or over-voltage threshold, holding or releasing the bridges. -/
  | pvddThreshold (ev : PvddEvent)
  /-- LAMP_PERIOD_START (R533): A lamp PWM period starts, applying DUTY and possibly a stretch. -/
  | lampPeriodStart (l : Fin 8) (j : Nat)
  /-- LAMP_OFF_EDGE (R533): The on-time of a lamp period ends and the sink turns off. -/
  | lampOffEdge (l : Fin 8)
  /-- HADC_URGENT (R540): A write of HADC_URGENT queues a software urgent conversion. -/
  | hadcUrgent (input : BitVec 6)
  /-- HADC_CONVERSION_DONE (R539): A conversion completes and its result is written with limit checks. -/
  | hadcConversionDone (pos : Fin 8) (raw : BitVec 20)
  /-- HADC_SLICE_CAL_DONE (R543): A slice finishes its 2 ms calibration and becomes the spare. -/
  | hadcSliceCalDone (r : CalRecord)
  /-- EVGG_FORCE_WRITE (R555): A write of EVGg_FORCE raises the named sources without a tally reaction. -/
  | evggForceWrite (g : Fin 10) (data : Word)
  /-- EVGG_CAUSE_CLEAR (R556): A W1C write clears cause bits. -/
  | evggCauseClear (g : Fin 10) (data : Word) (raised : Word)
  /-- TALLY_FORCE_WRITE (R555): A write of TALLY_FORCEw raises faults for the tally and raises FORCED. `raised` lists those
  of them that their conditions raise in the same cycle, with word 3 (R564). -/
  | tallyForceWrite (w : Fin 6) (data : Word) (raised : List (Fin 32 × Word) := [])
  /-- TALLY_STICKY_CLEAR (R562): A W1C write of TALLY_STICKYw returns faults to CLEAR. `raised` and `forced` give the faults
  that a condition or a force raises in the same cycle (R564). -/
  | tallyStickyClear (w : Fin 6) (data : Word) (raised : Word) (forced : Word := 0)
  /-- GRACE_EXPIRY (R562): A fault's grace timer expires and its action is ordered. -/
  | graceExpiry (n : Fin 192) (cleared : Bool)
  /-- BOOT_START (R595): BOOT leaves HELD once the PLL is locked, memories are cleared and the ledger is read. -/
  | bootStart (ms : Nat)
  /-- BOOT_DISCOVER_DONE (R580): SFDP discovery finishes and the first slot is tried, or BOOT enters RECOVERY. -/
  | bootDiscoverDone (r : Sfdp) (ms : Nat)
  /-- BOOT_SLOT_DONE (R596): A slot's checks and loading finish: BOOT releases, falls back or enters RECOVERY. -/
  | bootSlotDone (readErr : Bool) (ms : Nat)
  /-- FLASH_ERASE (R602): The BOOT_CMD FLASH_ERASE command erases sectors, or is refused on the booted slot. -/
  | flashErase (m : RegMaster)
  /-- FLASH_PROGRAM (R602): The BOOT_CMD FLASH_PROGRAM command programs flash from vat memory. -/
  | flashProgram (m : RegMaster)
  /-- FLASH_READ (R613): The BOOT_CMD FLASH_READ command reads flash into vat memory. -/
  | flashRead (m : RegMaster)
  /-- FLASH_DONE (R610): A flash command completes or fails. -/
  | flashDone (result : FlashResult)
  /-- VERIFY_SLOT (R603): The BOOT_CMD VERIFY_SLOT command starts the verification of a slot. -/
  | verifySlot (m : RegMaster)
  /-- SLOT_VERIFIED (R603): Verification completes, VERIFIED is set and same-major firmware is staged, or UPDATE_FAIL is raised. -/
  | slotVerified (readErr : Bool)
  /-- SET_PREFERRED (R613): The BOOT_CMD SET_PREFERRED command writes a verified slot as preferred in the ledger. -/
  | setPreferred (m : RegMaster)
  /-- CLEAR_ATTEMPTS (R597): The BOOT_CMD CLEAR_ATTEMPTS command clears a slot's ATTEMPTS. -/
  | clearAttempts (m : RegMaster)
  /-- KEY_PROGRAM (R592): The BOOT_CMD KEY_PROGRAM command writes a public key into an empty key slot. -/
  | keyProgram (m : RegMaster)
  /-- KEY_REVOKE (R592): The BOOT_CMD KEY_REVOKE command revokes a key, unless no usable key would remain. -/
  | keyRevoke (m : RegMaster)
  /-- REBOOT (R609): The BOOT_CMD REBOOT command drops the claim, holds the outputs and schedules a device reset. -/
  | reboot (m : RegMaster)
  /-- RETRY (R595): The BOOT_CMD RETRY command restarts boot from RECOVERY. -/
  | retry (m : RegMaster) (ms : Nat)
  /-- BOOT_CONFIRM (R597): The BOOT_CMD CONFIRM command clears the booted slot's ATTEMPTS. -/
  | bootConfirm (m : RegMaster)
  /-- SEAL_START (R600): A START write of a master submits a host seal job. -/
  | sealStart (n : Fin 3) (data : Word) (m : RegMaster := .host)
  /-- LEDGER_WRITE (R591): A write to the ledger is served, or is refused in the protected area with LEDGER_WRITE_ERR. -/
  | ledgerWrite (m : Master) (offset : BitVec 23) (data : List Byte)
  /-- HOST_READ (R622): A host read request is served locally or relayed, or is answered with an error. It has `nw` words, each
  with its byte enables (all of them where none are given); a quad-SPI opcode gives the words itself. -/
  | hostRead (via : HostPath) (nw : Nat) (be : List (BitVec 4))
  /-- HOST_WRITE (R622): A host write request is served locally or relayed, or is answered with an error. -/
  | hostWrite (via : HostPath) (data : List Word) (be : List (BitVec 4))
  /-- QSPI_CS_RISE (R618): HQ_CS_N rises early, which cancels an incomplete write or discards read data. -/
  | qspiCsRise (addr : BitVec 40) (write : Bool) (issued : Nat)
  /-- RELAY_TIMEOUT (R628): No response arrives within TIMEOUT_US and the host receives cause 5. -/
  | relayTimeout (tag : BitVec 8)
  /-- RELAY_SUMMARY_LOST (R629): 4 ms pass without a SUMMARY from a valid index, so its LOST and summary bits are set. -/
  | relaySummaryLost (d : Fin 64)
  /-- KICK (R633): A processor's own KICK write restarts its watchdog. -/
  | kick (m : RegMaster) (p : Fin 2)
  /-- CPA_WDOG (R633): TIMEOUT_MS passes without KICK and the watchdog fault is raised. -/
  | cpaWdog (p : Fin 2) (recent : Bool)
  /-- CPA_TRAP (R633): A control processor takes an unrecoverable exception. -/
  | cpaTrap (p : Fin 2) (code : BitVec 8) (addr : Word)
  /-- HOST_LINK_DOWN (R631): The PCIe link leaves L0 for a link-down state. -/
  | hostLinkDown (cause : BitVec 3)
  /-- ILLEGAL_INSTRUCTION (R117): An engine issues an instruction with an unassigned CLASS or OP code and the task faults with ILLEGAL. -/
  | illegalInstruction (e : Fin 64) (f : InstrFields)
  /-- FRAME_TRANSMIT_END (R385): The last byte of a frame leaves an egress MAC, which counts TX_OK, frees the egress for the next frame and releases the descriptor after its last egress. -/
  | frameTransmitEnd (p : Fin 8)
  /-- HOST_LINK_UP (R631): The PCIe host link completes training and enters L0, which sets HOST_STATUS.LINK. -/
  | hostLinkUp (speed : BitVec 3) (width : BitVec 2)
  /-- JD_PIN_CHANGE (R531): The level on a JD pin crosses a threshold, which updates the raw reading and restarts the debounce interval. -/
  | jdPinChange (n : Fin 4) (mv : Nat)
  /-- RESET_N_FALL (R651): RESET_N goes low: every domain is reset, dormant mode ends and FAB_WAKE_STATUS is cleared. It stays
  low for `ns` nanoseconds at least (R666). -/
  | resetNFall (ns : Nat := 10000)
  /-- PWRGOOD_FALL (R651): PWRGOOD goes low while RESET_N is high: the device resets as if RESET_N had gone low. -/
  | pwrgoodFall
  /-- SYS_LOCK (R81): The system PLL locks, SYS_LOCK becomes 1 and the tally heartbeat starts. -/
  | sysLock
  /-- SYSPLL_LOCK_TIMEOUT (R569): The system PLL has not locked within 2 ms: the sentinel sets CAUSE 3 and ALERT and keeps the device held. -/
  | syspllLockTimeout
  /-- SYSPLL_UNLOCK (R100): The system PLL loses lock after start-up and SYSPLL_UNLOCK is raised. -/
  | syspllUnlock
  /-- MEMORY_CLEAR_DONE (R405): Hardware finishes clearing vat memory and the engine X, Y and P memories to zero with valid ECC. -/
  | memoryClearDone
  /-- SERVO_RESET (R54): The TIME_CMD SERVO_RESET command returns the servo to FREE with P, I and adj set to 0. -/
  | servoReset
  /-- SERVO_ADJ_APPLY (R49): 20 ns after the sample, P, I and adj take effect in TIME_SERVO_ADJ and TIME_INCR_EFF. -/
  | servoAdjApply
  /-- SERVO_HOLDOVER_TIMEOUT (R54): No offset sample has arrived for HOLDOVER_MS, so the servo enters HOLDOVER and holds adj. -/
  | servoHoldoverTimeout
  /-- AUDIO_STOP (R56): AUDIO_ACTIVE returns to 0 at the first folio boundary after AUDIO_RUN has been written 0. -/
  | audioStop
  /-- EVENT_RECORD_PUSH (R67): PT reaches a record's gloss plus 2 µs and the held record is pushed to the host event quire in gloss order. -/
  | eventRecordPush
  /-- MIX_TASK_START (R212): MIX takes the next handed-over mix task from its queue and starts executing it. -/
  | mixTaskStart
  /-- MIX_TASK_COMPLETE (R232): MIX finishes a mix task and posts its completion and digest. -/
  | mixTaskComplete
  /-- DORMANT_ENTER (R337): The FAB_WAKE_CTRL ENTER command enters dormant mode, or is refused. -/
  | dormantEnter
  /-- CONTROL_TX_DESCRIPTOR (R392): A control transmit descriptor is taken from its quire and its frame is enqueued. -/
  | controlTxDescriptor
  /-- DRAM_RETRAIN (R424): The RETRAIN command retrains both channels from READY. -/
  | dramRetrain
  /-- EPOCH_RECEIVE (R458): An accepted EPOCH frame acts as a beacon, schedules an adoption, or is ignored. -/
  | epochReceive
  /-- SWAP_REFUSED_RECEIVE (R465): A SWAP_REFUSED frame ends the outstanding request and starts the hold-off. -/
  | swapRefusedReceive
  /-- REF_LOST (R461): 3 folios pass without an accepted EPOCH and the watch enters REF_LOST. -/
  | refLost
  /-- SWAP (R464): The REDUN_CMD SWAP command opens a swap request, or is refused locally. -/
  | swap
  /-- DROP (R451): The REDUN_CMD DROP command drops the claim to zero. -/
  | drop
  /-- SWAP_TIMEOUT (R465): 8 folios pass without an answer and the request ends. -/
  | swapTimeout
  /-- HOLDOFF_EXPIRY (R465): The 4-folio hold-off after a refusal expires. -/
  | holdoffExpiry
  /-- AIN_SYNC (R516): A synchronising reset restarts every modulator at the next folio boundary after its cause. -/
  | ainSync
  /-- AIN_CAL_STEP (R520): A calibration step starts on the next channel in order. -/
  | ainCalStep
  /-- HADC_SLOT (R541): A 125 ns conversion slot opens for an urgent request or the next sequence entry. -/
  | hadcSlot
  /-- HADC_SLICE_SWAP (R542): Every 125 ms the next slice is swapped out for calibration. -/
  | hadcSliceSwap
  /-- ESCALATION_ACTION (R566): The sentinel carries out an ordered action: claim drop, hold, subsystem reset or device reset. -/
  | escalationAction
  /-- TALLY_SILENT (R569): No tally heartbeat has arrived for WATCH_US, so the sentinel starts RESET_DEVICE on its own. -/
  | tallySilent
  /-- HOLD_END (R529): The hold time ends and outputs ramp to zero. -/
  | holdEnd
  /-- DEVICE_RESET (R571): At HOLD_MS + 50 ms the device resets as at power-up and boot runs. -/
  | deviceReset
  /-- SEAL_JOB_DONE (R601): A seal job finishes, writes its digest and verifies its signature, or is refused. -/
  | sealJobDone
  /-- MSI_ACK (R616): A write of HOST_MSI.ACK re-arms and sends another MSI when the summary is non-zero. -/
  | msiAck
  /-- RELAY_REQUEST_RECEIVE (R627): A remote device serves a received relay request and answers. -/
  | relayRequestReceive
  /-- RELAY_RESPONSE_RECEIVE (R626): A relay response with a matching TAG completes its host request. -/
  | relayResponseReceive
  /-- RELAY_SUMMARY_PERIODIC (R629): Every 1 ms an accepting device sends SUMMARY to the relay master. -/
  | relaySummaryPeriodic
  /-- RELAY_SUMMARY_RECEIVE (R629): A received SUMMARY updates GLOBAL_REMOTE_SUMMARY and clears LOST. -/
  | relaySummaryReceive
  /-- TU_CLK_TICK (R28): On each TU_CLK tick TIME_NOW advances by TIME_INCR_EFF and carries into seconds at 10⁹ ns. -/
  | tuClkTick
  deriving DecidableEq, Repr

end Sys2Proof
end

