-- ==== Sys2Proof/WellFormed.lean ====
section
/-! DEFINITION. When a command is well formed: the operands lie in the ranges the manual gives the command. -/

namespace Sys2Proof

/-- The entry sizes of a quire (R447). -/
def isEntrySize (n : Nat) : Bool := n == 8 || n == 16 || n == 32 || n == 64

/-- Register accesses are aligned words (R7); quire entries have a size of R447; an input block has 8 samples of 16 channels
(R512); a host request has 1 to 64 words (R621); a felt block has a 16-byte header (R466); a ledger write has 1 to 4 096 bytes
(R401); link fields have the codes of R636, R641 and R445. -/
def Instr.wellFormed (i : Instr) : Bool :=
  match i with
  | .resetNRise _ _ _ => true
  | .registerWrite _ addr _ => addr.toNat % 4 == 0
  | .wideReadWord0 _ addr => addr.toNat % 4 == 0
  | .wideReadHigh _ addr => addr.toNat % 4 == 0
  | .wideWriteHigh _ addr _ => addr.toNat % 4 == 0
  | .wideWriteWord0 _ addr _ => addr.toNat % 4 == 0
  | .timeIncrNomWrite _ _ => true
  | .step _ => true
  | .set _ => true
  | .timeCtrlWrite _ => true
  | .servoCtrlWrite _ => true
  | .servoOffsetSample _ _ => true
  | .folioBoundary _ _ _ => true
  | .audioStart _ _ _ => true
  | .pulseArm _ _ => true
  | .pulseStop _ _ => true
  | .pulseEdge _ => true
  | .pulseWidthEnd _ => true
  | .captureEdge _ _ => true
  | .synthSerdesCtrlWrite _ => true
  | .spllLock _ => true
  | .spllUnlock _ => true
  | .synthCtrlWrite _ _ => true
  | .update _ => true
  | .synthSched _ => true
  | .synthCancel _ => true
  | .synthScheduledUpdate _ => true
  | .synthLock _ _ => true
  | .synthUnlock _ _ => true
  | .synthFastLoss _ _ => true
  | .synthFilterErr _ _ => true
  | .peEnableWrite _ _ => true
  | .peAbort _ _ => true
  | .clearFault _ => true
  | .peMemoryWrite _ addr _ _ => addr.toNat % 4 == 0 && decide (0x04000000 ≤ addr.toNat) && decide (addr.toNat < 0x05000000)
  | .taskDispatch _ => true
  | .mpy _ _ => true
  | .mac _ _ => true
  | .msu _ _ => true
  | .add _ _ => true
  | .sub _ _ => true
  | .adds _ _ => true
  | .subs _ _ => true
  | .negs _ _ => true
  | .abss _ _ => true
  | .min _ _ => true
  | .max _ _ => true
  | .and _ _ => true
  | .or _ _ => true
  | .xor _ _ => true
  | .not _ _ => true
  | .shl _ _ _ => true
  | .shls _ _ _ => true
  | .shr _ _ _ => true
  | .shrl _ _ _ => true
  | .cmpeq _ _ => true
  | .cmplt _ _ => true
  | .cmple _ _ => true
  | .sel _ _ => true
  | .clr _ _ => true
  | .lda _ _ => true
  | .adda _ _ => true
  | .suba _ _ => true
  | .mova _ _ => true
  | .nega _ _ => true
  | .shla _ _ => true
  | .shra _ _ => true
  | .rdl _ _ => true
  | .rdm _ _ => true
  | .rdh _ _ => true
  | .wrl _ _ => true
  | .wrm _ _ => true
  | .wrh _ _ => true
  | .sts _ _ => true
  | .acsMax _ _ => true
  | .acsMin _ _ => true
  | .move _ _ => true
  | .moveNop _ _ => true
  | .ldi _ _ => true
  | .nop _ _ => true
  | .br _ _ => true
  | .brc _ _ => true
  | .rep _ _ => true
  | .repv _ _ => true
  | .wait _ _ => true
  | .endTask _ _ => true
  | .trap _ _ => true
  | .getx _ _ => true
  | .gety _ _ => true
  | .putx _ _ => true
  | .puty _ _ => true
  | .xferRetire _ _ _ => true
  | .taskComplete _ _ _ => true
  | .peOverrun _ => true
  | .peDrainDone _ => true
  | .peFaultRelease _ => true
  | .seqEnableWrite _ => true
  | .seqStart _ => true
  | .folioRelease _ => true
  | .feedSignal _ _ => true
  | .deadline _ => true
  | .seqCancel _ _ => true
  | .tableEcc _ => true
  | .mixAbort _ _ => true
  | .srcCfgWrite _ _ => true
  | .srcNolock _ => true
  | .srcGroupFeed _ _ => true
  | .clauseSubmit _ _ => true
  | .clauseAdmit _ => true
  | .clauseBankFree _ => true
  | .clauseFillDone _ => true
  | .clauseConfirm _ => true
  | .clauseAbort _ => true
  | .clauseArmDeadline _ => true
  | .clauseFreeze _ => true
  | .clauseCommit _ => true
  | .clauseUnwindDone _ => true
  | .clauseMirrorDone _ => true
  | .drainTimeout _ => true
  | .laneEnWrite _ _ => true
  | .laneLoopWrite _ _ => true
  | .laneRetrain _ => true
  | .anComplete _ => true
  | .trainReady _ _ => true
  | .laneUp _ => true
  | .trainFail _ => true
  | .alignTimeout _ _ => true
  | .laneDown _ _ => true
  | .backoffExpiry _ => true
  | .fecWindow _ _ _ _ _ _ => true
  | .fabPortmapWrite _ => true
  | .wakeSend _ => true
  | .wakeSent _ => true
  | .wakeDetect _ => true
  | .frameReceive _ _ => true
  | .pauseTimerExpiry _ => true
  | .pauseSend _ _ => true
  | .frameTransmit _ => true
  | .rxWindowClose _ _ => true
  | .macAgingSweep _ _ => true
  | .txStale _ _ => true
  | .xbarGrant _ => true
  | .xbarTransactionDone _ _ => true
  | .beStarve _ => true
  | .bwRestore _ => true
  | .dramEnWrite _ => true
  | .dramInitDone _ _ _ => true
  | .dramTrainDone _ _ => true
  | .dramRefreshPoll _ mult => decide (mult.toNat ≤ 2)
  | .quireCfgWrite _ _ => true
  | .quireBaseWrite _ _ => true
  | .quirePush _ pushes _ _ => !pushes.isEmpty && pushes.all (fun p => isEntrySize p.2.length)
  | .quirePop _ pops _ => !pops.isEmpty && pops.all (fun p => isEntrySize p.2)
  | .quireSwPush _ _ => true
  | .quireSwPop _ _ => true
  | .epochAdopt _ => true
  | .reclaim _ => true
  | .feltBlockReceive _ bytes => decide (16 ≤ bytes.length)
  | .deckleArbitration _ _ _ => true
  | .sapCtrlWrite _ _ => true
  | .sapFrame _ _ => true
  | .sapRxMiss _ _ => true
  | .sapLost _ _ => true
  | .ainEnableWrite _ => true
  | .ainBlock _ samples _ => samples.length == 16 && samples.all (fun b => b.length == 8)
  | .ainGainSwitch _ => true
  | .ainPhantomMuteEnd _ => true
  | .ainCalStepDone _ => true
  | .loadClassEval _ _ => true
  | .aoutCfgWrite _ _ => true
  | .aoutBiasDone _ => true
  | .aoutBiasDownDone _ => true
  | .aoutOvercurrent _ => true
  | .aoutFaultRetry _ => true
  | .classdClockWindow _ _ => true
  | .jackDeclare _ _ => true
  | .pvddThreshold _ => true
  | .lampPeriodStart _ _ => true
  | .lampOffEdge _ => true
  | .hadcUrgent _ => true
  | .hadcConversionDone _ _ => true
  | .hadcSliceCalDone _ => true
  | .evggForceWrite _ _ => true
  | .evggCauseClear _ _ _ => true
  | .tallyForceWrite _ _ _ => true
  | .tallyStickyClear _ _ _ _ => true
  | .graceExpiry _ _ => true
  | .bootStart _ => true
  | .bootDiscoverDone _ _ => true
  | .bootSlotDone _ _ => true
  | .flashErase _ => true
  | .flashProgram _ => true
  | .flashRead _ => true
  | .flashDone _ => true
  | .verifySlot _ => true
  | .slotVerified _ => true
  | .setPreferred _ => true
  | .clearAttempts _ => true
  | .keyProgram _ => true
  | .keyRevoke _ => true
  | .reboot _ => true
  | .retry _ _ => true
  | .bootConfirm _ => true
  | .sealStart _ _ _ => true
  | .ledgerWrite _ _ data => decide (1 ≤ data.length) && decide (data.length ≤ 4096)
  | .hostRead _ nw _ => decide (1 ≤ nw) && decide (nw ≤ 64)
  | .hostWrite _ data _ => decide (1 ≤ data.length) && decide (data.length ≤ 64)
  | .qspiCsRise _ _ issued => decide (issued ≤ 16)
  | .relayTimeout _ => true
  | .relaySummaryLost _ => true
  | .kick _ _ => true
  | .cpaWdog _ _ => true
  | .cpaTrap _ _ _ => true
  | .hostLinkDown cause => decide (1 ≤ cause.toNat) && decide (cause.toNat ≤ 3)
  | .illegalInstruction _ _ => true
  | .frameTransmitEnd _ => true
  | .hostLinkUp speed width => decide (1 ≤ speed.toNat) && decide (speed.toNat ≤ 4) && decide (1 ≤ width.toNat) && decide (width.toNat ≤ 2)
  | .jdPinChange _ _ => true
  | .resetNFall _ => true
  | .pwrgoodFall => true
  | .sysLock => true
  | .syspllLockTimeout => true
  | .syspllUnlock => true
  | .memoryClearDone => true
  | .servoReset => true
  | .servoAdjApply => true
  | .servoHoldoverTimeout => true
  | .audioStop => true
  | .eventRecordPush => true
  | .mixTaskStart => true
  | .mixTaskComplete => true
  | .dormantEnter => true
  | .controlTxDescriptor => true
  | .dramRetrain => true
  | .epochReceive => true
  | .swapRefusedReceive => true
  | .refLost => true
  | .swap => true
  | .drop => true
  | .swapTimeout => true
  | .holdoffExpiry => true
  | .ainSync => true
  | .ainCalStep => true
  | .hadcSlot => true
  | .hadcSliceSwap => true
  | .escalationAction => true
  | .tallySilent => true
  | .holdEnd => true
  | .deviceReset => true
  | .sealJobDone => true
  | .msiAck => true
  | .relayRequestReceive => true
  | .relayResponseReceive => true
  | .relaySummaryPeriodic => true
  | .relaySummaryReceive => true
  | .tuClkTick => true

end Sys2Proof
end

