-- ==== Sys2Proof/Config.lean ====
section
/-! DEFINITION. What an implementation fixes, and the values the manual leaves open: constants without a body, so that
nothing can be proved about the value of one. -/

namespace Sys2Proof.Config

/-- The variant of the part: true for SL8420-AI, false for SL8420-AC (R2, R639; log entry 2). -/
opaque isAI : Bool

/-- The free values (log entry 1): the n-th value the manual leaves open in a run. -/
opaque free : Nat → Nat

/-- SHA-384, the digest of the seal engine (R599); the manual cites it and does not state it (log entry 4). -/
opaque sha384 : List Byte → List Byte

/-- ECDSA P-384 verification: public key, digest, signature (R592, R599; log entry 4). -/
opaque verify : List Byte → List Byte → List Byte → Bool

/-- Where BOOT stages the ream and the chosen leaf in vat memory (R596): the layout is Caziura's (log entry 25). -/
opaque reamStage : Nat

/-- Where BOOT stages the chosen leaf. -/
opaque leafStage : Nat

/-- The coefficient ROM H of the sample-rate converters, 131 073 words (R246; log entry 5). -/
opaque srcRom : Nat → Word

end Sys2Proof.Config
end

