-- ==== Sys2Proof/Machine/Bits.lean ====
section
/-! DEFINITION. Bit fields, signed values, saturation and byte order. -/

namespace Sys2Proof

/-- The bits of a field, at their place. -/
def Field.mask (f : Field) : Word := BitVec.ofNat 32 ((2 ^ f.width - 1) <<< f.lo)

/-- The value of a field. -/
def Field.get (f : Field) (w : Word) : Nat := w.toNat >>> f.lo % 2 ^ f.width

/-- A word with a field replaced by the low bits of a value. -/
def Field.put (f : Field) (w : Word) (n : Nat) : Word :=
  (w &&& ~~~f.mask) ||| (BitVec.ofNat 32 (n <<< f.lo) &&& f.mask)

/-- A one-bit test of a word. -/
def testBit (w : Word) (i : Nat) : Bool := w.toNat.testBit i

/-- A word with one bit set. -/
def bitMask (i : Nat) : Word := BitVec.ofNat 32 (1 <<< i)

/-- 1 for true and 0 for false. -/
def bitOf (b : Bool) : Nat := if b then 1 else 0

/-- A bit of a mask set or cleared. -/
def maskSet {n : Nat} (m : BitVec n) (x : Nat) (b : Bool) : BitVec n :=
  if b then m ||| BitVec.ofNat n (1 <<< x) else m &&& ~~~BitVec.ofNat n (1 <<< x)

/-- The low n bits of a number. -/
def low (n v : Nat) : Nat := v % 2 ^ n

/-- The low n bits of an integer as a number. -/
def lowInt (n : Nat) (v : Int) : Nat := (v % (2 ^ n : Nat)).toNat

/-- A number of n bits read as two's complement. -/
def signed (n v : Nat) : Int := if v % 2 ^ n < 2 ^ (n - 1) then (v % 2 ^ n : Nat) else (v % 2 ^ n : Nat) - (2 ^ n : Nat)

/-- An integer limited to [lo, hi]. -/
def clampInt (lo hi v : Int) : Int := if v < lo then lo else if hi < v then hi else v

/-- An integer saturated to n bits of two's complement (R111, R672). -/
def satInt (n : Nat) (v : Int) : Int := clampInt (-(2 ^ (n - 1) : Nat)) ((2 ^ (n - 1) : Nat) - 1) v

/-- A word from an integer, modulo 2^32. -/
def wordOfInt (v : Int) : Word := BitVec.ofInt 32 v

/-- Division with the quotient rounded toward zero. -/
def truncDiv (a b : Int) : Int := Int.tdiv a b

/-- The bytes of a number, least significant first (R7). -/
def leBytes : Nat → Nat → List Byte
  | 0, _ => []
  | n + 1, v => BitVec.ofNat 8 v :: leBytes n (v / 256)

/-- The number that bytes spell, least significant first. -/
def leNat : List Byte → Nat
  | [] => 0
  | b :: bs => b.toNat + 256 * leNat bs

/-- The bytes of a number, most significant first, for the fields of frames. -/
def beBytes (n v : Nat) : List Byte := (leBytes n v).reverse

/-- The number that bytes spell, most significant first. -/
def beNat (bs : List Byte) : Nat := leNat bs.reverse

/-- The bytes of a word in memory. -/
def wordBytes (w : Word) : List Byte := leBytes 4 w.toNat

/-- The word that the first four bytes spell. -/
def wordOf (bs : List Byte) : Word := BitVec.ofNat 32 (leNat (bs.take 4))

/-- n bytes from position i of a list. -/
def slice (bs : List Byte) (i n : Nat) : List Byte := (bs.drop i).take n

/-- The words that bytes spell, for at most `fuel` words. -/
def wordsOf : Nat → List Byte → List Word
  | 0, _ => []
  | n + 1, bs => wordOf bs :: wordsOf n (bs.drop 4)

/-- Bytes replaced at a position of a list. -/
def patch (bs : List Byte) (i : Nat) (new : List Byte) : List Byte :=
  bs.take i ++ new ++ bs.drop (i + new.length)

/-- Bytes in reverse order of the bits, for nothing but counting: the number of ones in a number below 2^n. -/
def popCount : Nat → Nat → Nat
  | 0, _ => 0
  | n + 1, v => v % 2 + popCount n (v / 2)

/-- The numbers below n whose bit is set, in rising order. -/
def bitsSet (n v : Nat) : List Nat := (List.range n).filter (fun i => v.testBit i)

/-- A list sorted by a key, stable, by insertion. -/
def insertBy {α : Type} (lt : α → α → Bool) (x : α) : List α → List α
  | [] => [x]
  | y :: ys => if lt x y then x :: y :: ys else y :: insertBy lt x ys

/-- Insertion sort, stable: an element goes behind those it is not less than. -/
def sortBy {α : Type} (lt : α → α → Bool) (xs : List α) : List α := xs.foldl (fun acc x => insertBy lt x acc) []

end Sys2Proof
end

