-- ==== Sys2Proof/Machine/RegMap.lean ====
section
/-! DEFINITION. The register map: the address of every register (R637 and the block maps), the place of every
field, and for every word its reset value and the bits of each access code (R7, R9-R11). -/

namespace Sys2Proof.Machine

/-- One row of the map: words at base + i * s1 + j * s2 for i < n1 and j < n2. `reset` is the reset value of i = 0 and
`step` is added per i; `rw`, `w1c` (W1C and STK), `sh` and `rc` are the bits with these access codes (R11). `idx` is
the index of the word in its register and `words` the number of words (R33: wide when more than one). -/
structure RegRow where
  base  : Nat
  n1    : Nat
  s1    : Nat
  n2    : Nat
  s2    : Nat
  reset : Nat
  step  : Nat
  rw    : Nat
  w1c   : Nat
  sh    : Nat
  rc    : Nat
  idx   : Nat
  words : Nat
  deriving DecidableEq, Repr

/-- Whether the row holds the word at an address. -/
def RegRow.has (r : RegRow) (a : Nat) : Bool :=
  decide (r.base ≤ a) && decide ((a - r.base) / r.s1 < r.n1) &&
    decide ((a - r.base) % r.s1 / r.s2 < r.n2) && ((a - r.base) % r.s1 % r.s2 == 0)

/-- Rows of block 0x0, part 0. -/
def regRows_0_0 : List RegRow :=
  [ ⟨0x0, 1, 0x4, 1, 0x4, 0xb08420, 0x0, 0x0, 0x0, 0x0, 0x0, 0, 1⟩,
    ⟨0x4, 1, 0x4, 1, 0x4, 0x0, 0x0, 0x0, 0x0, 0x0, 0x0, 0, 1⟩,
    ⟨0x8, 1, 0x4, 1, 0x4, 0x0, 0x0, 0x0, 0x0, 0x0, 0x0, 0, 2⟩,
    ⟨0xc, 1, 0x4, 1, 0x4, 0x0, 0x0, 0x0, 0x0, 0x0, 0x0, 1, 2⟩,
    ⟨0x10, 1, 0x4, 1, 0x4, 0x0, 0x0, 0x0, 0x1, 0x0, 0x0, 0, 1⟩,
    ⟨0x14, 1, 0x4, 1, 0x4, 0x0, 0x0, 0x0, 0x800, 0x0, 0x0, 0, 1⟩,
    ⟨0x18, 1, 0x4, 1, 0x4, 0x0, 0x0, 0x0, 0x0, 0x0, 0x0, 0, 1⟩,
    ⟨0x24, 1, 0x4, 1, 0x4, 0xa, 0x0, 0xff, 0x0, 0x0, 0x0, 0, 1⟩,
    ⟨0x28, 1, 0x4, 1, 0x4, 0x10, 0x0, 0xff, 0x0, 0x0, 0x0, 0, 1⟩,
    ⟨0x2c, 1, 0x4, 1, 0x4, 0x9, 0x0, 0xff, 0x0, 0x0, 0x0, 0, 1⟩ ]

/-- Rows of block 0x1, part 0. -/
def regRows_1_0 : List RegRow :=
  [ ⟨0x100000, 1, 0x4, 1, 0x4, 0x0, 0x0, 0x0, 0x0, 0x0, 0x0, 0, 1⟩,
    ⟨0x100004, 1, 0x4, 1, 0x4, 0x0, 0x0, 0x0, 0x0, 0x0, 0x0, 0, 1⟩,
    ⟨0x100008, 1, 0x4, 1, 0x4, 0x0, 0x0, 0x0, 0x0, 0x0, 0x0, 0, 2⟩,
    ⟨0x10000c, 1, 0x4, 1, 0x4, 0x0, 0x0, 0x0, 0x0, 0x0, 0x0, 1, 2⟩,
    ⟨0x100010, 1, 0x4, 1, 0x4, 0x0, 0x0, 0xbfff, 0x0, 0x0, 0x0, 0, 1⟩,
    ⟨0x100020, 1, 0x4, 1, 0x4, 0xa, 0x0, 0x0, 0x0, 0xfffff, 0x0, 0, 1⟩,
    ⟨0x100024, 1, 0x4, 1, 0x4, 0x3e8, 0x0, 0x0, 0x0, 0xfffff, 0x0, 0, 1⟩,
    ⟨0x100028, 1, 0x4, 1, 0x4, 0x186a0, 0x0, 0x0, 0x0, 0xfffff, 0x0, 0, 1⟩,
    ⟨0x10002c, 1, 0x4, 1, 0x4, 0xf4240, 0x0, 0x0, 0x0, 0xfffff, 0x0, 0, 1⟩,
    ⟨0x100040, 6, 0x4, 1, 0x4, 0x0, 0x0, 0x0, 0xffffffff, 0x0, 0x0, 0, 1⟩,
    ⟨0x100060, 6, 0x4, 1, 0x4, 0x0, 0x0, 0x0, 0x0, 0x0, 0x0, 0, 1⟩,
    ⟨0x100080, 6, 0x4, 1, 0x4, 0x0, 0x0, 0x0, 0x0, 0x0, 0x0, 0, 1⟩,
    ⟨0x100100, 10, 0x10, 1, 0x10, 0x0, 0x0, 0x0, 0xffffffff, 0x0, 0x0, 0, 1⟩,
    ⟨0x100104, 10, 0x10, 1, 0x10, 0x0, 0x0, 0xffffffff, 0x0, 0x0, 0x0, 0, 1⟩,
    ⟨0x100108, 10, 0x10, 1, 0x10, 0x0, 0x0, 0x0, 0x0, 0x0, 0x0, 0, 1⟩,
    ⟨0x100410, 1, 0x4, 1, 0x4, 0xa, 0x0, 0x0, 0x0, 0x3f, 0x0, 0, 1⟩,
    ⟨0x100414, 1, 0x4, 1, 0x4, 0xa, 0x0, 0x0, 0x0, 0x3f, 0x0, 0, 1⟩,
    ⟨0x100418, 1, 0x4, 1, 0x4, 0xa, 0x0, 0x0, 0x0, 0x3f, 0x0, 0, 1⟩,
    ⟨0x10041c, 1, 0x4, 1, 0x4, 0xa, 0x0, 0x0, 0x0, 0x3f, 0x0, 0, 1⟩,
    ⟨0x100420, 1, 0x4, 1, 0x4, 0xe, 0x0, 0x0, 0x0, 0x3f, 0x0, 0, 1⟩,
    ⟨0x100428, 1, 0x4, 1, 0x4, 0x11, 0x0, 0x0, 0x0, 0x3f, 0x0, 0, 1⟩,
    ⟨0x10042c, 1, 0x4, 1, 0x4, 0x11, 0x0, 0x0, 0x0, 0x3f, 0x0, 0, 1⟩,
    ⟨0x100508, 1, 0x4, 1, 0x4, 0x2, 0x0, 0x0, 0x0, 0x3f, 0x0, 0, 1⟩,
    ⟨0x100518, 1, 0x4, 1, 0x4, 0x21, 0x0, 0x0, 0x0, 0x3f, 0x0, 0, 1⟩ ]

/-- Rows of block 0x1, part 1. -/
def regRows_1_1 : List RegRow :=
  [ ⟨0x100520, 1, 0x4, 1, 0x4, 0x2, 0x0, 0x0, 0x0, 0x3f, 0x0, 0, 1⟩,
    ⟨0x1005bc, 1, 0x4, 1, 0x4, 0x21, 0x0, 0x0, 0x0, 0x3f, 0x0, 0, 1⟩,
    ⟨0x100400, 192, 0x4, 1, 0x4, 0x0, 0x0, 0x0, 0x0, 0x3f, 0x0, 0, 1⟩,
    ⟨0x108000, 1, 0x4, 1, 0x4, 0x1414, 0x0, 0xffff, 0x0, 0x0, 0x0, 0, 1⟩,
    ⟨0x108004, 1, 0x4, 1, 0x4, 0x0, 0x0, 0x0, 0x1, 0x0, 0x0, 0, 1⟩ ]

/-- Rows of block 0x2, part 0. -/
def regRows_2_0 : List RegRow :=
  [ ⟨0x200000, 1, 0x4, 1, 0x4, 0x3, 0x0, 0x8, 0x0, 0x7, 0x0, 0, 1⟩,
    ⟨0x200004, 1, 0x4, 1, 0x4, 0x0, 0x0, 0x0, 0x0, 0x0, 0x0, 0, 1⟩,
    ⟨0x200008, 1, 0x4, 1, 0x4, 0x0, 0x0, 0x0, 0x0, 0x0, 0x0, 0, 1⟩,
    ⟨0x200010, 1, 0x4, 1, 0x4, 0x0, 0x0, 0x0, 0x0, 0x0, 0x0, 0, 4⟩,
    ⟨0x200014, 1, 0x4, 1, 0x4, 0x0, 0x0, 0x0, 0x0, 0x0, 0x0, 1, 4⟩,
    ⟨0x200018, 1, 0x4, 1, 0x4, 0x0, 0x0, 0x0, 0x0, 0x0, 0x0, 2, 4⟩,
    ⟨0x20001c, 1, 0x4, 1, 0x4, 0x0, 0x0, 0x0, 0x0, 0x0, 0x0, 3, 4⟩,
    ⟨0x200020, 1, 0x4, 1, 0x4, 0x40000000, 0x0, 0xffffffff, 0x0, 0x0, 0x0, 0, 2⟩,
    ⟨0x200024, 1, 0x4, 1, 0x4, 0x1, 0x0, 0xff, 0x0, 0x0, 0x0, 1, 2⟩,
    ⟨0x200028, 1, 0x4, 1, 0x4, 0x40000000, 0x0, 0x0, 0x0, 0x0, 0x0, 0, 2⟩,
    ⟨0x20002c, 1, 0x4, 1, 0x4, 0x1, 0x0, 0x0, 0x0, 0x0, 0x0, 1, 2⟩,
    ⟨0x200030, 1, 0x4, 1, 0x4, 0x0, 0x0, 0xffffffff, 0x0, 0x0, 0x0, 0, 4⟩,
    ⟨0x200034, 1, 0x4, 1, 0x4, 0x0, 0x0, 0xffffffff, 0x0, 0x0, 0x0, 1, 4⟩,
    ⟨0x200038, 1, 0x4, 1, 0x4, 0x0, 0x0, 0xffffffff, 0x0, 0x0, 0x0, 2, 4⟩,
    ⟨0x20003c, 1, 0x4, 1, 0x4, 0x0, 0x0, 0x8000ffff, 0x0, 0x0, 0x0, 3, 4⟩,
    ⟨0x200040, 1, 0x4, 1, 0x4, 0x3e80000, 0x0, 0xffff001f, 0x0, 0x0, 0x0, 0, 1⟩,
    ⟨0x200044, 1, 0x4, 1, 0x4, 0x560, 0x0, 0xffffff, 0x0, 0x0, 0x0, 0, 1⟩,
    ⟨0x200048, 1, 0x4, 1, 0x4, 0x40, 0x0, 0xffffff, 0x0, 0x0, 0x0, 0, 1⟩,
    ⟨0x20004c, 1, 0x4, 1, 0x4, 0x83127, 0x0, 0x7fffffff, 0x0, 0x0, 0x0, 0, 1⟩,
    ⟨0x200050, 1, 0x4, 1, 0x4, 0xa080064, 0x0, 0xffffffff, 0x0, 0x0, 0x0, 0, 1⟩,
    ⟨0x200054, 1, 0x4, 1, 0x4, 0x0, 0x0, 0x0, 0x0, 0x0, 0x0, 0, 2⟩,
    ⟨0x200058, 1, 0x4, 1, 0x4, 0x0, 0x0, 0x0, 0x0, 0x0, 0x0, 1, 2⟩,
    ⟨0x20005c, 1, 0x4, 1, 0x4, 0x0, 0x0, 0x0, 0x0, 0x0, 0x0, 0, 1⟩,
    ⟨0x200060, 1, 0x4, 1, 0x4, 0x0, 0x0, 0x0, 0x0, 0x0, 0x0, 0, 1⟩ ]

/-- Rows of block 0x2, part 1. -/
def regRows_2_1 : List RegRow :=
  [ ⟨0x200064, 1, 0x4, 1, 0x4, 0x0, 0x0, 0x0, 0x0, 0x0, 0x0, 0, 1⟩,
    ⟨0x200070, 2, 0x4, 1, 0x4, 0x0, 0x0, 0x0, 0x0, 0x0, 0x0, 0, 1⟩,
    ⟨0x200080, 4, 0x20, 1, 0x20, 0x0, 0x0, 0x7, 0x0, 0x0, 0x0, 0, 1⟩,
    ⟨0x200084, 4, 0x20, 1, 0x20, 0x0, 0x0, 0xffffffff, 0x0, 0x0, 0x0, 0, 3⟩,
    ⟨0x200088, 4, 0x20, 1, 0x20, 0x0, 0x0, 0xffffffff, 0x0, 0x0, 0x0, 1, 3⟩,
    ⟨0x20008c, 4, 0x20, 1, 0x20, 0x0, 0x0, 0xffffffff, 0x0, 0x0, 0x0, 2, 3⟩,
    ⟨0x200090, 4, 0x20, 1, 0x20, 0x0, 0x0, 0xffffffff, 0x0, 0x0, 0x0, 0, 2⟩,
    ⟨0x200094, 4, 0x20, 1, 0x20, 0x0, 0x0, 0xffffffff, 0x0, 0x0, 0x0, 1, 2⟩,
    ⟨0x200098, 4, 0x20, 1, 0x20, 0x0, 0x0, 0x3fffffff, 0x0, 0x0, 0x0, 0, 1⟩,
    ⟨0x200100, 4, 0x20, 1, 0x20, 0x2, 0x0, 0x3ffff, 0x0, 0x0, 0x0, 0, 1⟩,
    ⟨0x200104, 4, 0x20, 1, 0x20, 0x0, 0x0, 0x0, 0x0, 0x0, 0x0, 0, 4⟩,
    ⟨0x200108, 4, 0x20, 1, 0x20, 0x0, 0x0, 0x0, 0x0, 0x0, 0x0, 1, 4⟩,
    ⟨0x20010c, 4, 0x20, 1, 0x20, 0x0, 0x0, 0x0, 0x0, 0x0, 0x0, 2, 4⟩,
    ⟨0x200110, 4, 0x20, 1, 0x20, 0x0, 0x0, 0x0, 0x0, 0x0, 0x0, 3, 4⟩,
    ⟨0x200114, 4, 0x20, 1, 0x20, 0x0, 0x0, 0x0, 0x0, 0x0, 0xffffffff, 0, 1⟩ ]

/-- Rows of block 0x3, part 0. SYNTH_x_UPDATE_PT, whose reset value R101 does not state, reads 0: DESIGN CHOICE (log entry
93). -/
def regRows_3_0 : List RegRow :=
  [ ⟨0x300000, 1, 0x4, 1, 0x4, 0x0, 0x0, 0x0, 0x0, 0x0, 0x0, 0, 1⟩,
    ⟨0x300004, 1, 0x4, 1, 0x4, 0x0, 0x0, 0x1f, 0x0, 0x0, 0x0, 0, 1⟩,
    ⟨0x300008, 1, 0x4, 1, 0x4, 0x0, 0x0, 0x0, 0x0, 0x7, 0x0, 0, 1⟩,
    ⟨0x300100, 2, 0x100, 1, 0x100, 0x0, 0x0, 0x5, 0x0, 0x0, 0x0, 0, 1⟩,
    ⟨0x300104, 2, 0x100, 1, 0x100, 0x0, 0x0, 0x0, 0x0, 0x0, 0x0, 0, 1⟩,
    ⟨0x300108, 2, 0x100, 1, 0x100, 0x75104d55, 0x0, 0x0, 0x0, 0xffffffff, 0x0, 0, 2⟩,
    ⟨0x30010c, 2, 0x100, 1, 0x100, 0x1f, 0x0, 0x0, 0x0, 0xff, 0x0, 1, 2⟩,
    ⟨0x300110, 2, 0x100, 1, 0x100, 0x0, 0x0, 0x0, 0x0, 0x0, 0x0, 0, 1⟩,
    ⟨0x300120, 2, 0x100, 1, 0x100, 0x0, 0x0, 0xffffffff, 0x0, 0x0, 0x0, 0, 3⟩,
    ⟨0x300124, 2, 0x100, 1, 0x100, 0x0, 0x0, 0xffffffff, 0x0, 0x0, 0x0, 1, 3⟩,
    ⟨0x300128, 2, 0x100, 1, 0x100, 0x0, 0x0, 0xffffffff, 0x0, 0x0, 0x0, 2, 3⟩,
    ⟨0x300140, 2, 0x100, 8, 0x4, 0x190, 0x0, 0x0, 0x0, 0x1ffffff, 0x0, 0, 1⟩ ]

/-- Rows of block 0x10, part 0. -/
def regRows_10_0 : List RegRow :=
  [ ⟨0x1000000, 10, 0x10000, 1, 0x10000, 0x2, 0x0, 0x3f, 0x0, 0x0, 0x0, 0, 1⟩,
    ⟨0x1000004, 10, 0x10000, 1, 0x10000, 0x0, 0x0, 0x0, 0x0, 0x0, 0x0, 0, 1⟩,
    ⟨0x1000008, 10, 0x10000, 1, 0x10000, 0xbb8, 0x0, 0xffff, 0x0, 0x0, 0x0, 0, 1⟩,
    ⟨0x100000c, 10, 0x10000, 1, 0x10000, 0x800, 0x0, 0x1ffff, 0x0, 0x0, 0x0, 0, 1⟩,
    ⟨0x1000010, 10, 0x10000, 1, 0x10000, 0x0, 0x0, 0xffffffff, 0x0, 0x0, 0x0, 0, 1⟩,
    ⟨0x1000014, 10, 0x10000, 1, 0x10000, 0x0, 0x0, 0x0, 0x0, 0x0, 0xffffffff, 0, 1⟩,
    ⟨0x1000020, 10, 0x10000, 1, 0x10000, 0x0, 0x0, 0x0, 0x0, 0x0, 0x0, 0, 2⟩,
    ⟨0x1000024, 10, 0x10000, 1, 0x10000, 0x0, 0x0, 0x0, 0x0, 0x0, 0x0, 1, 2⟩,
    ⟨0x1000028, 10, 0x10000, 1, 0x10000, 0x0, 0x0, 0x0, 0x0, 0x0, 0x0, 0, 2⟩,
    ⟨0x100002c, 10, 0x10000, 1, 0x10000, 0x0, 0x0, 0x0, 0x0, 0x0, 0x0, 1, 2⟩,
    ⟨0x1000030, 10, 0x10000, 1, 0x10000, 0x0, 0x0, 0x0, 0x0, 0x0, 0x0, 0, 2⟩,
    ⟨0x1000034, 10, 0x10000, 1, 0x10000, 0x0, 0x0, 0x0, 0x0, 0x0, 0x0, 1, 2⟩,
    ⟨0x1000038, 10, 0x10000, 1, 0x10000, 0x0, 0x0, 0x0, 0x0, 0x0, 0x0, 0, 2⟩,
    ⟨0x100003c, 10, 0x10000, 1, 0x10000, 0x0, 0x0, 0x0, 0x0, 0x0, 0x0, 1, 2⟩,
    ⟨0x10f0000, 1, 0x4, 1, 0x4, 0x0, 0x0, 0xffffff, 0x0, 0x0, 0x0, 0, 1⟩,
    ⟨0x10f0004, 1, 0x4, 1, 0x4, 0x0, 0x0, 0x7bff, 0x0, 0x0, 0x0, 0, 1⟩,
    ⟨0x10f0008, 1, 0x4, 1, 0x4, 0x0, 0x0, 0x0, 0x1, 0x0, 0x0, 0, 1⟩,
    ⟨0x10f000c, 1, 0x4, 1, 0x4, 0x0, 0x0, 0x0, 0x0, 0x0, 0x0, 0, 1⟩ ]

/-- Rows of block 0x11, part 0. -/
def regRows_11_0 : List RegRow :=
  [ ⟨0x1100000, 8, 0x10000, 1, 0x10000, 0x8, 0x0, 0x1ff, 0x0, 0x0, 0x0, 0, 1⟩,
    ⟨0x1100004, 8, 0x10000, 1, 0x10000, 0x0, 0x0, 0x0, 0x0, 0x0, 0x0, 0, 1⟩,
    ⟨0x1100008, 8, 0x10000, 1, 0x10000, 0x0, 0x0, 0xffffffff, 0x0, 0x0, 0x0, 0, 1⟩,
    ⟨0x110000c, 8, 0x10000, 1, 0x10000, 0x0, 0x0, 0xffff, 0x0, 0x0, 0x0, 0, 1⟩,
    ⟨0x1100010, 8, 0x10000, 1, 0x10000, 0x2400, 0x0, 0x3fff, 0x0, 0x0, 0x0, 0, 1⟩,
    ⟨0x1100014, 8, 0x10000, 1, 0x10000, 0x1, 0x0, 0x7fff, 0x0, 0x0, 0x0, 0, 1⟩,
    ⟨0x1100018, 8, 0x10000, 1, 0x10000, 0xffff, 0x0, 0xffff, 0x0, 0x0, 0x0, 0, 1⟩,
    ⟨0x110001c, 8, 0x10000, 1, 0x10000, 0x0, 0x0, 0xffff, 0x0, 0x0, 0x0, 0, 1⟩,
    ⟨0x1100020, 8, 0x10000, 1, 0x10000, 0x0, 0x0, 0x0, 0x0, 0x0, 0x0, 0, 1⟩,
    ⟨0x1100040, 8, 0x10000, 16, 0x4, 0x0, 0x0, 0xffffffff, 0x0, 0x0, 0x0, 0, 1⟩,
    ⟨0x1100100, 8, 0x10000, 13, 0x8, 0x0, 0x0, 0x0, 0x0, 0x0, 0x0, 0, 2⟩,
    ⟨0x1100104, 8, 0x10000, 13, 0x8, 0x0, 0x0, 0x0, 0x0, 0x0, 0x0, 1, 2⟩ ]

/-- Rows of block 0x20, part 0. -/
def regRows_20_0 : List RegRow :=
  [ ⟨0x2000000, 1, 0x4, 1, 0x4, 0x0, 0x0, 0xf, 0x0, 0x0, 0x0, 0, 1⟩,
    ⟨0x2000004, 1, 0x4, 1, 0x4, 0x88b588b6, 0x0, 0x0, 0x0, 0xffffffff, 0x0, 0, 1⟩,
    ⟨0x2000008, 1, 0x4, 1, 0x4, 0x0, 0x0, 0xffff, 0x0, 0x0, 0x0, 0, 1⟩,
    ⟨0x200000c, 1, 0x4, 1, 0x4, 0xff, 0x0, 0xff, 0x0, 0x0, 0x0, 0, 1⟩,
    ⟨0x2000010, 1, 0x4, 1, 0x4, 0x12c, 0x0, 0xffff, 0x0, 0x0, 0x0, 0, 1⟩,
    ⟨0x2000014, 1, 0x4, 1, 0x4, 0x4e20, 0x0, 0xfffff, 0x0, 0x0, 0x0, 0, 1⟩,
    ⟨0x2000018, 1, 0x4, 1, 0x4, 0x0, 0x0, 0x3fff3fff, 0x0, 0x0, 0x0, 0, 1⟩,
    ⟨0x200001c, 1, 0x4, 1, 0x4, 0x0, 0x0, 0x3fff3fff, 0x0, 0x0, 0x0, 0, 1⟩,
    ⟨0x2000020, 1, 0x4, 1, 0x4, 0x0, 0x0, 0x3fff, 0x0, 0x0, 0x0, 0, 1⟩,
    ⟨0x2000024, 1, 0x4, 1, 0x4, 0x0, 0x0, 0x0, 0x0, 0x0, 0x0, 0, 1⟩,
    ⟨0x2000028, 1, 0x4, 1, 0x4, 0x0, 0x0, 0x0, 0x0, 0x0, 0x0, 0, 1⟩,
    ⟨0x2000030, 1, 0x4, 1, 0x4, 0x0, 0x0, 0x0, 0x0, 0x0, 0xffffffff, 0, 1⟩,
    ⟨0x2000034, 1, 0x4, 1, 0x4, 0x0, 0x0, 0x0, 0x0, 0x0, 0xffffffff, 0, 1⟩,
    ⟨0x2000038, 1, 0x4, 1, 0x4, 0x0, 0x0, 0x0, 0x0, 0x0, 0xffffffff, 0, 1⟩,
    ⟨0x200003c, 1, 0x4, 1, 0x4, 0x0, 0x0, 0x0, 0x0, 0x0, 0xffffffff, 0, 1⟩,
    ⟨0x2000040, 1, 0x4, 1, 0x4, 0x0, 0x0, 0x0, 0x0, 0x0, 0xffffffff, 0, 1⟩,
    ⟨0x2000044, 1, 0x4, 1, 0x4, 0x0, 0x0, 0x0, 0x0, 0x0, 0xffffffff, 0, 1⟩,
    ⟨0x2000080, 8, 0x8, 1, 0x8, 0x0, 0x0, 0x0, 0x0, 0x0, 0xffffffff, 0, 1⟩,
    ⟨0x2000084, 8, 0x8, 1, 0x8, 0x0, 0x0, 0x0, 0x0, 0x0, 0xffffffff, 0, 1⟩ ]

/-- Rows of block 0x22, part 0. -/
def regRows_22_0 : List RegRow :=
  [ ⟨0x2200000, 8192, 0x20, 6, 0x4, 0x0, 0x0, 0x0, 0x0, 0x0, 0xffffffff, 0, 1⟩,
    ⟨0x2200018, 8192, 0x20, 2, 0x4, 0x0, 0x0, 0x0, 0x0, 0x0, 0x0, 0, 1⟩ ]

/-- Rows of block 0x30, part 0. -/
def regRows_30_0 : List RegRow :=
  [ ⟨0x3000000, 1, 0x4, 1, 0x4, 0x0, 0x0, 0x0, 0x0, 0x0, 0x7fff0000, 0, 1⟩,
    ⟨0x3000004, 1, 0x4, 1, 0x4, 0x0, 0x0, 0x0, 0x0, 0x0, 0x0, 0, 1⟩,
    ⟨0x3000008, 1, 0x4, 1, 0x4, 0x0, 0x0, 0x0, 0x100, 0x0, 0x0, 0, 1⟩,
    ⟨0x300000c, 1, 0x4, 1, 0x4, 0x0, 0x0, 0x0, 0x0, 0x0, 0xffffffff, 0, 1⟩,
    ⟨0x3000100, 36, 0x4, 1, 0x4, 0x26, 0x0, 0x0, 0x0, 0x3f, 0x0, 0, 1⟩,
    ⟨0x3000200, 21, 0x4, 1, 0x4, 0x88, 0x0, 0x0, 0x0, 0x1ff, 0x0, 0, 1⟩,
    ⟨0x3000300, 32, 0x4, 1, 0x4, 0x12c00, 0x0, 0x0, 0x0, 0x0, 0x0, 0, 1⟩,
    ⟨0x3000380, 2, 0x4, 1, 0x4, 0x0, 0x0, 0x0, 0x0, 0x0, 0x0, 0, 1⟩,
    ⟨0x3000388, 1, 0x4, 1, 0x4, 0x320, 0x0, 0x0, 0x0, 0x0, 0x0, 0, 1⟩,
    ⟨0x300038c, 1, 0x4, 1, 0x4, 0x12c0, 0x0, 0x0, 0x0, 0x0, 0x0, 0, 1⟩,
    ⟨0x3000400, 36, 0x4, 1, 0x4, 0x0, 0x0, 0x0, 0x0, 0x0, 0x0, 0, 1⟩,
    ⟨0x3000500, 36, 0x4, 1, 0x4, 0x0, 0x0, 0x0, 0x0, 0x0, 0x0, 0, 1⟩,
    ⟨0x3001000, 36, 0x80, 21, 0x4, 0x0, 0x0, 0x0, 0x0, 0x0, 0x0, 0, 1⟩ ]

/-- Rows of block 0x31, part 0. -/
def regRows_31_0 : List RegRow :=
  [ ⟨0x3101000, 512, 0x4, 1, 0x4, 0x0, 0x0, 0x0, 0xffffffff, 0x0, 0x0, 0, 1⟩,
    ⟨0x3102000, 3, 0x100, 16, 0x4, 0x0, 0x0, 0xffffffff, 0x0, 0x0, 0x0, 0, 1⟩,
    ⟨0x3102040, 3, 0x100, 1, 0x100, 0x0, 0x0, 0x0, 0x0, 0x0, 0x0, 0, 1⟩,
    ⟨0x3102044, 3, 0x100, 1, 0x100, 0x0, 0x0, 0x0, 0x0, 0x0, 0x0, 0, 1⟩,
    ⟨0x3140000, 16384, 0x10, 1, 0x10, 0x0, 0x0, 0xffff007f, 0x0, 0x0, 0x0, 0, 1⟩,
    ⟨0x3140004, 16384, 0x10, 1, 0x10, 0x0, 0x0, 0xffffffff, 0x0, 0x0, 0x0, 0, 1⟩,
    ⟨0x3140008, 16384, 0x10, 1, 0x10, 0x0, 0x0, 0x0, 0x0, 0x0, 0x0, 0, 1⟩,
    ⟨0x314000c, 16384, 0x10, 1, 0x10, 0x0, 0x0, 0x0, 0x0, 0x0, 0xffff0000, 0, 1⟩ ]

/-- Rows of block 0x32, part 0. -/
def regRows_32_0 : List RegRow :=
  [ ⟨0x3200000, 1, 0x4, 1, 0x4, 0x0, 0x0, 0xf, 0x0, 0x0, 0x0, 0, 1⟩,
    ⟨0x3200004, 1, 0x4, 1, 0x4, 0x0, 0x0, 0x0, 0x0, 0x0, 0x0, 0, 1⟩,
    ⟨0x3200008, 1, 0x4, 1, 0x4, 0x0, 0x0, 0x0, 0x0, 0x0, 0x0, 0, 1⟩,
    ⟨0x320000c, 1, 0x4, 1, 0x4, 0x0, 0x0, 0x0, 0x0, 0xffffffff, 0x0, 0, 1⟩,
    ⟨0x3200010, 1, 0x4, 1, 0x4, 0x0, 0x0, 0x0, 0x0, 0x1fff, 0x0, 0, 1⟩,
    ⟨0x3200020, 7, 0x4, 1, 0x4, 0x0, 0x0, 0x7, 0x0, 0x0, 0x0, 0, 1⟩,
    ⟨0x3200040, 1, 0x4, 1, 0x4, 0x0, 0x0, 0x0, 0x0, 0x0, 0xffffffff, 0, 1⟩,
    ⟨0x3200044, 1, 0x4, 1, 0x4, 0x0, 0x0, 0x0, 0x0, 0x0, 0xffffffff, 0, 1⟩ ]

/-- Rows of block 0x40, part 0. -/
def regRows_40_0 : List RegRow :=
  [ ⟨0x403f000, 64, 0x40000, 1, 0x40000, 0x0, 0x0, 0x3, 0x0, 0x0, 0x0, 0, 1⟩,
    ⟨0x403f004, 64, 0x40000, 1, 0x40000, 0x0, 0x0, 0x0, 0x7000, 0x0, 0x0, 0, 1⟩,
    ⟨0x403f008, 64, 0x40000, 1, 0x40000, 0x0, 0x0, 0x0, 0x0, 0x0, 0x0, 0, 1⟩,
    ⟨0x403f00c, 64, 0x40000, 1, 0x40000, 0x0, 0x0, 0x0, 0x0, 0x0, 0x0, 0, 1⟩,
    ⟨0x403f010, 64, 0x40000, 1, 0x40000, 0x0, 0x0, 0xffffff, 0x0, 0x0, 0x0, 0, 1⟩,
    ⟨0x403f018, 64, 0x40000, 1, 0x40000, 0x0, 0x0, 0x0, 0x0, 0x0, 0x0, 0, 2⟩,
    ⟨0x403f01c, 64, 0x40000, 1, 0x40000, 0x0, 0x0, 0x0, 0x0, 0x0, 0x0, 1, 2⟩,
    ⟨0x403f020, 64, 0x40000, 1, 0x40000, 0x0, 0x0, 0x0, 0x0, 0x0, 0x0, 0, 1⟩,
    ⟨0x403f024, 64, 0x40000, 1, 0x40000, 0x0, 0x0, 0x0, 0x0, 0x0, 0xffffffff, 0, 1⟩,
    ⟨0x403f028, 64, 0x40000, 1, 0x40000, 0x0, 0x0, 0x0, 0x0, 0x0, 0xffffffff, 0, 1⟩,
    ⟨0x403f030, 64, 0x40000, 1, 0x40000, 0x0, 0x0, 0x0, 0x0, 0x0, 0x0, 0, 2⟩,
    ⟨0x403f034, 64, 0x40000, 1, 0x40000, 0x0, 0x0, 0x0, 0x0, 0x0, 0x0, 1, 2⟩,
    ⟨0x403f038, 64, 0x40000, 1, 0x40000, 0x0, 0x0, 0x0, 0x0, 0x0, 0x0, 0, 2⟩,
    ⟨0x403f03c, 64, 0x40000, 1, 0x40000, 0x0, 0x0, 0x0, 0x0, 0x0, 0x0, 1, 2⟩,
    ⟨0x403f040, 8, 0x40000, 1, 0x40000, 0x0, 0x10, 0x0, 0x0, 0x0, 0x0, 0, 1⟩,
    ⟨0x423f040, 8, 0x40000, 1, 0x40000, 0x82, 0x10, 0x0, 0x0, 0x0, 0x0, 0, 1⟩,
    ⟨0x443f040, 8, 0x40000, 1, 0x40000, 0x104, 0x10, 0x0, 0x0, 0x0, 0x0, 0, 1⟩,
    ⟨0x463f040, 8, 0x40000, 1, 0x40000, 0x186, 0x10, 0x0, 0x0, 0x0, 0x0, 0, 1⟩,
    ⟨0x483f040, 8, 0x40000, 1, 0x40000, 0x208, 0x10, 0x0, 0x0, 0x0, 0x0, 0, 1⟩,
    ⟨0x4a3f040, 8, 0x40000, 1, 0x40000, 0x28a, 0x10, 0x0, 0x0, 0x0, 0x0, 0, 1⟩,
    ⟨0x4c3f040, 8, 0x40000, 1, 0x40000, 0x30c, 0x10, 0x0, 0x0, 0x0, 0x0, 0, 1⟩,
    ⟨0x4e3f040, 8, 0x40000, 1, 0x40000, 0x38f, 0x10, 0x0, 0x0, 0x0, 0x0, 0, 1⟩ ]

/-- Rows of block 0x50, part 0. -/
def regRows_50_0 : List RegRow :=
  [ ⟨0x5000000, 1, 0x4, 1, 0x4, 0x106, 0x0, 0x7, 0x0, 0x1f0, 0x0, 0, 1⟩,
    ⟨0x5000004, 1, 0x4, 1, 0x4, 0x0, 0x0, 0x0, 0x0, 0x0, 0x0, 0, 1⟩,
    ⟨0x5000008, 1, 0x4, 1, 0x4, 0x0, 0x0, 0x0, 0x0, 0x0, 0x0, 0, 1⟩,
    ⟨0x500000c, 1, 0x4, 1, 0x4, 0x7d003e8, 0x0, 0xffffffff, 0x0, 0x0, 0x0, 0, 1⟩,
    ⟨0x5000010, 1, 0x4, 1, 0x4, 0x7d0, 0x0, 0xffff, 0x0, 0x0, 0x0, 0, 1⟩,
    ⟨0x5000014, 1, 0x4, 1, 0x4, 0x0, 0x0, 0x0, 0x0, 0xffffffff, 0x0, 0, 1⟩,
    ⟨0x5000018, 1, 0x4, 1, 0x4, 0x0, 0x0, 0x0, 0x0, 0xffffffff, 0x0, 0, 1⟩,
    ⟨0x500001c, 1, 0x4, 1, 0x4, 0x0, 0x0, 0x0, 0x0, 0xffffffff, 0x0, 0, 1⟩,
    ⟨0x5000020, 1, 0x4, 1, 0x4, 0x0, 0x0, 0x0, 0x0, 0xfff1fff, 0x0, 0, 1⟩,
    ⟨0x5000028, 1, 0x4, 1, 0x4, 0x0, 0x0, 0x0, 0x0, 0x0, 0x0, 0, 2⟩,
    ⟨0x500002c, 1, 0x4, 1, 0x4, 0x0, 0x0, 0x0, 0x0, 0x0, 0x0, 1, 2⟩,
    ⟨0x5000030, 1, 0x4, 1, 0x4, 0x0, 0x0, 0x0, 0x0, 0x0, 0x0, 0, 2⟩,
    ⟨0x5000034, 1, 0x4, 1, 0x4, 0x0, 0x0, 0x0, 0x0, 0x0, 0x0, 1, 2⟩,
    ⟨0x5000038, 1, 0x4, 1, 0x4, 0x0, 0x0, 0x0, 0x0, 0x0, 0xffffffff, 0, 1⟩,
    ⟨0x500003c, 1, 0x4, 1, 0x4, 0x0, 0x0, 0x0, 0x0, 0x0, 0xffffffff, 0, 1⟩,
    ⟨0x5000040, 1, 0x4, 1, 0x4, 0x0, 0x0, 0x0, 0x0, 0x0, 0xffffffff, 0, 1⟩,
    ⟨0x5000044, 1, 0x4, 1, 0x4, 0x0, 0x0, 0x0, 0x0, 0x0, 0xffffffff, 0, 1⟩,
    ⟨0x5000048, 1, 0x4, 1, 0x4, 0x0, 0x0, 0x0, 0x0, 0x0, 0xffffffff, 0, 1⟩,
    ⟨0x500004c, 1, 0x4, 1, 0x4, 0x0, 0x0, 0x0, 0x0, 0x0, 0xffffffff, 0, 1⟩,
    ⟨0x5000050, 1, 0x4, 1, 0x4, 0x0, 0x0, 0x0, 0x0, 0x0, 0x7fff0000, 0, 1⟩,
    ⟨0x5000054, 1, 0x4, 1, 0x4, 0x7fffffff, 0x0, 0x0, 0x0, 0x0, 0xffffffff, 0, 1⟩ ]

/-- Rows of block 0x51, part 0. -/
def regRows_51_0 : List RegRow :=
  [ ⟨0x5100000, 1, 0x4, 1, 0x4, 0x0, 0x0, 0x0, 0x0, 0x0, 0x0, 0, 1⟩,
    ⟨0x5100004, 2, 0x4, 1, 0x4, 0x0, 0x0, 0x0, 0x0, 0xffffffff, 0x0, 0, 1⟩,
    ⟨0x510000c, 1, 0x4, 1, 0x4, 0x0, 0x0, 0x0, 0x0, 0x1, 0x0, 0, 1⟩,
    ⟨0x5100010, 1, 0x4, 1, 0x4, 0x0, 0x0, 0x0, 0x0, 0xffffffff, 0x0, 0, 1⟩,
    ⟨0x5100014, 1, 0x4, 1, 0x4, 0x0, 0x0, 0xffff, 0x0, 0x0, 0x0, 0, 1⟩,
    ⟨0x5100018, 1, 0x4, 1, 0x4, 0x0, 0x0, 0x0, 0x0, 0x0, 0x0, 0, 1⟩,
    ⟨0x510001c, 1, 0x4, 1, 0x4, 0x0, 0x0, 0x0, 0x0, 0x0, 0xffffffff, 0, 1⟩,
    ⟨0x5100020, 1, 0x4, 1, 0x4, 0x0, 0x0, 0x0, 0x0, 0x0, 0xffffffff, 0, 1⟩,
    ⟨0x5100024, 1, 0x4, 1, 0x4, 0x0, 0x0, 0x0, 0x0, 0x0, 0x0, 0, 1⟩,
    ⟨0x5100028, 1, 0x4, 1, 0x4, 0x0, 0x0, 0x0, 0x0, 0x0, 0x0, 0, 2⟩,
    ⟨0x510002c, 1, 0x4, 1, 0x4, 0x0, 0x0, 0x0, 0x0, 0x0, 0x0, 1, 2⟩ ]

/-- Rows of block 0x52, part 0. -/
def regRows_52_0 : List RegRow :=
  [ ⟨0x5200000, 1, 0x4, 1, 0x4, 0x5, 0x0, 0xf, 0x0, 0x0, 0x0, 0, 1⟩,
    ⟨0x5200008, 1, 0x4, 1, 0x4, 0x0, 0x0, 0x0, 0x0, 0x0, 0x0, 0, 2⟩,
    ⟨0x520000c, 1, 0x4, 1, 0x4, 0x0, 0x0, 0x0, 0x0, 0x0, 0x0, 1, 2⟩,
    ⟨0x5200020, 8, 0x4, 1, 0x4, 0x0, 0x0, 0x7ff, 0x0, 0x0, 0x0, 0, 1⟩,
    ⟨0x5200100, 64, 0x10, 1, 0x10, 0x0, 0x0, 0x7ff, 0x0, 0x0, 0x0, 0, 1⟩,
    ⟨0x5200104, 64, 0x10, 1, 0x10, 0x0, 0x0, 0xffffffff, 0x0, 0x0, 0x0, 0, 1⟩,
    ⟨0x5200108, 64, 0x10, 1, 0x10, 0x0, 0x0, 0x0, 0x0, 0x0, 0x0, 0, 1⟩,
    ⟨0x520010c, 64, 0x10, 1, 0x10, 0x0, 0x0, 0x0, 0x0, 0x0, 0x0, 0, 1⟩ ]

/-- Rows of block 0x53, part 0. -/
def regRows_53_0 : List RegRow :=
  [ ⟨0x5300000, 32, 0x1000, 1, 0x1000, 0x8, 0x0, 0x7f, 0x0, 0x0, 0x0, 0, 1⟩,
    ⟨0x5300004, 32, 0x1000, 1, 0x1000, 0x0, 0x0, 0x0, 0x0, 0x0, 0x0, 0, 1⟩,
    ⟨0x5300008, 32, 0x1000, 1, 0x1000, 0x0, 0x0, 0xffffffff, 0x0, 0x0, 0x0, 0, 1⟩,
    ⟨0x530000c, 32, 0x1000, 1, 0x1000, 0x0, 0x0, 0x7ff, 0x0, 0x0, 0x0, 0, 1⟩,
    ⟨0x5300010, 32, 0x1000, 1, 0x1000, 0x0, 0x0, 0x0, 0x0, 0x0, 0x0, 0, 1⟩,
    ⟨0x5300014, 32, 0x1000, 1, 0x1000, 0x0, 0x0, 0x0, 0x0, 0x0, 0x0, 0, 1⟩,
    ⟨0x5300018, 32, 0x1000, 1, 0x1000, 0x0, 0x0, 0x0, 0x0, 0x0, 0x0, 0, 2⟩,
    ⟨0x530001c, 32, 0x1000, 1, 0x1000, 0x0, 0x0, 0x0, 0x0, 0x0, 0x0, 1, 2⟩,
    ⟨0x5300020, 32, 0x1000, 1, 0x1000, 0x0, 0x0, 0x0, 0x0, 0x0, 0xffffffff, 0, 1⟩,
    ⟨0x5300024, 32, 0x1000, 1, 0x1000, 0x0, 0x0, 0x0, 0x0, 0x0, 0xffffffff, 0, 1⟩ ]

/-- Rows of block 0x60, part 0. -/
def regRows_60_0 : List RegRow :=
  [ ⟨0x6000000, 1, 0x4, 1, 0x4, 0x2, 0x0, 0x3, 0x0, 0x0, 0x0, 0, 1⟩,
    ⟨0x6000004, 1, 0x4, 1, 0x4, 0x100000, 0x0, 0x0, 0x0, 0x0, 0x0, 0, 1⟩,
    ⟨0x6000008, 1, 0x4, 1, 0x4, 0x0, 0x0, 0xffffffff, 0x0, 0x0, 0x0, 0, 1⟩,
    ⟨0x600000c, 1, 0x4, 1, 0x4, 0x0, 0x0, 0x7ff, 0x0, 0x0, 0x0, 0, 1⟩,
    ⟨0x6000010, 1, 0x4, 1, 0x4, 0x0, 0x0, 0x0, 0x0, 0x0, 0xffffffff, 0, 1⟩,
    ⟨0x6000014, 1, 0x4, 1, 0x4, 0x0, 0x0, 0x0, 0x0, 0x0, 0xffffffff, 0, 1⟩,
    ⟨0x6000100, 16, 0x20, 1, 0x20, 0x0, 0x0, 0x1f, 0x0, 0x0, 0x0, 0, 1⟩,
    ⟨0x6000104, 16, 0x20, 1, 0x20, 0x0, 0x0, 0x0, 0x0, 0x7f, 0x0, 0, 1⟩,
    ⟨0x6000108, 16, 0x20, 1, 0x20, 0x0, 0x10, 0x0, 0x0, 0x0, 0x0, 0, 1⟩,
    ⟨0x600010c, 16, 0x20, 1, 0x20, 0x0, 0x0, 0x0, 0x0, 0x0, 0x0, 0, 1⟩,
    ⟨0x6000110, 16, 0x20, 1, 0x20, 0x0, 0x0, 0x0, 0x0, 0x0, 0x0, 0, 1⟩,
    ⟨0x6000114, 16, 0x20, 1, 0x20, 0x0, 0x0, 0x0, 0x0, 0x0, 0x0, 0, 1⟩,
    ⟨0x6000118, 16, 0x20, 1, 0x20, 0x0, 0x0, 0x0, 0x0, 0x0, 0x0, 0, 1⟩,
    ⟨0x600011c, 16, 0x20, 1, 0x20, 0x0, 0x0, 0x0, 0x0, 0x0, 0x0, 0, 1⟩ ]

/-- Rows of block 0x61, part 0. -/
def regRows_61_0 : List RegRow :=
  [ ⟨0x6100000, 14, 0x10, 1, 0x10, 0x0, 0x0, 0x1f, 0x0, 0x0, 0x0, 0, 1⟩,
    ⟨0x6100004, 14, 0x10, 1, 0x10, 0x0, 0x0, 0x0, 0x0, 0x0, 0x0, 0, 1⟩,
    ⟨0x6100100, 1, 0x4, 1, 0x4, 0x3, 0x0, 0x3, 0x0, 0x0, 0x0, 0, 1⟩,
    ⟨0x6100104, 1, 0x4, 1, 0x4, 0x0, 0x0, 0x0, 0x0, 0x0, 0x0, 0, 1⟩,
    ⟨0x6100108, 1, 0x4, 1, 0x4, 0x20, 0x0, 0xff, 0x0, 0x0, 0x0, 0, 1⟩,
    ⟨0x6100200, 1, 0x4, 1, 0x4, 0x0, 0x0, 0xff, 0x0, 0x0, 0x0, 0, 1⟩,
    ⟨0x6100204, 1, 0x4, 1, 0x4, 0x0, 0x0, 0x0, 0x0, 0x0, 0x0, 0, 1⟩ ]

/-- Rows of block 0x62, part 0. -/
def regRows_62_0 : List RegRow :=
  [ ⟨0x6200000, 1, 0x4, 1, 0x4, 0x2, 0x0, 0x3, 0x0, 0x0, 0x0, 0, 1⟩,
    ⟨0x6200004, 1, 0x4, 1, 0x4, 0x100, 0x0, 0x0, 0x0, 0x0, 0x0, 0, 1⟩,
    ⟨0x6200008, 1, 0x4, 1, 0x4, 0x0, 0x0, 0x0, 0x0, 0x0, 0x0, 0, 1⟩,
    ⟨0x620000c, 1, 0x4, 1, 0x4, 0x0, 0x0, 0x0, 0x0, 0x0, 0x40000, 0, 1⟩,
    ⟨0x6200010, 1, 0x4, 1, 0x4, 0x0, 0x0, 0x0, 0x0, 0x0, 0x0, 0, 1⟩,
    ⟨0x6200014, 1, 0x4, 1, 0x4, 0x0, 0x0, 0x0, 0x0, 0x0, 0x0, 0, 1⟩,
    ⟨0x6200100, 30, 0x4, 1, 0x4, 0x0, 0x1, 0xff, 0x0, 0x0, 0x0, 0, 1⟩,
    ⟨0x6200178, 1, 0x4, 1, 0x4, 0x4a, 0x0, 0x0, 0x0, 0x0, 0x0, 0, 1⟩,
    ⟨0x620017c, 1, 0x4, 1, 0x4, 0x49, 0x0, 0x0, 0x0, 0x0, 0x0, 0, 1⟩,
    ⟨0x6200200, 32, 0x4, 1, 0x4, 0x0, 0x0, 0x0, 0x0, 0x0, 0x10000, 0, 1⟩,
    ⟨0x6200300, 32, 0x4, 1, 0x4, 0xfff0000, 0x0, 0xfff0fff, 0x0, 0x0, 0x0, 0, 1⟩,
    ⟨0x6200400, 9, 0x10, 1, 0x10, 0x0, 0x0, 0x0, 0x0, 0x0, 0x0, 0, 1⟩,
    ⟨0x6200404, 9, 0x10, 1, 0x10, 0x0, 0x0, 0x0, 0x0, 0x0, 0x0, 0, 1⟩,
    ⟨0x6200408, 9, 0x10, 1, 0x10, 0x0, 0x0, 0x0, 0x0, 0x0, 0x0, 0, 1⟩,
    ⟨0x620040c, 9, 0x10, 1, 0x10, 0x0, 0x0, 0x0, 0x0, 0x0, 0x0, 0, 1⟩ ]

/-- Rows of block 0x63, part 0. -/
def regRows_63_0 : List RegRow :=
  [ ⟨0x6300000, 8, 0x10, 1, 0x10, 0x20, 0x0, 0x3ff, 0x0, 0x0, 0x0, 0, 1⟩,
    ⟨0x6300004, 8, 0x10, 1, 0x10, 0x0, 0x0, 0xfff, 0x0, 0x0, 0x0, 0, 1⟩,
    ⟨0x6300008, 8, 0x10, 1, 0x10, 0x0, 0x0, 0x0, 0x0, 0x0, 0x0, 0, 1⟩,
    ⟨0x6300100, 1, 0x4, 1, 0x4, 0x3e80011, 0x0, 0xfff0fff, 0x0, 0x0, 0x0, 0, 1⟩ ]

/-- Rows of block 0x70, part 0. -/
def regRows_70_0 : List RegRow :=
  [ ⟨0x7000000, 1, 0x4, 1, 0x4, 0x0, 0x0, 0xc, 0x0, 0x13, 0x0, 0, 1⟩,
    ⟨0x7000004, 1, 0x4, 1, 0x4, 0x0, 0x0, 0x0, 0x0, 0x0, 0x0, 0, 1⟩,
    ⟨0x7000008, 1, 0x4, 1, 0x4, 0x0, 0x0, 0x0, 0x0, 0x0, 0x0, 0, 1⟩,
    ⟨0x700000c, 1, 0x4, 1, 0x4, 0x0, 0x0, 0x0, 0x0, 0x0, 0x0, 0, 1⟩,
    ⟨0x7000010, 1, 0x4, 1, 0x4, 0x0, 0x0, 0x0, 0x0, 0xffffffff, 0x0, 0, 1⟩,
    ⟨0x7000014, 1, 0x4, 1, 0x4, 0x0, 0x0, 0x0, 0x0, 0xffffff, 0x0, 0, 1⟩,
    ⟨0x7000018, 1, 0x4, 1, 0x4, 0x0, 0x0, 0x0, 0x0, 0xffffffff, 0x0, 0, 1⟩,
    ⟨0x700001c, 1, 0x4, 1, 0x4, 0x0, 0x0, 0x0, 0x0, 0xffff, 0x0, 0, 1⟩,
    ⟨0x7000020, 1, 0x4, 1, 0x4, 0x0, 0x0, 0x0, 0x0, 0xffffffff, 0x0, 0, 1⟩,
    ⟨0x7000024, 1, 0x4, 1, 0x4, 0x0, 0x0, 0x0, 0x0, 0x0, 0x0, 0, 1⟩,
    ⟨0x7000028, 1, 0x4, 1, 0x4, 0x0, 0x0, 0x0, 0x0, 0xffffffff, 0x0, 0, 1⟩,
    ⟨0x700002c, 1, 0x4, 1, 0x4, 0x0, 0x0, 0x0, 0x0, 0x1fff, 0x0, 0, 1⟩,
    ⟨0x7000030, 1, 0x4, 1, 0x4, 0x0, 0x0, 0x0, 0x0, 0x0, 0x0, 0, 1⟩,
    ⟨0x7000034, 1, 0x4, 1, 0x4, 0x0, 0x0, 0x0, 0x0, 0x0, 0x0, 0, 1⟩,
    ⟨0x7000038, 1, 0x4, 1, 0x4, 0x0, 0x0, 0x0, 0x0, 0x0, 0x0, 0, 1⟩,
    ⟨0x7000040, 1, 0x4, 1, 0x4, 0x0, 0x0, 0x0, 0x0, 0x0, 0xffffffff, 0, 1⟩,
    ⟨0x7000044, 1, 0x4, 1, 0x4, 0x0, 0x0, 0x0, 0x0, 0x0, 0xffffffff, 0, 1⟩,
    ⟨0x7000048, 1, 0x4, 1, 0x4, 0x0, 0x0, 0x0, 0x0, 0x0, 0xffffffff, 0, 1⟩,
    ⟨0x700004c, 1, 0x4, 1, 0x4, 0x0, 0x0, 0x0, 0x0, 0x0, 0xffffffff, 0, 1⟩,
    ⟨0x7000050, 1, 0x4, 1, 0x4, 0x0, 0x0, 0x0, 0x0, 0x0, 0xffffffff, 0, 1⟩,
    ⟨0x7000054, 1, 0x4, 1, 0x4, 0x0, 0x0, 0x0, 0x0, 0x0, 0xffffffff, 0, 1⟩,
    ⟨0x7000058, 1, 0x4, 1, 0x4, 0x0, 0x0, 0x0, 0x0, 0x0, 0xffffffff, 0, 1⟩,
    ⟨0x700005c, 1, 0x4, 1, 0x4, 0x0, 0x0, 0x0, 0x0, 0x0, 0xffffffff, 0, 1⟩ ]

/-- Rows of block 0x80, part 0. -/
def regRows_80_0 : List RegRow :=
  [ ⟨0x8000000, 1, 0x4, 1, 0x4, 0x1f4, 0x0, 0xffff, 0x0, 0x0, 0x0, 0, 1⟩,
    ⟨0x8000004, 1, 0x4, 1, 0x4, 0x0, 0x0, 0x0, 0x0, 0x0, 0xff0000, 0, 1⟩,
    ⟨0x8000008, 1, 0x4, 1, 0x4, 0x0, 0x0, 0x0, 0x0, 0x0, 0x0, 0, 1⟩,
    ⟨0x800000c, 1, 0x4, 1, 0x4, 0x0, 0x0, 0xffffffff, 0x0, 0x0, 0x0, 0, 1⟩,
    ⟨0x8000010, 1, 0x4, 1, 0x4, 0x0, 0x0, 0x0, 0x0, 0x0, 0x0, 0, 1⟩,
    ⟨0x8000014, 1, 0x4, 1, 0x4, 0x0, 0x0, 0x0, 0x0, 0x0, 0x0, 0, 1⟩,
    ⟨0x8000018, 1, 0x4, 1, 0x4, 0x0, 0x0, 0x0, 0x0, 0x0, 0x0, 0, 1⟩,
    ⟨0x800001c, 1, 0x4, 1, 0x4, 0x0, 0x0, 0x0, 0x0, 0x0, 0xffffffff, 0, 1⟩,
    ⟨0x8000020, 1, 0x4, 1, 0x4, 0x0, 0x0, 0x0, 0x0, 0x0, 0xffffffff, 0, 1⟩,
    ⟨0x8000024, 1, 0x4, 1, 0x4, 0x0, 0x0, 0x0, 0x0, 0x0, 0xffffffff, 0, 1⟩,
    ⟨0x8000100, 16, 0x10, 1, 0x10, 0x0, 0x0, 0x0, 0x0, 0x0, 0x0, 0, 1⟩,
    ⟨0x8000104, 16, 0x10, 1, 0x10, 0x0, 0x0, 0x0, 0x0, 0x0, 0x0, 0, 1⟩,
    ⟨0x8000108, 16, 0x10, 1, 0x10, 0x0, 0x0, 0x0, 0x0, 0x0, 0x0, 0, 1⟩,
    ⟨0x800010c, 16, 0x10, 1, 0x10, 0x0, 0x0, 0x0, 0x0, 0x0, 0x0, 0, 1⟩ ]

/-- Rows of block 0x90, part 0. -/
def regRows_90_0 : List RegRow :=
  [ ⟨0x9000000, 1, 0x4, 1, 0x4, 0x0, 0x0, 0x0, 0x0, 0x0, 0x0, 0, 1⟩,
    ⟨0x9000004, 1, 0x4, 1, 0x4, 0x0, 0x0, 0x0, 0x0, 0x0, 0x0, 0, 1⟩,
    ⟨0x9000008, 1, 0x4, 1, 0x4, 0x0, 0x0, 0x0, 0x0, 0x0, 0x0, 0, 1⟩,
    ⟨0x900000c, 3, 0x4, 1, 0x4, 0x0, 0x0, 0xffffffff, 0x0, 0x0, 0x0, 0, 1⟩,
    ⟨0x9000018, 1, 0x4, 1, 0x4, 0x0, 0x0, 0x0, 0x0, 0x0, 0xe, 0, 1⟩,
    ⟨0x900001c, 1, 0x4, 1, 0x4, 0x0, 0x0, 0x0, 0x0, 0x0, 0x0, 0, 1⟩,
    ⟨0x9000020, 1, 0x4, 1, 0x4, 0x0, 0x0, 0x0, 0x0, 0x0, 0x0, 0, 1⟩,
    ⟨0x9000024, 1, 0x4, 1, 0x4, 0x0, 0x0, 0x0, 0x0, 0x0, 0x0, 0, 1⟩,
    ⟨0x9000028, 1, 0x4, 1, 0x4, 0x0, 0x0, 0x0, 0x0, 0x0, 0x0, 0, 1⟩,
    ⟨0x900002c, 1, 0x4, 1, 0x4, 0x0, 0x0, 0x0, 0x0, 0x0, 0x0, 0, 1⟩,
    ⟨0x9000100, 3, 0x20, 1, 0x20, 0x0, 0x0, 0xffffffff, 0x0, 0x0, 0x0, 0, 1⟩,
    ⟨0x9000104, 3, 0x20, 1, 0x20, 0x0, 0x0, 0xffffffff, 0x0, 0x0, 0x0, 0, 1⟩,
    ⟨0x9000108, 3, 0x20, 1, 0x20, 0x0, 0x0, 0xffffffff, 0x0, 0x0, 0x0, 0, 1⟩,
    ⟨0x900010c, 3, 0x20, 1, 0x20, 0x0, 0x0, 0xffffffff, 0x0, 0x0, 0x0, 0, 1⟩,
    ⟨0x9000110, 3, 0x20, 1, 0x20, 0x0, 0x0, 0x7, 0x0, 0x0, 0x0, 0, 1⟩,
    ⟨0x9000114, 3, 0x20, 1, 0x20, 0x0, 0x0, 0x0, 0x0, 0x0, 0x0, 0, 1⟩ ]

/-- Rows of block 0xa0, part 0. -/
def regRows_a0_0 : List RegRow :=
  [ ⟨0xa000000, 1, 0x4, 1, 0x4, 0x0, 0x0, 0x0, 0x0, 0x0, 0x0, 0, 1⟩,
    ⟨0xa000004, 1, 0x4, 1, 0x4, 0x0, 0x0, 0x0, 0x0, 0x0, 0x0, 0, 1⟩,
    ⟨0xa000008, 1, 0x4, 1, 0x4, 0xc80000, 0x0, 0xffff0001, 0x0, 0x0, 0x0, 0, 1⟩,
    ⟨0xa00000c, 1, 0x4, 1, 0x4, 0x0, 0x0, 0x0, 0x0, 0x1ffff, 0x0, 0, 1⟩,
    ⟨0xa000010, 1, 0x4, 1, 0x4, 0x0, 0x0, 0x0, 0x0, 0xffffffff, 0x0, 0, 1⟩,
    ⟨0xa000014, 1, 0x4, 1, 0x4, 0x0, 0x0, 0x0, 0x0, 0xffff, 0x0, 0, 1⟩,
    ⟨0xa000018, 1, 0x4, 1, 0x4, 0x0, 0x0, 0x0, 0x0, 0x0, 0x0, 0, 2⟩,
    ⟨0xa00001c, 1, 0x4, 1, 0x4, 0x0, 0x0, 0x0, 0x0, 0x0, 0x0, 1, 2⟩,
    ⟨0xa000020, 1, 0x4, 1, 0x4, 0x0, 0x0, 0x0, 0x0, 0x3fff3fff, 0x0, 0, 1⟩,
    ⟨0xa000024, 1, 0x4, 1, 0x4, 0x0, 0x0, 0x0, 0x0, 0x3fff3fff, 0x0, 0, 1⟩,
    ⟨0xa000030, 2, 0x4, 1, 0x4, 0x20064, 0x0, 0x2ffff, 0x0, 0x0, 0x0, 0, 1⟩,
    ⟨0xa000110, 63, 0x10, 1, 0x10, 0x0, 0x0, 0x0, 0x0, 0xffffffff, 0x0, 0, 1⟩,
    ⟨0xa000114, 63, 0x10, 1, 0x10, 0x0, 0x0, 0x0, 0x0, 0x80ffffff, 0x0, 0, 1⟩,
    ⟨0xa000800, 64, 0x4, 1, 0x4, 0x0, 0x0, 0xffff, 0x0, 0x0, 0x0, 0, 1⟩ ]

/-- The rows of the block that holds an address, by its 1 MiB page; the PE block spans sixteen (R637). -/
def regRows (a : Nat) : List RegRow :=
  match if 0x40 ≤ a / 0x100000 ∧ a / 0x100000 < 0x50 then 0x40 else a / 0x100000 with
  | 0x0 => regRows_0_0
  | 0x1 => regRows_1_0 ++ regRows_1_1
  | 0x2 => regRows_2_0 ++ regRows_2_1
  | 0x3 => regRows_3_0
  | 0x10 => regRows_10_0
  | 0x11 => regRows_11_0
  | 0x20 => regRows_20_0
  | 0x22 => regRows_22_0
  | 0x30 => regRows_30_0
  | 0x31 => regRows_31_0
  | 0x32 => regRows_32_0
  | 0x40 => regRows_40_0
  | 0x50 => regRows_50_0
  | 0x51 => regRows_51_0
  | 0x52 => regRows_52_0
  | 0x53 => regRows_53_0
  | 0x60 => regRows_60_0
  | 0x61 => regRows_61_0
  | 0x62 => regRows_62_0
  | 0x63 => regRows_63_0
  | 0x70 => regRows_70_0
  | 0x80 => regRows_80_0
  | 0x90 => regRows_90_0
  | 0xa0 => regRows_a0_0
  | _ => []

/-- The row of a register word; none for an address that no register occupies (R10). -/
def regRow (a : Nat) : Option RegRow := (regRows a).find? (fun r => r.has a)

/-- The value of a register word at device reset (R561, R571 and the field tables). GLOBAL_ID carries the variant of
the part, a constant of Config (log entry 2). -/
def regReset (a : Nat) : Word :=
  match regRow a with
  | none => 0
  | some r =>
    if a = 0 then (if Config.isAI then 0x02B08420 else 0x01B08420)
    else BitVec.ofNat 32 (r.reset + r.step * ((a - r.base) / r.s1))

/-- R639. -/
def Reg.GLOBAL_ID : Nat := 0x0
/-- R557. -/
def Reg.GLOBAL_SUMMARY : Nat := 0x4
/-- R558. -/
def Reg.GLOBAL_REMOTE_SUMMARY : Nat := 0x8
/-- R36. -/
def Reg.GLOBAL_STALE_READ : Nat := 0x10
/-- R639. -/
def Reg.GLOBAL_HOST_ERR : Nat := 0x14
/-- R638. -/
def Reg.GLOBAL_HOST_ERR_ADDR : Nat := 0x18
/-- R639. -/
def Reg.GLOBAL_HOST_WIN (i : Nat) : Nat := 0x20 + i * 0x4
/-- R574. -/
def Reg.TALLY_STATUS : Nat := 0x100000
/-- R574. -/
def Reg.TALLY_FIRST : Nat := 0x100004
/-- R573. -/
def Reg.TALLY_FIRST_GLOSS : Nat := 0x100008
/-- R575. -/
def Reg.TALLY_EVQ : Nat := 0x100010
/-- R575. -/
def Reg.TALLY_GRACE (i : Nat) : Nat := 0x100020 + i * 0x4
/-- R573. -/
def Reg.TALLY_STICKY (i : Nat) : Nat := 0x100040 + i * 0x4
/-- R573. -/
def Reg.TALLY_FORCE (i : Nat) : Nat := 0x100060 + i * 0x4
/-- R573. -/
def Reg.TALLY_INGRACE (i : Nat) : Nat := 0x100080 + i * 0x4
/-- R573. -/
def Reg.EVG_CAUSE (i : Nat) : Nat := 0x100100 + i * 0x10
/-- R573. -/
def Reg.EVG_ENABLE (i : Nat) : Nat := 0x100104 + i * 0x10
/-- R573. -/
def Reg.EVG_FORCE (i : Nat) : Nat := 0x100108 + i * 0x10
/-- R576. -/
def Reg.TALLY_CLASS (i : Nat) : Nat := 0x100400 + i * 0x4
/-- R577. -/
def Reg.SENT_CTRL : Nat := 0x108000
/-- R577. -/
def Reg.SENT_STATUS : Nat := 0x108004
/-- R73. -/
def Reg.TIME_CTRL : Nat := 0x200000
/-- R74. -/
def Reg.TIME_STATUS : Nat := 0x200004
/-- R75. -/
def Reg.TIME_CMD : Nat := 0x200008
/-- R72. -/
def Reg.TIME_NOW : Nat := 0x200010
/-- R72. -/
def Reg.TIME_INCR_NOM : Nat := 0x200020
/-- R72. -/
def Reg.TIME_INCR_EFF : Nat := 0x200028
/-- R72. -/
def Reg.TIME_ADJ : Nat := 0x200030
/-- R76. -/
def Reg.TIME_SERVO_CTRL : Nat := 0x200040
/-- R72. -/
def Reg.TIME_SERVO_KP : Nat := 0x200044
/-- R72. -/
def Reg.TIME_SERVO_KI : Nat := 0x200048
/-- R72. -/
def Reg.TIME_SERVO_LIMIT : Nat := 0x20004c
/-- R77. -/
def Reg.TIME_SERVO_LOCK : Nat := 0x200050
/-- R72. -/
def Reg.TIME_SERVO_OFFSET : Nat := 0x200054
/-- R72. -/
def Reg.TIME_SERVO_ADJ : Nat := 0x20005c
/-- R72. -/
def Reg.TIME_SERVO_INTEG : Nat := 0x200060
/-- R72. -/
def Reg.TIME_SERVO_THETA : Nat := 0x200064
/-- R72. -/
def Reg.TIME_EDGE_ERR (i : Nat) : Nat := 0x200070 + i * 0x4
/-- R78. -/
def Reg.TIME_PULSE_CTRL (i : Nat) : Nat := 0x200080 + i * 0x20
/-- R72. -/
def Reg.TIME_PULSE_START (i : Nat) : Nat := 0x200084 + i * 0x20
/-- R72. -/
def Reg.TIME_PULSE_PERIOD (i : Nat) : Nat := 0x200090 + i * 0x20
/-- R72. -/
def Reg.TIME_PULSE_WIDTH (i : Nat) : Nat := 0x200098 + i * 0x20
/-- R79. -/
def Reg.TIME_CAP_CTRL (i : Nat) : Nat := 0x200100 + i * 0x20
/-- R72. -/
def Reg.TIME_CAP_LAST (i : Nat) : Nat := 0x200104 + i * 0x20
/-- R72. -/
def Reg.TIME_CAP_DROP (i : Nat) : Nat := 0x200114 + i * 0x20
/-- R102. -/
def Reg.SYNTH_SYS_STATUS : Nat := 0x300000
/-- R103. -/
def Reg.SYNTH_SERDES_CTRL : Nat := 0x300004
/-- R104. -/
def Reg.SYNTH_ROUTE : Nat := 0x300008
/-- R105. -/
def Reg.SYNTH_CTRL (i : Nat) : Nat := 0x300100 + i * 0x100
/-- R106. -/
def Reg.SYNTH_STATUS (i : Nat) : Nat := 0x300104 + i * 0x100
/-- R101. -/
def Reg.SYNTH_RATIO (i : Nat) : Nat := 0x300108 + i * 0x100
/-- R101. -/
def Reg.SYNTH_STEER (i : Nat) : Nat := 0x300110 + i * 0x100
/-- R101. -/
def Reg.SYNTH_UPDATE_PT (i : Nat) : Nat := 0x300120 + i * 0x100
/-- R107. -/
def Reg.SYNTH_OUT_CFG (i : Nat) (j : Nat) : Nat := 0x300140 + i * 0x100 + j * 0x4
/-- R157. -/
def Reg.PE_CTRL (i : Nat) : Nat := 0x403f000 + i * 0x40000
/-- R158. -/
def Reg.PE_STATUS (i : Nat) : Nat := 0x403f004 + i * 0x40000
/-- R159. -/
def Reg.PE_FAULT (i : Nat) : Nat := 0x403f008 + i * 0x40000
/-- R160. -/
def Reg.PE_FAULT_ADDR (i : Nat) : Nat := 0x403f00c + i * 0x40000
/-- R161. -/
def Reg.PE_TASK_LIMIT (i : Nat) : Nat := 0x403f010 + i * 0x40000
/-- R156. -/
def Reg.PE_CYCLES (i : Nat) : Nat := 0x403f018 + i * 0x40000
/-- R156. -/
def Reg.PE_TASKS (i : Nat) : Nat := 0x403f020 + i * 0x40000
/-- R156. -/
def Reg.PE_SAT_COUNT (i : Nat) : Nat := 0x403f024 + i * 0x40000
/-- R156. -/
def Reg.PE_ECC_COUNT (i : Nat) : Nat := 0x403f028 + i * 0x40000
/-- R156. -/
def Reg.PE_DIGEST (i : Nat) : Nat := 0x403f030 + i * 0x40000
/-- R156. -/
def Reg.PE_TRACE (i : Nat) : Nat := 0x403f038 + i * 0x40000
/-- R162. -/
def Reg.PE_CAPS (i : Nat) : Nat := 0x403f040 + i * 0x40000
/-- R204. -/
def Reg.SEQ_CTRL : Nat := 0x5000000
/-- R205. -/
def Reg.SEQ_STATUS : Nat := 0x5000004
/-- R206. -/
def Reg.SEQ_CMD : Nat := 0x5000008
/-- R207. -/
def Reg.SEQ_GUARD : Nat := 0x500000c
/-- R208. -/
def Reg.SEQ_RECOMP : Nat := 0x5000010
/-- R202. -/
def Reg.SEQ_PTAB : Nat := 0x5000014
/-- R202. -/
def Reg.SEQ_STAB : Nat := 0x5000018
/-- R202. -/
def Reg.SEQ_FTAB : Nat := 0x500001c
/-- R209. -/
def Reg.SEQ_COUNTS : Nat := 0x5000020
/-- R202. -/
def Reg.SEQ_RELEASE_FOLIO : Nat := 0x5000028
/-- R202. -/
def Reg.SEQ_DISPATCHED : Nat := 0x5000030
/-- R203. -/
def Reg.SEQ_SQUASHED : Nat := 0x5000038
/-- R203. -/
def Reg.SEQ_RECOMPUTED : Nat := 0x500003c
/-- R203. -/
def Reg.SEQ_LATE_APPLY : Nat := 0x5000040
/-- R203. -/
def Reg.SEQ_DEADLINE_MISS : Nat := 0x5000044
/-- R203. -/
def Reg.SEQ_SUBSTITUTED : Nat := 0x5000048
/-- R203. -/
def Reg.SEQ_CANCEL_COUNT : Nat := 0x500004c
/-- R210. -/
def Reg.SEQ_INFLIGHT : Nat := 0x5000050
/-- R211. -/
def Reg.SEQ_SLACK_MIN : Nat := 0x5000054
/-- R252. -/
def Reg.MIX_STATUS : Nat := 0x5100000
/-- R251. -/
def Reg.MIX_RTAB (i : Nat) : Nat := 0x5100004 + i * 0x4
/-- R253. -/
def Reg.MIX_RCTRL : Nat := 0x510000c
/-- R251. -/
def Reg.MIX_EQT : Nat := 0x5100010
/-- R254. -/
def Reg.MIX_LAT_SEL : Nat := 0x5100014
/-- R254. -/
def Reg.MIX_LAT : Nat := 0x5100018
/-- R251. -/
def Reg.MIX_SAT_COUNT : Nat := 0x510001c
/-- R251. -/
def Reg.MIX_ZC_COUNT : Nat := 0x5100020
/-- R255. -/
def Reg.MIX_USAGE : Nat := 0x5100024
/-- R251. -/
def Reg.MIX_BUSY_CYCLES : Nat := 0x5100028
/-- R256. -/
def Reg.SRC_CTRL : Nat := 0x5200000
/-- R256. -/
def Reg.SRC_LOCKED : Nat := 0x5200008
/-- R256. -/
def Reg.SRC_GFEED (i : Nat) : Nat := 0x5200020 + i * 0x4
/-- R257. -/
def Reg.SRC_CH_CFG (i : Nat) : Nat := 0x5200100 + i * 0x10
/-- R256. -/
def Reg.SRC_CH_BASE (i : Nat) : Nat := 0x5200104 + i * 0x10
/-- R258. -/
def Reg.SRC_CH_STATE (i : Nat) : Nat := 0x5200108 + i * 0x10
/-- R256. -/
def Reg.SRC_CH_RATIO (i : Nat) : Nat := 0x520010c + i * 0x10
/-- R296. -/
def Reg.CLAUSE_TIMING : Nat := 0x8000000
/-- R297. -/
def Reg.CLAUSE_STATUS : Nat := 0x8000004
/-- R298. -/
def Reg.CLAUSE_CMD : Nat := 0x8000008
/-- R295. -/
def Reg.CLAUSE_IMAGE : Nat := 0x800000c
/-- R295. -/
def Reg.CLAUSE_GEN : Nat := 0x8000010
/-- R295. -/
def Reg.CLAUSE_GEN_LAST : Nat := 0x8000014
/-- R299. -/
def Reg.CLAUSE_EPOCH : Nat := 0x8000018
/-- R295. -/
def Reg.CLAUSE_COMMITS : Nat := 0x800001c
/-- R295. -/
def Reg.CLAUSE_REFUSALS : Nat := 0x8000020
/-- R295. -/
def Reg.CLAUSE_DRAIN_DISCARD : Nat := 0x8000024
/-- R300. -/
def Reg.CLAUSE_SLOT_STATE (i : Nat) : Nat := 0x8000100 + i * 0x10
/-- R295. -/
def Reg.CLAUSE_SLOT_TAG (i : Nat) : Nat := 0x8000104 + i * 0x10
/-- R295. -/
def Reg.CLAUSE_SLOT_GEN (i : Nat) : Nat := 0x8000108 + i * 0x10
/-- R295. -/
def Reg.CLAUSE_SLOT_FLIP (i : Nat) : Nat := 0x800010c + i * 0x10
/-- R344. -/
def Reg.FAB_LANE_CTRL (i : Nat) : Nat := 0x1000000 + i * 0x10000
/-- R345. -/
def Reg.FAB_LANE_STATUS (i : Nat) : Nat := 0x1000004 + i * 0x10000
/-- R342. -/
def Reg.FAB_LANE_TRAIN (i : Nat) : Nat := 0x1000008 + i * 0x10000
/-- R346. -/
def Reg.FAB_FEC_DEGRADE (i : Nat) : Nat := 0x100000c + i * 0x10000
/-- R347. -/
def Reg.FAB_TS_ADJ (i : Nat) : Nat := 0x1000010 + i * 0x10000
/-- R342. -/
def Reg.FAB_LINK_DOWNS (i : Nat) : Nat := 0x1000014 + i * 0x10000
/-- R342. -/
def Reg.FAB_FEC_CORR (i : Nat) : Nat := 0x1000020 + i * 0x10000
/-- R342. -/
def Reg.FAB_FEC_UNCORR (i : Nat) : Nat := 0x1000028 + i * 0x10000
/-- R342. -/
def Reg.FAB_FEC_SYMERR (i : Nat) : Nat := 0x1000030 + i * 0x10000
/-- R342. -/
def Reg.FAB_PRBS_ERR (i : Nat) : Nat := 0x1000038 + i * 0x10000
/-- R348. -/
def Reg.FAB_PORTMAP : Nat := 0x10f0000
/-- R349. -/
def Reg.FAB_WAKE_CTRL : Nat := 0x10f0004
/-- R350. -/
def Reg.FAB_WAKE_STATUS : Nat := 0x10f0008
/-- R343. -/
def Reg.FAB_PORT_STATUS : Nat := 0x10f000c
/-- R352. -/
def Reg.MAC_CTRL (i : Nat) : Nat := 0x1100000 + i * 0x10000
/-- R353. -/
def Reg.MAC_STATUS (i : Nat) : Nat := 0x1100004 + i * 0x10000
/-- R351. -/
def Reg.MAC_ADDR_LO (i : Nat) : Nat := 0x1100008 + i * 0x10000
/-- R351. -/
def Reg.MAC_ADDR_HI (i : Nat) : Nat := 0x110000c + i * 0x10000
/-- R351. -/
def Reg.MAC_MAXLEN (i : Nat) : Nat := 0x1100010 + i * 0x10000
/-- R354. -/
def Reg.MAC_VLAN (i : Nat) : Nat := 0x1100014 + i * 0x10000
/-- R351. -/
def Reg.MAC_PAUSE_MAX (i : Nat) : Nat := 0x1100018 + i * 0x10000
/-- R355. -/
def Reg.MAC_PAUSE_TX (i : Nat) : Nat := 0x110001c + i * 0x10000
/-- R351. -/
def Reg.MAC_PAUSE_LEFT (i : Nat) : Nat := 0x1100020 + i * 0x10000
/-- R351. -/
def Reg.MAC_HASH (i : Nat) (j : Nat) : Nat := 0x1100040 + i * 0x10000 + j * 0x4
/-- R351. -/
def Reg.MAC_COUNTER (i : Nat) (j : Nat) : Nat := 0x1100100 + i * 0x10000 + j * 0x8
/-- R396. -/
def Reg.STREAM_CTRL : Nat := 0x2000000
/-- R397. -/
def Reg.STREAM_ETYPE : Nat := 0x2000004
/-- R398. -/
def Reg.STREAM_FLOOD : Nat := 0x2000008
/-- R394. -/
def Reg.STREAM_LEARN : Nat := 0x200000c
/-- R394. -/
def Reg.STREAM_AGE : Nat := 0x2000010
/-- R394. -/
def Reg.STREAM_STALE : Nat := 0x2000014
/-- R394. -/
def Reg.STREAM_RXQ : Nat := 0x2000018
/-- R394. -/
def Reg.STREAM_TXQ : Nat := 0x200001c
/-- R394. -/
def Reg.STREAM_FREEQ : Nat := 0x2000020
/-- R398. -/
def Reg.STREAM_USAGE : Nat := 0x2000024
/-- R394. -/
def Reg.STREAM_MAC_COUNT : Nat := 0x2000028
/-- R395. -/
def Reg.STREAM_NODESC : Nat := 0x2000030
/-- R395. -/
def Reg.STREAM_UNKNOWN : Nat := 0x2000034
/-- R395. -/
def Reg.STREAM_CPU_DROP : Nat := 0x2000038
/-- R395. -/
def Reg.STREAM_LEARN_FULL : Nat := 0x200003c
/-- R395. -/
def Reg.STREAM_AGED : Nat := 0x2000040
/-- R395. -/
def Reg.STREAM_MOVES : Nat := 0x2000044
/-- R395. -/
def Reg.STREAM_TX_STALE (i : Nat) : Nat := 0x2000080 + i * 0x8
/-- R395. -/
def Reg.STREAM_TX_DOWN (i : Nat) : Nat := 0x2000084 + i * 0x8
/-- R399. -/
def Reg.STREAM_ENTRY_COUNT (i : Nat) (j : Nat) : Nat := 0x2200000 + i * 0x20 + j * 0x4
/-- R399. -/
def Reg.STREAM_ENTRY_LAST (i : Nat) (j : Nat) : Nat := 0x2200018 + i * 0x20 + j * 0x4
/-- R442. -/
def Reg.XBAR_INFLIGHT : Nat := 0x3000000
/-- R439. -/
def Reg.XBAR_ERR_ADDR : Nat := 0x3000004
/-- R442. -/
def Reg.XBAR_ERR_INFO : Nat := 0x3000008
/-- R439. -/
def Reg.XBAR_VAT_ECC : Nat := 0x300000c
/-- R440. -/
def Reg.XBAR_ARB (i : Nat) : Nat := 0x3000100 + i * 0x4
/-- R441. -/
def Reg.XBAR_MASTER (i : Nat) : Nat := 0x3000200 + i * 0x4
/-- R439. -/
def Reg.XBAR_DELIV (i : Nat) : Nat := 0x3000300 + i * 0x4
/-- R439. -/
def Reg.XBAR_GSUM (i : Nat) : Nat := 0x3000400 + i * 0x4
/-- R439. -/
def Reg.XBAR_SSUM (i : Nat) : Nat := 0x3000500 + i * 0x4
/-- R439. -/
def Reg.XBAR_GUAR (i : Nat) (j : Nat) : Nat := 0x3001000 + i * 0x80 + j * 0x4
/-- R444. -/
def Reg.DRAM_CTRL : Nat := 0x3200000
/-- R445. -/
def Reg.DRAM_STATUS : Nat := 0x3200004
/-- R443. -/
def Reg.DRAM_CAP : Nat := 0x3200008
/-- R443. -/
def Reg.DRAM_LTAB : Nat := 0x320000c
/-- R443. -/
def Reg.DRAM_LCOUNT : Nat := 0x3200010
/-- R443. -/
def Reg.DRAM_APERTURE_PAGE (i : Nat) : Nat := 0x3200020 + i * 0x4
/-- R443. -/
def Reg.DRAM_RETRIES : Nat := 0x3200040
/-- R443. -/
def Reg.DRAM_DEGRADED_READS : Nat := 0x3200044
/-- R446. -/
def Reg.QUIRE_PEND (i : Nat) : Nat := 0x3101000 + i * 0x4
/-- R446. -/
def Reg.QUIRE_SW_DATA (i : Nat) (j : Nat) : Nat := 0x3102000 + i * 0x100 + j * 0x4
/-- R448. -/
def Reg.QUIRE_SW_CMD (i : Nat) : Nat := 0x3102040 + i * 0x100
/-- R448. -/
def Reg.QUIRE_SW_STATUS (i : Nat) : Nat := 0x3102044 + i * 0x100
/-- R447. -/
def Reg.QUIRE_CFG (i : Nat) : Nat := 0x3140000 + i * 0x10
/-- R446. -/
def Reg.QUIRE_BASE (i : Nat) : Nat := 0x3140004 + i * 0x10
/-- R446. -/
def Reg.QUIRE_COUNT (i : Nat) : Nat := 0x3140008 + i * 0x10
/-- R446. -/
def Reg.QUIRE_HEAD (i : Nat) : Nat := 0x314000c + i * 0x10
/-- R490. -/
def Reg.REDUN_CTRL : Nat := 0x7000000
/-- R491. -/
def Reg.REDUN_STATUS : Nat := 0x7000004
/-- R492. -/
def Reg.REDUN_CMD : Nat := 0x7000008
/-- R488. -/
def Reg.REDUN_CLAIM : Nat := 0x700000c
/-- R493. -/
def Reg.REDUN_UNIT : Nat := 0x7000010
/-- R493. -/
def Reg.REDUN_REF : Nat := 0x7000014
/-- R488. -/
def Reg.REDUN_REF_MAC_LO : Nat := 0x7000018
/-- R488. -/
def Reg.REDUN_REF_MAC_HI : Nat := 0x700001c
/-- R488. -/
def Reg.REDUN_DECKLE : Nat := 0x7000020
/-- R488. -/
def Reg.REDUN_DECKLE_WIN : Nat := 0x7000024
/-- R488. -/
def Reg.REDUN_FELT_TAB : Nat := 0x7000028
/-- R488. -/
def Reg.REDUN_FELT_COUNT : Nat := 0x700002c
/-- R488. -/
def Reg.REDUN_SHEET_SIZE : Nat := 0x7000030
/-- R494. -/
def Reg.REDUN_SWAP : Nat := 0x7000034
/-- R494. -/
def Reg.REDUN_MISMATCH_LAST : Nat := 0x7000038
/-- R489. -/
def Reg.REDUN_MISMATCH : Nat := 0x7000040
/-- R489. -/
def Reg.REDUN_INPUT_DIFF : Nat := 0x7000044
/-- R489. -/
def Reg.REDUN_COUCHED : Nat := 0x7000048
/-- R489. -/
def Reg.REDUN_COUCH_LATE : Nat := 0x700004c
/-- R489. -/
def Reg.REDUN_SHEET_LOSS : Nat := 0x7000050
/-- R489. -/
def Reg.REDUN_REF_IGNORED : Nat := 0x7000054
/-- R489. -/
def Reg.REDUN_DECKLE_NOACK : Nat := 0x7000058
/-- R489. -/
def Reg.REDUN_DECKLE_CHANGES : Nat := 0x700005c
/-- R509. -/
def Reg.SAP_CTRL (i : Nat) : Nat := 0x5300000 + i * 0x1000
/-- R508. -/
def Reg.SAP_STATUS (i : Nat) : Nat := 0x5300004 + i * 0x1000
/-- R508. -/
def Reg.SAP_RXBASE (i : Nat) : Nat := 0x5300008 + i * 0x1000
/-- R508. -/
def Reg.SAP_FEED (i : Nat) : Nat := 0x530000c + i * 0x1000
/-- R508. -/
def Reg.SAP_PERIOD (i : Nat) : Nat := 0x5300010 + i * 0x1000
/-- R508. -/
def Reg.SAP_PHASE (i : Nat) : Nat := 0x5300014 + i * 0x1000
/-- R508. -/
def Reg.SAP_FRAMES (i : Nat) : Nat := 0x5300018 + i * 0x1000
/-- R508. -/
def Reg.SAP_FRAME_ERRS (i : Nat) : Nat := 0x5300020 + i * 0x1000
/-- R508. -/
def Reg.SAP_RX_MISS (i : Nat) : Nat := 0x5300024 + i * 0x1000
/-- R546. -/
def Reg.AIN_CTRL : Nat := 0x6000000
/-- R546. -/
def Reg.AIN_STATUS : Nat := 0x6000004
/-- R545. -/
def Reg.AIN_RXBASE : Nat := 0x6000008
/-- R545. -/
def Reg.AIN_FEED : Nat := 0x600000c
/-- R545. -/
def Reg.AIN_CLIP_COUNT : Nat := 0x6000010
/-- R545. -/
def Reg.AIN_SYNC_COUNT : Nat := 0x6000014
/-- R546. -/
def Reg.AIN_CH_CFG (i : Nat) : Nat := 0x6000100 + i * 0x20
/-- R545. -/
def Reg.AIN_CH_GAIN (i : Nat) : Nat := 0x6000104 + i * 0x20
/-- R546. -/
def Reg.AIN_CH_STATE (i : Nat) : Nat := 0x6000108 + i * 0x20
/-- R546. -/
def Reg.AIN_CH_CAL0 (i : Nat) : Nat := 0x600010c + i * 0x20
/-- R546. -/
def Reg.AIN_CH_CAL1 (i : Nat) : Nat := 0x6000110 + i * 0x20
/-- R546. -/
def Reg.AIN_CH_CAL2 (i : Nat) : Nat := 0x6000114 + i * 0x20
/-- R546. -/
def Reg.AIN_CH_CAL3 (i : Nat) : Nat := 0x6000118 + i * 0x20
/-- R546. -/
def Reg.AIN_CH_CAL4 (i : Nat) : Nat := 0x600011c + i * 0x20
/-- R548. -/
def Reg.AOUT_OUT_CFG (i : Nat) : Nat := 0x6100000 + i * 0x10
/-- R548. -/
def Reg.AOUT_OUT_STATUS (i : Nat) : Nat := 0x6100004 + i * 0x10
/-- R548. -/
def Reg.AOUT_CLASSD_CTRL : Nat := 0x6100100
/-- R548. -/
def Reg.AOUT_CLASSD_STATUS : Nat := 0x6100104
/-- R547. -/
def Reg.AOUT_HOLD : Nat := 0x6100108
/-- R548. -/
def Reg.AOUT_JD_CTRL : Nat := 0x6100200
/-- R548. -/
def Reg.AOUT_JD_STATUS : Nat := 0x6100204
/-- R550. -/
def Reg.HADC_CTRL : Nat := 0x6200000
/-- R550. -/
def Reg.HADC_STATUS : Nat := 0x6200004
/-- R549. -/
def Reg.HADC_URGENT : Nat := 0x6200008
/-- R550. -/
def Reg.HADC_URG_RESULT : Nat := 0x620000c
/-- R550. -/
def Reg.HADC_TEMP : Nat := 0x6200010
/-- R550. -/
def Reg.HADC_LOAD : Nat := 0x6200014
/-- R550. -/
def Reg.HADC_SEQ (i : Nat) : Nat := 0x6200100 + i * 0x4
/-- R550. -/
def Reg.HADC_RES (i : Nat) : Nat := 0x6200200 + i * 0x4
/-- R550. -/
def Reg.HADC_LIM (i : Nat) : Nat := 0x6200300 + i * 0x4
/-- R549. -/
def Reg.HADC_SLICE_CAL0 (i : Nat) : Nat := 0x6200400 + i * 0x10
/-- R549. -/
def Reg.HADC_SLICE_CAL1 (i : Nat) : Nat := 0x6200404 + i * 0x10
/-- R549. -/
def Reg.HADC_SLICE_CAL2 (i : Nat) : Nat := 0x6200408 + i * 0x10
/-- R549. -/
def Reg.HADC_SLICE_CAL3 (i : Nat) : Nat := 0x620040c + i * 0x10
/-- R551. -/
def Reg.LAMP_CTRL (i : Nat) : Nat := 0x6300000 + i * 0x10
/-- R551. -/
def Reg.LAMP_DUTY (i : Nat) : Nat := 0x6300004 + i * 0x10
/-- R551. -/
def Reg.LAMP_STATUS (i : Nat) : Nat := 0x6300008 + i * 0x10
/-- R551. -/
def Reg.LAMP_THRESH : Nat := 0x6300100
/-- R578. -/
def Reg.BOOT_STRAP : Nat := 0x9000000
/-- R612. -/
def Reg.BOOT_STATUS : Nat := 0x9000004
/-- R613. -/
def Reg.BOOT_CMD : Nat := 0x9000008
/-- R611. -/
def Reg.BOOT_ARG (i : Nat) : Nat := 0x900000c + i * 0x4
/-- R613. -/
def Reg.BOOT_CMD_STATUS : Nat := 0x9000018
/-- R611. -/
def Reg.BOOT_FLASH : Nat := 0x900001c
/-- R611. -/
def Reg.BOOT_FW_CPA : Nat := 0x9000020
/-- R611. -/
def Reg.BOOT_FW_CPB : Nat := 0x9000024
/-- R611. -/
def Reg.BOOT_STAGED_CPA : Nat := 0x9000028
/-- R611. -/
def Reg.BOOT_STAGED_CPB : Nat := 0x900002c
/-- R611. -/
def Reg.SEAL_SRC (i : Nat) : Nat := 0x9000100 + i * 0x20
/-- R611. -/
def Reg.SEAL_LEN (i : Nat) : Nat := 0x9000104 + i * 0x20
/-- R611. -/
def Reg.SEAL_SIG (i : Nat) : Nat := 0x9000108 + i * 0x20
/-- R611. -/
def Reg.SEAL_RES (i : Nat) : Nat := 0x900010c + i * 0x20
/-- R614. -/
def Reg.SEAL_CTRL (i : Nat) : Nat := 0x9000110 + i * 0x20
/-- R614. -/
def Reg.SEAL_STATUS (i : Nat) : Nat := 0x9000114 + i * 0x20
/-- R641. -/
def Reg.HOST_STATUS : Nat := 0xa000000
/-- R641. -/
def Reg.HOST_MSI : Nat := 0xa000004
/-- R641. -/
def Reg.HOST_RELAY_CTRL : Nat := 0xa000008
/-- R641. -/
def Reg.HOST_RELAY_CFG : Nat := 0xa00000c
/-- R640. -/
def Reg.HOST_RELAY_MASTER_LO : Nat := 0xa000010
/-- R640. -/
def Reg.HOST_RELAY_MASTER_HI : Nat := 0xa000014
/-- R640. -/
def Reg.HOST_RELAY_LOST : Nat := 0xa000018
/-- R640. -/
def Reg.HOST_CMDQ_CPA : Nat := 0xa000020
/-- R640. -/
def Reg.HOST_CMDQ_CPB : Nat := 0xa000024
/-- R641. -/
def Reg.HOST_CP_WDOG (i : Nat) : Nat := 0xa000030 + i * 0x4
/-- R640. -/
def Reg.HOST_RELAY_DEV_LO (i : Nat) : Nat := 0xa000100 + i * 0x10
/-- R640. -/
def Reg.HOST_RELAY_DEV_HI (i : Nat) : Nat := 0xa000104 + i * 0x10
/-- R640. -/
def Reg.HOST_RWIN (i : Nat) : Nat := 0xa000800 + i * 0x4

def Fld.GLOBAL_ID_PART : Field := ⟨0, 16⟩
def Fld.GLOBAL_ID_REV : Field := ⟨16, 8⟩
def Fld.GLOBAL_ID_VARIANT : Field := ⟨24, 2⟩
def Fld.GLOBAL_SUMMARY_GROUP : Field := ⟨0, 10⟩
def Fld.GLOBAL_SUMMARY_REMOTE : Field := ⟨10, 1⟩
def Fld.GLOBAL_SUMMARY_SENTINEL : Field := ⟨11, 1⟩
def Fld.GLOBAL_STALE_READ_STALE_READ : Field := ⟨0, 1⟩
def Fld.GLOBAL_STALE_READ_ADDR : Field := ⟨2, 30⟩
def Fld.GLOBAL_HOST_ERR_CAUSE : Field := ⟨0, 4⟩
def Fld.GLOBAL_HOST_ERR_DEVICE : Field := ⟨4, 6⟩
def Fld.GLOBAL_HOST_ERR_WRITE : Field := ⟨10, 1⟩
def Fld.GLOBAL_HOST_ERR_VALID : Field := ⟨11, 1⟩
def Fld.GLOBAL_HOST_WIN_BASE : Field := ⟨0, 8⟩
def Fld.TALLY_STATUS_INGRACE : Field := ⟨0, 8⟩
def Fld.TALLY_STATUS_MAX_ACTION : Field := ⟨8, 2⟩
def Fld.TALLY_STATUS_ORDERED : Field := ⟨10, 1⟩
def Fld.TALLY_FIRST_FAULT : Field := ⟨0, 8⟩
def Fld.TALLY_FIRST_FORCED : Field := ⟨8, 1⟩
def Fld.TALLY_FIRST_VALID : Field := ⟨9, 1⟩
def Fld.TALLY_EVQ_QUIRE : Field := ⟨0, 14⟩
def Fld.TALLY_EVQ_EN : Field := ⟨15, 1⟩
def Fld.TALLY_GRACE_US : Field := ⟨0, 20⟩
def Fld.TALLY_CLASS_CLASS : Field := ⟨0, 2⟩
def Fld.TALLY_CLASS_ACTION : Field := ⟨2, 2⟩
def Fld.TALLY_CLASS_TIMER : Field := ⟨4, 2⟩
def Fld.SENT_CTRL_WATCH_US : Field := ⟨0, 8⟩
def Fld.SENT_CTRL_HOLD_MS : Field := ⟨8, 8⟩
def Fld.SENT_STATUS_ALERT : Field := ⟨0, 1⟩
def Fld.SENT_STATUS_CAUSE : Field := ⟨1, 3⟩
def Fld.SENT_STATUS_HOLDING : Field := ⟨4, 1⟩
def Fld.SENT_STATUS_RESET_PENDING : Field := ⟨5, 1⟩
def Fld.SENT_STATUS_RESETS : Field := ⟨8, 8⟩
def Fld.TIME_CTRL_RATE : Field := ⟨0, 3⟩
def Fld.TIME_CTRL_AUDIO_RUN : Field := ⟨3, 1⟩
def Fld.TIME_STATUS_SERVO_STATE : Field := ⟨0, 2⟩
def Fld.TIME_STATUS_AUDIO_ACTIVE : Field := ⟨2, 1⟩
def Fld.TIME_STATUS_RATE_PENDING : Field := ⟨3, 1⟩
def Fld.TIME_CMD_STEP : Field := ⟨0, 1⟩
def Fld.TIME_CMD_SET : Field := ⟨1, 1⟩
def Fld.TIME_CMD_SERVO_RESET : Field := ⟨2, 1⟩
def Fld.TIME_NOW_FRAC : Field := ⟨0, 32⟩
def Fld.TIME_NOW_NS : Field := ⟨0, 32⟩
def Fld.TIME_NOW_SEC_LO : Field := ⟨0, 32⟩
def Fld.TIME_NOW_SEC_HI : Field := ⟨0, 16⟩
def Fld.TIME_INCR_NOM_FRAC : Field := ⟨0, 32⟩
def Fld.TIME_INCR_NOM_INT : Field := ⟨0, 8⟩
def Fld.TIME_INCR_EFF_FRAC : Field := ⟨0, 32⟩
def Fld.TIME_INCR_EFF_INT : Field := ⟨0, 8⟩
def Fld.TIME_ADJ_FRAC : Field := ⟨0, 32⟩
def Fld.TIME_ADJ_NS : Field := ⟨0, 32⟩
def Fld.TIME_ADJ_SEC_LO : Field := ⟨0, 32⟩
def Fld.TIME_ADJ_SEC_HI : Field := ⟨0, 16⟩
def Fld.TIME_ADJ_SIGN : Field := ⟨31, 1⟩
def Fld.TIME_SERVO_CTRL_ENABLE : Field := ⟨0, 1⟩
def Fld.TIME_SERVO_CTRL_SOURCE : Field := ⟨1, 2⟩
def Fld.TIME_SERVO_CTRL_STEER_A : Field := ⟨3, 1⟩
def Fld.TIME_SERVO_CTRL_STEER_B : Field := ⟨4, 1⟩
def Fld.TIME_SERVO_CTRL_HOLDOVER_MS : Field := ⟨16, 16⟩
def Fld.TIME_SERVO_KP_KP : Field := ⟨0, 24⟩
def Fld.TIME_SERVO_KI_KI : Field := ⟨0, 24⟩
def Fld.TIME_SERVO_LIMIT_ADJ_LIMIT : Field := ⟨0, 31⟩
def Fld.TIME_SERVO_LOCK_LOCK_THR : Field := ⟨0, 16⟩
def Fld.TIME_SERVO_LOCK_LOCK_COUNT : Field := ⟨16, 8⟩
def Fld.TIME_SERVO_LOCK_OUTLIER_MULT : Field := ⟨24, 8⟩
def Fld.TIME_SERVO_OFFSET_LO : Field := ⟨0, 32⟩
def Fld.TIME_SERVO_OFFSET_HI : Field := ⟨0, 16⟩
def Fld.TIME_PULSE_CTRL_MODE : Field := ⟨0, 2⟩
def Fld.TIME_PULSE_CTRL_POLARITY : Field := ⟨2, 1⟩
def Fld.TIME_PULSE_CTRL_ARMED : Field := ⟨3, 1⟩
def Fld.TIME_PULSE_WIDTH_WIDTH : Field := ⟨0, 30⟩
def Fld.TIME_CAP_CTRL_ENABLE : Field := ⟨0, 1⟩
def Fld.TIME_CAP_CTRL_EDGE : Field := ⟨1, 2⟩
def Fld.TIME_CAP_CTRL_TO_QUIRE : Field := ⟨3, 1⟩
def Fld.TIME_CAP_CTRL_QUIRE : Field := ⟨4, 14⟩
def Fld.SYNTH_SYS_STATUS_SYS_LOCK : Field := ⟨0, 1⟩
def Fld.SYNTH_SYS_STATUS_SPLL_LOCK : Field := ⟨1, 3⟩
def Fld.SYNTH_SYS_STATUS_HPLL_LOCK : Field := ⟨4, 1⟩
def Fld.SYNTH_SERDES_CTRL_SPLL0_EN : Field := ⟨0, 1⟩
def Fld.SYNTH_SERDES_CTRL_SPLL0_MODE : Field := ⟨1, 1⟩
def Fld.SYNTH_SERDES_CTRL_SPLL1_EN : Field := ⟨2, 1⟩
def Fld.SYNTH_SERDES_CTRL_SPLL1_MODE : Field := ⟨3, 1⟩
def Fld.SYNTH_SERDES_CTRL_SPLL2_EN : Field := ⟨4, 1⟩
def Fld.SYNTH_ROUTE_AIN_SRC : Field := ⟨0, 1⟩
def Fld.SYNTH_ROUTE_DAC_SRC : Field := ⟨1, 1⟩
def Fld.SYNTH_ROUTE_CLASSD_SRC : Field := ⟨2, 1⟩
def Fld.SYNTH_CTRL_ENABLE : Field := ⟨0, 1⟩
def Fld.SYNTH_CTRL_UPDATE : Field := ⟨1, 1⟩
def Fld.SYNTH_CTRL_SCHED : Field := ⟨2, 1⟩
def Fld.SYNTH_CTRL_CANCEL : Field := ⟨3, 1⟩
def Fld.SYNTH_STATUS_LOCK : Field := ⟨0, 1⟩
def Fld.SYNTH_STATUS_GATED : Field := ⟨1, 1⟩
def Fld.SYNTH_STATUS_FILTER_ERR : Field := ⟨2, 1⟩
def Fld.SYNTH_STATUS_LOCK_V : Field := ⟨8, 8⟩
def Fld.SYNTH_STATUS_REFUSE : Field := ⟨16, 2⟩
def Fld.SYNTH_RATIO_FRAC : Field := ⟨0, 32⟩
def Fld.SYNTH_RATIO_INT : Field := ⟨0, 8⟩
def Fld.SYNTH_OUT_CFG_DIV : Field := ⟨0, 16⟩
def Fld.SYNTH_OUT_CFG_DELAY : Field := ⟨16, 8⟩
def Fld.SYNTH_OUT_CFG_EN : Field := ⟨24, 1⟩
def Fld.PE_CTRL_ENABLE : Field := ⟨0, 1⟩
def Fld.PE_CTRL_FAULT_HOLD : Field := ⟨1, 1⟩
def Fld.PE_CTRL_CLEAR_FAULT : Field := ⟨2, 1⟩
def Fld.PE_CTRL_ABORT : Field := ⟨3, 1⟩
def Fld.PE_STATUS_STATE : Field := ⟨0, 3⟩
def Fld.PE_STATUS_CLEAR_PENDING : Field := ⟨3, 1⟩
def Fld.PE_STATUS_TAGS : Field := ⟨4, 8⟩
def Fld.PE_STATUS_AOVF : Field := ⟨12, 1⟩
def Fld.PE_STATUS_SATF : Field := ⟨13, 1⟩
def Fld.PE_STATUS_XDEG : Field := ⟨14, 1⟩
def Fld.PE_STATUS_LOOP_DEPTH : Field := ⟨16, 2⟩
def Fld.PE_STATUS_PC : Field := ⟨20, 12⟩
def Fld.PE_FAULT_CODE : Field := ⟨0, 4⟩
def Fld.PE_FAULT_SLOT : Field := ⟨4, 2⟩
def Fld.PE_FAULT_PC : Field := ⟨12, 12⟩
def Fld.PE_FAULT_ADDR_ADDR : Field := ⟨0, 32⟩
def Fld.PE_TASK_LIMIT_LIMIT : Field := ⟨0, 24⟩
def Fld.PE_CAPS_LONG : Field := ⟨0, 1⟩
def Fld.PE_CAPS_CLUSTER : Field := ⟨1, 3⟩
def Fld.PE_CAPS_ENGINE : Field := ⟨4, 6⟩
def Fld.SEQ_CTRL_ENABLE : Field := ⟨0, 1⟩
def Fld.SEQ_CTRL_RUNAHEAD : Field := ⟨1, 2⟩
def Fld.SEQ_CTRL_LATENCY : Field := ⟨4, 5⟩
def Fld.SEQ_STATUS_STATE : Field := ⟨0, 2⟩
def Fld.SEQ_STATUS_RECOMPUTING : Field := ⟨2, 1⟩
def Fld.SEQ_CMD_CANCEL : Field := ⟨0, 1⟩
def Fld.SEQ_CMD_SLOT : Field := ⟨2, 2⟩
def Fld.SEQ_CMD_PHRASE : Field := ⟨4, 12⟩
def Fld.SEQ_GUARD_GUARD : Field := ⟨0, 16⟩
def Fld.SEQ_GUARD_SLACK_WARN : Field := ⟨16, 16⟩
def Fld.SEQ_RECOMP_MARGIN : Field := ⟨0, 16⟩
def Fld.SEQ_COUNTS_NPHRASE : Field := ⟨0, 13⟩
def Fld.SEQ_COUNTS_NFEED : Field := ⟨16, 12⟩
def Fld.SEQ_INFLIGHT_NOW : Field := ⟨0, 15⟩
def Fld.SEQ_INFLIGHT_MAX : Field := ⟨16, 15⟩
def Fld.SEQ_SLACK_MIN_SLACK : Field := ⟨0, 32⟩
def Fld.MIX_STATUS_BUSY : Field := ⟨0, 1⟩
def Fld.MIX_STATUS_PHRASE : Field := ⟨4, 12⟩
def Fld.MIX_STATUS_SLOT : Field := ⟨16, 2⟩
def Fld.MIX_RCTRL_BANK : Field := ⟨0, 1⟩
def Fld.MIX_RCTRL_IN_FORCE : Field := ⟨1, 1⟩
def Fld.MIX_LAT_SEL_SINK : Field := ⟨0, 15⟩
def Fld.MIX_LAT_SEL_STAGED : Field := ⟨15, 1⟩
def Fld.MIX_LAT_TOTAL : Field := ⟨0, 21⟩
def Fld.MIX_LAT_RDLY : Field := ⟨21, 4⟩
def Fld.MIX_LAT_VIA_SRC : Field := ⟨25, 1⟩
def Fld.MIX_LAT_EQ : Field := ⟨26, 1⟩
def Fld.MIX_USAGE_BUSES : Field := ⟨0, 11⟩
def Fld.MIX_USAGE_XPS : Field := ⟨11, 17⟩
def Fld.SRC_CTRL_TC : Field := ⟨0, 4⟩
def Fld.SRC_GFEED_FEED : Field := ⟨0, 11⟩
def Fld.SRC_CH_CFG_EN : Field := ⟨0, 1⟩
def Fld.SRC_CH_CFG_DIR : Field := ⟨1, 1⟩
def Fld.SRC_CH_CFG_PORT : Field := ⟨2, 5⟩
def Fld.SRC_CH_CFG_SIDE : Field := ⟨7, 1⟩
def Fld.SRC_CH_CFG_GROUP : Field := ⟨8, 3⟩
def Fld.SRC_CH_STATE_STATE : Field := ⟨0, 2⟩
def Fld.SRC_CH_STATE_LOCK_RUN : Field := ⟨8, 8⟩
def Fld.SRC_CH_STATE_DRIFT : Field := ⟨16, 16⟩
def Fld.CLAUSE_TIMING_ARM_LEAD : Field := ⟨0, 16⟩
def Fld.CLAUSE_STATUS_BUSY : Field := ⟨0, 16⟩
def Fld.CLAUSE_STATUS_CMD_ERR : Field := ⟨16, 4⟩
def Fld.CLAUSE_STATUS_CMD_SLOT : Field := ⟨20, 4⟩
def Fld.CLAUSE_STATUS_ADMITTING : Field := ⟨24, 1⟩
def Fld.CLAUSE_CMD_OP : Field := ⟨0, 2⟩
def Fld.CLAUSE_CMD_SLOT : Field := ⟨2, 4⟩
def Fld.CLAUSE_EPOCH_STREAM : Field := ⟨0, 8⟩
def Fld.CLAUSE_EPOCH_MAC : Field := ⟨8, 8⟩
def Fld.CLAUSE_SLOT_STATE_STATE : Field := ⟨0, 4⟩
def Fld.CLAUSE_SLOT_STATE_CODE : Field := ⟨4, 4⟩
def Fld.CLAUSE_SLOT_STATE_RECORD : Field := ⟨8, 13⟩
def Fld.FAB_LANE_CTRL_EN : Field := ⟨0, 1⟩
def Fld.FAB_LANE_CTRL_AN_EN : Field := ⟨1, 1⟩
def Fld.FAB_LANE_CTRL_TX_POL : Field := ⟨2, 1⟩
def Fld.FAB_LANE_CTRL_RX_POL : Field := ⟨3, 1⟩
def Fld.FAB_LANE_CTRL_LOOP : Field := ⟨4, 2⟩
def Fld.FAB_LANE_CTRL_RETRAIN : Field := ⟨6, 1⟩
def Fld.FAB_LANE_STATUS_STATE : Field := ⟨0, 3⟩
def Fld.FAB_LANE_STATUS_SIGNAL : Field := ⟨3, 1⟩
def Fld.FAB_LANE_STATUS_DEGRADED : Field := ⟨4, 1⟩
def Fld.FAB_LANE_STATUS_PRECODE : Field := ⟨5, 1⟩
def Fld.FAB_LANE_STATUS_RATE : Field := ⟨6, 1⟩
def Fld.FAB_LANE_STATUS_LAST_FAIL : Field := ⟨8, 4⟩
def Fld.FAB_LANE_TRAIN_TIMEOUT_MS : Field := ⟨0, 16⟩
def Fld.FAB_FEC_DEGRADE_THRESH : Field := ⟨0, 16⟩
def Fld.FAB_FEC_DEGRADE_DOWN_ON_DEGRADE : Field := ⟨16, 1⟩
def Fld.FAB_TS_ADJ_TX : Field := ⟨0, 16⟩
def Fld.FAB_TS_ADJ_RX : Field := ⟨16, 16⟩
def Fld.FAB_PORTMAP_WIDTH0 : Field := ⟨0, 2⟩
def Fld.FAB_PORTMAP_WIDTH1 : Field := ⟨2, 2⟩
def Fld.FAB_PORTMAP_WIDTH2 : Field := ⟨4, 2⟩
def Fld.FAB_PORTMAP_WIDTH3 : Field := ⟨6, 2⟩
def Fld.FAB_PORTMAP_WIDTH4 : Field := ⟨8, 2⟩
def Fld.FAB_PORTMAP_WIDTH5 : Field := ⟨10, 2⟩
def Fld.FAB_PORTMAP_WIDTH6 : Field := ⟨12, 2⟩
def Fld.FAB_PORTMAP_WIDTH7 : Field := ⟨14, 2⟩
def Fld.FAB_PORTMAP_PMD0 : Field := ⟨16, 1⟩
def Fld.FAB_PORTMAP_PMD1 : Field := ⟨17, 1⟩
def Fld.FAB_PORTMAP_PMD2 : Field := ⟨18, 1⟩
def Fld.FAB_PORTMAP_PMD3 : Field := ⟨19, 1⟩
def Fld.FAB_PORTMAP_PMD4 : Field := ⟨20, 1⟩
def Fld.FAB_PORTMAP_PMD5 : Field := ⟨21, 1⟩
def Fld.FAB_PORTMAP_PMD6 : Field := ⟨22, 1⟩
def Fld.FAB_PORTMAP_PMD7 : Field := ⟨23, 1⟩
def Fld.FAB_WAKE_CTRL_ARM : Field := ⟨0, 10⟩
def Fld.FAB_WAKE_CTRL_ENTER : Field := ⟨10, 1⟩
def Fld.FAB_WAKE_CTRL_SEND_LANE : Field := ⟨11, 4⟩
def Fld.FAB_WAKE_CTRL_SEND : Field := ⟨15, 1⟩
def Fld.FAB_WAKE_CTRL_SENDING : Field := ⟨16, 1⟩
def Fld.FAB_WAKE_STATUS_WOKE : Field := ⟨0, 1⟩
def Fld.FAB_WAKE_STATUS_LANE : Field := ⟨1, 4⟩
def Fld.FAB_PORT_STATUS_UP : Field := ⟨0, 8⟩
def Fld.MAC_CTRL_RX_EN : Field := ⟨0, 1⟩
def Fld.MAC_CTRL_TX_EN : Field := ⟨1, 1⟩
def Fld.MAC_CTRL_PROMISC : Field := ⟨2, 1⟩
def Fld.MAC_CTRL_BCAST : Field := ⟨3, 1⟩
def Fld.MAC_CTRL_PAUSE_RX_EN : Field := ⟨4, 1⟩
def Fld.MAC_CTRL_ACCEPT : Field := ⟨5, 2⟩
def Fld.MAC_CTRL_TX_TAG : Field := ⟨7, 2⟩
def Fld.MAC_STATUS_LINK : Field := ⟨0, 1⟩
def Fld.MAC_STATUS_PAUSED : Field := ⟨1, 1⟩
def Fld.MAC_STATUS_WIDTH : Field := ⟨2, 2⟩
def Fld.MAC_STATUS_RATE : Field := ⟨4, 1⟩
def Fld.MAC_MAXLEN_MAX_LEN : Field := ⟨0, 14⟩
def Fld.MAC_VLAN_PVID : Field := ⟨0, 12⟩
def Fld.MAC_VLAN_PCP : Field := ⟨12, 3⟩
def Fld.MAC_PAUSE_MAX_PAUSE_MAX : Field := ⟨0, 16⟩
def Fld.MAC_PAUSE_TX_QUANTA : Field := ⟨0, 16⟩
def Fld.MAC_PAUSE_TX_SEND : Field := ⟨16, 1⟩
def Fld.MAC_PAUSE_TX_PENDING : Field := ⟨17, 1⟩
def Fld.MAC_PAUSE_LEFT_LEFT : Field := ⟨0, 16⟩
def Fld.STREAM_CTRL_RX_EN : Field := ⟨0, 1⟩
def Fld.STREAM_CTRL_TX_EN : Field := ⟨1, 1⟩
def Fld.STREAM_CTRL_FWD_EN : Field := ⟨2, 1⟩
def Fld.STREAM_CTRL_PTP_TC : Field := ⟨3, 1⟩
def Fld.STREAM_ETYPE_FOLIO : Field := ⟨0, 16⟩
def Fld.STREAM_ETYPE_REFEREE : Field := ⟨16, 16⟩
def Fld.STREAM_FLOOD_UC : Field := ⟨0, 8⟩
def Fld.STREAM_FLOOD_MC : Field := ⟨8, 8⟩
def Fld.STREAM_LEARN_PORTS : Field := ⟨0, 8⟩
def Fld.STREAM_AGE_PERIOD : Field := ⟨0, 16⟩
def Fld.STREAM_STALE_STALE_NS : Field := ⟨0, 20⟩
def Fld.STREAM_RXQ_CPU : Field := ⟨0, 14⟩
def Fld.STREAM_RXQ_PTP : Field := ⟨16, 14⟩
def Fld.STREAM_TXQ_CPU : Field := ⟨0, 14⟩
def Fld.STREAM_TXQ_TS : Field := ⟨16, 14⟩
def Fld.STREAM_FREEQ_QUIRE : Field := ⟨0, 14⟩
def Fld.STREAM_USAGE_RX_CH : Field := ⟨0, 15⟩
def Fld.STREAM_USAGE_TX_CH : Field := ⟨16, 15⟩
def Fld.STREAM_MAC_COUNT_DYNAMIC : Field := ⟨0, 15⟩
def Fld.STREAM_MAC_COUNT_STATIC : Field := ⟨16, 15⟩
def Fld.XBAR_INFLIGHT_NOW : Field := ⟨0, 15⟩
def Fld.XBAR_INFLIGHT_MAX : Field := ⟨16, 15⟩
def Fld.XBAR_ERR_INFO_MASTER : Field := ⟨0, 5⟩
def Fld.XBAR_ERR_INFO_WRITE : Field := ⟨5, 1⟩
def Fld.XBAR_ERR_INFO_CAUSE : Field := ⟨6, 2⟩
def Fld.XBAR_ERR_INFO_VALID : Field := ⟨8, 1⟩
def Fld.XBAR_ARB_MODE : Field := ⟨0, 1⟩
def Fld.XBAR_ARB_PARK : Field := ⟨1, 5⟩
def Fld.XBAR_MASTER_PRIO : Field := ⟨0, 4⟩
def Fld.XBAR_MASTER_QOS : Field := ⟨4, 4⟩
def Fld.XBAR_MASTER_SACRIFICE : Field := ⟨8, 1⟩
def Fld.DRAM_CTRL_EN : Field := ⟨0, 1⟩
def Fld.DRAM_CTRL_RATE : Field := ⟨1, 3⟩
def Fld.DRAM_CTRL_RETRAIN : Field := ⟨4, 1⟩
def Fld.DRAM_STATUS_STATE0 : Field := ⟨0, 3⟩
def Fld.DRAM_STATUS_STATE1 : Field := ⟨3, 3⟩
def Fld.DRAM_STATUS_RATE : Field := ⟨6, 3⟩
def Fld.DRAM_STATUS_DEGRADED0 : Field := ⟨9, 1⟩
def Fld.DRAM_STATUS_DEGRADED1 : Field := ⟨10, 1⟩
def Fld.DRAM_STATUS_REFRESH0 : Field := ⟨11, 2⟩
def Fld.DRAM_STATUS_REFRESH1 : Field := ⟨13, 2⟩
def Fld.DRAM_CAP_GIB : Field := ⟨0, 5⟩
def Fld.DRAM_LCOUNT_COUNT : Field := ⟨0, 13⟩
def Fld.DRAM_APERTURE_PAGE_PAGE : Field := ⟨0, 3⟩
def Fld.QUIRE_SW_CMD_QUIRE : Field := ⟨0, 14⟩
def Fld.QUIRE_SW_CMD_PUSH : Field := ⟨16, 1⟩
def Fld.QUIRE_SW_CMD_POP : Field := ⟨17, 1⟩
def Fld.QUIRE_SW_STATUS_BUSY : Field := ⟨0, 1⟩
def Fld.QUIRE_SW_STATUS_PUSHED : Field := ⟨1, 1⟩
def Fld.QUIRE_SW_STATUS_POPPED : Field := ⟨2, 1⟩
def Fld.QUIRE_SW_STATUS_EMPTY : Field := ⟨3, 1⟩
def Fld.QUIRE_SW_STATUS_FULL : Field := ⟨4, 1⟩
def Fld.QUIRE_SW_STATUS_DISABLED : Field := ⟨5, 1⟩
def Fld.QUIRE_SW_STATUS_ECC_LOST : Field := ⟨6, 1⟩
def Fld.QUIRE_SW_STATUS_COUNT : Field := ⟨15, 17⟩
def Fld.QUIRE_CFG_EN : Field := ⟨0, 1⟩
def Fld.QUIRE_CFG_ESIZE : Field := ⟨1, 2⟩
def Fld.QUIRE_CFG_EV_NOTEMPTY : Field := ⟨3, 1⟩
def Fld.QUIRE_CFG_EV_EMPTY : Field := ⟨4, 1⟩
def Fld.QUIRE_CFG_EV_FULL : Field := ⟨5, 1⟩
def Fld.QUIRE_CFG_EV_OVF : Field := ⟨6, 1⟩
def Fld.QUIRE_CFG_DEPTH : Field := ⟨16, 16⟩
def Fld.QUIRE_COUNT_COUNT : Field := ⟨0, 17⟩
def Fld.QUIRE_HEAD_HEAD : Field := ⟨0, 16⟩
def Fld.QUIRE_HEAD_DROP : Field := ⟨16, 16⟩
def Fld.REDUN_CTRL_PAIR : Field := ⟨0, 1⟩
def Fld.REDUN_CTRL_INIT_ACTIVE : Field := ⟨1, 1⟩
def Fld.REDUN_CTRL_CHECK_EN : Field := ⟨2, 1⟩
def Fld.REDUN_CTRL_COUCH_EN : Field := ⟨3, 1⟩
def Fld.REDUN_CTRL_FELT_LANES : Field := ⟨4, 1⟩
def Fld.REDUN_STATUS_ROLE : Field := ⟨0, 2⟩
def Fld.REDUN_STATUS_DROPPED : Field := ⟨2, 1⟩
def Fld.REDUN_STATUS_REF : Field := ⟨3, 2⟩
def Fld.REDUN_STATUS_FELT : Field := ⟨5, 2⟩
def Fld.REDUN_STATUS_EPOCH_PENDING : Field := ⟨7, 1⟩
def Fld.REDUN_CMD_SWAP : Field := ⟨0, 1⟩
def Fld.REDUN_CMD_DROP : Field := ⟨1, 1⟩
def Fld.REDUN_CMD_RECLAIM : Field := ⟨2, 1⟩
def Fld.REDUN_UNIT_UNIT_ID : Field := ⟨0, 16⟩
def Fld.REDUN_UNIT_PAIR : Field := ⟨16, 16⟩
def Fld.REDUN_REF_REF_ID : Field := ⟨0, 16⟩
def Fld.REDUN_REF_REF_PORTS : Field := ⟨16, 8⟩
def Fld.REDUN_FELT_COUNT_COUNT : Field := ⟨0, 13⟩
def Fld.REDUN_SHEET_SIZE_SIZE : Field := ⟨0, 20⟩
def Fld.REDUN_SWAP_REQ_SEQ : Field := ⟨0, 16⟩
def Fld.REDUN_SWAP_OUTSTANDING : Field := ⟨16, 1⟩
def Fld.REDUN_SWAP_HOLDOFF : Field := ⟨17, 3⟩
def Fld.REDUN_SWAP_CAUSE : Field := ⟨20, 4⟩
def Fld.REDUN_MISMATCH_LAST_PHRASE : Field := ⟨0, 12⟩
def Fld.REDUN_MISMATCH_LAST_FOLIO : Field := ⟨12, 20⟩
def Fld.SAP_CTRL_EN : Field := ⟨0, 1⟩
def Fld.SAP_CTRL_FORMAT : Field := ⟨1, 1⟩
def Fld.SAP_CTRL_WIDTH : Field := ⟨2, 2⟩
def Fld.SAP_CTRL_MODE : Field := ⟨4, 1⟩
def Fld.SAP_CTRL_RX_EN : Field := ⟨5, 1⟩
def Fld.SAP_CTRL_TX_EN : Field := ⟨6, 1⟩
def Fld.SAP_STATUS_STATE : Field := ⟨0, 2⟩
def Fld.SAP_FEED_FEED : Field := ⟨0, 11⟩
def Fld.SAP_PERIOD_PERIOD : Field := ⟨0, 24⟩
def Fld.SAP_PHASE_PHASE : Field := ⟨0, 16⟩
def Fld.AIN_CTRL_EN : Field := ⟨0, 1⟩
def Fld.AIN_CTRL_CAL_EN : Field := ⟨1, 1⟩
def Fld.AIN_STATUS_SETTLING : Field := ⟨0, 16⟩
def Fld.AIN_STATUS_SPARE : Field := ⟨16, 5⟩
def Fld.AIN_STATUS_CAL_STOPPED : Field := ⟨21, 1⟩
def Fld.AIN_FEED_FEED : Field := ⟨0, 11⟩
def Fld.AIN_CH_CFG_EN : Field := ⟨0, 1⟩
def Fld.AIN_CH_CFG_PH_EN : Field := ⟨1, 1⟩
def Fld.AIN_CH_CFG_PH_LAMP : Field := ⟨2, 3⟩
def Fld.AIN_CH_GAIN_GAIN : Field := ⟨0, 7⟩
def Fld.AIN_CH_STATE_CAL : Field := ⟨0, 2⟩
def Fld.AIN_CH_STATE_SETTLING : Field := ⟨2, 1⟩
def Fld.AIN_CH_STATE_PH_MUTE : Field := ⟨3, 1⟩
def Fld.AIN_CH_STATE_MOD : Field := ⟨4, 5⟩
def Fld.AIN_CH_CAL0_TEMP : Field := ⟨0, 16⟩
def Fld.AIN_CH_CAL0_LCLASS : Field := ⟨16, 3⟩
def Fld.AIN_CH_CAL1_OFFSET : Field := ⟨0, 32⟩
def Fld.AIN_CH_CAL2_GCORR : Field := ⟨0, 32⟩
def Fld.AIN_CH_CAL3_SLOPE : Field := ⟨0, 16⟩
def Fld.AIN_CH_CAL3_GSLOPE : Field := ⟨16, 16⟩
def Fld.AIN_CH_CAL4_TAKEN : Field := ⟨0, 32⟩
def Fld.AOUT_OUT_CFG_EN : Field := ⟨0, 1⟩
def Fld.AOUT_OUT_CFG_MUTE : Field := ⟨1, 1⟩
def Fld.AOUT_OUT_CFG_AUTO_MUTE : Field := ⟨2, 1⟩
def Fld.AOUT_OUT_CFG_JD : Field := ⟨3, 2⟩
def Fld.AOUT_OUT_STATUS_STATE : Field := ⟨0, 3⟩
def Fld.AOUT_OUT_STATUS_MUTE_SW : Field := ⟨3, 1⟩
def Fld.AOUT_OUT_STATUS_MUTE_JACK : Field := ⟨4, 1⟩
def Fld.AOUT_OUT_STATUS_MUTE_CLK : Field := ⟨5, 1⟩
def Fld.AOUT_OUT_STATUS_OC_LATCH : Field := ⟨6, 1⟩
def Fld.AOUT_CLASSD_CTRL_SPREAD : Field := ⟨0, 1⟩
def Fld.AOUT_CLASSD_CTRL_STAGGER : Field := ⟨1, 1⟩
def Fld.AOUT_CLASSD_STATUS_CLK_OK : Field := ⟨0, 1⟩
def Fld.AOUT_CLASSD_STATUS_DEV : Field := ⟨8, 8⟩
def Fld.AOUT_HOLD_RAMP : Field := ⟨0, 8⟩
def Fld.AOUT_JD_CTRL_EN : Field := ⟨0, 4⟩
def Fld.AOUT_JD_CTRL_POL : Field := ⟨4, 4⟩
def Fld.AOUT_JD_STATUS_INSERTED : Field := ⟨0, 4⟩
def Fld.AOUT_JD_STATUS_RAW : Field := ⟨4, 4⟩
def Fld.HADC_CTRL_EN : Field := ⟨0, 1⟩
def Fld.HADC_CTRL_CAL_EN : Field := ⟨1, 1⟩
def Fld.HADC_STATUS_NEXT : Field := ⟨0, 5⟩
def Fld.HADC_STATUS_SPARE : Field := ⟨5, 4⟩
def Fld.HADC_STATUS_QUEUE : Field := ⟨9, 3⟩
def Fld.HADC_STATUS_STALE : Field := ⟨12, 9⟩
def Fld.HADC_URGENT_INPUT : Field := ⟨0, 6⟩
def Fld.HADC_URG_RESULT_CODE : Field := ⟨0, 12⟩
def Fld.HADC_URG_RESULT_INPUT : Field := ⟨12, 6⟩
def Fld.HADC_URG_RESULT_VALID : Field := ⟨18, 1⟩
def Fld.HADC_TEMP_ADIE : Field := ⟨0, 16⟩
def Fld.HADC_TEMP_DDIE : Field := ⟨16, 16⟩
def Fld.HADC_LOAD_LCLASS : Field := ⟨0, 3⟩
def Fld.HADC_LOAD_PVDD : Field := ⟨16, 12⟩
def Fld.HADC_SEQ_INPUT : Field := ⟨0, 6⟩
def Fld.HADC_SEQ_EN : Field := ⟨6, 1⟩
def Fld.HADC_SEQ_LIMIT_EN : Field := ⟨7, 1⟩
def Fld.HADC_RES_CODE : Field := ⟨0, 12⟩
def Fld.HADC_RES_NEW : Field := ⟨16, 1⟩
def Fld.HADC_LIM_LOW : Field := ⟨0, 12⟩
def Fld.HADC_LIM_HIGH : Field := ⟨16, 12⟩
def Fld.HADC_SLICE_CAL0_TEMP : Field := ⟨0, 16⟩
def Fld.HADC_SLICE_CAL0_LCLASS : Field := ⟨16, 3⟩
def Fld.HADC_SLICE_CAL1_OFFSET : Field := ⟨0, 32⟩
def Fld.HADC_SLICE_CAL2_GCORR : Field := ⟨0, 32⟩
def Fld.HADC_SLICE_CAL3_SLOPE : Field := ⟨0, 16⟩
def Fld.HADC_SLICE_CAL3_GSLOPE : Field := ⟨16, 16⟩
def Fld.LAMP_CTRL_EN : Field := ⟨0, 1⟩
def Fld.LAMP_CTRL_MODE : Field := ⟨1, 1⟩
def Fld.LAMP_CTRL_STRETCH : Field := ⟨2, 1⟩
def Fld.LAMP_CTRL_ON : Field := ⟨3, 1⟩
def Fld.LAMP_CTRL_ISET : Field := ⟨4, 6⟩
def Fld.LAMP_DUTY_DUTY : Field := ⟨0, 12⟩
def Fld.LAMP_STATUS_DIAG : Field := ⟨0, 2⟩
def Fld.LAMP_STATUS_LAST : Field := ⟨4, 12⟩
def Fld.LAMP_THRESH_OPEN_TH : Field := ⟨0, 12⟩
def Fld.LAMP_THRESH_SHORT_TH : Field := ⟨16, 12⟩
def Fld.BOOT_STRAP_HOST_IF : Field := ⟨0, 1⟩
def Fld.BOOT_STRAP_FLASH_WIDTH : Field := ⟨1, 1⟩
def Fld.BOOT_STRAP_SLOT_POLICY : Field := ⟨2, 2⟩
def Fld.BOOT_STRAP_FLASH_CLK : Field := ⟨4, 2⟩
def Fld.BOOT_STRAP_RES : Field := ⟨6, 2⟩
def Fld.BOOT_STATUS_STATE : Field := ⟨0, 3⟩
def Fld.BOOT_STATUS_SLOT : Field := ⟨3, 1⟩
def Fld.BOOT_STATUS_VERIFIED_A : Field := ⟨4, 1⟩
def Fld.BOOT_STATUS_VERIFIED_B : Field := ⟨5, 1⟩
def Fld.BOOT_STATUS_CAUSE : Field := ⟨6, 4⟩
def Fld.BOOT_CMD_OP : Field := ⟨0, 4⟩
def Fld.BOOT_CMD_STATUS_BUSY : Field := ⟨0, 1⟩
def Fld.BOOT_CMD_STATUS_ERR : Field := ⟨1, 3⟩
def Fld.BOOT_FLASH_CAP : Field := ⟨0, 16⟩
def Fld.SEAL_CTRL_OP : Field := ⟨0, 1⟩
def Fld.SEAL_CTRL_KEY : Field := ⟨1, 2⟩
def Fld.SEAL_CTRL_START : Field := ⟨3, 1⟩
def Fld.SEAL_STATUS_STATE : Field := ⟨0, 3⟩
def Fld.SEAL_STATUS_PASS : Field := ⟨3, 1⟩
def Fld.HOST_STATUS_IF : Field := ⟨0, 1⟩
def Fld.HOST_STATUS_LINK : Field := ⟨1, 1⟩
def Fld.HOST_STATUS_SPEED : Field := ⟨2, 3⟩
def Fld.HOST_STATUS_WIDTH : Field := ⟨5, 2⟩
def Fld.HOST_MSI_ACK : Field := ⟨0, 1⟩
def Fld.HOST_RELAY_CTRL_EN : Field := ⟨0, 1⟩
def Fld.HOST_RELAY_CTRL_TIMEOUT_US : Field := ⟨16, 16⟩
def Fld.HOST_RELAY_CFG_ETYPE : Field := ⟨0, 16⟩
def Fld.HOST_RELAY_CFG_ACCEPT : Field := ⟨16, 1⟩
def Fld.HOST_CMDQ_CPA_CMD : Field := ⟨0, 14⟩
def Fld.HOST_CMDQ_CPA_RSP : Field := ⟨16, 14⟩
def Fld.HOST_CMDQ_CPB_CMD : Field := ⟨0, 14⟩
def Fld.HOST_CMDQ_CPB_RSP : Field := ⟨16, 14⟩
def Fld.HOST_CP_WDOG_TIMEOUT_MS : Field := ⟨0, 16⟩
def Fld.HOST_CP_WDOG_KICK : Field := ⟨16, 1⟩
def Fld.HOST_CP_WDOG_EN : Field := ⟨17, 1⟩
def Fld.HOST_RELAY_DEV_HI_ADDR : Field := ⟨0, 16⟩
def Fld.HOST_RELAY_DEV_HI_PORTS : Field := ⟨16, 8⟩
def Fld.HOST_RELAY_DEV_HI_VALID : Field := ⟨31, 1⟩
def Fld.HOST_RWIN_BASE : Field := ⟨0, 16⟩

end Sys2Proof.Machine
end

