-- ==== Sys2Proof/Machine/State.lean ====
section
/-! DEFINITION. The state of the SL8420 as plain data: every register (in one sparse map by local address), the
memories, the queue of commands that wait, and what the rules make the block keep beyond its registers. PT values
held as one number are in units of 2^-32 ns (R39). -/

namespace Sys2Proof.Machine

/-- Why a step stops with a fault. -/
inductive Fault where
  /-- Raised by RESET_N_RISE when MODE0-MODE2 are not all low: the device is in a production test mode, in which no
  behaviour of the manual is guaranteed (R645). Safe: the model stops where the spec gives no effect. -/
  | testMode
  deriving DecidableEq, Repr

/-- Why a step has no meaning. -/
inductive Refusal where
  /-- Raised by the dispatch for a command whose meaning is not written yet, by its mnemonic. Safe: the model stops. -/
  | notModelled (mnemonic : String)
  deriving DecidableEq, Repr

/-- A sparse map in canonical form: keys strictly rising, no entry equal to what an unlisted key reads as. -/
abbrev SMap (α : Type) := List (Nat × α)

/-- Memory: addresses strictly rising, no entry equal to what an unlisted byte reads as (zero; log entry 3). -/
abbrev Memory := List Host.Cell

/-- A host event record that waits for its push (R67): gloss, source, the quire taken at the raise, word 3. -/
structure EventRec where
  sec    : Nat
  ns     : Nat
  source : Nat
  quire  : Nat
  word3  : Word
  deriving DecidableEq, Repr

/-- What a pulse output keeps from its arming (R57), in 2^-32 ns, the index of its next edge (R59), and whether a pulse
is in progress. -/
structure Pulse where
  armed  : Bool := false
  train  : Bool := false
  start  : Int := 0
  period : Nat := 0
  width  : Nat := 0
  next   : Nat := 0
  high   : Bool := false
  deriving DecidableEq, Repr

/-- A servo result that waits its 20 ns (R49): P and I in 2^-8 LSB, adj in LSB. -/
structure ServoOut where
  p   : Int
  i   : Int
  adj : Int
  deriving DecidableEq, Repr

/-- A command of TIME_CMD that waits for its tick (R30). -/
inductive TimeCmd where
  | step | set
  deriving DecidableEq, Repr

/-- The time unit beyond its registers (R28-R79). `cmds` holds the STEP and SET commands that wait for the next TU_CLK tick
(R30), in the order of their writes; `out` the servo results that wait their 20 ns, oldest first; `capSeen`
the PT of the last captured edge by input, on the present scale of PT (R64). -/
structure TimeSt where
  cmds     : List TimeCmd := []
  p        : Int := 0
  i        : Int := 0
  out      : List ServoOut := []
  inRun    : Nat := 0
  midRun   : Nat := 0
  outRun   : Nat := 0
  stopAsked : Bool := false
  pulses   : SMap Pulse := []
  capSeen  : SMap (Option Int) := []
  records  : List EventRec := []
  evSeq    : BitVec 16 := 0
  edge     : SMap Int := []
  servoC   : SMap Int := []
  ticks    : Nat := 0
  deriving DecidableEq, Repr

/-- The synthesis PLLs beyond their registers: the SH values staged (R88), the PLLs in fast loss (R96), and those that
relock with outputs gated (R94). -/
structure SynthSt where
  staged   : SMap Word := []
  fastLoss : BitVec 2 := 0
  relock   : BitVec 2 := 0
  wasLocked : BitVec 2 := 0
  deriving DecidableEq, Repr

/-- An active repeat level (R133): its index, the first and the last instruction of its body, and whether the loop buffer
holds the body. -/
structure Loop where
  level : Nat
  first : Nat
  last  : Nat
  held  : Bool
  deriving DecidableEq, Repr

/-- A far transfer of an engine (R143-R150). `data` is what a PUT sends (R675) or what has come for a GET; `drop` marks a transfer
whose engine was reset with the array (R148); `err` and `deg` are an error answer and a degraded read (R145). -/
structure Xfer where
  tag   : Nat
  put   : Bool
  inY   : Bool
  loc   : Nat
  far   : Nat
  len   : Nat
  pc    : Nat
  data  : List Byte
  drop  : Bool
  err   : Bool
  deg   : Bool
  deriving DecidableEq, Repr

/-- The registers an engine's phrase sees (R114), beyond TRACE and PC, which PE_TRACE and PE_STATUS hold, and what the
engine keeps of its task. Register files are sparse with zero for what is not listed. -/
structure PeCore where
  v      : SMap (BitVec 32) := []
  acc    : SMap (BitVec 72) := []
  cf     : BitVec 4 := 0
  a      : SMap (BitVec 16) := []
  m      : SMap (BitVec 32) := []
  o      : SMap (BitVec 16) := []
  lc     : SMap (BitVec 16) := []
  loops  : List Loop := []
  xfers  : List Xfer := []
  crc    : BitVec 64 := 0xFFFFFFFFFFFFFFFF
  puts   : Bool := false
  ended  : Bool := false
  task   : Option (Nat × Nat) := none
  qos    : Nat := 0
  accWritten : List Nat := []
  ctlWritten : List Nat := []
  stalled : Bool := false
  enableWait : Bool := false
  deriving DecidableEq, Repr

/-- The state of a task (R169-R183). -/
inductive TaskState where
  | pending | ready | running (engine : Nat) | mix | done | substituted
  deriving DecidableEq, Repr

/-- A task of an unreleased folio (R163, R177). `disp` says that it has been dispatched (R187); `stateIn` is the state slot it
reads, once its dispatch has fixed it (R178). -/
structure Task where
  phrase  : Nat
  folio   : Nat
  count   : Nat
  st      : TaskState
  recomp  : Bool
  disp    : Bool
  stateIn : Option Nat
  digest  : BitVec 64
  deriving DecidableEq, Repr

/-- What SEQ keeps of a folio until its release (R180-R185): the PT of the last completion, whether its deadline has been
handled, and whether it missed. -/
structure FolioInfo where
  folio  : Nat
  last   : Option Nat
  closed : Bool
  missed : Bool
  deriving DecidableEq, Repr

/-- A substitution copy (R181, R182): whose it is, where it writes, the bytes it overwrites, and the PTs between which it
moves its bytes. -/
structure SeqCopy where
  phrase : Nat
  folio  : Nat
  dst    : Nat
  old    : List Byte
  start  : Nat
  stop   : Nat
  deriving DecidableEq, Repr

/-- The sequencer beyond its registers. `first` is the first folio since the last start, `next` the first one not yet
created, `released` the folio released last since then; `bank` (B or not) is the bank of a phrase before its `flips`
(phrase, flip folio, bank from it on); `gens` are (folio, generation from it on); `present` holds folio + 1 by feed * 4 +
slot; `slotOf` holds the state slot + 1 that the first unreleased folio of a phrase reads where it is not folio mod 4
(R178, R195); `startArmed` is the folio of the start boundary; `used` holds the clusters (8 for MIX) that have got a task in
the SYS_CLK cycle of the last dispatch (R174); `cut` holds the tasks squashed at PT `cutAt` (R474). -/
structure SeqSt where
  first   : Nat := 0
  next    : Nat := 0
  released : Option Nat := none
  tasks   : List Task := []
  info    : List FolioInfo := []
  bank    : SMap Bool := []
  flips   : List (Nat × Nat × Bool) := []
  gens    : List (Nat × Word) := []
  present : SMap Nat := []
  slotOf  : SMap Nat := []
  copies  : List SeqCopy := []
  startArmed : Option Nat := none
  used    : List Nat := []
  cutAt   : Option Nat := none
  cut     : List (Nat × Nat) := []
  deriving DecidableEq, Repr

/-- A mix task as its descriptor gives it (R177, R212): phrase, folio, and the addresses PARAM, STATE_IN, STATE_OUT, IO. -/
structure MixJob where
  phrase   : Nat
  folio    : Nat
  param    : Nat
  stateIn  : Nat
  stateOut : Nat
  io       : Nat
  deriving DecidableEq, Repr

/-- The routing that is in force from a folio on (R235, R239): bank B or not, the two bases, and the RDLY + 1 that MIX has
computed, by sink. -/
structure Route where
  first : Nat
  bankB : Bool
  baseA : Word
  baseB : Word
  rdly  : SMap Nat
  deriving DecidableEq, Repr

/-- MIX beyond its registers (R212, R213, R235): the queue of handed-over tasks and the one in execution, whether SEQ has
aborted it, the routings by first folio, the RDLY + 1 computed for the values in force, and the samples of the serial and
analogue sinks of the folio released last, by sink * 8 + sample. -/
structure MixSt where
  queue   : List MixJob := []
  running : Option MixJob := none
  aborting : Bool := false
  routes  : List Route := []
  rdly    : SMap Nat := []
  sinks   : SMap Word := []
  deriving DecidableEq, Repr

/-- A track record of an SRC channel (R244): the folio, ρ in U8.40, POS in U40.24 (which may be negative before its first
sample), and for an OUT channel the port sample that POS belongs to. -/
structure Track where
  folio : Nat
  rho   : Nat
  pos   : Int
  index : Nat
  deriving DecidableEq, Repr

/-- An SRC channel beyond its registers (R241-R249): its configuration in force, the blocks received since the entry to
ACQUIRE (first index, PT of the gloss), its records by folio, the samples it can still use by index, the last folio
written, the folios in which its output ramps up and down, its last output sample, and the consecutive folios inside 20 ppm
since it entered ACQUIRE (log entry 127). -/
structure SrcCh where
  cfg     : Word := 0
  blocks  : List (Nat × Nat) := []
  tracks  : List Track := []
  samples : SMap Word := []
  wrote   : Option Nat := none
  upAt    : Option Nat := none
  downAt  : Option Nat := none
  lastOut : Word := 0
  run     : Nat := 0
  deriving DecidableEq, Repr

/-- A clause slot beyond its registers (R259-R300): the fields of its header, C as a PT and as a folio index, ARM_LEAD and PT
at SUBMIT, the master that submitted it, its records as words, its place in the order of submissions and the group of
submissions at one PT (R293), the largest CRIT (R283), the phrases it writes, the base of the phrase table that locates their
banks (R275), the end state of its UNWIND, the objects whose mirror pass has not started (a phrase, or 4 096 for the route
bank), and its flip folio (R280). -/
structure ClauseSlot where
  image    : Nat := 0
  nrec     : Nat := 0
  twoPhase : Bool := false
  immediate : Bool := false
  kind     : Nat := 0
  gen      : Word := 0
  c        : Nat := 0
  cFolio   : Nat := 0
  armLead  : Nat := 0
  submitPt : Nat := 0
  master   : RegMaster := .host
  recs     : List (Word × Word × Word × Word) := []
  order    : Nat := 0
  group    : Nat := 0
  crit     : Nat := 0
  affected : List Nat := []
  ptab     : Nat := 0
  endState : Nat := 0
  mirror   : List Nat := []
  flip     : Nat := 0
  rdly     : Option (SMap Nat) := none
  deriving DecidableEq, Repr

/-- CLAUSE beyond its registers: the slots, the submissions and their groups counted, the PT of the last one, and the retiring
entry versions with the commit they belong to (MAC or stream table, index, epoch before it, PT of the commit). -/
structure ClauseSt where
  slots    : SMap ClauseSlot := []
  count    : Nat := 0
  groups   : Nat := 0
  lastPt   : Option Nat := none
  retiring : List (Bool × Nat × Nat × Nat) := []
  deriving DecidableEq, Repr

/-- What a queued frame is, for its stamping at departure (R377, R378, R389, R390, R392, R454): a folio or AAF frame of a
stream table entry, a referee frame, a control frame, a transit frame (whether the transparent clock corrects it), a
relay frame, or a PAUSE frame. -/
inductive FrameKind where
  | folio (entry : Nat)
  | aaf (entry : Nat)
  | referee
  | control (oneStep tsReq : Bool) (cookie : Nat)
  | transit (tc : Bool)
  | relay
  | pause
  deriving DecidableEq, Repr

/-- A queued frame: bytes from the destination address to the last byte before the FCS, without tag, the tag of its
descriptor (R328), its descriptor, the PT of its reception and of its enqueueing, and the table entry versions it uses
(MAC table or stream table, index, epoch; R279). -/
structure QFrame where
  bytes   : List Byte
  tagged  : Bool
  vid     : Nat
  pcp     : Nat
  dei     : Nat
  kind    : FrameKind
  timed   : Bool
  desc    : Nat
  rxPt    : Int
  enqPt   : Nat
  hold    : List (Bool × Nat × Nat)
  deriving DecidableEq, Repr

/-- An egress port (R385): its two queues, the frame in transmission, its bytes as they leave (without the FCS), and whether
it ends with a bad FCS. -/
structure Egress where
  timed   : List QFrame := []
  bulk    : List QFrame := []
  current : Option QFrame := none
  wire    : List Byte := []
  stomped : Bool := false
  deriving DecidableEq, Repr

/-- The candidate a receive entry holds for a folio (R372). -/
structure Held where
  folio : Nat
  claim : Word
  gen   : Word
  deriving DecidableEq, Repr

/-- A receive entry beyond its registers: candidates held, the folio whose window closed last, the claim selected at
the previous close (R375), and consecutive misses (R373). -/
structure RxEntry where
  held   : List Held := []
  closed : Option Nat := none
  claim  : Option Word := none
  misses : Nat := 0
  deriving DecidableEq, Repr

/-- STREAM and PACK beyond their registers: the egress ports, the receive entries, the descriptors in use by the
number of egresses that still hold them (R388), and the next descriptor. -/
structure StreamSt where
  egress : SMap Egress := []
  rx     : SMap RxEntry := []
  desc   : SMap Nat := []
  nextDesc : Nat := 0
  deriving DecidableEq, Repr

/-- A crossbar transaction (R400-R410): its master, target and local address or delay-line reference, its bytes,
direction, QoS, the engine and tag it belongs to, its place in the order of requests, and the line of the table in force at
its grant (R422). -/
structure Txn where
  master : Master
  target : Nat
  addr   : Nat
  len    : Nat
  write  : Bool
  qos    : Nat
  engine : Nat
  tag    : Nat
  order  : Nat
  line   : Option (Nat × Nat × Nat) := none
  deriving DecidableEq, Repr

/-- The crossbar beyond its registers: waiting and active transactions, credits in 1/800 byte with the tick they were
brought up to date (R406), the master granted last at each target (R407), the requests counted, and by how much the committed
GUARANTEE records of a pair sum to less than zero (R283; log entry 125). -/
structure XbarSt where
  waiting : List Txn := []
  active  : SMap Txn := []
  credit  : SMap (Nat × Nat) := []
  last    : SMap Nat := []
  count   : Nat := 0
  debt    : SMap Nat := []
  deriving DecidableEq, Repr

/-- The DRAM controller beyond its registers: hold words by line and channel (R416), link errors by PT (R424), and
whether a step-down holds the rate (R425), the channels whose transaction is being retried, the link errors by channel
that its next aperture access will show (R427; log entry 98), and the channels that leave READY for RETRAIN once the transaction
granted there is done (R424, R679). -/
structure DramSt where
  hold     : SMap Word := []
  errs     : List Nat := []
  stepped  : Bool := false
  retried  : BitVec 2 := 0
  linkDue  : SMap Nat := []
  leave    : BitVec 2 := 0
  deriving DecidableEq, Repr

/-- An adoption that waits for EFF (R459): epoch, ACTIVE_ID, STANDBY_ID, and EFF as a PT. -/
structure Adoption where
  epoch   : Nat
  active  : Nat
  standby : Nat
  eff     : Int
  deriving DecidableEq, Repr

/-- A felt sheet that arrives (R466-R469): its folio, the payload of its HEAD, its digests (phrase, SUB, digest), its state
bytes (phrase, byte offset, bytes), the bytes that have come, whether its END has, and whether it is complete or refused, so
that further blocks of its folio are not taken. -/
structure Sheet where
  folio   : Nat
  head    : Option (List Byte) := none
  digests : List (Nat × Bool × Nat) := []
  states  : List (Nat × Nat × List Byte) := []
  bytes   : Nat := 0
  ended   : Bool := false
  closed  : Bool := false
  deriving DecidableEq, Repr

/-- REDUN beyond its registers: epoch and role rank last adopted (R449), the identities they came with, the pending
adoption, the epoch in force at the drop (R452), the folios without an accepted EPOCH and whether one has come in this
folio (R461), the folios since the outstanding request was first sent (R465), the folio boundaries since a refusal,
accepted referee frames, the sheets of unreleased folios that arrive, whether a
sheet was sent or completed in this folio (R455), the felt blocks handed to the lanes (lane, bytes), the digests of the
unit's own folios (folio, phrase, SUB, digest), the active's track records by channel (R249), the ports with a decided
deckle window, and the counts since the last health record (R475). -/
structure RedunSt where
  epoch     : Nat := 0
  rank      : Nat := 0
  ids       : Option (Nat × Nat) := none
  adopt     : Option Adoption := none
  dropEpoch : Nat := 0
  silent    : Nat := 0
  heard     : Bool := false
  reqFolios : Option Nat := none
  holdPast  : Nat := 0
  inbox     : List (List Byte) := []
  sheets    : List Sheet := []
  sheetSeen : Bool := false
  feltOut   : List (Nat × List Byte) := []
  digests   : List (Nat × Nat × Bool × BitVec 64) := []
  tracks    : List (Nat × Track) := []
  decided   : BitVec 32 := 0
  health    : SMap Nat := []
  deriving DecidableEq, Repr

/-- A serial port beyond its registers (R495-R506, R570): consecutive good frames in SEEK and bad ones in RUN, the sample
indices of the current folio that have come (grid mode), the words of the block in progress by slot * 8 + place and the PT
of its first start edge (SRC mode), the folio fed last + 1, the words of the frame that has started, and the ramp of a hold:
its next frame and the last values of the two slots. -/
structure SapSt where
  good    : Nat := 0
  bad     : Nat := 0
  got     : List Nat := []
  words   : SMap Word := []
  blockPt : Nat := 0
  fed     : Nat := 0
  outL    : Word := 0
  outR    : Word := 0
  ramp    : Option (Nat × Word × Word) := none
  deriving DecidableEq, Repr

/-- A calibration record (R521). -/
structure CalRec where
  temp   : Int
  lclass : Nat
  offset : BitVec 32
  gcorr  : BitVec 32
  slope  : BitVec 16
  gslope : BitVec 16
  taken  : Word
  deriving DecidableEq, Repr

/-- The phases of the phantom mute of an input (R515). -/
inductive Phantom where
  | none | rampDown | muted | rampUp
  deriving DecidableEq, Repr

/-- A calibration step in progress (R519): the channel, the spare that takes it over, the folio boundaries left until it does,
and once it has, the first folio taken from it, the record that corrects the folios before, and the modulator freed. -/
structure CalStep where
  ch    : Nat
  spare : Nat
  left  : Nat
  first : Nat := 0
  old   : Option CalRec := none
  freed : Nat := 0
  deriving DecidableEq, Repr

/-- The analogue inputs beyond their registers: the causes of a synchronising reset that waits and the folio of the first
one (R516), the first sample indices of the settling times that are not over (R517), the calibration step in progress, the
next channel of the rotation, the channels of the first pass still to do (R520, R522), records by modulator,
modulators out of service (R524), gains at the preamplifiers (R513), and phantom phases (R515). -/
structure AinSt where
  sync     : List Nat := []
  syncFolio : Nat := 0
  settle   : List Nat := []
  step     : Option CalStep := none
  nextCh   : Nat := 0
  pass     : List Nat := []
  recs     : SMap (Option CalRec) := []
  noService : List Nat := []
  gain     : SMap Nat := []
  phantom  : SMap Phantom := []
  deriving DecidableEq, Repr

/-- How a held output goes to zero (R529): not yet, over a number of folios from a first sample, or as an analogue ramp of 10 ms
from a PT. -/
inductive HoldRamp where
  | waits | folios (first n : Nat) | analogue (start : Nat)
  deriving DecidableEq, Repr

/-- A held output (R529): its last sample, and its ramp to zero. -/
structure OutHold where
  value : Word
  ramp  : HoldRamp
  deriving DecidableEq, Repr

/-- A ramp of an output (R526): the gain it starts from in units of 2^-29, whether it goes up to unity or down to zero, and its
first sample. -/
structure OutRamp where
  gain  : Nat
  up    : Bool
  start : Nat
  deriving DecidableEq, Repr

/-- The outputs beyond their registers: over-current trips by PT (R530), OUT3 windows in limits in a row (R528), the PVDD
holds (R653; at reset PVDD is taken as not risen, log entry 23), the bridges that are off, the last ramp by output
(R526), a re-alignment that waits and the tick of the boundary at which its downward ramp began (R518), the outputs held (R529),
whether the last window saw no edge of OUT3 (R528), the sums of squares of the class-D sinks by release over the last second
(R523), and the levels of the JD pins in mV, pulled up at reset (R531). -/
structure AoutSt where
  trips    : SMap (List Nat) := []
  okRun    : Nat := 0
  pvddLow  : Bool := true
  pvddHigh : Bool := false
  bridgeOff : BitVec 2 := 3
  ramp     : SMap (Option OutRamp) := []
  sync     : Bool := false
  realign  : Option Nat := none
  held     : SMap (Option OutHold) := []
  clkMissing : Bool := false
  power    : SMap (List (Nat × Nat)) := []
  jdMv     : SMap Nat := []
  deriving DecidableEq, Repr

/-- The lamps beyond their registers: sinks on, the PT at which the on-time of the period ends (0 where none does), the
result of the last measurement as a DIAG code (R533-R537), the measurements to be requested, by lamp and PT (R534), and the lamps
that the last period start found to be measurable (R536). -/
structure LampSt where
  on      : BitVec 8 := 0
  offPt   : SMap Nat := []
  last    : SMap Nat := []
  due     : List (Nat × Nat) := []
  tested  : BitVec 8 := 0
  deriving DecidableEq, Repr

/-- A conversion of the housekeeping ADC: a sequence entry and its input, a software request, or a lamp sample and whether
it was taken in time (R534, R539-R541). -/
inductive Conv where
  | entry (e input : Nat) | soft (input : Nat) | lamp (l : Nat) (inTime : Bool)
  deriving DecidableEq, Repr

/-- The housekeeping ADC beyond its registers: the urgent queue, conversions in progress by position, the slice at each
position, the slice in calibration, the slice that waits for its swap, conversions to restart, the next position and the
next slice of the order, entries outside their limits, and records by slice (R538-R543). -/
structure HadcSt where
  queue   : List Conv := []
  conv    : SMap (Option Conv) := []
  slices  : List Nat := [0, 1, 2, 3, 4, 5, 6, 7]
  cal     : Option Nat := none
  swapWait : Option Nat := none
  restart : List Conv := []
  pos     : Nat := 0
  nextSlice : Nat := 0
  outside : BitVec 32 := 0
  recs    : SMap (Option CalRec) := []
  deriving DecidableEq, Repr

/-- The tally beyond its registers (R562): faults in ACTED, the class word taken at the raise that left CLEAR, and
whether the heartbeat has stopped (R569). -/
structure TallySt where
  acted  : List Nat := []
  taken  : SMap Word := []
  silent : Bool := false
  deriving DecidableEq, Repr

/-- The sentinel beyond its registers: the actions ordered and not yet carried out (fault, action), whether the heartbeat
runs (R569), whether the hold time is over (R570), whether the device reset that is scheduled is its own and whether the
last one was (R571, R609). -/
structure SentSt where
  ordered  : List (Nat × Nat) := []
  beating  : Bool := false
  holdOver : Bool := false
  sentDue  : Bool := false
  bySentinel : Bool := false
  deriving DecidableEq, Repr

/-- A flash or verify command in progress (R613): its code and its arguments. -/
structure BootJob where
  op   : Nat
  arg0 : Word
  arg1 : Word
  arg2 : Word
  deriving DecidableEq, Repr

/-- BOOT, the flash, the idle code banks and the seal engine beyond their registers (R578-R614): memories cleared, the second
slot being tried, SVN, COMMIT_SVN and the leaf of the booted slot, whether audio has started since boot, the command in
progress, the flash and idle-bank contents by byte, the IMAGE_IDs the idle banks hold from before an activation (0 for none),
the processors whose next subsystem reset goes back to it, the tick of the last activation of each (R606), the seal job that runs (3 for a system job), host jobs that
wait, the PT and the rank of the submission of each job (R600), the one whose context is saved, whether a system job waits,
and the processors held in reset. -/
structure BootSt where
  cleared   : Bool := false
  second    : Bool := false
  svn       : Word := 0
  commitSvn : Bool := false
  leaf      : Nat := 0
  audioSeen : Bool := false
  job       : Option BootJob := none
  flash     : Memory := []
  idleA     : Memory := []
  idleB     : Memory := []
  prevA     : Word := 0
  prevB     : Word := 0
  revert    : BitVec 2 := 0
  actAt     : SMap Nat := []
  sealRun   : Option Nat := none
  sealWait  : List Nat := []
  sealSub   : SMap (Nat × Nat) := []
  sealSaved : Option Nat := none
  sysSeal   : Bool := false
  cpReset   : BitVec 2 := 3
  deriving DecidableEq, Repr

/-- A relay request (R625-R628), one part of a host request: its TAG, device index, local address, words, direction and
data, whether it has been sent, its outcome (the words read, and the cause of its failure, 0 for none), and whether the host
has given its data up (R618). -/
structure RelayReq where
  tag   : Nat
  group : Nat
  dev   : Nat
  addr  : Nat
  nw    : Nat
  write : Bool
  data  : List Word
  sent  : Bool
  ended : Bool
  got   : List Word
  fail  : Nat
  lost  : Bool
  deriving DecidableEq, Repr

/-- The host interface beyond its registers: the last answer to the host (data; cause, 0 for none and 8 for an error answer
that is not recorded, R631), relay requests, relay frames received with their ingress port, the next TAG and the next host
request, the TU_CLK tick of the last restart of each watchdog, MSI messages sent, the registers of configuration space
(0-5 the base address registers, 6 MSI control, 7 and 8 its address, 9 its data), what the last pop or register read of a
master returned, and the summary values whose SUMMARY frame is due (R629). -/
structure HostSt where
  data     : List Word := []
  cause    : Nat := 0
  relay    : List RelayReq := []
  inbox    : List (Nat × List Byte) := []
  nextTag  : Nat := 0
  nextGroup : Nat := 0
  wdogAt   : SMap Nat := []
  msi      : Nat := 0
  cfg      : SMap Word := []
  answer   : List Byte := []
  sumDue   : List Nat := []
  deriving DecidableEq, Repr

/-- Where the device stands as a whole: held by RESET_N, waiting for the system PLL, running, or dormant (R81, R337). -/
inductive Power where
  | reset | held | running | dormant
  deriving DecidableEq, Repr

/-- The whole block. -/
structure State where
  power   : Power := .reset
  regs    : SMap Word := []
  shadow  : SMap Word := []
  fresh   : List Nat := []
  staging : SMap Word := []
  mem     : Memory := []
  dram    : Memory := []
  spare   : Memory := []
  ecc     : SMap Bool := []
  raised  : SMap Nat := []
  free    : Nat := 0
  irqN    : Bool := true
  time    : TimeSt := {}
  synth   : SynthSt := {}
  pe      : SMap PeCore := []
  seq     : SeqSt := {}
  mix     : MixSt := {}
  src     : SMap SrcCh := []
  clause  : ClauseSt := {}
  stream  : StreamSt := {}
  xbar    : XbarSt := {}
  dramc   : DramSt := {}
  redun   : RedunSt := {}
  sap     : SMap SapSt := []
  ain     : AinSt := {}
  aout    : AoutSt := {}
  lamp    : LampSt := {}
  hadc    : HadcSt := {}
  tally   : TallySt := {}
  sent    : SentSt := {}
  boot    : BootSt := {}
  host    : HostSt := {}
  pending : List Instr := []
  deriving DecidableEq, Repr

/-- The machine right after reset: RESET_N still low (R651), every register at its reset value (no word listed), no
memory written, no command waiting. -/
def State.reset : State := {}

end Sys2Proof.Machine
end

