-- ==== Sys2Proof/Machine/Store.lean ====
section
/-! DEFINITION. Sparse maps in canonical form: keys strictly rising, and no entry equal to what an unlisted key reads
as. Every write keeps the form, so that equal contents are equal data. -/

namespace Sys2Proof.Machine

/-- What a map holds at a key: the default where none is listed. -/
def SMap.find {α : Type} (d : α) : SMap α → Nat → α
  | [], _ => d
  | (k, v) :: m, i => if k = i then v else SMap.find d m i

/-- A map with an entry put at its place. -/
def SMap.put {α : Type} : SMap α → Nat → α → SMap α
  | [], i, v => [(i, v)]
  | (k, w) :: m, i, v => if i < k then (i, v) :: (k, w) :: m else if k = i then (i, v) :: m else (k, w) :: SMap.put m i v

/-- A map without the entry of a key. -/
def SMap.del {α : Type} : SMap α → Nat → SMap α
  | [], _ => []
  | (k, w) :: m, i => if k = i then SMap.del m i else (k, w) :: SMap.del m i

/-- Write a value: the default removes the entry. -/
def SMap.set {α : Type} [DecidableEq α] (d : α) (m : SMap α) (i : Nat) (v : α) : SMap α :=
  if v = d then SMap.del m i else SMap.put m i v

/-- Keys strictly rising. -/
def SMap.rising {α : Type} : SMap α → Bool
  | [] => true
  | [_] => true
  | (k, _) :: (l, w) :: m => decide (k < l) && SMap.rising ((l, w) :: m)

/-- The canonical form with a default that depends on the key. -/
def SMap.canon {α : Type} [DecidableEq α] (d : Nat → α) (m : SMap α) : Bool :=
  SMap.rising m && m.all (fun e => decide (e.2 ≠ d e.1))

/-- The canonical form of a memory: an unlisted byte reads as zero (R405; log entry 3). -/
def Memory.wf (m : Memory) : Bool := SMap.canon (fun _ => 0) m

/-- Read one byte. -/
def Memory.byte (m : Memory) (a : Nat) : Byte := SMap.find 0 m a

/-- Write one byte. -/
def Memory.setByte (m : Memory) (a : Nat) (b : Byte) : Memory := SMap.set 0 m a b

/-- Read n consecutive bytes. -/
def Memory.read (m : Memory) (a : Nat) : Nat → List Byte
  | 0 => []
  | n + 1 => Memory.byte m a :: Memory.read m (a + 1) n

/-- Write consecutive bytes. -/
def Memory.write (m : Memory) (a : Nat) : List Byte → Memory
  | [] => m
  | b :: bs => Memory.write (Memory.setByte m a b) (a + 1) bs

/-- Write the bytes whose enable is true; the others keep their value. -/
def Memory.writeMasked (m : Memory) (a : Nat) : List (Byte × Bool) → Memory
  | [] => m
  | (b, e) :: bs => Memory.writeMasked (if e then Memory.setByte m a b else m) (a + 1) bs

/-- Every byte of an address range [lo, hi) removed: it reads as zero. -/
def Memory.clear (m : Memory) (lo hi : Nat) : Memory := m.filter (fun e => decide (e.1 < lo) || decide (hi ≤ e.1))

/-- A little-endian word of memory. -/
def Memory.word (m : Memory) (a : Nat) : Word := wordOf (Memory.read m a 4)

end Sys2Proof.Machine
end

