-- ==== Sys2Proof/Machine/Ops.lean ====
section
/-! DEFINITION. The named operations over registers, time, memory and events that every family uses. -/

namespace Sys2Proof.Machine

/-- A nanosecond in the unit of PT, 2^-32 ns (R4, R39). -/
def nsUnit : Nat := 2 ^ 32

/-- A second in the unit of PT. -/
def secUnit : Nat := 1000000000 * 2 ^ 32

/-! ### Registers -/

/-- The value of a register word: its reset value until it is written. -/
def State.reg (s : State) (a : Nat) : Word := SMap.find (regReset a) s.regs a

/-- The one write to a register word. -/
def State.setReg (s : State) (a : Nat) (w : Word) : State := { s with regs := SMap.set (regReset a) s.regs a w }

/-- The value of a field. -/
def State.fld (s : State) (a : Nat) (f : Field) : Nat := f.get (s.reg a)

/-- A one-bit field. -/
def State.bit (s : State) (a : Nat) (f : Field) : Bool := s.fld a f == 1

/-- Write a field and leave the rest of its word. -/
def State.setFld (s : State) (a : Nat) (f : Field) (n : Nat) : State := s.setReg a (f.put (s.reg a) n)

/-- Write a one-bit field. -/
def State.setBit (s : State) (a : Nat) (f : Field) (b : Bool) : State := s.setFld a f (bitOf b)

/-- A register word as a number. -/
def State.regN (s : State) (a : Nat) : Nat := (s.reg a).toNat

/-- Write a register word from a number, modulo 2^32. -/
def State.setRegN (s : State) (a n : Nat) : State := s.setReg a (BitVec.ofNat 32 n)

/-- A 64-bit wide register. -/
def State.reg64 (s : State) (a : Nat) : Nat := s.regN a + 2 ^ 32 * s.regN (a + 4)

/-- Write a 64-bit wide register, modulo 2^64. -/
def State.setReg64 (s : State) (a n : Nat) : State := (s.setRegN a n).setRegN (a + 4) (n / 2 ^ 32)

/-- The next free value, and the state that has used it (log entry 1). -/
def State.takeFree (s : State) : Nat × State := (Config.free s.free, { s with free := s.free + 1 })

/-- Count n in a 32-bit register that holds at its largest value. -/
def State.countHold (s : State) (a n : Nat) : State := s.setRegN a (min (s.regN a + n) 0xFFFFFFFF)

/-- Count n in a 32-bit register for which the manual states no value after its largest one: free there (log
entry 1). -/
def State.count (s : State) (a n : Nat) : State :=
  if s.regN a + n < 2 ^ 32 then s.setRegN a (s.regN a + n)
  else (s.takeFree.2).setRegN a s.takeFree.1

/-- Count n in a 64-bit wide register, modulo 2^64. -/
def State.count64 (s : State) (a n : Nat) : State := s.setReg64 a (s.reg64 a + n)

/-- The result of a register write by its access codes (R9-R11): RW takes the value, W1C and STK clear, everything else
is kept. SH words in force are not touched (R277). -/
def State.writeWord (s : State) (a : Nat) (data : Word) : State :=
  match regRow a with
  | none => s
  | some r =>
    let rw := BitVec.ofNat 32 r.rw
    let w1c := BitVec.ofNat 32 r.w1c
    s.setReg a (((s.reg a &&& ~~~rw) ||| (data &&& rw)) &&& ~~~(data &&& w1c))

/-- The write of the RW fields only, for a command that stands for one register's write. -/
def State.writeRw (s : State) (a : Nat) (data : Word) : State := s.writeWord a data

/-- The place of a master in the keys of shadows and stagings (R34). BOOT, which R34 does not list, has its own (log
entry 16). -/
def RegMaster.key (m : RegMaster) : Nat :=
  match m with
  | .host => 0 | .cpa => 1 | .cpb => 2 | .dma n => 3 + n.val | .boot => 7

/-- The key of a master's shadow or staging word. -/
def wideKey (m : RegMaster) (a : Nat) : Nat := RegMaster.key m * 2 ^ 32 + a

/-- The higher word that a master has staged: the register's reset value before it has staged one (R38). -/
def State.stagedWord (s : State) (m : RegMaster) (a : Nat) : Word := SMap.find (regReset a) s.staging (wideKey m a)

/-! ### Presentation time (R4, R39-R45) -/

/-- PT in units of 2^-32 ns. -/
def State.now (s : State) : Nat :=
  (s.regN (Reg.TIME_NOW + 8) + 2 ^ 32 * s.regN (Reg.TIME_NOW + 12)) * secUnit +
    s.regN (Reg.TIME_NOW + 4) * nsUnit + s.regN Reg.TIME_NOW

/-- Write PT; the seconds have 48 bits (R4). -/
def State.setNow (s : State) (t : Nat) : State :=
  (((s.setRegN Reg.TIME_NOW t).setRegN (Reg.TIME_NOW + 4) (t / nsUnit % 1000000000)).setRegN
    (Reg.TIME_NOW + 8) (t / secUnit)).setRegN (Reg.TIME_NOW + 12) (t / secUnit / 2 ^ 32 % 2 ^ 16)

/-- The seconds of a PT. -/
def ptSec (t : Nat) : Nat := t / secUnit

/-- The nanoseconds of a PT, its fraction dropped (R44). -/
def ptNs (t : Nat) : Nat := t / nsUnit % 1000000000

/-- The 64-bit gloss of a PT (R5, R44). -/
def gloss (t : Nat) : Nat := ptSec t % 2 ^ 32 * 2 ^ 32 + ptNs t

/-- Whether gloss a is later than gloss b (R6). -/
def glossLater (a b : Nat) : Bool :=
  if a / 2 ^ 32 % 2 ^ 32 = b / 2 ^ 32 % 2 ^ 32 then decide (b % 2 ^ 32 < a % 2 ^ 32)
  else decide ((a / 2 ^ 32 + 2 ^ 32 - b / 2 ^ 32 % 2 ^ 32) % 2 ^ 32 < 2 ^ 31)

/-- The node rate of a RATE code in samples per second (R73). -/
def rateHz (code : Nat) : Nat :=
  match code with
  | 0 => 44100 | 1 => 48000 | 2 => 88200 | 3 => 96000 | 4 => 176400 | _ => 192000

/-- The RATE code in force. -/
def State.rate (s : State) : Nat := s.fld Reg.TIME_CTRL Fld.TIME_CTRL_RATE

/-- The node rate in force. -/
def State.hz (s : State) : Nat := rateHz s.rate

/-- E(n), the PT of sample edge n (R39). -/
def edgePt (hz n : Nat) : Nat := n * secUnit / hz

/-- The boundary of folio k (R40). -/
def State.boundary (s : State) (k : Nat) : Nat := edgePt s.hz (8 * k)

/-- The sample that is current at a PT (R40). -/
def sampleAt (hz t : Nat) : Nat := ((t + 1) * hz + secUnit - 1) / secUnit - 1

/-- The folio that is current (R40). -/
def State.folio (s : State) : Nat := sampleAt s.hz s.now / 8

/-- Whether audio runs (R55). -/
def State.audio (s : State) : Bool := s.bit Reg.TIME_STATUS Fld.TIME_STATUS_AUDIO_ACTIVE

/-! ### Memory -/

/-- The vat window (R403). -/
def vatLo : Nat := 0x10000000

/-- The end of the vat window. -/
def vatHi : Nat := 0x13000000

/-- Whether n bytes at an address lie in vat memory. -/
def inVat (a n : Nat) : Bool := decide (vatLo ≤ a) && decide (a + n ≤ vatHi)

/-- The bank of a vat address (R403). -/
def vatBank (a : Nat) : Nat := (a - vatLo) / 0x180000

/-- n bytes of memory at a local address. -/
def State.read (s : State) (a n : Nat) : List Byte := Memory.read s.mem a n

/-- Write bytes at a local address. -/
def State.write (s : State) (a : Nat) (bs : List Byte) : State := { s with mem := Memory.write s.mem a bs }

/-- A little-endian word of memory. -/
def State.word (s : State) (a : Nat) : Word := Memory.word s.mem a

/-- Write words, little-endian. -/
def State.writeWords (s : State) (a : Nat) (ws : List Word) : State := s.write a (ws.flatMap wordBytes)

/-- The ECC words of w bytes that n bytes at an address touch and that hold an error: `bad` for uncorrectable ones, else
single-bit ones (R152, R404). -/
def State.eccWords (s : State) (bad : Bool) (w a n : Nat) : Nat :=
  (s.ecc.filter (fun e => e.2 == bad && decide (e.1 < a + n) && decide (a < e.1 + w))).length

/-- The address of the first such word; a itself where there is none. -/
def State.eccFirst (s : State) (bad : Bool) (w a n : Nat) : Nat :=
  match s.ecc.filter (fun e => e.2 == bad && decide (e.1 < a + n) && decide (a < e.1 + w)) with
  | [] => a
  | e :: _ => e.1

/-- Whether a 64-bit word of vat memory that n bytes touch holds an uncorrectable error (R404). -/
def State.eccBad (s : State) (a n : Nat) : Bool := s.eccWords true 8 a n != 0

/-- A whole ECC word of w bytes written anew is valid. -/
def State.eccClearW (s : State) (w a n : Nat) : State :=
  { s with ecc := s.ecc.filter (fun e => !(decide (a ≤ e.1) && decide (e.1 + w ≤ a + n))) }

/-- Whole 64-bit words written anew are valid. -/
def State.eccClear (s : State) (a n : Nat) : State := s.eccClearW 8 a n

/-! ### Events and the tally (R552-R565) -/

/-- The first fault number of a group that carries fault sources (R560). -/
def faultBase (g : Nat) : Option Nat :=
  match g with
  | 0 => some 0 | 2 => some 32 | 5 => some 64 | 6 => some 96 | 8 => some 128 | 9 => some 160 | _ => none

/-- The fault number of a source (R560). -/
def faultOf (src : Nat) : Option Nat := (faultBase (src / 32)).map (· + src % 32)

/-- The source of a fault number (R560). -/
def sourceOf (n : Nat) : Nat :=
  n % 32 + 32 * (match n / 32 with | 0 => 0 | 1 => 2 | 2 => 5 | 3 => 6 | 4 => 8 | _ => 9)

/-- GLOBAL_SUMMARY as its inputs stand (R557). -/
def State.summary (s : State) : Nat :=
  (List.range 10).foldl (fun acc g =>
    if (s.reg (Reg.EVG_CAUSE g) &&& s.reg (Reg.EVG_ENABLE g)) = 0 then acc else acc + 2 ^ g) 0 +
  (if s.reg64 Reg.GLOBAL_REMOTE_SUMMARY / 2 = 0 then 0 else 2 ^ 10) +
  (if s.bit Reg.SENT_STATUS Fld.SENT_STATUS_ALERT then 2 ^ 11 else 0)

/-- Whether the device is held with IRQ_N released (R652): in reset, or because the system PLL did not lock (R569, R81). -/
def State.irqReleased (s : State) : Bool :=
  s.power == .reset || (s.power == .held && s.fld Reg.SENT_STATUS Fld.SENT_STATUS_CAUSE == 3)

/-- Whether the host has enabled MSI in configuration space, which only an endpoint with its link up has (R615, R616). -/
def State.msiOn (s : State) : Bool := (SMap.find 0 s.host.cfg 6).toNat.testBit 0

/-- GLOBAL_SUMMARY, bit 0 of GLOBAL_REMOTE_SUMMARY, IRQ_N, the MSI and the SUMMARY frame that is due follow a change
(R557-R559, R616, R629). -/
def State.syncSummary (s : State) : State :=
  let old := s.reg Reg.GLOBAL_SUMMARY
  let new := s.summary
  let s1 := s.setRegN Reg.GLOBAL_SUMMARY new
  let r0 := s.regN Reg.GLOBAL_REMOTE_SUMMARY
  let s2 := s1.setRegN Reg.GLOBAL_REMOTE_SUMMARY (r0 / 2 * 2 + bitOf (new != 0))
  { s2 with
    irqN := new == 0 || s.irqReleased
    host := { s2.host with
      msi := s2.host.msi + bitOf (old == 0 && new != 0 && s.msiOn)
      sumDue := if s.bit Reg.HOST_RELAY_CFG Fld.HOST_RELAY_CFG_ACCEPT && old.toNat != new then s2.host.sumDue ++ [new]
        else s2.host.sumDue } }

/-- The cause bit of a source set (R554). -/
def State.markCause (s : State) (src : Nat) : State :=
  s.setReg (Reg.EVG_CAUSE (src / 32)) (s.reg (Reg.EVG_CAUSE (src / 32)) ||| bitMask (src % 32))

/-- A record held for its push when the enables and TALLY_EVQ say so in this cycle (R554, R67); its gloss is the PT of
the tick of the raise (R46). -/
def State.markRecord (s : State) (src : Nat) (w3 : Word) : State :=
  if testBit (s.reg (Reg.EVG_ENABLE (src / 32))) (src % 32) && s.bit Reg.TALLY_EVQ Fld.TALLY_EVQ_EN then
    { s with time := { s.time with records := s.time.records ++
      [⟨ptSec s.now % 2 ^ 32, ptNs s.now, src, s.fld Reg.TALLY_EVQ Fld.TALLY_EVQ_QUIRE, w3⟩] } }
  else s

/-- R554 without a tally reaction. -/
def State.mark (s : State) (src : Nat) (w3 : Word) : State := (s.markCause src).markRecord src w3

/-- Whether a sticky bit is set. -/
def State.sticky (s : State) (n : Nat) : Bool := testBit (s.reg (Reg.TALLY_STICKY (n / 32))) (n % 32)

/-- Whether a fault is in GRACE. -/
def State.inGrace (s : State) (n : Nat) : Bool := testBit (s.reg (Reg.TALLY_INGRACE (n / 32))) (n % 32)

/-- Whether every sticky bit is 0 (R563). -/
def State.noSticky (s : State) : Bool := (List.range 6).all (fun w => s.reg (Reg.TALLY_STICKY w) == 0)

/-- Set or clear the GRACE state of a fault, with the count of TALLY_STATUS (R574). -/
def State.setGrace (s : State) (n : Nat) (on : Bool) : State :=
  let a := Reg.TALLY_INGRACE (n / 32)
  let w := if on then s.reg a ||| bitMask (n % 32) else s.reg a &&& ~~~bitMask (n % 32)
  let s1 := s.setReg a w
  s1.setFld Reg.TALLY_STATUS Fld.TALLY_STATUS_INGRACE
    ((List.range 6).foldl (fun c v => c + popCount 32 (s1.regN (Reg.TALLY_INGRACE v))) 0)

/-- The tally orders the action of a fault from the sentinel and raises ESCALATE (R562, R553, R574). -/
def State.orderAction (s : State) (n action : Nat) (forced : Bool) : State :=
  let s1 := { s with sent := { s.sent with ordered := s.sent.ordered ++ [(n, action)] },
                     tally := { s.tally with acted := n :: s.tally.acted.filter (· != n) } }
  let s2 := (s1.setFld Reg.TALLY_STATUS Fld.TALLY_STATUS_MAX_ACTION
    (if s.bit Reg.TALLY_STATUS Fld.TALLY_STATUS_ORDERED then
      max (s.fld Reg.TALLY_STATUS Fld.TALLY_STATUS_MAX_ACTION) action else action)).setBit
    Reg.TALLY_STATUS Fld.TALLY_STATUS_ORDERED true
  s2.mark 34 (BitVec.ofNat 32 (n + action * 2 ^ 8 + bitOf forced * 2 ^ 10))

/-- TALLY_FIRST and its gloss at a raise with every sticky bit 0 (R563). -/
def State.setFirst (s : State) (n : Nat) (forced : Bool) : State :=
  if s.noSticky then
    (s.setRegN Reg.TALLY_FIRST (n + bitOf forced * 2 ^ 8 + 2 ^ 9)).setReg64 Reg.TALLY_FIRST_GLOSS
      (ptNs s.now + 2 ^ 32 * (ptSec s.now % 2 ^ 32))
  else s

/-- A sticky bit set. -/
def State.setSticky (s : State) (n : Nat) : State :=
  s.setReg (Reg.TALLY_STICKY (n / 32)) (s.reg (Reg.TALLY_STICKY (n / 32)) ||| bitMask (n % 32))

/-- The reaction of a raise that leaves CLEAR (R562): the class word is taken here, with the forced flag in bit 31. A
clause refuses class 0b11 (R576). -/
def State.react (s : State) (n : Nat) (forced : Bool) : State :=
  let cls := s.reg (Reg.TALLY_CLASS n)
  let s1 := { s with tally := { s.tally with
    taken := SMap.set 0 s.tally.taken n (cls ||| BitVec.ofNat 32 (bitOf forced * 2 ^ 31)) } }
  match Fld.TALLY_CLASS_CLASS.get cls with
  | 0 => s1
  | 1 => (s1.setGrace n true).mark 32 (BitVec.ofNat 32 n)
  | _ => s1.orderAction n (Fld.TALLY_CLASS_ACTION.get cls) forced

/-- A raise of a fault for the tally (R562). -/
def State.tallyRaise (s : State) (n : Nat) (forced : Bool) : State :=
  if s.sticky n then s else ((s.setFirst n forced).setSticky n).react n forced

/-- A raise of a source by its condition while the tally works (R554, R562). -/
def State.raiseNow (s : State) (src : Nat) (w3 : Word) : State :=
  let s1 := s.mark src w3
  (match faultOf src with
   | none => s1
   | some n => s1.tallyRaise n false).syncSummary

/-- A raise after the last heartbeat, when the tally's behaviour is not defined (R569): free bits say whether the cause
bit, the record, the sticky bit and the reaction follow (log entry 8). -/
def State.raiseSilent (s : State) (src : Nat) (w3 : Word) : State :=
  let v := s.takeFree.1
  let s1 := s.takeFree.2
  let s2 := if v.testBit 0 then s1.markCause src else s1
  let s3 := if v.testBit 1 then s2.markRecord src w3 else s2
  (match faultOf src with
   | none => s3
   | some n =>
     if s3.sticky n then s3
     else
       let s4 := if v.testBit 2 then (s3.setFirst n false).setSticky n else s3
       if v.testBit 3 then s4.react n false else s4).syncSummary

/-- A raise of a source by its condition. -/
def State.raise (s : State) (src : Nat) (w3 : Word) : State :=
  if s.tally.silent then s.raiseSilent src w3 else s.raiseNow src w3

/-- A raise with a number as word 3. -/
def State.raiseN (s : State) (src w3 : Nat) : State := s.raise src (BitVec.ofNat 32 w3)

/-- A raise that happens at most once per folio for a key. -/
def State.raiseFolio (s : State) (key src w3 : Nat) : State :=
  let k := s.folio + 1
  if SMap.find 0 s.raised key = k then s
  else { s with raised := SMap.set 0 s.raised key k }.raiseN src w3

/-- A raise that happens at most once per millisecond for a key. -/
def State.raiseMs (s : State) (key src w3 : Nat) : State :=
  let t := s.now + 1
  let last := SMap.find 0 s.raised key
  if 0 < last ∧ last ≤ t ∧ t < last + 1000000 * nsUnit then s
  else { s with raised := SMap.set 0 s.raised key t }.raiseN src w3

/-- A raise that happens at most once for a folio index k and a key. -/
def State.raiseOnce (s : State) (key k src w3 : Nat) : State :=
  if SMap.find 0 s.raised key = k + 1 then s else { s with raised := SMap.set 0 s.raised key (k + 1) }.raiseN src w3

/-- A key for the rate limits: by source and by instant of it. -/
def limitKey (src i : Nat) : Nat := src * 2 ^ 16 + i

/-- An error answer to a host access, recorded and reported at most once per millisecond (R630, R639). -/
def State.hostErr (s : State) (cause dev : Nat) (write : Bool) (addr : Nat) : State :=
  let s1 := (s.setRegN Reg.GLOBAL_HOST_ERR (cause + dev * 2 ^ 4 + bitOf write * 2 ^ 10 + 2 ^ 11)).setRegN
    Reg.GLOBAL_HOST_ERR_ADDR addr
  { s1 with host := { s1.host with cause := cause } }.raiseMs (limitKey 22 0) 22
    (cause + dev * 2 ^ 4 + bitOf write * 2 ^ 10)

/-- Whether the PCI Express link is up; with quad-SPI there is none (R615, R641). -/
def State.linkUp (s : State) : Bool :=
  s.bit Reg.HOST_STATUS Fld.HOST_STATUS_LINK && !s.bit Reg.HOST_STATUS Fld.HOST_STATUS_IF

/-- The PCI Express link goes down, if it was up: configuration space returns to its reset values and HOST_LINK_DOWN is
raised (R631; log entry 109). The host lane PLL, which the straps enable, runs on (R84). -/
def State.linkDrop (s : State) (cause : Nat) : State :=
  if s.linkUp then
    let s1 := { s with host := { s.host with cfg := [] } }
    (((s1.setBit Reg.HOST_STATUS Fld.HOST_STATUS_LINK false).setFld Reg.HOST_STATUS Fld.HOST_STATUS_SPEED 0).setFld
      Reg.HOST_STATUS Fld.HOST_STATUS_WIDTH 0).raiseN 21 cause
  else s

/-- k corrected errors of a read of vat memory, in the bank of an address (R404, R438, R439). -/
def State.vatCount (s : State) (k addr : Nat) : State :=
  if k = 0 then s else (s.countHold Reg.XBAR_VAT_ECC k).raiseMs (limitKey 161 0) 161 (vatBank addr)

/-- The corrected errors of a read of n bytes of vat memory. -/
def State.vatCorr (s : State) (addr n : Nat) : State := s.vatCount (s.eccWords false 8 addr n) (s.eccFirst false 8 addr n)

/-- Whether BOOT has released the processors (R594, R612). -/
def State.released (s : State) : Bool := s.fld Reg.BOOT_STATUS Fld.BOOT_STATUS_STATE == 3

/-- Whether a write of the host must wait for the release: all but those to GLOBAL and BOOT (R594). -/
def State.hostBarred (s : State) (m : RegMaster) (a : Nat) : Bool :=
  m == .host && !s.released && !(decide (a < 0x00100000) || (decide (0x09000000 ≤ a) && decide (a < 0x09100000)))

/-- Tags of the crossbar held by waiting and active transactions. -/
def State.tagsInUse (s : State) : Nat := s.xbar.waiting.length + s.xbar.active.length

/-- MAX of XBAR_INFLIGHT while k more tags are held (R436, R442). -/
def State.holdTags (s : State) (k : Nat) : State :=
  s.setFld Reg.XBAR_INFLIGHT Fld.XBAR_INFLIGHT_MAX (max (s.fld Reg.XBAR_INFLIGHT Fld.XBAR_INFLIGHT_MAX) (s.tagsInUse + k))

/-- The write of a register by a master, which leaves t: its transaction holds one tag of the crossbar (R401, R436; log entry
99), or it meets the error answer where it must wait for the release (R594, R630). -/
def State.unlessBarred (s : State) (m : RegMaster) (a : Nat) (t : State) : State :=
  if s.hostBarred m a then s.hostErr 2 0 true a else t.holdTags 1

/-! ### Pair operation (R477, R490) -/

/-- Pair operation (R490). -/
def State.pair (s : State) : Bool := s.bit Reg.REDUN_CTRL Fld.REDUN_CTRL_PAIR

/-- Whether a serial port is shared (R477). -/
def State.shared (s : State) (p : Nat) : Bool := s.pair && testBit (s.reg Reg.REDUN_DECKLE) p

end Sys2Proof.Machine
end

