-- ==== Sys2Proof/Machine/Quire.lean ====
section
/-! DEFINITION. The quire manager (R429-R435, R680, R681): rings in vat memory, and its commands. -/

namespace Sys2Proof.Machine

/-- What a cycle of a quire answers (R431, R433). -/
structure QuireAns where
  pushed   : Bool
  popped   : Option (List Byte)
  empty    : Bool
  full     : Bool
  disabled : Bool
  eccLost  : Bool
  deriving DecidableEq, Repr

/-- Whether a quire is enabled. -/
def State.quireOn (s : State) (q : Nat) : Bool := s.bit (Reg.QUIRE_CFG q) Fld.QUIRE_CFG_EN

/-- The entry size of a quire (R447). -/
def State.quireSize (s : State) (q : Nat) : Nat := 8 * 2 ^ s.fld (Reg.QUIRE_CFG q) Fld.QUIRE_CFG_ESIZE

/-- DEPTH, with 0 standing for 65 536 (R447). -/
def quireDepth (cfg : Word) : Nat :=
  if Fld.QUIRE_CFG_DEPTH.get cfg = 0 then 65536 else Fld.QUIRE_CFG_DEPTH.get cfg

/-- The count of a quire. -/
def State.quireCount (s : State) (q : Nat) : Nat := s.fld (Reg.QUIRE_COUNT q) Fld.QUIRE_COUNT_COUNT

/-- The address of entry i counted from the head (R429). -/
def State.quireAddr (s : State) (q i : Nat) : Nat :=
  s.regN (Reg.QUIRE_BASE q) +
    (s.fld (Reg.QUIRE_HEAD q) Fld.QUIRE_HEAD_HEAD + i) % quireDepth (s.reg (Reg.QUIRE_CFG q)) * s.quireSize q

/-- DROP counts a refused push and holds at 0xFFFF (R431, R446). -/
def State.quireDrop (s : State) (q : Nat) : State :=
  s.setFld (Reg.QUIRE_HEAD q) Fld.QUIRE_HEAD_DROP (min (s.fld (Reg.QUIRE_HEAD q) Fld.QUIRE_HEAD_DROP + 1) 0xFFFF)

/-- A recorded condition with its enable bit sets the pending bit; a bit that goes from 0 to 1 raises the source
(R434). -/
def State.quireCond (s : State) (q : Nat) (en : Field) (src : Nat) (happened : Bool) : State :=
  if happened && s.bit (Reg.QUIRE_CFG q) en then
    let a := Reg.QUIRE_PEND (q / 32)
    let was := testBit (s.reg a) (q % 32)
    let s1 := s.setReg a (s.reg a ||| bitMask (q % 32))
    if was then s1 else s1.raiseN src q
  else s

/-- The conditions of one cycle, by the counts at its start and end (R434). -/
def State.quireConds (s : State) (q c c' : Nat) (overflow : Bool) : State :=
  let d := quireDepth (s.reg (Reg.QUIRE_CFG q))
  (((s.quireCond q Fld.QUIRE_CFG_EV_NOTEMPTY 172 (c == 0 && c' != 0)).quireCond q Fld.QUIRE_CFG_EV_EMPTY 173
      (c != 0 && c' == 0)).quireCond q Fld.QUIRE_CFG_EV_FULL 174 (decide (c < d) && c' == d)).quireCond q
      Fld.QUIRE_CFG_EV_OVF 175 overflow

/-- One cycle of an enabled quire with at most one push and one pop, decided by the count at its start (R431, R433,
R680). The master in the record of an uncorrectable error met by a pop is not stated: free (log entry 1). -/
def State.quireCycle (s : State) (q : Nat) (push : Option (List Byte)) (pop : Bool) : QuireAns × State :=
  let c := s.quireCount q
  let d := quireDepth (s.reg (Reg.QUIRE_CFG q))
  let size := s.quireSize q
  let takes := pop && c != 0
  let head := s.quireAddr q 0
  let lost := takes && s.eccBad head size
  let got := if takes && !lost then some (s.read head size) else none
  let accepts := push.isSome && (decide (c < d) || takes)
  let refuses := push.isSome && !accepts
  let tail := s.quireAddr q c
  let s0 := if takes then s.vatCorr head size else s
  let s1 := if accepts then (s0.write tail ((push.getD []).take size)).eccClear tail size else s0
  let s2 := if takes then s1.setFld (Reg.QUIRE_HEAD q) Fld.QUIRE_HEAD_HEAD
      ((s.fld (Reg.QUIRE_HEAD q) Fld.QUIRE_HEAD_HEAD + 1) % d) else s1
  let c' := c - bitOf takes + bitOf accepts
  let s3 := s2.setFld (Reg.QUIRE_COUNT q) Fld.QUIRE_COUNT_COUNT c'
  let s4 := if refuses then s3.quireDrop q else s3
  let s5 := if lost then (s4.takeFree.2).raiseN 162 (vatBank head + s4.takeFree.1 % 32 * 2 ^ 8) else s4
  (⟨accepts, got, pop && got.isNone, refuses, false, lost⟩, s5.quireConds q c c' refuses)

/-- One cycle of any quire. A push to a disabled quire is refused, which FULL shows (R448), and counted in DROP with no
event; a pop of one returns empty (R431). -/
def State.quireServe (s : State) (q : Nat) (push : Option (List Byte)) (pop : Bool) : QuireAns × State :=
  if s.quireOn q then s.quireCycle q push pop
  else (⟨false, none, pop, push.isSome, true, false⟩, if push.isSome then s.quireDrop q else s)

/-- A hardware push: an entry of another size than ESIZE is refused as by a disabled quire (R681). -/
def State.hwPush (s : State) (q : Nat) (entry : List Byte) : Bool × State :=
  if s.quireOn q && entry.length != s.quireSize q then (false, s.quireDrop q)
  else ((s.quireServe q (some entry) false).1.pushed, (s.quireServe q (some entry) false).2)

/-- A hardware pop: from a quire of another entry size it returns empty and changes nothing (R681). -/
def State.hwPop (s : State) (q size : Nat) : Option (List Byte) × State :=
  if s.quireOn q && s.quireSize q != size then (none, s)
  else ((s.quireServe q none true).1.popped, (s.quireServe q none true).2)

/-- QUIRE_CFG_ERR with the local address of the write (R438). -/
def State.quireCfgErr (s : State) (a : Nat) : State := s.raiseN 176 a

/-- QUIRE_CFG_WRITE (R429, R430). -/
def State.quireCfgWrite (s : State) (q : Nat) (data : Word) : State :=
  let a := Reg.QUIRE_CFG q
  let en := Fld.QUIRE_CFG_EN.get data == 1
  if s.quireOn q then
    if en then s.quireCfgErr a
    else (s.setBit a Fld.QUIRE_CFG_EN false).setFld (Reg.QUIRE_COUNT q) Fld.QUIRE_COUNT_COUNT 0
  else
    let s1 := (s.writeWord a data).setBit a Fld.QUIRE_CFG_EN false
    if en then
      let base := s1.regN (Reg.QUIRE_BASE q)
      let size := s1.quireSize q
      let depth := quireDepth (s1.reg a)
      if base % size = 0 ∧ depth ≠ 1 ∧ inVat base (depth * size) then
        ((s1.setBit a Fld.QUIRE_CFG_EN true).setFld (Reg.QUIRE_COUNT q) Fld.QUIRE_COUNT_COUNT 0).setFld
          (Reg.QUIRE_HEAD q) Fld.QUIRE_HEAD_HEAD 0
      else s1.quireCfgErr a
    else s1.setFld (Reg.QUIRE_COUNT q) Fld.QUIRE_COUNT_COUNT 0

/-- QUIRE_BASE_WRITE (R429). -/
def State.quireBaseWrite (s : State) (q : Nat) (data : Word) : State :=
  if s.quireOn q then s.quireCfgErr (Reg.QUIRE_BASE q) else s.setReg (Reg.QUIRE_BASE q) data

/-- The bytes of a staging window. -/
def State.swData (s : State) (n : Nat) : List Byte :=
  (List.range 16).flatMap (fun i => wordBytes (s.reg (Reg.QUIRE_SW_DATA n i)))

/-- Write words from the start of a register array. -/
def State.setRegs (s : State) (a : Nat) : List Word → State
  | [] => s
  | w :: ws => State.setRegs (s.setReg a w) (a + 4) ws

/-- A staging-window operation (R435): the pushed bytes are taken before the popped entry replaces DATA. The operation
is complete within its command, so BUSY reads 0 after it (log entry 11). -/
def State.quireSw (s : State) (n : Nat) (data : Word) : State :=
  let q := Fld.QUIRE_SW_CMD_QUIRE.get data
  let push := Fld.QUIRE_SW_CMD_PUSH.get data == 1
  let pop := Fld.QUIRE_SW_CMD_POP.get data == 1
  let st := Reg.QUIRE_SW_STATUS n
  if s.bit st Fld.QUIRE_SW_STATUS_BUSY || !(push || pop) then s
  else
    let size := s.quireSize q
    let r := s.quireServe q (if push then some ((s.swData n).take size) else none) pop
    let s1 := match r.1.popped with
      | none => r.2
      | some bs => r.2.setRegs (Reg.QUIRE_SW_DATA n 0) (wordsOf (size / 4) bs)
    s1.setRegN st (bitOf r.1.pushed * 2 + bitOf r.1.popped.isSome * 4 + bitOf r.1.empty * 8 + bitOf r.1.full * 16 +
      bitOf r.1.disabled * 32 + bitOf r.1.eccLost * 64 + s1.quireCount q * 2 ^ 15)

/-- The command QUIRE_CFG_WRITE. -/
def execQuireCfgWrite (q : Fin 16384) (data : Word) (s : State) : Host.Outcome State Fault Refusal :=
  .next (s.quireCfgWrite q data)

/-- The command QUIRE_BASE_WRITE. -/
def execQuireBaseWrite (q : Fin 16384) (data : Word) (s : State) : Host.Outcome State Fault Refusal :=
  .next (s.quireBaseWrite q data)

/-- What a pop has returned, in the model's field `host.answer`. -/
def State.popAnswer (s : State) (bs : List Byte) : State := { s with host := { s.host with answer := bs } }

/-- A hardware push with a pop of the quire in the same cycle where `withPop` says so (R431-R433, R681). -/
def State.pushPop (s : State) (q : Nat) (entry : List Byte) (withPop : Bool) : State :=
  if withPop then
    if s.quireOn q && entry.length != s.quireSize q then
      let r := (s.quireDrop q).quireServe q none true
      r.2.popAnswer (r.1.popped.getD [])
    else
      let r := s.quireServe q (some entry) true
      r.2.popAnswer (r.1.popped.getD [])
  else (s.hwPush q entry).2

/-- The staging windows whose operation for a quire, named by a field of the command, arrives in a cycle (window, QUIRE_SWn_CMD),
served after the hardware: HOST, then CPA, then CPB (R432). -/
def State.swServe (s : State) (q : Nat) (op : Field) (cmds : List (Fin 3 × Word)) : State :=
  (sortBy (fun x y => decide (x.1.val < y.1.val)) (cmds.filter (fun c =>
    Fld.QUIRE_SW_CMD_QUIRE.get c.2 == q && op.get c.2 == 1))).foldl (fun s c => s.quireSw c.1 c.2) s

/-- The hardware pushes of one cycle (R432, R681). -/
def State.hwPushes (s : State) (q : Nat) (pushes : List (Nat × List Byte)) (withPop : Bool) : State :=
  match sortBy (fun x y => decide (x.1 < y.1)) pushes with
  | [] => s
  | p :: rest => rest.foldl (fun s p => s.pushPop q p.2 false) (s.pushPop q p.2 withPop)

/-- The command QUIRE_PUSH: the hardware pushes that arrive for one quire in one cycle, each with the base address of its
block. They are served in ascending order of that address, one a cycle; the first one with the quire's consumer popping in
its cycle when `withPop` (R431-R433, R681). The staging windows `sw` that push in that cycle follow (R432). -/
def execQuirePush (q : Fin 16384) (pushes : List (Nat × List Byte)) (withPop : Bool) (s : State)
    (sw : List (Fin 3 × Word) := []) : Host.Outcome State Fault Refusal :=
  .next ((s.hwPushes q pushes withPop).swServe q Fld.QUIRE_SW_CMD_PUSH sw)

/-- The hardware pops of one cycle. -/
def State.hwPops (s : State) (q : Nat) (pops : List (Nat × Nat)) : State :=
  (sortBy (fun x y => decide (x.1 < y.1)) pops).foldl (fun s p =>
    let r := s.hwPop q p.2
    r.2.popAnswer (r.2.host.answer ++ r.1.getD [])) (s.popAnswer [])

/-- The command QUIRE_POP: the hardware consumers that pop one quire in one cycle, each with the base address of its block and
its entry size, served in the order of pushes (R431, R432, R681). What they return stands in the model's field
`host.answer`, in that order. The staging windows `sw` that pop in that cycle follow. -/
def execQuirePop (q : Fin 16384) (pops : List (Nat × Nat)) (s : State) (sw : List (Fin 3 × Word) := []) :
    Host.Outcome State Fault Refusal :=
  .next ((s.hwPops q pops).swServe q Fld.QUIRE_SW_CMD_POP sw)

/-- The command QUIRE_SW_PUSH. -/
def execQuireSwPush (n : Fin 3) (data : Word) (s : State) : Host.Outcome State Fault Refusal :=
  if Fld.QUIRE_SW_CMD_PUSH.get data = 1 then .next (s.quireSw n data) else .next s

/-- The command QUIRE_SW_POP. -/
def execQuireSwPop (n : Fin 3) (data : Word) (s : State) : Host.Outcome State Fault Refusal :=
  if Fld.QUIRE_SW_CMD_POP.get data = 1 then .next (s.quireSw n data) else .next s

end Sys2Proof.Machine
end

