-- ==== Sys2Proof/Machine/Tally.lean ====
section
/-! DEFINITION. The commands of the tally: forces, clears and the expiry of a grace timer (R552-R565). -/

namespace Sys2Proof.Machine

/-- Whether a source is assigned: reserved sources are never raised (R552 and the event tables of the chapters). -/
def sourceAssigned (src : Nat) : Bool :=
  decide (src < 320) && !([(24, 31), (37, 63), (85, 95), (108, 127), (140, 159), (177, 191), (202, 202), (213, 223),
    (228, 231), (237, 239), (245, 255), (260, 263), (270, 271), (275, 279), (284, 287), (310, 315)].any
    (fun r => decide (r.1 ≤ src) && decide (src ≤ r.2)))

/-- EVGG_FORCE_WRITE (R552, R555): no tally reaction. -/
def State.evgForce (s : State) (g : Nat) (data : Word) : State :=
  (((bitsSet 32 data.toNat).map (fun i => 32 * g + i)).filter sourceAssigned).foldl (fun s src => s.mark src 0) s

/-- The IMAGE_ID the idle bank of a processor holds from before an activation. -/
def State.prevFw (s : State) (p : Nat) : Word := if p = 0 then s.boot.prevA else s.boot.prevB

/-- Whether no more than 2 s, counted in TU_CLK ticks, have passed since an activation of a processor whose idle bank still holds
the image before it (R606). -/
def State.justActivated (s : State) (p : Nat) : Bool :=
  s.prevFw p != 0 && decide (s.time.ticks ≤ SMap.find 0 s.boot.actAt p + 1600000000)

/-- A raise that leaves CLEAR of the watchdog fault of a processor settles to which image the reset that it orders goes back
(R606). -/
def State.noteWdog (s : State) (n : Nat) : State :=
  if n = 4 ∨ n = 5 then
    { s with boot := { s.boot with revert := maskSet s.boot.revert (n - 4) (s.justActivated (n - 4)) } }
  else s

/-- The same for a raise that may meet the fault raised already. -/
def State.noteRaise (s : State) (n : Nat) : State := if s.sticky n then s else s.noteWdog n

/-- A forced raise of one fault: its source with word 3 of 0, the raise for the tally, and FORCED (R555, R553). With a raise
by its condition in the same cycle it is that one raise, not forced, with its word 3 (R564). -/
def State.forceFault (s : State) (n : Nat) (raised : Option Word) : State :=
  match raised with
  | some w3 => ((s.noteRaise n).mark (sourceOf n) w3).tallyRaise n false
  | none => (((s.noteRaise n).mark (sourceOf n) 0).tallyRaise n true).mark 35 (BitVec.ofNat 32 n)

/-- A write to TALLY_FORCEw (R555, R564): `raised` lists the faults among them that their conditions raise in the same cycle,
with word 3. -/
def State.tallyForce (s : State) (w : Nat) (data : Word) (raised : List (Fin 32 × Word)) : State :=
  (((bitsSet 32 data.toNat).filter (fun b => sourceAssigned (sourceOf (32 * w + b)))).foldl (fun s b =>
    s.forceFault (32 * w + b) ((raised.find? (fun e => e.1.val == b)).map (·.2))) s).syncSummary

/-- One fault of a write to TALLY_STICKYw (R562, R564). A fault raised in the same cycle (`raised` says whether by a force
alone), its sticky bit set before, keeps the bit and reacts as from CLEAR, whatever state it was in; GRACE_CLEARED is not
raised and TALLY_FIRST is left unchanged (log entry 12). -/
def State.stickyClear (s : State) (n : Nat) (raised : Option Bool) : State :=
  if s.sticky n then
    match raised with
    | some forced =>
      (({ s with tally := { s.tally with acted := s.tally.acted.filter (· != n) } }.noteWdog n).setGrace n false).react n forced
    | none =>
      let a := Reg.TALLY_STICKY (n / 32)
      let s1 := s.setReg a (s.reg a &&& ~~~bitMask (n % 32))
      let s2 := { s1 with
        tally := { s1.tally with acted := s1.tally.acted.filter (· != n) }
        boot := { s1.boot with revert := if n = 4 ∨ n = 5 then maskSet s1.boot.revert (n - 4) false else s1.boot.revert } }
      if s.inGrace n then (s2.setGrace n false).mark 33 (BitVec.ofNat 32 n) else s2
  else s

/-- A write to TALLY_STICKYw; the faults raised in the same cycle by their conditions, and those by a force. -/
def State.stickyWrite (s : State) (w : Nat) (data raised forced : Word) : State :=
  ((bitsSet 32 data.toNat).foldl (fun s b => s.stickyClear (32 * w + b)
    (if testBit raised b then some false else if testBit forced b then some true else none)) s).syncSummary

/-- GRACE_EXPIRY (R562, R564): the expiry wins over a clear in its cycle. -/
def State.graceExpiry (s : State) (n : Nat) : State :=
  if s.inGrace n then
    let cls := SMap.find 0 s.tally.taken n
    ((s.setGrace n false).orderAction n (Fld.TALLY_CLASS_ACTION.get cls) (testBit cls 31)).syncSummary
  else s

/-- The command EVGG_FORCE_WRITE. -/
def execEvggForceWrite (g : Fin 10) (data : Word) (s : State) : Host.Outcome State Fault Refusal :=
  .next (s.evgForce g data).syncSummary

/-- The command EVGG_CAUSE_CLEAR (R556): the bits raised in the same cycle stay set. -/
def execEvggCauseClear (g : Fin 10) (data raised : Word) (s : State) : Host.Outcome State Fault Refusal :=
  .next (s.setReg (Reg.EVG_CAUSE g) (s.reg (Reg.EVG_CAUSE g) &&& ~~~(data &&& ~~~raised))).syncSummary

/-- The command TALLY_FORCE_WRITE (R555). -/
def execTallyForceWrite (w : Fin 6) (data : Word) (s : State) (raised : List (Fin 32 × Word) := []) :
    Host.Outcome State Fault Refusal :=
  .next (s.tallyForce w data raised)

/-- The command TALLY_STICKY_CLEAR (R562, R564). -/
def execTallyStickyClear (w : Fin 6) (data raised : Word) (s : State) (forced : Word := 0) :
    Host.Outcome State Fault Refusal :=
  .next (s.stickyWrite w data raised forced)

/-- The command GRACE_EXPIRY. Its operand says whether a clear falls in its cycle, which changes nothing: the expiry wins
and the sticky bit stays set (R564). -/
def execGraceExpiry (n : Fin 192) (_cleared : Bool) (s : State) : Host.Outcome State Fault Refusal :=
  .next (s.graceExpiry n)

end Sys2Proof.Machine
end

