-- ==== Sys2Proof/Machine/Time.lean ====
section
/-! DEFINITION. The time unit (R28-R79): the counter, STEP and SET, the servo, audio start, pulses, captures and the host
event quire. -/

namespace Sys2Proof.Machine

/-- One microsecond in units of PT. -/
def usUnit : Nat := 1000 * nsUnit

/-- One past the largest PT: 48 bits of seconds (R4). -/
def ptWrap : Nat := 2 ^ 48 * secUnit

/-- Write a PT that was computed exactly; the manual states no PT below 0 or beyond 48 bits of seconds: free there (log
entry 1). -/
def State.setNowInt (s : State) (t : Int) : State :=
  if 0 ≤ t ∧ t < (ptWrap : Nat) then s.setNow t.toNat else (s.takeFree.2).setNow (s.takeFree.1 % ptWrap)

/-- The absolute PT that a 32-bit count of seconds and a time of day name, nearest to now (R6). Of two counts exactly 2^31
apart R6 calls neither later: DESIGN CHOICE, such an instant is past (log entry 87). For a nanoseconds word of 10^9 or more
the manual states no reading: DESIGN CHOICE, the excess carries into the seconds (log entry 110). -/
def State.absPt (s : State) (sec32 ns frac : Nat) : Int :=
  let now := ptSec s.now
  let ahead := (sec32 + 2 ^ 32 - now % 2 ^ 32) % 2 ^ 32
  let sec : Int := if ahead < 2 ^ 31 then (now + ahead : Nat) else ((now + ahead : Nat) : Int) - (2 ^ 32 : Nat)
  sec * (secUnit : Nat) + (ns * nsUnit + frac : Nat)

/-- adj, the correction in force, in LSB of TIME_INCR (R28). -/
def State.adj (s : State) : Int := (s.reg Reg.TIME_SERVO_ADJ).toInt

/-- TIME_INCR_EFF follows TIME_INCR_NOM and adj (R28); the register has 40 bits (R72). For a sum below 0 or of 2^40 and more
the manual states no value: DESIGN CHOICE, the sum modulo 2^40 (log entry 111). -/
def State.syncIncr (s : State) : State :=
  s.setReg64 Reg.TIME_INCR_EFF (lowInt 40 ((s.reg64 Reg.TIME_INCR_NOM : Nat) + s.adj))

/-- Write adj and the increment that follows it. -/
def State.setAdj (s : State) (a : Int) : State := (s.setReg Reg.TIME_SERVO_ADJ (wordOfInt a)).syncIncr

/-- The servo state code (R74). -/
def State.servo (s : State) : Nat := s.fld Reg.TIME_STATUS Fld.TIME_STATUS_SERVO_STATE

/-- Write the servo state: 0 FREE, 1 ACQUIRE, 2 LOCKED, 3 HOLDOVER (R74). -/
def State.setServo (s : State) (c : Nat) : State := s.setFld Reg.TIME_STATUS Fld.TIME_STATUS_SERVO_STATE c

/-- I in the register, whole LSB (R72), rounded as R49 rounds (log entry 14). -/
def State.setInteg (s : State) (p i : Int) : State :=
  { s.setReg Reg.TIME_SERVO_INTEG (wordOfInt (truncDiv i 256)) with time := { s.time with p := p, i := i } }

/-- The consecutive counts of the servo cleared. -/
def State.clearRuns (s : State) : State :=
  { s with time := { s.time with inRun := 0, midRun := 0, outRun := 0 } }

/-- The servo to FREE, with P, I and adj at 0 and no sample in flight (R49, R54). -/
def State.servoToFree (s : State) : State :=
  let s1 := ((s.setServo 0).setInteg 0 0).clearRuns
  ({ s1 with time := { s1.time with out := [] } }).setAdj 0

/-- The integral part once every result in flight has taken effect. -/
def State.integLast (s : State) : Int := match s.time.out.getLast? with | some o => o.i | none => s.time.i

/-- The result of a sample that is used: P, I and adj, to take effect 20 ns later, and ADJ_CLAMP (R49, R50). It starts from
the integral part of the sample before it, in effect or not. TIME_SERVO_THETA is written as the sample arrives and keeps
it where the sample's result is discarded: DESIGN CHOICE (log entry 112). -/
def State.useSample (s : State) (theta : Int) : State :=
  let lim : Int := (s.fld Reg.TIME_SERVO_LIMIT ⟨0, 31⟩ : Nat)
  let i0 := s.integLast
  let p := Int.fdiv ((s.fld Reg.TIME_SERVO_KP ⟨0, 24⟩ : Nat) * theta) 65536
  let iu := i0 + Int.fdiv ((s.fld Reg.TIME_SERVO_KI ⟨0, 24⟩ : Nat) * theta) 65536
  let i := clampInt (-(lim * 256)) (lim * 256) iu
  let u := -(truncDiv (p + i) 256)
  let adj := clampInt (-lim) lim u
  let s1 := s.setReg Reg.TIME_SERVO_THETA (wordOfInt (satInt 32 (Int.fdiv theta 65536)))
  let s2 := { s1 with time := { s1.time with out := s1.time.out ++ [⟨p, i, adj⟩] } }
  if i ≠ iu ∨ adj ≠ u then s2.raise 69 (wordOfInt (satInt 32 (-(truncDiv (p + iu) 256)))) else s2

/-- θ in whole nanoseconds, as records and registers hold it (R672). -/
def thetaNs (theta : Int) : Word := wordOfInt (satInt 32 (Int.fdiv theta 65536))

/-- Into ACQUIRE, with the counts afresh (R673). -/
def State.toAcquire (s : State) : State := (s.setServo 1).clearRuns

/-- An offset sample in the units of 2^-16 ns moves the servo (R54, R673). With OUTLIER_MULT = 0, which disables discarding
(R77), the row of R54 between LOCK_THR and the outlier limit has no upper end: DEDUCED (log entry 89). -/
def State.servoSample (s : State) (theta : Int) : State :=
  let lk := s.reg Reg.TIME_SERVO_LOCK
  let thr : Int := (Fld.TIME_SERVO_LOCK_LOCK_THR.get lk : Nat) * 65536
  let cnt := max 1 (Fld.TIME_SERVO_LOCK_LOCK_COUNT.get lk)
  let mult := Fld.TIME_SERVO_LOCK_OUTLIER_MULT.get lk
  let mag : Int := theta.natAbs
  match s.servo with
  | 0 => if s.bit Reg.TIME_SERVO_CTRL Fld.TIME_SERVO_CTRL_ENABLE then (s.useSample theta).toAcquire else s
  | 1 =>
    let s1 := s.useSample theta
    let run := if mag ≤ thr then s.time.inRun + 1 else 0
    if cnt ≤ run then ((s1.setServo 2).clearRuns).raise 64 (thetaNs theta)
    else { s1 with time := { s1.time with inRun := run } }
  | 2 =>
    if mult ≠ 0 ∧ (mult : Int) * thr < mag then
      if s.time.outRun < 3 then
        { s with time := { s.time with outRun := s.time.outRun + 1, midRun := 0 } }.raise 68 (thetaNs theta)
      else ((s.useSample theta).toAcquire).raise 65 (thetaNs theta)
    else if thr < mag then
      if cnt ≤ s.time.midRun + 1 then ((s.useSample theta).toAcquire).raise 65 (thetaNs theta)
      else
        let s1 := s.useSample theta
        { s1 with time := { s1.time with midRun := s.time.midRun + 1, outRun := 0 } }
    else (s.useSample theta).clearRuns
  | _ => ((s.useSample theta).toAcquire).raise 67 (thetaNs theta)

/-- A write of word 0 of TIME_SERVO_OFFSET with word 1 from the staging; a sample only while SOURCE is 0b00 (R76). -/
def State.servoOffsetWrite (s : State) (lo hi : Word) : State :=
  if s.fld Reg.TIME_SERVO_CTRL Fld.TIME_SERVO_CTRL_SOURCE = 0 then
    s.servoSample (signed 48 (lo.toNat + 2 ^ 32 * (hi.toNat % 2 ^ 16)))
  else s

/-- SERVO_ADJ_APPLY (R49): the result of the oldest sample in flight takes effect. -/
def State.servoApply (s : State) : State :=
  match s.time.out with
  | [] => s
  | o :: rest =>
    let s1 := s.setInteg o.p o.i
    ({ s1 with time := { s1.time with out := rest } }).setAdj o.adj

/-- SERVO_HOLDOVER_TIMEOUT (R54): the results in flight have taken effect long before it. -/
def State.servoHoldover (s : State) : State :=
  if s.servo = 1 ∨ s.servo = 2 then
    let a := -(truncDiv s.integLast 256)
    let s1 := ((s.setServo 3).setInteg 0 s.integLast).clearRuns
    (({ s1 with time := { s1.time with out := [] } }).setAdj a).raise 66 (wordOfInt a)
  else s

/-- TIME_INCR_NOM takes its words in effect in FREE, and refuses them with CONFIG_ERR elsewhere (R29). -/
def State.incrNomWrite (s : State) (lo hi : Word) : State :=
  if s.servo = 0 then
    ((s.setReg Reg.TIME_INCR_NOM lo).setRegN (Reg.TIME_INCR_NOM + 4) (hi.toNat % 256)).syncIncr
  else s.raiseN 84 Reg.TIME_INCR_NOM

/-! ### STEP and SET (R30-R32, R75) -/

/-- The value of TIME_ADJ without its sign, in units of PT (R72). -/
def State.timeAdj (s : State) : Nat :=
  (s.regN (Reg.TIME_ADJ + 8) + 2 ^ 32 * (s.regN (Reg.TIME_ADJ + 12) % 2 ^ 16)) * secUnit +
    s.regN (Reg.TIME_ADJ + 4) * nsUnit + s.regN Reg.TIME_ADJ

/-- The instant of edge j of a pulse output (R58, R59). -/
def Pulse.instant (p : Pulse) (j : Nat) : Int := p.start + (p.period * j : Nat)

/-- The first edge index whose instant is not before t. -/
def Pulse.indexFrom (p : Pulse) (t : Int) : Nat :=
  if t ≤ p.start ∨ p.period = 0 then 0 else (-(Int.fdiv (p.start - t) (p.period : Nat))).toNat

/-- Write what a pulse output keeps. -/
def State.setPulse (s : State) (n : Nat) (p : Pulse) : State :=
  let s1 := { s with time := { s.time with pulses := SMap.set {} s.time.pulses n p } }
  s1.setBit (Reg.TIME_PULSE_CTRL n) Fld.TIME_PULSE_CTRL_ARMED p.armed

/-- What a pulse output keeps. -/
def State.pulse (s : State) (n : Nat) : Pulse := SMap.find {} s.time.pulses n

/-- A pulse output after a step to t: the instants jumped over are not emitted, and PULSE_MISSED is raised (R32). -/
def State.pulseJump (s : State) (t : Int) (n : Nat) : State :=
  let p := s.pulse n
  if p.armed ∧ !(p.train = false ∧ p.high) ∧ p.instant p.next < t then
    if p.train then (s.setPulse n { p with next := max p.next (p.indexFrom t) }).raiseN (74 + n) 0
    else (s.setPulse n { p with armed := false }).raiseN (74 + n) 0
  else s

/-- The instants of captured edges carried along with a change of PT by d, so that the 10 ns of R64 stay real time. -/
def State.shiftCaps (s : State) (d : Int) : State :=
  { s with time := { s.time with capSeen := s.time.capSeen.map (fun e => (e.1, e.2.map (· + d))) } }

/-- The change of TIME_NOW to t, the jumped pulses and STEP_DONE, stamped after the change (R31, R32, R71). -/
def State.stepTo (s : State) (t : Int) : State :=
  let fwd := decide ((s.now : Int) < t)
  let s0 := s.setNowInt t
  let s1 := s0.shiftCaps ((s0.now : Int) - s.now)
  let s2 := if fwd then [0, 1, 2, 3].foldl (fun s n => s.pulseJump (s1.now : Nat) n) s1 else s1
  s2.raiseN 70 0

/-- Whether a step is refused at its tick (R30). -/
def State.stepRefused (s : State) : Bool := s.audio || decide (1000000000 ≤ s.regN (Reg.TIME_ADJ + 4))

/-- STEP at its tick (R30, R75). -/
def State.timeStep (s : State) : State :=
  if s.stepRefused then s.raiseN 71 0
  else
    let d : Int := (s.timeAdj : Nat)
    s.stepTo (if testBit (s.reg (Reg.TIME_ADJ + 12)) 31 then (s.now : Int) - d else (s.now : Int) + d)

/-- SET at its tick (R30, R75). -/
def State.timeSet (s : State) : State :=
  if s.stepRefused then s.raiseN 71 0 else s.stepTo (s.timeAdj : Nat)

/-- A command of TIME_CMD waits for its tick (R30). -/
def State.timeAwait (s : State) (c : TimeCmd) : State := { s with time := { s.time with cmds := s.time.cmds ++ [c] } }

/-- The TIME_CMD bits (R75): STEP and SET together are refused at the write; either alone waits for the first TU_CLK tick
after it (R30). -/
def State.timeCmd (s : State) (step set reset : Bool) : State :=
  let s1 := if reset then s.servoToFree else s
  if step && set then s1.raiseN 71 0
  else if step then s1.timeAwait .step
  else if set then s1.timeAwait .set
  else s1

/-- A command of TIME_CMD takes effect. -/
def State.timeEffect (s : State) (c : TimeCmd) : State :=
  match c with
  | .step => s.timeStep
  | .set => s.timeSet

/-- The commands that wait take effect, in the order of their writes (R30). -/
def State.timeEffects (s : State) : State :=
  s.time.cmds.foldl State.timeEffect { s with time := { s.time with cmds := [] } }

/-! ### Control writes, audio -/

/-- TIME_CTRL (R73): AUDIO_RUN is written; RATE is SH and changes only by a clause (R42, R277; log entry 15); a reserved
code is refused with CONFIG_ERR (R71). A write of AUDIO_RUN = 0 while audio runs asks for the stop (R56). -/
def State.timeCtrlWrite (s : State) (data : Word) : State :=
  let s1 := s.setFld Reg.TIME_CTRL Fld.TIME_CTRL_AUDIO_RUN (Fld.TIME_CTRL_AUDIO_RUN.get data)
  let s2 := if s.audio && Fld.TIME_CTRL_AUDIO_RUN.get data == 0 then { s1 with time := { s1.time with stopAsked := true } }
    else s1
  if 6 ≤ Fld.TIME_CTRL_RATE.get data then s2.raiseN 84 Reg.TIME_CTRL else s2

/-- c is 0 while STEER_x does not select a PLL (R86). -/
def State.unsteer (s : State) (x : Nat) : State :=
  { s with time := { s.time with servoC := SMap.set 0 s.time.servoC x 0, edge := SMap.set 0 s.time.edge x 0 } }.setReg
    (Reg.SYNTH_STEER x) 0

/-- TIME_SERVO_CTRL (R76): ENABLE written 0 returns the servo to FREE (R54). -/
def State.servoCtrlWrite (s : State) (data : Word) : State :=
  let s1 := s.writeWord Reg.TIME_SERVO_CTRL data
  let s2 := if s1.bit Reg.TIME_SERVO_CTRL Fld.TIME_SERVO_CTRL_STEER_A then s1 else s1.unsteer 0
  let s3 := if s1.bit Reg.TIME_SERVO_CTRL Fld.TIME_SERVO_CTRL_STEER_B then s2 else s2.unsteer 1
  if Fld.TIME_SERVO_CTRL_ENABLE.get data = 0 then s3.servoToFree else s3

/-- Whether audio starts at boundary k (R55): both conditions have held for 1 ms. -/
def State.audioStarts (s : State) (k held : Nat) : Bool :=
  s.bit Reg.TIME_CTRL Fld.TIME_CTRL_AUDIO_RUN && s.servo == 2 && !s.audio && decide (1 ≤ held) && s.folio == k

/-- AUDIO_ACTIVE becomes 1 (R55). -/
def State.audioStart (s : State) (k : Nat) : State :=
  (s.setBit Reg.TIME_STATUS Fld.TIME_STATUS_AUDIO_ACTIVE true).raiseN 72 k

/-- AUDIO_STOP (R56). -/
def State.audioStop (s : State) : State :=
  if s.audio && s.time.stopAsked then
    { s with time := { s.time with stopAsked := false } }.setBit Reg.TIME_STATUS Fld.TIME_STATUS_AUDIO_ACTIVE false
  else s

/-! ### Pulse outputs (R57-R62) -/

/-- The level of pin TIME_PULSEn: the pulse, turned over where POLARITY says active low (R62, R78). -/
def State.pulsePin (s : State) (n : Nat) : Bool :=
  (s.pulse n).high != s.bit (Reg.TIME_PULSE_CTRL n) Fld.TIME_PULSE_CTRL_POLARITY

/-- The output stopped: the pin inactive and nothing pending (R62). -/
def State.pulseOff (s : State) (n : Nat) : State := s.setPulse n {}

/-- A write of TIME_PULSEn_CTRL (R57-R62, R78). Arming an output whose pulse is in progress ends that pulse: DESIGN CHOICE
(log entry 90). -/
def State.pulseCtrlWrite (s : State) (n : Nat) (data : Word) : State :=
  let a := Reg.TIME_PULSE_CTRL n
  let m := Fld.TIME_PULSE_CTRL_MODE.get data
  let s1 := s.writeWord a data
  if m = 0 ∨ m = 3 then s1.pulseOff n
  else
    let width := s.fld (Reg.TIME_PULSE_WIDTH n) Fld.TIME_PULSE_WIDTH_WIDTH * nsUnit
    let period := s.reg64 (Reg.TIME_PULSE_PERIOD n)
    let st := Reg.TIME_PULSE_START n
    let start := s.absPt (s.regN (st + 8)) (s.regN (st + 4)) (s.regN st)
    if width < 5 * nsUnit ∨ (m = 2 ∧ (period < 20 * nsUnit ∨ period < width + 5 * nsUnit)) then
      ((s1.pulseOff n).setFld a Fld.TIME_PULSE_CTRL_MODE 0).raiseN 84 a
    else
      let p : Pulse := { armed := true, train := m == 2, start := start, period := if m = 2 then period else 0,
                         width := width, next := 0, high := false }
      let first : Int := (s.now + usUnit : Nat)
      if first ≤ start then s1.setPulse n p
      else if m = 2 then (s1.setPulse n { p with next := p.indexFrom first }).raiseN (74 + n) 0
      else (s1.setPulse n { p with armed := false }).raiseN (74 + n) 0

/-- PULSE_EDGE (R58, R59): PT has reached the instant of the next edge. -/
def State.pulseEdge (s : State) (n : Nat) : State :=
  let p := s.pulse n
  if p.armed ∧ !p.high ∧ p.instant p.next ≤ (s.now : Int) then s.setPulse n { p with high := true, next := p.next + 1 }
  else s

/-- PULSE_WIDTH_END (R78): a once pulse clears ARMED at its end. -/
def State.pulseWidthEnd (s : State) (n : Nat) : State :=
  let p := s.pulse n
  if p.high then s.setPulse n { p with high := false, armed := p.train } else s

/-! ### Captures and the host event quire -/

/-- θ of a captured edge: the PT minus the nearest whole second (R49 and the servo's text), to 2^-16 ns. Which of two
neighbours a value between two steps, or an edge half-way between two seconds, takes is not stated: free (log
entry 1). -/
def State.captureTheta (s : State) : Int × State :=
  let r := s.now % secUnit
  let up := if r * 2 = secUnit then s.takeFree.1 % 2 == 1 else decide (secUnit < r * 2)
  let s1 := if r * 2 = secUnit then s.takeFree.2 else s
  let d : Int := if up then (r : Int) - (secUnit : Nat) else (r : Int)
  if d % 65536 = 0 then (Int.fdiv d 65536, s1)
  else (Int.fdiv d 65536 + ((s1.takeFree.1 % 2 : Nat) : Int), s1.takeFree.2)

/-- Whether an edge follows the captured edge before it by less than 10 ns (R64). -/
def State.capTooSoon (s : State) (n : Nat) : Bool :=
  match SMap.find none s.time.capSeen n with
  | some last => decide (last ≤ (s.now : Int)) && decide ((s.now : Int) < last + (10 * nsUnit : Nat))
  | none => false

/-- CAPTURE_EDGE (R48, R63-R65, R76). The edge is stamped with PT itself, a residual of 0 within the ±1 ns of R48: DESIGN
CHOICE (log entry 88). -/
def State.captureEdge (s : State) (n : Nat) (rising : Bool) : State :=
  let c := s.reg (Reg.TIME_CAP_CTRL n)
  let e := Fld.TIME_CAP_CTRL_EDGE.get c
  if Fld.TIME_CAP_CTRL_ENABLE.get c = 0 ∨ !(e == 3 || (rising && e == 1) || (!rising && e == 2)) then s
  else
    if s.capTooSoon n then
      let s1 := s.count (Reg.TIME_CAP_DROP n) 1
      s1.raiseFolio (limitKey (78 + n) 0) (78 + n) (s1.regN (Reg.TIME_CAP_DROP n))
    else
      let a := Reg.TIME_CAP_LAST n
      let hi := ptSec s.now / 2 ^ 32 % 2 ^ 16 + bitOf rising * 2 ^ 31
      let s1 := (((s.setRegN a s.now).setRegN (a + 4) (ptNs s.now)).setRegN (a + 8) (ptSec s.now)).setRegN (a + 12) hi
      let s2 := { s1 with time := { s1.time with capSeen := SMap.set none s1.time.capSeen n (some (s.now : Int)) } }
      let s3 := if Fld.TIME_CAP_CTRL_TO_QUIRE.get c = 1 then
          (s2.hwPush (Fld.TIME_CAP_CTRL_QUIRE.get c) (wordBytes (s2.reg a) ++ wordBytes (s2.reg (a + 4)) ++
            wordBytes (s2.reg (a + 8)) ++ wordBytes (s2.reg (a + 12)))).2
        else s2
      let src := s.fld Reg.TIME_SERVO_CTRL Fld.TIME_SERVO_CTRL_SOURCE
      if src = n + 1 ∧ n < 2 then (s3.captureTheta.2).servoSample s3.captureTheta.1 else s3

/-- Whether a record goes before another: gloss order, then the source number (R67). -/
def recordBefore (a b : EventRec) : Bool :=
  let ga := a.sec * 2 ^ 32 + a.ns
  let gb := b.sec * 2 ^ 32 + b.ns
  glossLater gb ga || (ga == gb && decide (a.source < b.source))

/-- Whether PT has reached a record's gloss plus 2 µs (R67). -/
def State.recordDue (s : State) (r : EventRec) : Bool :=
  decide (s.absPt r.sec r.ns 0 + (2 * usUnit : Nat) ≤ (s.now : Int))

/-- The 16 bytes of a host event record (R70). -/
def EventRec.bytes (r : EventRec) (seq : BitVec 16) : List Byte :=
  leBytes 4 r.ns ++ leBytes 4 r.sec ++ leBytes 4 (r.source + seq.toNat * 2 ^ 16) ++ wordBytes r.word3

/-- EVENT_RECORD_PUSH (R67, R70): the first record in order, once it is due. The sequence count advances for a record
that the quire refuses too, which leaves the gap. The first record after reset has count 0: DESIGN CHOICE (log entry 92). -/
def State.eventRecordPush (s : State) : State :=
  match sortBy recordBefore s.time.records with
  | [] => s
  | r :: rest =>
    if s.recordDue r then
      let s1 := { s with time := { s.time with records := rest, evSeq := s.time.evSeq + 1 } }
      (s1.hwPush r.quire (r.bytes s.time.evSeq)).2
    else s

/-- PT advances by its increment (R28). Past 48 bits of seconds PT goes on from 0: DESIGN CHOICE (log entry 91). -/
def State.advance (s : State) : State :=
  let s1 := s.setNow ((s.now + s.reg64 Reg.TIME_INCR_EFF) % ptWrap)
  { s1 with time := { s1.time with ticks := s1.time.ticks + 1 } }

/-- TU_CLK_TICK (R28, R30): the increment, then the commands of TIME_CMD that wait (DEDUCED, log entry 13). -/
def State.tick (s : State) : State := s.advance.timeEffects

/-! ### The commands -/

/-- The command TIME_INCR_NOM_WRITE: word 0 with word 1 from the staging of the master (R38). -/
def execTimeIncrNomWrite (m : RegMaster) (data : Word) (s : State) : Host.Outcome State Fault Refusal :=
  .next (s.unlessBarred m Reg.TIME_INCR_NOM (s.incrNomWrite data (s.stagedWord m (Reg.TIME_INCR_NOM + 4))))

/-- The command STEP. -/
def execStep (withSet : Bool) (s : State) : Host.Outcome State Fault Refusal := .next (s.timeCmd true withSet false)

/-- The command SET. -/
def execSet (withStep : Bool) (s : State) : Host.Outcome State Fault Refusal := .next (s.timeCmd withStep true false)

/-- The command SERVO_RESET (R54). -/
def execServoReset (s : State) : Host.Outcome State Fault Refusal := .next s.servoToFree

/-- The command TIME_CTRL_WRITE. -/
def execTimeCtrlWrite (data : Word) (s : State) : Host.Outcome State Fault Refusal := .next (s.timeCtrlWrite data)

/-- The command SERVO_CTRL_WRITE. -/
def execServoCtrlWrite (data : Word) (s : State) : Host.Outcome State Fault Refusal := .next (s.servoCtrlWrite data)

/-- The command SERVO_OFFSET_SAMPLE: word 0 with word 1 from the staging of the master (R38, R49). -/
def execServoOffsetSample (m : RegMaster) (data : Word) (s : State) : Host.Outcome State Fault Refusal :=
  .next (s.unlessBarred m Reg.TIME_SERVO_OFFSET
    (s.servoOffsetWrite data (s.stagedWord m (Reg.TIME_SERVO_OFFSET + 4))))

/-- The command SERVO_ADJ_APPLY. -/
def execServoAdjApply (s : State) : Host.Outcome State Fault Refusal := .next s.servoApply

/-- The command SERVO_HOLDOVER_TIMEOUT. -/
def execServoHoldoverTimeout (s : State) : Host.Outcome State Fault Refusal := .next s.servoHoldover

/-- The command PULSE_ARM. -/
def execPulseArm (n : Fin 4) (data : Word) (s : State) : Host.Outcome State Fault Refusal :=
  .next (s.pulseCtrlWrite n data)

/-- The command PULSE_STOP. -/
def execPulseStop (n : Fin 4) (data : Word) (s : State) : Host.Outcome State Fault Refusal :=
  .next (s.pulseCtrlWrite n (Fld.TIME_PULSE_CTRL_MODE.put data 0))

/-- The command PULSE_EDGE. -/
def execPulseEdge (n : Fin 4) (s : State) : Host.Outcome State Fault Refusal := .next (s.pulseEdge n)

/-- The command PULSE_WIDTH_END. -/
def execPulseWidthEnd (n : Fin 4) (s : State) : Host.Outcome State Fault Refusal := .next (s.pulseWidthEnd n)

/-- The command CAPTURE_EDGE. -/
def execCaptureEdge (n : Fin 4) (rising : Bool) (s : State) : Host.Outcome State Fault Refusal :=
  .next (s.captureEdge n rising)

/-- The command EVENT_RECORD_PUSH. -/
def execEventRecordPush (s : State) : Host.Outcome State Fault Refusal := .next s.eventRecordPush


end Sys2Proof.Machine
end

