-- ==== Sys2Proof/Machine/Xbar.lean ====
section
/-! DEFINITION. The crossbar, the bandwidth ledger's use in arbitration, and the DRAM controller (R400-R428, R436-R445,
R679). Transactions of the engines wait and are granted here; the accesses of other masters take place within their
commands (log entry 18). -/

namespace Sys2Proof.Machine

/-- The code of a master (R265). -/
def Master.code (m : Master) : Nat :=
  match m with
  | .pc n => n.val | .seq => 8 | .mix => 9 | .packRx => 10 | .packTx => 11 | .felt => 12
  | .dma n => 13 + n.val | .cpa => 17 | .cpb => 18 | .host => 19 | .boot => 20

/-- A master of the registers as a master of the crossbar. -/
def RegMaster.master (m : RegMaster) : Master :=
  match m with
  | .host => .host | .cpa => .cpa | .cpb => .cpb | .dma n => .dma n | .boot => .boot

/-- Whether a local address lies in a block of registers, in an engine memory or in a processor memory (R637). -/
def inBlocks (a : Nat) : Bool :=
  [(0x0, 0x400000), (0x01000000, 0x01180000), (0x02000000, 0x02400000), (0x03000000, 0x03300000),
   (0x04000000, 0x05000000), (0x05000000, 0x05400000), (0x06000000, 0x06400000), (0x07000000, 0x07100000),
   (0x08000000, 0x08100000), (0x09000000, 0x09100000), (0x0A000000, 0x0A800000)].any
    (fun r => decide (r.1 ≤ a) && decide (a < r.2))

/-- The target of a local address: a vat bank, the ledger, PBR, or the aperture as 32; none otherwise (R403, R637). -/
def targetOf (a : Nat) : Option Nat :=
  if inVat a 1 then some (vatBank a)
  else if 0x18000000 ≤ a ∧ a < 0x18800000 then some 34
  else if 0x80000000 ≤ a ∧ a < 0x100000000 then some 32
  else if inBlocks a then some 35 else none

/-- Whether a master reaches a target (R400); the engines reach DC0 and DC1 by delay-line references only. -/
def reaches (code t : Nat) : Bool :=
  decide (t < 32) || (decide (t < 36) && decide (13 ≤ code)) || (decide (t = 32 ∨ t = 33) && decide (code < 8))

/-- The installed capacity in bytes (R423). -/
def State.dramCap (s : State) : Nat := s.fld Reg.DRAM_CAP ⟨0, 5⟩ * 2 ^ 30

/-- The channel of a DRAM address: interleaved every 256 bytes (R428). -/
def dramChannel (a : Nat) : Nat := a / 256 % 2

/-- The state of a DRAM channel (R445): 0 OFF, 1 INIT, 2 TRAIN, 3 READY, 4 RETRAIN, 5 FAILED. -/
def State.dramState (s : State) (c : Nat) : Nat :=
  s.fld Reg.DRAM_STATUS (if c = 0 then Fld.DRAM_STATUS_STATE0 else Fld.DRAM_STATUS_STATE1)

/-- Write the state of a DRAM channel. -/
def State.setDramState (s : State) (c st : Nat) : State :=
  s.setFld Reg.DRAM_STATUS (if c = 0 then Fld.DRAM_STATUS_STATE0 else Fld.DRAM_STATUS_STATE1) st

/-- Whether a DRAM range touches only channels in READY (R679). -/
def State.dramReady (s : State) (a n : Nat) : Bool :=
  let c := dramChannel a
  if a / 256 = (a + n - 1) / 256 then s.dramState c == 3 else s.dramState 0 == 3 && s.dramState 1 == 3

/-- An error answer recorded by the crossbar (R402, R442). -/
def State.xbarErr (s : State) (code addr : Nat) (write : Bool) (cause : Nat) : State :=
  let s1 := (s.setRegN Reg.XBAR_ERR_ADDR addr).setRegN Reg.XBAR_ERR_INFO
    (code + bitOf write * 2 ^ 5 + cause * 2 ^ 6 + 2 ^ 8)
  s1.raiseN 160 (code + cause * 2 ^ 6)

/-- An uncorrectable error of a vat read (R404). -/
def State.vatUncorr (s : State) (code addr : Nat) : State := s.raiseN 162 (vatBank addr + code * 2 ^ 8)

/-- The parts of a vat transfer of at most 4 096 bytes: split at a bank boundary (R401). -/
def vatParts (addr len : Nat) : List (Nat × Nat) :=
  let room := 0x180000 - (addr - vatLo) % 0x180000
  if len ≤ room then [(addr, len)] else [(addr, room), (addr + room, len - room)]

/-- The accesses of at most 4 096 bytes that an access of any length is made of (R401; log entry 99). -/
def accessCuts (addr n : Nat) : List (Nat × Nat) :=
  (List.range ((n + 4095) / 4096)).map (fun i => (addr + 4096 * i, min 4096 (n - 4096 * i)))

/-- The transactions of a vat access of any length (R401). -/
def accessParts (addr n : Nat) : List (Nat × Nat) := (accessCuts addr n).flatMap (fun c => vatParts c.1 c.2)

/-- The tags that a master holds during an access of its own: those of one of its transactions at a time, two where it is split
(R401, R436; log entry 99). -/
def State.holdVat (s : State) (addr n : Nat) : State :=
  s.holdTags ((accessCuts addr n).foldl (fun m c => max m (vatParts c.1 c.2).length) 1)

/-- One transaction of a vat read: corrected errors are counted, an uncorrectable one is answered with an error (R404), and so
is a part past the end of vat memory, which has no target (R401, R402). -/
def State.vatCheck (s : State) (code addr n : Nat) : State :=
  if vatHi ≤ addr then s.xbarErr code addr false 0
  else
    let s1 := s.vatCorr addr n
    if s1.eccBad addr n then (s1.vatUncorr code (s1.eccFirst true 8 addr n)).xbarErr code addr false 2 else s1

/-- A read that begins in vat memory, for a master: none, with the error recorded, when a word holds an uncorrectable error or
the read runs past the end. -/
def State.vatRead (s : State) (code addr n : Nat) : Option (List Byte) × State :=
  (if s.eccBad addr n || decide (vatHi < addr + n) then none else some (s.read addr n),
    (accessParts addr n).foldl (fun s p => s.vatCheck code p.1 p.2) s)

/-- The partial 64-bit words at the two ends of a write of n bytes, which are read and modified (R404). -/
def rmwWords (addr n : Nat) : List Nat :=
  (if addr % 8 ≠ 0 then [addr / 8 * 8] else []) ++
    (if (addr + n) % 8 ≠ 0 ∧ (addr % 8 = 0 ∨ addr / 8 ≠ (addr + n) / 8) then [(addr + n) / 8 * 8] else [])

/-- Whether a write of n bytes covers a part of a 64-bit word only, and that word is bad (R404). -/
def State.rmwBad (s : State) (addr n : Nat) : Bool := (rmwWords addr n).any (fun w => s.eccBad w 8)

/-- One transaction of a write to vat memory: the reads of its partial words are corrected and counted, and nothing is written
when one of them fails (R404). A part past the end has no target (R401, R402). -/
def State.vatPut (s : State) (code addr : Nat) (bs : List Byte) : Bool × State :=
  let n := bs.length
  if vatHi ≤ addr then (false, s.xbarErr code addr true 0)
  else
  let s1 := (rmwWords addr n).foldl (fun s w => s.vatCorr w 8) s
  match (rmwWords addr n).filter (fun w => s.eccBad w 8) with
  | w :: _ => (false, (s1.vatUncorr code w).xbarErr code addr true 2)
  | [] => (true, (s1.write addr bs).eccClear (addr / 8 * 8) ((addr + n + 7) / 8 * 8 - addr / 8 * 8))

/-- A write to vat memory for a master, transaction by transaction (R401, R404); whether all of them succeed. -/
def State.vatWrite (s : State) (code addr : Nat) (bs : List Byte) : Bool × State :=
  (accessParts addr bs.length).foldl (fun r p =>
    let w := r.2.vatPut code p.1 (slice bs (p.1 - addr) p.2)
    (r.1 && w.1, w.2)) (true, s)

/-- An access of a unit that reaches vat memory only, at an address elsewhere: an error answer (R400, R402). -/
def State.unitErr (s : State) (code addr : Nat) (write : Bool) : State :=
  (s.holdTags 1).xbarErr code addr write (if (targetOf addr).isSome && !inVat addr 1 then 1 else 0)

/-- A read by a hardware unit that reaches vat memory and nothing else (R400, R402). -/
def State.unitRead (s : State) (code addr n : Nat) : Option (List Byte) × State :=
  if inVat addr 1 then (s.holdVat addr n).vatRead code addr n else (none, s.unitErr code addr false)

/-- A write of a hardware unit that reaches vat memory only. -/
def State.unitWrite (s : State) (code addr : Nat) (bs : List Byte) : Bool × State :=
  if inVat addr 1 then (s.holdVat addr bs.length).vatWrite code addr bs else (false, s.unitErr code addr true)

/-- A read without a master's error path (R404): errors are counted and raised, nothing is answered. -/
def State.vatLook (s : State) (code addr n : Nat) : State :=
  let s1 := s.vatCorr addr n
  if s1.eccBad addr n then s1.vatUncorr code (s1.eccFirst true 8 addr n) else s1

/-- Bytes written to vat memory by a unit that is no master of the crossbar: they land there only (log entry 20), and a part of a
64-bit word is read and modified, which an uncorrectable error prevents (R404). -/
def State.unitPut (s : State) (a : Nat) (bs : List Byte) : State :=
  let n := bs.length
  if inVat a n then
    let s1 := (rmwWords a n).foldl (fun s w => s.vatCorr w 8) s
    match (rmwWords a n).filter (fun w => s.eccBad w 8) with
    | w :: _ => (s1.takeFree.2).vatUncorr (s1.takeFree.1 % 32) w
    | [] => (s1.write a bs).eccClear (a / 8 * 8) ((a + n + 7) / 8 * 8 - a / 8 * 8)
  else s

/-- Such a read by a unit that is no master of the crossbar (log entry 20): the master in the record is not stated: free (log
entry 1). -/
def State.vatScan (s : State) (addr n : Nat) : State := (s.takeFree.2).vatLook (s.takeFree.1 % 32) addr n

/-! ### Delay lines (R418-R422) -/

/-- The line of a delay-line reference. -/
def refLine (r : Nat) : Nat := r / 2 ^ 19 % 2 ^ 12

/-- The slot position of a delay-line reference. -/
def refPos (r : Nat) : Nat := r / 2 ^ 4 % 2 ^ 15

/-- Bytes of a slot of a line, by its NCH code (R419). -/
def slotBytes (nch : Nat) : Nat := 32 * 2 ^ nch

/-- The address of a line entry (R419). -/
def State.lineEntry (s : State) (l : Nat) : Nat := s.regN Reg.DRAM_LTAB + 16 * l

/-- Whether an entry of the table in force holds an uncorrectable error (R404). -/
def State.lineBad (s : State) (l : Nat) : Bool :=
  decide (l < s.fld Reg.DRAM_LCOUNT ⟨0, 13⟩) && inVat (s.lineEntry l) 16 && s.eccBad (s.lineEntry l) 16

/-- The controller reads a line entry for a transaction: errors are counted and raised (R404). It is no master of the crossbar,
so the master in the record is not stated: free (log entry 1). -/
def State.lineLook (s : State) (l : Nat) : State :=
  if l < s.fld Reg.DRAM_LCOUNT ⟨0, 13⟩ ∧ inVat (s.lineEntry l) 16 then s.vatScan (s.lineEntry l) 16 else s

/-- A line as the table in force gives it: base, slots and slot size; none in the cases of R421, nor where the entry cannot be
read (R404). -/
def State.line (s : State) (l : Nat) : Option (Nat × Nat × Nat) :=
  let a := s.lineEntry l
  let w := (s.word a).toNat
  let nch := w / 2 % 4
  let lg := w / 16 % 16
  let base := (s.word (a + 4)).toNat * 64
  if l < s.fld Reg.DRAM_LCOUNT ⟨0, 13⟩ ∧ inVat a 16 ∧ s.lineBad l = false ∧ w % 2 = 1 ∧ nch ≠ 3 ∧ 4 ≤ lg ∧
      base + 2 ^ lg * slotBytes nch ≤ s.dramCap then
    some (base, 2 ^ lg, slotBytes nch)
  else none

/-- The DRAM address of byte i of a transfer at a slot: past the last slot it goes on at slot 0 (R420). -/
def lineAddr (base len size pos i : Nat) : Nat := base + (pos % len * size + i) % (len * size)

/-- The n bytes a reference reads. -/
def State.lineRead (s : State) (ln : Nat × Nat × Nat) (pos n : Nat) : List Byte :=
  (List.range n).map (fun i => Memory.byte s.dram (lineAddr ln.1 ln.2.1 ln.2.2 pos i))

/-- Bytes written through a reference, from byte i of the transfer on. -/
def State.lineWrite (s : State) (ln : Nat × Nat × Nat) (pos : Nat) : Nat → List Byte → State
  | _, [] => s
  | i, b :: bs =>
    State.lineWrite { s with dram := Memory.setByte s.dram (lineAddr ln.1 ln.2.1 ln.2.2 pos i) b } ln pos (i + 1) bs

/-- The hold words of a line after a read served from memory: sample 7 of each channel in the last slot read (R416). -/
def State.setHold (s : State) (l : Nat) (ln : Nat × Nat × Nat) (pos n : Nat) : State :=
  let last := pos + (n - 1) / ln.2.2
  (List.range (ln.2.2 / 32)).foldl (fun s c =>
    let w := wordOf ((List.range 4).map (fun i =>
      Memory.byte s.dram (lineAddr ln.1 ln.2.1 ln.2.2 last (c * 32 + 28 + i))))
    { s with dramc := { s.dramc with hold := SMap.set 0 s.dramc.hold (l * 4 + c) w } }) s

/-- The data of a degraded read: every sample position of channel c holds the hold word of c (R416). -/
def State.holdData (s : State) (l size n : Nat) : List Byte :=
  (List.range (n / 4)).flatMap (fun i => wordBytes (SMap.find 0 s.dramc.hold (l * 4 + i * 4 % size / 32)))

/-! ### Transactions (R401, R406-R410, R436, R437) -/

/-- XBAR_INFLIGHT follows the tags in use (R442). -/
def State.syncInflight (s : State) : State :=
  let a := Reg.XBAR_INFLIGHT
  let n := s.tagsInUse
  (s.setFld a Fld.XBAR_INFLIGHT_NOW n).setFld a Fld.XBAR_INFLIGHT_MAX (max (s.fld a Fld.XBAR_INFLIGHT_MAX) n)

/-- Tags held by a cluster. -/
def State.clusterTags (s : State) (c : Fin 8) : Nat :=
  ((s.xbar.waiting ++ s.xbar.active.map (·.2)).filter (fun t => t.master == .pc c)).length

/-- The channel at which a delay-line reference is arbitrated by the line table in force; one that names no usable line asks
DC0. -/
def State.refChannel (s : State) (r : Nat) : Nat :=
  match s.line (refLine r) with
  | some ln => dramChannel (lineAddr ln.1 ln.2.1 ln.2.2 (refPos r) 0)
  | none => 0

/-- The transactions of an engine's transfer, and whether a part maps to no target. -/
def State.engineTxns (s : State) (e tag far len qos : Nat) (write : Bool) : List Txn × Bool :=
  let pc : Master := .pc ⟨e / 8 % 8, Nat.mod_lt _ (by decide)⟩
  if far < 0x80000000 then
    let parts := (vatParts far len).filter (fun p => decide (p.1 < vatHi))
    (parts.map (fun p => ⟨pc, vatBank p.1, p.1, p.2, write, qos, e, tag, s.xbar.count, none⟩),
      decide (vatHi < far + len))
  else ([⟨pc, 32 + s.refChannel far, far, len, write, qos, e, tag, s.xbar.count, none⟩], false)

/-- Transactions enter the crossbar. -/
def State.xbarAsk (s : State) (ts : List Txn) : State :=
  { s with xbar := { s.xbar with waiting := s.xbar.waiting ++ ts, count := s.xbar.count + 1 } }.syncInflight

/-- The credit of a master at a target in units of 1/800 byte, brought up to now: it grows by g per TU_CLK tick, which
is g / 1200 bytes per SYS_CLK cycle, up to 4 096 bytes (R406). -/
def State.credit (s : State) (t m : Nat) : Nat :=
  let c := SMap.find (0, 0) s.xbar.credit (t * 32 + m)
  min (4096 * 800) (c.1 + s.regN (Reg.XBAR_GUAR t m) * (s.time.ticks - c.2))

/-- Write a credit. -/
def State.setCredit (s : State) (t m v : Nat) : State :=
  { s with xbar := { s.xbar with credit := SMap.set (0, 0) s.xbar.credit (t * 32 + m) (v, s.time.ticks) } }

/-- By how much the committed guarantees of a pair sum to less than zero. -/
def State.guarDebt (s : State) (t m : Nat) : Nat := SMap.find 0 s.xbar.debt (t * 32 + m)

/-- Whether a request is in guarantee (R406). -/
def State.inGuarantee (s : State) (x : Txn) : Bool :=
  s.regN (Reg.XBAR_GUAR x.target (Master.code x.master)) != 0 &&
    decide (x.len * 800 ≤ s.credit x.target (Master.code x.master))

/-- The tier of a request. -/
def State.tier (s : State) (x : Txn) : Nat :=
  if s.inGuarantee x then
    (if s.bit (Reg.XBAR_MASTER (Master.code x.master)) Fld.XBAR_MASTER_SACRIFICE then 2 else 1)
  else 3

/-- Whether request x goes before request y at their target (R407); the older one of one master goes first. Before the first
grant of a target the order begins at code 0 (log entry 100). -/
def State.grantBefore (s : State) (x y : Txn) : Bool :=
  let tx := s.tier x
  let ty := s.tier y
  let cx := Master.code x.master
  let cy := Master.code y.master
  if tx ≠ ty then decide (tx < ty)
  else if s.bit (Reg.XBAR_ARB x.target) Fld.XBAR_ARB_MODE then
    let px := s.fld (Reg.XBAR_MASTER cx) Fld.XBAR_MASTER_PRIO
    let py := s.fld (Reg.XBAR_MASTER cy) Fld.XBAR_MASTER_PRIO
    decide (px < py) || (px == py && decide (cx < cy))
  else
    let last := SMap.find 20 s.xbar.last x.target
    let dx := (cx + 41 - last) % 21
    let dy := (cy + 41 - last) % 21
    decide (y.qos < x.qos) || (x.qos == y.qos && decide (dx < dy))

/-- Change a transfer of an engine, by its tag. -/
def State.updXfer (s : State) (e tag : Nat) (f : Xfer → Xfer) : State :=
  let c := SMap.find {} s.pe e
  let c' : PeCore := { c with xfers := c.xfers.map (fun x => if x.tag = tag then f x else x) }
  { s with pe := SMap.set {} s.pe e c' }

/-- The transfer a transaction belongs to. -/
def State.xferOf (s : State) (x : Txn) : Option Xfer :=
  (SMap.find {} s.pe x.engine).xfers.find? (fun f => f.tag == x.tag)

/-- An error answer to an engine's transaction. -/
def State.answerErr (s : State) (x : Txn) (cause : Nat) : State :=
  (s.updXfer x.engine x.tag (fun f => { f with err := true })).xbarErr (Master.code x.master) x.addr x.write cause

/-- Bytes that come for a GET, placed at their offset. -/
def State.answerData (s : State) (x : Txn) (bs : List Byte) : State :=
  s.updXfer x.engine x.tag (fun f => { f with data := patch f.data (if x.addr < 0x80000000 then x.addr - f.far else 0) bs })

/-- A delay-line reference that names no usable line (R421), or one whose entry holds an uncorrectable error: its answer is that
error (R404; DEDUCED, log entry 116). -/
def State.dlineErr (s : State) (x : Txn) : State :=
  if s.lineBad (refLine x.addr) then s.answerErr x 2
  else (s.answerErr x 3).raiseMs (limitKey 171 0) 171 (refLine x.addr + x.engine * 2 ^ 12)

/-- Requests at a DRAM channel that are not arbitrated: a delay-line read of tier 2 in DEGRADED completes with hold words
(R414, R416), a bad reference and a channel outside READY give an error answer (R421, R679). Answers whether the request
is done. -/
def State.dramEarly (s : State) (x : Txn) : Bool × State :=
  match s.line (refLine x.addr) with
  | none => (true, s.dlineErr x)
  | some ln =>
    let deg := s.bit Reg.DRAM_STATUS (if x.target = 32 then Fld.DRAM_STATUS_DEGRADED0 else Fld.DRAM_STATUS_DEGRADED1)
    if !x.write && deg && s.tier x == 2 then
      let s1 := (s.answerData x (s.holdData (refLine x.addr) ln.2.2 x.len)).updXfer x.engine x.tag
        (fun f => { f with deg := true })
      (true, s1.countHold Reg.DRAM_DEGRADED_READS 1)
    else
      let first := lineAddr ln.1 ln.2.1 ln.2.2 (refPos x.addr) 0
      let last := lineAddr ln.1 ln.2.1 ln.2.2 (refPos x.addr) (x.len - 1)
      let both := decide (256 < x.len) || dramChannel first != dramChannel last
      let ready := if both then s.dramState 0 == 3 && s.dramState 1 == 3 else s.dramState (dramChannel first) == 3
      if ready then (false, s) else (true, s.answerErr x 3)

/-- Every waiting request at a DRAM channel that is not arbitrated is answered. -/
def State.dramSweep (s : State) (t : Nat) : State :=
  if t = 32 ∨ t = 33 then
    s.xbar.waiting.foldl (fun s x =>
      if x.target = t then
        let r := s.dramEarly x
        if r.1 then
          { r.2 with xbar := { r.2.xbar with waiting := r.2.xbar.waiting.erase x } }.lineLook (refLine x.addr)
        else s
      else s) s
  else s

/-- The waiting delay-line transfers go by the line table in force (R422). -/
def State.retarget (s : State) : State :=
  { s with xbar := { s.xbar with waiting := s.xbar.waiting.map (fun x =>
    if x.addr < 0x80000000 then x else { x with target := 32 + s.refChannel x.addr }) } }

/-- XBAR_GRANT (R406, R407): an idle target grants one waiting request, a delay-line transfer by the table then in force (R422). -/
def State.xbarGrant (s : State) (t : Nat) : State :=
  let s1 := ((s.retarget).dramSweep t).syncInflight
  if (s1.xbar.active.any (fun e => e.1 == t)) then s1
  else
    match sortBy s1.grantBefore (s1.xbar.waiting.filter (fun x => x.target == t)) with
    | [] => s1
    | x :: _ =>
      let m := Master.code x.master
      let s2 := if s1.inGuarantee x then s1.setCredit t m (s1.credit t m - x.len * 800) else s1
      let s3 := { s2 with xbar := { s2.xbar with
        waiting := s2.xbar.waiting.erase x
        active := SMap.put s2.xbar.active t { x with line := if t < 32 then none else s2.line (refLine x.addr) }
        last := SMap.set 20 s2.xbar.last t m } }
      if t < 32 then s3 else s3.lineLook (refLine x.addr)

/-! ### The DRAM controller (R411-R414, R423-R427) -/

/-- The data rate of a code in MT/s (R444). -/
def dramRate (code : Nat) : Nat :=
  match code with | 0 => 8533 | 1 => 7500 | 2 => 6400 | 3 => 5500 | _ => 4266

/-- F of a channel in eighths (R412). -/
def State.dramF (s : State) (c : Nat) : Nat :=
  if s.dramState c = 3 then
    match s.fld Reg.DRAM_STATUS (if c = 0 then Fld.DRAM_STATUS_REFRESH0 else Fld.DRAM_STATUS_REFRESH1) with
    | 0 => 8 | 1 => 7 | _ => 6
  else 0

/-- Whether a channel is DEGRADED (R414). -/
def dramDeg (c : Nat) : Field := if c = 0 then Fld.DRAM_STATUS_DEGRADED0 else Fld.DRAM_STATUS_DEGRADED1

/-- The states of R414, judged on DELIV_t, G_t and S_t. -/
def State.bwJudge (s : State) (c : Nat) : State :=
  let t := 32 + c
  let d := s.regN (Reg.XBAR_DELIV t)
  let g := s.regN (Reg.XBAR_GSUM t)
  let s1 := if d < g ∧ !s.bit Reg.DRAM_STATUS (dramDeg c) then
      (s.setBit Reg.DRAM_STATUS (dramDeg c) true).raiseN 164 (c + d / 16 % 2 ^ 16 * 2 ^ 16)
    else s
  if d + s.regN (Reg.XBAR_SSUM t) < g then s1.raiseN 166 (c + (g - d) / 16 % 2 ^ 16 * 2 ^ 16) else s1

/-- DELIV_t of a DRAM channel follows its inputs (R411, R413); DELIV_CHANGE reports a new value. -/
def State.delivUpdate (s : State) (c : Nat) : State :=
  let t := 32 + c
  let d := 4 * dramRate (s.fld Reg.DRAM_STATUS Fld.DRAM_STATUS_RATE) * s.dramF c / 8
  if s.regN (Reg.XBAR_DELIV t) = d then s
  else ((s.setRegN (Reg.XBAR_DELIV t) d).raiseN 167 (t + d / 16 % 2 ^ 16 * 2 ^ 16)).bwJudge c

/-- Both channels brought up to date. -/
def State.delivBoth (s : State) : State := (s.delivUpdate 0).delivUpdate 1

/-- RETRAIN of one channel (R424). -/
def State.dramRetrain (s : State) (c : Nat) : State :=
  if s.dramState c = 3 then (s.setDramState c 4).delivUpdate c else s

/-- DRAM_INIT_DONE (R423, R424): `x16` says that every device is a x16 device. The channel in the record of a refusal of
both channels is not stated: free (log entry 1). -/
def State.dramInitDone (s : State) (g0 g1 : Nat) (x16 : Bool) : State :=
  if s.dramState 0 = 1 ∧ s.dramState 1 = 1 then
    if g0 = g1 ∧ x16 ∧ [8, 12, 16, 24, 32].contains g0 then
      let code := min 4 (s.fld Reg.DRAM_CTRL Fld.DRAM_CTRL_RATE)
      ((((s.setRegN Reg.DRAM_CAP (g0 / 2)).setFld Reg.DRAM_STATUS Fld.DRAM_STATUS_RATE code).setDramState 0
        2).setDramState 1 2).delivBoth
    else
      let s1 := (s.setDramState 0 5).setDramState 1 5
      (s1.takeFree.2).raiseN 168 (s1.takeFree.1 % 2 + 7 * 2)
  else s

/-- A training that fails (R424): the next lower rate for both channels, or FAILED at the lowest. -/
def State.trainFails (s : State) (c : Nat) : State :=
  let code := s.fld Reg.DRAM_STATUS Fld.DRAM_STATUS_RATE
  if code < 4 then
    (({ s with dramc := { s.dramc with stepped := true } }.setFld Reg.DRAM_STATUS Fld.DRAM_STATUS_RATE
      (code + 1)).setDramState c 2 |>.raiseN 168 (c + code * 2)).delivBoth
  else ((s.setDramState c 5).raiseN 168 (c + code * 2)).delivBoth

/-- DRAM_TRAIN_DONE (R424). -/
def State.dramTrainDone (s : State) (c : Nat) (pass : Bool) : State :=
  if s.dramState c = 2 ∨ s.dramState c = 4 then
    if pass then (s.setDramState c 3).delivUpdate c else s.trainFails c
  else s

/-- DRAM_REFRESH_POLL (R426): the poll of a channel in READY. -/
def State.dramPoll (s : State) (c mult : Nat) : State :=
  let f := if c = 0 then Fld.DRAM_STATUS_REFRESH0 else Fld.DRAM_STATUS_REFRESH1
  let m := min 2 mult
  if s.dramState c = 3 ∧ s.fld Reg.DRAM_STATUS f ≠ m then
    ((s.setFld Reg.DRAM_STATUS f m).raiseN 170 (c + m * 2)).delivUpdate c
  else s

/-- An uncorrectable link error seen by the controller: 16 within 1 ms retrain the channel (R424), once the transaction granted
there is done (R679). An entry of `errs` is twice the PT of an error, plus the channel. -/
def State.linkError (s : State) (c : Nat) : State :=
  let mine := s.dramc.errs.filter (fun p => p % 2 == c && decide (s.now < p / 2 + 1000000 * nsUnit))
  let other := s.dramc.errs.filter (fun p => p % 2 != c)
  if 15 ≤ mine.length then
    if s.xbar.active.any (fun e => e.1 == 32 + c) then
      { s with dramc := { s.dramc with errs := other, leave := maskSet s.dramc.leave c true } }
    else { s with dramc := { s.dramc with errs := other } }.dramRetrain c
  else { s with dramc := { s.dramc with errs := (s.now * 2 + c) :: mine ++ other } }

/-- A channel that was to leave READY at the end of its transaction leaves it (R679). -/
def State.dramLeaves (s : State) (c : Nat) : State :=
  if s.dramc.leave.toNat.testBit c then
    { s with dramc := { s.dramc with leave := maskSet s.dramc.leave c false } }.dramRetrain c
  else s

/-- The end of a transaction: its tag is freed (R409, R436). -/
def State.xbarFree (s : State) (t : Nat) : State :=
  let s1 := { s with xbar := { s.xbar with active := SMap.del s.xbar.active t } }.syncInflight
  if t < 32 then s1 else s1.dramLeaves (t - 32)

/-- A transaction of vat memory is answered. -/
def State.vatDone (s : State) (x : Txn) : State :=
  let m := Master.code x.master
  if x.write then
    match s.xferOf x with
    | none => s
    | some f =>
      let r := s.vatWrite m x.addr (slice f.data (x.addr - f.far) x.len)
      if r.1 then r.2 else r.2.updXfer x.engine x.tag (fun f => { f with err := true })
  else
    let r := s.vatRead m x.addr x.len
    match r.1 with
    | some bs => r.2.answerData x bs
    | none => r.2.updXfer x.engine x.tag (fun f => { f with err := true })

/-- A transaction of a delay line is answered, by the line table in force at its grant (R420, R422). -/
def State.lineDone (s : State) (x : Txn) : State :=
  match x.line with
  | none => s.dlineErr x
  | some ln =>
    if x.write then
      match s.xferOf x with
      | none => s
      | some f => s.lineWrite ln (refPos x.addr) 0 f.data
    else (s.answerData x (s.lineRead ln (refPos x.addr) x.len)).setHold (refLine x.addr) ln (refPos x.addr) x.len

/-- A transaction granted while a channel was READY completes before the channel leaves READY (R679). -/
def State.dramFinish (s : State) (c : Nat) : State :=
  match s.xbar.active.find? (fun e => e.1 == 32 + c) with
  | none => s
  | some e => ({ s with dramc := { s.dramc with retried := maskSet s.dramc.retried c false } }.lineDone e.2).xbarFree (32 + c)

/-- A write of DRAM_CTRL.EN and RATE (R424, R425, R444): EN written 0 loses the contents, after the
transactions that were granted in READY (R679). -/
def State.dramEnWrite (s : State) (data : Word) : State :=
  let s1 := s.writeWord Reg.DRAM_CTRL data
  if Fld.DRAM_CTRL_EN.get data = 0 then
    let s2 := (s1.dramFinish 0).dramFinish 1
    (({ s2 with dram := [], dramc := { s2.dramc with stepped := false, errs := [], retried := 0, leave := 0 } }.setDramState 0
      0).setDramState 1 0 |>.setRegN Reg.DRAM_CAP 0).delivBoth
  else
    let go (s : State) (c : Nat) : State := if s.dramState c = 0 then s.setDramState c 1 else s
    go (go s1 0) 1

/-- A written RETRAIN (R424, R444), after the transactions in progress (R679). -/
def State.dramRetrainAll (s : State) : State :=
  [0, 1].foldl (fun s c => if s.dramState c = 3 then (s.dramFinish c).dramRetrain c else s) s

/-- The link errors that the next aperture access of a channel shows (R427; log entry 98). -/
def State.linkDue (s : State) (c : Nat) : Nat := SMap.find 0 s.dramc.linkDue c

/-- An aperture access of a channel: a first link error is retried, a second one answered with an error (R427). -/
def State.apertureLink (s : State) (c : Nat) : Bool × State :=
  let n := s.linkDue c
  if n = 0 then (false, s)
  else
    let s1 := ({ s with dramc := { s.dramc with linkDue := SMap.set 0 s.dramc.linkDue c (n - min n 2) } }.linkError
      c).countHold Reg.DRAM_RETRIES 1
    if n = 1 then (false, s1) else (true, (s1.linkError c).raiseMs (limitKey 169 0) 169 c)

/-- XBAR_TRANSACTION_DONE (R409, R427): the last beat is answered. `linkErr` says that a DRAM access shows an
uncorrectable link error: it is retried once, then answered with an error. At a channel without an active transaction it
announces a link error of the next aperture access (log entry 98). -/
def State.xbarDone (s : State) (t : Nat) (linkErr : Bool) : State :=
  match s.xbar.active.find? (fun e => e.1 == t) with
  | none =>
    if linkErr && (t == 32 || t == 33) then
      { s with dramc := { s.dramc with linkDue := SMap.set 0 s.dramc.linkDue (t - 32) (s.linkDue (t - 32) + 1) } }
    else s
  | some e =>
    let x := e.2
    if t < 32 then (s.vatDone x).xbarFree t
    else
      let c := t - 32
      if linkErr then
        let s1 := s.linkError c
        if s.dramc.retried.toNat.testBit c then
          (({ s1 with dramc := { s1.dramc with retried := maskSet s1.dramc.retried c false } }.answerErr x 3).raiseMs
            (limitKey 169 0) 169 c).xbarFree t
        else { s1 with dramc := { s1.dramc with retried := maskSet s1.dramc.retried c true } }.countHold Reg.DRAM_RETRIES 1
      else ({ s with dramc := { s.dramc with retried := maskSet s.dramc.retried c false } }.lineDone x).xbarFree t

/-- BE_STARVE (R415): a best-effort request waits at the target. -/
def State.beStarve (s : State) (t : Nat) : State :=
  if s.retarget.xbar.waiting.any (fun x => x.target == t && s.tier x == 3) then s.raiseMs (limitKey 163 t) 163 t else s

/-- BW_RESTORE (R414). -/
def State.bwRestore (s : State) (c : Nat) : State :=
  if s.bit Reg.DRAM_STATUS (dramDeg c) ∧ s.regN (Reg.XBAR_GSUM (32 + c)) ≤ s.regN (Reg.XBAR_DELIV (32 + c)) then
    (s.setBit Reg.DRAM_STATUS (dramDeg c) false).raiseN 165 c
  else s

/-! ### The commands -/

/-- The command XBAR_GRANT. -/
def execXbarGrant (t : Fin 36) (s : State) : Host.Outcome State Fault Refusal := .next (s.xbarGrant t)

/-- The command XBAR_TRANSACTION_DONE. -/
def execXbarTransactionDone (t : Fin 36) (linkErr : Bool) (s : State) : Host.Outcome State Fault Refusal :=
  .next (s.xbarDone t linkErr)

/-- The command BE_STARVE. -/
def execBeStarve (t : Fin 36) (s : State) : Host.Outcome State Fault Refusal := .next (s.beStarve t)

/-- The command BW_RESTORE. -/
def execBwRestore (c : Fin 2) (s : State) : Host.Outcome State Fault Refusal := .next (s.bwRestore c)

/-- The command DRAM_EN_WRITE. -/
def execDramEnWrite (data : Word) (s : State) : Host.Outcome State Fault Refusal := .next (s.dramEnWrite data)

/-- The command DRAM_RETRAIN (R424, R444). -/
def execDramRetrain (s : State) : Host.Outcome State Fault Refusal := .next s.dramRetrainAll

/-- The command DRAM_INIT_DONE. -/
def execDramInitDone (gbit0 gbit1 : BitVec 8) (x16 : Bool) (s : State) : Host.Outcome State Fault Refusal :=
  .next (s.dramInitDone gbit0.toNat gbit1.toNat x16)

/-- The command DRAM_TRAIN_DONE. -/
def execDramTrainDone (c : Fin 2) (pass : Bool) (s : State) : Host.Outcome State Fault Refusal :=
  .next (s.dramTrainDone c pass)

/-- The command DRAM_REFRESH_POLL. -/
def execDramRefreshPoll (c : Fin 2) (mult : BitVec 2) (s : State) : Host.Outcome State Fault Refusal :=
  .next (s.dramPoll c mult.toNat)

end Sys2Proof.Machine
end

