-- ==== Sys2Proof/Machine/Graph.lean ====
section
/-! DEFINITION. What the sequencer keeps in vat memory and of its tasks: the phrase graph, pending counts, substitution
and completions (R163-R185, R198), and the part of an engine's state that they look at. -/

namespace Sys2Proof.Machine

/-! ### Engines as the sequencer sees them -/

/-- What an engine holds for its task. -/
def State.core (s : State) (e : Nat) : PeCore := SMap.find {} s.pe e

/-- Write what an engine holds for its task. -/
def State.setCore (s : State) (e : Nat) (c : PeCore) : State := { s with pe := SMap.set {} s.pe e c }

/-- The state code of an engine (R158): 0 OFFLINE, 1 IDLE, 2 RUN, 3 DRAIN, 4 FAULTED. -/
def State.peState (s : State) (e : Nat) : Nat := s.fld (Reg.PE_STATUS e) Fld.PE_STATUS_STATE

/-- Write the state code of an engine. -/
def State.setPeState (s : State) (e st : Nat) : State := s.setFld (Reg.PE_STATUS e) Fld.PE_STATUS_STATE st

/-- The engines that ECLASS and CLUSTERS allow (R164, R174). -/
def allowed (eclass clusters : Nat) : List Nat :=
  (List.range 64).filter (fun e => clusters.testBit (e / 8) &&
    (match eclass with | 0 => true | 1 => decide (56 ≤ e) | 2 => decide (e < 56) | _ => false))

/-- Whether an engine can become IDLE only by software (R176): OFFLINE, or FAULTED with FAULT_HOLD. -/
def State.peStuck (s : State) (e : Nat) : Bool :=
  s.peState e == 0 || (s.peState e == 4 && s.bit (Reg.PE_CTRL e) Fld.PE_CTRL_FAULT_HOLD)

/-! ### The tables (R163-R166, R677) -/

/-- NPHRASE, limited to its maximum (R209). -/
def State.nPhrase (s : State) : Nat := min 4096 (s.fld Reg.SEQ_COUNTS Fld.SEQ_COUNTS_NPHRASE)

/-- NFEED, limited to its maximum (R209). -/
def State.nFeed (s : State) : Nat := min 2048 (s.fld Reg.SEQ_COUNTS Fld.SEQ_COUNTS_NFEED)

/-- A word of a table of SEQ, which reaches vat memory only (R400); elsewhere, and where it holds an uncorrectable error, SEQ gets
an error answer and the word counts as 0 (R404; log entry 101). -/
def State.seqWord (s : State) (a : Nat) : Nat := if inVat a 4 && !s.eccBad a 4 then (s.word a).toNat else 0

/-- Word w of the table entry of phrase p (R164). -/
def State.pword (s : State) (p w : Nat) : Nat := s.seqWord ((s.regN Reg.SEQ_PTAB + 64 * p + 4 * w) % 2 ^ 32)

/-- VALID. -/
def State.pValid (s : State) (p : Nat) : Bool := (s.pword p 0).testBit 0

/-- STATEFUL. -/
def State.pStateful (s : State) (p : Nat) : Bool := (s.pword p 0).testBit 1

/-- MIXNODE. -/
def State.pMix (s : State) (p : Nat) : Bool := (s.pword p 0).testBit 2

/-- The engines allowed to a phrase. -/
def State.pAllowed (s : State) (p : Nat) : List Nat := allowed (s.pword p 0 / 8 % 4) (s.pword p 0 / 2 ^ 8 % 2 ^ 8)

/-- The phrases that exist. -/
def State.phrases (s : State) : List Nat := (List.range s.nPhrase).filter s.pValid

/-- n successor words from an index on (R166). -/
def State.succs (s : State) (idx n : Nat) : List Nat :=
  (List.range n).map (fun i => s.seqWord ((s.regN Reg.SEQ_STAB + 4 * (idx + i)) % 2 ^ 32) % 2 ^ 12)

/-- The successor list of a phrase. -/
def State.phraseSucc (s : State) (p : Nat) : List Nat := s.succs (s.pword p 2) (s.pword p 1 / 2 ^ 16)

/-- The successor list of a feed (R166); a feed past the table has none. -/
def State.feedSucc (s : State) (f : Nat) : List Nat :=
  if f < s.nFeed then
    let a := s.regN Reg.SEQ_FTAB + 8 * f
    s.succs (s.seqWord (a % 2 ^ 32)) (s.seqWord ((a + 4) % 2 ^ 32) % 2 ^ 16)
  else []

/-- The successors that are used (R677). -/
def State.goodSucc (s : State) (l : List Nat) : List Nat := l.filter (fun q => decide (q < s.nPhrase))

/-- A list that names a phrase at or above NPHRASE is reported once per folio, with its owner (R677). -/
def State.succCheck (s : State) (k owner : Nat) (feed : Bool) (l : List Nat) : State :=
  if l.any (fun q => decide (s.nPhrase ≤ q)) then
    s.raiseOnce (limitKey 208 (k % 4)) k 208 (owner + bitOf feed * 2 ^ 27 + 3 * 2 ^ 28)
  else s

/-! ### Time (R167) -/

/-- L. -/
def State.latency (s : State) : Nat := s.fld Reg.SEQ_CTRL Fld.SEQ_CTRL_LATENCY

/-- release(k). -/
def State.releasePt (s : State) (k : Nat) : Nat := edgePt s.hz (8 * k + s.latency + 8)

/-- D(k). -/
def State.deadlinePt (s : State) (k : Nat) : Nat := s.releasePt k - s.fld Reg.SEQ_GUARD Fld.SEQ_GUARD_GUARD * nsUnit

/-- RUNAHEAD; 0 is taken as 1 (R204). -/
def State.runahead (s : State) : Nat := max 1 (s.fld Reg.SEQ_CTRL Fld.SEQ_CTRL_RUNAHEAD)

/-- The state of SEQ (R205): 0 OFF, 1 ARMED, 2 RUNNING, 3 STOPPING. -/
def State.seqState (s : State) : Nat := s.fld Reg.SEQ_STATUS Fld.SEQ_STATUS_STATE

/-- Write the state of SEQ. -/
def State.setSeqState (s : State) (n : Nat) : State := s.setFld Reg.SEQ_STATUS Fld.SEQ_STATUS_STATE n

/-- The first unreleased folio. -/
def State.firstUnreleased (s : State) : Nat :=
  match s.seq.released with
  | some k => k + 1
  | none => s.seq.first

/-- A count of the next health record (R475): 0 mismatches, 1 INPUT_DIFF folios, 2 couched, 3 COUCH_LATE, 4 sheets lost,
5 DEADLINE_MISS folios. -/
def State.healthAdd (s : State) (i : Nat) : State :=
  { s with redun := { s.redun with health := SMap.set 0 s.redun.health i (SMap.find 0 s.redun.health i + 1) } }

/-! ### Tasks -/

/-- The task of a phrase and folio. -/
def State.task (s : State) (p k : Nat) : Option Task := s.seq.tasks.find? (fun t => t.phrase == p && t.folio == k)

/-- Whether a task counts as complete (R172, R181). -/
def Task.complete (t : Task) : Bool :=
  match t.st with | .done => true | .substituted => true | _ => false

/-- Whether a task can still be cancelled. -/
def Task.waits (t : Task) : Bool :=
  match t.st with | .pending => true | .ready => true | _ => false

/-- Change a task. -/
def State.updTask (s : State) (p k : Nat) (f : Task → Task) : State :=
  { s with seq := { s.seq with
    tasks := s.seq.tasks.map (fun t => if t.phrase = p ∧ t.folio = k then f t else t) } }

/-- SEQ_INFLIGHT and RECOMPUTING follow the tasks: a task is in flight until it completes, and exists until its folio is released
(R198, R205). -/
def State.syncTasks (s : State) : State :=
  let live := s.seq.tasks.filter (fun t => !t.complete)
  let a := Reg.SEQ_INFLIGHT
  ((s.setFld a Fld.SEQ_INFLIGHT_NOW live.length).setFld a Fld.SEQ_INFLIGHT_MAX
    (max (s.fld a Fld.SEQ_INFLIGHT_MAX) live.length)).setBit Reg.SEQ_STATUS Fld.SEQ_STATUS_RECOMPUTING (s.seq.tasks.any (·.recomp))

/-- Whether task x goes before task y (R174). -/
def State.taskBefore (s : State) (x y : Task) : Bool :=
  let px := s.pword x.phrase 4 / 2 ^ 24
  let py := s.pword y.phrase 4 / 2 ^ 24
  decide (x.folio < y.folio) || (x.folio == y.folio && (decide (px < py) || (px == py && decide (x.phrase < y.phrase))))

/-- The ready tasks in the order of R174. -/
def State.readyTasks (s : State) : List Task :=
  sortBy s.taskBefore (s.seq.tasks.filter (fun t => t.st == .ready))

/-- NO_ENGINE, judged for every ready task, at most once per folio (R176). -/
def State.noEngine (s : State) : State :=
  s.readyTasks.foldl (fun s t =>
    if !s.pMix t.phrase && (s.pAllowed t.phrase).all s.peStuck then
      s.raiseOnce (limitKey 207 (t.folio % 4)) t.folio 207 t.phrase
    else s) s

/-- GRAPH_ERR of a count (R170, R173). -/
def State.graphErr (s : State) (p : Nat) : State := s.raiseN 208 (p + 2 ^ 28)

/-- A decrement of a pending count (R171-R173): a count of zero is not decremented. -/
def State.decTask (s : State) (p k : Nat) : State :=
  match s.task p k with
  | none => s
  | some t =>
    if t.count = 0 then s.graphErr p
    else s.updTask p k (fun t =>
      { t with count := t.count - 1, st := if t.count = 1 ∧ t.st = .pending then .ready else t.st })

/-- A task counts as complete: its successors of the folio, and its own phrase's next task, count down (R172). -/
def State.finTask (s : State) (p k : Nat) : State :=
  let l := s.phraseSucc p
  let s1 := (s.goodSucc l).foldl (fun s q => s.decTask q k) (s.succCheck k p false l)
  if s1.pStateful p then s1.decTask p (k + 1) else s1

/-- The state slot that the first folio without a task before it reads (R178, R195). -/
def State.startSlot (s : State) (p k : Nat) : Nat :=
  let v := SMap.find 0 s.seq.slotOf p
  if k = s.firstUnreleased ∧ v ≠ 0 then v - 1 else k % 4

/-- The state slot the task of folio k reads: that of the folio before it where its task was substituted, through any run of
substituted folios, of which there are no more than tasks (R178). -/
def State.slotBack (s : State) (p : Nat) : Nat → Nat → Nat
  | 0, k => k % 4
  | n + 1, k =>
    match s.task p (k - 1) with
    | some t =>
      if k ≠ 0 ∧ t.st = .substituted then (match t.stateIn with | some v => v | none => s.slotBack p n (k - 1)) else k % 4
    | none => s.startSlot p k

/-- The state slot the task of folio k reads (R178, R195). -/
def State.stateSlot (s : State) (p k : Nat) : Nat := s.slotBack p (s.seq.tasks.length + 1) k

/-- STATE_IN of a task: what its dispatch fixed, which a recompute keeps, else what R178 gives as the tasks stand (R178, R189). -/
def State.taskSlot (s : State) (t : Task) : Nat := t.stateIn.getD (s.stateSlot t.phrase t.folio)

/-- The vat address of the output region of a folio's I/O slot (R164, R181). -/
def State.outRegion (s : State) (p slot : Nat) : Nat :=
  (s.pword p 7 + slot * (s.pword p 8 % 2 ^ 24) + s.pword p 9 % 2 ^ 24) % 2 ^ 32

/-- The time in which the substitution copies move n bytes: 64 bytes per SYS_CLK cycle of 1 / 1.2 ns (R81, R181). -/
def copyTime (n : Nat) : Nat := (n + 63) / 64 * (5 * nsUnit) / 6

/-- The copy of a substitution: SEQ reads the output region of the previous slot and writes that of the folio's own; what it
cannot read, or not write, stays as it is, with the error of the access recorded (R181, R400, R402, R404). Answers the bytes of
vat memory that it overwrites. -/
def State.seqCopyOut (s : State) (src dst n : Nat) : List Byte × State :=
  if n = 0 then ([], s)
  else
    let r := s.unitRead 8 src n
    match r.1 with
    | none => ([], r.2)
    | some bs => (if inVat dst 1 then s.read dst (min n (vatHi - dst)) else [], (r.2.unitWrite 8 dst bs).2)

/-- Substitution (R181, R182, R198): the output region of the previous slot, the task complete. The copy itself takes
place here; the time it needs is kept for R182 (log entry 11). -/
def State.substitute (s : State) (p k : Nat) : State :=
  let n := s.pword p 10 % 2 ^ 24
  let dst := s.outRegion p (k % 4)
  let start := s.seq.copies.foldl (fun m c => max m c.stop) s.now
  let r := s.seqCopyOut (s.outRegion p ((k + 3) % 4)) dst n
  let c : SeqCopy := ⟨p, k, dst, r.1, start, start + copyTime n⟩
  let s1 := r.2.countHold Reg.SEQ_SUBSTITUTED 1
  let s2 := { s1 with seq := { s1.seq with copies := s1.seq.copies ++ [c] } }.updTask p k (fun t =>
    { t with st := .substituted, digest := 0 })
  (s2.finTask p k).syncTasks

/-- TASK_SUB (R183, R196). -/
def State.taskSub (s : State) (p k : Nat) : State := s.raiseN 206 (p + k % 4 * 2 ^ 12)

/-- A normal completion (R146, R172, R185): only the task that SEQ still holds as running counts (R193). -/
def State.completeTask (s : State) (p k : Nat) (st : TaskState) (digest : BitVec 64) : State :=
  match s.task p k with
  | none => s
  | some t =>
    if t.st = st then
      let s1 := s.updTask p k (fun t => { t with st := .done, digest := digest })
      let s2 := { s1 with seq := { s1.seq with
        info := s1.seq.info.map (fun (i : FolioInfo) => if i.folio = k then { i with last := some s.now } else i) } }
      let s3 := if t.recomp then s2.countHold Reg.SEQ_RECOMPUTED 1 else s2
      (s3.finTask p k).syncTasks.noEngine
    else s

/-- A fault completion, or an acknowledgement of an abort that SEQ did not ask for: the task is substituted at once
(R183). A task that SEQ has already given up is not (R150). -/
def State.failTask (s : State) (p k : Nat) (st : TaskState) : State :=
  match s.task p k with
  | none => s
  | some t => if t.st = st then ((s.substitute p k).taskSub p k).noEngine else s

end Sys2Proof.Machine
end

