-- ==== Sys2Proof/Machine/Flags.lean ====
section
/-! DEFINITION. The arithmetic of the phrase engines and the flags it sets (R109-R113, R139-R141): every function gives
the stored value and whether a flag follows. -/

namespace Sys2Proof.Machine

/-- The exact product of two Q1.31 words in Q9.63 (R109). -/
def product (x y : Word) : Int := x.toInt * y.toInt * 2

/-- An exact accumulator result wrapped to 72 bits, and whether it lay outside [-2^8, 2^8) in value (R110: AOVF). -/
def accWrap (v : Int) : BitVec 72 × Bool :=
  (BitVec.ofInt 72 v, decide (v < -(2 ^ 71 : Nat)) || decide ((2 ^ 71 : Nat) ≤ v))

/-- The floor of an exact value times 2^-k (R112). -/
def floorShift (v : Int) (k : Nat) : Int := Int.fdiv v (2 ^ k : Nat)

/-- sat() to a word, and whether it limited the value (R113: SATF). -/
def satWord (v : Int) : Word × Bool := (wordOfInt (satInt 32 v), decide (satInt 32 v ≠ v))

/-- The store path (R111). -/
def storePath (a : BitVec 72) (k : Nat) : Word × Bool := satWord (floorShift a.toInt (32 + k))

/-- The signed comparison of two words. -/
def wordLt (x y : Word) : Bool := decide (x.toInt < y.toInt)

/-- A selection of add-compare-select modulo 2^24: the result and whether the q side won; equal metrics pick the p side
(R140). -/
def acsPick (isMax : Bool) (p q : Int) : Word × Bool :=
  let d := signed 24 (lowInt 24 (lowInt 24 q - lowInt 24 p))
  let pickQ := if isMax then decide (0 < d) else decide (d < 0)
  (wordOfInt (signed 24 (lowInt 24 (if pickQ then q else p))), pickQ)

/-- A CRC-64 step over the bits of one byte, most significant first (R147). -/
def crcBits : Nat → BitVec 64 → BitVec 64
  | 0, c => c
  | n + 1, c => crcBits n (if c.getLsbD 63 then (c <<< 1) ^^^ 0x42F0E1EBA9EA3693#64 else c <<< 1)

/-- The task digest over bytes in order (R147). -/
def crc64 (c : BitVec 64) (bs : List Byte) : BitVec 64 :=
  bs.foldl (fun c b => crcBits 8 (c ^^^ (BitVec.ofNat 64 b.toNat <<< 56))) c

end Sys2Proof.Machine
end

