-- ==== Sys2Proof/Machine/Operands.lean ====
section
/-! DEFINITION. The operand forms of the phrase engines: lanes, registers, memory slots and address modes (R114-R128),
and what an instruction writes. -/

namespace Sys2Proof.Machine

/-- A fault of an engine: its code (R153), its slot (R154) and what PE_FAULT_ADDR holds (R160). -/
structure PeFault where
  code : Nat
  slot : Nat
  addr : Nat
  deriving DecidableEq, Repr

/-- The register files of R131, with ACC and CF beside them. -/
inductive PeFile where
  | v | a | m | o | lc | traceLo | traceHi | acc
  deriving DecidableEq, Repr

/-- Where control goes after an instruction (R133-R135). -/
inductive Flow where
  | next
  | branch (target : Int)
  | repeatBody (count body : Nat)
  deriving DecidableEq, Repr

/-- What an instruction writes when it completes (R123): lane registers by lane * 16 + number, accumulators by lane * 4 +
number, engine-wide registers, bytes of local memory, TRACE, CF, the flags it sets, the registers it names as
destinations (R124), the corrected words it read by slot, and what the stalls of R138 look at. -/
structure Writes where
  v     : List (Nat × Word) := []
  acc   : List (Nat × BitVec 72) := []
  eng   : List (PeFile × Nat × Nat) := []
  bytes : List (Nat × List Byte) := []
  trace : Option (BitVec 64) := none
  cf    : Option (BitVec 4) := none
  aovf  : Bool := false
  satf  : Bool := false
  dests : List (PeFile × Nat) := []
  corr  : List (Nat × Nat) := []
  rdAcc : List Nat := []
  use   : List Nat := []
  moved : List Nat := []
  flow  : Flow := .next
  deriving DecidableEq, Repr

/-- Two sets of writes of one instruction. -/
def Writes.both (x y : Writes) : Writes :=
  { v := x.v ++ y.v, acc := x.acc ++ y.acc, eng := x.eng ++ y.eng, bytes := x.bytes ++ y.bytes
    trace := x.trace.orElse (fun _ => y.trace), cf := x.cf.orElse (fun _ => y.cf)
    aovf := x.aovf || y.aovf, satf := x.satf || y.satf, dests := x.dests ++ y.dests, corr := x.corr ++ y.corr
    rdAcc := x.rdAcc ++ y.rdAcc, use := x.use ++ y.use, moved := x.moved ++ y.moved
    flow := match x.flow with | .next => y.flow | f => f }

/-- The result of an instruction: its writes, or the fault that suppresses them all (R155). -/
abbrev PeRes := Except PeFault Writes

/-- The fault ILLEGAL of a slot, 0 for the instruction itself (R153). -/
def illegal (slot : Nat) : PeRes := .error ⟨1, slot, 0⟩

/-- The enabled lanes (R116). -/
def lanes (lm : BitVec 4) : List Nat := [0, 1, 2, 3].filter (fun l => lm.toNat.testBit l)

/-- The lowest-numbered enabled lane; lane 0 stands in when none is (R118). -/
def lowLane (lm : BitVec 4) : Nat := (lanes lm).headD 0

/-- V register r of a lane. -/
def PeCore.vr (c : PeCore) (l r : Nat) : Word := SMap.find 0 c.v (l * 16 + r)

/-- ACC register n of a lane. -/
def PeCore.ac (c : PeCore) (l n : Nat) : BitVec 72 := SMap.find 0 c.acc (l * 4 + n)

/-- Address register n. -/
def PeCore.ar (c : PeCore) (n : Nat) : Nat := (SMap.find 0 c.a n).toNat

/-- STEP of modifier n, signed. -/
def PeCore.stepOf (c : PeCore) (n : Nat) : Int := signed 16 (SMap.find 0 c.m n).toNat

/-- LEN of modifier n. -/
def PeCore.lenOf (c : PeCore) (n : Nat) : Nat := (SMap.find 0 c.m n).toNat / 2 ^ 16

/-- The key of an engine-wide register, for the stall of R138. -/
def engKey (f : PeFile) (n : Nat) : Nat :=
  (match f with | .a => 1 | .m => 2 | .o => 3 | .lc => 4 | _ => 0) * 16 + n

/-- Whether an engine is a long-filter engine (R108, R162). -/
def isLong (e : Nat) : Bool := decide (56 ≤ e)

/-- The base of an engine's window (R108). -/
def peBase (e : Nat) : Nat := 0x04000000 + e * 0x40000

/-- The local address of a byte of X or Y memory (R108). -/
def xyAddr (e : Nat) (inY : Bool) (a : Nat) : Nat := peBase e + (if inY then 0x10000 else 0) + a

/-- The smallest power of two not below a length of at most 2^16 (R125). -/
def pow2Ceil (len : Nat) : Nat := 2 ^ (((List.range 17).find? (fun i => decide (len ≤ 2 ^ i))).getD 16)

/-- The low n bits of a number in reverse order. -/
def bitRev : Nat → Nat → Nat
  | 0, _ => 0
  | n + 1, v => v % 2 * 2 ^ n + bitRev n (v / 2)

/-- A plus an offset inside the buffer of LEN bytes that holds A (R125, R126). -/
def wrapIn (a len : Nat) (d : Int) : Nat :=
  let b := a / pow2Ceil len * pow2Ceil len
  b + ((((a - b : Nat) : Int) + d).emod (len : Nat)).toNat

/-- The bit-reversed increment (R125, R128). -/
def revStep (a q : Nat) (step : Int) : Nat :=
  let n := 16 - q
  bitRev n ((bitRev n (a / 2 ^ q) + bitRev n (lowInt 16 step / 2 ^ q)) % 2 ^ n) * 2 ^ q + a % 2 ^ q

/-- The fields of a memory slot (R120). -/
structure Slot where
  store : Bool
  areg  : Nat
  mreg  : Nat
  am    : Nat
  width : Nat
  vreg  : Nat
  deriving DecidableEq, Repr

/-- The slot that 16 bits spell (R120). -/
def Slot.of (w : Nat) : Slot :=
  ⟨w.testBit 15, w / 2 ^ 12 % 8, w / 2 ^ 9 % 8, w / 2 ^ 6 % 8, w / 2 ^ 4 % 4, w % 16⟩

/-- The bytes a width moves (R121). -/
def widthBytes (w : Nat) : Nat := match w with | 0 => 4 | 1 => 8 | _ => 16

/-- q of the bit-reversed mode: vector and modify-only slots step in 16 bytes (R125); with no lane enabled a slot acts as
modify-only (R118). -/
def slotQ (none : Bool) (w : Nat) : Nat := if none then 4 else match w with | 0 => 2 | 1 => 3 | _ => 4

/-- The address a slot accesses and its post-modification (R125, R126). -/
def slotAddr (c : PeCore) (idle : Bool) (sl : Slot) : Nat × List (PeFile × Nat × Nat) :=
  let a := c.ar sl.areg
  let step := c.stepOf sl.mreg
  let len := c.lenOf sl.mreg
  match sl.am with
  | 1 => (a, [(.a, sl.areg, lowInt 16 (a + step))])
  | 2 => (a, [(.a, sl.areg, if len = 0 then lowInt 16 (a + step) else wrapIn a len step % 2 ^ 16)])
  | 3 => (a, [(.a, sl.areg, revStep a (slotQ idle sl.width) step)])
  | 4 =>
    let k := sl.mreg % 4
    let o := (SMap.find 0 c.o k).toNat
    if len = 0 then ((a + o) % 2 ^ 16, [(.o, k, lowInt 16 (o + step))])
    else (wrapIn a len o % 2 ^ 16, [(.o, k, (((o : Int) + step).emod (len : Nat)).toNat)])
  | _ => (a, [])

/-- The words a load puts into the enabled lanes (R121). -/
def loadWrites (ls : List Nat) (sl : Slot) (bs : List Byte) : List (Nat × Word) :=
  ls.map (fun l =>
    let off := match sl.width with | 0 => 0 | 1 => l % 2 * 4 | _ => l * 4
    (l * 16 + sl.vreg, wordOf (bs.drop off)))

/-- The bytes a store writes, by offset (R119, R121). -/
def storeBytes (c : PeCore) (ls : List Nat) (sl : Slot) : List (Nat × List Byte) :=
  match sl.width with
  | 0 => (ls.take 1).map (fun l => (0, wordBytes (c.vr l sl.vreg)))
  | 1 => (ls.filter (fun l => decide (l < 2))).map (fun l => (l * 4, wordBytes (c.vr l sl.vreg)))
  | _ => ls.map (fun l => (l * 4, wordBytes (c.vr l sl.vreg)))

/-- The registers that a slot uses for addressing (R138): A where it accesses memory or is modified, and O and M where they move
one of the two. -/
def slotUse (accesses : Bool) (sl : Slot) : List Nat :=
  (if accesses || [1, 2, 3].contains sl.am then [engKey .a sl.areg] else []) ++
    (if sl.am = 0 then [] else [engKey .m sl.mreg]) ++ (if sl.am = 4 then [engKey .o (sl.mreg % 4)] else [])

/-- What one slot does (R118-R128); `inY` names the Y slot. Every word of a double or vector load is checked, those that serve
disabled lanes too: DESIGN CHOICE (log entry 120). -/
def slotRun (s : State) (e : Nat) (c : PeCore) (lm : BitVec 4) (inY : Bool) (w : Nat) : PeRes :=
  let sl := Slot.of w
  let num := if inY then 2 else 1
  if sl.am = 7 then .ok {}
  else if sl.am = 5 ∨ sl.am = 6 ∨ (sl.am = 4 ∧ !isLong e) then illegal num
  else
    let ls := lanes lm
    let idle := ls.isEmpty
    let r := slotAddr c idle sl
    let still := idle || sl.width == 3
    let base : Writes := { eng := r.2, dests := r.2.map (fun d => (d.1, d.2.1)), use := slotUse (!still) sl }
    if still then .ok base
    else
      let n := widthBytes sl.width
      if r.1 % n ≠ 0 then .error ⟨3, num, r.1⟩
      else if sl.store then
        .ok { base with bytes := (storeBytes c ls sl).map (fun p => (xyAddr e inY (r.1 + p.1), p.2)) }
      else
        let at' := xyAddr e inY r.1
        if s.eccWords true 4 at' n ≠ 0 then .error ⟨8, num, 0⟩
        else .ok { base with
          v := loadWrites ls sl (s.read at' n)
          dests := base.dests ++ [(.v, sl.vreg)]
          corr := if s.eccWords false 4 at' n = 0 then [] else [(num, s.eccWords false 4 at' n)] }

/-- The registers a slot names as destinations, whether or not it faults (R124): its post-modification, and VREG of a load
into an enabled lane. -/
def slotDests (c : PeCore) (lm : BitVec 4) (w : Nat) : List (PeFile × Nat) :=
  let sl := Slot.of w
  let idle := (lanes lm).isEmpty
  (slotAddr c idle sl).2.map (fun d => (d.1, d.2.1)) ++ (if idle || sl.width == 3 || sl.store || sl.am == 7 then [] else [(.v, sl.vreg)])

/-- The fault of a result, where it has one. -/
def PeRes.faults (r : PeRes) : List PeFault := match r with | .error x => [x] | .ok _ => []

/-- The writes of a result. -/
def PeRes.writes (r : PeRes) : Writes := match r with | .ok w => w | .error _ => {}

/-- Whether a list names a register twice (R124). -/
def hasRepeat : List (PeFile × Nat) → Bool
  | [] => false
  | x :: xs => xs.contains x || hasRepeat xs

end Sys2Proof.Machine
end

