-- ==== Sys2Proof/Machine/Pe.lean ====
section
/-! DEFINITION. The phrase engines: issuing an instruction at the engine's PC, its faults, repeats and branches, and one
meaning per operation (R108-R155, R674-R676). An instruction command acts on an engine in RUN and on no other. -/

namespace Sys2Proof.Machine

/-- The PC of an engine. -/
def State.pePc (s : State) (e : Nat) : Nat := s.fld (Reg.PE_STATUS e) Fld.PE_STATUS_PC

/-- Write the PC of an engine. -/
def State.setPc (s : State) (e pc : Nat) : State := s.setFld (Reg.PE_STATUS e) Fld.PE_STATUS_PC pc

/-- PE_CLK cycles spent in RUN (R138, R156). -/
def State.peCycles (s : State) (e n : Nat) : State := s.count64 (Reg.PE_CYCLES e) n

/-- TAGS follows the outstanding transfers (R158). -/
def State.syncTags (s : State) (e : Nat) : State :=
  s.setFld (Reg.PE_STATUS e) Fld.PE_STATUS_TAGS
    ((List.range 8).foldl (fun acc t => if (s.core e).xfers.any (fun x => x.tag == t) then acc + 2 ^ t else acc) 0)

/-- The cycles of a stall that has ended, not stated: free (log entry 1). -/
def State.peUnstall (s : State) (e : Nat) : State :=
  let c := s.core e
  if c.stalled then ((s.takeFree.2).peCycles e s.takeFree.1).setCore e { c with stalled := false } else s

/-- The cycles that an engine has spent stalled in RUN or in DRAIN so far, which PE_CYCLES counts (R156), not stated: free
(log entry 1). -/
def State.peSpent (s : State) (e : Nat) : State :=
  if s.peState e = 3 then (s.takeFree.2).peCycles e s.takeFree.1 else s.peUnstall e

/-- A fault of an engine in RUN or DRAIN, with the PC it is charged to (R148, R153-R155, R159, R160). -/
def State.peFaultAt (s : State) (e pc : Nat) (f : PeFault) : State :=
  let s1 := ((s.peSpent e).setPeState e 4).setRegN (Reg.PE_FAULT e) (f.code + f.slot * 2 ^ 4 + pc * 2 ^ 12)
  let s2 := s1.setRegN (Reg.PE_FAULT_ADDR e) f.addr
  let c := s2.core e
  let s3 := s2.setCore e { c with stalled := false }
  (s3.raiseN (191 + f.code) (if f.code = 9 then e + f.code * 2 ^ 6 + f.addr * 2 ^ 16
    else e + f.code * 2 ^ 6 + pc * 2 ^ 16 + f.slot * 2 ^ 28)).noEngine

/-- A fault of the instruction at PC. -/
def State.peFault (s : State) (e : Nat) (f : PeFault) : State := s.peFaultAt e (s.pePc e) f

/-- The end of a body at an instruction, from the innermost level out (R133): the counters, the levels that stay, and the
level that loops back. -/
def loopEnd (done : Nat) : SMap (BitVec 16) → List Loop → SMap (BitVec 16) × List Loop × Option Loop
  | lc, [] => (lc, [], none)
  | lc, l :: rest =>
    if l.last = done then
      let v := SMap.find 0 lc l.level - 1
      let lc' := SMap.set 0 lc l.level v
      if v = 0 then loopEnd done lc' rest
      else (lc', { l with held := l.held || decide (l.last + 1 - l.first ≤ 64) } :: rest, some l)
    else (lc, l :: rest, none)

/-- The levels whose LC the end of a body at an instruction reads, from the innermost out (R133). -/
def loopUsed (done : Nat) : SMap (BitVec 16) → List Loop → List Nat
  | _, [] => []
  | lc, l :: rest =>
    if l.last = done then
      let v := SMap.find 0 lc l.level - 1
      l.level :: (if v = 0 then loopUsed done (SMap.set 0 lc l.level v) rest else [])
    else []

/-- The levels that an instruction at pc reads for looping: none at a taken branch, and those a skipped body completes
(R133, R138). -/
def flowUses (c : PeCore) (pc : Nat) (fl : Flow) : List Nat :=
  match fl with
  | .next => loopUsed pc c.lc c.loops.reverse
  | .branch _ => []
  | .repeatBody n b => if n = 0 then loopUsed (pc + b) c.lc c.loops.reverse else []

/-- PC, repeat levels and counters after an instruction at pc, and the cycles that control adds (R133-R135, R138). -/
def flowRun (c : PeCore) (pc : Nat) (fl : Flow) : Int × PeCore × Nat :=
  let finish (done : Nat) : Int × PeCore × Nat :=
    let r := loopEnd done c.lc c.loops.reverse
    match r.2.2 with
    | none => ((done + 1 : Nat), { c with lc := r.1, loops := r.2.1.reverse }, 0)
    | some l => ((l.first : Nat), { c with lc := r.1, loops := r.2.1.reverse },
        if 64 < l.last + 1 - l.first then 2 else 0)
  match fl with
  | .next => finish pc
  | .branch t =>
    (t, { c with loops := c.loops.takeWhile (fun l => decide ((l.first : Int) ≤ t) && decide (t ≤ (l.last : Int))) }, 2)
  | .repeatBody n b =>
    if n = 0 then finish (pc + b)
    else ((pc + 1 : Nat), { c with lc := SMap.set 0 c.lc c.loops.length (BitVec.ofNat 16 n),
                                   loops := c.loops ++ [⟨c.loops.length, pc + 1, pc + b, false⟩] }, 0)

/-- One engine-wide register written; narrow registers keep the low bits (R131). -/
def PeCore.setEng (c : PeCore) (w : PeFile × Nat × Nat) : PeCore :=
  match w.1 with
  | .a => { c with a := SMap.set 0 c.a w.2.1 (BitVec.ofNat 16 w.2.2) }
  | .m => { c with m := SMap.set 0 c.m w.2.1 (BitVec.ofNat 32 w.2.2) }
  | .o => { c with o := SMap.set 0 c.o w.2.1 (BitVec.ofNat 16 w.2.2) }
  | .lc => { c with lc := SMap.set 0 c.lc w.2.1 (BitVec.ofNat 16 w.2.2) }
  | _ => c

/-- Every register write of an instruction, together (R123). -/
def PeCore.apply (c : PeCore) (w : Writes) : PeCore :=
  let c1 := { c with
    v := w.v.foldl (fun m p => SMap.set 0 m p.1 p.2) c.v
    acc := w.acc.foldl (fun m p => SMap.set 0 m p.1 p.2) c.acc
    cf := w.cf.getD c.cf }
  w.eng.foldl PeCore.setEng c1

/-- Whether two byte ranges overlap. -/
def overlaps (a n b m : Nat) : Bool := decide (a < b + m) && decide (b < a + n)

/-- Whether a store touches bytes of an outstanding PUT (R675). -/
def storeHitsPut (e : Nat) (c : PeCore) (bs : List (Nat × List Byte)) : Bool :=
  bs.any (fun p => c.xfers.any (fun x => x.put && overlaps p.1 p.2.length (xyAddr e x.inY x.loc) x.len))

/-- An instruction that completes: its writes, flags and counters, its cycles, and PC (R113, R123, R138, R152, R676). How
long a stall of R675 lasts is not stated: free (log entry 1). A MOVE or LDI into LCn at the last instruction of the body of level
n is written before that level decrements: DESIGN CHOICE (log entry 119). -/
def State.peComplete (s : State) (e : Nat) (w : Writes) : State :=
  let c := s.core e
  let pc := s.pePc e
  let hits := storeHitsPut e c w.bytes
  let use := w.use ++ (flowUses (c.apply w) pc w.flow).map (engKey .lc)
  let stall := bitOf (w.rdAcc.any (fun n => c.accWritten.contains n)) + bitOf (use.any (fun n => c.ctlWritten.contains n)) +
    w.corr.length + (if hits then s.takeFree.1 else 0)
  let s0 := if hits then s.takeFree.2 else s
  let r := flowRun (c.apply w) pc w.flow
  let c' := { r.2.1 with
    accWritten := (w.dests.filter (fun d => d.1 == .acc)).map (·.2), ctlWritten := w.moved }
  let s1 := s0.setCore e c'
  let s2 := w.bytes.foldl (fun s p => (s.write p.1 p.2).eccClearW 4 p.1 p.2.length) s1
  let s3 := match w.trace with | none => s2 | some t => s2.setReg64 (Reg.PE_TRACE e) t.toNat
  let s4 := if w.aovf then s3.setBit (Reg.PE_STATUS e) Fld.PE_STATUS_AOVF true else s3
  let s5 := if w.satf then (s4.setBit (Reg.PE_STATUS e) Fld.PE_STATUS_SATF true).countHold (Reg.PE_SAT_COUNT e) 1 else s4
  let s6 := w.corr.foldl (fun s p => (s.countHold (Reg.PE_ECC_COUNT e) p.2).raiseN 201
    (e + pc * 2 ^ 16 + p.1 * 2 ^ 28)) s5
  let s7 := (s6.peCycles e (1 + stall + r.2.2)).setFld (Reg.PE_STATUS e) Fld.PE_STATUS_LOOP_DEPTH c'.loops.length
  if 0 ≤ r.1 ∧ r.1 < 4096 then s7.setPc e r.1.toNat else s7.peFault e ⟨5, 0, 0⟩

/-- Whether an engine can issue an instruction: in RUN, its task not ended. -/
def State.peIssues (s : State) (e : Nat) : Bool := s.peState e == 2 && !(s.core e).ended

/-- Whether the instruction at PC comes from the loop buffer: a body of at most 64 instructions after its first pass, which
is not read from P again. -/
def State.fromLoop (s : State) (e : Nat) : Bool :=
  (s.core e).loops.any (fun l => l.held && decide (l.first ≤ s.pePc e) && decide (s.pePc e ≤ l.last))

/-- Whether the fetch of the instruction word at PC meets an error, uncorrectable or single-bit (R152, R153). -/
def State.fetchErr (s : State) (e : Nat) (bad : Bool) : Bool :=
  !s.fromLoop e && s.eccWords bad 8 (peBase e + 0x20000 + 8 * s.pePc e) 8 != 0

/-- Whether the instruction word at PC holds an uncorrectable error (R152, R153). -/
def State.fetchBad (s : State) (e : Nat) : Bool := s.fetchErr e true

/-- The fetch of the instruction at PC: a single-bit error is corrected, counted and raised with slot 0, and costs a cycle
(R138, R152-R154). An instruction that stalls is fetched once. -/
def State.fetch (s : State) (e : Nat) : State :=
  if s.fetchErr e false && !(s.core e).stalled then
    ((s.countHold (Reg.PE_ECC_COUNT e) 1).raiseN 201 (e + s.pePc e * 2 ^ 16)).peCycles e 1
  else s

/-- XSLOT of an instruction. -/
def xSlot (f : InstrFields) : Nat := f.imm.toNat / 2 ^ 16

/-- YSLOT of an instruction. -/
def ySlot (f : InstrFields) : Nat := f.imm.toNat % 2 ^ 16

/-- What the slots of an instruction do; a class without slots has none (R116). -/
def State.slotResults (s : State) (e : Nat) (f : InstrFields) (slots : Bool) : List PeRes :=
  if slots then [slotRun s e (s.core e) f.lmask false (xSlot f), slotRun s e (s.core e) f.lmask true (ySlot f)] else []

/-- Whether one register would be written from two places (R124). -/
def State.writesTwice (s : State) (e : Nat) (f : InstrFields) (slots : Bool) (r : PeRes) : Bool :=
  let c := s.core e
  hasRepeat (r.writes.dests ++ (if slots then slotDests c f.lmask (xSlot f) ++ slotDests c f.lmask (ySlot f) else []))

/-- Every fault that an instruction meets: of its operation, of its slots, and of a register written twice. -/
def State.peFaults (s : State) (e : Nat) (f : InstrFields) (slots : Bool) (r : PeRes) : List PeFault :=
  r.faults ++ (s.slotResults e f slots).flatMap PeRes.faults ++ (if s.writesTwice e f slots r then [⟨1, 0, 0⟩] else [])

/-- Every write of an instruction without a fault: of its operation, then of its slots. -/
def State.peWrites (s : State) (e : Nat) (f : InstrFields) (slots : Bool) (r : PeRes) : Writes :=
  (s.slotResults e f slots).foldl (fun w x => w.both x.writes) r.writes

/-- Issue an instruction whose effect is its writes (R123, R137, R155). Which of several faults is reported is not stated:
free (log entry 1). -/
def State.peIssue (s : State) (e : Nat) (f : InstrFields) (slots : Bool) (op : PeCore → PeRes) : State :=
  if s.peIssues e then
    if s.fetchBad e then (s.peCycles e 1).peFault e ⟨8, 0, 0⟩
    else
      let r := op (s.core e)
      match s.peFaults e f slots r with
      | [] => (s.fetch e).peComplete e (s.peWrites e f slots r)
      | [x] => ((s.fetch e).peCycles e 1).peFault e x
      | x :: xs => ((s.takeFree.2.fetch e).peCycles e 1).peFault e ((x :: xs).getD (s.takeFree.1 % (xs.length + 1)) x)
  else s

/-- The name of a V register as a destination: no lane, no destination (R118, R119). -/
def destV (lm : BitVec 4) (r : Nat) : List (PeFile × Nat) := if lm = 0 then [] else [(.v, r)]

/-- The name of an accumulator as a destination. -/
def destAcc (lm : BitVec 4) (r : Nat) : List (PeFile × Nat) := if lm = 0 then [] else [(.acc, r)]

/-! ### MAC (R109, R110, R129) -/

/-- A MAC operation: g of the accumulator and the product, in each enabled lane. -/
def macOp (f : InstrFields) (g : Int → Int → Int) (c : PeCore) : PeRes :=
  if f.dst.toNat / 4 ≠ 0 ∨ f.aux ≠ 0 then illegal 0
  else
    let d := f.dst.toNat
    let rs := (lanes f.lmask).map (fun l =>
      (l * 4 + d, accWrap (g (c.ac l d).toInt (product (c.vr l f.srca.toNat) (c.vr l f.srcb.toNat)))))
    .ok { acc := rs.map (fun r => (r.1, r.2.1)), aovf := rs.any (fun r => r.2.2), dests := destAcc f.lmask d }

/-! ### ALU -/

/-- The shift count of an instruction: AUX, or bits [4:0] of Vb. -/
def shiftCount (f : InstrFields) (regCount : Bool) (b : Word) : Nat := if regCount then b.toNat % 32 else f.aux.toNat

/-- An ALU operation that writes Vd: g of Va, Vb and CF of the lane gives the word and whether sat() limited it. -/
def aluOp (f : InstrFields) (g : Word → Word → Bool → Word × Bool) (c : PeCore) : PeRes :=
  let rs := (lanes f.lmask).map (fun l =>
    (l * 16 + f.dst.toNat, g (c.vr l f.srca.toNat) (c.vr l f.srcb.toNat) (c.cf.toNat.testBit l)))
  .ok { v := rs.map (fun r => (r.1, r.2.1)), satf := rs.any (fun r => r.2.2), dests := destV f.lmask f.dst.toNat }

/-- An ALU result that never saturates. -/
def plain (w : Word) : Word × Bool := (w, false)

/-- A compare: CF of each enabled lane (R119). -/
def cmpOp (f : InstrFields) (g : Word → Word → Bool) (c : PeCore) : PeRes :=
  .ok { cf := some ((lanes f.lmask).foldl (fun m l =>
    maskSet m l (g (c.vr l f.srca.toNat) (c.vr l f.srcb.toNat))) c.cf) }

/-! ### ACCOP -/

/-- The accumulators that an operation reads, for the stall of R138: none without a lane (R118). The stall goes by register number,
whichever lanes wrote: DESIGN CHOICE (log entry 121). -/
def readsAcc (lm : BitVec 4) (rd : List Nat) : List Nat := if lm = 0 then [] else rd

/-- An ACCOP that writes ACCd: g of ACCd, ACCa and Va of the lane gives the exact value. `rd` names what it reads. -/
def accOp (f : InstrFields) (rd : List Nat) (g : Int → Int → Word → Int) (c : PeCore) : PeRes :=
  let d := f.dst.toNat % 4
  let a := f.srca.toNat % 4
  let rs := (lanes f.lmask).map (fun l =>
    (l * 4 + d, accWrap (g (c.ac l d).toInt (c.ac l a).toInt (c.vr l f.srca.toNat))))
  .ok { acc := rs.map (fun r => (r.1, r.2.1)), aovf := rs.any (fun r => r.2.2), dests := destAcc f.lmask d
        rdAcc := readsAcc f.lmask rd }

/-- A read of bits of ACCa into Vd. -/
def rdOp (f : InstrFields) (g : BitVec 72 → Word) (c : PeCore) : PeRes :=
  let a := f.srca.toNat % 4
  .ok { v := (lanes f.lmask).map (fun l => (l * 16 + f.dst.toNat, g (c.ac l a)))
        dests := destV f.lmask f.dst.toNat, rdAcc := readsAcc f.lmask [a] }

/-- A write of bits of ACCd from Va: the bits [lo + n - 1 : lo] are replaced. It counts as a read of ACCd, whose other bits stay:
DESIGN CHOICE (log entry 121). -/
def wrOp (f : InstrFields) (lo n : Nat) (c : PeCore) : PeRes :=
  let d := f.dst.toNat % 4
  .ok { acc := (lanes f.lmask).map (fun l =>
          let old := (c.ac l d).toNat
          let v := (c.vr l f.srca.toNat).toNat % 2 ^ n
          (l * 4 + d, BitVec.ofNat 72 (old - old / 2 ^ lo % 2 ^ n * 2 ^ lo + v * 2 ^ lo)))
        dests := destAcc f.lmask d, rdAcc := readsAcc f.lmask [d] }

/-! ### STS and ACS -/

/-- STS (R130). -/
def stsOp (f : InstrFields) (c : PeCore) : PeRes :=
  if 8 < f.aux.toNat then illegal 0
  else
    let a := f.srca.toNat % 4
    let rs := (lanes f.lmask).map (fun l => (l * 16 + f.dst.toNat, storePath (c.ac l a) f.aux.toNat))
    .ok { v := rs.map (fun r => (r.1, r.2.1)), satf := rs.any (fun r => r.2.2)
          dests := destV f.lmask f.dst.toNat, rdAcc := readsAcc f.lmask [a] }

/-- One butterfly of a lane: the results for V(DST+i) and V(DST+2+i), and the two decisions (R140, R141). -/
def butterfly (isMax : Bool) (f : InstrFields) (c : PeCore) (l i : Nat) : List (Nat × Word) × Nat :=
  let a := f.srca.toNat
  let d := f.dst.toNat
  let lam := signed 16 ((c.vr l f.srcb.toNat).toNat / 2 ^ (16 * i))
  let p := signed 24 (c.vr l (a + 2 * i)).toNat
  let q := signed 24 (c.vr l (a + 2 * i + 1)).toNat
  let lo := acsPick isMax (p + lam) (q - lam)
  let hi := acsPick isMax (p - lam) (q + lam)
  ([(l * 16 + d + i, lo.1), (l * 16 + d + 2 + i, hi.1)], (bitOf lo.2 + 2 * bitOf hi.2) * 2 ^ (4 * l + 2 * i))

/-- ACS (R139-R141): TRACE shifts with any LMASK (R118). -/
def acsOp (isMax : Bool) (f : InstrFields) (trace : Nat) (c : PeCore) : PeRes :=
  if f.srca.toNat % 4 ≠ 0 ∨ f.dst.toNat % 4 ≠ 0 then illegal 0
  else
    let bs := (lanes f.lmask).flatMap (fun l => [butterfly isMax f c l 0, butterfly isMax f c l 1])
    .ok { v := bs.flatMap (·.1)
          trace := some (BitVec.ofNat 64 (trace * 2 ^ 16 + bs.foldl (fun acc b => acc + b.2) 0))
          dests := [0, 1, 2, 3].flatMap (fun i => destV f.lmask (f.dst.toNat + i)) }

/-! ### MOVE and LDI (R131, R132, R674) -/

/-- The register file of a code (R131). -/
def fileOf (code : Nat) : Option PeFile :=
  match code with
  | 0 => some .v | 1 => some .a | 2 => some .m | 3 => some .o | 4 => some .lc | 5 => some .traceLo | 6 => some .traceHi
  | _ => none

/-- How many registers a file holds (R674). -/
def fileSize (f : PeFile) : Nat :=
  match f with
  | .v => 16 | .a => 8 | .m => 8 | .o => 4 | .lc => 3 | .traceLo => 1 | .traceHi => 1 | .acc => 4

/-- A file code and register number that an engine has: O on PE56-PE63 only, TRACE never as a destination. -/
def fileOk (e code num : Nat) (dest : Bool) : Option PeFile :=
  match fileOf code with
  | none => none
  | some f =>
    if fileSize f ≤ num ∨ (f = .o ∧ !isLong e) ∨ (dest ∧ (f = .traceLo ∨ f = .traceHi)) then none else some f

/-- The value of an engine-wide register; the 16-bit files are zero-extended (log entry 19). -/
def PeCore.engReg (c : PeCore) (trace : Nat) (f : PeFile) (n : Nat) : Nat :=
  match f with
  | .a => c.ar n
  | .m => (SMap.find 0 c.m n).toNat
  | .o => (SMap.find 0 c.o n).toNat
  | .lc => (SMap.find 0 c.lc n).toNat
  | .traceLo => trace % 2 ^ 32
  | .traceHi => trace / 2 ^ 32
  | _ => 0

/-- A value put into a register of a file. -/
def putFile (f : InstrFields) (file : PeFile) (val : Nat → Nat) (low : Nat) : Writes :=
  let d := f.dst.toNat
  if file = .v then
    { v := (lanes f.lmask).map (fun l => (l * 16 + d, BitVec.ofNat 32 (val l))), dests := destV f.lmask d }
  else { eng := [(file, d, low)], dests := [(file, d)], moved := [engKey file d] }

/-- MOVE: from V into V lane by lane, from V into an engine-wide register the lowest enabled lane (R118, R131). -/
def moveOp (e : Nat) (f : InstrFields) (trace : Nat) (c : PeCore) : PeRes :=
  match fileOk e f.aux.toNat f.dst.toNat true, fileOk e f.srcb.toNat f.srca.toNat false with
  | some df, some sf =>
    let val (l : Nat) : Nat := if sf = .v then (c.vr l f.srca.toNat).toNat else c.engReg trace sf f.srca.toNat
    .ok (putFile f df val (val (lowLane f.lmask)))
  | _, _ => illegal 0

/-- LDI. -/
def ldiOp (e : Nat) (f : InstrFields) (_c : PeCore) : PeRes :=
  match fileOk e f.aux.toNat f.dst.toNat true with
  | some df => .ok (putFile f df (fun _ => f.imm.toNat) f.imm.toNat)
  | none => illegal 0

/-! ### CTRL -/

/-- The branch offset, bits [31:16] signed. -/
def branchTarget (pc : Nat) (f : InstrFields) : Int := (pc + 1 : Nat) + signed 16 (f.imm.toNat / 2 ^ 16)

/-- BRC: the condition over the enabled lanes' CF; ANY over none does not hold, ALL and NONE do (R118). -/
def brcOp (pc : Nat) (f : InstrFields) (c : PeCore) : PeRes :=
  let cs := (lanes f.lmask).map (fun l => c.cf.toNat.testBit l)
  match f.aux.toNat % 4 with
  | 0 => .ok { flow := if cs.any id then .branch (branchTarget pc f) else .next }
  | 1 => .ok { flow := if cs.all id then .branch (branchTarget pc f) else .next }
  | 2 => .ok { flow := if cs.all (fun b => !b) then .branch (branchTarget pc f) else .next }
  | _ => illegal 0

/-- REP and REPV with a count (R133, R134). The LC that is taken counts as used for looping, although it is overwritten: DESIGN
CHOICE (log entry 122). -/
def repOp (pc : Nat) (f : InstrFields) (count : Nat) (c : PeCore) : PeRes :=
  let b := f.imm.toNat % 2 ^ 12
  if b = 0 ∨ c.loops.any (fun l => decide (l.first ≤ pc) && decide (pc ≤ l.last) && decide (l.last < pc + b)) ∨
      (count ≠ 0 ∧ 3 ≤ c.loops.length) then .error ⟨2, 0, 0⟩
  else .ok { flow := .repeatBody count b, use := if count = 0 then [] else [engKey .lc c.loops.length] }

/-- WAIT: it stalls while a named tag is outstanding (R138). -/
def State.peWait (s : State) (e : Nat) (f : InstrFields) : State :=
  if s.peIssues e then
    let c := s.core e
    if s.fetchBad e then (s.peCycles e 1).peFault e ⟨8, 0, 0⟩
    else if c.xfers.any (fun x => f.imm.toNat.testBit x.tag) then (s.fetch e).setCore e { c with stalled := true }
    else ((s.fetch e).peUnstall e).peComplete e {}
  else s

/-- END (R136, R146): the task issues no further instruction and completes with TASK_COMPLETE. -/
def State.peEnd (s : State) (e : Nat) : State :=
  if s.peIssues e then
    let s1 := s.peCycles e 1
    if s.fetchBad e then s1.peFault e ⟨8, 0, 0⟩
    else
      let c := s1.core e
      (s1.fetch e).setCore e { c with ended := true, stalled := !c.xfers.isEmpty }
  else s

/-- An instruction whose only effect is a fault (R117, R154). -/
def State.peOnlyFault (s : State) (e : Nat) (x : PeFault) : State :=
  if s.peIssues e then
    if s.fetchBad e then (s.peCycles e 1).peFault e ⟨8, 0, 0⟩ else ((s.fetch e).peCycles e 1).peFault e x
  else s

/-! ### XFER (R143-R145, R675) -/

/-- The faults that an XFER shows (R143-R145). One with DST[3] set is reported as ILLEGAL whatever its addresses: DESIGN CHOICE (log
entry 117). -/
def xferFaults (dst3 : Bool) (loc far len : Nat) : List PeFault :=
  if dst3 then [⟨1, 0, 0⟩]
  else
    (if loc % 16 ≠ 0 ∨ far % 16 ≠ 0 then [⟨3, 3, far⟩] else []) ++
    (if 0x10000 < loc + len then [⟨4, 3, far⟩] else []) ++
    (if inVat far 1 ∨ 0x80000000 ≤ far then [] else [⟨6, 3, far⟩])

/-- The bytes of an XFER: immediate [7:0] in units of 16, 0 for 256 (R143). -/
def xferLen (f : InstrFields) : Nat := if f.imm.toNat % 256 = 0 then 4096 else f.imm.toNat % 256 * 16

/-- A transfer leaves the engine (R143, R145, R147, R401): a part past the end of vat memory has no target. -/
def State.xferGo (s : State) (e : Nat) (x : Xfer) : State :=
  let c := s.core e
  let ts := s.engineTxns e x.tag x.far x.len c.qos x.put
  let x' : Xfer := { x with err := ts.2 }
  let c' : PeCore := { c with
    xfers := c.xfers ++ [x']
    puts := c.puts || x.put
    crc := if x.put then crc64 c.crc (leBytes 4 x.far ++ x.data) else c.crc }
  let s1 := ((s.setCore e c').syncTags e).xbarAsk ts.1
  if ts.2 then s1.xbarErr (e / 8 % 8) vatHi x.put 0 else s1

/-- Crossbar tags held by an engine (R436, R437). -/
def State.engineTags (s : State) (e : Nat) : Nat :=
  ((s.xbar.waiting ++ s.xbar.active.map (·.2)).filter (fun t => t.engine == e)).length

/-- Whether an XFER of n crossbar transactions must wait: with 8 transfers outstanding, with its tag outstanding, or past the
limits of 8 tags of the engine and 64 of its cluster (R138, R437). -/
def State.xferStalls (s : State) (e tag n : Nat) : Bool :=
  let c := s.core e
  decide (8 ≤ c.xfers.length) || c.xfers.any (fun x => x.tag == tag) || decide (8 < s.engineTags e + n) ||
    decide (64 < s.clusterTags ⟨e / 8 % 8, Nat.mod_lt _ (by decide)⟩ + n)

/-- XFER (R138, R143-R145, R437, R675). Which of two faults it takes is not stated: free (log entry 1). -/
def State.peXfer (s : State) (e : Nat) (f : InstrFields) (put inY : Bool) : State :=
  if s.peIssues e then
    let c := s.core e
    let tag := f.dst.toNat % 8
    let a := f.aux.toNat % 8
    let loc := c.ar a
    let far := (c.vr (lowLane f.lmask) f.srca.toNat).toNat
    let len := xferLen f
    let at' := xyAddr e inY loc
    let fs := xferFaults (decide (8 ≤ f.dst.toNat)) loc far len
    if s.fetchBad e then (s.peCycles e 1).peFault e ⟨8, 0, 0⟩
    else
      match fs with
      | [x] => ((s.fetch e).peCycles e 1).peFault e x
      | x :: _ => ((s.takeFree.2.fetch e).peCycles e 1).peFault e (fs.getD (s.takeFree.1 % fs.length) x)
      | [] =>
        if s.xferStalls e tag (s.engineTxns e tag far len c.qos put).1.length then
          (s.fetch e).setCore e { c with stalled := true }
        else if put && s.eccWords true 4 at' len != 0 then ((s.fetch e).peCycles e 1).peFault e ⟨8, 3, 0⟩
        else
          let k := if put then s.eccWords false 4 at' len else 0
          let w : Writes := { use := [engKey .a a], corr := if k = 0 then [] else [(3, k)] }
          let hit := !put && c.xfers.any (fun x => x.put && x.inY == inY && overlaps loc len x.loc x.len)
          let s1 := (s.fetch e).peUnstall e
          let s2 := if hit then (s1.takeFree.2).peCycles e s1.takeFree.1 else s1
          let x : Xfer := ⟨tag, put, inY, loc, far, len, s.pePc e,
            if put then s.read at' len else List.replicate len 0, false, false, false⟩
          (s2.xferGo e x).peComplete e w
  else s

/-- The TRACE of an engine. -/
def State.trace (s : State) (e : Nat) : Nat := s.reg64 (Reg.PE_TRACE e)

/-! ### The instructions -/

/-- The command MPY (R109). -/
def execMpy (e : Fin 64) (f : InstrFields) (s : State) : Host.Outcome State Fault Refusal :=
  .next (s.peIssue e f true (macOp f (fun _ p => p)))

/-- The command MAC (R109). -/
def execMac (e : Fin 64) (f : InstrFields) (s : State) : Host.Outcome State Fault Refusal :=
  .next (s.peIssue e f true (macOp f (fun a p => a + p)))

/-- The command MSU (R109). -/
def execMsu (e : Fin 64) (f : InstrFields) (s : State) : Host.Outcome State Fault Refusal :=
  .next (s.peIssue e f true (macOp f (fun a p => a - p)))

/-- The command ADD (R117). -/
def execAdd (e : Fin 64) (f : InstrFields) (s : State) : Host.Outcome State Fault Refusal :=
  .next (s.peIssue e f true (aluOp f (fun a b _ => plain (a + b))))

/-- The command SUB (R117). -/
def execSub (e : Fin 64) (f : InstrFields) (s : State) : Host.Outcome State Fault Refusal :=
  .next (s.peIssue e f true (aluOp f (fun a b _ => plain (a - b))))

/-- The command ADDS (R113). -/
def execAdds (e : Fin 64) (f : InstrFields) (s : State) : Host.Outcome State Fault Refusal :=
  .next (s.peIssue e f true (aluOp f (fun a b _ => satWord (a.toInt + b.toInt))))

/-- The command SUBS (R113). -/
def execSubs (e : Fin 64) (f : InstrFields) (s : State) : Host.Outcome State Fault Refusal :=
  .next (s.peIssue e f true (aluOp f (fun a b _ => satWord (a.toInt - b.toInt))))

/-- The command NEGS (R113). -/
def execNegs (e : Fin 64) (f : InstrFields) (s : State) : Host.Outcome State Fault Refusal :=
  .next (s.peIssue e f true (aluOp f (fun a _ _ => satWord (-a.toInt))))

/-- The command ABSS (R113). -/
def execAbss (e : Fin 64) (f : InstrFields) (s : State) : Host.Outcome State Fault Refusal :=
  .next (s.peIssue e f true (aluOp f (fun a _ _ => satWord (a.toInt.natAbs : Nat))))

/-- The command MIN (R117). -/
def execMin (e : Fin 64) (f : InstrFields) (s : State) : Host.Outcome State Fault Refusal :=
  .next (s.peIssue e f true (aluOp f (fun a b _ => plain (if wordLt b a then b else a))))

/-- The command MAX (R117). -/
def execMax (e : Fin 64) (f : InstrFields) (s : State) : Host.Outcome State Fault Refusal :=
  .next (s.peIssue e f true (aluOp f (fun a b _ => plain (if wordLt a b then b else a))))

/-- The command AND (R117). -/
def execAnd (e : Fin 64) (f : InstrFields) (s : State) : Host.Outcome State Fault Refusal :=
  .next (s.peIssue e f true (aluOp f (fun a b _ => plain (a &&& b))))

/-- The command OR (R117). -/
def execOr (e : Fin 64) (f : InstrFields) (s : State) : Host.Outcome State Fault Refusal :=
  .next (s.peIssue e f true (aluOp f (fun a b _ => plain (a ||| b))))

/-- The command XOR (R117). -/
def execXor (e : Fin 64) (f : InstrFields) (s : State) : Host.Outcome State Fault Refusal :=
  .next (s.peIssue e f true (aluOp f (fun a b _ => plain (a ^^^ b))))

/-- The command NOT (R117). -/
def execNot (e : Fin 64) (f : InstrFields) (s : State) : Host.Outcome State Fault Refusal :=
  .next (s.peIssue e f true (aluOp f (fun a _ _ => plain (~~~a))))

/-- The command SHL (R117). -/
def execShl (e : Fin 64) (f : InstrFields) (regCount : Bool) (s : State) : Host.Outcome State Fault Refusal :=
  .next (s.peIssue e f true (aluOp f (fun a b _ => plain (a <<< shiftCount f regCount b))))

/-- The command SHLS (R113). -/
def execShls (e : Fin 64) (f : InstrFields) (regCount : Bool) (s : State) : Host.Outcome State Fault Refusal :=
  .next (s.peIssue e f true (aluOp f (fun a b _ => satWord (a.toInt * (2 ^ shiftCount f regCount b : Nat)))))

/-- The command SHR (R112). -/
def execShr (e : Fin 64) (f : InstrFields) (regCount : Bool) (s : State) : Host.Outcome State Fault Refusal :=
  .next (s.peIssue e f true (aluOp f (fun a b _ => plain (wordOfInt (floorShift a.toInt (shiftCount f regCount b))))))

/-- The command SHRL (R117). -/
def execShrl (e : Fin 64) (f : InstrFields) (regCount : Bool) (s : State) : Host.Outcome State Fault Refusal :=
  .next (s.peIssue e f true (aluOp f (fun a b _ => plain (a >>> shiftCount f regCount b))))

/-- The command CMPEQ (R117). -/
def execCmpeq (e : Fin 64) (f : InstrFields) (s : State) : Host.Outcome State Fault Refusal :=
  .next (s.peIssue e f true (cmpOp f (fun a b => a == b)))

/-- The command CMPLT (R117). -/
def execCmplt (e : Fin 64) (f : InstrFields) (s : State) : Host.Outcome State Fault Refusal :=
  .next (s.peIssue e f true (cmpOp f (fun a b => wordLt a b)))

/-- The command CMPLE (R117). -/
def execCmple (e : Fin 64) (f : InstrFields) (s : State) : Host.Outcome State Fault Refusal :=
  .next (s.peIssue e f true (cmpOp f (fun a b => !wordLt b a)))

/-- The command SEL (R117). -/
def execSel (e : Fin 64) (f : InstrFields) (s : State) : Host.Outcome State Fault Refusal :=
  .next (s.peIssue e f true (aluOp f (fun a b cf => plain (if cf then a else b))))

/-- The command CLR (R110). -/
def execClr (e : Fin 64) (f : InstrFields) (s : State) : Host.Outcome State Fault Refusal :=
  .next (s.peIssue e f true (accOp f [] (fun _ _ _ => 0)))

/-- The command LDA (R110). -/
def execLda (e : Fin 64) (f : InstrFields) (s : State) : Host.Outcome State Fault Refusal :=
  .next (s.peIssue e f true (accOp f [] (fun _ _ v => v.toInt * (2 ^ 32 : Nat))))

/-- The command ADDA (R110). -/
def execAdda (e : Fin 64) (f : InstrFields) (s : State) : Host.Outcome State Fault Refusal :=
  .next (s.peIssue e f true (accOp f [f.dst.toNat % 4, f.srca.toNat % 4] (fun d a _ => d + a)))

/-- The command SUBA (R110). -/
def execSuba (e : Fin 64) (f : InstrFields) (s : State) : Host.Outcome State Fault Refusal :=
  .next (s.peIssue e f true (accOp f [f.dst.toNat % 4, f.srca.toNat % 4] (fun d a _ => d - a)))

/-- The command MOVA (R110). -/
def execMova (e : Fin 64) (f : InstrFields) (s : State) : Host.Outcome State Fault Refusal :=
  .next (s.peIssue e f true (accOp f [f.srca.toNat % 4] (fun _ a _ => a)))

/-- The command NEGA (R110). -/
def execNega (e : Fin 64) (f : InstrFields) (s : State) : Host.Outcome State Fault Refusal :=
  .next (s.peIssue e f true (accOp f [f.srca.toNat % 4] (fun _ a _ => -a)))

/-- The command SHLA (R110). -/
def execShla (e : Fin 64) (f : InstrFields) (s : State) : Host.Outcome State Fault Refusal :=
  .next (s.peIssue e f true (accOp f [f.srca.toNat % 4] (fun _ a _ => a * (2 ^ f.aux.toNat : Nat))))

/-- The command SHRA (R112). -/
def execShra (e : Fin 64) (f : InstrFields) (s : State) : Host.Outcome State Fault Refusal :=
  .next (s.peIssue e f true (accOp f [f.srca.toNat % 4] (fun _ a _ => floorShift a f.aux.toNat)))

/-- The command RDL (R110). -/
def execRdl (e : Fin 64) (f : InstrFields) (s : State) : Host.Outcome State Fault Refusal :=
  .next (s.peIssue e f true (rdOp f (fun a => BitVec.ofNat 32 a.toNat)))

/-- The command RDM (R110). -/
def execRdm (e : Fin 64) (f : InstrFields) (s : State) : Host.Outcome State Fault Refusal :=
  .next (s.peIssue e f true (rdOp f (fun a => BitVec.ofNat 32 (a.toNat / 2 ^ 32))))

/-- The command RDH (R110). -/
def execRdh (e : Fin 64) (f : InstrFields) (s : State) : Host.Outcome State Fault Refusal :=
  .next (s.peIssue e f true (rdOp f (fun a => wordOfInt (signed 8 (a.toNat / 2 ^ 64)))))

/-- The command WRL (R110). -/
def execWrl (e : Fin 64) (f : InstrFields) (s : State) : Host.Outcome State Fault Refusal :=
  .next (s.peIssue e f true (wrOp f 0 32))

/-- The command WRM (R110). -/
def execWrm (e : Fin 64) (f : InstrFields) (s : State) : Host.Outcome State Fault Refusal :=
  .next (s.peIssue e f true (wrOp f 32 32))

/-- The command WRH (R110). -/
def execWrh (e : Fin 64) (f : InstrFields) (s : State) : Host.Outcome State Fault Refusal :=
  .next (s.peIssue e f true (wrOp f 64 8))

/-- The command STS (R130). -/
def execSts (e : Fin 64) (f : InstrFields) (s : State) : Host.Outcome State Fault Refusal :=
  .next (s.peIssue e f true (stsOp f))

/-- The command ACS_MAX (R140). -/
def execAcsMax (e : Fin 64) (f : InstrFields) (s : State) : Host.Outcome State Fault Refusal :=
  .next (s.peIssue e f true (acsOp true f (s.trace e)))

/-- The command ACS_MIN (R140). -/
def execAcsMin (e : Fin 64) (f : InstrFields) (s : State) : Host.Outcome State Fault Refusal :=
  .next (s.peIssue e f true (acsOp false f (s.trace e)))

/-- The command MOVE (R131). -/
def execMove (e : Fin 64) (f : InstrFields) (s : State) : Host.Outcome State Fault Refusal :=
  .next (s.peIssue e f true (moveOp e f (s.trace e)))

/-- The command MOVE_NOP (R132): its slots only. -/
def execMoveNop (e : Fin 64) (f : InstrFields) (s : State) : Host.Outcome State Fault Refusal :=
  .next (s.peIssue e f true (fun _ => .ok {}))

/-- The command LDI (R131). -/
def execLdi (e : Fin 64) (f : InstrFields) (s : State) : Host.Outcome State Fault Refusal :=
  .next (s.peIssue e f false (ldiOp e f))

/-- The command NOP (R117). -/
def execNop (e : Fin 64) (f : InstrFields) (s : State) : Host.Outcome State Fault Refusal :=
  .next (s.peIssue e f false (fun _ => .ok {}))

/-- The command BR (R135). -/
def execBr (e : Fin 64) (f : InstrFields) (s : State) : Host.Outcome State Fault Refusal :=
  .next (s.peIssue e f false (fun _ => .ok { flow := .branch (branchTarget (s.pePc e) f) }))

/-- The command BRC (R118). -/
def execBrc (e : Fin 64) (f : InstrFields) (s : State) : Host.Outcome State Fault Refusal :=
  .next (s.peIssue e f false (brcOp (s.pePc e) f))

/-- The command REP (R133). -/
def execRep (e : Fin 64) (f : InstrFields) (s : State) : Host.Outcome State Fault Refusal :=
  .next (s.peIssue e f false (repOp (s.pePc e) f (f.imm.toNat / 2 ^ 16)))

/-- The command REPV (R133). -/
def execRepv (e : Fin 64) (f : InstrFields) (s : State) : Host.Outcome State Fault Refusal :=
  .next (s.peIssue e f false (fun c => repOp (s.pePc e) f ((c.vr (lowLane f.lmask) f.srca.toNat).toNat % 2 ^ 16) c))

/-- The command WAIT (R138). -/
def execWait (e : Fin 64) (f : InstrFields) (s : State) : Host.Outcome State Fault Refusal :=
  .next (s.peWait e f)

/-- The command END (R146). -/
def execEndTask (e : Fin 64) (_f : InstrFields) (s : State) : Host.Outcome State Fault Refusal := .next (s.peEnd e)

/-- The command TRAP (R154). -/
def execTrap (e : Fin 64) (f : InstrFields) (s : State) : Host.Outcome State Fault Refusal :=
  .next (s.peOnlyFault e ⟨9, 0, f.imm.toNat % 2 ^ 16⟩)

/-- The command GETX (R143). -/
def execGetx (e : Fin 64) (f : InstrFields) (s : State) : Host.Outcome State Fault Refusal :=
  .next (s.peXfer e f false false)

/-- The command GETY (R143). -/
def execGety (e : Fin 64) (f : InstrFields) (s : State) : Host.Outcome State Fault Refusal :=
  .next (s.peXfer e f false true)

/-- The command PUTX (R675). -/
def execPutx (e : Fin 64) (f : InstrFields) (s : State) : Host.Outcome State Fault Refusal :=
  .next (s.peXfer e f true false)

/-- The command PUTY (R675). -/
def execPuty (e : Fin 64) (f : InstrFields) (s : State) : Host.Outcome State Fault Refusal :=
  .next (s.peXfer e f true true)

/-- The command ILLEGAL_INSTRUCTION (R117): the slots of a class that is not assigned have no meaning. Those of an OP that is not
assigned in a class with slots are not looked at: DESIGN CHOICE (log entry 118). -/
def execIllegalInstruction (e : Fin 64) (_f : InstrFields) (s : State) : Host.Outcome State Fault Refusal :=
  .next (s.peOnlyFault e ⟨1, 0, 0⟩)

/-- The command PE_OVERRUN (R153): the cycles that pass are the environment's (log entry 11). -/
def execPeOverrun (e : Fin 64) (s : State) : Host.Outcome State Fault Refusal :=
  .next (if s.peState e = 2 ∧ s.fld (Reg.PE_TASK_LIMIT e) ⟨0, 24⟩ ≠ 0 then s.peFault e ⟨7, 0, 0⟩ else s)

end Sys2Proof.Machine
end

