-- ==== Sys2Proof/Machine/Engine.lean ====
section
/-! DEFINITION. The life of an engine around its instructions: enable, abort, faults held and released, far transfers that
retire, and completions (R145-R152). -/

namespace Sys2Proof.Machine

/-- The state an engine falls back to: IDLE, or OFFLINE when ENABLE is 0 (R148). -/
def State.peRest (s : State) (e : Nat) : State :=
  s.setPeState e (if s.bit (Reg.PE_CTRL e) Fld.PE_CTRL_ENABLE then 1 else 0)

/-- A write of ENABLE and FAULT_HOLD (R148, R157): from OFFLINE it waits for the transfers of before an array reset. -/
def State.peEnable (s : State) (e : Nat) (data : Word) : State :=
  let s1 := s.writeRw (Reg.PE_CTRL e) data
  let on := Fld.PE_CTRL_ENABLE.get data == 1
  let c := s1.core e
  let wait := on && !c.xfers.isEmpty
  (match s1.peState e with
   | 0 => if wait then s1.setCore e { c with enableWait := true }
          else (s1.setCore e { c with enableWait := false }).peRest e
   | 1 => s1.peRest e
   | _ => s1).noEngine

/-- An abort of the running task (R148). -/
def State.peAbort (s : State) (e : Nat) : State :=
  if s.peState e = 2 then (s.peUnstall e).setPeState e 3 else s

/-- The task of an engine taken off it. -/
def State.peFree (s : State) (e : Nat) : State :=
  let c := s.core e
  s.setCore e { c with task := none }

/-- An engine leaves FAULTED and posts its fault completion (R148). -/
def State.peRelease (s : State) (e : Nat) : State :=
  let s1 := ((s.setBit (Reg.PE_STATUS e) Fld.PE_STATUS_CLEAR_PENDING false).peRest e).peFree e
  match (s.core e).task with
  | some (p, k) => (s1.failTask p k (.running e)).noEngine
  | none => s1.noEngine

/-- CLEAR_FAULT (R148, R157). -/
def State.peClear (s : State) (e : Nat) : State :=
  if s.peState e = 4 then
    if (s.core e).xfers.isEmpty then s.peRelease e
    else s.setBit (Reg.PE_STATUS e) Fld.PE_STATUS_CLEAR_PENDING true
  else s

/-- PE_FAULT_RELEASE (R148): all transfers retired, and no FAULT_HOLD. -/
def State.peFaultRelease (s : State) (e : Nat) : State :=
  if s.peState e = 4 ∧ (s.core e).xfers = [] ∧ !s.bit (Reg.PE_CTRL e) Fld.PE_CTRL_FAULT_HOLD then s.peRelease e else s

/-- PE_DRAIN_DONE (R148, R183). The cycles of DRAIN, which PE_CYCLES counts, are not stated: free (log entry 1). -/
def State.peDrainDone (s : State) (e : Nat) : State :=
  if s.peState e = 3 ∧ (s.core e).xfers = [] then
    let s1 := (((s.takeFree.2).peCycles e s.takeFree.1).peRest e).peFree e
    match (s.core e).task with
    | some (p, k) => (s1.failTask p k (.running e)).noEngine
    | none => s1.noEngine
  else s

/-- TASK_COMPLETE (R146, R147). -/
def State.peDone (s : State) (e : Nat) : State :=
  let c := s.core e
  if s.peState e = 2 ∧ c.ended ∧ c.xfers = [] then
    let d : BitVec 64 := if c.puts then ~~~c.crc else 0
    let s1 := (s.peUnstall e).setReg64 (Reg.PE_DIGEST e) d.toNat
    let s2 := ((s1.setRegN (Reg.PE_TASKS e) (s1.regN (Reg.PE_TASKS e) + 1)).peRest e).peFree e
    match c.task with
    | some (p, k) => (s2.completeTask p k (.running e) d).noEngine
    | none => s2.noEngine
  else s

/-- Whether the crossbar still works on a transfer. -/
def State.xferBusy (s : State) (e tag : Nat) : Bool :=
  (s.xbar.waiting ++ s.xbar.active.map (·.2)).any (fun t => t.engine == e && t.tag == tag)

/-- The data of a GET put into local memory; a transfer of before an array reset is discarded (R148, R150). -/
def State.xferData (s : State) (e : Nat) (x : Xfer) (bad : Bool) : State :=
  if x.put || x.drop || bad then s
  else (s.write (xyAddr e x.inY x.loc) x.data).eccClearW 4 (xyAddr e x.inY x.loc) x.data.length

/-- What follows a retire (R148, R150): an error answer faults a task in RUN or DRAIN, a held CLEAR_FAULT releases, and an
ENABLE that waits takes effect. -/
def State.xferAfter (s : State) (e : Nat) (x : Xfer) (bad : Bool) : State :=
  let c := s.core e
  let st := s.peState e
  if !x.drop && bad && (st == 2 || st == 3) then s.peFaultAt e x.pc ⟨6, 3, x.far⟩
  else if st == 4 && c.xfers.isEmpty && s.bit (Reg.PE_STATUS e) Fld.PE_STATUS_CLEAR_PENDING then s.peRelease e
  else if st == 0 && c.xfers.isEmpty && c.enableWait then
    ((s.setCore e { c with enableWait := false }).peRest e).noEngine
  else s

/-- XFER_RETIRE (R145): `err` is an error answer beside those that the crossbar has recorded. -/
def State.xferRetire (s : State) (e tag : Nat) (err : Bool) : State :=
  let c := s.core e
  match c.xfers.find? (fun x => x.tag == tag) with
  | none => s
  | some x =>
    if s.xferBusy e tag then s
    else
      let bad := err || x.err
      let s1 := (s.xferData e x bad).setCore e { c with xfers := c.xfers.filter (fun y => y.tag != tag) }
      let s2 := if x.drop then s1 else s1.syncTags e
      let s3 := if x.deg && !x.drop then s2.setBit (Reg.PE_STATUS e) Fld.PE_STATUS_XDEG true else s2
      s3.xferAfter e x bad

/-- Write the bytes of a word whose enable is set. -/
def State.writeBe (s : State) (a : Nat) (be : BitVec 4) (data : Word) : State :=
  { s with mem := Memory.writeMasked s.mem a ((wordBytes data).mapIdx (fun i b => (b, be.getLsbD i))) }

/-- A write to engine memory takes effect only in OFFLINE; the host gets error cause 2, before the release too (R151, R594,
R630). A write of all four bytes of an X or Y word makes its ECC valid; one of a part of an ECC word, as every write of half a P
word is, leaves an error that the word holds: DESIGN CHOICE (log entry 123). -/
def State.peMemWrite (s : State) (m : RegMaster) (a : Nat) (be : BitVec 4) (data : Word) : State :=
  let e := (a - 0x04000000) / 0x40000
  let off := (a - 0x04000000) % 0x40000
  if 0x28000 ≤ off then s
  else if s.peState e = 0 then (s.writeBe a be data).eccClearW (if off < 0x20000 then 4 else 8) a (if be = 15 then 4 else 0)
  else if m = .host then s.hostErr 2 0 true a else s

/-! ### The commands -/

/-- The command PE_ENABLE_WRITE. -/
def execPeEnableWrite (e : Fin 64) (data : Word) (s : State) : Host.Outcome State Fault Refusal := .next (s.peEnable e data)

/-- The command PE_ABORT: the same for a write of ABORT and for an abort of SEQ. Its operand says that a fault of the engine,
which has its own command, falls in the same cycle: the fault wins (R149). -/
def execPeAbort (e : Fin 64) (s : State) (withFault : Bool := false) : Host.Outcome State Fault Refusal :=
  .next (if withFault then s else s.peAbort e)

/-- The command CLEAR_FAULT. -/
def execClearFault (e : Fin 64) (s : State) : Host.Outcome State Fault Refusal := .next (s.peClear e)

/-- The command PE_MEMORY_WRITE. -/
def execPeMemoryWrite (m : RegMaster) (addr : BitVec 32) (be : BitVec 4) (data : Word) (s : State) :
    Host.Outcome State Fault Refusal :=
  .next (s.unlessBarred m addr.toNat (s.peMemWrite m addr.toNat be data))

/-- The command XFER_RETIRE. -/
def execXferRetire (e : Fin 64) (tag : Fin 8) (err : Bool) (s : State) : Host.Outcome State Fault Refusal :=
  .next (s.xferRetire e tag err)

/-- The command TASK_COMPLETE. Its operands say that an abort, or a fault with its own command, falls in the same cycle: the
fault wins over both, and the abort wins over END (R149). -/
def execTaskComplete (e : Fin 64) (s : State) (withAbort : Bool := false) (withFault : Bool := false) :
    Host.Outcome State Fault Refusal :=
  .next (if withFault then s else if withAbort then s.peAbort e else s.peDone e)

/-- The command PE_DRAIN_DONE. -/
def execPeDrainDone (e : Fin 64) (s : State) : Host.Outcome State Fault Refusal := .next (s.peDrainDone e)

/-- The command PE_FAULT_RELEASE. -/
def execPeFaultRelease (e : Fin 64) (s : State) : Host.Outcome State Fault Refusal := .next (s.peFaultRelease e)

end Sys2Proof.Machine
end

