-- ==== Sys2Proof/Machine/Seq.lean ====
section
/-! DEFINITION. The task sequencer: creation, dispatch, deadlines, release, cancels, and what a clause commit does inside
computed folios (R163-R201). -/

namespace Sys2Proof.Machine

/-! ### Banks and generations (R186, R194) -/

/-- Whether phrase p uses PARAM_B in folio k (R186). -/
def State.bankOf (s : State) (p k : Nat) : Bool :=
  s.seq.flips.foldl (fun b f => if f.1 = p ∧ f.2.1 ≤ k then f.2.2 else b) (SMap.find false s.seq.bank p)

/-- Whether the newest bank of a phrase is PARAM_B. -/
def State.bankNewest (s : State) (p : Nat) : Bool :=
  s.seq.flips.foldl (fun b f => if f.1 = p then f.2.2 else b) (SMap.find false s.seq.bank p)

/-- A flip of phrases from folio F on. -/
def State.addFlips (s : State) (ps : List Nat) (flip : Nat) : State :=
  ps.foldl (fun s p =>
    let b := s.bankNewest p
    { s with seq := { s.seq with
      flips := s.seq.flips.filter (fun f => !(f.1 == p && decide (flip ≤ f.2.1))) ++ [(p, flip, !b)] } }) s

/-- The flips that every folio from k on has behind it go into the banks. -/
def State.foldFlips (s : State) (k : Nat) : State :=
  let done := s.seq.flips.filter (fun f => decide (f.2.1 ≤ k))
  { s with seq := { s.seq with
    bank := done.foldl (fun m f => SMap.set false m f.1 f.2.2) s.seq.bank
    flips := s.seq.flips.filter (fun f => decide (k < f.2.1)) } }

/-- Every flip goes into the banks: no folio uses a previous bank. -/
def State.foldAllFlips (s : State) : State :=
  { s with seq := { s.seq with
    bank := s.seq.flips.foldl (fun m f => SMap.set false m f.1 f.2.2) s.seq.bank
    flips := [] } }

/-- The generation that governs folio k (R285). -/
def State.genOf (s : State) (k : Nat) : Word :=
  s.seq.gens.foldl (fun g e => if e.1 ≤ k then e.2 else g) 0

/-- A generation from a folio on. -/
def State.addGen (s : State) (flip : Nat) (gen : Word) : State :=
  { s with seq := { s.seq with gens := s.seq.gens.filter (fun e => decide (e.1 < flip)) ++ [(flip, gen)] } }

/-- The generations that no folio from k on needs are dropped. -/
def State.pruneGens (s : State) (k : Nat) : State :=
  let old := (s.seq.gens.filter (fun e => decide (e.1 ≤ k))).getLast?
  { s with seq := { s.seq with gens := old.toList ++ s.seq.gens.filter (fun e => decide (k < e.1)) } }

/-! ### Creation (R169, R170) -/

/-- How often a phrase stands in a list. -/
def timesIn (p : Nat) (l : List Nat) : Nat := (l.filter (· == p)).length

/-- Whether the present bit of a feed is set for a folio (R171). -/
def State.feedPresent (s : State) (f k : Nat) : Bool := SMap.find 0 s.seq.present (f * 4 + k % 4) == k + 1

/-- The references to a phrase by feeds that are present for a folio. -/
def State.feedRefs (s : State) (p k : Nat) : Nat :=
  (List.range s.nFeed).foldl (fun n f => if s.feedPresent f k then n + timesIn p (s.feedSucc f) else n) 0

/-- The references to a phrase by complete tasks of its folio (R189). -/
def State.doneRefs (s : State) (p k : Nat) : Nat :=
  s.seq.tasks.foldl (fun n t => if t.folio = k ∧ t.complete then n + timesIn p (s.phraseSucc t.phrase) else n) 0

/-- NDEP, and one more while the phrase's task of the previous folio exists and is not complete (R170). -/
def State.ndep (s : State) (p k : Nat) : Nat :=
  s.pword p 1 % 2 ^ 14 +
    (if s.pStateful p && k != 0 && (match s.task p (k - 1) with | some t => !t.complete | none => false) then 1 else 0)

/-- The pending count of a task; below zero it is 0 with GRAPH_ERR (R170). -/
def State.startCount (s : State) (p k : Nat) : State :=
  let n := s.ndep p k
  let m := s.feedRefs p k + s.doneRefs p k
  let s1 := if n < m then s.graphErr p else s
  s1.updTask p k (fun t => { t with count := n - m, st := if n ≤ m then .ready else .pending })

/-- A new task, before its count. -/
def newTask (p k : Nat) (recomp : Bool) : Task := ⟨p, k, 0, .pending, recomp, false, none, 0⟩

/-- The ranges of the tables of SEQ that hold something: the phrase and feed tables and the successor lists. -/
def State.tableRanges (s : State) : List (Nat × Nat) :=
  let list (idx n : Nat) : Nat × Nat := ((s.regN Reg.SEQ_STAB + 4 * idx) % 2 ^ 32, 4 * n)
  let feed (f w : Nat) : Nat := s.seqWord ((s.regN Reg.SEQ_FTAB + 8 * f + 4 * w) % 2 ^ 32)
  ((s.regN Reg.SEQ_PTAB, 64 * s.nPhrase) :: (s.regN Reg.SEQ_FTAB, 8 * s.nFeed) ::
    (s.phrases.map (fun p => list (s.pword p 2) (s.pword p 1 / 2 ^ 16)) ++
      (List.range s.nFeed).map (fun f => list (feed f 0) (feed f 1 % 2 ^ 16)))).filter (fun r => r.2 != 0)

/-- SEQ reads its tables for a folio: its transactions hold tags, corrected errors are counted, and what it does not reach or
cannot correct is answered with an error (R400, R402, R404, R436). How often it reads them is not stated: DESIGN CHOICE, once for
each folio that it creates (log entry 101). -/
def State.tableReads (s : State) : State := s.tableRanges.foldl (fun s r => (s.unitRead 8 r.1 r.2).2) s

/-- TASK_CREATE of one folio (R163, R169, R170, R200, R677). -/
def State.createFolio (s : State) (k : Nat) : State :=
  let ps := s.phrases
  let s1 : State := { s with seq := { s.seq with
    tasks := s.seq.tasks ++ ps.map (fun p => newTask p k false)
    info := s.seq.info ++ [(⟨k, none, false, false⟩ : FolioInfo)]
    next := k + 1 } }.tableReads
  let s2 := ps.foldl (fun s p => if s.pword p 0 / 8 % 4 = 3 then s.raiseN 208 (p + 2 * 2 ^ 28) else s) s1
  let s3 := ps.foldl (fun s p => s.succCheck k p false (s.phraseSucc p)) s2
  let s4 := (List.range s3.nFeed).foldl (fun s f => s.succCheck k f true (s.feedSucc f)) s3
  ((ps.foldl (fun s p => s.startCount p k) s4).syncTasks).noEngine

/-- Creation of n folios from the next one on. -/
def State.createFolios (s : State) : Nat → State
  | 0 => s
  | n + 1 => (s.createFolio s.seq.next).createFolios n

/-- SEQ enters RUNNING with first folio k0 (R169, R178, R199). -/
def State.seqBegin (s : State) (k0 : Nat) : State :=
  let s1 := (s.setSeqState 2).foldAllFlips
  { s1 with seq := { s1.seq with first := k0, next := k0, released := none, slotOf := [], startArmed := none
                                 copies := [], info := [] } }.createFolios s1.runahead

/-- SEQ_START (R199): the start boundary has been reached. -/
def State.seqStart (s : State) (k : Nat) : State :=
  if s.seqState = 1 ∧ s.seq.startArmed = some k ∧ s.audio ∧ s.folio = k then s.seqBegin k else s

/-- RUNNING ends: no further folio is created (R199). -/
def State.seqStop (s : State) : State :=
  if s.seqState = 2 then (if s.seq.info.isEmpty then (s.setSeqState 0).foldAllFlips else s.setSeqState 3)
  else if s.seqState = 1 then { s with seq := { s.seq with startArmed := none } }
  else s

/-- SEQ_ENABLE_WRITE (R199, R204). -/
def State.seqEnable (s : State) (data : Word) : State :=
  let s1 := s.writeRw Reg.SEQ_CTRL data
  if Fld.SEQ_CTRL_ENABLE.get data = 1 then
    if s1.seqState = 0 then
      { s1 with seq := { s1.seq with startArmed := if s1.audio then some (s1.folio + 1) else none } }.setSeqState 1
    else s1
  else if s1.seqState = 1 then { s1 with seq := { s1.seq with startArmed := none } }.setSeqState 0
  else s1.seqStop

/-! ### Dispatch (R114, R115, R174, R177) -/

/-- The words of the descriptor of a task for an engine, 0 for MIX (R177). -/
def State.descriptor (s : State) (t : Task) (slot e : Nat) : List Word :=
  let p := t.phrase
  let k := t.folio
  let g := gloss (s.boundary k)
  let size := s.pword p 4 % 2 ^ 24
  let io (i : Nat) : Nat := s.pword p 7 + i * (s.pword p 8 % 2 ^ 24)
  let st (i : Nat) : Nat := if size = 0 then 0 else s.pword p 3 + i * size
  [k, k / 2 ^ 32, g, g / 2 ^ 32, p + k % 4 * 2 ^ 12 + bitOf t.recomp * 2 ^ 14 + e * 2 ^ 16, (s.genOf k).toNat,
    st slot, st ((k + 1) % 4), s.pword p (if s.bankOf p k then 6 else 5), io (k % 4), io ((k + 3) % 4), s.pword p 12,
    s.rate + s.latency * 2 ^ 8, s.pword p 13, s.pword p 14, s.pword p 15].map (BitVec.ofNat 32)

/-- ENGINE_TASK_START (R114, R115). -/
def State.engineStart (s : State) (e : Nat) (t : Task) (slot : Nat) : State :=
  let c : PeCore := { a := [(0, 0xFFC0)], task := some (t.phrase, t.folio), qos := s.pword t.phrase 0 / 2 ^ 28 }
  let s1 := (s.setCore e c).setReg64 (Reg.PE_TRACE e) 0
  let s2 := (s1.setPc e (s.pword t.phrase 0 / 2 ^ 16 % 2 ^ 12)).setFld (Reg.PE_STATUS e) Fld.PE_STATUS_LOOP_DEPTH 0
  let a := xyAddr e false 0xFFC0
  ((s2.writeWords a (s.descriptor t slot e)).eccClearW 4 a 64 |>.setPeState e 2).peCycles e 6

/-- Whether an engine or MIX still holds the aborted task of the same phrase and folio (R191). -/
def State.unacked (s : State) (t : Task) : Bool :=
  s.pe.any (fun c => c.2.task == some (t.phrase, t.folio)) ||
    (match s.mix.running with | some j => j.phrase == t.phrase && j.folio == t.folio | none => false)

/-- The place a ready task goes to: the lowest-numbered IDLE engine it allows, or MIX as 64, of a cluster that has got no
task in this cycle (R174). -/
def State.placeOf (s : State) (t : Task) : Option Nat :=
  if s.unacked t then none
  else if s.pMix t.phrase then (if s.seq.used.contains 8 then none else some 64)
  else (s.pAllowed t.phrase).find? (fun e => s.peState e == 1 && !s.seq.used.contains (e / 8))

/-- The task that is dispatched next, and where to. -/
def State.nextDispatch (s : State) : Option (Task × Nat) :=
  s.readyTasks.findSome? (fun t => (s.placeOf t).map (fun e => (t, e)))

/-- A dispatch in a new SYS_CLK cycle finds every cluster free. -/
def State.dispatchCycle (s : State) (same : Bool) : State :=
  if same then s else { s with seq := { s.seq with used := [] } }

/-- TASK_DISPATCH (R174). -/
def State.dispatch (s : State) : State :=
  if s.seqState = 2 ∨ s.seqState = 3 then
    match s.nextDispatch with
    | none => s.noEngine
    | some (t, e) =>
      let slot := s.taskSlot t
      let s0 := { s with seq := { s.seq with used := e / 8 :: s.seq.used } }
      let s1 := (s0.updTask t.phrase t.folio (fun (u : Task) =>
        { u with st := if e = 64 then .mix else .running e, disp := true, stateIn := some slot })).count64 Reg.SEQ_DISPATCHED 1
      if e = 64 then
        let d (i : Nat) : Nat := ((s.descriptor t slot 0).getD i 0).toNat
        { s1 with mix := { s1.mix with queue := s1.mix.queue ++ [⟨t.phrase, t.folio, d 8, d 6, d 7, d 9⟩] } }
      else s1.engineStart e t slot
  else s

/-! ### Feeds (R171) -/

/-- FEED_SIGNAL. -/
def State.feedSignal (s : State) (f k : Nat) : State :=
  if s.feedPresent f k then s.raiseN 209 f
  else
    let s1 := { s with seq := { s.seq with present := SMap.set 0 s.seq.present (f * 4 + k % 4) (k + 1) } }
    let l := s1.feedSucc f
    if s1.seq.tasks.any (fun t => t.folio == k) then
      (((s1.goodSucc l).foldl (fun s p => s.decTask p k) (s1.succCheck k f true l)).syncTasks).noEngine
    else s1

/-! ### Aborts and cancels (R180, R191, R196, R197) -/

/-- SEQ gives up a task: a running one is aborted, one queued at MIX dropped, one in execution there stops at its next
boundary (R148, R213); one not dispatched is cancelled, which `counts` counts (R197). -/
def State.giveUp (s : State) (t : Task) (counts : Bool) : State :=
  match t.st with
  | .running e => if (s.core e).task = some (t.phrase, t.folio) then s.peAbort e else s
  | .mix =>
    if (match s.mix.running with | some j => j.phrase == t.phrase && j.folio == t.folio | none => false) then
      { s with mix := { s.mix with aborting := true } }
    else { s with mix := { s.mix with
      queue := s.mix.queue.filter (fun j => !(j.phrase == t.phrase && j.folio == t.folio)) } }
  | .pending => if counts then s.countHold Reg.SEQ_CANCEL_COUNT 1 else s
  | .ready => if counts then s.countHold Reg.SEQ_CANCEL_COUNT 1 else s
  | _ => s

/-- A task that is given up and substituted. -/
def State.replaceTask (s : State) (t : Task) (counts : Bool) : State :=
  (s.giveUp t counts).substitute t.phrase t.folio

/-- The tasks of a folio that have not completed, by phrase. -/
def State.openTasks (s : State) (k : Nat) : List Task := s.seq.tasks.filter (fun t => t.folio == k && !t.complete)

/-- Change what SEQ keeps of a folio. -/
def State.updInfo (s : State) (k : Nat) (f : FolioInfo → FolioInfo) : State :=
  { s with seq := { s.seq with info := s.seq.info.map (fun i => if i.folio = k then f i else i) } }

/-- What happens at D(k) (R180). -/
def State.closeFolio (s : State) (k : Nat) : State :=
  let l := s.openTasks k
  if l.isEmpty then s.updInfo k (fun i => { i with closed := true })
  else
    let s1 := l.foldl (fun s t => s.replaceTask t true) (s.updInfo k (fun i => { i with closed := true, missed := true }))
    (((s1.countHold Reg.SEQ_DEADLINE_MISS 1).healthAdd 5).raiseN 203 (min l.length 0xFFFF + k % 2 ^ 16 * 2 ^ 16)).noEngine

/-- DEADLINE: PT has reached D(k) (R180). -/
def State.deadline (s : State) (k : Nat) : State :=
  if s.seq.info.any (fun i => i.folio == k && !i.closed) ∧ s.deadlinePt k ≤ s.now then s.closeFolio k else s

/-- SEQ_CANCEL (R196). -/
def State.seqCancel (s : State) (p slot : Nat) : State :=
  match s.seq.tasks.find? (fun t => t.phrase == p && t.folio % 4 == slot && !t.complete) with
  | none => s
  | some t => ((s.replaceTask t true).taskSub p t.folio).noEngine

/-- TABLE_ECC (R201). -/
def State.tableEcc (s : State) (tag : Nat) : State :=
  let s1 := s.raiseN 212 tag
  match s1.seq.tasks.find? (fun t => t.phrase == tag / 4 && t.folio % 4 == tag % 4 && !t.complete) with
  | none => s1
  | some t => (s1.replaceTask t false).noEngine

/-! ### Release (R167, R171, R182, R184, R185) -/

/-- The slack of a folio (R185): DEADLINE_MISS records the smallest value. -/
def State.slack (s : State) (k : Nat) : State :=
  match s.seq.info.find? (fun i => i.folio == k) with
  | none => s
  | some i =>
    let keep (s : State) (v : Int) : State :=
      if v < signed 32 (s.regN Reg.SEQ_SLACK_MIN) then s.setReg Reg.SEQ_SLACK_MIN (wordOfInt v) else s
    if i.missed then keep s (-(2 ^ 31 : Nat))
    else
      match i.last with
      | none => s
      | some l =>
        let v := satInt 32 (Int.fdiv ((s.deadlinePt k : Int) - l) nsUnit)
        let s1 := keep s v
        if v < s1.fld Reg.SEQ_GUARD Fld.SEQ_GUARD_SLACK_WARN then s1.raise 210 (wordOfInt v) else s1

/-- The bytes a copy has moved by now. -/
def SeqCopy.moved (c : SeqCopy) (t : Nat) : Nat := (t - c.start) * 6 / (5 * nsUnit) * 64

/-- A copy of folio k that still runs leaves the region as it stands, and SLACK_LOW is raised (R182). -/
def State.cutCopies (s : State) (k : Nat) : State :=
  let late := s.seq.copies.filter (fun c => c.folio == k && decide (s.now < c.stop))
  let s1 := late.foldl (fun s c => s.write (c.dst + c.moved s.now) (c.old.drop (c.moved s.now))) s
  let s2 := { s1 with seq := { s1.seq with copies := s1.seq.copies.filter (fun c => c.folio != k) } }
  if late.isEmpty then s2 else s2.raise 210 (wordOfInt (-(s.fld Reg.SEQ_GUARD Fld.SEQ_GUARD_GUARD : Nat)))

/-- The digests of a folio, handed to REDUN in phrase order (R181, R184). -/
def State.handDigests (s : State) (k : Nat) : State :=
  let ds := ((List.range s.nPhrase).filterMap (fun p => s.task p k)).map (fun t =>
    (k, t.phrase, t.st == .substituted, t.digest))
  { s with redun := { s.redun with digests := s.redun.digests.filter (fun d => decide (k < d.1 + 8)) ++ ds } }

/-- The state slots that the next folio reads (R178). -/
def State.nextSlots (s : State) (k : Nat) : State :=
  let m := s.seq.tasks.foldl (fun m t =>
    if t.folio = k ∧ t.st = .substituted then SMap.set 0 m t.phrase (s.taskSlot t + 1) else m) []
  { s with seq := { s.seq with slotOf := m } }

/-- The folio leaves SEQ (R171, R198). -/
def State.dropFolio (s : State) (k : Nat) : State :=
  ({ s with seq := { s.seq with
    released := some k
    tasks := s.seq.tasks.filter (fun t => t.folio != k)
    info := s.seq.info.filter (fun i => i.folio != k)
    present := s.seq.present.filter (fun e => e.2 != k + 1) } }.syncTasks.foldFlips (k + 1)).pruneGens k

/-- Whether folio k can be released now (R167). -/
def State.releases (s : State) (k : Nat) : Bool :=
  (s.seqState == 2 || s.seqState == 3) && (s.seq.info.head?.map (·.folio)) == some k && decide (s.releasePt k ≤ s.now)

/-- SEQ's part of FOLIO_RELEASE up to the creation of tasks: a folio whose deadline has not been handled is closed. -/
def State.seqRelease (s : State) (k : Nat) : State :=
  let s1 := if s.seq.info.any (fun i => i.folio == k && !i.closed) then s.closeFolio k else s
  (((s1.slack k).cutCopies k).handDigests k |>.nextSlots k).dropFolio k

/-- Creation at release(k), or the end of STOPPING (R169, R199). -/
def State.seqGoOn (s : State) (k : Nat) : State :=
  if s.seqState = 2 then s.createFolios (k + s.runahead + 1 - s.seq.next)
  else if s.seq.info.isEmpty then (s.setSeqState 0).foldAllFlips
  else s

/-! ### Clause commits (R186-R195) -/

/-- Whether a folio is started (R187). -/
def State.isStarted (s : State) (k : Nat) (ps : List Nat) : Bool :=
  s.seq.tasks.any (fun t => t.folio == k && ps.contains t.phrase && (t.disp || t.st == .done))

/-- LATE_APPLY of a folio (R192). -/
def State.lateApply (s : State) (j : Nat) (gen : Word) : State :=
  (s.countHold Reg.SEQ_LATE_APPLY 1).raiseN 204 (j % 2 ^ 16 + gen.toNat % 2 ^ 16 * 2 ^ 16)

/-- The flip folio from j on (R188); `est` is the PT by which a recompute is done. -/
def State.flipFrom (s : State) (ps : List Nat) (gen : Word) (est : Nat) : Nat → Nat → Nat × State
  | 0, j => (j, s)
  | n + 1, j =>
    if !s.isStarted j ps || decide (est ≤ s.deadlinePt j) then (j, s)
    else (s.lateApply j gen).flipFrom ps gen est n (j + 1)

/-- One round of the closure of R189. -/
def State.squashMore (s : State) (set : List (Nat × Nat)) : List (Nat × Nat) :=
  (s.seq.tasks.map (fun t => (t.phrase, t.folio))).filter (fun x =>
    set.contains x || set.any (fun m =>
      (m.2 == x.2 && (s.goodSucc (s.phraseSucc m.1)).contains x.1) ||
      (m.1 == x.1 && decide (m.2 < x.2) && s.pStateful m.1)))

/-- The closure, in at most n rounds. -/
def State.squashClose (s : State) : Nat → List (Nat × Nat) → List (Nat × Nat)
  | 0, set => set
  | n + 1, set => s.squashClose n (s.squashMore set)

/-- The squash set (R188, R189): every affected task of F and later, closed. A commit squashes once a folio at or after F is
started (log entry 42), a couch always (R473). -/
def State.squashSet (s : State) (ps : List Nat) (flip : Nat) (couch : Bool) : List (Nat × Nat) :=
  let late := s.seq.tasks.filter (fun t => decide (flip ≤ t.folio))
  if couch || late.any (fun t => s.isStarted t.folio ps) then
    s.squashClose s.seq.tasks.length ((late.filter (fun t => ps.contains t.phrase)).map (fun t => (t.phrase, t.folio)))
  else []

/-- How many folios a list of tasks touches. -/
def folioCount (l : List (Nat × Nat)) : Nat := (l.map (·.2)).eraseDups.length

/-- The tasks squashed at this same PT that wait for their recompute: a second squash of the cycle does not squash them again
(R474). -/
def State.cutNow (s : State) : List (Nat × Nat) :=
  if s.seq.cutAt = some s.now then
    s.seq.cut.filter (fun x => match s.task x.1 x.2 with | some t => t.waits && t.recomp | none => false)
  else []

/-- SQUASH (R189, R197, R200, R474). -/
def State.squash (s : State) (ps : List Nat) (flip : Nat) (couch : Bool) : State :=
  let all := s.squashSet ps flip couch
  let cut := s.cutNow
  let set := all.filter (fun x => !cut.contains x)
  if set.isEmpty then s
  else
    let inSet (t : Task) : Bool := set.contains (t.phrase, t.folio)
    let s1 := (s.seq.tasks.filter inSet).foldl (fun s t => s.giveUp t true) s
    let s2 := { s1 with seq := { s1.seq with
      tasks := s1.seq.tasks.map (fun t =>
        if inSet t then { newTask t.phrase t.folio true with stateIn := t.stateIn } else t)
      copies := s1.seq.copies.filter (fun c => !set.contains (c.phrase, c.folio))
      cutAt := some s.now
      cut := cut ++ set } }
    let order := sortBy (fun (x y : Nat × Nat) => decide (x.2 < y.2) || (x.2 == y.2 && decide (x.1 < y.1)))
      (all ++ cut.filter (fun x => !all.contains x))
    let s3 := order.foldl (fun s x => s.startCount x.1 x.2) s2
    ((s3.syncTasks.countHold Reg.SEQ_SQUASHED set.length).raiseN 205
      (min set.length 0xFFFF + min 3 (folioCount set) * 2 ^ 16)).noEngine

/-- Every task of every unreleased folio is discarded (R195). -/
def State.discardTasks (s : State) : State :=
  let s1 := s.seq.tasks.foldl (fun s t => s.giveUp t false) s
  { s1 with seq := { s1.seq with tasks := [], info := [], copies := [] } }.syncTasks

/-- The restart of SEQ with first folio c, under the values now in force (R195). -/
def State.restart (s : State) (c : Nat) : State :=
  let u := s.firstUnreleased
  let slots := (List.range s.nPhrase).foldl (fun m p =>
    if s.pStateful p then SMap.set 0 m p (s.stateSlot p u + 1) else m) []
  let s1 := (s.discardTasks.raiseN 211 c).foldAllFlips
  { s1 with seq := { s1.seq with first := c, next := c, released := none, slotOf := slots } }.createFolios s1.runahead

/-- The first folio that a commit at PT t governs: the smallest k with release(k) > t (R187). -/
def State.firstGoverned (s : State) (t : Nat) : Nat := (sampleAt s.hz t + 8 - (s.latency + 8)) / 8

/-- What CLAUSE passes to SEQ at a commit (R186-R195), under the values the commit has brought into force: the commit PT t,
its folio c, and the first governed folio g. Answers the flip folio and the state. -/
def State.seqCommit (s : State) (t c g : Nat) (ps : List Nat) (gen : Word) (crit : Nat) (restart : Bool) : Nat × State :=
  if s.seqState = 0 ∨ s.seqState = 1 then (g, ((s.addFlips ps g).foldAllFlips).addGen g gen)
  else if restart then
    if s.seqState = 2 then (c, ((s.addFlips ps c).addGen g gen).restart c)
    else (g, (((s.addFlips ps g).addGen g gen).discardTasks.setSeqState 0).foldAllFlips)
  else
    let est := t + crit * (5 * nsUnit / 8) + s.fld Reg.SEQ_RECOMP Fld.SEQ_RECOMP_MARGIN * nsUnit
    let r := s.flipFrom ps gen est (s.seq.tasks.length + 1) g
    (r.1, ((r.2.addFlips ps r.1).addGen r.1 gen).squash ps r.1 false)

/-! ### The commands -/

/-- The command TASK_DISPATCH: `sameCycle` says that it falls into the SYS_CLK cycle of the dispatch before it. -/
def execTaskDispatch (sameCycle : Bool) (s : State) : Host.Outcome State Fault Refusal :=
  .next (s.dispatchCycle sameCycle).dispatch

/-- The command SEQ_ENABLE_WRITE. -/
def execSeqEnableWrite (data : Word) (s : State) : Host.Outcome State Fault Refusal := .next (s.seqEnable data)

/-- The command SEQ_START. -/
def execSeqStart (k : Nat) (s : State) : Host.Outcome State Fault Refusal := .next (s.seqStart k)

/-- The command FEED_SIGNAL. -/
def execFeedSignal (feed : Fin 2048) (k : Nat) (s : State) : Host.Outcome State Fault Refusal :=
  .next (s.feedSignal feed k)

/-- The command DEADLINE. -/
def execDeadline (k : Nat) (s : State) : Host.Outcome State Fault Refusal := .next (s.deadline k)

/-- The command SEQ_CANCEL. -/
def execSeqCancel (phrase : Fin 4096) (slot : Fin 4) (s : State) : Host.Outcome State Fault Refusal :=
  .next (s.seqCancel phrase slot)

/-- The command TABLE_ECC. -/
def execTableEcc (tag : Fin 16384) (s : State) : Host.Outcome State Fault Refusal := .next (s.tableEcc tag)

end Sys2Proof.Machine
end

