-- ==== Sys2Proof/Machine/Mix.lean ====
section
/-! DEFINITION. The mix tasks and the routing of sinks (R212-R240). The steps of a bus are computed for a whole folio. -/

namespace Sys2Proof.Machine

/-- The crossbar code of MIX. -/
def mixCode : Nat := 9

/-! ### Crosspoints (R222-R231) -/

/-- The run state of a crosspoint (R231): phase 0 IDLE, 1 WAIT, 2 RAMP. -/
structure XpState where
  cur   : Int
  start : Int
  pend  : Int
  left  : Nat
  pos   : Nat
  phase : Nat
  rlen  : Nat
  deriving DecidableEq, Repr

/-- The run state that 16 bytes spell. -/
def XpState.of (bs : List Byte) : XpState :=
  let w3 := (wordOf (bs.drop 12)).toNat
  ⟨(wordOf bs).toInt, (wordOf (bs.drop 4)).toInt, (wordOf (bs.drop 8)).toInt, w3 % 2 ^ 8, w3 / 2 ^ 8 % 2 ^ 7,
    w3 / 2 ^ 15 % 4, w3 / 2 ^ 17 % 2 ^ 4⟩

/-- The 16 bytes of a run state. -/
def XpState.bytes (x : XpState) : List Byte :=
  wordBytes (wordOfInt x.cur) ++ wordBytes (wordOfInt x.start) ++ wordBytes (wordOfInt x.pend) ++
    leBytes 4 (x.left % 2 ^ 8 + x.pos % 2 ^ 7 * 2 ^ 8 + x.phase % 4 * 2 ^ 15 + x.rlen % 2 ^ 4 * 2 ^ 17)

/-- The fields of a crosspoint record (R216). -/
structure Xp where
  base   : Nat
  stride : Nat
  mode   : Nat
  count  : Bool
  on     : Bool
  gain   : Int
  zc     : Nat
  ramp   : Nat
  deriving DecidableEq, Repr

/-- The record that 16 bytes spell. -/
def Xp.of (bs : List Byte) : Xp :=
  let w1 := (wordOf (bs.drop 4)).toNat
  let w3 := (wordOf (bs.drop 12)).toNat
  ⟨(wordOf bs).toNat, w1 % 2 ^ 24, w1 / 2 ^ 24 % 4, w1.testBit 26, w1.testBit 27, (wordOf (bs.drop 8)).toInt,
    w3 % 2 ^ 8, w3 / 2 ^ 8 % 2 ^ 4⟩

/-- The gain of a ramp after n of its NR samples (R228). -/
def rampGain (start pend : Int) (n nr : Nat) : Int := start + truncDiv ((pend - start) * n) nr

/-- RLEN of a ramp that a wait has ended in: the RAMP in force in the folio in which the crosspoint enters RAMP (R227, R228; log
entry 102). Every other ramp has run at least eight samples. -/
def XpState.enter (x : XpState) (r : Xp) : XpState := if x.phase = 2 ∧ x.pos = 0 then { x with rlen := r.ramp } else x

/-- The gain of a crosspoint at the start of the folio: in a ramp, that of the sample before (R228). -/
def XpState.gain (x : XpState) : Int :=
  if x.phase = 2 then rampGain x.start x.pend x.pos (8 * (x.rlen + 1)) else x.cur

/-- The target check at the start of a folio (R225, R226, R229). -/
def XpState.target (x : XpState) (r : Xp) : XpState :=
  if r.gain = (if x.phase = 0 then x.cur else x.pend) then x
  else
    match x.phase with
    | 0 =>
      match r.mode with
      | 0 => { x with cur := r.gain }
      | 1 => { x with pend := r.gain, left := max 1 r.zc, phase := 1 }
      | _ => { x with start := x.cur, pend := r.gain, pos := 0, phase := 2, rlen := r.ramp }
    | 1 => if r.gain = x.cur then { x with phase := 0 } else { x with pend := r.gain }
    | _ => { x with start := x.gain, pend := r.gain, pos := 0, rlen := r.ramp }

/-- Whether a crosspoint counts towards N (R222). -/
def XpState.counts (x : XpState) : Bool := x.gain != 0 || (x.phase != 0 && x.pend != 0)

/-- Whether a word is a crossing after the one before it (R227). -/
def crossing (before now : Int) : Bool :=
  now == 0 || (decide (0 < before) && decide (now < 0)) || (decide (before < 0) && decide (0 < now))

/-- The first sample of a crossing. -/
def firstCrossing : Int → List Int → Nat → Option Nat
  | _, [], _ => none
  | b, w :: ws, i => if crossing b w then some i else firstCrossing w ws (i + 1)

/-- One folio of a crosspoint whose target has been checked (R226-R229): the gains of the eight samples, the new run state,
and whether its wait ends in a ramp. POS after a ramp is not stated: `idlePos` (free, log entry 1). -/
def XpState.run (x : XpState) (r : Xp) (before : Int) (ws : List Int) (idlePos : Nat) : List Int × XpState × Bool :=
  match x.phase with
  | 0 => (List.replicate 8 x.cur, x, false)
  | 1 =>
    match firstCrossing before ws 0 with
    | some j => (List.replicate j x.cur ++ List.replicate (8 - j) x.pend, { x with cur := x.pend, phase := 0 }, false)
    | none =>
      if x.left ≤ 1 then
        (List.replicate 8 x.cur, { x with left := 0, start := x.cur, pos := 0, phase := 2, rlen := r.ramp }, true)
      else (List.replicate 8 x.cur, { x with left := x.left - 1 }, false)
  | _ =>
    let nr := 8 * (x.rlen + 1)
    let gs := (List.range 8).map (fun j => if nr ≤ x.pos + j + 1 then x.pend else rampGain x.start x.pend (x.pos + j + 1) nr)
    if nr ≤ x.pos + 8 then (gs, { x with cur := x.pend, phase := 0, pos := idlePos % 2 ^ 7 }, false)
    else (gs, { x with pos := x.pos + 8 }, false)

/-! ### Buses (R214, R215, R219-R224) -/

/-- The integer square root by Newton's bisection on bits, for R223: the largest s below 2^n more than acc with
s * s * m at most limit. -/
def sqrtBits (m limit : Nat) : Nat → Nat → Nat
  | 0, acc => acc
  | n + 1, acc => sqrtBits m limit n (if (acc + 2 ^ n) * (acc + 2 ^ n) * m ≤ limit then acc + 2 ^ n else acc)

/-- The target scale of a bus (R223). -/
def targetScale (law n fix : Nat) : Nat :=
  match law with
  | 0 => 2 ^ 31
  | 1 => 2 ^ 31 / max 1 n
  | 2 => sqrtBits (max 1 n) (2 ^ 62) 32 0
  | _ => fix

/-- A bus record (R215). -/
structure Bus where
  bus   : Nat
  law   : Nat
  n     : Nat
  first : Nat
  fix   : Nat
  off   : Nat
  deriving DecidableEq, Repr

/-- The record that 16 bytes spell. -/
def Bus.of (bs : List Byte) : Bus :=
  let w0 := (wordOf bs).toNat
  ⟨w0 % 2 ^ 10, w0 / 2 ^ 10 % 4, w0 / 2 ^ 16 % 2 ^ 9, (wordOf (bs.drop 4)).toNat, (wordOf (bs.drop 8)).toNat,
    (wordOf (bs.drop 12)).toNat % 2 ^ 24⟩

/-- What a crosspoint contributes to a bus in a folio. -/
structure XpOut where
  index  : Nat
  on     : Bool
  counts : Bool
  gains  : List Int
  words  : List Int
  timed  : Bool
  deriving DecidableEq, Repr

/-- A bus as it stands at its boundary: its block, its number when a sample was limited, the waits that ended in a ramp. -/
structure MixRow where
  addr  : Nat
  data  : List Byte
  sat   : Option Nat
  timed : List Nat
  deriving DecidableEq, Repr

/-- A mix task being computed: the state bytes, the crosspoints and buses seen, the rows, and the cause of an error. -/
structure MixRun where
  st   : List Byte
  xps  : List XpOut
  used : List Nat
  rows : List MixRow
  err  : Option Nat
  nbus : Nat
  nxp  : Nat
  deriving DecidableEq, Repr

/-- Whether a crosspoint has been taken. -/
def MixRun.has (m : MixRun) (i : Nat) : Bool := m.xps.any (fun o => o.index == i)

/-- The state bytes of the crosspoints from `first` on, of those that no earlier bus has taken (R231). -/
def MixRun.load (m : MixRun) (first : Nat) (is : List Nat) (st : List Byte) : MixRun :=
  { m with st := is.foldl (fun a i => if m.has i then a else patch a (16 * i) (slice st (16 * (i - first)) 16)) m.st }

/-- The output word of a bus at a sample, and whether sat() limited it (R219, R220). -/
def busSample (os : List XpOut) (scale : Int) (j : Nat) : Word × Bool :=
  let sum := os.foldl (fun a o => if o.on then a + o.words.getD j 0 * o.gains.getD j 0 else a) 0
  let v := Int.fdiv (sum * scale) (2 ^ 60 : Nat)
  (wordOfInt (satInt 32 v), decide (satInt 32 v ≠ v))

/-- The scale of sample j (R224). -/
def scaleAt (old new : Int) (j : Nat) : Int := old + truncDiv ((new - old) * ((j : Nat) + 1)) 8

/-- The samples of a source: sample -1 and the eight of folio k (R216, R219); the first folio has 0 before it. -/
def State.mixSource (s : State) (x : Xp) (k : Nat) : Option (Int × List Int) × State :=
  let r := s.unitRead mixCode ((x.base + k % 4 * x.stride) % 2 ^ 32) 32
  match r.1 with
  | none => (none, r.2)
  | some bs =>
    let ws := (wordsOf 8 bs).map (·.toInt)
    if k = s.seq.first then (some (0, ws), r.2)
    else
      let q := r.2.unitRead mixCode ((x.base + (k + 3) % 4 * x.stride + 28) % 2 ^ 32) 4
      match q.1 with
      | none => (none, q.2)
      | some b => (some ((wordOf b).toInt, ws), q.2)

/-- A read of the program or the state of a task. -/
def State.mixRead (s : State) (addr n : Nat) : Option (List Byte) × State :=
  if n = 0 then (some [], s) else s.unitRead mixCode (addr % 2 ^ 32) n

/-- A crosspoint of the task, taken once however many buses name it; one with EN = 0 keeps its run state (R229). -/
def State.mixXp (s : State) (j : MixJob) (x : Xp) (i idlePos : Nat) (m : MixRun) : MixRun × State :=
  if m.has i then (m, s)
  else if !x.on then ({ m with xps := m.xps ++ [⟨i, false, false, [], [], false⟩] }, s)
  else
    let r := s.mixSource x j.folio
    match r.1 with
    | none => ({ m with err := some 1 }, r.2)
    | some (before, ws) =>
      let st := ((XpState.of (slice m.st (16 * i) 16)).enter x).target x
      let o := st.run x before ws idlePos
      let out : XpOut := ⟨i, true, x.count && st.counts, o.1, ws, o.2.2⟩
      ({ m with xps := m.xps ++ [out], st := patch m.st (16 * i) o.2.1.bytes }, r.2)

/-- The crosspoints of a bus, in order, until an error; `recs` holds the records from crosspoint `first` on. -/
def State.mixXps (s : State) (j : MixJob) (recs : List Byte) (first idlePos : Nat) : List Nat → MixRun → MixRun × State
  | [], m => (m, s)
  | i :: is, m =>
    let r := s.mixXp j (Xp.of (slice recs (16 * (i - first)) 16)) i idlePos m
    if r.1.err.isSome then r else r.2.mixXps j recs first idlePos is r.1

/-- Whether a bus record itself breaks R217. -/
def Bus.bad (b : Bus) (m : MixRun) : Bool :=
  decide (256 < b.n) || decide (m.nxp < b.first + b.n) || m.used.contains b.bus

/-- Whether a crosspoint of a bus has MODE 0b11 or the phase code 0b11 (R217, R231). -/
def xpsBad (first : Nat) (is : List Nat) (recs : List Byte) (m : MixRun) : Bool :=
  is.any (fun i => (Xp.of (slice recs (16 * (i - first)) 16)).mode == 3) ||
    is.any (fun i => (XpState.of (slice m.st (16 * i) 16)).phase == 3)

/-- One row reaches its boundary: its block is written, its counts follow (R221, R227, R230). Answers whether the write was
accepted. -/
def State.mixRow (s : State) (j : MixJob) (r : MixRow) : Bool × State :=
  let w := s.unitWrite mixCode r.addr r.data
  let k := j.folio
  let s1 := match r.sat with
    | none => w.2
    | some b => (w.2.countHold Reg.MIX_SAT_COUNT 1).raiseOnce (limitKey 224 (k % 4)) k 224 b
  let s2 := match r.timed with
    | [] => s1
    | i :: _ => (s1.countHold Reg.MIX_ZC_COUNT r.timed.length).raiseOnce (limitKey 225 (k % 4)) k 225
        (j.phrase + i * 2 ^ 12)
  (w.1, s2)

/-- The row of a bus whose crosspoints have been taken (R219-R224); `before` are the crosspoints that earlier buses took. -/
def MixRun.row (m : MixRun) (j : MixJob) (b : Bus) (is before : List Nat) (old : Int) : MixRow × Nat × Nat :=
  let os := is.filterMap (fun i => m.xps.find? (fun o => o.index == i))
  let n := (os.filter (·.counts)).length
  let new := targetScale b.law n b.fix
  let ws := (List.range 8).map (fun q => busSample os (scaleAt old new q) q)
  (⟨(j.io + b.off) % 2 ^ 32, ws.flatMap (fun w => wordBytes w.1), if ws.any (·.2) then some b.bus else none,
    ((os.filter (·.timed)).map (·.index)).filter (fun i => !before.contains i)⟩, new, n)

/-- One bus record of a task (R219-R224, R678): it, its crosspoint records and their run state are checked when MIX reaches it,
then its sources are read and its block is written. -/
def State.mixBus (s : State) (j : MixJob) (xo idlePos i : Nat) (m : MixRun) : MixRun × State :=
  let r := s.mixRead (j.param + 16 + 16 * i) 16
  let b := Bus.of (r.1.getD [])
  if r.1.isNone then ({ m with err := some 1 }, r.2)
  else if b.bad m then ({ m with err := some 0 }, r.2)
  else
    let is := (List.range b.n).map (· + b.first)
    let x := r.2.mixRead (j.param + xo + 16 * b.first) (16 * b.n)
    let t := x.2.mixRead (j.stateIn + 16 * b.first) (16 * b.n)
    let o := t.2.mixRead (j.stateIn + 16 * (m.nxp + i)) 16
    match x.1, t.1, o.1 with
    | some xs, some st, some old =>
      let m1 := { m.load b.first is st with used := b.bus :: m.used }
      if xpsBad b.first is xs m1 then ({ m with err := some 0 }, o.2)
      else
        let q := o.2.mixXps j xs b.first idlePos is m1
        if q.1.err.isSome then q
        else
          let w := q.1.row j b is (m.xps.map (·.index)) (wordOf old).toNat
          let p := q.2.mixRow j w.1
          let st' := patch q.1.st (16 * (m.nxp + i)) (leBytes 4 w.2.1 ++ leBytes 4 (w.2.2 % 2 ^ 9) ++ leBytes 8 0)
          ({ q.1 with rows := q.1.rows ++ [w.1], st := st', err := if p.1 then none else some 1 }, p.2)
    | _, _, _ => ({ m with err := some 1 }, o.2)

/-- The bus records of a task, in order, until an error. -/
def State.mixBuses (s : State) (j : MixJob) (xo idlePos : Nat) : List Nat → MixRun → MixRun × State
  | [], m => (m, s)
  | i :: is, m =>
    let r := s.mixBus j xo idlePos i m
    if r.1.err.isSome then r else r.2.mixBuses j xo idlePos is r.1

/-- A run that ends before its first bus record. -/
def mixFailed (cause : Nat) : MixRun := ⟨[], [], [], [], some cause, 0, 0⟩

/-- The run state of the crosspoints that no bus names goes from STATE_IN to STATE_OUT as it is. -/
def State.mixRest (s : State) (j : MixJob) : List Nat → MixRun → MixRun × State
  | [], m => (m, s)
  | i :: is, m =>
    if m.has i then s.mixRest j is m
    else
      let r := s.mixRead (j.stateIn + 16 * i) 16
      match r.1 with
      | none => ({ m with err := some 1 }, r.2)
      | some bs => r.2.mixRest j is { m with st := patch m.st (16 * i) bs }

/-- The first `limit` bus records of a task, run from its header on (R214-R231, R678). -/
def State.mixRun (s : State) (j : MixJob) (limit : Nat) : MixRun × State :=
  let h := (s.takeFree.2).mixRead j.param 16
  match h.1 with
  | none => (mixFailed 1, h.2)
  | some hb =>
    let nbus := (wordOf hb).toNat % 2 ^ 11
    let nxp := (wordOf hb).toNat / 2 ^ 16
    if nbus = 0 ∨ 1024 < nbus then (mixFailed 0, h.2)
    else h.2.mixBuses j (wordOf (hb.drop 4)).toNat s.takeFree.1 (List.range (min limit nbus))
      ⟨List.replicate (16 * (nxp + nbus)) 0, [], [], [], none, nbus, nxp⟩

/-- A whole task: every bus record, then the run state that no bus names. -/
def State.mixWhole (s : State) (j : MixJob) : MixRun × State :=
  let r := s.mixRun j 1024
  if r.1.err.isSome then r else r.2.mixRest j (List.range r.1.nxp) r.1

/-! ### Tasks (R212, R213, R232, R678) -/

/-- MIX is idle again. -/
def State.mixIdle (s : State) : State :=
  { s with mix := { s.mix with running := none, aborting := false } }.setBit Reg.MIX_STATUS Fld.MIX_STATUS_BUSY false

/-- A fault completion of a mix task (R217, R678). -/
def State.mixFault (s : State) (j : MixJob) (cause : Nat) : State :=
  let s1 := (s.takeFree.2).count64 Reg.MIX_BUSY_CYCLES s.takeFree.1
  (s1.mixIdle.raiseN 226 (j.phrase + cause * 2 ^ 12)).failTask j.phrase j.folio .mix

/-- MIX_TASK_START (R212): MIX takes the next task. What it checks and writes falls at the end of the task or at its abort
(R678). -/
def State.mixStart (s : State) : State :=
  match s.mix.running, s.mix.queue with
  | none, j :: q =>
    { s with mix := { s.mix with queue := q, running := some j, aborting := false } }.setRegN Reg.MIX_STATUS
      (1 + j.phrase * 2 ^ 4 + j.folio % 4 * 2 ^ 16)
  | _, _ => s

/-- The digest of the task's writes (R232). -/
def mixDigest (j : MixJob) (m : MixRun) : BitVec 64 :=
  let c := m.rows.foldl (fun c r => crc64 c (leBytes 4 r.addr ++ r.data)) 0xFFFFFFFFFFFFFFFF
  ~~~crc64 c (leBytes 4 j.stateOut ++ m.st)

/-- MIX_TASK_COMPLETE (R212, R232, R678): the task has come to its end, or to the error in it. -/
def State.mixDone (s : State) : State :=
  match s.mix.running with
  | none => s
  | some j =>
    if s.mix.aborting then s
    else
      let r := s.mixWhole j
      match r.1.err with
      | some cause => r.2.mixFault j cause
      | none =>
        let o := r.2.unitWrite mixCode j.stateOut r.1.st
        if o.1 then
          let s1 := (o.2.count64 Reg.MIX_BUSY_CYCLES (64 + 4 * r.1.nbus + (r.1.nxp + 1) / 2)).mixIdle
          s1.completeTask j.phrase j.folio .mix (mixDigest j r.1)
        else o.2.mixFault j 1

/-- A queued task is dropped and acknowledged at once. -/
def State.mixDropQueued (s : State) (p slot : Nat) : State :=
  match s.mix.queue.find? (fun j => j.phrase == p && j.folio % 4 == slot) with
  | none => s
  | some j => { s with mix := { s.mix with queue := s.mix.queue.erase j } }.failTask j.phrase j.folio .mix

/-- A running task stops at its next bus record boundary (R213, R678): at which one, and whether an error in the records up to
it has been found by then (in the same cycle at the latest), is not stated: a free value (log entry 1). -/
def State.mixStop (s : State) (j : MixJob) : State :=
  let v := s.takeFree.1
  let r := (s.takeFree.2).mixRun j (v / 2 % 1025)
  match r.1.err, v % 2 with
  | some cause, 0 => r.2.mixFault j cause
  | _, _ => (((r.2.takeFree.2).count64 Reg.MIX_BUSY_CYCLES r.2.takeFree.1).mixIdle).failTask j.phrase j.folio .mix

/-- MIX_ABORT (R213). An abort that SEQ has not asked for is acknowledged to it like one of an engine (R183). -/
def State.mixAbort (s : State) (p slot : Nat) : State :=
  match s.mix.running with
  | some j => if j.phrase == p && j.folio % 4 == slot then s.mixStop j else s.mixDropQueued p slot
  | none => s.mixDropQueued p slot

/-! ### Routing (R233-R240) -/

/-- How many sinks there are (R233). -/
def sinkCount : Nat := 16464

/-- The routing of folio k (R235). -/
def State.routeOf (s : State) (k : Nat) : Route :=
  let now : Route := ⟨0, s.bit Reg.MIX_RCTRL Fld.MIX_RCTRL_BANK, s.reg (Reg.MIX_RTAB 0), s.reg (Reg.MIX_RTAB 1), s.mix.rdly⟩
  match s.mix.routes with
  | [] => now
  | r :: rs => rs.foldl (fun a e => if e.first ≤ k then e else a) r

/-- The base of the table of a routing. -/
def Route.base (r : Route) : Nat := (if r.bankB then r.baseB else r.baseA).toNat

/-- Whether the whole table lies in the vat window (R237). -/
def Route.tableOk (r : Route) : Bool := inVat r.base (16 * sinkCount)

/-- The routing in force becomes that of every folio from g on; the folios before it keep theirs (R235). -/
def State.addRoute (s : State) (g : Nat) (r : Route) : State :=
  let old := s.mix.routes.filter (fun e => decide (e.first < g))
  { s with mix := { s.mix with routes := old ++ [{ r with first := g }] } }

/-- A word of the entry of a sink. -/
def State.sinkWord (s : State) (r : Route) (sink w : Nat) : Nat := (s.word (r.base + 16 * sink + 4 * w)).toNat

/-- RDLY of a sink: computed where EQG is not 0 (R237, R239). -/
def State.sinkDelay (s : State) (r : Route) (sink : Nat) : Nat :=
  if s.sinkWord r sink 3 % 2 ^ 12 = 0 then s.sinkWord r sink 1 / 2 ^ 24 % 16
  else SMap.find 0 r.rdly sink - 1

/-- The words that a sink with delay d reads in folio k (R236): those of slot k mod 4, then those of the slot before it; none of
the latter before the first folio. -/
def State.sinkReads (s : State) (k base stride d : Nat) : List (Nat × Nat) :=
  [(base + k % 4 * stride, 4 * (8 - d)),
    (base + (k + 3) % 4 * stride + 4 * (8 - d), if k ≤ s.seq.first then 0 else 4 * d)].filter (fun p => p.2 != 0)

/-- Sample j of a sink (R236). What a block that leaves the vat window holds there is not stated: `v`, free (log entry 103). -/
def State.sinkSample (s : State) (k base stride d v j : Nat) : Word :=
  let a := if d ≤ j then base + k % 4 * stride + 4 * (j - d) else base + (k + 3) % 4 * stride + 4 * (8 + j - d)
  if j < d ∧ k ≤ s.seq.first then 0
  else if inVat a 4 then s.word a else BitVec.ofNat 32 (v / 2 ^ (32 * j))

/-- The eight samples of a sink in folio k, and whether R237 silences it with MIX_ROUTE_ERR (R234, R236, R237). -/
def State.sinkSamples (s : State) (k sink : Nat) : (List Word × Bool) × State :=
  let r := s.routeOf k
  let zeros := List.replicate 8 (0 : Word)
  let e := r.base + 16 * sink
  let base := s.sinkWord r sink 0
  let stride := s.sinkWord r sink 1 % 2 ^ 24
  let d := s.sinkDelay r sink
  let s1 := s.vatLook mixCode e 16
  if !r.tableOk then ((zeros, true), s)
  else if s.eccBad e 16 || base = 0 then ((zeros, false), s1)
  else if !inVat base 1 || decide (8 < s.sinkWord r sink 1 / 2 ^ 24 % 16) then ((zeros, true), s1)
  else
    let reads := s.sinkReads k base stride d
    let s2 := reads.foldl (fun t p => t.vatLook mixCode p.1 p.2) s1
    if reads.any (fun p => s.eccBad p.1 p.2) then ((zeros, false), s2)
    else (((List.range 8).map (s.sinkSample k base stride d s2.takeFree.1), false), s2.takeFree.2)

/-- A sink of SINK_READ (R236, R237): a sink that is silenced is reported, the first one of the folio. -/
def State.sinkRead (s : State) (k sink : Nat) : List Word × State :=
  let r := s.sinkSamples k sink
  if r.1.2 then
    (r.1.1, r.2.raiseOnce (limitKey 227 (k % 4)) k 227 (if (s.routeOf k).tableOk then sink else 2 ^ 15))
  else (r.1.1, r.2)

/-- The serial and analogue sinks that take their samples of folio k: the slots of the ports that send, a shared port whatever
its TX_EN holds, and every analogue output (R233, R236, R498). -/
def State.localSinks (s : State) : List Nat :=
  ((List.range 32).filter (fun p =>
    s.bit (Reg.SAP_CTRL p) Fld.SAP_CTRL_EN && (s.bit (Reg.SAP_CTRL p) Fld.SAP_CTRL_TX_EN || s.shared p))).flatMap
    (fun p => [16384 + 2 * p, 16385 + 2 * p]) ++ (List.range 14).map (· + 16448)

/-- SINK_READ of the serial and analogue outputs (R236). -/
def State.readSinks (s : State) (k : Nat) : State :=
  s.localSinks.foldl (fun s sink =>
    let r := s.sinkRead k sink
    let m := (List.range 8).foldl (fun m j => SMap.set 0 m (sink * 8 + j) (r.1.getD j 0)) r.2.mix.sinks
    { r.2 with mix := { r.2.mix with sinks := m } }) s

/-- IN_FORCE shows the bank of the release folio (R253), and the routings that no folio needs any more are dropped. -/
def State.syncRoute (s : State) (k : Nat) : State :=
  let r := s.routeOf k
  let later := s.mix.routes.filter (fun e => decide (k < e.first))
  { s with mix := { s.mix with routes := if later.isEmpty then [] else { r with first := 0 } :: later } }.setBit
    Reg.MIX_RCTRL Fld.MIX_RCTRL_IN_FORCE r.bankB

/-- Whether a sink is a serial slot that an SRC OUT channel serves (R238, R257). -/
def State.viaSrc (s : State) (sink : Nat) : Bool :=
  decide (16384 ≤ sink) && decide (sink < 16448) &&
    (List.range 64).any (fun n =>
      let a := Reg.SRC_CH_CFG n
      s.bit a Fld.SRC_CH_CFG_EN && s.bit a Fld.SRC_CH_CFG_DIR &&
        s.fld a Fld.SRC_CH_CFG_PORT * 2 + s.fld a Fld.SRC_CH_CFG_SIDE == sink - 16384)

/-- The conversion delay D in node samples (R242). -/
def srcDelay (rate : Nat) : Nat := 32 * 2 ^ (rate / 2)

/-- D_out of a sink (R238). -/
def State.outDelay (s : State) (sink : Nat) : Nat := if s.viaSrc sink then srcDelay s.rate else 0

/-- RDLY of a sink that EQG gives, under the values in force: T - (L + PH + D_out) (R239). -/
def State.equalDelay (s : State) (r : Route) (sink : Nat) : Int :=
  let g := s.sinkWord r sink 3 % 2 ^ 12
  let t : Nat := (s.word (s.regN Reg.MIX_EQT + 4 * g)).toNat % 2 ^ 21
  let path : Nat := s.latency + s.sinkWord r sink 2 % 2 ^ 20 + s.outDelay sink
  (t : Int) - (path : Int)

/-- The sinks of a routing whose EQG is not 0. -/
def State.equalSinks (s : State) (r : Route) : List Nat :=
  if r.tableOk then (List.range sinkCount).filter (fun k => s.sinkWord r k 3 % 2 ^ 12 != 0) else []

/-- The computed RDLY of a routing under the values in force, as RDLY + 1 by sink (R239). -/
def State.delayMap (s : State) (r : Route) : SMap Nat :=
  (s.equalSinks r).foldl (fun m k => SMap.set 0 m k ((s.equalDelay r k).toNat + 1)) []

/-- MIX_LAT for a sink and a routing (R238, R240, R254). -/
def State.latWord (s : State) (r : Route) (sink : Nat) : Word :=
  if r.tableOk && decide (sink < sinkCount) then
    let d := s.sinkDelay r sink
    let total := s.latency + s.sinkWord r sink 2 % 2 ^ 20 + d + s.outDelay sink
    BitVec.ofNat 32 (total % 2 ^ 21 + d % 16 * 2 ^ 21 + bitOf (s.viaSrc sink) * 2 ^ 25 +
      bitOf (s.sinkWord r sink 3 % 2 ^ 12 != 0) * 2 ^ 26)
  else 0

/-! ### The commands -/

/-- The command MIX_TASK_START. -/
def execMixTaskStart (s : State) : Host.Outcome State Fault Refusal := .next s.mixStart

/-- The command MIX_TASK_COMPLETE. -/
def execMixTaskComplete (s : State) : Host.Outcome State Fault Refusal := .next s.mixDone

/-- The command MIX_ABORT. -/
def execMixAbort (phrase : Fin 4096) (slot : Fin 4) (s : State) : Host.Outcome State Fault Refusal :=
  .next (s.mixAbort phrase slot)

end Sys2Proof.Machine
end

