-- ==== Sys2Proof/Machine/Src.lean ====
section
/-! DEFINITION. The sample-rate converters: channel states, track records, and the samples they compute (R241-R249, R257,
R258). -/

namespace Sys2Proof.Machine

/-- A channel. -/
def State.srcCh (s : State) (n : Nat) : SrcCh := SMap.find {} s.src n

/-- Write a channel. -/
def State.setSrcCh (s : State) (n : Nat) (c : SrcCh) : State := { s with src := SMap.set {} s.src n c }

/-- The state of a channel (R258): 0 OFF, 1 ACQUIRE, 2 LOCKED, 3 LOST. -/
def State.srcState (s : State) (n : Nat) : Nat := s.fld (Reg.SRC_CH_STATE n) Fld.SRC_CH_STATE_STATE

/-- Write the state of a channel; SRC_LOCKED shows the channels in LOCKED (R256). -/
def State.setSrcState (s : State) (n st : Nat) : State :=
  let s1 := s.setFld (Reg.SRC_CH_STATE n) Fld.SRC_CH_STATE_STATE st
  let m := s1.reg64 Reg.SRC_LOCKED
  s1.setReg64 Reg.SRC_LOCKED (m - m / 2 ^ n % 2 * 2 ^ n + bitOf (st == 2) * 2 ^ n)

/-- TC; values outside 2-8 are taken as 2 or 8 (R256). -/
def State.srcTc (s : State) : Nat := max 2 (min 8 (s.fld Reg.SRC_CTRL Fld.SRC_CTRL_TC))

/-- Whether a channel converts towards the port. -/
def SrcCh.out (c : SrcCh) : Bool := Fld.SRC_CH_CFG_DIR.get c.cfg == 1

/-- The serial port of a channel. -/
def SrcCh.port (c : SrcCh) : Nat := Fld.SRC_CH_CFG_PORT.get c.cfg

/-- The slot of a channel: 0 left, 1 right. -/
def SrcCh.side (c : SrcCh) : Nat := Fld.SRC_CH_CFG_SIDE.get c.cfg

/-- A channel enters ACQUIRE from OFF or LOST: its track starts afresh (R245). -/
def State.srcAcquire (s : State) (n : Nat) : State :=
  let c := s.srcCh n
  ((s.setSrcCh n { c with blocks := [], tracks := [], samples := [], run := 0 }).setSrcState n 1).setFld (Reg.SRC_CH_STATE n)
    Fld.SRC_CH_STATE_LOCK_RUN 0

/-- SRC_CFG_WRITE (R247, R257): while EN is 1 a write changes only EN. -/
def State.srcCfg (s : State) (n : Nat) (data : Word) : State :=
  let a := Reg.SRC_CH_CFG n
  let on := Fld.SRC_CH_CFG_EN.get data == 1
  if s.bit a Fld.SRC_CH_CFG_EN then
    if on then s
    else
      let c := s.srcCh n
      ((s.setBit a Fld.SRC_CH_CFG_EN false).setSrcCh n { c with upAt := none, downAt := none }).setSrcState n 0
  else
    let s1 := s.writeRw a data
    if on then (s1.setSrcCh n { cfg := s1.reg a }).srcAcquire n else s1

/-- The folio whose output is the next to be written. -/
def State.srcNextFolio (s : State) (c : SrcCh) : Nat := match c.wrote with | some k => k + 1 | none => s.folio

/-- The port clock is lost (R247, R505). -/
def State.srcLost (s : State) (n : Nat) : State :=
  let st := s.srcState n
  if st = 1 ∨ st = 2 then
    let c := s.srcCh n
    let s1 := if st = 2 then s.setSrcCh n { c with downAt := some (s.srcNextFolio c) } else s
    (s1.setSrcState n 3).raiseN 234 n
  else s

/-- The channels that name a port. -/
def State.srcOfPort (s : State) (p : Nat) : List Nat :=
  (List.range 64).filter (fun n => s.srcState n != 0 && (s.srcCh n).port == p)

/-- The blocks that a record can still need: those of the last 256 folios and one before them. -/
def keepBlocks (span : Nat) (bs : List (Nat × Nat)) : List (Nat × Nat) :=
  match bs.getLast? with
  | none => bs
  | some b =>
    let old := bs.filter (fun x => decide (x.2 + span ≤ b.2))
    old.drop (old.length - 1) ++ bs.filter (fun x => !decide (x.2 + span ≤ b.2))

/-- The samples whose index lies near the newest one. -/
def keepSamples (top : Nat) (m : SMap Word) : SMap Word := m.filter (fun e => decide (top < e.1 + 2048))

/-- A port block reaches a channel (R245, R247, R503): in LOST it begins a new track with it. -/
def State.srcBlock (s : State) (n first pt : Nat) (ws : List Word) : State :=
  let s1 := if s.srcState n = 3 then s.srcAcquire n else s
  let c := s1.srcCh n
  let span := edgePt s1.hz (8 * 256)
  let bs := keepBlocks span (c.blocks ++ [(first, pt / nsUnit * nsUnit)])
  let m := if c.out then c.samples
    else keepSamples (first + 8) ((List.range 8).foldl (fun m j => SMap.set 0 m (first + j) (ws.getD j 0)) c.samples)
  s1.setSrcCh n { c with blocks := bs, samples := m }

/-! ### Track records (R244, R245) -/

/-- ρ between two blocks in U8.40, floored: port samples per node sample, or the reverse for an OUT channel. -/
def rhoOf (hz : Nat) (out : Bool) (a b : Nat × Nat) : Nat :=
  let ports := b.1 - a.1
  let nodes := (b.2 - a.2) * hz
  if out then nodes * 2 ^ 40 / (secUnit * ports) else ports * secUnit * 2 ^ 40 / nodes

/-- The block from which ρ is measured, and whether the span of R245 is reached: the newest block at least 2^TC folios
older, else the oldest one. -/
def oldBlock (span : Nat) (bs : List (Nat × Nat)) (b : Nat × Nat) : Option ((Nat × Nat) × Bool) :=
  match (bs.filter (fun x => decide (x.2 + span ≤ b.2))).getLast? with
  | some x => some (x, true)
  | none => bs.head?.map (fun x => (x, false))

/-- The floor of d * 2^-k for the filter of R244. -/
def shiftFloor (d : Int) (k : Nat) : Int := Int.fdiv d (2 ^ k : Nat)

/-- POS of grid sample 8m, in 2^-24 port samples (R244). -/
def posIn (hz rate m rho : Nat) (b : Nat × Nat) : Int :=
  let t : Int := ((edgePt hz (8 * m) : Int) - b.2) * hz - (srcDelay rate * secUnit : Nat)
  (b.1 * 2 ^ 24 : Nat) + Int.fdiv (t * rho) (secUnit * 2 ^ 16 : Nat)

/-- POS of the first sample of the newest block on the grid, in 2^-24 node samples, for an OUT channel (R243, R244). -/
def posOut (hz rate : Nat) (b : Nat × Nat) : Int :=
  Int.fdiv (((b.2 * hz : Nat) : Int) * 2 ^ 24) secUnit - (srcDelay rate * 2 ^ 24 : Nat)

/-- The record of folio m, and ρ_meas (R244, R245): none before two blocks have come. -/
def SrcCh.record (c : SrcCh) (hz rate tc m : Nat) : Option (Track × Nat) :=
  match c.blocks.getLast? with
  | none => none
  | some b =>
    match oldBlock (edgePt hz (8 * 2 ^ tc)) c.blocks b with
    | none => none
    | some (a, full) =>
      if a.1 < b.1 ∧ a.2 < b.2 then
        let meas := rhoOf hz c.out a b
        let rho := match full, c.tracks.getLast? with
          | true, some t => ((t.rho : Int) + shiftFloor ((meas : Int) - t.rho) tc).toNat
          | _, _ => meas
        let pos := if c.out then posOut hz rate b else posIn hz rate m rho b
        some (⟨m, rho, pos, b.1⟩, meas)
      else none

/-- DRIFT (R258): POS minus the position of the newest block, in 2^-8 samples of the port. For an OUT channel the roles are
exchanged (R244; log entry 104): the port sample at E(8m) lies at 8m - D on the grid, and the newest grid block complete at
E(8m - 8) begins at 8m - 16. -/
def driftOf (rate : Nat) (c : SrcCh) (t : Track) : Int :=
  satInt 16 (if c.out then Int.fdiv ((16 - (srcDelay rate : Int)) * 2 ^ 48) (max 1 t.rho : Nat)
    else shiftFloor (t.pos - (t.index * 2 ^ 24 : Nat)) 16)

/-- A channel enters LOCKED for folio m (R247). -/
def State.srcLock (s : State) (n m : Nat) : State :=
  let c := s.srcCh n
  ((s.setSrcCh n { c with upAt := some m, downAt := none }).setSrcState n 2).raiseN 232 n

/-- A channel leaves LOCKED for ACQUIRE at folio m: the 16 folios of the next lock count from here (R247; log entry 127). -/
def State.srcUnlock (s : State) (n m : Nat) : State :=
  let c := s.srcCh n
  ((s.setSrcCh n { c with downAt := some m, run := 0 }).setSrcState n 1).raiseN 233 n

/-- SRC_TRACK_RECORD of one channel for folio m, with SRC_LOCK and SRC_UNLOCK (R244, R247, R258): a drift counts ahead of the
newest block and behind it (log entry 104). -/
def State.srcRecord (s : State) (n m : Nat) : State :=
  let c := s.srcCh n
  let st := s.srcState n
  if st = 1 ∨ st = 2 then
    match c.record s.hz s.rate s.srcTc m with
    | none => s
    | some (t, meas) =>
      let d := ((meas : Int) - t.rho).natAbs
      let a := Reg.SRC_CH_STATE n
      let near := decide (d * 50000 < t.rho)
      let run := if near then c.run + 1 else 0
      let shown := if near then min 255 (s.fld a Fld.SRC_CH_STATE_LOCK_RUN + 1) else 0
      let drift := driftOf s.rate c t
      let s1 := s.setSrcCh n { c with tracks := c.tracks.drop (c.tracks.length - 3) ++ [t], run := run }
      let s2 := (s1.setRegN (Reg.SRC_CH_RATIO n) (t.rho / 2 ^ 11)).setFld a Fld.SRC_CH_STATE_LOCK_RUN shown
      let s3 := s2.setFld a Fld.SRC_CH_STATE_DRIFT (lowInt 16 drift)
      if st = 1 then (if 16 ≤ run then s3.srcLock n m else s3)
      else if t.rho < d * 2000 ∨ 16 * 2 ^ 8 < drift.natAbs then s3.srcUnlock n m
      else s3
  else s

/-! ### Samples (R246, R247) -/

/-- β as U1.31 (R246). -/
def betaWord (rho : Nat) : Nat := if rho ≤ 2 ^ 40 then 2 ^ 31 else 2 ^ 71 / rho

/-- The coefficient at a distance d, in units of 2^-71 (R246). -/
def srcCoef (d : Int) : Int :=
  let u := (Int.fdiv d (2 ^ 43 : Nat) + (2 ^ 32 : Nat)).toNat
  let h0 := (Config.srcRom (u / 2 ^ 16)).toInt
  let h1 := (Config.srcRom (u / 2 ^ 16 + 1)).toInt
  h0 + Int.fdiv ((h1 - h0) * ((u % 2 ^ 16 : Nat) : Int)) (2 ^ 16 : Nat)

/-- The output at a position of 2^-40 samples (R246). -/
def srcSample (m : SMap Word) (p : Int) (rho : Nat) : Word :=
  let beta := betaWord rho
  let reach := 16 * 2 ^ 31 / beta + 1
  let base := Int.fdiv p (2 ^ 40 : Nat)
  let acc := (List.range (2 * reach + 2)).foldl (fun (acc : Int) k =>
    let i : Int := base - reach + k
    let d := (i * (2 ^ 40 : Nat) - p) * beta
    if 0 ≤ i ∧ d.natAbs < 16 * 2 ^ 71 then acc + (SMap.find 0 m i.toNat).toInt * srcCoef d * 2 else acc) 0
  wordOfInt (satInt 32 (Int.fdiv (Int.fdiv (acc * beta) (2 ^ 31 : Nat)) (2 ^ 32 : Nat)))

/-- A sample under the ramps of R247 at place j of its folio: the law of R228 with NR = 8. -/
def rampSample (up : Bool) (w : Word) (j : Nat) : Word :=
  wordOfInt (Int.fdiv (w.toInt * (if up then (j + 1 : Nat) else (7 - j : Nat))) 8)

/-- What a channel puts out at place j of folio k, from the sample its record gives (R245, R247): zeros outside LOCKED,
ramps in the first and the last folio; without a record the last sample ramps down. -/
def SrcCh.shape (c : SrcCh) (k j : Nat) (w : Option Word) : Word :=
  let up : Bool := match c.upAt with | some u => decide (u ≤ k) | none => false
  match c.downAt with
  | some d =>
    if d == k && up then rampSample false (w.getD c.lastOut) j
    else if decide (k < d) && up then (if c.upAt = some k then rampSample true (w.getD 0) j else w.getD 0)
    else 0
  | none => if up then (if c.upAt = some k then rampSample true (w.getD 0) j else w.getD 0) else 0

/-- The sample an IN channel puts out at place j of folio k. -/
def SrcCh.inSample (c : SrcCh) (k j : Nat) : Word :=
  c.shape k j ((c.tracks.find? (fun t => t.folio == k)).map (fun t => srcSample c.samples (t.pos * 2 ^ 16 + j * t.rho) t.rho))

/-- The sample an OUT channel sends in frame i, which starts in folio k at place j, by the record of folio k (R243, R244, R503). -/
def SrcCh.outSample (c : SrcCh) (k j i : Nat) : Word :=
  c.shape k j ((c.tracks.find? (fun t => t.folio == k)).map (fun t =>
    srcSample c.samples (t.pos * 2 ^ 16 + ((i : Int) - t.index) * t.rho) t.rho))

/-- The sink samples of a released folio reach the OUT channels, at their output glosses (R243). -/
def State.srcFeedOut (s : State) (k : Nat) : State :=
  (List.range 64).foldl (fun s n =>
    let c := s.srcCh n
    if s.srcState n != 0 && c.out then
      let sink := 16384 + 2 * c.port + c.side
      let first := 8 * k + s.latency
      s.setSrcCh n { c with samples := keepSamples (first + 8) ((List.range 8).foldl (fun m j =>
        SMap.set 0 m (first + j) (SMap.find 0 s.mix.sinks (sink * 8 + j))) c.samples) }
    else s) s

/-- An IN channel writes folio k (R241, R248). -/
def State.srcWrite (s : State) (n k : Nat) : State :=
  let c := s.srcCh n
  let ws := (List.range 8).map (fun j => c.inSample k j)
  (s.setSrcCh n { c with wrote := some k, lastOut := ws.getD 7 0 }).unitPut
    (s.regN (Reg.SRC_CH_BASE n) + 32 * (k % 4)) (ws.flatMap wordBytes)

/-- The enabled IN channels of a group. -/
def State.srcGroup (s : State) (g : Nat) : List Nat :=
  (List.range 64).filter (fun n =>
    s.srcState n != 0 && !(s.srcCh n).out && Fld.SRC_CH_CFG_GROUP.get (s.srcCh n).cfg == g)

/-- SRC_GROUP_FEED (R248). -/
def State.srcGroupFeed (s : State) (g k : Nat) : State :=
  let l := s.srcGroup g
  if l.isEmpty then s
  else (l.foldl (fun s n => s.srcWrite n k) s).feedSignal (s.fld (Reg.SRC_GFEED g) Fld.SRC_GFEED_FEED) k

/-- SRC_NOLOCK (R247). -/
def State.srcNolock (s : State) (n : Nat) : State := if s.srcState n = 1 then s.raiseN 235 n else s

/-! ### The commands -/

/-- The command SRC_CFG_WRITE. -/
def execSrcCfgWrite (n : Fin 64) (data : Word) (s : State) : Host.Outcome State Fault Refusal := .next (s.srcCfg n data)

/-- The command SRC_NOLOCK. -/
def execSrcNolock (n : Fin 64) (s : State) : Host.Outcome State Fault Refusal := .next (s.srcNolock n)

/-- The command SRC_GROUP_FEED. -/
def execSrcGroupFeed (g : Fin 8) (k : Nat) (s : State) : Host.Outcome State Fault Refusal :=
  .next (s.srcGroupFeed g k)

end Sys2Proof.Machine
end

