-- ==== Sys2Proof/Machine/Frames.lean ====
section
/-! DEFINITION. Frames, frame descriptors, egress ports, and the entries of the stream table and of the MAC table (R302,
R363, R364, R379, R385, R387, R388, R399). -/

namespace Sys2Proof.Machine

/-! ### CRCs -/

/-- A reflected CRC over the bits of one byte. -/
def crc32Bits (poly : BitVec 32) : Nat → BitVec 32 → BitVec 32
  | 0, c => c
  | n + 1, c => crc32Bits poly n (if c.getLsbD 0 then (c >>> 1) ^^^ poly else c >>> 1)

/-- A reflected CRC register over bytes, preset to all ones, before any final complement. -/
def crc32Reg (poly : BitVec 32) (bs : List Byte) : BitVec 32 :=
  bs.foldl (fun c b => crc32Bits poly 8 (c ^^^ BitVec.ofNat 32 b.toNat)) 0xFFFFFFFF#32

/-- The CRC-32C of R262; 0x82F63B78 is the polynomial 0x1EDC6F41 with its bits reversed. -/
def crc32c (bs : List Byte) : BitVec 32 := ~~~crc32Reg 0x82F63B78#32 bs

/-- The hash index of a group address (R326). -/
def hashIndex (addr : List Byte) : Nat := (crc32Reg 0xEDB88320#32 addr).toNat % 2 ^ 9

/-! ### Ports and lanes -/

/-- WIDTHm of FAB_PORTMAP (R348). -/
def State.portWidth (s : State) (m : Nat) : Nat := s.regN Reg.FAB_PORTMAP / 2 ^ (2 * m) % 4

/-- The lanes of a width code (R348): 0, 1, 2 or 4. -/
def widthLanes (w : Nat) : Nat := if w = 3 then 4 else w

/-- The lanes of the port of MAC m (R302). -/
def State.portLanes (s : State) (m : Nat) : List Nat := (List.range (widthLanes (s.portWidth m))).map (fun i => m + i)

/-- The port that a lane belongs to (R302); felt lanes belong to none (R314). -/
def State.portOf (s : State) (l : Nat) : Option Nat :=
  (List.range 8).find? (fun m => (s.portLanes m).contains l && decide (l < 8))

/-- The SerDes PLL of a lane (R82). -/
def lanePll (l : Nat) : Nat := l / 4

/-- The rate class of a PLL (R82): Sollia fabric or not. -/
def State.pllFast (s : State) (p : Nat) : Bool :=
  match p with
  | 0 => s.bit Reg.SYNTH_SERDES_CTRL Fld.SYNTH_SERDES_CTRL_SPLL0_MODE
  | 1 => s.bit Reg.SYNTH_SERDES_CTRL Fld.SYNTH_SERDES_CTRL_SPLL1_MODE
  | _ => true

/-- Whether the port of MAC m is UP (R311, R353). -/
def State.portUp (s : State) (m : Nat) : Bool := s.bit (Reg.MAC_STATUS m) Fld.MAC_STATUS_LINK

/-- The MAC data rate of a port in units of 100/17 Gbit/s (R302): the two classes stand as 18 to 17. -/
def State.portRate (s : State) (m : Nat) : Nat :=
  widthLanes (s.portWidth m) * (if s.pllFast (lanePll m) then 18 else 17)

/-- The station address of a MAC (R351). -/
def State.macAddr (s : State) (m : Nat) : List Byte :=
  leBytes 4 (s.regN (Reg.MAC_ADDR_LO m)) ++ leBytes 2 (s.regN (Reg.MAC_ADDR_HI m))

/-! ### Table entries -/

/-- The indices of a table that hold at least one listed byte; every other entry is all zeros. -/
def listedIn (m : Memory) (lo size n : Nat) : List Nat :=
  ((m.filter (fun e => decide (lo ≤ e.1) && decide (e.1 < lo + size * n))).map (fun e => (e.1 - lo) / size)).eraseDups

/-- The address of a stream table entry (R394). -/
def streamAt (i : Nat) : Nat := 0x02080000 + 64 * i

/-- The address of a MAC table entry (R394). -/
def macAt (i : Nat) : Nat := 0x02100000 + 16 * i

/-- A stream table entry (R363). -/
structure StreamEntry where
  valid   : Bool
  tx      : Bool
  aaf     : Bool
  phase   : Nat
  repeats : Bool
  nch     : Nat
  keyLo   : Nat
  keyHi   : Nat
  w3      : Nat
  w4      : Nat
  w5      : Nat
  w6      : Nat
  ingress : Nat
  offset  : Nat
  deriving DecidableEq, Repr

/-- The fields of an entry image (R363). -/
def StreamEntry.of (bs : List Byte) : StreamEntry :=
  let w := fun i => (wordOf (bs.drop (4 * i))).toNat
  ⟨(w 0).testBit 0, (w 0).testBit 1, (w 0).testBit 2, w 0 / 2 ^ 3 % 8, (w 0).testBit 6, w 0 / 2 ^ 7 % 2 ^ 9, w 1, w 2, w 3,
    w 4, w 5, w 6, w 7 % 2 ^ 8, w 8⟩

/-- A stream table entry in force. -/
def State.entry (s : State) (i : Nat) : StreamEntry := StreamEntry.of (s.read (streamAt i) 64)

/-- RX_STRIDE (R363). -/
def StreamEntry.stride (e : StreamEntry) : Nat := e.w4 % 2 ^ 24

/-- WIN_NS (R363). -/
def StreamEntry.win (e : StreamEntry) : Nat := e.w5 % 2 ^ 20

/-- FEED (R363). -/
def StreamEntry.feed (e : StreamEntry) : Nat := e.w6 % 2 ^ 11

/-- The key of an entry as sent (R364). -/
def StreamEntry.key (e : StreamEntry) : List Byte := beBytes 4 e.keyHi ++ beBytes 4 e.keyLo

/-- The bucket of a key (R364). -/
def keyBucket (key : List Byte) : Nat := (crc32c key).toNat % 2 ^ 11

/-- The VALID receive entries, by rising index. -/
def State.rxEntries (s : State) : List Nat :=
  (listedIn s.mem 0x02080000 64 8192).filter (fun i => (s.entry i).valid && !(s.entry i).tx)

/-- A MAC table entry (R379). -/
structure MacEntry where
  addr   : List Byte
  vid    : Nat
  ports  : Nat
  loc    : Bool
  static : Bool
  valid  : Bool
  hit    : Bool
  deriving DecidableEq, Repr

/-- The fields of an entry image (R379). -/
def MacEntry.of (bs : List Byte) : MacEntry :=
  let w := fun i => (wordOf (bs.drop (4 * i))).toNat
  ⟨bs.take 6, w 1 / 2 ^ 16 % 2 ^ 12, w 2 % 2 ^ 8, (w 2).testBit 8, (w 2).testBit 9, (w 2).testBit 10, (w 2).testBit 11⟩

/-- The image of an entry (R379). -/
def MacEntry.bytes (e : MacEntry) : List Byte :=
  e.addr ++ leBytes 2 e.vid ++
    leBytes 4 (e.ports + bitOf e.loc * 2 ^ 8 + bitOf e.static * 2 ^ 9 + bitOf e.valid * 2 ^ 10 + bitOf e.hit * 2 ^ 11) ++
    leBytes 4 0

/-- A MAC table entry in force. -/
def State.macEntry (s : State) (i : Nat) : MacEntry := MacEntry.of (s.read (macAt i) 16)

/-- STREAM_MAC_COUNT as the table stands (R394). -/
def State.syncMacCount (s : State) : State :=
  let l := ((listedIn s.mem 0x02100000 16 16384).map s.macEntry).filter (fun e => e.valid)
  let st := (l.filter (fun e => e.static)).length
  s.setRegN Reg.STREAM_MAC_COUNT ((l.length - st) % 2 ^ 15 + st % 2 ^ 15 * 2 ^ 16)

/-- Write a MAC table entry. -/
def State.setMacEntry (s : State) (i : Nat) (e : MacEntry) : State := (s.write (macAt i) e.bytes).syncMacCount

/-- The bucket of an address and a VID (R379). -/
def macBucket (addr : List Byte) (vid : Nat) : Nat := (crc32c (addr ++ beBytes 2 vid)).toNat % 2 ^ 12

/-- The VALID entry of an address and a VID in its bucket. -/
def State.macFind (s : State) (addr : List Byte) (vid : Nat) : Option Nat :=
  ((List.range 4).map (fun w => 4 * macBucket addr vid + w)).find? (fun i =>
    let e := s.macEntry i
    e.valid && e.addr == addr && e.vid == vid)

/-- The epoch of a table (R279): the MAC table or the stream table. -/
def State.tableEpoch (s : State) (mac : Bool) : Nat :=
  s.fld Reg.CLAUSE_EPOCH (if mac then Fld.CLAUSE_EPOCH_MAC else Fld.CLAUSE_EPOCH_STREAM)

/-- A counter of an entry's block (R399). -/
def State.countEntry (s : State) (i w : Nat) : State := s.countHold (Reg.STREAM_ENTRY_COUNT i w) 1

/-- A stream event that is raised at most once per folio (R393). -/
def State.raiseStream (s : State) (src w3 : Nat) : State := s.raiseFolio (limitKey src 0) src w3

/-! ### Descriptors and egress ports -/

/-- Whether a frame descriptor is free (R388). -/
def State.descFree (s : State) : Bool := decide (s.stream.desc.length < 32768)

/-- A descriptor taken for a number of egress ports. -/
def State.takeDesc (s : State) (egresses : Nat) : Nat × State :=
  let d := s.stream.nextDesc
  (d, if egresses = 0 then s else { s with stream := { s.stream with
        nextDesc := d + 1, desc := SMap.set 0 s.stream.desc d egresses } })

/-- One egress has finished with a descriptor. -/
def State.dropDesc (s : State) (d : Nat) : State :=
  { s with stream := { s.stream with desc := SMap.set 0 s.stream.desc d (SMap.find 0 s.stream.desc d - 1) } }

/-- A frame has left an egress: its descriptor loses one holder. A PAUSE frame of the MAC itself holds none. -/
def State.endFrame (s : State) (f : QFrame) : State := if f.kind = .pause then s else s.dropDesc f.desc

/-- NODESC of an ingress MAC, or 8 for PACK (R388, R393). -/
def State.noDesc (s : State) (at_ : Nat) : State :=
  (s.countHold Reg.STREAM_NODESC 1).raiseMs (limitKey 136 0) 136 at_

/-- An egress port. -/
def State.egress (s : State) (p : Nat) : Egress := SMap.find {} s.stream.egress p

/-- Write an egress port. -/
def State.setEgress (s : State) (p : Nat) (e : Egress) : State :=
  { s with stream := { s.stream with egress := SMap.set {} s.stream.egress p e } }

/-- A frame joins its queue (R385). -/
def State.enqueue (s : State) (p : Nat) (f : QFrame) : State :=
  let e := s.egress p
  let g := { f with enqPt := s.now }
  if f.timed then s.setEgress p { e with timed := e.timed ++ [g] } else s.setEgress p { e with bulk := e.bulk ++ [g] }

/-- TX_DROP of the entry of an originated stream frame (R387, R388, R399). -/
def State.countDrop (s : State) (k : FrameKind) : State :=
  match k with
  | .folio i | .aaf i => s.countEntry i 4
  | _ => s

/-- A relay frame to an address from what follows its EtherType (R623-R625): untagged, in the BULK queue of a port; the source
address is stamped at departure. -/
def State.sendRelay (s : State) (p : Nat) (dest h : List Byte) : State :=
  if s.descFree then
    let d := s.takeDesc 1
    let ety := s.fld Reg.HOST_RELAY_CFG Fld.HOST_RELAY_CFG_ETYPE
    d.2.enqueue p ⟨dest ++ List.replicate 6 0 ++ beBytes 2 ety ++ h, false, 0, 0, 0, .relay, false, d.1, 0, 0, []⟩
  else s.noDesc 8

/-- The address of the relay master (R627, R640). -/
def State.relayMaster (s : State) : List Byte :=
  leBytes 4 (s.regN Reg.HOST_RELAY_MASTER_LO) ++ leBytes 2 (s.regN Reg.HOST_RELAY_MASTER_HI)

/-- A SUMMARY frame with a summary value (R624, R629). Through which of the ports that are UP it leaves is not stated: free
(log entry 1). While ETYPE is 0 relay frames are disabled. -/
def State.sendSummary (s : State) (v : Nat) : State :=
  let ports := (List.range 8).filter s.portUp
  if ports.isEmpty ∨ s.fld Reg.HOST_RELAY_CFG Fld.HOST_RELAY_CFG_ETYPE = 0 then s
  else
    let p := ports.getD (s.takeFree.1 % ports.length) 0
    (s.takeFree.2).sendRelay p s.relayMaster (beBytes 4 (2 ^ 28 + 5 * 2 ^ 24) ++ beBytes 4 0 ++ beBytes 4 (v % 2 ^ 12))

/-- The SUMMARY frames that are due join their queue (R629): they are formed before the next frame starts. -/
def State.flushSummaries (s : State) : State :=
  s.host.sumDue.foldl (fun s v => s.sendSummary v) { s with host := { s.host with sumDue := [] } }

/-- A queued frame is discarded. -/
def State.discardFrame (s : State) (f : QFrame) : State := (s.countDrop f.kind).dropDesc f.desc

/-- TX_STOMP of a port (R313, R322, R341). -/
def State.txStomp (s : State) (p : Nat) : State :=
  (s.count64 (Reg.MAC_COUNTER p 12) 1).raiseMs (limitKey 104 p) 104 p

/-- What a port that leaves UP does to its frames (R313, R387). -/
def State.egressDown (s : State) (p : Nat) : State :=
  let e := s.egress p
  let q := e.timed ++ e.bulk
  let s1 := match e.current with
    | some f => (if e.stomped then s else s.txStomp p).endFrame f
    | none => s
  let s2 := q.foldl (fun s f => (s.discardFrame f).countHold (Reg.STREAM_TX_DOWN p) 1) s1
  let s3 := if q.isEmpty then s2 else s2.raiseMs (limitKey 138 0) 138 p
  s3.setEgress p {}

/-! ### Frame bytes -/

/-- The EtherType at a place of a frame. -/
def etherAt (bs : List Byte) (i : Nat) : Nat := beNat (slice bs i 2)

/-- The place of the EtherType of a frame, directly after the source address or after one VLAN tag (R319). -/
def etherPos (bs : List Byte) : Nat := if etherAt bs 12 = 0x8100 then 16 else 12

/-- Whether a frame is a PTP event message (R319). -/
def ptpEvent (bs : List Byte) : Bool :=
  let i := etherPos bs
  etherAt bs i == 0x88F7 && decide ((bs.getD (i + 2) 0).toNat % 16 < 4)

/-- Whether a frame belongs in the TIMED queue (R385). -/
def State.isTimed (s : State) (bs : List Byte) : Bool :=
  let i := etherPos bs
  let t := etherAt bs i
  t == s.fld Reg.STREAM_ETYPE Fld.STREAM_ETYPE_FOLIO || (t == 0x22F0 && bs.getD (i + 2) 0 == 0x02) || t == 0x88F7 ||
    t == s.fld Reg.STREAM_ETYPE Fld.STREAM_ETYPE_REFEREE

/-- A frame padded to 64 bytes with its FCS (R331). -/
def padFrame (bs : List Byte) : List Byte := bs ++ List.replicate (60 - bs.length) 0

/-- The bytes that leave a MAC, tag included, FCS excluded (R330, R331). REDUN and the relay hand their frames over untagged
(R456, R625); a MAC that always inserts a tag inserts one there too (log entry 67). -/
def State.tagFrame (s : State) (p : Nat) (f : QFrame) : List Byte :=
  let mode := s.fld (Reg.MAC_CTRL p) Fld.MAC_CTRL_TX_TAG
  let tag := mode == 2 || ((mode == 0 || mode == 3) && f.tagged)
  padFrame (if tag then f.bytes.take 12 ++ beBytes 2 0x8100 ++ beBytes 2 (f.vid + f.dei * 2 ^ 12 + f.pcp * 2 ^ 13) ++
    f.bytes.drop 12 else f.bytes)

/-- A timestamp residual of the first lane of a port, in 2^-32 ns (R320, R347). -/
def State.tsAdj (s : State) (p : Nat) (f : Field) : Int := signed 16 (s.fld (Reg.FAB_TS_ADJ p) f) * (2 ^ 24 : Nat)

/-- Words 0-3 of a PT as a record: fraction, nanoseconds, seconds, and word 3 from the seconds [47:32] and other bits
(R63). -/
def ptBytes (t : Int) (w3 : Nat) : List Byte :=
  let n := (t % (ptWrap : Int)).toNat
  leBytes 4 n ++ leBytes 4 (ptNs n) ++ leBytes 4 (ptSec n) ++ leBytes 4 (ptSec n / 2 ^ 32 % 2 ^ 16 + w3)

end Sys2Proof.Machine
end

