-- ==== Sys2Proof/Machine/Fab.lean ====
section
/-! DEFINITION. Fabric and felt lanes, ports, SerDes PLLs, the pause timer and dormant mode (R301-R318, R334-R355, R471). -/

namespace Sys2Proof.Machine

/-! ### Lane states (R310, R345) -/

/-- The state of a lane: 0 OFF, 1 AN, 2 TRAIN, 3 ALIGN, 4 UP, 5 BACKOFF, 6 TEST, 7 WAKE. -/
def State.lane (s : State) (n : Nat) : Nat := s.fld (Reg.FAB_LANE_STATUS n) Fld.FAB_LANE_STATUS_STATE

/-- The felt state by the felt lanes in UP (R471, R491): 0 DOWN, 1 DEGRADED, 2 FULL. -/
def State.feltNow (s : State) : Nat :=
  let u0 := s.lane 8 == 4
  let u1 := s.lane 9 == 4
  if s.bit Reg.REDUN_CTRL Fld.REDUN_CTRL_FELT_LANES then (if u0 && u1 then 2 else if u0 || u1 then 1 else 0)
  else if u0 then 2 else 0

/-- The mask of the felt lanes in UP. -/
def State.feltUp (s : State) : Nat := bitOf (s.lane 8 == 4) + 2 * bitOf (s.lane 9 == 4)

/-- REDUN follows the felt lanes (R314, R471). -/
def State.syncFelt (s : State) : State :=
  let new := s.feltNow
  if s.fld Reg.REDUN_STATUS Fld.REDUN_STATUS_FELT = new then s
  else
    let s1 := s.setFld Reg.REDUN_STATUS Fld.REDUN_STATUS_FELT new
    if new = 0 then s1.raiseN 297 0 else s1.raiseN (297 - new) s.feltUp

/-- Write the state of a lane; SENDING shows a lane in WAKE (R349). A lane that is OFF has no signal and uses no
precoding. -/
def State.setLane (s : State) (n st : Nat) : State :=
  let a := Reg.FAB_LANE_STATUS n
  let s1 := s.setFld a Fld.FAB_LANE_STATUS_STATE st
  let s2 := if st = 0 then (s1.setBit a Fld.FAB_LANE_STATUS_SIGNAL false).setBit a Fld.FAB_LANE_STATUS_PRECODE false else s1
  (s2.setBit Reg.FAB_WAKE_CTRL Fld.FAB_WAKE_CTRL_SENDING ((List.range 10).any (fun l => s2.lane l == 7))).syncFelt

/-- EN of a lane. -/
def State.laneOn (s : State) (n : Nat) : Bool := s.bit (Reg.FAB_LANE_CTRL n) Fld.FAB_LANE_CTRL_EN

/-- Whether entry to AN or TRAIN means AN (R310): on the first lane of an IEEE port with AN_EN. -/
def State.laneAn (s : State) (n : Nat) : Bool :=
  s.portOf n == some n && !(s.pllFast (lanePll n)) && s.bit (Reg.FAB_LANE_CTRL n) Fld.FAB_LANE_CTRL_AN_EN

/-- LOOP of a lane. -/
def State.laneLoop (s : State) (n : Nat) : Nat := s.fld (Reg.FAB_LANE_CTRL n) Fld.FAB_LANE_CTRL_LOOP

/-- Entry to AN or TRAIN, at the rate class of the lane's PLL (R301, R310); to TEST while LOOP is not 0b00 (R318). -/
def State.laneTrain (s : State) (n : Nat) : State :=
  (s.setBit (Reg.FAB_LANE_STATUS n) Fld.FAB_LANE_STATUS_RATE (s.pllFast (lanePll n))).setLane n
    (if s.laneLoop n != 0 then 6 else if s.laneAn n then 1 else 2)

/-- Whether a lane stays powered down: a felt lane in solo operation (R18). -/
def State.laneDead (s : State) (n : Nat) : Bool := decide (8 ≤ n) && !s.pair

/-- LINK and FAB_PORT_STATUS of a port (R343, R353). -/
def State.setPortUp (s : State) (m : Nat) (up : Bool) : State :=
  (s.setBit (Reg.MAC_STATUS m) Fld.MAC_STATUS_LINK up).setReg Reg.FAB_PORT_STATUS (maskSet (s.reg Reg.FAB_PORT_STATUS) m up)

/-- A port leaves UP: PORT_DOWN, and its frames as R313 and R387 say. -/
def State.portDown (s : State) (m : Nat) : State := ((s.setPortUp m false).egressDown m).raiseN 100 m

/-- A lane that was in UP has left it with a cause: LANE_DOWN, and PORT_DOWN when it is the first of its port. -/
def State.laneLeft (s : State) (n cause : Nat) : State :=
  let s1 := (s.countHold (Reg.FAB_LINK_DOWNS n) 1).raiseN 97 (n + cause * 2 ^ 4)
  match s1.portOf n with
  | some m => if s1.portUp m then s1.portDown m else s1
  | none => s1

/-- A lane goes to a state that is not AN or TRAIN, with LANE_DOWN when it leaves UP, or always (R310). -/
def State.laneGo (s : State) (n st cause : Nat) (always : Bool) : State :=
  let s1 := s.setLane n st
  if s.lane n = 4 then s1.laneLeft n cause else if always then s1.raiseN 97 (n + cause * 2 ^ 4) else s1

/-- The other lanes of a lane's port. -/
def State.partners (s : State) (n : Nat) : List Nat :=
  match s.portOf n with
  | some m => (s.portLanes m).filter (· != n)
  | none => []

/-- A lane in UP trains again; the partner lanes in UP wait in ALIGN (R310, R311). -/
def State.laneAgain (s : State) (n cause : Nat) : State :=
  let s1 := (s.laneTrain n).laneLeft n cause
  (s1.partners n).foldl (fun s l => if s.lane l = 4 then s.laneGo l 3 7 false else s) s1

/-- Whether the SerDes PLL of a lane is locked (R102). -/
def State.pllLocked (s : State) (p : Nat) : Bool := testBit (s.reg Reg.SYNTH_SYS_STATUS) (1 + p)

/-- A lane leaves OFF once it is enabled and its PLL is locked (R310). -/
def State.laneStart (s : State) (n : Nat) : State :=
  if s.lane n = 0 ∧ s.laneOn n ∧ s.pllLocked (lanePll n) ∧ !s.laneDead n then s.laneTrain n else s

/-- TRAIN_FAIL with its reason; the lane enters BACKOFF (R310, R345). -/
def State.laneFail (s : State) (n reason : Nat) : State :=
  ((s.setFld (Reg.FAB_LANE_STATUS n) Fld.FAB_LANE_STATUS_LAST_FAIL reason).setLane n 5).raiseN 98 (n + reason * 2 ^ 4)

/-! ### The lane commands -/

/-- LANE_EN_WRITE (R310, R312, R344): EN, AN_EN and the polarities take the data. -/
def State.laneEnWrite (s : State) (n : Nat) (data : Word) : State :=
  let a := Reg.FAB_LANE_CTRL n
  let s1 := s.setReg a ((s.reg a &&& ~~~0xF#32) ||| (data &&& 0xF#32))
  if Fld.FAB_LANE_CTRL_EN.get data = 1 then s1.laneStart n
  else if s.lane n = 0 then s1 else s1.laneGo n 0 6 false

/-- LANE_LOOP_WRITE (R310, R318). -/
def State.laneLoopWrite (s : State) (n : Nat) (data : Word) : State :=
  let v := Fld.FAB_LANE_CTRL_LOOP.get data
  let s1 := s.setFld (Reg.FAB_LANE_CTRL n) Fld.FAB_LANE_CTRL_LOOP v
  if v ≠ 0 then (if s.lane n = 0 then s1 else s1.laneGo n 6 5 true)
  else if s.lane n = 6 then s1.laneTrain n else s1

/-- LANE_RETRAIN (R310, R312): ignored outside UP. -/
def State.laneRetrain (s : State) (n : Nat) : State := if s.lane n = 4 then s.laneAgain n 4 else s

/-- SIGNAL of a lane: it shows the receive signal (R345). -/
def State.setSignal (s : State) (n : Nat) (b : Bool) : State :=
  s.setBit (Reg.FAB_LANE_STATUS n) Fld.FAB_LANE_STATUS_SIGNAL b

/-- AN_COMPLETE (R310): the partner has been heard, so a signal is present. -/
def State.anComplete (s : State) (n : Nat) : State := if s.lane n = 1 then (s.setSignal n true).setLane n 2 else s

/-- TRAIN_READY (R305, R310): both receivers report ready, so a signal is present. -/
def State.trainReady (s : State) (n : Nat) (precode : Bool) : State :=
  let a := Reg.FAB_LANE_STATUS n
  if s.lane n = 2 then
    ((s.setBit a Fld.FAB_LANE_STATUS_PRECODE precode).setSignal n true).setLane n 3
  else s

/-- LANE_UP (R310, R311): on a port of several lanes every lane is aligned. -/
def State.laneUp (s : State) (n : Nat) : State :=
  if s.lane n = 3 ∧ (s.partners n).all (fun l => s.lane l == 3 || s.lane l == 4) then
    let s1 := (s.setLane n 4).raiseN 96 n
    match s1.portOf n with
    | some m => if (s1.portLanes m).all (fun l => s1.lane l == 4) then (s1.setPortUp m true).raiseN 99 m else s1
    | none => s1
  else s

/-- TRAIN_FAIL (R310). -/
def State.trainFail (s : State) (n : Nat) : State :=
  if s.lane n = 1 then s.laneFail n 1 else if s.lane n = 2 then s.laneFail n 2 else s

/-- ALIGN_TIMEOUT (R310, R312): the count stops while another lane of the port is in AN, TRAIN, BACKOFF or WAKE. -/
def State.alignTimeout (s : State) (n : Nat) (skew : Bool) : State :=
  if s.lane n = 3 ∧ (s.partners n).all (fun l => !([1, 2, 5, 7].contains (s.lane l))) then s.laneFail n (if skew then 4 else 3)
  else s

/-- LANE_DOWN (R310, R345, R346). A loss of signal outside UP changes SIGNAL alone. -/
def State.laneDown (s : State) (n : Nat) (cause : DownCause) : State :=
  if s.lane n = 4 then
    match cause with
    | .signal => (s.setSignal n false).laneAgain n 1
    | .blockLock => s.laneAgain n 2
    | .degrade =>
      if s.bit (Reg.FAB_LANE_STATUS n) Fld.FAB_LANE_STATUS_DEGRADED ∧
          s.bit (Reg.FAB_FEC_DEGRADE n) Fld.FAB_FEC_DEGRADE_DOWN_ON_DEGRADE then s.laneAgain n 3 else s
  else if cause = .signal then s.setSignal n false
  else s

/-- BACKOFF_EXPIRY (R310). -/
def State.backoffExpiry (s : State) (n : Nat) : State := if s.lane n = 5 then s.laneTrain n else s

/-- What a lane that is not OFF shows at the end of a window: its signal (R345), and in PRBS31 mode the bit errors of the window
(R318; log entry 60). -/
def State.laneWindow (s : State) (n prbs : Nat) (signal : Bool) : State :=
  if s.lane n = 0 then s
  else
    let s1 := s.setSignal n signal
    if s.lane n = 6 ∧ s.laneLoop n = 3 then s1.count64 (Reg.FAB_PRBS_ERR n) prbs else s1

/-- FEC_WINDOW (R315-R318): the FEC counters count only in ALIGN and UP. -/
def State.fecWindow (s0 : State) (n corr uncorr sym prbs : Nat) (signal : Bool) : State :=
  let s := s0.laneWindow n prbs signal
  let on := s.lane n == 3 || s.lane n == 4
  let y := if on then sym else 0
  let s1 := if on then ((s.count64 (Reg.FAB_FEC_CORR n) corr).count64 (Reg.FAB_FEC_UNCORR n) uncorr).count64
      (Reg.FAB_FEC_SYMERR n) sym else s
  let th := max 1 (s.fld (Reg.FAB_FEC_DEGRADE n) Fld.FAB_FEC_DEGRADE_THRESH)
  let s2 := if th ≤ y then (s1.setBit (Reg.FAB_LANE_STATUS n) Fld.FAB_LANE_STATUS_DEGRADED true).raiseN 101 n
    else if 2 * y < th then s1.setBit (Reg.FAB_LANE_STATUS n) Fld.FAB_LANE_STATUS_DEGRADED false else s1
  if on && decide (0 < uncorr) then s2.raiseMs (limitKey 102 n) 102 n else s2

/-! ### The port map (R306, R307) -/

/-- WIDTHm of a map. -/
def mapWidth (w : Word) (m : Nat) : Nat := w.toNat / 2 ^ (2 * m) % 4

/-- R306. -/
def mapValid (w : Word) : Bool :=
  (List.range 8).all (fun m =>
    (mapWidth w m != 2 || (m % 2 == 0 && mapWidth w (m + 1) == 0)) &&
    (mapWidth w m != 3 || (m % 4 == 0 && mapWidth w (m + 1) == 0 && mapWidth w (m + 2) == 0 && mapWidth w (m + 3) == 0)))

/-- The MACs whose fields a write changes. -/
def mapChanged (a b : Word) : List Nat :=
  (List.range 8).filter (fun m => mapWidth a m != mapWidth b m || testBit a (16 + m) != testBit b (16 + m))

/-- FAB_CONFIG_ERR with the local address of the write (R341). -/
def State.fabConfigErr (s : State) (a : Nat) : State := s.raiseN 106 a

/-- WIDTH and RATE in force (R353). -/
def State.syncPorts (s : State) : State :=
  (List.range 8).foldl (fun s m =>
    (s.setFld (Reg.MAC_STATUS m) Fld.MAC_STATUS_WIDTH (s.portWidth m)).setBit (Reg.MAC_STATUS m) Fld.MAC_STATUS_RATE
      (s.portWidth m != 0 && s.pllFast (lanePll m))) s

/-- FAB_PORTMAP_WRITE (R306, R307): every lane of every MAC whose fields change is disabled. -/
def State.portmapWrite (s : State) (data : Word) : State :=
  let new := data &&& 0xFFFFFF#32
  let old := s.reg Reg.FAB_PORTMAP
  let lanes := (mapChanged old new).flatMap (fun m =>
    (List.range (max (widthLanes (mapWidth old m)) (widthLanes (mapWidth new m)))).map (fun i => m + i))
  if mapValid new && lanes.all (fun l => !(s.laneOn l)) then (s.setReg Reg.FAB_PORTMAP new).syncPorts
  else s.fabConfigErr Reg.FAB_PORTMAP

/-! ### SerDes PLLs (R83, R103) -/

/-- SYNTH_SERDES_CTRL_WRITE: MODE changes only while EN is 0. A PLL that is not enabled is not locked. -/
def State.serdesWrite (s : State) (data : Word) : State :=
  let a := Reg.SYNTH_SERDES_CTRL
  let w := (List.range 5).foldl (fun (w : Word) b =>
    if b % 2 == 1 && testBit (s.reg a) (b - 1) then w else maskSet w b (testBit data b)) (s.reg a)
  let s1 := s.setReg a w
  let s2 := (List.range 3).foldl (fun (s : State) p =>
    if testBit w (2 * p) then s
    else s.setReg Reg.SYNTH_SYS_STATUS (maskSet (s.reg Reg.SYNTH_SYS_STATUS) (1 + p) false)) s1
  s2.syncPorts

/-- EN of a SerDes PLL. -/
def State.pllOn (s : State) (p : Nat) : Bool := testBit (s.reg Reg.SYNTH_SERDES_CTRL) (2 * p)

/-- The lanes of a SerDes PLL (R82). -/
def pllLanes (p : Nat) : List Nat := (List.range 10).filter (fun l => lanePll l == p)

/-- SPLL_LOCK (R102, R310). -/
def State.spllLock (s : State) (p : Nat) : State :=
  if s.pllOn p then
    (pllLanes p).foldl (fun s l => s.laneStart l)
      (s.setReg Reg.SYNTH_SYS_STATUS (maskSet (s.reg Reg.SYNTH_SYS_STATUS) (1 + p) true))
  else s

/-- SPLL_UNLOCK (R100). -/
def State.spllUnlock (s : State) (p : Nat) : State :=
  if s.pllOn p && s.pllLocked p then
    (s.setReg Reg.SYNTH_SYS_STATUS (maskSet (s.reg Reg.SYNTH_SYS_STATUS) (1 + p) false)).raiseN 9 p
  else s

/-! ### Dormant mode and the wake pattern (R337, R338) -/

/-- DORMANT_ENTER (R337, R631): the host link goes down with it; the LTSSM cause that is then reported is not stated: free (log
entry 1). -/
def State.dormantEnter (s : State) : State :=
  if !s.audio ∧ s.seqState = 0 ∧ !s.bit Reg.FAB_WAKE_CTRL Fld.FAB_WAKE_CTRL_SENDING then
    let s1 := (List.range 10).foldl (fun s l => if s.lane l = 0 then s else s.laneGo l 0 6 false) s
    { (if s1.linkUp then s1.takeFree.2.linkDrop (1 + s1.takeFree.1 % 3) else s1) with power := .dormant }
  else s.fabConfigErr Reg.FAB_WAKE_CTRL

/-- ARM and SEND_LANE of a write of FAB_WAKE_CTRL (R349). -/
def State.wakeCtrl (s : State) (data : Word) : State := s.writeWord Reg.FAB_WAKE_CTRL data

/-- WAKE_SEND (R338, R349). A lane that stays powered down sends nothing: refused (R18; log entry 61). -/
def State.wakeSend (s : State) (data : Word) : State :=
  let n := Fld.FAB_WAKE_CTRL_SEND_LANE.get data
  let s1 := s.wakeCtrl data
  if 10 ≤ n ∨ s.laneDead n ∨ [4, 6, 7].contains (s.lane n) then s1.fabConfigErr Reg.FAB_WAKE_CTRL else s1.setLane n 7

/-- WAKE_SENT (R310, R338). -/
def State.wakeSent (s : State) (n : Nat) : State :=
  if s.lane n = 7 then (s.setLane n (if s.laneOn n then 5 else 0)).raiseN 107 n else s

/-! ### PAUSE (R334-R336) -/

/-- Load the pause timer. MAC_PAUSE_LEFT keeps the loaded value until the timer expires (log entry 11). -/
def State.pauseLoad (s : State) (p q : Nat) : State :=
  (s.setFld (Reg.MAC_PAUSE_LEFT p) Fld.MAC_PAUSE_LEFT_LEFT q).setBit (Reg.MAC_STATUS p) Fld.MAC_STATUS_PAUSED (q != 0)

/-- PAUSE_SEND (R336, R355): a second SEND before the frame has started replaces QUANTA. -/
def State.pauseSend (s : State) (p : Nat) (data : Word) : State :=
  let s1 := s.writeWord (Reg.MAC_PAUSE_TX p) data
  if Fld.MAC_PAUSE_TX_SEND.get data = 1 then s1.setBit (Reg.MAC_PAUSE_TX p) Fld.MAC_PAUSE_TX_PENDING true else s1

/-! ### The commands -/

/-- The command SYNTH_SERDES_CTRL_WRITE. -/
def execSynthSerdesCtrlWrite (data : Word) (s : State) : Host.Outcome State Fault Refusal := .next (s.serdesWrite data)

/-- The command SPLL_LOCK. -/
def execSpllLock (p : Fin 3) (s : State) : Host.Outcome State Fault Refusal := .next (s.spllLock p)

/-- The command SPLL_UNLOCK. -/
def execSpllUnlock (p : Fin 3) (s : State) : Host.Outcome State Fault Refusal := .next (s.spllUnlock p)

/-- The command LANE_EN_WRITE. -/
def execLaneEnWrite (n : Fin 10) (data : Word) (s : State) : Host.Outcome State Fault Refusal :=
  .next (s.laneEnWrite n data)

/-- The command LANE_LOOP_WRITE. -/
def execLaneLoopWrite (n : Fin 10) (data : Word) (s : State) : Host.Outcome State Fault Refusal :=
  .next (s.laneLoopWrite n data)

/-- The command LANE_RETRAIN. -/
def execLaneRetrain (n : Fin 10) (s : State) : Host.Outcome State Fault Refusal := .next (s.laneRetrain n)

/-- The command AN_COMPLETE. -/
def execAnComplete (n : Fin 10) (s : State) : Host.Outcome State Fault Refusal := .next (s.anComplete n)

/-- The command TRAIN_READY. -/
def execTrainReady (n : Fin 10) (precode : Bool) (s : State) : Host.Outcome State Fault Refusal :=
  .next (s.trainReady n precode)

/-- The command LANE_UP. -/
def execLaneUp (n : Fin 10) (s : State) : Host.Outcome State Fault Refusal := .next (s.laneUp n)

/-- The command TRAIN_FAIL. -/
def execTrainFail (n : Fin 10) (s : State) : Host.Outcome State Fault Refusal := .next (s.trainFail n)

/-- The command ALIGN_TIMEOUT. -/
def execAlignTimeout (n : Fin 10) (skew : Bool) (s : State) : Host.Outcome State Fault Refusal :=
  .next (s.alignTimeout n skew)

/-- The command LANE_DOWN. -/
def execLaneDown (n : Fin 10) (cause : DownCause) (s : State) : Host.Outcome State Fault Refusal :=
  .next (s.laneDown n cause)

/-- The command BACKOFF_EXPIRY. -/
def execBackoffExpiry (n : Fin 10) (s : State) : Host.Outcome State Fault Refusal := .next (s.backoffExpiry n)

/-- The command FEC_WINDOW. -/
def execFecWindow (n : Fin 10) (corr uncorr sym : Nat) (s : State) (prbs : Nat := 0) (signal : Bool := true) :
    Host.Outcome State Fault Refusal :=
  .next (s.fecWindow n corr uncorr sym prbs signal)

/-- The command FAB_PORTMAP_WRITE. -/
def execFabPortmapWrite (data : Word) (s : State) : Host.Outcome State Fault Refusal := .next (s.portmapWrite data)

/-- The command DORMANT_ENTER. -/
def execDormantEnter (s : State) : Host.Outcome State Fault Refusal := .next s.dormantEnter

/-- The command WAKE_SEND. -/
def execWakeSend (data : Word) (s : State) : Host.Outcome State Fault Refusal :=
  if Fld.FAB_WAKE_CTRL_SEND.get data = 1 then .next (s.wakeSend data) else .next s

/-- The command WAKE_SENT. -/
def execWakeSent (n : Fin 10) (s : State) : Host.Outcome State Fault Refusal := .next (s.wakeSent n)

/-- The command PAUSE_TIMER_EXPIRY (R335). -/
def execPauseTimerExpiry (p : Fin 8) (s : State) : Host.Outcome State Fault Refusal := .next (s.pauseLoad p 0)

/-- The command PAUSE_SEND. -/
def execPauseSend (p : Fin 8) (data : Word) (s : State) : Host.Outcome State Fault Refusal := .next (s.pauseSend p data)

end Sys2Proof.Machine
end

