-- ==== Sys2Proof/Machine/Stream.lean ====
section
/-! DEFINITION. Frames received and sent: MAC checks, learning, forwarding, the classifier and its windows, PACK, and the
control quires (R319-R336, R356-R399, R454, R457, R623). -/

namespace Sys2Proof.Machine

/-- A raise that happens at most once per second for a source (R393). -/
def State.raiseSec (s : State) (src w3 : Nat) : State :=
  let t := s.now + 1
  let last := SMap.find 0 s.raised (limitKey src 0)
  if 0 < last ∧ last ≤ t ∧ t < last + secUnit then s
  else { s with raised := SMap.set 0 s.raised (limitKey src 0) t }.raiseN src w3

/-- STREAM_USAGE as the table stands (R398). -/
def State.syncUsage (s : State) : State :=
  let l := ((listedIn s.mem 0x02080000 64 8192).map s.entry).filter (fun e => e.valid)
  let sum := fun (tx : Bool) => ((l.filter (fun e => e.tx == tx)).map (fun e => e.nch)).foldl (· + ·) 0
  s.setRegN Reg.STREAM_USAGE (sum false % 2 ^ 15 + sum true % 2 ^ 15 * 2 ^ 16)

/-! ### Receive checks (R321-R331) -/

/-- A frame as it travels inside the engine (R328). -/
structure RxInfo where
  bytes  : List Byte
  tagged : Bool
  vid    : Nat
  pcp    : Nat
  dei    : Nat
  deriving DecidableEq, Repr

/-- The descriptor of a received frame (R328, R354). -/
def State.untag (s : State) (p : Nat) (bs : List Byte) : RxInfo :=
  let v := s.fld (Reg.MAC_VLAN p) Fld.MAC_VLAN_PVID
  let pvid := if v = 0 ∨ v = 0xFFF then 1 else v
  if etherAt bs 12 = 0x8100 then
    let t := etherAt bs 14
    let rest := bs.take 12 ++ bs.drop 16
    ⟨rest, t % 2 ^ 12 != 0, if t % 2 ^ 12 = 0 then pvid else t % 2 ^ 12, t / 2 ^ 13, t / 2 ^ 12 % 2⟩
  else ⟨bs, false, pvid, s.fld (Reg.MAC_VLAN p) Fld.MAC_VLAN_PCP, 0⟩

/-- Whether ACCEPT refuses a frame (R329). -/
def State.vlanRefused (s : State) (p : Nat) (g : RxInfo) : Bool :=
  match s.fld (Reg.MAC_CTRL p) Fld.MAC_CTRL_ACCEPT with
  | 1 => !g.tagged
  | 2 => g.tagged
  | _ => false

/-- MAX_LEN as taken (R323). -/
def State.maxLen (s : State) (p : Nat) : Nat := max 1518 (min 9216 (s.fld (Reg.MAC_MAXLEN p) Fld.MAC_MAXLEN_MAX_LEN))

/-- The class of the first check that a frame fails (R321), by its order; 0 when it passes. -/
def State.rxClass (s : State) (p : Nat) (f : RxFrame) (g : RxInfo) : Nat :=
  if f.codeError then 1
  else if f.bytes.length + 4 < 64 then 2
  else if s.maxLen p < f.bytes.length + 4 then 3
  else if !f.fcsOk then 4
  else if s.vlanRefused p g then 5
  else 0

/-- The counter of a class (R321, R351). -/
def classCounter (c : Nat) : Nat := match c with | 1 => 5 | 2 => 2 | 3 => 4 | 4 => 3 | _ => 6

/-- Whether a destination is a group address. -/
def isGroup (a : List Byte) : Bool := (a.getD 0 0).toNat.testBit 0

/-- The hash bit of a group address (R326). -/
def State.hashHit (s : State) (p : Nat) (a : List Byte) : Bool :=
  testBit (s.reg (Reg.MAC_HASH p (hashIndex a / 32))) (hashIndex a % 32)

/-- Whether the filter marks a frame LOCAL (R324). -/
def State.filterLocal (s : State) (p : Nat) (bs : List Byte) : Bool :=
  let a := bs.take 6
  s.bit (Reg.MAC_CTRL p) Fld.MAC_CTRL_PROMISC || a == s.macAddr p ||
    (a == List.replicate 6 0xFF && s.bit (Reg.MAC_CTRL p) Fld.MAC_CTRL_BCAST) || (isGroup a && s.hashHit p a) || ptpEvent bs

/-- LOCAL_ONLY (R325). -/
def localOnly (bs : List Byte) : Bool :=
  bs.take 5 == [0x01, 0x80, 0xC2, 0x00, 0x00] && decide ((bs.getD 5 0).toNat < 16)

/-- A MAC control frame (R332-R334); it is honoured only when it has found a descriptor (R388; log entry 63). -/
def State.macControl (s : State) (p : Nat) (bs : List Byte) (held : Bool) : State :=
  let a := bs.take 6
  if etherAt bs 14 = 1 ∧ (a = [0x01, 0x80, 0xC2, 0x00, 0x00, 0x01] ∨ a = s.macAddr p) then
    let s1 := s.count64 (Reg.MAC_COUNTER p 7) 1
    if held && s.bit (Reg.MAC_CTRL p) Fld.MAC_CTRL_PAUSE_RX_EN then
      let q := min (etherAt bs 16) (s.fld (Reg.MAC_PAUSE_MAX p) Fld.MAC_PAUSE_MAX_PAUSE_MAX)
      (s1.pauseLoad p q).raiseMs (limitKey 105 p) 105 (p + q * 2 ^ 16)
    else s1
  else s.count64 (Reg.MAC_COUNTER p 8) 1

/-! ### Learning and aging (R380-R382) -/

/-- The ways of a bucket. -/
def bucketWays (b : Nat) : List Nat := (List.range 4).map (fun w => 4 * b + w)

/-- MAC_LEARN (R380): a miss with a group source is not learned; the row of a full bucket names no kind of source. -/
def State.learn (s : State) (p : Nat) (g : RxInfo) : State :=
  if testBit (s.reg Reg.STREAM_LEARN) p then
    let a := slice g.bytes 6 6
    match s.macFind a g.vid with
    | some i =>
      let e := s.macEntry i
      if e.static || e.ports == 2 ^ p then s.setMacEntry i { e with hit := true }
      else ((s.setMacEntry i { e with hit := true, ports := 2 ^ p }).countHold Reg.STREAM_MOVES 1).raiseMs (limitKey 133 0)
        133 (i + p * 2 ^ 16)
    | none =>
      let b := macBucket a g.vid
      match (bucketWays b).find? (fun i => !(s.macEntry i).valid) with
      | some i => if isGroup a then s else s.setMacEntry i ⟨a, g.vid, 2 ^ p, false, false, true, true⟩
      | none => (s.countHold Reg.STREAM_LEARN_FULL 1).raiseSec 135 b
  else s

/-- MAC_AGING_SWEEP (R381, R382). When a hit falls in the cycle in which the sweep clears HIT, what HIT holds then is not
stated: free (log entry 1). -/
def State.agingSweep (s : State) (i : Nat) (hit : Bool) : State :=
  let e := s.macEntry i
  if s.fld Reg.STREAM_AGE Fld.STREAM_AGE_PERIOD = 0 ∨ !e.valid ∨ e.static then s
  else if e.hit then
    (if hit then (s.takeFree.2).setMacEntry i { e with hit := s.takeFree.1 % 2 == 1 } else s.setMacEntry i { e with hit := false })
  else if hit then s.setMacEntry i { e with hit := true }
  else ((s.setMacEntry i { e with valid := false }).countHold Reg.STREAM_AGED 1).raiseSec 134 i

/-! ### The classifier (R359-R372) -/

/-- The PT of a received gloss: the sample index of the edge whose truncation it is (R367). -/
def State.glossIndex (s : State) (sec ns : Nat) : Option Nat :=
  let t := s.absPt sec ns 0
  if ns < 1000000000 ∧ 0 ≤ t then
    let n := (t.toNat * s.hz + secUnit - 1) / secUnit
    if edgePt s.hz n < t.toNat + nsUnit then some n else none
  else none

/-- The PT that an AAF timestamp names, nearest to the arrival (R361). Which of two PTs at the same distance is taken is
not stated: free (log entry 1). -/
def State.aafPt (s : State) (stamp offset : Nat) (arrival : Int) : Int × State :=
  let whole := Int.fdiv arrival (nsUnit : Nat)
  let d := signed 32 (lowInt 32 ((stamp : Int) - offset - whole))
  let edge := d == -(2 ^ 31 : Nat)
  let exact := arrival % (nsUnit : Nat) == 0
  let s1 := if edge && exact then s.takeFree.2 else s
  let up := edge && (!exact || s.takeFree.1 % 2 == 1)
  ((whole + d + (if up then (2 ^ 32 : Nat) else 0)) * (nsUnit : Nat), s1)

/-- The sample edge nearest to a PT, unless it lies more than a quarter of a sample period away (R361). -/
def State.nearEdge (s : State) (t : Int) : Option Nat :=
  let n := (t.toNat * s.hz / secUnit)
  let dist := fun (k : Nat) => ((edgePt s.hz k : Int) - t).natAbs
  let b := if dist (n + 1) < dist n then n + 1 else n
  if secUnit < 4 * dist b * s.hz then none else some b

/-- The check code of step 3 of R367 for a folio frame of header and payload h; 0 when it passes (R356, R357, R368). -/
def State.folioFormat (s : State) (e : StreamEntry) (h : List Byte) : Nat :=
  let w := beNat (h.take 4)
  if w / 2 ^ 28 ≠ 1 then 1
  else if w / 2 ^ 25 % 8 ≠ s.rate then 2
  else if w / 2 ^ 16 % 2 ^ 8 + 1 ≠ e.nch then 3
  else if h.length + 18 ≠ 42 + 32 * e.nch then 4
  else 0

/-- The check code of step 3 of R367 for an AAF frame (R359, R368). The places of the fields are those of IEEE 1722-2016,
which the manual cites (log entry 21). -/
def State.aafFormat (s : State) (e : StreamEntry) (h : List Byte) : Nat :=
  let b := fun i => (h.getD i 0).toNat
  if b 0 ≠ 2 ∨ !(b 1).testBit 7 ∨ b 1 / 2 ^ 4 % 8 ≠ 0 ∨ !(b 1).testBit 0 then 1
  else if b 17 / 2 ^ 4 ≠ 4 + s.rate then 2
  else if b 17 % 4 * 2 ^ 8 + b 18 ≠ e.nch ∨ b 16 ≠ 2 ∨ b 19 ≠ 32 then 3
  else if etherAt h 20 ≠ 32 * e.nch ∨ h.length ≠ 24 + 32 * e.nch then 4
  else if (b 22).testBit 4 ∨ b 22 % 2 ^ 4 ≠ 0 then 7
  else 0

/-- The gloss step of R367: the sample index, or the check code. -/
def State.glossCheck (s : State) (e : StreamEntry) (h : List Byte) (arrival : Int) : Option Nat × State :=
  if e.aaf then
    let r := s.aafPt (beNat (slice h 12 4)) e.offset arrival
    (r.2.nearEdge r.1, r.2)
  else (s.glossIndex (beNat (slice h 16 4)) (beNat (slice h 20 4)), s)

/-- Whether claim a is higher than claim b (R371). -/
def claimHigher (a b : Word) : Bool :=
  let d := (a.toNat / 2 ^ 24 + 2 ^ 8 - b.toNat / 2 ^ 24) % 2 ^ 8
  if d = 0 ∨ d = 128 then decide (b.toNat % 2 ^ 24 < a.toNat % 2 ^ 24) else decide (d < 128)

/-- A receive entry's dynamic state. -/
def State.rxSt (s : State) (i : Nat) : RxEntry := SMap.find {} s.stream.rx i

/-- Write a receive entry's dynamic state. -/
def State.setRxSt (s : State) (i : Nat) (e : RxEntry) : State :=
  { s with stream := { s.stream with rx := SMap.set {} s.stream.rx i e } }

/-- The samples of a frame as a slot holds them: channel-major, least significant byte first (R7, R358, R359). -/
def slotOf (aaf : Bool) (nch : Nat) (payload : List Byte) : List Byte :=
  (List.range (8 * nch)).flatMap (fun x =>
    (slice payload (4 * (if aaf then x % 8 * nch + x / 8 else x)) 4).reverse)

/-- The address of a slot of a receive entry (R372). -/
def StreamEntry.slotAddr (e : StreamEntry) (m : Nat) : Nat := (e.w3 + m % 4 * e.stride) % 2 ^ 32

/-- A candidate of receive folio m is judged against the one held (R371, R372). -/
def State.candidate (s : State) (i : Nat) (e : StreamEntry) (m : Nat) (claim gen : Word) (slot : List Byte) : State :=
  let c := s.rxSt i
  let held := c.held.find? (fun h => h.folio == m)
  let rank0 : Bool := claim.toNat / 2 ^ 16 % 2 ^ 8 == 0
  let wins : Bool := match held with
    | none => !rank0
    | some h => !rank0 && claimHigher claim h.claim
  let s1 := if !wins || held.isSome then s.countEntry i 1 else s
  if wins then
    ((s1.unitWrite 10 (e.slotAddr m) slot).2).setRxSt i
      { c with held := c.held.filter (fun h => h.folio != m) ++ [⟨m, claim, gen⟩] }
  else s1

/-- The receive entry of a key (R364). -/
def State.rxLookup (s : State) (aaf : Bool) (key : List Byte) : Option Nat :=
  (bucketWays (keyBucket key)).find? (fun i =>
    let e := s.entry i
    e.valid && !e.tx && e.aaf == aaf && e.key == key)

/-- STREAM_CLASSIFY of a local stream frame: `h` is what follows the EtherType (R362, R367-R372). An AAF frame carries no
GEN: the one that LAST_GEN shows for it is free (log entry 1). -/
def State.classify (s : State) (p : Nat) (aaf : Bool) (h : List Byte) (arrival : Int) : State :=
  if !(s.bit Reg.STREAM_CTRL Fld.STREAM_CTRL_RX_EN) then s
  else
    let key := if aaf then slice h 4 8 else List.replicate 4 0 ++ slice h 4 4
    let found := (s.rxLookup aaf key).filter (fun i => (s.entry i).ingress == 0 || (s.entry i).ingress.testBit p)
    match found with
    | none => (s.countHold Reg.STREAM_UNKNOWN 1).raiseStream 132 (beNat (key.drop 4))
    | some i =>
      let e := s.entry i
      let bad := if aaf then s.aafFormat e h else s.folioFormat e h
      let r := s.glossCheck e h arrival
      let code := if bad ≠ 0 then bad
        else match r.1 with
          | none => 5
          | some n => if n % 8 = e.phase then 0 else 6
      let s1 := if bad = 0 then r.2 else s
      if code ≠ 0 then (s1.countEntry i 3).raiseStream 130 (i + code * 2 ^ 16)
      else
        let n := r.1.getD 0
        let early := decide (s.now < edgePt s.hz (n + 8))
        if early || decide (edgePt s.hz n + e.win * nsUnit ≤ s.now) then
          (s1.countEntry i 2).raiseStream 129 (i + bitOf early * 2 ^ 31)
        else
          let claim := if aaf then 0x00C00000#32 else BitVec.ofNat 32 (beNat (slice h 8 4))
          let gen := BitVec.ofNat 32 (if aaf then s1.takeFree.1 else beNat (slice h 12 4))
          let s2 := if aaf then s1.takeFree.2 else s1
          s2.candidate i e ((n + 7) / 8) claim gen (slotOf aaf e.nch (h.drop 24))

/-! ### Windows (R373-R375) -/

/-- The gloss index of receive folio m (R369). -/
def StreamEntry.indexOf (e : StreamEntry) (m : Nat) : Nat := if e.phase = 0 then 8 * m else 8 * m + e.phase - 8

/-- The close of the window of folio m (R370). -/
def State.windowClose (s : State) (e : StreamEntry) (m : Nat) : Nat := edgePt s.hz (e.indexOf m) + e.win * nsUnit

/-- A missed folio (R373): zeros, or a copy of the slot before, zeros from the fourth one on. A slot whose copy cannot
be read keeps its bytes. -/
def State.fillMissed (s : State) (i : Nat) (e : StreamEntry) (m : Nat) : State :=
  let c := s.rxSt i
  let s1 := (((s.countEntry i 4).raiseStream 128 i)).setRxSt i { c with misses := c.misses + 1, closed := some m }
  if e.repeats && decide (c.misses + 1 < 4) then
    let r := s1.unitRead 10 (e.slotAddr (m + 3)) (32 * e.nch)
    match r.1 with
    | some bs => (r.2.unitWrite 10 (e.slotAddr m) bs).2
    | none => r.2
  else (s1.unitWrite 10 (e.slotAddr m) (List.replicate (32 * e.nch) 0)).2

/-- A selected folio (R372, R375). -/
def State.selectClaim (s : State) (i : Nat) (m : Nat) (h : Held) : State :=
  let c := s.rxSt i
  let s1 := (s.countEntry i 0).setRxSt i
    { c with held := c.held.filter (fun x => x.folio != m), misses := 0, closed := some m, claim := some h.claim }
  let s2 := (s1.setReg (Reg.STREAM_ENTRY_LAST i 0) h.claim).setReg (Reg.STREAM_ENTRY_LAST i 1) h.gen
  if c.claim.isSome && c.claim != some h.claim then
    (s2.countEntry i 5).raiseStream 131 (i + h.claim.toNat / 2 ^ 16 * 2 ^ 16)
  else s2

/-- Whether the window of an entry has closed for folio m. A close that lies ahead of PT was made before the folio index fell
back (by STEP, SET or a lower rate), and stands for nothing since. -/
def State.hasClosed (s : State) (i m : Nat) : Bool :=
  match (s.rxSt i).closed with
  | some c => decide (m ≤ c) && decide (s.windowClose (s.entry i) c ≤ s.now)
  | none => false

/-- RX_WINDOW_CLOSE (R373-R375): the feed follows the last close of the entries that name it. -/
def State.rxWindowClose (s : State) (i m : Nat) : State :=
  let e := s.entry i
  if e.valid ∧ !e.tx ∧ !s.hasClosed i m ∧ (e.phase = 0 ∨ 0 < m) ∧ s.windowClose e m ≤ s.now then
    let s1 := match (s.rxSt i).held.find? (fun h => h.folio == m) with
      | none => s.fillMissed i e m
      | some h => s.selectClaim i m h
    if (s1.rxEntries.filter (fun x => (s1.entry x).feed == e.feed)).all (fun x => s1.hasClosed x m) then
      s1.feedSignal e.feed m
    else s1
  else s

/-! ### Local delivery (R384, R391, R457, R623) -/

/-- A frame for the PTP or the control receive quire (R391): PACK writes it into a free buffer. Into a quire that is full,
disabled or of another entry size the push is refused, which its DROP counts, and no buffer is taken (R431, R681). -/
def State.cpuDeliver (s : State) (p q : Nat) (g : RxInfo) (arrival : Int) : State :=
  let drop := fun (s : State) => (s.countHold Reg.STREAM_CPU_DROP 1).raiseMs (limitKey 139 0) 139 0
  let fits := s.quireOn q && s.quireSize q == 32 && decide (s.quireCount q < quireDepth (s.reg (Reg.QUIRE_CFG q)))
  if fits then
    let r := s.hwPop (s.fld Reg.STREAM_FREEQ Fld.STREAM_FREEQ_QUIRE) 8
    match r.1 with
    | none => drop r.2
    | some b =>
      let addr := leNat (b.take 4)
      let s1 := (r.2.unitWrite 10 addr g.bytes).2
      let t := (arrival % (ptWrap : Int)).toNat
      (s1.hwPush q (leBytes 4 addr ++
        leBytes 4 (g.bytes.length % 2 ^ 14 + p * 2 ^ 14 + bitOf g.tagged * 2 ^ 17 + g.vid * 2 ^ 18) ++
        leBytes 4 t ++ leBytes 4 (ptNs t) ++ leBytes 4 (ptSec t) ++
        leBytes 4 (ptSec t / 2 ^ 32 % 2 ^ 16 + g.pcp * 2 ^ 16) ++ List.replicate 8 0)).2
  else drop (s.hwPush q (List.replicate 32 0)).2

/-- A referee frame: accepted ones wait for REDUN, others are counted (R457); in solo operation none is expected (R18).
`h` is what follows the EtherType. -/
def State.refereeDeliver (s : State) (h : List Byte) : State :=
  let w := beNat (h.take 4)
  let type := w / 2 ^ 24 % 2 ^ 4
  if s.bit Reg.REDUN_CTRL Fld.REDUN_CTRL_PAIR ∧ w / 2 ^ 28 = 1 ∧ w % 2 ^ 16 = s.fld Reg.REDUN_UNIT Fld.REDUN_UNIT_PAIR ∧
      etherAt h 6 = s.fld Reg.REDUN_REF Fld.REDUN_REF_REF_ID ∧
      (type = 3 ∨ (type = 4 ∧ etherAt h 22 = s.fld Reg.REDUN_UNIT Fld.REDUN_UNIT_UNIT_ID)) then
    { s with redun := { s.redun with inbox := s.redun.inbox ++ [h] } }
  else s.countHold Reg.REDUN_REF_IGNORED 1

/-- Delivery of a LOCAL frame by its EtherType (R384, R623). -/
def State.deliver (s : State) (p : Nat) (g : RxInfo) (arrival : Int) : State :=
  let t := etherAt g.bytes 12
  let h := g.bytes.drop 14
  let relay := s.fld Reg.HOST_RELAY_CFG Fld.HOST_RELAY_CFG_ETYPE
  if t = s.fld Reg.STREAM_ETYPE Fld.STREAM_ETYPE_FOLIO then s.classify p false h arrival
  else if t = 0x22F0 ∧ h.getD 0 0 = 0x02 then s.classify p true h arrival
  else if t = 0x88F7 then s.cpuDeliver p (s.fld Reg.STREAM_RXQ Fld.STREAM_RXQ_PTP) g arrival
  else if t = s.fld Reg.STREAM_ETYPE Fld.STREAM_ETYPE_REFEREE then s.refereeDeliver h
  else if relay ≠ 0 ∧ t = relay then { s with host := { s.host with inbox := s.host.inbox ++ [(p, g.bytes)] } }
  else s.cpuDeliver p (s.fld Reg.STREAM_RXQ Fld.STREAM_RXQ_CPU) g arrival

/-! ### Forwarding (R383, R386, R389) -/

/-- Where a frame goes: its egress mask, whether a table entry delivers it locally, the entry version it uses, and whether
the transparent clock corrects it. -/
structure Fwd where
  mask  : Nat := 0
  loc   : Bool := false
  hold  : List (Bool × Nat × Nat) := []
  tc    : Bool := false
  deriving DecidableEq, Repr

/-- The lookup of a destination (R383). -/
def State.fwdLookup (s : State) (g : RxInfo) (tc : Bool) : Fwd :=
  let a := g.bytes.take 6
  match s.macFind a g.vid with
  | some i => ⟨(s.macEntry i).ports, (s.macEntry i).loc, [(true, i, s.tableEpoch true)], tc⟩
  | none => ⟨s.fld Reg.STREAM_FLOOD (if isGroup a then Fld.STREAM_FLOOD_MC else Fld.STREAM_FLOOD_UC), false, [], tc⟩

/-- The egress set of a frame received on port p (R383, R389). -/
def State.forwardSet (s : State) (p : Nat) (g : RxInfo) : Fwd :=
  if !(s.bit Reg.STREAM_CTRL Fld.STREAM_CTRL_FWD_EN) ∨ localOnly g.bytes ∨ g.bytes.take 6 = s.macAddr p then {}
  else if etherAt g.bytes 12 = 0x88F7 then
    if s.bit Reg.STREAM_CTRL Fld.STREAM_CTRL_PTP_TC then
      let type := (g.bytes.getD 14 0).toNat % 16
      if type = 2 ∨ type = 3 then {} else s.fwdLookup g (decide (type < 2))
    else {}
  else s.fwdLookup g false

/-- The egress ports of a set: UP, and not the ingress port. -/
def State.fwdPorts (s : State) (p : Nat) (f : Fwd) : List Nat :=
  (List.range 8).filter (fun e => f.mask.testBit e && e != p && s.portUp e)

/-- Whether a forwarded frame is sent cut-through on an egress (R386): a PAUSE frame that waits goes first (R336). -/
def State.cutThrough (s : State) (p e : Nat) : Bool :=
  let q := s.egress e
  decide (s.portRate e ≤ s.portRate p) && q.timed.isEmpty && q.bulk.isEmpty && q.current.isNone &&
    !(s.bit (Reg.MAC_STATUS e) Fld.MAC_STATUS_PAUSED) && s.bit (Reg.MAC_CTRL e) Fld.MAC_CTRL_TX_EN &&
    !(s.bit (Reg.MAC_PAUSE_TX e) Fld.MAC_PAUSE_TX_PENDING)

/-- The 64-bit correctionField of a PTP message at place i increased (R389, R390). -/
def addCorrection (bs : List Byte) (i : Nat) (v : Int) : List Byte :=
  patch bs (i + 8) (beBytes 8 (lowInt 64 ((beNat (slice bs (i + 8) 8) : Int) + v)))

/-- A frame starts on an egress (R385). -/
def State.startFrame (s : State) (p : Nat) (f : QFrame) (stomped : Bool) : State :=
  s.setEgress p { (s.egress p) with current := some f, wire := s.tagFrame p f, stomped := stomped }

/-- A transit frame is started cut-through. How long a frame that the transparent clock corrects stays inside the device is
not stated beyond a bound: free (log entry 1). -/
def State.startCut (s : State) (p : Nat) (f : QFrame) (stomped : Bool) : State :=
  if f.kind = .transit true then
    (s.takeFree.2).startFrame p { f with bytes := addCorrection f.bytes 14 ((s.takeFree.1 : Nat) : Int) } stomped
  else s.startFrame p f stomped

/-- A received frame as a transit frame. -/
def State.transit (s : State) (g : RxInfo) (f : Fwd) (desc : Nat) (arrival : Int) : QFrame :=
  ⟨g.bytes, g.tagged, g.vid, g.pcp, g.dei, .transit f.tc, s.isTimed g.bytes, desc, arrival, 0, f.hold⟩

/-- A frame that passed goes to its egress ports, cut-through where R386 allows it. -/
def State.forward (s : State) (p : Nat) (g : RxInfo) (f : Fwd) (arrival : Int) : State :=
  let ports := s.fwdPorts p f
  let r := s.takeDesc ports.length
  ports.foldl (fun s e =>
    if s.cutThrough p e then s.startCut e (s.transit g f r.1 arrival) false else s.enqueue e (s.transit g f r.1 arrival)) r.2

/-- TX_STOMP of a frame that failed while it was being forwarded cut-through (R322). -/
def State.stompCut (s : State) (p : Nat) (g : RxInfo) (arrival : Int) : State :=
  if !s.descFree then s
  else
    let f := s.forwardSet p g
    let ports := (s.fwdPorts p f).filter (fun e => s.cutThrough p e)
    let r := s.takeDesc ports.length
    ports.foldl (fun s e => (s.startCut e (s.transit g f r.1 arrival) true).txStomp e) r.2

/-- The receive PT of a frame (R47, R320, R391): of the allowed nanosecond the model takes 0 (log entry 88). -/
def State.arrival (s : State) (p : Nat) (bs : List Byte) : Int :=
  (s.now : Int) + (if ptpEvent bs then s.tsAdj p Fld.FAB_TS_ADJ_RX else 0)

/-- A frame that fails R321 with a class: counted, and ended on the egress ports it has already reached. A VLAN refusal is
known before the 64th byte; whether a code error came after it is not stated: free (log entry 1). -/
def State.frameFails (s : State) (p c : Nat) (f : RxFrame) (g : RxInfo) : State :=
  let s1 := (s.count64 (Reg.MAC_COUNTER p (classCounter c)) 1).raiseMs (limitKey 103 p) 103 (p + c * 2 ^ 4)
  let late := decide (64 ≤ f.bytes.length + 4) && !s.vlanRefused p g && etherAt g.bytes 12 != 0x8808
  if !late then s1
  else if c = 1 then
    (if s1.takeFree.1 % 2 = 1 then (s1.takeFree.2).stompCut p g (s.arrival p f.bytes) else s1.takeFree.2)
  else s1.stompCut p g (s.arrival p f.bytes)

/-- A frame that passes R321 and is no MAC control frame: it is counted and learned; one that has found no descriptor is
discarded (R380, R388). -/
def State.framePasses (s : State) (p : Nat) (f : RxFrame) (g : RxInfo) : State :=
  let s1 := (s.count64 (Reg.MAC_COUNTER p 0) 1).count64 (Reg.MAC_COUNTER p 1) (f.bytes.length + 4)
  if !s1.descFree then s1.learn p g
  else
    let t := s.arrival p f.bytes
    let fw := s1.forwardSet p g
    let loc := s.filterLocal p f.bytes || fw.loc
    let s2 := (s1.forward p g fw t).learn p g
    if loc then s2.deliver p g t else s2

/-- FRAME_RECEIVE (R313, R321-R336, R352, R388): nothing is received while the port is not UP or RX_EN is 0. A frame that has a
64th byte and finds no descriptor there is counted in STREAM_NODESC, whatever it is. -/
def State.frameReceive (s : State) (p : Nat) (f : RxFrame) : State :=
  if !(s.portUp p && s.bit (Reg.MAC_CTRL p) Fld.MAC_CTRL_RX_EN) then s
  else
    let g := s.untag p f.bytes
    let c := s.rxClass p f g
    let s1 := if 64 ≤ f.bytes.length + 4 ∧ !s.descFree then s.noDesc p else s
    if c ≠ 0 then s1.frameFails p c f g
    else if etherAt g.bytes 12 = 0x8808 then (s1.macControl p g.bytes s.descFree).learn p g
    else s1.framePasses p f g

/-! ### PACK (R357-R362, R366, R376-R378) -/

/-- The claim in force (R449). -/
def State.claim (s : State) : Word := s.reg Reg.REDUN_CLAIM

/-- The epoch of a retiring version of a stream entry that was in force in the last cycle before release(k) (R366). -/
def State.txRetired (s : State) (k i : Nat) : Option Nat :=
  (s.clause.retiring.find? (fun r => !r.1 && r.2.1 == i && decide (s.releasePt k ≤ r.2.2.2))).map (fun r => r.2.2.1)

/-- The transmit version of an entry for folio k: the one in force in the last cycle before release(k) (R366). -/
def State.txImage (s : State) (k i : Nat) : StreamEntry :=
  if (s.txRetired k i).isSome then StreamEntry.of (Memory.read s.spare (streamAt i) 64) else s.entry i

/-- The indices of transmit entries that folio k can use, by rising index. -/
def State.txIndices (s : State) (k : Nat) : List Nat :=
  (sortBy (fun a b => decide (a < b)) ((listedIn s.mem 0x02080000 64 8192 ++ listedIn s.spare 0x02080000 64 8192).eraseDups)).filter
    (fun i => (s.txImage k i).valid && (s.txImage k i).tx)

/-- The samples of a transmit entry: for each channel the 8 samples of its sink (R376). -/
def State.txSamples (s : State) (k first : Nat) : Nat → List (List Word) × State
  | 0 => ([], s)
  | n + 1 =>
    let r := s.sinkRead k first
    let rest := State.txSamples r.2 k (first + 1) n
    (r.1 :: rest.1, rest.2)

/-- The destination address of a transmit entry (R363). -/
def StreamEntry.dest (e : StreamEntry) : List Byte := leBytes 4 e.w4 ++ leBytes 2 e.w5

/-- A folio frame (R356-R358, R377). CLAIM and the source address are stamped at departure. -/
def State.folioBytes (s : State) (k : Nat) (e : StreamEntry) (chans : List (List Word)) : List Byte :=
  let t := edgePt s.hz (8 * k + s.latency)
  e.dest ++ List.replicate 6 0 ++ beBytes 2 (s.fld Reg.STREAM_ETYPE Fld.STREAM_ETYPE_FOLIO) ++
    beBytes 4 (k % 2 ^ 16 + (e.nch - 1) % 2 ^ 8 * 2 ^ 16 + s.rate * 2 ^ 25 + 2 ^ 28) ++ beBytes 4 e.keyLo ++ beBytes 4 0 ++
    beBytes 4 (s.genOf k).toNat ++ beBytes 4 (ptSec t) ++ beBytes 4 (ptNs t) ++
    chans.flatMap (fun c => c.flatMap (fun w => beBytes 4 w.toNat))

/-- An AAF frame (R359, R360; log entry 21). -/
def State.aafBytes (s : State) (k : Nat) (e : StreamEntry) (chans : List (List Word)) : List Byte :=
  let t := edgePt s.hz (8 * k + s.latency)
  e.dest ++ List.replicate 6 0 ++ beBytes 2 0x22F0 ++ [0x02, 0x81] ++ beBytes 1 k ++ [0x00] ++ e.key ++
    beBytes 4 (t / nsUnit + e.offset) ++ [0x02] ++ beBytes 1 ((4 + s.rate) * 2 ^ 4 + e.nch / 2 ^ 8) ++ beBytes 1 e.nch ++ [0x20] ++
    beBytes 2 (32 * e.nch) ++ [0x00, 0x00] ++
    (List.range 8).flatMap (fun j => chans.flatMap (fun c => beBytes 4 (c.getD j 0).toNat))

/-- One frame of an entry for one egress (R376, R388), which holds the entry version it is built from (R281). -/
def State.packOne (s : State) (k i : Nat) (e : StreamEntry) (bs : List Byte) (p : Nat) : State :=
  if !s.descFree then (s.noDesc 8).countEntry i 4
  else
    let r := s.takeDesc 1
    r.2.enqueue p ⟨bs, e.w6.testBit 8, e.w5 / 2 ^ 16 % 2 ^ 12, e.w5 / 2 ^ 28 % 8, e.w5 / 2 ^ 31 % 2,
      if e.aaf then .aaf i else .folio i, true, r.1, 0, 0, [(false, i, (s.txRetired k i).getD (s.tableEpoch false))]⟩

/-- Whether the claim in force lets AAF streams be sent (R362). -/
def State.sendsAaf (s : State) : Bool := s.claim.toNat / 2 ^ 16 % 2 ^ 8 == 0xC0

/-- The frames of one entry (R362, R376). A port of its mask that is not UP gets none, which TX_DROP counts (R399). -/
def State.packEntry (s : State) (k i : Nat) : State :=
  let e := s.txImage k i
  if e.aaf && !s.sendsAaf then s
  else
    let mask := (List.range 8).filter e.w6.testBit
    let ports := mask.filter s.portUp
    let s1 := (mask.filter (fun p => !s.portUp p)).foldl (fun t _ => t.countEntry i 4) s
    if ports.isEmpty then s1
    else
      let r := s1.txSamples k (e.w3 % 2 ^ 14) e.nch
      let bs := if e.aaf then r.2.aafBytes k e r.1 else r.2.folioBytes k e r.1
      ports.foldl (fun s p => s.packOne k i e bs p) r.2

/-- PACK_ENQUEUE at release(k) (R376). -/
def State.packEnqueue (s : State) (k : Nat) : State :=
  if s.bit Reg.STREAM_CTRL Fld.STREAM_CTRL_TX_EN then (s.txIndices k).foldl (fun s i => s.packEntry k i) s else s

/-! ### Transmission (R377, R378, R385, R389, R390, R392) -/

/-- The egress timestamp of a frame (R47, R320): of the allowed nanosecond the model takes 0 (log entry 88). -/
def State.departure (s : State) (p : Nat) (bs : List Byte) : Int :=
  (s.now : Int) + (if ptpEvent bs then s.tsAdj p Fld.FAB_TS_ADJ_TX else 0)

/-- The one-step stamp of a Sync message with twoStepFlag 0 (R390): originTimestamp in whole ns, the fraction in
correctionField. -/
def oneStepStamp (bs : List Byte) (t : Int) : List Byte :=
  let i := etherPos bs + 2
  if etherAt bs (i - 2) = 0x88F7 ∧ (bs.getD i 0).toNat % 16 = 0 ∧ !((bs.getD (i + 6) 0).toNat.testBit 1) then
    let n := (t % (ptWrap : Int)).toNat
    addCorrection (patch bs (i + 34) (beBytes 6 (ptSec n) ++ beBytes 4 (ptNs n))) i ((n % nsUnit / 2 ^ 16 : Nat) : Int)
  else bs

/-- The bytes of a frame as they leave egress p. -/
def State.stamp (s : State) (p : Nat) (f : QFrame) : List Byte :=
  let t := s.departure p f.bytes
  match f.kind with
  | .folio _ => patch (patch f.bytes 6 (s.macAddr p)) 22 (beBytes 4 s.claim.toNat)
  | .aaf _ => patch f.bytes 6 (s.macAddr p)
  | .referee => patch (patch f.bytes 6 (s.macAddr p)) 22 (beBytes 4 (ptSec s.now) ++ beBytes 4 (ptNs s.now))
  | .control true _ _ => oneStepStamp f.bytes t
  | .control false _ _ => f.bytes
  | .transit true => addCorrection f.bytes 14 (Int.fdiv (t - f.rxPt) (2 ^ 16 : Nat))
  | .transit false => f.bytes
  | .relay => patch f.bytes 6 (s.macAddr p)
  | .pause => f.bytes

/-- The timestamp record of a control frame with TS_REQ (R392). -/
def State.tsRecord (s : State) (p : Nat) (f : QFrame) : State :=
  match f.kind with
  | .control _ true cookie =>
    (s.hwPush (s.fld Reg.STREAM_TXQ Fld.STREAM_TXQ_TS) (ptBytes (s.departure p f.bytes) (p * 2 ^ 16) ++
      leBytes 4 cookie ++ List.replicate 12 0)).2
  | _ => s

/-- The frame that may start next, and the queues without it: TIMED before BULK (R385). -/
def Egress.next (e : Egress) : Option (QFrame × Egress) :=
  match e.timed with
  | f :: r => some (f, { e with timed := r })
  | [] =>
    match e.bulk with
    | f :: r => some (f, { e with bulk := r })
    | [] => none

/-- The PAUSE frame of a MAC (R336). -/
def State.pauseFrame (s : State) (p : Nat) : QFrame :=
  ⟨[0x01, 0x80, 0xC2, 0x00, 0x00, 0x01] ++ s.macAddr p ++ beBytes 2 0x8808 ++ beBytes 2 1 ++
    beBytes 2 (s.fld (Reg.MAC_PAUSE_TX p) Fld.MAC_PAUSE_TX_QUANTA) ++ List.replicate 42 0,
    false, 0, 0, 0, .pause, true, 0, 0, 0, []⟩

/-- The TIMED queue without the AAF frames at its head that the claim in force does not let start (R362): they are discarded. -/
def State.skipAaf (s : State) : List QFrame → List QFrame × State
  | [] => ([], s)
  | f :: r =>
    match f.kind with
    | .aaf _ => if s.sendsAaf then (f :: r, s) else (s.dropDesc f.desc).skipAaf r
    | _ => (f :: r, s)

/-- FRAME_TRANSMIT (R313, R335, R336, R352, R362, R385): the frame an egress starts next. -/
def State.startNext (s : State) (p : Nat) : State :=
  let e := s.egress p
  if !(s.portUp p) || !(s.bit (Reg.MAC_CTRL p) Fld.MAC_CTRL_TX_EN) || e.current.isSome then s
  else if s.bit (Reg.MAC_PAUSE_TX p) Fld.MAC_PAUSE_TX_PENDING then
    let f := s.pauseFrame p
    (s.setEgress p { e with current := some f, wire := f.bytes, stomped := false }).setBit (Reg.MAC_PAUSE_TX p)
      Fld.MAC_PAUSE_TX_PENDING false
  else if s.bit (Reg.MAC_STATUS p) Fld.MAC_STATUS_PAUSED then s
  else
    let q := s.skipAaf e.timed
    let e0 := { e with timed := q.1 }
    match e0.next with
    | none => q.2.setEgress p e0
    | some (f, e1) =>
      ((q.2.setEgress p e1).startFrame p { f with bytes := s.stamp p f } false).tsRecord p f

/-- FRAME_TRANSMIT, with the SUMMARY frames that are due in their queue (R629). -/
def State.frameTransmit (s : State) (p : Nat) : State := s.flushSummaries.startNext p

/-- TX_FRAMES of an entry (R399). -/
def State.countSent (s : State) (k : FrameKind) : State :=
  match k with
  | .folio i | .aaf i => s.countEntry i 0
  | _ => s

/-- FRAME_TRANSMIT_END (R351, R385, R388, R399). -/
def State.frameTransmitEnd (s : State) (p : Nat) : State :=
  let e := s.egress p
  match e.current with
  | none => s
  | some f =>
    let s1 := if e.stomped then s
      else if f.kind = .pause then s.count64 (Reg.MAC_COUNTER p 11) 1
      else ((s.count64 (Reg.MAC_COUNTER p 9) 1).count64 (Reg.MAC_COUNTER p 10) (e.wire.length + 4)).countSent f.kind
    (s1.endFrame f).setEgress p { e with current := none, stomped := false }

/-- TX_STALE (R387): the oldest frame of a queue. -/
def State.txStale (s : State) (p : Nat) (timed : Bool) : State :=
  let e := s.egress p
  let drop := fun (f : QFrame) (e1 : Egress) =>
    if f.enqPt + max 1000 (s.fld Reg.STREAM_STALE Fld.STREAM_STALE_STALE_NS) * nsUnit ≤ s.now then
      (((s.setEgress p e1).discardFrame f).countHold (Reg.STREAM_TX_STALE p) 1).raiseMs (limitKey 137 0) 137 p
    else s
  match timed, e.timed, e.bulk with
  | true, f :: r, _ => drop f { e with timed := r }
  | false, _, f :: r => drop f { e with bulk := r }
  | _, _, _ => s

/-- CONTROL_TX_DESCRIPTOR (R388, R392): the descriptor waits until a frame descriptor is free. PACK reads the buffer. -/
def State.controlTx (s : State) : State :=
  if !s.descFree then s
  else
    let r := s.hwPop (s.fld Reg.STREAM_TXQ Fld.STREAM_TXQ_CPU) 16
    match r.1 with
    | none => r.2
    | some d =>
      let w1 := leNat (slice d 4 4)
      let len := w1 % 2 ^ 14
      if len < 60 ∨ 9212 < len then
        (r.2.countHold Reg.STREAM_CPU_DROP 1).raiseMs (limitKey 139 0) 139 1
      else
        let rd := r.2.unitRead 11 (leNat (d.take 4)) len
        match rd.1 with
        | none => rd.2
        | some bs =>
          let ports := bitsSet 8 (w1 / 2 ^ 16)
          let td := rd.2.takeDesc ports.length
          ports.foldl (fun s p => s.enqueue p ⟨bs, false, 0, 0, 0,
            .control (w1.testBit 24) (w1.testBit 25) (leNat (slice d 8 2)), s.isTimed bs, td.1, 0, 0, []⟩) td.2

/-! ### Retiring entry versions (R281) -/

/-- Whether a frame uses an entry version that has retired. -/
def QFrame.holds (f : QFrame) (r : Bool × Nat × Nat × Nat) : Bool :=
  f.hold.any (fun h => h.1 == r.1 && h.2.1 == r.2.1 && decide ((r.2.2.1 + 2 ^ 8 - h.2.2) % 2 ^ 8 < 128))

/-- Every frame in flight. -/
def State.flying (s : State) : List QFrame :=
  s.stream.egress.flatMap (fun e => e.2.timed ++ e.2.bulk ++ e.2.current.toList)

/-- The retiring versions that frames still use: the others are freed. -/
def State.stillRetiring (s : State) : List (Bool × Nat × Nat × Nat) :=
  s.clause.retiring.filter (fun r => s.flying.any (fun f => f.holds r))

/-- Whether the spare version of an entry still drains (R282). -/
def State.draining (s : State) (mac : Bool) (i : Nat) : Bool := s.stillRetiring.any (fun r => r.1 == mac && r.2.1 == i)

/-- The queued frames of one port that hold a version of the given list leave it; their number. -/
def State.drainPort (s : State) (rs : List (Bool × Nat × Nat × Nat)) (p : Nat) : Nat × State :=
  let e := s.egress p
  let out := (e.timed ++ e.bulk).filter (fun f => rs.any f.holds)
  let keep := fun (l : List QFrame) => l.filter (fun f => !rs.any f.holds)
  (out.length, out.foldl (fun s f => s.dropDesc f.desc) (s.setEgress p { e with timed := keep e.timed, bulk := keep e.bulk }))

/-- The retiring versions whose 2 µs are over and that no frame holds are freed (R281). -/
def State.freeRetired (s : State) : State :=
  { s with clause := { s.clause with retiring := s.clause.retiring.filter (fun r =>
    s.stillRetiring.contains r || decide (s.now < r.2.2.2 + 2 * usUnit)) } }

/-- DRAIN_TIMEOUT of the oldest commit of a table whose 2 µs are over while frames still hold its versions (R281). A frame in
transmission has no further stage and finishes. -/
def State.drainTimeout (s : State) (mac : Bool) : State :=
  let s0 := s.freeRetired
  match s0.clause.retiring.find? (fun r => r.1 == mac && decide (r.2.2.2 + 2 * usUnit ≤ s.now)) with
  | none => s0
  | some c =>
    let mine := fun (r : Bool × Nat × Nat × Nat) => r.1 == mac && r.2.2.2 == c.2.2.2
    let rs := s0.clause.retiring.filter mine
    let s1 := { s0 with clause := { s0.clause with retiring := s0.clause.retiring.filter (fun r => !mine r) } }
    let r := (List.range 8).foldl (fun (a : Nat × State) p =>
      let d := a.2.drainPort rs p
      (a.1 + d.1, d.2)) (0, s1)
    (r.2.countHold Reg.CLAUSE_DRAIN_DISCARD r.1).raiseN 309 (bitOf mac + min r.1 0xFFFF * 2 ^ 16)

/-! ### The commands -/

/-- The command FRAME_RECEIVE. -/
def execFrameReceive (p : Fin 8) (f : RxFrame) (s : State) : Host.Outcome State Fault Refusal := .next (s.frameReceive p f)

/-- The command FRAME_TRANSMIT. -/
def execFrameTransmit (p : Fin 8) (s : State) : Host.Outcome State Fault Refusal := .next (s.frameTransmit p)

/-- The command FRAME_TRANSMIT_END. -/
def execFrameTransmitEnd (p : Fin 8) (s : State) : Host.Outcome State Fault Refusal := .next (s.frameTransmitEnd p)

/-- The command RX_WINDOW_CLOSE. -/
def execRxWindowClose (entry : Fin 8192) (folio : Nat) (s : State) : Host.Outcome State Fault Refusal :=
  .next (s.rxWindowClose entry folio)

/-- The command MAC_AGING_SWEEP. -/
def execMacAgingSweep (index : Fin 16384) (hit : Bool) (s : State) : Host.Outcome State Fault Refusal :=
  .next (s.agingSweep index hit)

/-- The command TX_STALE. -/
def execTxStale (p : Fin 8) (timed : Bool) (s : State) : Host.Outcome State Fault Refusal := .next (s.txStale p timed)

/-- The command CONTROL_TX_DESCRIPTOR. -/
def execControlTxDescriptor (s : State) : Host.Outcome State Fault Refusal := .next s.controlTx

/-- The command DRAIN_TIMEOUT. -/
def execDrainTimeout (table : Bool) (s : State) : Host.Outcome State Fault Refusal := .next (s.drainTimeout table)

end Sys2Proof.Machine
end

