-- ==== Sys2Proof/Machine/Redun.lean ====
section
/-! DEFINITION. Redundancy: the claim in force, referee frames, swap requests, felt sheets, the checker, and deckle
arbitration (R14-R18, R449-R494). -/

namespace Sys2Proof.Machine

/-- The unit identity. -/
def State.unitId (s : State) : Nat := s.fld Reg.REDUN_UNIT Fld.REDUN_UNIT_UNIT_ID

/-- The role rank of the claim in force. -/
def State.role (s : State) : Nat := s.claim.toNat / 2 ^ 16 % 2 ^ 8

/-- Whether a drop holds the claim at zero. -/
def State.dropped (s : State) : Bool := s.bit Reg.REDUN_STATUS Fld.REDUN_STATUS_DROPPED

/-- The state of the referee watch (R491): 0 solo, 1 REF_OK, 2 REF_LOST. -/
def State.refState (s : State) : Nat := s.fld Reg.REDUN_STATUS Fld.REDUN_STATUS_REF

/-- Whether epoch a is ahead of epoch b by 1-127 (R458). -/
def epochAhead (a b : Nat) : Bool :=
  let d := (a + 2 ^ 8 - b % 2 ^ 8) % 2 ^ 8
  decide (0 < d) && decide (d < 128)

/-- REDUN_CLAIM and ROLE by the epoch and role rank last adopted, the drop, and the output hold, which lasts with the claim at
zero until the device reset (R449, R451, R491, R570). -/
def State.syncClaim (s : State) : State :=
  let c := if s.dropped || s.bit Reg.SENT_STATUS Fld.SENT_STATUS_HOLDING then 0 else s.redun.epoch * 2 ^ 24 + s.redun.rank * 2 ^ 16 + s.unitId
  let rank := c / 2 ^ 16 % 2 ^ 8
  (s.setRegN Reg.REDUN_CLAIM c).setFld Reg.REDUN_STATUS Fld.REDUN_STATUS_ROLE
    (if rank = 0xC0 then 2 else if rank = 0x40 then 1 else 0)

/-- Write REF. -/
def State.setRef (s : State) (r : Nat) : State := s.setFld Reg.REDUN_STATUS Fld.REDUN_STATUS_REF r

/-- The pending adoption, and EPOCH_PENDING. -/
def State.setAdopt (s : State) (a : Option Adoption) : State :=
  { s with redun := { s.redun with adopt := a } }.setBit Reg.REDUN_STATUS Fld.REDUN_STATUS_EPOCH_PENDING a.isSome

/-- The felt lanes follow the pair settings: they stay powered down in solo operation, and start as R310 says in a pair
(R18). -/
def State.feltLanes (s : State) : State :=
  [8, 9].foldl (fun s n => if s.pair then s.laneStart n else if s.lane n = 0 then s else s.laneGo n 0 6 false) s

/-- Solo operation uses no referee frame: those still waiting are forgotten (R18). -/
def State.soloInbox (s : State) : State :=
  if s.pair then s else { s with redun := { s.redun with inbox := [] } }

/-- The claim that the commit of the pair settings forms (R16, R18, R450): a drop holds on (R452). The watch of a pair
starts in REF_LOST (R461). -/
def State.claimForm (s : State) : State :=
  let s1 := { s with redun := { s.redun with
    epoch := 0
    rank := if s.pair && !(s.bit Reg.REDUN_CTRL Fld.REDUN_CTRL_INIT_ACTIVE) then 0x40 else 0xC0
    ids := none } }.setAdopt none
  let s2 := if !s.pair then s1.setRef 0
    else if s.refState = 0 then { s1 with redun := { s1.redun with silent := 0, heard := false } }.setRef 2
    else s1
  s2.syncClaim.soloInbox.feltLanes

/-- A claim drop (R451, R452): by 0 a command, 1 the tally, 2 the sentinel. -/
def State.claimDrop (s : State) (by_ : Nat) : State :=
  let s1 := { s with redun := { s.redun with dropEpoch := s.redun.epoch } }
  ((s1.setBit Reg.REDUN_STATUS Fld.REDUN_STATUS_DROPPED true).syncClaim).raiseN 288 by_

/-- RECLAIM (R452): in solo operation the claim of R18. -/
def State.reclaim (s : State) : State :=
  if s.pair then s
  else
    ({ s with redun := { s.redun with epoch := 0, rank := 0xC0, ids := none } }.setBit Reg.REDUN_STATUS
      Fld.REDUN_STATUS_DROPPED false).syncClaim

/-! ### Adoption and the referee watch (R457-R461) -/

/-- The role rank that two identities give the unit (R459). -/
def State.rankOf (s : State) (active standby : Nat) : Nat :=
  if active = s.unitId then 0xC0 else if standby = s.unitId then 0x40 else 0

/-- An adoption takes effect (R452, R459). -/
def State.adoptNow (s : State) (a : Adoption) (late : Bool) : State :=
  let rank := s.rankOf a.active a.standby
  let s1 := { s with redun := { s.redun with
    epoch := a.epoch, rank := rank, ids := some (a.active, a.standby) } }.setAdopt none
  let s2 := if s.dropped && epochAhead a.epoch s.redun.dropEpoch then s1.setBit Reg.REDUN_STATUS Fld.REDUN_STATUS_DROPPED false
    else s1
  s2.syncClaim.raiseN 289 (a.epoch * 2 ^ 24 + rank * 2 ^ 16 + bitOf late)

/-- An accepted EPOCH frame restarts the watch (R461). -/
def State.watchHeard (s : State) : State :=
  let s1 := { s with redun := { s.redun with heard := true, silent := 0 } }
  if s1.refState = 2 then (s1.setRef 1).raiseN 292 (s1.redun.epoch * 2 ^ 24) else s1

/-- Whether a request waits for its answer. -/
def State.swapWaits (s : State) : Bool := s.bit Reg.REDUN_SWAP Fld.REDUN_SWAP_OUTSTANDING

/-- REQ_SEQ of the last request. -/
def State.reqSeq (s : State) : Nat := s.fld Reg.REDUN_SWAP Fld.REDUN_SWAP_REQ_SEQ

/-- The request ends (R465). -/
def State.endRequest (s : State) : State :=
  { s with redun := { s.redun with reqFolios := none } }.setBit Reg.REDUN_SWAP Fld.REDUN_SWAP_OUTSTANDING false

/-- An accepted EPOCH frame against the epoch in force or pending (R458, R465). Before a first adoption the unit knows no
identities: an equal epoch is a beacon when it gives the unit its own role rank. -/
def State.epochFrame (s : State) (h : List Byte) : State :=
  let epoch := (h.getD 16 0).toNat
  let a : Adoption := ⟨epoch, etherAt h 20, etherAt h 22, s.absPt (beNat (slice h 28 4)) (beNat (slice h 32 4)) 0⟩
  let cur := match s.redun.adopt with
    | some p => p.epoch
    | none => s.redun.epoch
  let same : Bool := match s.redun.adopt, s.redun.ids with
    | some p, _ => p.active == a.active && p.standby == a.standby
    | none, some i => i.1 == a.active && i.2 == a.standby
    | none, none => s.rankOf a.active a.standby == s.redun.rank
  let answered := s.swapWaits && etherAt h 26 == s.unitId && etherAt h 18 == s.reqSeq
  let s1 := if answered then s.endRequest else s
  if a.active = a.standby then s.countHold Reg.REDUN_REF_IGNORED 1
  else if epoch = cur then
    if same then
      (if s.redun.adopt.isNone then { s1 with redun := { s1.redun with ids := some (a.active, a.standby) } } else s1).watchHeard
    else s.countHold Reg.REDUN_REF_IGNORED 1
  else if epochAhead epoch cur then
    if a.eff ≤ (s.now : Int) then (s1.watchHeard).adoptNow a true else s1.watchHeard.setAdopt (some a)
  else s.countHold Reg.REDUN_REF_IGNORED 1

/-- The first accepted frame of a TYPE leaves the inbox. -/
def State.takeReferee (s : State) (type : Nat) : Option (List Byte) × State :=
  let is := fun (h : List Byte) => (h.getD 0 0).toNat % 16 == type
  match s.redun.inbox.find? is with
  | none => (none, s)
  | some h => (some h, { s with redun := { s.redun with inbox := s.redun.inbox.erase h } })

/-- EPOCH_RECEIVE (R458). -/
def State.epochReceive (s : State) : State :=
  match s.takeReferee 3 with
  | (none, _) => s
  | (some h, s1) => s1.epochFrame h

/-- EPOCH_ADOPT (R459): PT is at or after EFF. -/
def State.epochTake (s : State) : State :=
  match s.redun.adopt with
  | none => s
  | some a => if a.eff ≤ (s.now : Int) then s.adoptNow a false else s

/-- EPOCH_ADOPT with the drop of the same cycle, if any, by what made it (R451): the drop wins, and the adopted epoch is the
epoch in force at the drop (R460). -/
def State.epochAdopt (s : State) (drop : Option (Fin 3)) : State :=
  match drop with
  | none => s.epochTake
  | some d => s.epochTake.claimDrop d

/-- REF_LOST (R461). -/
def State.refLost (s : State) : State :=
  if s.refState = 1 ∧ 3 ≤ s.redun.silent then (s.setRef 2).raiseN 291 (s.redun.epoch * 2 ^ 24) else s

/-! ### Swap requests (R464, R465) -/

/-- HOLDOFF. -/
def State.holdoff (s : State) : Nat := s.fld Reg.REDUN_SWAP Fld.REDUN_SWAP_HOLDOFF

/-- A write of REDUN_CMD.SWAP (R464). -/
def State.swap (s : State) : State :=
  if s.pair ∧ s.refState = 1 ∧ !s.swapWaits ∧ s.holdoff = 0 then
    let q := if s.reqSeq = 0xFFFF then 1 else s.reqSeq + 1
    { (s.setFld Reg.REDUN_SWAP Fld.REDUN_SWAP_REQ_SEQ q).setBit Reg.REDUN_SWAP Fld.REDUN_SWAP_OUTSTANDING true with
      redun := { s.redun with reqFolios := none } }
  else (s.setFld Reg.REDUN_SWAP Fld.REDUN_SWAP_CAUSE 8).raiseN 293 (s.reqSeq + 8 * 2 ^ 16)

/-- SWAP_REFUSED_RECEIVE (R465). -/
def State.swapRefused (s : State) : State :=
  match s.takeReferee 4 with
  | (none, _) => s
  | (some h, s1) =>
    let cause := (h.getD 17 0).toNat
    if s1.swapWaits ∧ etherAt h 18 = s1.reqSeq then
      let s2 := ((s1.endRequest).setFld Reg.REDUN_SWAP Fld.REDUN_SWAP_CAUSE cause).setFld Reg.REDUN_SWAP
        Fld.REDUN_SWAP_HOLDOFF 4
      { s2 with redun := { s2.redun with holdPast := 0 } }.raiseN 293 (s1.reqSeq + cause % 2 ^ 4 * 2 ^ 16)
    else s1

/-- SWAP_TIMEOUT (R465). -/
def State.swapTimeout (s : State) : State :=
  match s.redun.reqFolios with
  | some n => if s.swapWaits ∧ 8 ≤ n then s.endRequest.raiseN 294 s.reqSeq else s
  | none => s

/-- HOLDOFF_EXPIRY (R465): 4 folios after the first folio boundary since the refusal. -/
def State.holdoffExpiry (s : State) : State :=
  if s.holdoff ≠ 0 ∧ 5 ≤ s.redun.holdPast then s.setFld Reg.REDUN_SWAP Fld.REDUN_SWAP_HOLDOFF 0 else s

/-! ### Referee frames that the unit sends (R454-R456, R464, R475) -/

/-- A referee frame on every UP port of REF_PORTS. The gloss and the source address are stamped at departure. -/
def State.sendReferee (s : State) (type : Nat) (body : List Byte) : State :=
  let mac := leBytes 4 (s.regN Reg.REDUN_REF_MAC_LO) ++ leBytes 2 (s.regN Reg.REDUN_REF_MAC_HI)
  let bs := padFrame (mac ++ List.replicate 6 0 ++ beBytes 2 (s.fld Reg.STREAM_ETYPE Fld.STREAM_ETYPE_REFEREE) ++
    beBytes 4 (2 ^ 28 + type * 2 ^ 24 + s.fld Reg.REDUN_UNIT Fld.REDUN_UNIT_PAIR) ++ beBytes 4 s.unitId ++
    List.replicate 8 0 ++ body)
  ((bitsSet 8 (s.fld Reg.REDUN_REF Fld.REDUN_REF_REF_PORTS)).filter s.portUp).foldl (fun s p =>
    if !s.descFree then s.noDesc 8
    else (s.takeDesc 1).2.enqueue p ⟨bs, false, 0, 0, 0, .referee, true, (s.takeDesc 1).1, 0, 0, []⟩) s

/-- HEARTBEAT (R455, R456). -/
def State.heartbeat (s : State) (k : Nat) : State :=
  s.sendReferee 1 (beBytes 4 k ++ beBytes 4 (s.feltUp + bitOf s.dropped * 4 + bitOf s.redun.sheetSeen * 8 +
    bitOf s.swapWaits * 16 + bitOf (s.reg Reg.GLOBAL_SUMMARY != 0) * 32 + s.redun.epoch * 2 ^ 24))

/-- The interface version of an IMAGE_ID: major in [15:8], minor in [7:0] (R583, R635). -/
def ifVersion (image : Nat) : Nat := image / 2 ^ 16

/-- HEALTH (R475), and its counts start anew. -/
def State.healthFrame (s : State) (k : Nat) : State :=
  let c := fun i => min (SMap.find 0 s.redun.health i) 0xFFFFFFFF
  let s1 := s.sendReferee 5 (beBytes 4 k ++ beBytes 4 (c 0) ++
    beBytes 4 (s.fld Reg.REDUN_MISMATCH_LAST Fld.REDUN_MISMATCH_LAST_PHRASE) ++ beBytes 4 (c 1) ++ beBytes 4 (c 2) ++
    beBytes 4 (c 3) ++ beBytes 4 (c 4) ++ beBytes 4 (c 5) ++ beBytes 4 (s.regN Reg.GLOBAL_SUMMARY % 2 ^ 10) ++
    beBytes 4 (ifVersion (s.regN Reg.BOOT_FW_CPA) + ifVersion (s.regN Reg.BOOT_FW_CPB) * 2 ^ 16) ++
    beBytes 4 (s.fld Reg.REDUN_STATUS Fld.REDUN_STATUS_FELT + bitOf s.dropped * 4 + s.redun.epoch * 2 ^ 24))
  { s1 with redun := { s1.redun with health := [] } }

/-- SWAP_REQ (R464): not in REF_LOST (R461). -/
def State.swapReq (s : State) : State :=
  if s.swapWaits ∧ s.refState = 1 then
    let s1 := s.sendReferee 2 (beBytes 4 s.reqSeq)
    { s1 with redun := { s1.redun with reqFolios := some ((s.redun.reqFolios.map (· + 1)).getD 0) } }
  else { s with redun := { s.redun with reqFolios := s.redun.reqFolios.map (· + 1) } }

/-- What REDUN does at the boundary of folio k in pair operation (R456, R461, R464, R465, R475). -/
def State.redunBoundary (s : State) (k : Nat) : State :=
  if s.pair then
    let r := s.redun
    let s1 := { s with redun := { r with
      silent := if r.heard then 0 else r.silent + 1, heard := false, holdPast := r.holdPast + 1 } }
    let s2 := if s1.holdoff = 0 then s1
      else s1.setFld Reg.REDUN_SWAP Fld.REDUN_SWAP_HOLDOFF (max 1 (min 4 (5 - s1.redun.holdPast)))
    let s3 := (s2.heartbeat k).swapReq
    let s4 := if k ≠ 0 ∧ ptSec (s3.boundary (k - 1)) < ptSec (s3.boundary k) then s3.healthFrame k else s3
    { s4 with redun := { s4.redun with sheetSeen := false } }
  else s

/-! ### Felt sheets (R466-R470) -/

/-- The felt service (R471): 0 DOWN, 1 DEGRADED, 2 FULL. -/
def State.felt (s : State) : Nat := s.fld Reg.REDUN_STATUS Fld.REDUN_STATUS_FELT

/-- The phrases of the felt table (R470). -/
def State.feltTable (s : State) : List Nat :=
  (List.range (s.fld Reg.REDUN_FELT_COUNT Fld.REDUN_FELT_COUNT_COUNT)).map (fun i =>
    (s.word ((s.regN Reg.REDUN_FELT_TAB + 4 * i) % 2 ^ 32)).toNat % 2 ^ 12)

/-- STATE_SIZE of a phrase. -/
def State.stateSize (s : State) (p : Nat) : Nat := s.pword p 4 % 2 ^ 24

/-- The sheet size (R470). -/
def State.sheetSize (s : State) : Nat :=
  let l := s.feltTable
  let nf := l.length
  80 + 16 * nf + 16 * ((nf + 255) / 256) +
    ((l.filter s.pStateful).map (fun p => s.stateSize p + 16 * ((s.stateSize p + 4095) / 4096))).foldl (· + ·) 0

/-- A felt block (R466). -/
def feltBlock (type folio phrase offset : Nat) (payload : List Byte) : List Byte :=
  let h := beBytes 4 (type * 2 ^ 28 + 2 ^ 24 + payload.length) ++ beBytes 4 folio ++
    beBytes 4 (phrase + offset * 2 ^ 12)
  h ++ beBytes 4 (crc32c (h ++ payload)).toNat ++ payload

/-- The input digest of folio k (R467). -/
def State.inputDigest (s : State) (k : Nat) : BitVec 64 :=
  ~~~(s.rxEntries.foldl (fun c i =>
    let e := s.entry i
    crc64 c (leBytes 4 i ++ s.read (e.slotAddr k) (32 * e.nch))) 0xFFFFFFFFFFFFFFFF)

/-- The digest of a phrase in the unit's own folio k, and whether it was substituted (R184). -/
def State.ownDigest (s : State) (k p : Nat) : Option (Bool × Nat) :=
  (s.redun.digests.find? (fun d => d.1 == k && d.2.1 == p)).map (fun d => (d.2.2.1, d.2.2.2.toNat))

/-- A list cut into pieces of n elements, at most `fuel` of them. -/
def chunks {α : Type} (n : Nat) : Nat → List α → List (List α)
  | 0, _ => []
  | f + 1, l => if l.isEmpty then [] else l.take n :: chunks n f (l.drop n)

/-- The HEAD payload of the sheet of folio k (R467). -/
def State.sheetHead (s : State) (k : Nat) : List Byte :=
  beBytes 4 s.claim.toNat ++ beBytes 4 (s.fld Reg.REDUN_UNIT Fld.REDUN_UNIT_PAIR * 2 ^ 16 + s.unitId) ++
    beBytes 4 (s.genOf k).toNat ++ beBytes 8 (s.inputDigest k).toNat ++ beBytes 4 s.feltTable.length ++
    beBytes 4 s.sheetSize ++
    beBytes 4 (s.regN Reg.BOOT_FW_CPA / 2 ^ 24 * 2 ^ 8 + s.regN Reg.BOOT_FW_CPB / 2 ^ 24) ++ List.replicate 16 0

/-- The digest entry of a phrase (R467). A phrase without a task in the folio has no digest: it is flagged SUB. -/
def State.digestEntry (s : State) (k p : Nat) : List Byte :=
  let d := (s.ownDigest k p).getD (true, 0)
  beBytes 4 (p + bitOf d.1 * 2 ^ 12) ++ beBytes 8 d.2 ++ List.replicate 4 0

/-- The STATE blocks of a phrase (R468). A state that cannot be read is sent as zeros. -/
def State.stateBlocks (s : State) (k p : Nat) : List (List Byte) × State :=
  let n := s.stateSize p
  let r := s.unitRead 12 ((s.pword p 3 + (k + 1) % 4 * n) % 2 ^ 32) n
  let bs := r.1.getD (List.replicate n 0)
  ((chunks 4096 (n / 4096 + 1) bs).mapIdx (fun i c => feltBlock 3 k p (256 * i) c), r.2)

/-- The STATE blocks of a list of phrases. -/
def State.allStates (s : State) (k : Nat) : List Nat → List (List Byte) × State
  | [] => ([], s)
  | p :: ps =>
    let r := s.stateBlocks k p
    let rest := State.allStates r.2 k ps
    (r.1 ++ rest.1, rest.2)

/-- The lane of a block: both lanes in turn, else the one that is UP (R468). -/
def State.feltLane (s : State) (i : Nat) : Nat := if s.feltUp = 3 then i % 2 else if s.feltUp = 2 then 1 else 0

/-- Whether a felt block is a TRACK block. -/
def isTrack (b : List Byte) : Bool := (b.getD 0 0).toNat / 2 ^ 4 == 4

/-- The blocks handed to the felt lanes, in the order in which they leave: every TRACK block ahead of the sheet blocks that
wait, block by block on the lanes in turn (R468). -/
def State.setFeltOut (s : State) (blocks : List (List Byte)) : State :=
  let order := blocks.filter isTrack ++ blocks.filter (fun b => !isTrack b)
  { s with redun := { s.redun with feltOut := order.mapIdx (fun i b => (s.feltLane i, b)) } }

/-- The TRACK blocks that still can reach the standby in time: those for folios after k (R249). -/
def State.tracksLeft (s : State) (k : Nat) : List (List Byte) :=
  (s.redun.feltOut.map (·.2)).filter (fun b => isTrack b && decide (k % 2 ^ 32 < beNat (slice b 4 4)))

/-- FELT_SHEET_SEND at release(k) (R468, R471): in pair operation, by the unit of rank 0xC0. -/
def State.feltSheetSend (s : State) (k : Nat) : State :=
  if s.pair ∧ s.role = 0xC0 ∧ s.felt ≠ 0 then
    let tab := s.feltTable
    let digs := (chunks 256 (tab.length / 256 + 1) tab).map (fun ps =>
      feltBlock 2 k 0 0 (ps.flatMap (fun p => s.digestEntry k p)))
    let r := s.allStates k (tab.filter s.pStateful)
    let blocks := [feltBlock 1 k 0 0 (s.sheetHead k)] ++ digs ++ r.1 ++ [feltBlock 5 k 0 0 []]
    { r.2 with redun := { r.2.redun with sheetSeen := true } }.setFeltOut (s.tracksLeft k ++ blocks)
  else s

/-- FELT_TRACK_SEND: the active's record of channel n for folio m (R467, R468). -/
def State.feltTrackSend (s : State) (n m : Nat) : State :=
  if s.pair ∧ s.role = 0xC0 ∧ s.felt ≠ 0 then
    match (s.srcCh n).tracks.find? (fun t => t.folio == m) with
    | none => s
    | some t =>
      let b := feltBlock 4 m n 0 (beBytes 4 (t.rho / 2 ^ 32) ++ beBytes 4 t.rho ++ beBytes 8 (lowInt 64 (t.pos * 1)))
      s.setFeltOut (s.redun.feltOut.map (·.2) ++ [b])
  else s

/-- The sheet of folio k as far as it has come. -/
def State.sheetOf (s : State) (k : Nat) : Sheet := (s.redun.sheets.find? (fun x => x.folio == k)).getD { folio := k }

/-- Keep a sheet as far as it has come, in place of what was kept of its folio. -/
def State.setSheet (s : State) (x : Sheet) : State :=
  { s with redun := { s.redun with sheets := s.redun.sheets.filter (fun y => y.folio != x.folio) ++ [x] } }

/-- The sheets of folios before r are judged and forgotten. -/
def State.sheetsFrom (s : State) (r : Nat) : State :=
  { s with redun := { s.redun with sheets := s.redun.sheets.filter (fun x => decide (r ≤ x.folio)) } }

/-- A sheet that is not complete is lost (R469). -/
def State.loseSheet (s : State) (k : Nat) : State :=
  ((s.countHold Reg.REDUN_SHEET_LOSS 1).healthAdd
    4).raiseFolio (limitKey 301 0) 301 (k % 2 ^ 16 * 2 ^ 16)

/-- SHEET_LOSS at release(r): the sheet of folio r - 1 has not come whole, though some of it came or the unit is the standby
of a pair with felt (R469). -/
def State.sheetLoss (s : State) (r : Nat) : State :=
  let due : Bool := s.redun.sheets.any (fun x => x.folio + 1 == r) || (s.pair && s.role == 0x40 && s.felt != 0)
  (if r ≠ 0 ∧ due ∧ !(s.sheetOf (r - 1)).closed then s.loseSheet (r - 1) else s).sheetsFrom r

/-! ### The checker (R472-R474) -/

/-- The state bytes of a phrase in a sheet, when all have come. -/
def Sheet.state (x : Sheet) (p n : Nat) : Option (List Byte) :=
  let parts := sortBy (fun (a b : Nat × Nat × List Byte) => decide (a.2.1 < b.2.1)) (x.states.filter (fun e => e.1 == p))
  let bs := parts.flatMap (fun e => e.2.2)
  if bs.length = n then some bs else none

/-- COUCH of a phrase (R473). -/
def State.couch (s : State) (x : Sheet) (p : Nat) : State :=
  let k := x.folio
  let waits : Bool := match s.task p (k + 1) with
    | some t => !t.disp
    | none => true
  let fits := decide (s.now + s.pword p 11 % 2 ^ 24 * (5 * nsUnit / 8) +
    s.fld Reg.SEQ_RECOMP Fld.SEQ_RECOMP_MARGIN * nsUnit ≤ s.deadlinePt (k + 1))
  match x.state p (s.stateSize p) with
  | some bs =>
    if waits || fits then
      let s1 := (s.unitWrite 12 ((s.pword p 3 + (k + 1) % 4 * s.stateSize p) % 2 ^ 32) bs).2
      ((s1.squash [p] (k + 1) true).countHold Reg.REDUN_COUCHED 1).healthAdd 2
    else ((s.countHold Reg.REDUN_COUCH_LATE 1).healthAdd 3).raiseFolio (limitKey 300 0) 300 p
  | none => s

/-- The comparison of one phrase (R472). -/
def State.comparePhrase (s : State) (x : Sheet) (p : Nat) : State :=
  match x.digests.find? (fun d => d.1 == p), s.ownDigest x.folio p with
  | some d, some o =>
    if d.2.1 || o.1 || d.2.2 == o.2 then s
    else
      let s1 := (s.countHold Reg.REDUN_MISMATCH 1).healthAdd 0
      let s2 := (s1.setRegN Reg.REDUN_MISMATCH_LAST (p + x.folio % 2 ^ 20 * 2 ^ 12)).raiseFolio (limitKey 298 0) 298
        (p + x.folio % 2 ^ 16 * 2 ^ 16)
      if s2.bit Reg.REDUN_CTRL Fld.REDUN_CTRL_COUCH_EN && s2.pStateful p then s2.couch x p else s2
  | _, _ => s

/-- SHEET_CHECK of a complete sheet (R472). Which cause is reported when the generation and the input digest both differ is
not stated: free (log entry 1). -/
def State.sheetCheck (s : State) (x : Sheet) (head : List Byte) : State :=
  if s.bit Reg.REDUN_CTRL Fld.REDUN_CTRL_CHECK_EN then
    let gen := beNat (slice head 8 4) != (s.genOf x.folio).toNat
    let input := beNat (slice head 12 8) != (s.inputDigest x.folio).toNat
    if gen || input then
      let cause := if gen && input then 1 + s.takeFree.1 % 2 else if gen then 2 else 1
      let s1 := if gen && input then s.takeFree.2 else s
      ((s1.countHold Reg.REDUN_INPUT_DIFF 1).healthAdd 1).raiseFolio (limitKey 299 0) 299
        (cause + x.folio % 2 ^ 16 * 2 ^ 16)
    else s.feltTable.foldl (fun s p => s.comparePhrase x p) s
  else s

/-! ### Felt blocks that arrive (R466, R469, R476) -/

/-- A folio index of 32 bits as the folio nearest to the current one. -/
def State.folioNear (s : State) (f : Nat) : Nat := ((s.folio : Int) + signed 32 (lowInt 32 ((f : Int) - s.folio))).toNat

/-- What a block adds to its sheet. -/
def Sheet.join (x : Sheet) (type phrase offset : Nat) (payload : List Byte) : Sheet :=
  let y := { x with bytes := x.bytes + 16 + payload.length }
  match type with
  | 1 => { y with head := some payload }
  | 2 => { y with digests := y.digests ++ (chunks 16 256 payload).map (fun e =>
      (beNat (e.take 4) % 2 ^ 12, (beNat (e.take 4)).testBit 12, beNat (slice e 4 8))) }
  | 3 => { y with states := y.states ++ [(phrase, 16 * offset, payload)] }
  | _ => { y with ended := true }

/-- A TRACK block that comes before E(8m) is kept for its folio (R249, R467). -/
def State.trackBlock (s : State) (n m : Nat) (payload : List Byte) : State :=
  if s.now < s.boundary m then
    let index := ((s.srcCh n).blocks.getLast?.map (·.1)).getD 0
    let t : Track := ⟨m, beNat (slice payload 2 6), signed 64 (beNat (slice payload 8 8)), index⟩
    { s with redun := { s.redun with
      tracks := s.redun.tracks.filter (fun e => decide (s.folio ≤ e.2.folio) && !(e.1 == n && e.2.folio == m)) ++ [(n, t)] } }
  else s

/-- The partner named in a HEAD must be the other unit of the pair (R476). -/
def State.headBad (s : State) (head : List Byte) : Bool :=
  etherAt head 4 != s.fld Reg.REDUN_UNIT Fld.REDUN_UNIT_PAIR || etherAt head 6 % 2 == s.unitId % 2

/-- A block joins the sheet of folio k, which is open until release(k + 1) or until it is complete or refused (R469, R476). -/
def State.sheetBlock (s : State) (k type phrase offset : Nat) (payload : List Byte) : State :=
  let old := s.sheetOf k
  if old.closed ∨ s.releasePt (k + 1) ≤ s.now then s
  else if type = 1 ∧ s.headBad payload then
    (s.setSheet { folio := k, closed := true }).raiseN 290 (etherAt payload 6)
  else
    let x := old.join type phrase offset payload
    match x.head with
    | some h =>
      if x.ended ∧ x.bytes = beNat (slice h 24 4) then
        let s1 := s.setSheet { folio := k, closed := true }
        { s1 with redun := { s1.redun with sheetSeen := true } }.sheetCheck x h
      else s.setSheet x
    | none => s.setSheet x

/-- FELT_BLOCK_RECEIVE (R466, R469, R471): a unit of rank 0xC0 discards every block; a block whose CRC fails is
discarded. -/
def State.feltBlockReceive (s : State) (lane : Nat) (bs : List Byte) : State :=
  let w0 := beNat (bs.take 4)
  let type := w0 / 2 ^ 28
  let payload := bs.drop 16
  let w2 := beNat (slice bs 8 4)
  if !s.pair ∨ s.role = 0xC0 ∨ s.lane (8 + lane) ≠ 4 ∨ s.felt = 0 ∨ w0 / 2 ^ 24 % 2 ^ 4 ≠ 1 ∨ type = 0 ∨ 5 < type ∨
      payload.length ≠ w0 % 2 ^ 13 ∨ beNat (slice bs 12 4) ≠ (crc32c (bs.take 12 ++ payload)).toNat then s
  else
    let k := s.folioNear (beNat (slice bs 4 4))
    if type = 4 then s.trackBlock (w2 % 2 ^ 6) k payload
    else s.sheetBlock k type (w2 % 2 ^ 12) (w2 / 2 ^ 12) payload

/-! ### Deckle arbitration (R477-R482) -/

/-- The deckle code (R479). -/
def State.deckleCode (s : State) : Nat :=
  bitOf (s.role == 0xC0) * 2 ^ 4 + s.claim.toNat / 2 ^ 24 % 2 ^ 3 * 2 + s.unitId % 2

/-- Whether the unit takes part in a window of port p (R480). -/
def State.takesPart (s : State) (p : Nat) : Bool :=
  s.shared p && s.fld (Reg.SAP_STATUS p) Fld.SAP_STATUS_STATE == 2 && s.role != 0 &&
    !(s.bit Reg.SENT_STATUS Fld.SENT_STATUS_HOLDING)

/-- The outcome of a window (R481): the code bits are compared from the most significant one; a released node reads 0. -/
def deckleWins (own : Nat) (partner : Option (BitVec 5)) : Bool :=
  match partner with
  | none => true
  | some c => decide (c.toNat ≤ own)

/-- DECKLE_ARBITRATION (R481, R482). -/
def State.deckle (s : State) (p : Nat) (partner : Option (BitVec 5)) (ack : Bool) : State :=
  let was := testBit (s.reg Reg.REDUN_DECKLE_WIN) p
  if s.takesPart p then
    let win := deckleWins s.deckleCode partner
    let s1 := { s.setReg Reg.REDUN_DECKLE_WIN (maskSet (s.reg Reg.REDUN_DECKLE_WIN) p win) with
      redun := { s.redun with decided := maskSet s.redun.decided p true } }
    let s2 := if s.redun.decided.toNat.testBit p && win != was then
        (s1.countHold Reg.REDUN_DECKLE_CHANGES 1).raiseMs (limitKey 302 p) 302 (p + bitOf win * 2 ^ 8)
      else s1
    if !win && !ack then (s2.countHold Reg.REDUN_DECKLE_NOACK 1).raiseMs (limitKey 303 p) 303 p else s2
  else s.setReg Reg.REDUN_DECKLE_WIN (maskSet (s.reg Reg.REDUN_DECKLE_WIN) p false)

/-! ### The commands -/

/-- The command EPOCH_RECEIVE. -/
def execEpochReceive (s : State) : Host.Outcome State Fault Refusal := .next s.epochReceive

/-- The command SWAP_REFUSED_RECEIVE. -/
def execSwapRefusedReceive (s : State) : Host.Outcome State Fault Refusal := .next s.swapRefused

/-- The command EPOCH_ADOPT. -/
def execEpochAdopt (drop : Option (Fin 3)) (s : State) : Host.Outcome State Fault Refusal := .next (s.epochAdopt drop)

/-- The command REF_LOST. -/
def execRefLost (s : State) : Host.Outcome State Fault Refusal := .next s.refLost

/-- The command SWAP. -/
def execSwap (s : State) : Host.Outcome State Fault Refusal := .next s.swap

/-- The command DROP. -/
def execDrop (s : State) : Host.Outcome State Fault Refusal := .next (s.claimDrop 0)

/-- The command RECLAIM: when DROP is written with it, the drop comes last. -/
def execReclaim (withDrop : Bool) (s : State) : Host.Outcome State Fault Refusal :=
  .next (if withDrop then s.reclaim.claimDrop 0 else s.reclaim)

/-- The command SWAP_TIMEOUT. -/
def execSwapTimeout (s : State) : Host.Outcome State Fault Refusal := .next s.swapTimeout

/-- The command HOLDOFF_EXPIRY. -/
def execHoldoffExpiry (s : State) : Host.Outcome State Fault Refusal := .next s.holdoffExpiry

/-- The command FELT_BLOCK_RECEIVE. -/
def execFeltBlockReceive (lane : Fin 2) (bytes : List Byte) (s : State) : Host.Outcome State Fault Refusal :=
  .next (s.feltBlockReceive lane bytes)

/-- The command DECKLE_ARBITRATION. -/
def execDeckleArbitration (p : Fin 32) (partner : Option (BitVec 5)) (ack : Bool) (s : State) :
    Host.Outcome State Fault Refusal :=
  .next (s.deckle p partner ack)

end Sys2Proof.Machine
end

