-- ==== Sys2Proof/Machine/Sap.lean ====
section
/-! DEFINITION. The serial audio ports (R495-R509). -/

namespace Sys2Proof.Machine

/-- A port. -/
def State.sapSt (s : State) (p : Nat) : SapSt := SMap.find {} s.sap p

/-- Write a port. -/
def State.setSapSt (s : State) (p : Nat) (c : SapSt) : State := { s with sap := SMap.set {} s.sap p c }

/-- The state of a port (R508): 0 OFF, 1 SEEK, 2 RUN, 3 LOST. -/
def State.sapState (s : State) (p : Nat) : Nat := s.fld (Reg.SAP_STATUS p) Fld.SAP_STATUS_STATE

/-- Write the state of a port. -/
def State.setSapState (s : State) (p st : Nat) : State := s.setFld (Reg.SAP_STATUS p) Fld.SAP_STATUS_STATE st

/-- A field of SAP_CTRL. -/
def State.sapCtl (s : State) (p : Nat) (f : Field) : Nat := s.fld (Reg.SAP_CTRL p) f

/-- Whether a port is in SRC mode. -/
def State.sapSrc (s : State) (p : Nat) : Bool := s.sapCtl p Fld.SAP_CTRL_MODE == 1

/-- The data width of a slot (R497, R498, R477). -/
def State.sapWidth (s : State) (p : Nat) (left : Bool) : Nat :=
  let w := match s.sapCtl p Fld.SAP_CTRL_WIDTH with | 0 => 16 | 1 => 20 | 2 => 24 | _ => 32
  if left && s.shared p then min 24 w else w

/-- The upper bits of a word, zero below them (R497). -/
def topBits (w : Word) (n : Nat) : Word := BitVec.ofNat 32 (w.toNat / 2 ^ (32 - n) * 2 ^ (32 - n))

/-! ### The judgement of a frame (R499, R504, R505) -/

/-- Whether a frame rate of 10^9 * 2^8 / period lies in the range of R241. -/
def State.sapRateOk (s : State) (period : Nat) : Bool :=
  let one := 256 * 1000000000
  decide (30000 * period ≤ one) && decide (one ≤ 200000 * period) && decide (s.hz * period ≤ 4 * one) &&
    decide (one ≤ 4 * s.hz * period)

/-- The start edge of a frame (R496): I2S places it at the falling BCLK edge after the one at which WS goes low, since the
rising edge between them is the first to sample WS low; left-justified places it at the edge at which WS goes high. -/
def State.sapEdge (s : State) (p : Nat) (f : SapFrame) : Nat :=
  if s.sapCtl p Fld.SAP_CTRL_FORMAT = 1 then f.wsHigh else f.wsLow + f.bclk

/-- Whether a start edge lies in the phase window: 200 ns to half a node sample period (R499). -/
def State.inPhase (s : State) (start : Nat) : Bool :=
  let d := start - edgePt s.hz (sampleAt s.hz start)
  decide (200 * nsUnit ≤ d) && decide (2 * d * s.hz ≤ secUnit)

/-- Whether the frame after the one that starts at a PT has the next index: at another rate than the node rate it does not
stay so, and the port stays out of RUN (R499, R504). -/
def State.atNodeRate (s : State) (start period : Nat) : Bool :=
  sampleAt s.hz (start + period * 2 ^ 24) == sampleAt s.hz start + 1

/-- The cause for which a frame is not good, 0 for a good one (R505, R507); a frame at another rate than the node rate does not
bring a port into RUN (R504). -/
def State.sapCause (s : State) (p : Nat) (f : SapFrame) : Nat :=
  if f.edges ≠ 64 then 1
  else if s.sapSrc p then (if s.sapRateOk f.period.toNat then 0 else 3)
  else if s.inPhase (s.sapEdge p f) && (s.sapState p == 2 || s.atNodeRate (s.sapEdge p f) f.period.toNat) then 0 else 2

/-- SAP_PERIOD, and in grid mode SAP_PHASE, of a frame (R499, R508). -/
def State.sapMeasure (s : State) (p : Nat) (f : SapFrame) : State :=
  let s1 := s.setFld (Reg.SAP_PERIOD p) Fld.SAP_PERIOD_PERIOD f.period.toNat
  if s.sapSrc p then s1
  else
    let d := (s.sapEdge p f - edgePt s.hz (sampleAt s.hz (s.sapEdge p f))) / nsUnit
    s1.setFld (Reg.SAP_PHASE p) Fld.SAP_PHASE_PHASE (min d 0x7FFF)

/-! ### Received data (R500, R501, R503) -/

/-- Place j of the block of folio m in the two slots (R500). -/
def State.sapPut (s : State) (p m j : Nat) (l r : Word) : State :=
  let a := s.regN (Reg.SAP_RXBASE p) + 64 * (m % 4) + 4 * j
  (s.unitPut (a % 2 ^ 32) (wordBytes l)).unitPut ((a + 32) % 2 ^ 32) (wordBytes r)

/-- Whether the feed of folio k has been signalled. A signal for a folio whose last frame lies ahead of PT was made before the
folio index fell back (by STEP, SET or a lower rate), and stands for nothing since. -/
def State.sapFed (s : State) (p k : Nat) : Bool :=
  let f := (s.sapSt p).fed
  decide (k < f) && decide (edgePt s.hz (8 * f - 1) ≤ s.now)

/-- The feed of folio m is signalled, once. -/
def State.sapFeed (s : State) (p m : Nat) : State :=
  if s.sapFed p m then s
  else (s.setSapSt p { s.sapSt p with fed := m + 1 }).feedSignal (s.fld (Reg.SAP_FEED p) Fld.SAP_FEED_FEED) m

/-- The sample of a grid-mode frame of index n (R500, R501). With RX_EN at 0 the whole block is written as zeros (R509). -/
def State.sapGrid (s : State) (p n : Nat) (l r : Word) : State :=
  let m := n / 8
  let j := n % 8
  let c := s.sapSt p
  let s1 := if s.sapCtl p Fld.SAP_CTRL_RX_EN = 1 then s.sapPut p m j l r
    else if j = 7 then (List.range 8).foldl (fun s i => s.sapPut p m i 0 0) s else s
  let s2 := s1.setSapSt p { c with got := n :: c.got.filter (fun i => decide (8 * m ≤ i) && i != n) }
  if j = 7 then s2.sapFeed p m else s2

/-- The sample of frame i of an SRC-mode port; each eight of them go to the channels that name the port (R503). -/
def State.sapBlock (s : State) (p i start : Nat) (l r : Word) : State :=
  let c := s.sapSt p
  let rx := s.sapCtl p Fld.SAP_CTRL_RX_EN == 1
  let ws := SMap.set 0 (SMap.set 0 c.words (i % 8) (if rx then l else 0)) (8 + i % 8) (if rx then r else 0)
  let pt := if i % 8 = 0 then start else c.blockPt
  let s1 := s.setSapSt p { c with words := ws, blockPt := pt }
  if i % 8 = 7 then
    (s1.srcOfPort p).foldl (fun s n =>
      s.srcBlock n (i - 7) pt ((List.range 8).map (fun j => SMap.find 0 ws (8 * (s.srcCh n).side + j)))) s1
  else s1

/-- The data of a frame received in RUN. -/
def State.sapData (s : State) (p start : Nat) (l r : Word) : State :=
  if s.sapSrc p then
    let i := s.reg64 (Reg.SAP_FRAMES p)
    (s.setReg64 (Reg.SAP_FRAMES p) (i + 1)).sapBlock p i start l r
  else s.sapGrid p (sampleAt s.hz start) l r

/-! ### The frame that starts (R502, R503, R570) -/

/-- Whether the sentinel holds the outputs. -/
def State.holding (s : State) : Bool := s.bit Reg.SENT_STATUS Fld.SENT_STATUS_HOLDING

/-- The length of a hold ramp in folios (R529, R547). -/
def State.holdRamp (s : State) : Nat := max 1 (s.fld Reg.AOUT_HOLD Fld.AOUT_HOLD_RAMP)

/-- The sample of a serial or analogue sink that is sent at index n (R502, R525): that of the folio released last. -/
def State.sinkNow (s : State) (sink n : Nat) : Word :=
  match s.seq.released with
  | none => 0
  | some k =>
    let first := 8 * k + s.latency + 8
    if first ≤ n ∧ n < first + 8 then SMap.find 0 s.mix.sinks (sink * 8 + (n - first)) else 0

/-- The sample that a grid-mode frame of index n sends in a slot (R502). -/
def State.gridOut (s : State) (p side n : Nat) : Word := s.sinkNow (16384 + 2 * p + side) n

/-- The sample that frame i of an SRC-mode port, which starts at sample n, sends in a slot, and the channel that computes
it (R243, R503). -/
def State.srcOut (s : State) (p side i n : Nat) : Word × State :=
  match (s.srcOfPort p).find? (fun c => (s.srcCh c).out && (s.srcCh c).side == side) with
  | none => (0, s)
  | some c =>
    let w := (s.srcCh c).outSample (n / 8) (n % 8) i
    (w, s.setSrcCh c { s.srcCh c with wrote := some (n / 8), lastOut := w })

/-- The two samples of the frame that starts at a PT. -/
def State.sapSamples (s : State) (p start : Nat) : Word × Word × State :=
  let n := sampleAt s.hz start
  if s.sapSrc p then
    let i := s.reg64 (Reg.SAP_FRAMES p)
    let l := s.srcOut p 0 i n
    let r := l.2.srcOut p 1 i n
    (l.1, r.1, r.2)
  else (s.gridOut p 0 n, s.gridOut p 1 n, s)

/-- A value of ramp frame m (R570). -/
def holdValue (v : Word) (m nr : Nat) : Word := wordOfInt (v.toInt - truncDiv (v.toInt * (m + 1 : Nat)) nr)

/-- What the frame that starts carries while the outputs are held (R570): the last frame, then the ramp, then zeros. -/
def State.sapHeld (s : State) (p : Nat) : State :=
  let c := s.sapSt p
  match c.ramp with
  | none => s
  | some (m, l, r) =>
    let nr := 8 * s.holdRamp
    if m < nr then s.setSapSt p { c with
      outL := topBits (holdValue l m nr) (s.sapWidth p true), outR := topBits (holdValue r m nr) (s.sapWidth p false),
      ramp := some (m + 1, l, r) }
    else s.setSapSt p { c with outL := 0, outR := 0 }

/-- Whether a port has data to send: one that is shared while the outputs are not held, another with TX_EN at 1 (R498,
R570). -/
def State.sapSends (s : State) (p : Nat) : Bool :=
  s.sapState p == 2 && (if s.shared p then !s.holding else s.sapCtl p Fld.SAP_CTRL_TX_EN == 1)

/-- The frame that starts at a PT (R498, R502, R503, R570): a port outside RUN, and one that is not shared with TX_EN at 0,
sends nothing. -/
def State.sapStart (s : State) (p start : Nat) : State :=
  if !s.sapSends p then
    s.setSapSt p { s.sapSt p with outL := 0, outR := 0 }
  else if s.holding then s.sapHeld p
  else
    let w := s.sapSamples p start
    w.2.2.setSapSt p { w.2.2.sapSt p with
      outL := topBits w.1 (s.sapWidth p true), outR := topBits w.2.1 (s.sapWidth p false) }

/-- Whether a port drives its data on SDOUT (R478, R482, R483, R498, R570): on a shared port the winner of the last window does, up
to the next one, unless the outputs are held. -/
def State.sdoutDrives (s : State) (p : Nat) : Bool :=
  s.sapSends p &&
    (!s.shared p || (s.redun.decided.toNat.testBit p && testBit (s.reg Reg.REDUN_DECKLE_WIN) p))

/-! ### Port states (R505) -/

/-- A port event, at most once per folio per port (R507). -/
def State.sapRaise (s : State) (p src w3 : Nat) : State := s.raiseFolio (limitKey src p) src (p + w3)

/-- A port enters SEEK. -/
def State.sapSeek (s : State) (p : Nat) : State :=
  (s.setSapSt p { s.sapSt p with good := 0, bad := 0, got := [], words := [] }).setSapState p 1

/-- A port enters RUN: the deckle window of a shared port is to be decided first (R483). -/
def State.sapRun (s : State) (p : Nat) : State :=
  let s1 := (s.setSapSt p { s.sapSt p with good := 0, bad := 0 }).setSapState p 2
  let s2 := if s.sapSrc p then s1.setReg64 (Reg.SAP_FRAMES p) 0 else s1
  { s2 with redun := { s2.redun with decided := maskSet s2.redun.decided p false } }.sapRaise p 240 0

/-- A frame judged in SEEK. -/
def State.sapInSeek (s : State) (p cause : Nat) : State :=
  let c := s.sapSt p
  if cause ≠ 0 then s.setSapSt p { c with good := 0 }
  else if 15 ≤ c.good then s.sapRun p
  else s.setSapSt p { c with good := c.good + 1 }

/-- A frame judged in RUN: one that is not good gives zeros and is counted, the second in a row ends RUN. -/
def State.sapInRun (s : State) (p cause : Nat) (f : SapFrame) : State :=
  if cause = 0 then
    (s.setSapSt p { s.sapSt p with bad := 0 }).sapData p (s.sapEdge p f) (topBits f.left (s.sapWidth p true))
      (topBits f.right (s.sapWidth p false))
  else
    let c := s.sapSt p
    let s1 := (s.setSapSt p { c with bad := c.bad + 1 }).sapData p (s.sapEdge p f) 0 0
    let s2 := (s1.countHold (Reg.SAP_FRAME_ERRS p) 1).sapRaise p 242 (cause * 2 ^ 8)
    if c.bad = 0 then s2 else s2.sapSeek p

/-- SAP_FRAME (R495-R505): the frame that has ended is judged, and the next one starts. -/
def State.sapFrame (s : State) (p : Nat) (f : SapFrame) : State :=
  if s.sapState p = 0 then s
  else
    let s1 := (if s.sapState p = 3 then s.sapSeek p else s).sapMeasure p f
    let cause := s1.sapCause p f
    let s2 := if s1.sapState p = 1 then s1.sapInSeek p cause else s1.sapInRun p cause f
    s2.sapStart p (s.sapEdge p f + f.period.toNat * 2 ^ 24)

/-- SAP_RX_MISS (R501, R509): at E(8k + 8) + T / 2 + 400 ns the samples of folio k that have not come are zero, all of them for
a port outside RUN or with RX_EN at 0. -/
def State.sapRxMiss (s : State) (p k : Nat) : State :=
  let c := s.sapSt p
  let due : Nat := edgePt s.hz (8 * k + 8) + secUnit / (2 * s.hz) + 400 * nsUnit
  if s.sapSrc p ∨ s.sapFed p k ∨ s.now < due then s
  else
    let missing := (List.range 8).filter (fun j =>
      s.sapState p != 2 || s.sapCtl p Fld.SAP_CTRL_RX_EN == 0 || !c.got.contains (8 * k + j))
    let s1 := missing.foldl (fun s j => s.sapPut p k j 0 0) s
    ((s1.countHold (Reg.SAP_RX_MISS p) 1).sapRaise p 243 (k % 2 ^ 16 * 2 ^ 16)).sapFeed p k

/-- SAP_LOST (R505, R506): a start edge in the same tick wins. -/
def State.sapLost (s : State) (p : Nat) (edge : Bool) : State :=
  if edge ∨ (s.sapState p ≠ 1 ∧ s.sapState p ≠ 2) then s
  else
    let c := s.sapSt p
    let s1 := (s.setSapSt p { c with good := 0, bad := 0, words := [], outL := 0, outR := 0 }).setSapState p 3
    (s1.srcOfPort p).foldl (fun s n => s.srcLost n) (s1.sapRaise p 241 0)

/-- SAP_CTRL_WRITE (R505, R509). -/
def State.sapCtrlWrite (s : State) (p : Nat) (data : Word) : State :=
  let a := Reg.SAP_CTRL p
  let on := Fld.SAP_CTRL_EN.get data == 1
  let was := s.bit a Fld.SAP_CTRL_EN
  if was ∧ s.fld a ⟨1, 6⟩ ≠ (⟨1, 6⟩ : Field).get data then s.raiseFolio (limitKey 244 p) 244 a
  else
    let s1 := s.writeRw a data
    if on == was then s1
    else if on then s1.sapSeek p
    else (s1.setSapSt p { fed := (s.sapSt p).fed }).setSapState p 0

/-! ### The commands -/

/-- The command SAP_CTRL_WRITE. -/
def execSapCtrlWrite (p : Fin 32) (data : Word) (s : State) : Host.Outcome State Fault Refusal :=
  .next (s.sapCtrlWrite p data)

/-- The command SAP_FRAME. -/
def execSapFrame (p : Fin 32) (f : SapFrame) (s : State) : Host.Outcome State Fault Refusal := .next (s.sapFrame p f)

/-- The command SAP_RX_MISS. -/
def execSapRxMiss (p : Fin 32) (k : Nat) (s : State) : Host.Outcome State Fault Refusal := .next (s.sapRxMiss p k)

/-- The command SAP_LOST. -/
def execSapLost (p : Fin 32) (edge : Bool) (s : State) : Host.Outcome State Fault Refusal := .next (s.sapLost p edge)

end Sys2Proof.Machine
end

