-- ==== Sys2Proof/Machine/Synth.lean ====
section
/-! DEFINITION. Clock synthesis (R80-R107): double-buffered updates, steering, and the lock decision. -/

namespace Sys2Proof.Machine

/-- Whether an address holds a staged value of PLL x: its own registers, or SYNTH_ROUTE, which the update of either PLL
applies (R88). -/
def synthOwns (x a : Nat) : Bool :=
  a == Reg.SYNTH_ROUTE || (decide (Reg.SYNTH_CTRL x ≤ a) && decide (a < Reg.SYNTH_CTRL x + 0x100))

/-- Stage a value of an SH register (R88, R92): the last one written before the update counts (R11). -/
def State.synthStage (s : State) (a : Nat) (w : Word) : State :=
  { s with synth := { s.synth with staged := SMap.put s.synth.staged a w } }

/-- The value of a SYNTH register after an update of PLL x. -/
def State.synthNext (s : State) (x a : Nat) : Word :=
  if synthOwns x a then SMap.find (s.reg a) s.synth.staged a else s.reg a

/-- R x 2^32 of a RATIO (R85). -/
def ratioFix (lo hi : Word) : Nat := hi.toNat % 256 * 2 ^ 32 + lo.toNat

/-- The refusal code of an update, 0 for none (R85, R93). OUT7 has no destination and its EN no effect (R88). Which code
is recorded when both hold is not stated: free (log entry 1). -/
def State.updateCode (s : State) (x : Nat) : Nat × State :=
  let divBad := (List.range 7).any (fun n =>
    let w := s.synthNext x (Reg.SYNTH_OUT_CFG x n)
    Fld.SYNTH_OUT_CFG_EN.get w == 1 && decide (Fld.SYNTH_OUT_CFG_DIV.get w < 2))
  let r := ratioFix (s.synthNext x (Reg.SYNTH_RATIO x)) (s.synthNext x (Reg.SYNTH_RATIO x + 4))
  let ratioBad := decide (5 * r < 96 * 2 ^ 32) || decide (1024 * 2 ^ 32 < 25 * r)
  if divBad && ratioBad then (1 + s.takeFree.1 % 2, s.takeFree.2)
  else (if divBad then 1 else if ratioBad then 2 else 0, s)

/-- A refused update or schedule (R91, R93). -/
def State.synthRefuse (s : State) (x code : Nat) : State :=
  ((s.setFld (Reg.SYNTH_STATUS x) Fld.SYNTH_STATUS_REFUSE code).setBit (Reg.SYNTH_CTRL x) Fld.SYNTH_CTRL_SCHED
    false).raiseN 14 (x + 2 * code)

/-- SYNTH_x_STEER from the correction held for the folio (R52, R86): the sum of adj / TIME_INCR_NOM and the edge term
err / (8 sample periods) within 1 ppm, within 200 ppm, times R, rounded toward zero. With TIME_INCR_NOM = 0 the manual states no
quotient: DESIGN CHOICE, it is divided by 1 (log entry 113). -/
def State.steerWord (s : State) (x : Nat) : Word :=
  let adj := SMap.find 0 s.time.servoC x
  let err := SMap.find 0 s.time.edge x
  let nom : Nat := s.reg64 Reg.TIME_INCR_NOM
  let ed : Nat := 256 * 8000000000
  let en := clampInt (-((ed / 1000000 : Nat) : Int)) ((ed / 1000000 : Nat) : Int) (err * (s.hz : Nat))
  let den : Int := ((max nom 1) * ed : Nat)
  let num := adj * (ed : Nat) + en * ((max nom 1 : Nat) : Int)
  let sat := clampInt (-den) den (num * 5000)
  let r : Int := (ratioFix (s.reg (Reg.SYNTH_RATIO x)) (s.reg (Reg.SYNTH_RATIO x + 4)) : Nat)
  wordOfInt (truncDiv (r * sat) (den * 5000))

/-- Whether TIME_SERVO_CTRL steers PLL x. -/
def State.steers (s : State) (x : Nat) : Bool :=
  s.bit Reg.TIME_SERVO_CTRL (if x = 0 then Fld.TIME_SERVO_CTRL_STEER_A else Fld.TIME_SERVO_CTRL_STEER_B)

/-- Whether STEER is frozen: LOCK has fallen on a PLL that was locked (R98). -/
def State.steerFrozen (s : State) (x : Nat) : Bool :=
  s.synth.wasLocked.toNat.testBit x && !(s.bit (Reg.SYNTH_STATUS x) Fld.SYNTH_STATUS_LOCK)

/-- The correction of a folio taken at its boundary (R51, R52, R86, R98). -/
def State.steerFolio (s : State) (x : Nat) (err : Int) : State :=
  if s.steers x then
    let s1 := s.setReg (Reg.TIME_EDGE_ERR x) (wordOfInt err)
    if s.steerFrozen x then s1
    else
      let s2 := { s1 with time := { s1.time with
        servoC := SMap.set 0 s1.time.servoC x s1.adj, edge := SMap.set 0 s1.time.edge x err } }
      s2.setReg (Reg.SYNTH_STEER x) (s2.steerWord x)
  else s

/-- A cause of re-alignment of the A-die converters that PLL x clocks (R53, R516, R518): the inputs wait for their
synchronising reset, the outputs for theirs. -/
def State.resyncAin (s : State) (cause : Nat) : State :=
  { s with ain := { s.ain with
    sync := s.ain.sync ++ [cause], syncFolio := if s.ain.sync.isEmpty then s.folio else s.ain.syncFolio } }

/-- The outputs re-align at the next folio boundary (R518). -/
def State.resyncAout (s : State) : State := { s with aout := { s.aout with sync := true } }

/-- The consumers of the synthesis outputs (R88); OUT7 has none. -/
inductive Consumer where
  | audioRef (x : Fin 2) | ain | dac | classD | pump | mclk (i : Fin 4)
  deriving DecidableEq, Repr

/-- The PLL and the output that drive a consumer (R88): the A-die consumers by SYNTH_ROUTE (R104), the others fixed. -/
def State.clockOf (s : State) (c : Consumer) : Nat × Nat :=
  match c with
  | .audioRef x => (x, 0)
  | .ain => (s.fld Reg.SYNTH_ROUTE Fld.SYNTH_ROUTE_AIN_SRC, 1)
  | .dac => (s.fld Reg.SYNTH_ROUTE Fld.SYNTH_ROUTE_DAC_SRC, 2)
  | .classD => (s.fld Reg.SYNTH_ROUTE Fld.SYNTH_ROUTE_CLASSD_SRC, 3)
  | .pump => (s.fld Reg.SYNTH_ROUTE Fld.SYNTH_ROUTE_DAC_SRC, 4)
  | .mclk i => (i.val / 2, 5 + i.val % 2)

/-- Whether PLL x drives the inputs. -/
def State.drivesAin (s : State) (x : Nat) : Bool := (s.clockOf .ain).1 == x

/-- Whether PLL x drives the line and headphone outputs. -/
def State.drivesDac (s : State) (x : Nat) : Bool := (s.clockOf .dac).1 == x

/-- Whether output n of PLL x toggles: the PLL enabled, its outputs not gated, and the output enabled; it drives low
otherwise (R87, R94, R99, R106). -/
def State.outRuns (s : State) (x n : Nat) : Bool :=
  s.bit (Reg.SYNTH_CTRL x) Fld.SYNTH_CTRL_ENABLE && !s.bit (Reg.SYNTH_STATUS x) Fld.SYNTH_STATUS_GATED &&
    s.bit (Reg.SYNTH_OUT_CFG x n) Fld.SYNTH_OUT_CFG_EN

/-- Whether a consumer has its clock. -/
def State.clocked (s : State) (c : Consumer) : Bool := s.outRuns (s.clockOf c).1 (s.clockOf c).2

/-- An edge slip or a relock of PLL x re-aligns the converters it drives (R53, R516, R518). -/
def State.resync (s : State) (x cause : Nat) : State :=
  let s1 := if s.drivesAin x then s.resyncAin cause else s
  if s.drivesDac x then s1.resyncAout else s1

/-- Whether an update changed DIV, DELAY or EN of output n of PLL x. -/
def outChanged (s t : State) (x n : Nat) : Bool := s.reg (Reg.SYNTH_OUT_CFG x n) != t.reg (Reg.SYNTH_OUT_CFG x n)

/-- What an update of PLL x from state s to t does to the converters (R90, R516, R518). -/
def State.resyncUpdate (s t : State) (x : Nat) : State :=
  let ain := s.fld Reg.SYNTH_ROUTE Fld.SYNTH_ROUTE_AIN_SRC != t.fld Reg.SYNTH_ROUTE Fld.SYNTH_ROUTE_AIN_SRC ||
    (t.drivesAin x && outChanged s t x 1)
  let dac := s.fld Reg.SYNTH_ROUTE Fld.SYNTH_ROUTE_DAC_SRC != t.fld Reg.SYNTH_ROUTE Fld.SYNTH_ROUTE_DAC_SRC ||
    (t.drivesDac x && outChanged s t x 2)
  let t1 := if ain then t.resyncAin 2 else t
  if dac then t1.resyncAout else t1

/-- The staged values of PLL x written into their registers. -/
def State.synthApply (s : State) (x : Nat) : State :=
  let mine := s.synth.staged.filter (fun e => synthOwns x e.1)
  let s1 := { s with synth := { s.synth with staged := s.synth.staged.filter (fun e => !synthOwns x e.1) } }
  mine.foldl (fun s e => s.setReg e.1 e.2) s1

/-- An update of PLL x (R89, R92-R94): all staged values or none. A change of R by more than 500 ppm gates the outputs
until LOCK is 1 again, and STEER is computed anew against R. The update itself leaves LOCK as it stands, so that the gating
lasts until LOCK has fallen and risen: DESIGN CHOICE (log entry 94). Every update clears SCHED (R105), that of a clause commit
before UPDATE_PT too, which R92 does not name: DESIGN CHOICE (log entry 114). -/
def State.synthUpdate (s : State) (x : Nat) : State :=
  let r := s.updateCode x
  if r.1 ≠ 0 then r.2.synthRefuse x r.1
  else
    let old := ratioFix (s.reg (Reg.SYNTH_RATIO x)) (s.reg (Reg.SYNTH_RATIO x + 4))
    let s1 := s.synthApply x
    let new := ratioFix (s1.reg (Reg.SYNTH_RATIO x)) (s1.reg (Reg.SYNTH_RATIO x + 4))
    let s2 := s1.setBit (Reg.SYNTH_CTRL x) Fld.SYNTH_CTRL_SCHED false
    let s3 := if old * 500 < ((new : Int) - (old : Int)).natAbs * 1000000 then
        s2.setBit (Reg.SYNTH_STATUS x) Fld.SYNTH_STATUS_GATED true else s2
    let s4 := s.resyncUpdate s3 x
    if s4.steers x && !s4.steerFrozen x then s4.setReg (Reg.SYNTH_STEER x) (s4.steerWord x) else s4

/-- SYNTH_x_UPDATE_PT as an absolute PT (R101, R6). -/
def State.updatePt (s : State) (x : Nat) : Int :=
  let a := Reg.SYNTH_UPDATE_PT x
  s.absPt (s.regN (a + 8)) (s.regN (a + 4)) (s.regN a)

/-- A write of 1 to SCHED (R91). -/
def State.synthSched (s : State) (x : Nat) : State :=
  if s.updatePt x < ((s.now + usUnit : Nat) : Int) then s.synthRefuse x 3
  else s.setBit (Reg.SYNTH_CTRL x) Fld.SYNTH_CTRL_SCHED true

/-- A write of ENABLE (R99). The outputs of a PLL that is enabled are gated until LOCK is 1 (start-up order, step 3; log
entry 17). -/
def State.synthEnable (s : State) (x : Nat) (data : Word) : State :=
  let was := s.bit (Reg.SYNTH_CTRL x) Fld.SYNTH_CTRL_ENABLE
  let en := Fld.SYNTH_CTRL_ENABLE.get data == 1
  let s1 := s.setBit (Reg.SYNTH_CTRL x) Fld.SYNTH_CTRL_ENABLE en
  if en && !was then s1.setBit (Reg.SYNTH_STATUS x) Fld.SYNTH_STATUS_GATED true else s1

/-- The read-back voltage of the lock pin, 16 mV per LSB (R106). -/
def State.lockV (s : State) (x : Nat) (v : BitVec 8) : State :=
  s.setFld (Reg.SYNTH_STATUS x) Fld.SYNTH_STATUS_LOCK_V v.toNat

/-- SYNTH_LOCK (R96, R94): not while FILTER_ERR holds LOCK at 0, nor before the pin has fallen after a fast loss. The
thresholds of R96 are compared with 16 mV times the read-back code: DESIGN CHOICE (log entry 95). -/
def State.synthLock (s : State) (x : Nat) (v : BitVec 8) : State :=
  let st := Reg.SYNTH_STATUS x
  let s1 := s.lockV x v
  if 1500 ≤ 16 * v.toNat ∧ !s.bit st Fld.SYNTH_STATUS_LOCK ∧ !s.bit st Fld.SYNTH_STATUS_FILTER_ERR ∧
      !s.synth.fastLoss.toNat.testBit x then
    let s2 := (s1.setBit st Fld.SYNTH_STATUS_LOCK true).setBit st Fld.SYNTH_STATUS_GATED false
    let s3 := if s.synth.wasLocked.toNat.testBit x then s2.resync x 2 else s2
    { s3 with synth := { s3.synth with wasLocked := maskSet s3.synth.wasLocked x true } }.raiseN (12 + x) v.toNat
  else s1

/-- LOCK falls, with SYNTH_UNLOCK_x, on a PLL whose LOCK is 1. -/
def State.lockFalls (s : State) (x : Nat) (v : BitVec 8) : State :=
  if s.bit (Reg.SYNTH_STATUS x) Fld.SYNTH_STATUS_LOCK then
    (s.setBit (Reg.SYNTH_STATUS x) Fld.SYNTH_STATUS_LOCK false).raiseN (10 + x) v.toNat
  else s

/-- SYNTH_UNLOCK (R96): the lock decision of a PLL in fast loss resumes here. -/
def State.synthUnlock (s : State) (x : Nat) (v : BitVec 8) : State :=
  let s1 := s.lockV x v
  if 16 * v.toNat ≤ 500 then
    { s1 with synth := { s1.synth with fastLoss := maskSet s1.synth.fastLoss x false } }.lockFalls x v
  else s1

/-- SYNTH_FAST_LOSS (R96). -/
def State.synthFastLoss (s : State) (x : Nat) (v : BitVec 8) : State :=
  let s1 := s.lockV x v
  { s1 with synth := { s1.synth with fastLoss := maskSet s1.synth.fastLoss x (decide (500 < 16 * v.toNat)) } }.lockFalls x v

/-- SYNTH_FILTER_ERR (R96). FILTER_ERR and its hold of LOCK stay until a reset, V falling below 3.00 V or not: DESIGN CHOICE
(log entry 96). -/
def State.synthFilterErr (s : State) (x : Nat) (v : BitVec 8) : State :=
  let st := Reg.SYNTH_STATUS x
  let s1 := s.lockV x v
  if 3000 ≤ 16 * v.toNat ∧ !s.bit st Fld.SYNTH_STATUS_FILTER_ERR then
    ((s1.setBit st Fld.SYNTH_STATUS_FILTER_ERR true).setBit st Fld.SYNTH_STATUS_LOCK false).raiseN 15 x
  else s1

/-- The command SYNTH_CTRL_WRITE. -/
def execSynthCtrlWrite (x : Fin 2) (data : Word) (s : State) : Host.Outcome State Fault Refusal :=
  .next (s.synthEnable x data)

/-- The command UPDATE. -/
def execUpdate (x : Fin 2) (s : State) : Host.Outcome State Fault Refusal := .next (s.synthUpdate x)

/-- The command SYNTH_SCHED. -/
def execSynthSched (x : Fin 2) (s : State) : Host.Outcome State Fault Refusal := .next (s.synthSched x)

/-- The command SYNTH_CANCEL (R105). -/
def execSynthCancel (x : Fin 2) (s : State) : Host.Outcome State Fault Refusal :=
  .next (s.setBit (Reg.SYNTH_CTRL x) Fld.SYNTH_CTRL_SCHED false)

/-- The command SYNTH_LOCK. -/
def execSynthLock (x : Fin 2) (v : BitVec 8) (s : State) : Host.Outcome State Fault Refusal := .next (s.synthLock x v)

/-- The command SYNTH_UNLOCK. -/
def execSynthUnlock (x : Fin 2) (v : BitVec 8) (s : State) : Host.Outcome State Fault Refusal :=
  .next (s.synthUnlock x v)

/-- The command SYNTH_FAST_LOSS. -/
def execSynthFastLoss (x : Fin 2) (v : BitVec 8) (s : State) : Host.Outcome State Fault Refusal :=
  .next (s.synthFastLoss x v)

/-- The command SYNTH_FILTER_ERR. -/
def execSynthFilterErr (x : Fin 2) (v : BitVec 8) (s : State) : Host.Outcome State Fault Refusal :=
  .next (s.synthFilterErr x v)

end Sys2Proof.Machine
end

