-- ==== Sys2Proof/Machine/Ain.lean ====
section
/-! DEFINITION. The analogue inputs: blocks, synchronising reset, gains, phantom muting, background calibration and the load
class (R510-R524). -/

namespace Sys2Proof.Machine

/-! ### Records (R521, R522) -/

/-- T16: the A-die temperature in 1/16 °C (R521). -/
def State.t16 (s : State) : Int := signed 16 (s.fld Reg.HADC_TEMP Fld.HADC_TEMP_ADIE)

/-- The load class (R523). -/
def State.loadClass (s : State) : Nat := s.fld Reg.HADC_LOAD Fld.HADC_LOAD_LCLASS

/-- Whether a record lies in its temperature range (R521). -/
def State.calTempOk (s : State) (r : CalRec) : Bool := decide ((s.t16 - r.temp).natAbs ≤ 96)

/-- Whether a record is VALID (R521). -/
def State.calOk (s : State) (r : CalRec) : Bool := s.calTempOk r && r.lclass == s.loadClass

/-- OFF (R522). -/
def CalRec.off (r : CalRec) (dt : Int) : Int := r.offset.toInt + Int.fdiv (r.slope.toInt * dt) 16

/-- G (R522). -/
def CalRec.g (r : CalRec) (dt : Int) : Int := (r.gcorr.toNat : Int) + r.gslope.toInt * dt

/-- A raw result corrected, exactly (R522); without a record OFF is 0 and G is 2^31. -/
def State.corrected (s : State) (r : Option CalRec) (x : Int) : Int :=
  match r with
  | none => x
  | some c => Int.fdiv ((x - c.off (s.t16 - c.temp)) * c.g (s.t16 - c.temp)) (2 ^ 31 : Nat)

/-- Whether a calibration finds an offset beyond `lim` or a gain whose correction lies more than 1 / `per` from 1 (R524,
R543). -/
def calBeyond (r : CalRecord) (lim per : Nat) : Bool :=
  decide (lim < r.offset.toInt.natAbs) || decide (2 ^ 31 < per * ((r.gcorr.toNat : Int) - (2 ^ 31 : Nat)).natAbs)

/-- The record that a calibration measures now (R519, R521, R546). -/
def State.takeCal (s : State) (r : CalRecord) : CalRec :=
  ⟨s.t16, s.loadClass, r.offset, r.gcorr, r.slope, r.gslope, BitVec.ofNat 32 (ptSec s.now)⟩

/-- CAL0-CAL3 of a record at the registers that show it (R546, R549). -/
def State.showCal (s : State) (a : Nat) (r : CalRec) : State :=
  (((s.setRegN a (lowInt 16 r.temp + r.lclass * 2 ^ 16)).setReg (a + 4) r.offset).setReg (a + 8) r.gcorr).setRegN (a + 12)
    (r.slope.toNat + r.gslope.toNat * 2 ^ 16)

/-! ### Channels -/

/-- The modulator that serves a channel (R519). -/
def State.ainMod (s : State) (c : Nat) : Nat := s.fld (Reg.AIN_CH_STATE c) Fld.AIN_CH_STATE_MOD

/-- The calibration state of a channel (R546): 0 NONE, 1 VALID, 2 STALE. -/
def State.ainCal (s : State) (c : Nat) : Nat := s.fld (Reg.AIN_CH_STATE c) Fld.AIN_CH_STATE_CAL

/-- Write the calibration state of a channel. -/
def State.setAinCal (s : State) (c st : Nat) : State := s.setFld (Reg.AIN_CH_STATE c) Fld.AIN_CH_STATE_CAL st

/-- The record of a modulator. -/
def State.ainRec (s : State) (m : Nat) : Option CalRec := SMap.find none s.ain.recs m

/-- The record in use for a channel: none in state NONE (R522). -/
def State.chanRec (s : State) (c : Nat) : Option CalRec := if s.ainCal c = 0 then none else s.ainRec (s.ainMod c)

/-- The record that corrects folio k of a channel: the folios before a spare takes it over keep the record of the modulator
that has served them (R519). -/
def State.chanRecAt (s : State) (c k : Nat) : Option CalRec :=
  match s.ain.step with
  | some st => if st.ch = c ∧ st.left = 0 ∧ k < st.first then st.old else s.chanRec c
  | none => s.chanRec c

/-- A channel enters STALE (R521). Which reason is reported when both hold is not stated: free (log entry 1). -/
def State.ainStale (s : State) (c : Nat) (r : CalRec) : State :=
  let temp := !s.calTempOk r
  let cls := r.lclass != s.loadClass
  let s1 := if temp && cls then s.takeFree.2 else s
  let b := if temp && cls then s.takeFree.1 % 2 else bitOf cls
  (s1.setAinCal c 2).raiseN 257 (c + b * 2 ^ 4)

/-- The state of one channel follows its record (R521); after a stop of the rotation STALE stays (R524). -/
def State.recheckCh (s : State) (c : Nat) : State :=
  match s.chanRec c with
  | none => s
  | some r =>
    if s.calOk r then
      (if s.bit Reg.AIN_STATUS Fld.AIN_STATUS_CAL_STOPPED && s.ainCal c == 2 then s else s.setAinCal c 1)
    else if s.ainCal c = 2 then s
    else s.ainStale c r

/-- The states of all channels follow a change of temperature or of load class. -/
def State.recheckAin (s : State) : State := (List.range 16).foldl State.recheckCh s

/-! ### Synchronising reset (R516, R517) -/

/-- The settling times that are not over at sample n of a state: one that starts ahead of PT was begun before the folio index
fell back (by SET, STEP or a lower rate), and stands for nothing since. -/
def State.settling (s : State) (n : Nat) : List Nat :=
  s.ain.settle.filter (fun a => decide (n < a + 40) && decide (edgePt s.hz a ≤ s.now))

/-- AIN_SYNC: at the first folio boundary after the cause, in whatever folio PT stands by then. The block of the folio before may
still be written (R512), and an earlier settling time stands for it (R517). Which cause is reported when
several wait is not stated: free (log entry 1). -/
def State.ainSync (s : State) : State :=
  match s.ain.sync with
  | [] => s
  | c :: cs =>
    if s.folio = s.ain.syncFolio then s
    else
      let mixed := cs.any (· != c)
      let cause := if mixed then (c :: cs).getD (s.takeFree.1 % (cs.length + 1)) c else c
      let s1 := if mixed then s.takeFree.2 else s
      let s2 := { s1 with ain := { s1.ain with
        sync := [], settle := s.settling (8 * s.folio - 8) ++ [8 * s.folio] } }
      let s3 := (List.range 16).foldl (fun s c => s.setBit (Reg.AIN_CH_STATE c) Fld.AIN_CH_STATE_SETTLING true)
        (s2.setFld Reg.AIN_STATUS Fld.AIN_STATUS_SETTLING 0xFFFF)
      (s3.countHold Reg.AIN_SYNC_COUNT 1).raiseN 256 (0xFFFF + cause * 2 ^ 16)

/-- Whether sample n falls in a settling time (R517). -/
def State.settles (s : State) (n : Nat) : Bool := s.ain.settle.any (fun a => decide (a ≤ n) && decide (n < a + 40))

/-- Settling ends when its last sample has been written (R517). -/
def State.ainSettled (s : State) (k : Nat) : State :=
  let s1 := { s with ain := { s.ain with settle := s.settling (8 * k + 8) } }
  if !s.ain.settle.isEmpty ∧ s1.ain.settle.isEmpty then
    (List.range 16).foldl (fun s c => s.setBit (Reg.AIN_CH_STATE c) Fld.AIN_CH_STATE_SETTLING false)
      (s1.setFld Reg.AIN_STATUS Fld.AIN_STATUS_SETTLING 0)
  else s1

/-! ### Phantom muting (R515) -/

/-- The phantom phase of a channel. -/
def State.phantom (s : State) (c : Nat) : Phantom := SMap.find Phantom.none s.ain.phantom c

/-- Write the phantom phase of a channel, with PH_MUTE. -/
def State.setPhantom (s : State) (c : Nat) (p : Phantom) : State :=
  { s with ain := { s.ain with phantom := SMap.set Phantom.none s.ain.phantom c p } }.setBit (Reg.AIN_CH_STATE c)
    Fld.AIN_CH_STATE_PH_MUTE (p == Phantom.muted)

/-- The ON state of lamp l has changed in switch mode. A change during the mute only restarts its 300 ms, which are the
environment's (log entry 11). -/
def State.phantomChange (s : State) (l : Nat) : State :=
  (List.range 16).foldl (fun s c =>
    let a := Reg.AIN_CH_CFG c
    if s.bit a Fld.AIN_CH_CFG_PH_EN && s.fld a Fld.AIN_CH_CFG_PH_LAMP == l then
      (match s.phantom c with
       | .none => s.setPhantom c .rampDown
       | .rampUp => s.setPhantom c .rampDown
       | _ => s)
    else s) s

/-- A sample under the phantom phase at place j: the law of R228 with NR = 8. -/
def phantomSample (p : Phantom) (w : Word) (j : Nat) : Word :=
  match p with
  | .none => w
  | .rampDown => rampSample false w j
  | .muted => 0
  | .rampUp => rampSample true w j

/-- The phase after a folio has been written. -/
def Phantom.after (p : Phantom) : Phantom :=
  match p with
  | .rampDown => .muted
  | .rampUp => .none
  | q => q

/-! ### Blocks (R511, R512, R514) -/

/-- The sample of channel c stored for a decimated sample x: corrected by R522; that of an overloaded channel as the
decimator delivers it (R514). -/
def State.ainSample (s : State) (c n : Nat) (clip : Bool) (x : Word) : Word :=
  if !(s.bit (Reg.AIN_CH_CFG c) Fld.AIN_CH_CFG_EN) || s.settles n then 0
  else phantomSample (s.phantom c) (if clip then x else wordOfInt (satInt 32 (s.corrected (s.chanRecAt c (n / 8)) x.toInt))) (n % 8)

/-- One channel's block of folio k. -/
def State.ainChannel (s : State) (k c : Nat) (clip : Bool) (xs : List Word) : State :=
  let ws := (List.range 8).map (fun j => s.ainSample c (8 * k + j) clip (xs.getD j 0))
  let a := (s.regN Reg.AIN_RXBASE + 512 * (k % 4) + 32 * c) % 2 ^ 32
  (s.unitPut a (ws.flatMap wordBytes)).setPhantom c (s.phantom c).after

/-- AIN_BLOCK: the folio's last sample has passed. -/
def State.ainBlock (s : State) (k : Nat) (samples : List (List Word)) (overload : BitVec 16) : State :=
  if s.bit Reg.AIN_CTRL Fld.AIN_CTRL_EN && decide (edgePt s.hz (8 * k + 7) ≤ s.now) then
    let clips := (List.range 16).filter (fun c => overload.getLsbD c && s.bit (Reg.AIN_CH_CFG c) Fld.AIN_CH_CFG_EN)
    let mask := clips.foldl (fun m c => m + 2 ^ c) 0
    let s1 := ((List.range 16).foldl (fun s c => s.ainChannel k c (overload.getLsbD c) (samples.getD c [])) s).ainSettled k
    let s2 := if clips.isEmpty then s1
      else (s1.countHold Reg.AIN_CLIP_COUNT 1).raiseFolio (limitKey 258 0) 258 mask
    s2.feedSignal (s2.fld Reg.AIN_FEED Fld.AIN_FEED_FEED) k
  else s

/-! ### Enabling and calibration (R519-R524) -/

/-- The modulator that serves no channel and is not in a calibration. -/
def State.freeMod (s : State) : Nat := ((List.range 17).find? (fun m => (List.range 16).all (fun c => s.ainMod c != m))).getD 16

/-- The record of the spare that the first step after an enable uses; no rule states it when the modulator has none: free
(log entry 1). -/
def State.spareCal (s : State) (m : Nat) : State :=
  match s.ainRec m with
  | some _ => s
  | none =>
    let n := s.free
    let r : CalRecord := ⟨BitVec.ofNat 32 (Config.free n), BitVec.ofNat 32 (Config.free (n + 1)),
      BitVec.ofNat 16 (Config.free (n + 2)), BitVec.ofNat 16 (Config.free (n + 3))⟩
    { s with free := n + 4, ain := { s.ain with recs := SMap.set none s.ain.recs m (some (s.takeCal r)) } }

/-- AIN_ENABLE_WRITE (R516, R522, R524). -/
def State.ainEnable (s : State) (data : Word) : State :=
  let s1 := s.writeRw Reg.AIN_CTRL data
  if Fld.AIN_CTRL_EN.get data = 1 then
    let s2 := (List.range 16).foldl (fun s c => s.setAinCal c 0) s1
    let m := s2.freeMod
    let s3 := ((s2.setFld Reg.AIN_STATUS Fld.AIN_STATUS_SPARE m).setBit Reg.AIN_STATUS Fld.AIN_STATUS_CAL_STOPPED
      false).spareCal m
    { s3 with ain := { s3.ain with noService := [], pass := List.range 16, step := none, nextCh := 0 } }.resyncAin 3
  else s1

/-- The channel of the next calibration step, and whether the rotation gives it (R520, R522). -/
def State.calNext (s : State) : Option (Nat × Bool) :=
  let on := s.bit Reg.AIN_CTRL Fld.AIN_CTRL_CAL_EN
  match (List.range 16).find? (fun c => on && s.ainCal c == 2), s.ain.pass with
  | some c, _ => some (c, false)
  | none, c :: _ => some (c, false)
  | none, [] => if on then some (s.ain.nextCh, true) else none

/-- AIN_CAL_STEP (R519, R520): the spare converts in parallel until it has at least 48 samples, which the seventh folio
boundary from now ensures (log entry 71). A spare whose record has become STALE by then is used all the same, and the channel
enters STALE with it (R521; log entry 71). -/
def State.ainCalStep (s : State) : State :=
  let m := s.fld Reg.AIN_STATUS Fld.AIN_STATUS_SPARE
  if s.bit Reg.AIN_CTRL Fld.AIN_CTRL_EN && s.ain.step.isNone && m != 0x1F &&
      !s.bit Reg.AIN_STATUS Fld.AIN_STATUS_CAL_STOPPED then
    match s.calNext with
    | none => s
    | some (c, rot) =>
      { s with ain := { s.ain with
        step := some { ch := c, spare := m, left := 7 }, pass := s.ain.pass.filter (· != c),
        nextCh := if rot then (c + 1) % 16 else s.ain.nextCh } }.setFld Reg.AIN_STATUS Fld.AIN_STATUS_SPARE 0x1F
  else s

/-- The channel is served by the spare from here on, and shows its record. -/
def State.ainServe (s : State) (c m : Nat) : State :=
  let s1 := s.setFld (Reg.AIN_CH_STATE c) Fld.AIN_CH_STATE_MOD m
  match s.ainRec m with
  | none => s1
  | some r =>
    let s2 := (s1.showCal (Reg.AIN_CH_CAL0 c) r).setReg (Reg.AIN_CH_CAL0 c + 16) r.taken
    if s2.calOk r then s2.setAinCal c 1
    else if s.ainCal c = 2 then s2
    else s2.ainStale c r

/-- The spare takes its channel over from folio k on (R519, step 2). -/
def State.ainTake (s : State) (st : CalStep) (k : Nat) : State :=
  { s with ain := { s.ain with step := some { st with
    left := 0, first := k, old := s.chanRec st.ch, freed := s.ainMod st.ch } } }.ainServe st.ch st.spare

/-- A calibration step at the boundary of folio k. -/
def State.ainBoundary (s : State) (k : Nat) : State :=
  match s.ain.step with
  | none => s
  | some st =>
    if st.left = 0 then s
    else if st.left = 1 then s.ainTake st k
    else { s with ain := { s.ain with step := some { st with left := st.left - 1 } } }

/-- AIN_CAL_STEP_DONE (R519, R521, R524): the modulator that serves no channel any more has been calibrated. The limits are
2^-8 of full scale and 1 %. -/
def State.ainCalDone (s : State) (r : CalRecord) : State :=
  match s.ain.step with
  | none => s
  | some st =>
    let freed := if st.left = 0 then st.freed else s.ainMod st.ch
    let s0 := if st.left = 0 then s else s.ainTake st s.folio
    let s1 := { s0 with ain := { s0.ain with step := none } }
    if calBeyond r (2 ^ 23) 100 then
      ({ s1 with ain := { s1.ain with noService := freed :: s1.ain.noService } }.setBit Reg.AIN_STATUS
        Fld.AIN_STATUS_CAL_STOPPED true).raiseN 259 freed
    else
      { s1 with ain := { s1.ain with recs := SMap.set none s1.ain.recs freed (some (s1.takeCal r)) } }.setFld Reg.AIN_STATUS
        Fld.AIN_STATUS_SPARE freed

/-- AIN_GAIN_SWITCH (R513): the preamplifier takes the gain that its clause has committed. -/
def State.ainGain (s : State) (c : Nat) : State :=
  { s with ain := { s.ain with gain := SMap.set 0 s.ain.gain c (s.fld (Reg.AIN_CH_GAIN c) Fld.AIN_CH_GAIN_GAIN) } }

/-- AIN_PHANTOM_MUTE_END (R515). -/
def State.phantomEnd (s : State) (c : Nat) : State := if s.phantom c = Phantom.muted then s.setPhantom c .rampUp else s

/-! ### The commands -/

/-- The command AIN_ENABLE_WRITE. -/
def execAinEnableWrite (data : Word) (s : State) : Host.Outcome State Fault Refusal := .next (s.ainEnable data)

/-- The command AIN_SYNC. -/
def execAinSync (s : State) : Host.Outcome State Fault Refusal := .next s.ainSync

/-- The command AIN_BLOCK. -/
def execAinBlock (k : Nat) (samples : List (List Word)) (overload : BitVec 16) (s : State) :
    Host.Outcome State Fault Refusal :=
  .next (s.ainBlock k samples overload)

/-- The command AIN_GAIN_SWITCH. -/
def execAinGainSwitch (c : Fin 16) (s : State) : Host.Outcome State Fault Refusal := .next (s.ainGain c)

/-- The command AIN_PHANTOM_MUTE_END. -/
def execAinPhantomMuteEnd (c : Fin 16) (s : State) : Host.Outcome State Fault Refusal := .next (s.phantomEnd c)

/-- The command AIN_CAL_STEP. -/
def execAinCalStep (s : State) : Host.Outcome State Fault Refusal := .next s.ainCalStep

/-- The command AIN_CAL_STEP_DONE. -/
def execAinCalStepDone (r : CalRecord) (s : State) : Host.Outcome State Fault Refusal := .next (s.ainCalDone r)

end Sys2Proof.Machine
end

