-- ==== Sys2Proof/Machine/Aout.lean ====
section
/-! DEFINITION. The analogue outputs, their jacks, the class-D clock check and PVDD (R518, R523, R525-R532, R653). -/

namespace Sys2Proof.Machine

/-! ### States and mutes (R526) -/

/-- The state of an output (R548): 0 OFF, 1 BIAS_UP, 2 ON, 3 MUTED, 4 BIAS_DOWN, 5 HOLD, 6 FAULT. -/
def State.outState (s : State) (o : Nat) : Nat := s.fld (Reg.AOUT_OUT_STATUS o) Fld.AOUT_OUT_STATUS_STATE

/-- Write the state of an output. -/
def State.setOutState (s : State) (o st : Nat) : State := s.setFld (Reg.AOUT_OUT_STATUS o) Fld.AOUT_OUT_STATUS_STATE st

/-- Whether a mute condition holds (R526). -/
def State.outMuted (s : State) (o : Nat) : Bool :=
  s.bit (Reg.AOUT_OUT_STATUS o) Fld.AOUT_OUT_STATUS_MUTE_SW || s.bit (Reg.AOUT_OUT_STATUS o) Fld.AOUT_OUT_STATUS_MUTE_JACK ||
    s.bit (Reg.AOUT_OUT_STATUS o) Fld.AOUT_OUT_STATUS_MUTE_CLK

/-- Whether the declared state of a jack pin is inserted (R531). -/
def State.inserted (s : State) (n : Nat) : Bool := (s.fld Reg.AOUT_JD_STATUS Fld.AOUT_JD_STATUS_INSERTED).testBit n

/-- MUTE_SW and MUTE_JACK as the configuration and the jack stand. -/
def State.syncMutes (s : State) (o : Nat) : State :=
  let c := Reg.AOUT_OUT_CFG o
  let jack := s.bit c Fld.AOUT_OUT_CFG_AUTO_MUTE && !s.inserted (s.fld c Fld.AOUT_OUT_CFG_JD)
  (s.setBit (Reg.AOUT_OUT_STATUS o) Fld.AOUT_OUT_STATUS_MUTE_SW (s.bit c Fld.AOUT_OUT_CFG_MUTE)).setBit
    (Reg.AOUT_OUT_STATUS o) Fld.AOUT_OUT_STATUS_MUTE_JACK jack

/-- Unity gain. -/
def unityGain : Nat := 2 ^ 29

/-- The gain to which a ramp leads. -/
def OutRamp.target (r : OutRamp) : Nat := if r.up then unityGain else 0

/-- The gain of sample m of a ramp over one folio: the law of R228 with NR = 8. -/
def OutRamp.at_ (r : OutRamp) (m : Nat) : Nat :=
  ((r.gain : Int) + truncDiv (((r.target : Int) - r.gain) * (m + 1 : Nat)) 8).toNat

/-- The gain of an output now: that of its ramp while it lasts, then unity in ON and zero elsewhere. -/
def State.outGain (s : State) (o : Nat) : Nat :=
  let n := sampleAt s.hz s.now
  let rest := if s.outState o = 2 then unityGain else 0
  match SMap.find none s.aout.ramp o with
  | some r => if r.start ≤ n ∧ n < r.start + 8 then r.at_ (n - r.start) else if r.up then rest else 0
  | none => rest

/-- A ramp over one folio from a gain, up or to zero, from the current sample on. -/
def State.rampFrom (s : State) (o gain : Nat) (up : Bool) : State :=
  { s with aout := { s.aout with ramp := SMap.set none s.aout.ramp o (some ⟨gain, up, sampleAt s.hz s.now⟩) } }

/-- A ramp over one folio from the gain that the output has now. -/
def State.outRamp (s : State) (o : Nat) (up : Bool) : State := s.rampFrom o (s.outGain o) up

/-- ON and MUTED follow the mute conditions (R526). -/
def State.settleOut (s : State) (o : Nat) : State :=
  if s.outState o = 2 ∧ s.outMuted o then (s.outRamp o false).setOutState o 3
  else if s.outState o = 3 ∧ !s.outMuted o then (s.outRamp o true).setOutState o 2
  else s

/-- An output follows its configuration and its jack. -/
def State.syncOut (s : State) (o : Nat) : State := (s.syncMutes o).settleOut o

/-- Every output follows its jack. -/
def State.syncOuts (s : State) : State := (List.range 14).foldl State.syncOut s

/-! ### Bridges (R527, R653) -/

/-- A class-D bridge turned on or off; it stays off while PVDD is out of its range (R653). The line and headphone outputs
have none. -/
def State.bridge (s : State) (o : Nat) (on : Bool) : State :=
  if o < 12 then s
  else
    let off := !on || s.aout.pvddLow || s.aout.pvddHigh
    { s with aout := { s.aout with bridgeOff := maskSet s.aout.bridgeOff (o - 12) off } }

/-- BIAS_UP (R526): a class-D output starts at 50 % duty. -/
def State.biasUp (s : State) (o : Nat) : State := (s.setOutState o 1).bridge o true

/-- AOUT_CFG_WRITE (R526, R530). -/
def State.outCfg (s : State) (o : Nat) (data : Word) : State :=
  let s1 := s.writeRw (Reg.AOUT_OUT_CFG o) data
  let en := Fld.AOUT_OUT_CFG_EN.get data == 1
  let s2 :=
    match s1.outState o, en with
    | 0, true => s1.biasUp o
    | 1, false => s1.setOutState o 4
    | 2, false => (s1.outRamp o false).setOutState o 4
    | 3, false => s1.setOutState o 4
    | 6, false =>
      let t := { s1 with aout := { s1.aout with trips := SMap.set [] s1.aout.trips (o - 12) [] } }
      (t.setOutState o 0).setBit (Reg.AOUT_OUT_STATUS o) Fld.AOUT_OUT_STATUS_OC_LATCH false
    | _, _ => s1
  s2.syncOut o

/-- AOUT_BIAS_DONE (R526). -/
def State.biasDone (s : State) (o : Nat) : State :=
  if s.outState o = 1 then
    (if s.outMuted o then s.setOutState o 3 else (s.rampFrom o 0 true).setOutState o 2)
  else s

/-- AOUT_BIAS_DOWN_DONE (R526): EN written 1 in the meantime takes effect here. -/
def State.biasDownDone (s : State) (o : Nat) : State :=
  if s.outState o = 4 then
    let s1 := (s.setOutState o 0).bridge o false
    if s1.bit (Reg.AOUT_OUT_CFG o) Fld.AOUT_OUT_CFG_EN then s1.biasUp o else s1
  else s

/-- AOUT_OVERCURRENT (R530): the third trip within 1 s latches. -/
def State.overcurrent (s : State) (k : Nat) : State :=
  let o := 12 + k
  if s.outState o = 2 ∨ s.outState o = 3 then
    let ts := (SMap.find [] s.aout.trips k).filter (fun t => decide (s.now < t + secUnit)) ++ [s.now]
    let latched := decide (3 ≤ ts.length)
    let s1 := { s with aout := { s.aout with trips := SMap.set [] s.aout.trips k ts } }
    let s2 := ((s1.setOutState o 6).bridge o false).setBit (Reg.AOUT_OUT_STATUS o) Fld.AOUT_OUT_STATUS_OC_LATCH latched
    s2.raiseFolio (limitKey 266 0) 266 (k + bitOf latched * 2)
  else s

/-- AOUT_FAULT_RETRY (R526). -/
def State.faultRetry (s : State) (k : Nat) : State :=
  let o := 12 + k
  if s.outState o = 6 ∧ !s.bit (Reg.AOUT_OUT_STATUS o) Fld.AOUT_OUT_STATUS_OC_LATCH then
    ((s.setOutState o 3).bridge o true).settleOut o
  else s

/-! ### The class-D clock (R528) -/

/-- The deviation in 0.1 % from one in ppm (R548). How it is rounded is not stated: free (log entry 1). -/
def State.devField (s : State) (ppm : Int) : Nat × State :=
  let d := Int.fdiv ppm 1000
  if d * 1000 = ppm then (lowInt 8 (satInt 8 d), s)
  else (lowInt 8 (satInt 8 (d + (s.takeFree.1 % 2 : Nat))), s.takeFree.2)

/-- A clock-error mute of one class-D output (R528). -/
def State.clkMute (s : State) (missing : Bool) (k : Nat) : State :=
  let o := 12 + k
  let s1 := if missing then s.bridge o false else s
  if s.bit (Reg.AOUT_OUT_STATUS o) Fld.AOUT_OUT_STATUS_MUTE_CLK then s1
  else
    ((s1.setBit (Reg.AOUT_OUT_STATUS o) Fld.AOUT_OUT_STATUS_MUTE_CLK true).settleOut o).raiseFolio (limitKey 264 0) 264
      (k + (if missing then 1 else 2) * 2)

/-- The end of a clock-error mute: the bridge restarts at 50 % duty (R528). -/
def State.clkUnmute (s : State) (k : Nat) : State :=
  let o := 12 + k
  if s.bit (Reg.AOUT_OUT_STATUS o) Fld.AOUT_OUT_STATUS_MUTE_CLK then
    let s1 := s.setBit (Reg.AOUT_OUT_STATUS o) Fld.AOUT_OUT_STATUS_MUTE_CLK false
    let s2 := if s1.outState o = 1 ∨ s1.outState o = 2 ∨ s1.outState o = 3 then s1.bridge o true else s1
    (s2.settleOut o).raiseFolio (limitKey 265 0) 265 k
  else s

/-- CLASSD_CLOCK_WINDOW: one 8 µs window; 250 windows in limits are 2 ms. -/
def State.clockWindow (s : State) (missing : Bool) (ppm : Int) : State :=
  let bad := missing || decide (20000 < ppm.natAbs)
  let d := s.devField ppm
  let run := if bad then 0 else s.aout.okRun + 1
  let s1 := { d.2 with aout := { d.2.aout with okRun := run, clkMissing := missing } }
  let s2 := (s1.setFld Reg.AOUT_CLASSD_STATUS Fld.AOUT_CLASSD_STATUS_DEV d.1).setBit Reg.AOUT_CLASSD_STATUS
    Fld.AOUT_CLASSD_STATUS_CLK_OK (!bad)
  if bad then (s2.clkMute missing 0).clkMute missing 1
  else if 250 ≤ run then (s2.clkUnmute 0).clkUnmute 1
  else s2

/-- A write of AOUT_CLASSD_CTRL: ignored unless both class-D outputs are OFF (R527). -/
def State.classdCtrl (s : State) (data : Word) : State :=
  if s.outState 12 = 0 ∧ s.outState 13 = 0 then s.writeRw Reg.AOUT_CLASSD_CTRL data else s

/-! ### Jacks (R531, R532) -/

/-- The level of a JD pin in mV; the internal pull-up holds an open pin at AVDD. -/
def State.jdLevel (s : State) (n : Nat) : Nat := SMap.find 3300 s.aout.jdMv n

/-- RAW of a sensed pin by its level: between the thresholds the reading stays (R531). -/
def State.readJd (s : State) (n : Nat) : State :=
  if (s.fld Reg.AOUT_JD_CTRL Fld.AOUT_JD_CTRL_EN).testBit n then
    let pol := (s.fld Reg.AOUT_JD_CTRL Fld.AOUT_JD_CTRL_POL).testBit n
    let raw := BitVec.ofNat 4 (s.fld Reg.AOUT_JD_STATUS Fld.AOUT_JD_STATUS_RAW)
    let set (b : Bool) : State := s.setFld Reg.AOUT_JD_STATUS Fld.AOUT_JD_STATUS_RAW (maskSet raw n b).toNat
    if s.jdLevel n < 900 then set (!pol) else if 2400 < s.jdLevel n then set pol else s
  else s

/-- JD_PIN_CHANGE (R531). -/
def State.jdPin (s : State) (n mv : Nat) : State :=
  { s with aout := { s.aout with jdMv := SMap.set 3300 s.aout.jdMv n mv } }.readJd n

/-- A write of AOUT_JD_CTRL: the sensed pins are read with the new polarity. -/
def State.jdCtrl (s : State) (data : Word) : State := [0, 1, 2, 3].foldl State.readJd (s.writeRw Reg.AOUT_JD_CTRL data)

/-- JACK_DECLARE (R531, R532): the reading has been stable for its time. A write of MUTE = 0 of an output may fall in the
same cycle; the jack mute holds all the same. -/
def State.jackDeclare (s : State) (n : Nat) (unmute : Option (Fin 14)) : State :=
  let raw := (s.fld Reg.AOUT_JD_STATUS Fld.AOUT_JD_STATUS_RAW).testBit n
  let s1 := match unmute with
    | none => s
    | some o => s.setBit (Reg.AOUT_OUT_CFG o) Fld.AOUT_OUT_CFG_MUTE false
  if (s.fld Reg.AOUT_JD_CTRL Fld.AOUT_JD_CTRL_EN).testBit n && raw != s.inserted n then
    let ins := BitVec.ofNat 4 (s1.fld Reg.AOUT_JD_STATUS Fld.AOUT_JD_STATUS_INSERTED)
    ((s1.setFld Reg.AOUT_JD_STATUS Fld.AOUT_JD_STATUS_INSERTED (maskSet ins n raw).toNat).syncOuts).raiseN
      (if raw then 268 else 269) n
  else s1.syncOuts

/-! ### PVDD, hold and re-alignment -/

/-- The bridges follow PVDD (R653): on release a bridge in ON or MUTED restarts, and an output in ON ramps up. -/
def State.pvddSync (s : State) : State :=
  [12, 13].foldl (fun s o =>
    if s.aout.pvddLow || s.aout.pvddHigh then s.bridge o false
    else if s.outState o = 2 then (s.bridge o true).rampFrom o 0 true
    else if s.outState o = 1 ∨ s.outState o = 3 then s.bridge o true
    else s) s

/-- PVDD_THRESHOLD (R653). -/
def State.pvdd (s : State) (ev : PvddEvent) : State :=
  match ev with
  | .under => { s with aout := { s.aout with pvddLow := true } }.pvddSync
  | .underRelease =>
    if s.aout.pvddLow then { s with aout := { s.aout with pvddLow := false } }.pvddSync else s
  | .over => { s with aout := { s.aout with pvddHigh := true } }.pvddSync
  | .overRelease =>
    if s.aout.pvddHigh then { s with aout := { s.aout with pvddHigh := false } }.pvddSync else s

/-- The sample that an output sends now (R525, R526): that of its sink at the gain that it has. -/
def State.outSample (s : State) (o : Nat) : Word :=
  wordOfInt (Int.fdiv ((s.sinkNow (16448 + o) (sampleAt s.hz s.now)).toInt * (s.outGain o : Nat)) unityGain)

/-- The hold of one output. -/
def State.setHeld (s : State) (o : Nat) (h : OutHold) : State :=
  { s with aout := { s.aout with held := SMap.set none s.aout.held o (some h) } }

/-- A hold from the sentinel (R526, R529): every output that is not OFF keeps its last sample. -/
def State.aoutHold (s : State) : State :=
  ((List.range 14).filter (fun o => s.outState o != 0)).foldl
    (fun s o => (s.setHeld o ⟨s.outSample o, .waits⟩).setOutState o 5) s

/-- Whether the converter clock of an output is there: OUT2 for the line and headphone outputs, OUT3 for the class-D ones, as
the clock check last saw it (R528). -/
def State.outClock (s : State) (o : Nat) : Bool :=
  if o < 12 then s.clocked .dac else s.clocked .classD && !s.aout.clkMissing

/-- The ramp of a held output begins: over AOUT_HOLD.RAMP folios, or as the analogue ramp where its converter clock is
absent; a class-D bridge then turns off (R529). -/
def State.holdRampOut (s : State) (o : Nat) : State :=
  match SMap.find none s.aout.held o with
  | none => s
  | some h =>
    if s.outClock o then s.setHeld o { h with ramp := .folios (sampleAt s.hz s.now) s.holdRamp }
    else (s.setHeld o { h with ramp := .analogue s.now }).bridge o false

/-- The end of the hold time (R529): the held outputs ramp to zero, and AOUT_HOLD is raised. -/
def State.aoutHoldEnd (s : State) : State :=
  let held := (List.range 14).filter (fun o => s.outState o == 5)
  (held.foldl State.holdRampOut s).raiseN 267 (held.foldl (fun m o => m + 2 ^ o) 0)

/-- The sample that a held output sends now (R529, R570); during an analogue ramp it sends none, and zero after its 10 ms. -/
def State.heldSample (s : State) (o : Nat) : Option Word :=
  match SMap.find none s.aout.held o with
  | none => none
  | some h =>
    match h.ramp with
    | .waits => some h.value
    | .folios f n =>
      let m := sampleAt s.hz s.now - f
      some (if f ≤ sampleAt s.hz s.now ∧ m < 8 * n then holdValue h.value m (8 * n) else 0)
    | .analogue pt => if pt + 10000 * usUnit ≤ s.now then some 0 else none

/-- The re-alignment of the DAC outputs (R518) at a folio boundary: the line and headphone outputs, which run from OUT2,
ramp to zero over one folio where they are in ON, and back from the next folio boundary, whatever its index. The class-D outputs
run from OUT3. -/
def State.aoutBoundary (s : State) : State :=
  let ramps (s : State) (up : Bool) : State :=
    (List.range 12).foldl (fun s o => if s.outState o = 2 then s.outRamp o up else s) s
  if s.aout.sync then ramps { s with aout := { s.aout with sync := false, realign := some s.time.ticks } } false
  else
    match s.aout.realign with
    | none => s
    | some r => if r ≠ s.time.ticks then ramps { s with aout := { s.aout with realign := none } } true else s

/-! ### The load class (R523) -/

/-- The band of PVDD: a rise counts above the limit, a fall 0.25 V below it; PVDD reads 6 mV per code (R538). -/
def pvddBand (old code : Nat) : Nat :=
  let mv := 6 * code
  if 16000 < mv ∨ (old = 2 ∧ 15750 < mv) then 2
  else if 12000 ≤ mv ∨ (1 ≤ old ∧ 11750 ≤ mv) then 1
  else 0

/-- The sum of squares of the first n samples of a class-D sink in the folio released last. -/
def State.classdSquares (s : State) (k n : Nat) : Nat :=
  (List.range n).foldl (fun m j => m + (SMap.find 0 s.mix.sinks ((16460 + k) * 8 + j)).toInt.natAbs ^ 2) 0

/-- The sums of squares of a class-D sink by release over the last second. -/
def State.classdRecent (s : State) (k : Nat) : List (Nat × Nat) :=
  (SMap.find [] s.aout.power k).filter (fun e => decide (s.now < e.1 + secUnit))

/-- The samples of the class-D sinks of the folio released now join the sums of the last second. -/
def State.classdPower (s : State) : State :=
  [0, 1].foldl (fun s k =>
    { s with aout := { s.aout with
      power := SMap.set [] s.aout.power k (s.classdRecent k ++ [(s.now, s.classdSquares k 8)]) } }) s

/-- The sum of squares of a class-D sink over the last second, of whose last folio n samples have been sent (log entry 72). -/
def State.classdSum (s : State) (k n : Nat) : Nat :=
  if (s.classdRecent k).isEmpty then 0
  else ((s.classdRecent k).dropLast.foldl (fun m e => m + e.2) 0) + s.classdSquares k n

/-- Whether the mean square of a class-D sink over the last second, `hz` samples, lies at or above -20 dBFS, or -21 dBFS
where the level was 1; 0 dBFS is the mean square of full scale (log entry 72). Both comparisons are exact. -/
def State.classdLoud (s : State) (old k n : Nat) : Bool :=
  let m := s.classdSum k n
  if old = 1 then decide (s.hz ^ 10 * 2 ^ 620 ≤ m ^ 10 * 10 ^ 21) else decide (s.hz * 2 ^ 62 ≤ m * 100)

/-- The level of the class-D outputs in ON. -/
def State.classdLevel (s : State) (old taken0 taken1 : Nat) : Nat :=
  bitOf ((s.outState 12 == 2 && s.classdLoud old 0 taken0) || (s.outState 13 == 2 && s.classdLoud old 1 taken1))

/-- The class of an evaluation. -/
def State.newClass (s : State) (taken0 taken1 : Nat) : Nat :=
  2 * pvddBand (s.loadClass / 2) (s.fld Reg.HADC_LOAD Fld.HADC_LOAD_PVDD) + s.classdLevel (s.loadClass % 2) taken0 taken1

/-! ### The commands -/

/-- The command AOUT_CFG_WRITE. -/
def execAoutCfgWrite (o : Fin 14) (data : Word) (s : State) : Host.Outcome State Fault Refusal := .next (s.outCfg o data)

/-- The command AOUT_BIAS_DONE. -/
def execAoutBiasDone (o : Fin 14) (s : State) : Host.Outcome State Fault Refusal := .next (s.biasDone o)

/-- The command AOUT_BIAS_DOWN_DONE. -/
def execAoutBiasDownDone (o : Fin 14) (s : State) : Host.Outcome State Fault Refusal := .next (s.biasDownDone o)

/-- The command AOUT_OVERCURRENT. -/
def execAoutOvercurrent (spk : Fin 2) (s : State) : Host.Outcome State Fault Refusal := .next (s.overcurrent spk)

/-- The command AOUT_FAULT_RETRY. -/
def execAoutFaultRetry (spk : Fin 2) (s : State) : Host.Outcome State Fault Refusal := .next (s.faultRetry spk)

/-- The command CLASSD_CLOCK_WINDOW; the deviation comes in ppm. -/
def execClassdClockWindow (missing : Bool) (dev : Int) (s : State) : Host.Outcome State Fault Refusal :=
  .next (s.clockWindow missing dev)

/-- The command JD_PIN_CHANGE. -/
def execJdPinChange (n : Fin 4) (mv : Nat) (s : State) : Host.Outcome State Fault Refusal := .next (s.jdPin n mv)

/-- The command JACK_DECLARE. -/
def execJackDeclare (n : Fin 4) (unmute : Option (Fin 14)) (s : State) : Host.Outcome State Fault Refusal :=
  .next (s.jackDeclare n unmute)

/-- The command PVDD_THRESHOLD. -/
def execPvddThreshold (ev : PvddEvent) (s : State) : Host.Outcome State Fault Refusal := .next (s.pvdd ev)

end Sys2Proof.Machine
end

