-- ==== Sys2Proof/Machine/Hadc.lean ====
section
/-! DEFINITION. The housekeeping ADC and the lamp drivers that it measures (R533-R543), and the evaluation of the load class
(R523). -/

namespace Sys2Proof.Machine

/-! ### Slices (R542, R543) -/

/-- The spare slice. -/
def State.spareSlice (s : State) : Nat := s.fld Reg.HADC_STATUS Fld.HADC_STATUS_SPARE

/-- The slices that are STALE. -/
def State.staleSlices (s : State) : List Nat := bitsSet 9 (s.fld Reg.HADC_STATUS Fld.HADC_STATUS_STALE)

/-- The STALE bit of a slice. -/
def State.setStale (s : State) (i : Nat) (b : Bool) : State :=
  s.setFld Reg.HADC_STATUS Fld.HADC_STATUS_STALE
    (maskSet (BitVec.ofNat 9 (s.fld Reg.HADC_STATUS Fld.HADC_STATUS_STALE)) i b).toNat

/-- The record of a slice. -/
def State.sliceRec (s : State) (i : Nat) : Option CalRec := SMap.find none s.hadc.recs i

/-- The STALE bits follow the records (R521, R543). -/
def State.recheckSlices (s : State) : State :=
  (List.range 9).foldl (fun s i =>
    match s.sliceRec i with
    | none => s
    | some r =>
      if s.calOk r then s.setStale i false
      else if s.staleSlices.contains i then s
      else (s.setStale i true).raiseN 281 i) s

/-- The position of a slice. -/
def State.slicePos (s : State) (i : Nat) : Option Nat := (List.range 8).find? (fun p => s.hadc.slices.getD p 9 == i)

/-- Write a conversion in progress. -/
def State.setConv (s : State) (p : Nat) (c : Option Conv) : State :=
  { s with hadc := { s.hadc with conv := SMap.set none s.hadc.conv p c } }

/-- A swap takes effect (R542): the spare takes the position; a conversion in progress there is aborted and restarted. What
SPARE shows while no slice is spare is not stated: free (log entry 1). -/
def State.doSwap (s : State) (i : Nat) : State :=
  match s.slicePos i with
  | none => s
  | some p =>
    let c := SMap.find none s.hadc.conv p
    let s1 := { s with hadc := { s.hadc with
      slices := s.hadc.slices.set p s.spareSlice, cal := some i, swapWait := none,
      restart := s.hadc.restart ++ c.toList } }
    let s2 := s1.setConv p none
    (s2.takeFree.2).setFld Reg.HADC_STATUS Fld.HADC_STATUS_SPARE s2.takeFree.1

/-- The slice that is swapped out next: STALE slices first, else the order S0-S8, in which the spare has no turn (R542,
R543). -/
def State.nextSwap (s : State) : Option Nat :=
  match s.staleSlices.find? (· != s.spareSlice) with
  | some i => some i
  | none => ((List.range 9).map (fun i => (s.hadc.nextSlice + i) % 9)).find? (· != s.spareSlice)

/-- A swap of the next slice (R542): at once while an urgent request waits, else when the slice's conversion in progress ends. -/
def State.sliceSwapNow (s : State) : State :=
  if s.bit Reg.HADC_CTRL Fld.HADC_CTRL_EN && s.bit Reg.HADC_CTRL Fld.HADC_CTRL_CAL_EN && s.hadc.cal.isNone &&
      s.hadc.swapWait.isNone then
    match s.nextSwap with
    | none => s
    | some i =>
      let s1 := if s.staleSlices.contains i then s
        else { s with hadc := { s.hadc with nextSlice := (i + 1) % 9 } }
      let busy : Bool := match s1.slicePos i with
        | some p => (SMap.find none s1.hadc.conv p).isSome
        | none => false
      if busy && s1.hadc.queue.isEmpty then { s1 with hadc := { s1.hadc with swapWait := some i } } else s1.doSwap i
  else s

/-- HADC_SLICE_CAL_DONE (R543): the limits are 4 codes of offset, in 2^-8 code, and 0.5 % of gain. -/
def State.sliceCalDone (s : State) (r : CalRecord) : State :=
  match s.hadc.cal with
  | none => s
  | some i =>
    let s1 := { s with hadc := { s.hadc with cal := none } }.setFld Reg.HADC_STATUS Fld.HADC_STATUS_SPARE i
    if calBeyond r 1024 200 then s1.raiseN 283 i
    else
      let c := s1.takeCal r
      ({ s1 with hadc := { s1.hadc with recs := SMap.set none s1.hadc.recs i (some c) } }.showCal (Reg.HADC_SLICE_CAL0 i)
        c).setStale i false

/-! ### Urgent requests (R540, R542) -/

/-- QUEUE follows the urgent queue. -/
def State.setQueue (s : State) (q : List Conv) : State :=
  { s with hadc := { s.hadc with queue := q } }.setFld Reg.HADC_STATUS Fld.HADC_STATUS_QUEUE q.length

/-- An urgent request; `w3` is the word of its refusal. A pending swap takes effect at once. -/
def State.urgent (s : State) (c : Conv) (w3 : Nat) : State :=
  if s.hadc.queue.length < 4 then
    let s1 := s.setQueue (s.hadc.queue ++ [c])
    match s1.hadc.swapWait with
    | some i => s1.doSwap i
    | none => s1
  else s.raiseN 282 w3

/-- The lamp requests that have come due join the urgent queue before anything else of this cycle, in the order of their PTs,
the lowest lamp first (R534, R540). -/
def State.lampRequests (s : State) : State :=
  let due := sortBy (fun (a b : Nat × Nat) => decide (a.2 < b.2) || (a.2 == b.2 && decide (a.1 < b.1)))
    (s.lamp.due.filter (fun e => decide (e.2 ≤ s.now)))
  due.foldl (fun s e => s.urgent (.lamp e.1 true) (1 + e.1 * 2))
    { s with lamp := { s.lamp with due := s.lamp.due.filter (fun e => decide (s.now < e.2)) } }

/-- HADC_SLICE_SWAP (R542). -/
def State.sliceSwap (s : State) : State := s.lampRequests.sliceSwapNow

/-- HADC_URGENT (R540). -/
def State.softRequest (s : State) (input : Nat) : State := s.lampRequests.urgent (.soft input) 0

/-! ### Lamps (R533-R537) -/

/-- A field of LAMP_CTRL. -/
def State.lampCtl (s : State) (l : Nat) (f : Field) : Bool := s.bit (Reg.LAMP_CTRL l) f

/-- Whether a lamp channel is enabled. -/
def State.lampEn (s : State) (l : Nat) : Bool := s.lampCtl l Fld.LAMP_CTRL_EN

/-- Whether a lamp channel is in switch mode. -/
def State.lampSwitch (s : State) (l : Nat) : Bool := s.lampCtl l Fld.LAMP_CTRL_MODE

/-- Whether a channel in switch mode sinks. -/
def State.switchOn (s : State) (l : Nat) : Bool := s.lampEn l && s.lampSwitch l && s.lampCtl l Fld.LAMP_CTRL_ON

/-- The sink of a lamp. -/
def State.setLamp (s : State) (l : Nat) (on : Bool) (offPt : Nat) : State :=
  { s with lamp := { s.lamp with on := maskSet s.lamp.on l on, offPt := SMap.set 0 s.lamp.offPt l offPt } }

/-- A write of LAMP_CTRL (R515, R533). -/
def State.lampCtrlWrite (s : State) (l : Nat) (data : Word) : State :=
  let s1 := s.writeRw (Reg.LAMP_CTRL l) data
  let s2 := if s1.lampSwitch l || !s1.lampEn l then s1.setLamp l (s1.switchOn l) 0
    else if s.lampSwitch l then s1.setLamp l false 0 else s1
  if s.switchOn l != s1.switchOn l then s2.phantomChange l else s2

/-- The current that a lamp's sink takes while it is on, in mA (R551). -/
def State.lampCurrent (s : State) (l : Nat) : Nat :=
  if s.lamp.on.getLsbD l then max 2 (min 40 (s.fld (Reg.LAMP_CTRL l) Fld.LAMP_CTRL_ISET)) else 0

/-- The duty that the next period takes. -/
def State.lampDuty (s : State) (l : Nat) : Nat := s.fld (Reg.LAMP_DUTY l) Fld.LAMP_DUTY_DUTY

/-- Whether the lamp cannot be measured, so that DIAG is UNTESTED (R536). -/
def State.lampUntested (s : State) (l : Nat) : Bool :=
  !s.lampEn l ||
    (if s.lampSwitch l then !s.lampCtl l Fld.LAMP_CTRL_ON
     else decide (s.lampDuty l ≤ 6) && !s.lampCtl l Fld.LAMP_CTRL_STRETCH)

/-- Whether period j is stretched (R537). -/
def State.lampStretched (s : State) (l j : Nat) : Bool :=
  !s.lampSwitch l && s.lampCtl l Fld.LAMP_CTRL_STRETCH && decide (s.lampDuty l ≤ 6) && j % 1024 == 0

/-- Whether period j is measured (R535, R537). -/
def State.lampMeasured (s : State) (l j : Nat) : Bool :=
  s.lampEn l && (s.lampStretched l j || (j % 16 == 0 &&
    (if s.lampSwitch l then s.lampCtl l Fld.LAMP_CTRL_ON else decide (7 ≤ s.lampDuty l))))

/-- The PT at which period j of lamp l starts (R533). -/
def lampStart (l j : Nat) : Nat := (j * 1000000 + l * 125000) * nsUnit

/-- The on-time of a period (R533, R537). -/
def State.lampOnTime (s : State) (l j : Nat) : Nat :=
  if s.lampStretched l j then 1500 * nsUnit else s.lampDuty l * 1000000 * nsUnit / 4096

/-- LAMP_PERIOD_START (R533-R537): a measurement is requested 1.0 µs after the sink turns on. -/
def State.lampPeriod (s : State) (l j : Nat) : State :=
  if s.now < lampStart l j then s
  else
    let s0 : State := { s with lamp := { s.lamp with tested := maskSet s.lamp.tested l (!s.lampUntested l) } }
    let s1 := if s.lampUntested l then s0.setFld (Reg.LAMP_STATUS l) Fld.LAMP_STATUS_DIAG 0 else s0
    let s2 := if s.lampSwitch l || !s.lampEn l then s1.setLamp l (s.switchOn l) 0
      else s1.setLamp l (s.lampOnTime l j != 0) (if s.lampOnTime l j = 0 then 0 else lampStart l j + s.lampOnTime l j)
    if s.lampMeasured l j then { s2 with lamp := { s2.lamp with due := s2.lamp.due ++ [(l, lampStart l j + usUnit)] } } else s2

/-- LAMP_OFF_EDGE (R533). -/
def State.lampOff (s : State) (l : Nat) : State :=
  let t := SMap.find 0 s.lamp.offPt l
  if t ≠ 0 ∧ t ≤ s.now then s.setLamp l false 0 else s

/-- Whether a sample of a lamp now is taken in time: the sink on, and not within 0.1 µs of its turn-off (R534). -/
def State.lampInTime (s : State) (l : Nat) : Bool :=
  let t := SMap.find 0 s.lamp.offPt l
  s.lamp.on.getLsbD l && (t == 0 || decide (s.now + 100 * nsUnit ≤ t))

/-- LAMP_DIAG (R534, R535, R537): 1 OK, 2 OPEN, 3 SHORT; two measurements in a row that agree are taken, unless the last
period start has found the lamp UNTESTED (R536). -/
def State.lampDiag (s : State) (l code : Nat) : State :=
  let r := if code < s.fld Reg.LAMP_THRESH Fld.LAMP_THRESH_OPEN_TH then 2
    else if s.fld Reg.LAMP_THRESH Fld.LAMP_THRESH_SHORT_TH < code then 3 else 1
  let st := Reg.LAMP_STATUS l
  let was := s.fld st Fld.LAMP_STATUS_DIAG
  let last := SMap.find 0 s.lamp.last l
  let s1 := { s.setFld st Fld.LAMP_STATUS_LAST code with lamp := { s.lamp with last := SMap.set 0 s.lamp.last l r } }
  if r ≠ last ∨ r = was ∨ s.lamp.tested.getLsbD l = false then s1
  else
    let s2 := s1.setFld st Fld.LAMP_STATUS_DIAG r
    if r = 2 then s2.raiseN 272 l
    else if r = 3 then s2.raiseN 273 l
    else if was = 2 ∨ was = 3 then s2.raiseN 274 l
    else s2

/-! ### Conversions (R538, R539, R541) -/

/-- Whether a sequence entry is enabled. -/
def State.seqOn (s : State) (e : Nat) : Bool :=
  decide (30 ≤ e) || (s.bit (Reg.HADC_SEQ e) Fld.HADC_SEQ_EN && decide (s.fld (Reg.HADC_SEQ e) Fld.HADC_SEQ_INPUT < 40))

/-- The input of a sequence entry: entries 30 and 31 are fixed. -/
def State.seqInput (s : State) (e : Nat) : Nat :=
  if e = 30 then 10 else if e = 31 then 9 else s.fld (Reg.HADC_SEQ e) Fld.HADC_SEQ_INPUT

/-- The input of a conversion. -/
def Conv.input (c : Conv) : Nat :=
  match c with
  | .entry _ i => i
  | .soft i => i
  | .lamp l _ => 20 + l

/-- A conversion that starts now: a lamp's sample is taken here, in time or not (R534). -/
def State.startConv (s : State) (c : Conv) : Conv :=
  match c with
  | .lamp l _ => .lamp l (s.lampInTime l)
  | x => x

/-- The conversion that the next slot takes, and the state that has given it up (R539, R541, R542). -/
def State.nextConv (s : State) : Conv × State :=
  match s.hadc.queue, s.hadc.restart with
  | c :: q, _ => (s.startConv c, s.setQueue q)
  | [], c :: r => (s.startConv c, { s with hadc := { s.hadc with restart := r } })
  | [], [] =>
    let n := s.fld Reg.HADC_STATUS Fld.HADC_STATUS_NEXT
    let e := (((List.range 32).map (fun i => (n + i) % 32)).find? s.seqOn).getD 31
    (.entry e (s.seqInput e), s.setFld Reg.HADC_STATUS Fld.HADC_STATUS_NEXT ((e + 1) % 32))

/-- A conversion slot opens on the next position in turn. -/
def State.openSlot (s : State) : State :=
  if s.bit Reg.HADC_CTRL Fld.HADC_CTRL_EN then
    let r := s.nextConv
    let p := s.hadc.pos
    { r.2.setConv p (some r.1) with hadc := { (r.2.setConv p (some r.1)).hadc with pos := (p + 1) % 8 } }
  else s

/-- HADC_SLOT (R540, R541). -/
def State.hadcSlot (s : State) : State := s.lampRequests.openSlot

/-- The code of a raw result in 2^-8 codes, corrected by the slice's record (R543), within its 12 bits. How a fraction is
rounded is not stated: free (log entry 1). -/
def State.convCode (s : State) (slice : Nat) (raw : BitVec 20) : Nat × State :=
  let v := s.corrected (s.sliceRec slice) raw.toNat
  let f := Int.fdiv v 256
  if f * 256 = v then ((clampInt 0 4095 f).toNat, s)
  else ((clampInt 0 4095 (f + (s.takeFree.1 % 2 : Nat))).toNat, s.takeFree.2)

/-- The result of a sequence entry, with its limits (R539). -/
def State.entryResult (s : State) (e code : Nat) : State :=
  let s1 := s.setRegN (Reg.HADC_RES e) (code + 2 ^ 16)
  if s.bit (Reg.HADC_SEQ e) Fld.HADC_SEQ_LIMIT_EN then
    let lim := Reg.HADC_LIM e
    let out := decide (code < s.fld lim Fld.HADC_LIM_LOW) || decide (s.fld lim Fld.HADC_LIM_HIGH < code)
    let was := s.hadc.outside.getLsbD e
    let s2 := { s1 with hadc := { s1.hadc with outside := maskSet s1.hadc.outside e out } }
    if out && !was then s2.raiseN 280 (e + code * 2 ^ 16) else s2
  else s1

/-- What the code of an input means to the rest of the device (R521, R538, R550). -/
def State.inputResult (s : State) (input code : Nat) : State :=
  if input = 9 then
    ((s.setFld Reg.HADC_TEMP Fld.HADC_TEMP_ADIE (lowInt 16 ((code : Int) - 1024))).recheckAin).recheckSlices
  else if input = 8 then s.setFld Reg.HADC_TEMP Fld.HADC_TEMP_DDIE (lowInt 16 ((code : Int) - 1024))
  else if input = 10 then s.setFld Reg.HADC_LOAD Fld.HADC_LOAD_PVDD code
  else s

/-- The conversion at a position ends (R534, R535, R539, R542). -/
def State.convEnd (s : State) (p : Nat) (raw : BitVec 20) : State :=
  match SMap.find none s.hadc.conv p with
  | none => s
  | some c =>
    let slice := s.hadc.slices.getD p 0
    let r := s.convCode slice raw
    let s1 := r.2.setConv p none
    let s2 := match c with
      | .entry e _ => s1.entryResult e r.1
      | .soft i => s1.setRegN Reg.HADC_URG_RESULT (r.1 + i % 2 ^ 6 * 2 ^ 12 + 2 ^ 18)
      | .lamp l ok => if ok then s1.lampDiag l r.1 else s1
    let s3 := s2.inputResult c.input r.1
    if s3.hadc.swapWait = some slice then s3.doSwap slice else s3

/-- HADC_CONVERSION_DONE: a lamp request that is due by now comes first, and aborts the conversion of a slice that waits for its
swap (R540, R542). -/
def State.convDone (s : State) (p : Nat) (raw : BitVec 20) : State := s.lampRequests.convEnd p raw

/-- LOAD_CLASS_EVAL (R521, R523). -/
def State.loadEval (s : State) (taken0 taken1 : Nat) : State :=
  ((s.setFld Reg.HADC_LOAD Fld.HADC_LOAD_LCLASS (s.newClass taken0 taken1)).recheckAin).recheckSlices

/-! ### The commands -/

/-- The command TU_CLK_TICK: PT advances, and the lamp requests that have come due join the urgent queue (R28, R30, R534). -/
def execTuClkTick (s : State) : Host.Outcome State Fault Refusal := .next s.tick.lampRequests

/-- The command LOAD_CLASS_EVAL. -/
def execLoadClassEval (taken0 taken1 : Fin 9) (s : State) : Host.Outcome State Fault Refusal :=
  .next (s.loadEval taken0 taken1)

/-- The command LAMP_PERIOD_START. -/
def execLampPeriodStart (l : Fin 8) (j : Nat) (s : State) : Host.Outcome State Fault Refusal := .next (s.lampPeriod l j)

/-- The command LAMP_OFF_EDGE. -/
def execLampOffEdge (l : Fin 8) (s : State) : Host.Outcome State Fault Refusal := .next (s.lampOff l)

/-- The command HADC_URGENT. -/
def execHadcUrgent (input : BitVec 6) (s : State) : Host.Outcome State Fault Refusal :=
  .next (s.softRequest input.toNat)

/-- The command HADC_SLOT. -/
def execHadcSlot (s : State) : Host.Outcome State Fault Refusal := .next s.hadcSlot

/-- The command HADC_CONVERSION_DONE. -/
def execHadcConversionDone (pos : Fin 8) (raw : BitVec 20) (s : State) : Host.Outcome State Fault Refusal :=
  .next (s.convDone pos raw)

/-- The command HADC_SLICE_SWAP. -/
def execHadcSliceSwap (s : State) : Host.Outcome State Fault Refusal := .next s.sliceSwap

/-- The command HADC_SLICE_CAL_DONE. -/
def execHadcSliceCalDone (r : CalRecord) (s : State) : Host.Outcome State Fault Refusal := .next (s.sliceCalDone r)

end Sys2Proof.Machine
end

