-- ==== Sys2Proof/Machine/Ledger.lean ====
section
/-! DEFINITION. The ledger (R590-R593): its control record, keys and boot records, the writes of the masters, and the
memories that BOOT shares with the flash: the idle code banks (R603, R606). -/

namespace Sys2Proof.Machine

/-- The local address of the ledger (R403, R590). -/
def ledgerLo : Nat := 0x18000000

/-- The size of the ledger. -/
def ledgerSize : Nat := 0x800000

/-- The byte offset of the first 64-bit word with an error that n bytes at an offset touch. -/
def State.ledgerWord (s : State) (bad : Bool) (off n : Nat) : Option Nat :=
  (s.ecc.find? (fun e => e.2 == bad && decide (e.1 < ledgerLo + off + n) && decide (ledgerLo + off < e.1 + 8))).map
    (fun e => e.1 - ledgerLo)

/-- A read of the ledger: none, with an error answer to the reader, when a word is uncorrectable (R590, R610). -/
def State.ledgerRead (s : State) (off n : Nat) : Option (List Byte) × State :=
  let s1 := match s.ledgerWord false off n with
    | some a => s.raiseN 16 a
    | none => s
  match s.ledgerWord true off n with
  | some a => (none, s1.raiseN 17 a)
  | none => (some (s1.read (ledgerLo + off) n), s1)

/-- A write of BOOT to the ledger; a whole 64-bit word written anew is valid. -/
def State.ledgerPut (s : State) (off : Nat) (bs : List Byte) : State :=
  (s.write (ledgerLo + off) bs).eccClear (ledgerLo + off) bs.length

/-! ### The control record (R591) -/

/-- The seven words of a control record; the CRC is the last. -/
def Control.words (bs : List Byte) : List Word := wordsOf 7 bs

/-- Whether the CRC of a copy is good. -/
def controlGood (bs : List Byte) : Bool := crc32c (bs.take 24) == wordOf (bs.drop 24)

/-- Whether SEQ a is ahead of SEQ b, modulo 2^32 as in R6. -/
def seqAhead (a b : Word) : Bool :=
  let d := (a - b).toNat
  decide (0 < d) && decide (d < 2 ^ 31)

/-- A copy that qualifies: readable, with a good CRC. -/
def State.controlCopy (s : State) (off : Nat) : Option (List Word) × State :=
  let r := s.ledgerRead off 28
  match r.1 with
  | some bs => (if controlGood bs then some (Control.words bs) else none, r.2)
  | none => (none, r.2)

/-- The control record in use: of the copies that qualify the one with the higher SEQ; copy 0 of two equal ones. -/
def State.control (s : State) : Option (List Word) × State :=
  let a := s.controlCopy 0
  let b := a.2.controlCopy 0x800
  match a.1, b.1 with
  | some x, some y => (some (if seqAhead (y.getD 0 0) (x.getD 0 0) then y else x), b.2)
  | some x, none => (some x, b.2)
  | none, y => (y, b.2)

/-- The words of a control record with none qualifying: all zeros, the record that updates start from then. -/
def controlWords (c : Option (List Word)) : List Word := c.getD (List.replicate 7 0)

/-- A control record as it is written: words 0-5, then their CRC, then the unused word of its 64-bit pair. -/
def controlBytes (ws : List Word) : List Byte :=
  let body := (ws.take 6).flatMap wordBytes
  body ++ wordBytes (crc32c body) ++ leBytes 4 0

/-- The control record changed: SEQ goes on by one, and copy 0 and then copy 1 are written. What BOOT has read of it raises no
further ECC event. -/
def State.setControl (s : State) (f : List Word → List Word) : State :=
  let ws := f (controlWords s.control.1)
  let bs := controlBytes (ws.set 0 (ws.getD 0 0 + 1))
  (s.ledgerPut 0 bs).ledgerPut 0x800 bs

/-- A word of the control record in use, zero when none qualifies. -/
def State.controlWord (s : State) (i : Nat) : Nat := ((controlWords s.control.1).getD i 0).toNat

/-- The leaf in force is recorded (R283, R591). -/
def State.ledgerLeaf (s : State) (leaf : Nat) : State :=
  s.setControl (fun ws => ws.set 1 (BitVec.ofNat 32 (leaf % 2 ^ 8 + 2 ^ 8)))

/-- ATTEMPTS of a slot (R591). -/
def State.attempts (s : State) (slot : Nat) : Nat := s.controlWord 4 / 2 ^ (8 * slot) % 2 ^ 8

/-- Write ATTEMPTS of a slot. -/
def State.setAttempts (s : State) (slot n : Nat) : State :=
  s.setControl (fun ws => ws.set 4 (Field.put ⟨8 * slot, 8⟩ (ws.getD 4 0) n))

/-! ### Keys and boot records (R592, R593) -/

/-- The offset of a key slot. -/
def keyAt (i : Nat) : Nat := 0x1000 + 0x80 * i

/-- Word 0 of a key slot. -/
def State.keyWord (s : State) (i : Nat) : Word := s.word (ledgerLo + keyAt i)

/-- Whether a key is usable (R592); a key that cannot be read is not. -/
def State.keyUsable (s : State) (i : Nat) : Bool :=
  decide (i < 4) && testBit (s.keyWord i) 0 && !testBit (s.keyWord i) 1 && (s.ledgerWord true (keyAt i) 0x70).isNone

/-- The public key of a slot, X then Y. -/
def State.keyBytes (s : State) (i : Nat) : List Byte := s.read (ledgerLo + keyAt i + 0x10) 96

/-- A boot record, and BOOTS counted after it (R591, R593). `outcome` is 1 for audio and 2 for RECOVERY. What an audio
outcome has as its cause is not stated: free (log entry 1). The record of an unreadable control record counts from 0 and
writes no control record (R595). -/
def State.bootRecord (s : State) (slot outcome cause ms : Nat) (leaf : Nat) : State :=
  let r := s.control.1
  let boots := ((controlWords r).getD 5 0).toNat
  let secs := if s.fld Reg.TIME_STATUS Fld.TIME_STATUS_SERVO_STATE = 2 then ptSec s.now % 2 ^ 32 else 0
  let s1 := if outcome = 1 then s.takeFree.2 else s
  let c := if outcome = 1 then s.takeFree.1 % 2 ^ 8 else cause
  let bs := [boots, slot + outcome * 2 ^ 4 + c * 2 ^ 8, ms, s.boot.svn.toNat, secs, leaf, 0, 0].flatMap (leBytes 4)
  let s2 := s1.ledgerPut (0x2000 + boots % 64 * 0x20) bs
  if r.isSome then s2.setControl (fun ws => ws.set 5 (ws.getD 5 0 + 1)) else s2

/-! ### The code banks (R603, R606) -/

/-- The local address of the code bank in force (R640). -/
def codeLo (p : Nat) : Nat := if p = 0 then 0x0A400000 else 0x0A600000

/-- The size of a code bank. -/
def codeSize : Nat := 0x100000

/-- IMAGE_ID in force. -/
def fwReg (p : Nat) : Nat := if p = 0 then Reg.BOOT_FW_CPA else Reg.BOOT_FW_CPB

/-- IMAGE_ID staged. -/
def stagedReg (p : Nat) : Nat := if p = 0 then Reg.BOOT_STAGED_CPA else Reg.BOOT_STAGED_CPB

/-- A memory moved from one range to another. -/
def Memory.move (m : Memory) (lo size to_ : Nat) : Memory :=
  (m.filter (fun e => decide (lo ≤ e.1) && decide (e.1 < lo + size))).map (fun e => (e.1 - lo + to_, e.2))

/-- The idle bank of a processor, by byte offset. -/
def State.idleBank (s : State) (p : Nat) : Memory := if p = 0 then s.boot.idleA else s.boot.idleB

/-- Write the idle bank of a processor. -/
def State.setIdle (s : State) (p : Nat) (m : Memory) : State :=
  if p = 0 then { s with boot := { s.boot with idleA := m } } else { s with boot := { s.boot with idleB := m } }

/-- Write the IMAGE_ID the idle bank holds from before an activation. -/
def State.setPrev (s : State) (p : Nat) (w : Word) : State :=
  if p = 0 then { s with boot := { s.boot with prevA := w } } else { s with boot := { s.boot with prevB := w } }

/-- The two banks of a processor exchange roles. -/
def State.swapBanks (s : State) (p : Nat) : State :=
  let out := Memory.move s.mem (codeLo p) codeSize 0
  let bytes := Memory.move (s.idleBank p) 0 codeSize (codeLo p)
  let mem := bytes.foldl (fun m e => Memory.setByte m e.1 e.2) (Memory.clear s.mem (codeLo p) (codeLo p + codeSize))
  { s with mem := mem }.setIdle p out

/-- The watchdog of a processor counts anew (R633). -/
def State.wdogRestart (s : State) (p : Nat) : State :=
  { s with host := { s.host with wdogAt := SMap.set 0 s.host.wdogAt p s.time.ticks } }

/-- The 2 s of R606 begin. -/
def State.activatedNow (s : State) (p : Nat) : State :=
  { s with boot := { s.boot with actAt := SMap.set 0 s.boot.actAt p s.time.ticks } }

/-- The IMAGE_ID that the idle bank of a processor holds: the staged one, or the one from before an activation. -/
def State.idleFw (s : State) (p : Nat) : Word := if s.reg (stagedReg p) = 0 then s.prevFw p else s.reg (stagedReg p)

/-- FW_ACTIVATED: an ACTIVATE commits (R606). The image before it stays in the idle bank; a second ACTIVATE admitted with the
first brings it back, since the banks exchange roles again. -/
def State.activate (s : State) (p : Nat) : State :=
  let old := s.reg (fwReg p)
  let new := s.idleFw p
  (((((s.swapBanks p).setReg (fwReg p) new).setReg (stagedReg p) 0).setPrev p old |>.wdogRestart p).activatedNow p).raiseN 317
    (p + new.toNat / 2 ^ 16 * 2 ^ 16)

/-! ### Writes of the masters (R402, R591, R594) -/

/-- A write that the ledger refuses (R402, R591, R630): no XBAR_ERR. -/
def State.ledgerRefuse (s : State) (m : Master) (off : Nat) : State :=
  let s1 := s.raiseN 18 (off + Master.code m * 2 ^ 24)
  if m = .host then s1.hostErr 2 0 true (ledgerLo + off) else s1

/-- A write error of a master at the crossbar, answered to the host as well (R402, R630). -/
def State.writeErr (s : State) (m : Master) (addr cause : Nat) : State :=
  let s1 := s.xbarErr (Master.code m) addr true cause
  if m = .host then s1.hostErr 1 0 true addr else s1

/-- The ranges, by offset and length, of the ledger words that a write of n bytes writes in part. -/
def ledgerEdges (off n : Nat) : List (Nat × Nat) :=
  (if off % 8 = 0 then [] else [(off / 8 * 8, 1)]) ++ (if (off + n) % 8 = 0 then [] else [((off + n) / 8 * 8, 1)])

/-- The reads of a read-modify-write (R590, R610): their errors are raised, and nothing is written after an uncorrectable one.
The rules of vat memory are taken for the ledger. -/
def State.ledgerRmw (s : State) : List (Nat × Nat) → Bool × State
  | [] => (true, s)
  | e :: es =>
    let r := s.ledgerRead e.1 e.2
    if r.1.isNone then (false, r.2) else r.2.ledgerRmw es

/-- A read-modify-write of the ledger that meets an uncorrectable error is answered with an error (R590, R630). -/
def State.ledgerRmwErr (s : State) (m : Master) (off : Nat) : State :=
  let s1 := s.xbarErr (Master.code m) (ledgerLo + off) true 2
  if m = .host then s1.hostErr 7 0 true (ledgerLo + off) else s1

/-- LEDGER_WRITE (R400, R402, R591, R594). -/
def State.ledgerWrite (s : State) (m : Master) (off : Nat) (bs : List Byte) : State :=
  if !reaches (Master.code m) 34 then s.writeErr m (ledgerLo + off) 1
  else if m = .host ∧ !s.released then s.hostErr 2 0 true (ledgerLo + off)
  else if off < 0x10000 ∧ m ≠ .boot then s.ledgerRefuse m off
  else if ledgerSize < off + bs.length then s.writeErr m (ledgerLo + ledgerSize) 0
  else
    let r := s.ledgerRmw (ledgerEdges off bs.length)
    if r.1 then r.2.ledgerPut off bs else r.2.ledgerRmwErr m off

/-- The command LEDGER_WRITE: a transaction of its master, which holds one tag of the crossbar (R401, R436). -/
def execLedgerWrite (m : Master) (offset : BitVec 23) (data : List Byte) (s : State) : Host.Outcome State Fault Refusal :=
  .next (if m = .host ∧ !s.released then s.ledgerWrite m offset.toNat data
    else (s.ledgerWrite m offset.toNat data).holdTags 1)

end Sys2Proof.Machine
end

