-- ==== Sys2Proof/Machine/Admit.lean ====
section
/-! DEFINITION. Clause images, their records, and the admission of a clause (R259-R272, R284, R292, R218, R239, R365, R379,
R397, R411, R470, R513, R575, R576, R605, R623). -/

namespace Sys2Proof.Machine

/-! ### Records (R261, R265) -/

/-- A record: its four words. -/
abbrev Rec := Word × Word × Word × Word

/-- Words 1-3 of a record as numbers. -/
def Rec.w1 (r : Rec) : Nat := r.2.1.toNat

/-- Word 2. -/
def Rec.w2 (r : Rec) : Nat := r.2.2.1.toNat

/-- Word 3. -/
def Rec.w3 (r : Rec) : Nat := r.2.2.2.toNat

/-- OP. -/
def Rec.op (r : Rec) : Nat := r.1.toNat % 2 ^ 4

/-- The phrase of a PARAM or PBLOCK record. -/
def Rec.phrase (r : Rec) : Nat := r.1.toNat / 2 ^ 4 % 2 ^ 12

/-- The sink of a ROUTE record. -/
def Rec.sink (r : Rec) : Nat := r.1.toNat / 2 ^ 4 % 2 ^ 15

/-- The word of the route entry. -/
def Rec.routeWord (r : Rec) : Nat := r.1.toNat / 2 ^ 19 % 4

/-- Whether an ENTRY record names the MAC table; the processor of an ACTIVATE stands in the same bit. -/
def Rec.mac (r : Rec) : Bool := testBit r.1 4

/-- The target of a GUARANTEE record. -/
def Rec.target (r : Rec) : Nat := r.1.toNat / 2 ^ 4 % 2 ^ 6

/-- The master of a GUARANTEE record. -/
def Rec.master (r : Rec) : Nat := r.1.toNat / 2 ^ 10 % 2 ^ 5

/-- The change of a GUARANTEE record in MB/s. -/
def Rec.change (r : Rec) : Int := r.2.1.toInt

/-- PARAM or PBLOCK. -/
def Rec.isBank (r : Rec) : Bool := r.op == 2 || r.op == 3

/-- A word with the bits of a mask taken from the data (R261). -/
def mergeWord (old data mask : Word) : Word := (old &&& ~~~mask) ||| (data &&& mask)

/-- The bits of word 0 above OP that must be zero, by OP. -/
def recRes0 (op : Nat) : Nat :=
  match op with
  | 1 => 0xFFFFFFF0 | 2 => 0xFFFF0000 | 3 => 0xFFFF0000 | 4 => 0xFFE00000 | 5 => 0xFFFFFFE0
  | 6 => 0xFFFF8000 | 7 => 0xFFFFFFE0 | _ => 0xFFFFFFF0

/-- Whether a record breaks R261, R265 or R411 (code FORMAT). -/
def Rec.bad (r : Rec) : Bool :=
  let res := (r.1 &&& BitVec.ofNat 32 (recRes0 r.op)) != 0
  res || match r.op with
  | 1 => r.w1 % 4 != 0
  | 2 => r.w1 % 4 != 0
  | 3 => r.w1 % 16 != 0 || r.w2 % 16 != 0 || r.w3 % 16 != 0 || decide (r.w3 < 16) || decide (4096 < r.w3)
  | 4 => r.w1 != 0
  | 5 => r.w3 != 0 || r.w2 % 16 != 0
  | 6 => r.w2 != 0 || r.w3 != 0 || decide (35 < r.target) || decide (20 < r.master) || !reaches r.master r.target
  | 7 => r.w2 != 0 || r.w3 != 0
  | 8 => r.w2 != 0 || r.w3 != 0 || decide (2 ^ 8 ≤ r.w1)
  | _ => true

/-- The index of the first record with a property. -/
def recIdx (recs : List Rec) (p : Rec → Bool) : Option Nat := recs.findIdx? p

/-- The smaller of two indices of an offending record. -/
def minIdx (a b : Option Nat) : Option Nat :=
  match a, b with
  | some x, some y => some (min x y)
  | some x, none => some x
  | none, y => y

/-! ### Images (R260, R262) -/

/-- A word of an image. -/
def State.imgWord (s : State) (img i : Nat) : Nat := (s.word (img + 4 * i)).toNat

/-- The records of an image. -/
def State.imgRecs (s : State) (img n : Nat) : List Rec :=
  (List.range n).map (fun i =>
    let a := img + 32 + 16 * i
    (s.word a, s.word (a + 4), s.word (a + 8), s.word (a + 12)))

/-- Whether the CRC of an image checks (R262). -/
def State.imgCrcOk (s : State) (img n : Nat) : Bool :=
  crc32c (s.read img 28 ++ leBytes 4 0 ++ s.read (img + 32) (16 * n)) == s.word (img + 28)

/-- How many of n records lie wholly inside the vat window (R260). -/
def recsInside (img n : Nat) : Nat := min n ((vatHi - (img + 32)) / 16)

/-- Code FORMAT: the index of the first offending record (R260, R261, R269). -/
def State.formatErr (s : State) (img : Nat) : Option Nat :=
  if img % 16 ≠ 0 ∨ !inVat img 32 then some 0
  else
    let w := s.imgWord img
    let n := w 0 % 2 ^ 13
    if n = 0 ∨ 4096 < n ∨ (w 0).testBit 15 ∨ w 0 / 2 ^ 18 ≠ 0 ∨ w 5 ≠ 0 ∨ w 6 ≠ 0 ∨
        ((w 0).testBit 13 ∧ (w 0).testBit 14) then some 0
    else
      let m := recsInside img n
      let recs := s.imgRecs img m
      let twice (op : Nat) : Option Nat := ((List.range m).filter (fun i => ((recs.getD i (0, 0, 0, 0)).op == op)))[1]?
      minIdx (minIdx (recIdx recs Rec.bad) (minIdx (twice 7) (twice 8))) (if m < n then some m else none)

/-! ### What a clause would do (R263, R269, R275-R278) -/

/-- The SH bits of a register word (R277). -/
def shBits (a : Nat) : Word :=
  match regRow a with
  | none => 0
  | some r => BitVec.ofNat 32 r.sh

/-- The value that a staged register would otherwise have: the one staged for its PLL, else the one in force (R88). -/
def State.stagedOr (s : State) (a : Nat) : Word := SMap.find (s.reg a) s.synth.staged a

/-- A REG record applied (R277). -/
def State.regRec (s : State) (r : Rec) : State :=
  s.setReg r.w1 (mergeWord (s.reg r.w1) r.2.2.1 (r.2.2.2 &&& shBits r.w1))

/-- The address of a bank of a phrase in a phrase table (R164, R275). -/
def State.bankAddr (s : State) (tab p : Nat) (b : Bool) : Nat :=
  (s.word ((tab + 64 * p + (if b then 24 else 20)) % 2 ^ 32)).toNat

/-- A PARAM or PBLOCK record written into one bank (R261, R275). -/
def State.bankRec (s : State) (tab : Nat) (b : Bool) (r : Rec) : State :=
  let a := (s.bankAddr tab r.phrase b + r.w1) % 2 ^ 32
  if r.op = 2 then s.unitPut a (wordBytes (mergeWord (s.word a) r.2.2.1 r.2.2.2))
  else s.unitPut a (s.read r.w2 r.w3)

/-- A ROUTE record written into a table (R276). -/
def State.routeRec (s : State) (base : Nat) (r : Rec) : State :=
  let a := base + 16 * r.sink + 4 * r.routeWord
  s.unitPut a (wordBytes (mergeWord (s.word a) r.2.2.1 r.2.2.2))

/-- The address and the size of a table entry. -/
def entryAt (mac : Bool) (i : Nat) : Nat := if mac then macAt i else streamAt i

/-- The bytes of a table entry. -/
def entrySize (mac : Bool) : Nat := if mac then 16 else 64

/-- The words of an image with the bits that the table lists; every other bit is RES0 (R9). -/
def maskWords (bs : List Byte) (ms : List Nat) : List Byte :=
  (List.range ms.length).flatMap (fun i => wordBytes (wordOf (bs.drop (4 * i)) &&& BitVec.ofNat 32 (ms.getD i 0)))

/-- The bits of a stream table entry by direction (R363). -/
def streamMask (tx : Bool) : List Nat :=
  (if tx then [0xFF87, 0xFFFFFFFF, 0xFFFFFFFF, 0x3FFF, 0xFFFFFFFF, 0xFFFFFFFF, 0x1FF, 0, 0xFFFFFFFF]
   else [0xFFFF, 0xFFFFFFFF, 0xFFFFFFFF, 0xFFFFFFFF, 0xFFFFFF, 0xFFFFF, 0x7FF, 0xFF, 0xFFFFFFFF]) ++ List.replicate 7 0

/-- The image of an ENTRY record as it enters the table: all zeros invalidates; a MAC entry is made STATIC, and HIT is set by
source hits alone (R261, R363, R379). -/
def State.entryImage (s : State) (r : Rec) : List Byte :=
  if r.w2 = 0 then List.replicate (entrySize r.mac) 0
  else
    let bs := s.read r.w2 (entrySize r.mac)
    if r.mac then
      let m := maskWords bs [0xFFFFFFFF, 0xFFFFFFF, 0x7FF, 0]
      patch m 9 [m.getD 9 0 ||| 2]
    else maskWords bs (streamMask (testBit (wordOf bs) 1))

/-- Whether the records change the phrase table (R275): SEQ_PTAB or SEQ_COUNTS differ between two states. -/
def tableMoves (s t : State) : Bool := s.reg Reg.SEQ_PTAB != t.reg Reg.SEQ_PTAB || s.reg Reg.SEQ_COUNTS != t.reg Reg.SEQ_COUNTS

/-- The REG records applied. -/
def State.projectRegs (s : State) (recs : List Rec) : State :=
  recs.foldl (fun s r => if r.op = 1 then s.regRec r else s) s

/-- The contents that would stand after a clause: the copies in force are changed in place, which the copies hold again
when the mirror pass is complete (R274). -/
def State.project (s : State) (tab : Nat) (recs : List Rec) : State :=
  let base := s.regN (Reg.MIX_RTAB (s.fld Reg.MIX_RCTRL Fld.MIX_RCTRL_BANK))
  recs.foldl (fun s r =>
    match r.op with
    | 2 => s.bankRec tab (s.bankNewest r.phrase) r
    | 3 => s.bankRec tab (s.bankNewest r.phrase) r
    | 4 => s.routeRec base r
    | 5 => s.write (entryAt r.mac r.w1) (s.entryImage r)
    | _ => s) (s.projectRegs recs)

/-! ### Slots -/

/-- The state code of a slot (R300). -/
def State.slotState (s : State) (n : Nat) : Nat := s.fld (Reg.CLAUSE_SLOT_STATE n) Fld.CLAUSE_SLOT_STATE_STATE

/-- What CLAUSE keeps of a slot. -/
def State.slot (s : State) (n : Nat) : ClauseSlot := SMap.find {} s.clause.slots n

/-- Write what CLAUSE keeps of a slot. -/
def State.setSlot (s : State) (n : Nat) (c : ClauseSlot) : State :=
  { s with clause := { s.clause with slots := SMap.set {} s.clause.slots n c } }

/-- Whether a slot holds an admitted, uncommitted clause: its reservations stand until its UNWIND is over (R267, R270). -/
def State.slotHeld (s : State) (n : Nat) : Bool :=
  let st := s.slotState n
  (decide (2 ≤ st) && decide (st ≤ 6)) || (st == 9 && !(s.slot n).recs.isEmpty)

/-- The other slots with an admitted, uncommitted clause, by C and then by submission. -/
def State.pendingSlots (s : State) (n : Nat) : List ClauseSlot :=
  sortBy (fun (x y : ClauseSlot) => decide (x.c < y.c) || (x.c == y.c && decide (x.order < y.order)))
    (((List.range 16).filter (fun i => i != n && s.slotHeld i)).map s.slot)

/-! ### Restart commits and rates (R195, R42) -/

/-- The registers whose change makes a restart commit, with the bits that count (R195). -/
def restartRegs : List (Nat × Word) :=
  [(Reg.TIME_CTRL, 7), (Reg.SEQ_CTRL, 0x1F0), (Reg.SEQ_PTAB, 0xFFFFFFFF), (Reg.SEQ_STAB, 0xFFFFFFFF),
   (Reg.SEQ_FTAB, 0xFFFFFFFF), (Reg.SEQ_COUNTS, 0x0FFF1FFF)]

/-- The restart registers that differ between two states. -/
def restartDiff (s t : State) : List Nat :=
  (restartRegs.filter (fun e => ((s.reg e.1 ^^^ t.reg e.1) &&& e.2) != 0)).map (·.1)

/-- Whether the records of a clause change the rate from what another state has. -/
def rateDiff (s t : State) : Bool := s.rate != t.rate

/-- The rate in force at a PT, after the pending clauses that commit by then (R259, R269). -/
def State.rateAt (s : State) (ps : List ClauseSlot) (t : Nat) : Nat :=
  ((ps.filter (fun p => decide (p.c ≤ t))).foldl (fun s p => s.projectRegs p.recs) s).rate

/-- The folio whose boundary truncates to a whole-nanosecond PT, at a rate (R259). -/
def boundaryOf (hz t : Nat) : Option Nat :=
  let n := (t * hz + secUnit - 1) / secUnit
  if n % 8 = 0 ∧ edgePt hz n < t + nsUnit then some (n / 8) else none

/-! ### The checks (R269) -/

/-- Code KIND (R292). -/
def kindErr (kind : Nat) (recs : List Rec) (restart : List Nat) : Option Nat :=
  let a := if kind = 3 then none else recIdx recs (fun r => r.op == 1 && restart.contains r.w1)
  let b := if kind = 2 then none else recIdx recs (fun r => r.op == 7)
  let c := if kind = 1 then none else recIdx recs (fun r => r.op == 8)
  let d := if (kind = 2 ∧ recs.all (fun r => r.op != 7)) ∨ (kind = 1 ∧ recs.all (fun r => r.op != 8)) then some 0 else none
  minIdx (minIdx a b) (minIdx c d)

/-- The PLLs whose update a SYNTH register belongs to (R88): its own, or either for SYNTH_ROUTE. -/
def synthPlls (a : Nat) : List Nat := if a = Reg.SYNTH_ROUTE then [0, 1] else [0, 1].filter (fun x => synthOwns x a)

/-- The PLLs that the records name. -/
def recPlls (recs : List Rec) : List Nat := (recs.filter (fun r => r.op == 1)).flatMap (fun r => synthPlls r.w1)

/-- Code TARGET: `tab` and `np` locate the phrase table of R275, `plls` are those of uncommitted clauses. -/
def State.targetErr (s : State) (tab np : Nat) (plls : List Nat) (recs : List Rec) : Option Nat :=
  let valid (p : Nat) : Bool := decide (p < np) && testBit (s.word ((tab + 64 * p) % 2 ^ 32)) 0
  recIdx recs (fun r =>
    match r.op with
    | 1 => shBits r.w1 == 0 || r.w1 == Reg.MIX_RCTRL || (synthPlls r.w1).any plls.contains
    | 2 => !valid r.phrase
    | 3 => !valid r.phrase || !inVat r.w2 r.w3
    | 4 => decide (16462 ≤ r.sink)
    | 5 => decide ((if r.mac then 16384 else 8192) ≤ r.w1) || (r.w2 != 0 && !inVat r.w2 (entrySize r.mac))
    | _ => false)

/-- The EtherTypes that a stream or relay EtherType must not take (R397, R623). -/
def etypeBad (v : Nat) : Bool := decide (v < 0x600) || [0x0800, 0x22F0, 0x8100, 0x8808, 0x88F7].contains v

/-- The bits of a register that the records of a clause set. -/
def recMask (recs : List Rec) (a : Nat) : Word :=
  recs.foldl (fun m r => if r.op = 1 ∧ r.w1 = a then m ||| r.2.2.2 else m) 0

/-- The value of a SYNTH register after the clause's update of its PLL. -/
def State.synthAfter (s : State) (recs : List Rec) (a : Nat) : Word :=
  recs.foldl (fun w r => if r.op = 1 ∧ r.w1 = a then mergeWord w r.2.2.1 (r.2.2.2 &&& shBits a) else w) (s.stagedOr a)

/-- Whether the value of a register after the clause lies outside its stated range; `s` has the registers in
force and `t` those after the clause. -/
def regBad (s t : State) (recs : List Rec) (a : Nat) : Bool :=
  let v := t.reg a
  let pair (x : Nat) : Nat := ratioFix (s.synthAfter recs (Reg.SYNTH_RATIO x)) (s.synthAfter recs (Reg.SYNTH_RATIO x + 4))
  let ratio (x : Nat) : Bool := (a == Reg.SYNTH_RATIO x || a == Reg.SYNTH_RATIO x + 4) &&
    (decide (5 * pair x < 96 * 2 ^ 32) || decide (1024 * 2 ^ 32 < 25 * pair x))
  let div (x : Nat) : Bool := (List.range 7).any (fun n => a == Reg.SYNTH_OUT_CFG x n &&
    (let w := s.synthAfter recs a
     Fld.SYNTH_OUT_CFG_EN.get w == 1 && decide (Fld.SYNTH_OUT_CFG_DIV.get w < 2)))
  let sets (f : Field) : Bool := (recMask recs a &&& f.mask) != 0
  (a == Reg.TIME_CTRL && decide (5 < v.toNat % 8)) ||
  (a == Reg.SEQ_CTRL && (decide (Fld.SEQ_CTRL_LATENCY.get v < 10) || decide (24 < Fld.SEQ_CTRL_LATENCY.get v))) ||
  (a == Reg.SEQ_COUNTS && (decide (4096 < Fld.SEQ_COUNTS_NPHRASE.get v) || decide (2048 < Fld.SEQ_COUNTS_NFEED.get v))) ||
  ((a == Reg.DRAM_LCOUNT || a == Reg.REDUN_FELT_COUNT) && decide (4096 < v.toNat % 2 ^ 13)) ||
  (a == Reg.STREAM_ETYPE && ((sets Fld.STREAM_ETYPE_FOLIO && etypeBad (v.toNat % 2 ^ 16)) ||
    (sets Fld.STREAM_ETYPE_REFEREE && etypeBad (v.toNat / 2 ^ 16)) || v.toNat % 2 ^ 16 == v.toNat / 2 ^ 16)) ||
  (a == Reg.HOST_RELAY_CFG && sets Fld.HOST_RELAY_CFG_ETYPE && (etypeBad (v.toNat % 2 ^ 16) ||
    v.toNat % 2 ^ 16 == s.fld Reg.STREAM_ETYPE Fld.STREAM_ETYPE_FOLIO ||
    v.toNat % 2 ^ 16 == s.fld Reg.STREAM_ETYPE Fld.STREAM_ETYPE_REFEREE)) ||
  ((List.range 4).any (fun i => a == Reg.TALLY_GRACE i) &&
    (decide (v.toNat % 2 ^ 20 = 0) || decide (1000000 < v.toNat % 2 ^ 20))) ||
  ((List.range 192).any (fun i => a == Reg.TALLY_CLASS i) && v.toNat % 4 == 3) ||
  ((List.range 16).any (fun i => a == Reg.AIN_CH_GAIN i) && decide (66 < v.toNat % 2 ^ 7)) ||
  ratio 0 || ratio 1 || div 0 || div 1

/-- The net change of the records of a clause on a target (R270). -/
def netOf (recs : List Rec) (t : Nat) : Int :=
  recs.foldl (fun n r => if r.op = 6 ∧ r.target = t then n + r.change else n) 0

/-- The net change of the records of a clause on a pair. -/
def netPair (recs : List Rec) (t m : Nat) : Int :=
  recs.foldl (fun n r => if r.op = 6 ∧ r.target = t ∧ r.master = m then n + r.change else n) 0

/-- A guarantee below zero after every pending clause and this one: the first record of the pair. -/
def State.guaranteeErr (s : State) (ps : List ClauseSlot) (recs : List Rec) : Option Nat :=
  recIdx recs (fun r => r.op == 6 &&
    decide ((s.regN (Reg.XBAR_GUAR r.target r.master) : Int) - s.guarDebt r.target r.master +
      netPair recs r.target r.master + (ps.map (fun p => netPair p.recs r.target r.master)).foldl (· + ·) 0 < 0))

/-- Word 1 of a route entry after the clause: `t` holds the table at `base`; where the table does not lie in vat memory, what
the records give over zeros. -/
def State.routeWordAfter (t : State) (base : Nat) (recs : List Rec) (sink : Nat) : Word :=
  let a := base + 16 * sink + 4
  if inVat a 4 then t.word a
  else (recs.filter (fun r => r.op == 4 && r.routeWord == 1 && r.sink == sink)).foldl (fun w r => mergeWord w r.2.2.1 r.2.2.2) 0

/-- A ROUTE record that leaves an RDLY from 9 to 15 (R269). -/
def State.rdlyErr (t : State) (base : Nat) (recs : List Rec) : Option Nat :=
  recIdx recs (fun r => r.op == 4 && r.routeWord == 1 &&
    decide (8 < (t.routeWordAfter base recs r.sink).toNat / 2 ^ 24 % 2 ^ 4))

/-- DELIV_t x 85 / 100, floored (R270). -/
def State.capOf (s : State) (t : Nat) : Nat := s.regN (Reg.XBAR_DELIV t) * 85 / 100

/-- Code BANDWIDTH (R271): the first record of a target whose net does not fit. -/
def State.bandwidthErr (s : State) (ps : List ClauseSlot) (recs : List Rec) : Option Nat :=
  recIdx recs (fun r => r.op == 6 && decide (0 < netOf recs r.target) &&
    decide ((s.capOf r.target : Int) < (s.regN (Reg.XBAR_GSUM r.target) : Int) + netOf recs r.target +
      (ps.map (fun p => max 0 (netOf p.recs r.target))).foldl (· + ·) 0))

/-- The mix phrases of the phrase table with the address of their newest program (R218). -/
def State.mixPrograms (s : State) : List (Nat × Nat) :=
  ((s.phrases).filter s.pMix).map (fun p => (p, s.pword p (if s.bankNewest p then 6 else 5)))

/-- The bus numbers of a program and its crosspoints with EN = 1 (R214-R216); a program outside the vat window has none. -/
def State.mixCount (s : State) (a : Nat) : List Nat × Nat :=
  if inVat a 16 then
    let w := (s.word a).toNat
    let xo := (s.word (a + 4)).toNat
    ((List.range (w % 2 ^ 11)).map (fun i => (s.word (a + 16 + 16 * i)).toNat % 2 ^ 10),
      ((List.range (w / 2 ^ 16)).filter (fun i => testBit (s.word (a + xo + 16 * i + 4)) 27)).length)
  else ([], 0)

/-- The bus records and crosspoints of all mix programs (R218, R255). -/
def State.mixUsage (s : State) : List Nat × Nat :=
  (s.mixPrograms.map (fun p => s.mixCount p.2)).foldl (fun a b => (a.1 ++ b.1, a.2 + b.2)) ([], 0)

/-- R218 broken: `t` stands after the clause. The offending record is taken as the first one that writes the program of a mix
phrase. -/
def State.mixErr (t : State) (recs : List Rec) : Option Nat :=
  let u := t.mixUsage
  if u.1.eraseDups.length ≠ u.1.length ∨ 65536 < u.2 then
    some ((recIdx recs (fun r => r.isBank && t.pMix r.phrase)).getD 0)
  else none

/-- The channel limit of a rate (R365). -/
def channelLimit (rate : Nat) : Nat := match rate with | 0 | 1 => 16384 | 2 | 3 => 8192 | _ => 4096

/-- Whether an entry of the stream table breaks R364 or R365; `l` are the VALID entries by index. -/
def State.streamBad (t : State) (l : List (Nat × StreamEntry)) (i : Nat) (e : StreamEntry) : Bool :=
  let lo := (8 * 1000000000 + t.hz - 1) / t.hz
  let hi := t.latency * 1000000000 / t.hz
  decide (e.nch < 1) || decide ((if e.aaf then 64 else 256) < e.nch) ||
  (if e.tx then decide (16384 < e.w3 % 2 ^ 14 + e.nch)
   else i / 4 != keyBucket e.key || l.any (fun x => x.1 != i && !x.2.tx && x.2.key == e.key && x.2.aaf == e.aaf) ||
     decide (e.stride < 32 * e.nch) || decide (e.win < lo) || decide (hi < e.win))

/-- R365 on the stream table after the clause: an entry that the clause does not write counts as record 0. -/
def State.streamErr (t : State) (recs : List Rec) : Option Nat :=
  let l := ((listedIn t.mem 0x02080000 64 8192).map (fun i => (i, t.entry i))).filter (fun x => x.2.valid)
  let bad := l.filter (fun x => t.streamBad l x.1 x.2)
  let sum := fun (tx : Bool) => ((l.filter (fun x => x.2.tx == tx)).map (fun x => x.2.nch)).foldl (· + ·) 0
  let a := if bad.isEmpty then none else some ((recIdx recs (fun r => r.op == 5 && !r.mac && bad.any (·.1 == r.w1))).getD 0)
  let b := if channelLimit t.rate < sum true ∨ channelLimit t.rate < sum false then
      some ((recIdx recs (fun r => r.op == 5 && !r.mac)).getD 0) else none
  minIdx a b

/-- R379 on the MAC table after the clause. -/
def State.macErr (t : State) (recs : List Rec) : Option Nat :=
  let l := ((listedIn t.mem 0x02100000 16 16384).map (fun i => (i, t.macEntry i))).filter (fun x => x.2.valid)
  let bad := l.filter (fun x => x.1 / 4 != macBucket x.2.addr x.2.vid ||
    l.any (fun y => y.1 != x.1 && y.2.addr == x.2.addr && y.2.vid == x.2.vid))
  if bad.isEmpty then none else some ((recIdx recs (fun r => r.op == 5 && r.mac && bad.any (·.1 == r.w1))).getD 0)

/-- Strictly ascending. -/
def ascending : List Nat → Bool
  | x :: y :: l => decide (x < y) && ascending (y :: l)
  | _ => true

/-- R470 after the clause. -/
def State.feltErr (t : State) (recs : List Rec) : Option Nat :=
  let l := t.feltTable
  if !ascending l || l.any (fun p => decide (t.nPhrase ≤ p) || !t.pValid p) || decide (786432 < t.sheetSize) then
    some ((recIdx recs (fun r => r.op == 1 && (r.w1 == Reg.REDUN_FELT_TAB || r.w1 == Reg.REDUN_FELT_COUNT))).getD 0)
  else none

/-- The routing that stands after the clauses projected from s to t; `moved` says that one of them writes routes. Its table
is that of the bank in force, which holds the routes after them, unless the bank that comes into force has a new base. -/
def routeAfter (s t : State) (moved : Bool) : Route :=
  let old := s.fld Reg.MIX_RCTRL Fld.MIX_RCTRL_BANK
  let new := if moved then 1 - old else old
  let base := if s.reg (Reg.MIX_RTAB new) = t.reg (Reg.MIX_RTAB new) then s.reg (Reg.MIX_RTAB old) else t.reg (Reg.MIX_RTAB new)
  ⟨0, false, base, base, []⟩

/-- Whether the staging of a clause computes the delays of R239 anew. -/
def latencyMoves (s t : State) (recs : List Rec) : Bool :=
  recs.any (fun r => r.op == 4) || s.latency != t.latency || s.reg Reg.MIX_EQT != t.reg Reg.MIX_EQT ||
    s.reg (Reg.MIX_RTAB 0) != t.reg (Reg.MIX_RTAB 0) || s.reg (Reg.MIX_RTAB 1) != t.reg (Reg.MIX_RTAB 1)

/-- Code LATENCY_EQ (R239). -/
def State.latencyErr (t : State) (r : Route) (recs : List Rec) : Option Nat :=
  let bad := (t.equalSinks r).filter (fun k => decide (t.equalDelay r k < 0) || decide (8 < t.equalDelay r k))
  if bad.isEmpty then none
  else some ((minIdx (recIdx recs (fun x => x.op == 4 && bad.contains x.sink))
    (recIdx recs (fun x => x.op == 1 && [Reg.SEQ_CTRL, Reg.MIX_EQT, Reg.MIX_RTAB 0, Reg.MIX_RTAB 1].contains x.w1))).getD 0)

/-- The object a record writes (R272): a kind and a number. -/
def Rec.object (r : Rec) : Option (Nat × Nat) :=
  match r.op with
  | 1 => some (1, match regRow r.w1 with | some w => r.w1 - 4 * w.idx | none => r.w1)
  | 2 => some (2, r.phrase)
  | 3 => some (2, r.phrase)
  | 4 => some (4, 0)
  | 5 => some (if r.mac then (6, r.w1) else (5, r.w1))
  | _ => none

/-- Code OVERLAP (R272). -/
def overlapErr (ps : List ClauseSlot) (recs : List Rec) (sameC : Bool) : Option Nat :=
  let theirs := ps.flatMap (fun p => p.recs.filterMap Rec.object)
  minIdx (if sameC then some 0 else none)
    (recIdx recs (fun r => match r.object with | some o => theirs.contains o | none => false))

/-- Code STALE_GEN (R284). -/
def staleGen (force : Word) (ps : List ClauseSlot) (c : Nat) (gen : Word) : Bool :=
  !seqAhead gen force ||
    ps.any (fun p => (decide (p.c < c) && !seqAhead gen p.gen) || (decide (c < p.c) && !seqAhead p.gen gen))

/-- Code SEAL (R605). -/
def State.sealErr (s : State) (recs : List Rec) : Option Nat :=
  recIdx recs (fun r => r.op == 7 && (r.w1 == 0 || s.regN (stagedReg (bitOf r.mac)) != r.w1))

/-- The first refusal of a list of checks in order. -/
def firstRefusal : List (Nat × Option Nat) → Option (Nat × Nat)
  | [] => none
  | (code, some i) :: _ => some (code, i)
  | (_, none) :: l => firstRefusal l

/-- The folio whose boundary the image of a slot names at the rate in force there, and C itself: the exact boundary where it
names one (R259), or the SUBMIT of an IMMEDIATE clause. -/
def State.commitTime (s : State) (n : Nat) : Option Nat × Nat :=
  let q := s.slot n
  let ps := s.pendingSlots n
  let s0 := ps.foldl (fun s p => s.project p.ptab p.recs) s
  let s1 := s0.projectRegs (s.imgRecs q.image q.nrec)
  let rate := if rateDiff s0 s1 then s1.rate else s.rateAt ps q.c
  let folio := if s.imgWord q.image 3 < 1000000000 then boundaryOf (rateHz rate) q.c else none
  (folio, if q.immediate then q.submitPt else match folio with | some k => edgePt (rateHz rate) (8 * k) | none => q.c)

/-- The admission of the clause in a slot (R269): a refusal code with a record index, or the slot as admitted. A clause refused
with RANGE for a reserved RATE code raises no CONFIG_ERR: R71 names that event for a write (R73; log entry 15). -/
def State.admission (s : State) (n : Nat) : (Nat × Nat) ⊕ ClauseSlot :=
  let q := s.slot n
  match s.formatErr q.image with
  | some i => .inl (1, i)
  | none =>
    if !s.imgCrcOk q.image q.nrec then .inl (2, 0)
    else
      let recs := s.imgRecs q.image q.nrec
      let ps := s.pendingSlots n
      let s0 := ps.foldl (fun s p => s.project p.ptab p.recs) s
      let s1 := s0.projectRegs recs
      let moves := tableMoves s0 s1
      let tab := if moves then s1.regN Reg.SEQ_PTAB else s.regN Reg.SEQ_PTAB
      let np := if moves then s1.nPhrase else s.nPhrase
      let t := s0.project tab recs
      let restart := restartDiff s0 s1
      let folio := (s.commitTime n).1
      let c := (s.commitTime n).2
      let base := s0.regN (Reg.MIX_RTAB (s0.fld Reg.MIX_RCTRL Fld.MIX_RCTRL_BANK))
      let moved := (recs :: ps.map (·.recs)).any (fun l => l.any (fun r => r.op == 4))
      let timed := !q.immediate
      match firstRefusal [
        (3, kindErr q.kind recs restart),
        (4, s.targetErr tab np (ps.flatMap (fun p => recPlls p.recs)) recs),
        (5, minIdx (minIdx (recIdx recs (fun r => r.op == 1 && regBad s s1 recs r.w1))
              (if timed && decide (s.now + 3600 * secUnit < c) then some 0 else none))
            (minIdx (s.guaranteeErr ps recs) (t.rdlyErr base recs))),
        (6, if timed then minIdx (if folio.isNone then some 0 else none)
              (if rateDiff s0 s1 && c % (2 * secUnit) != 0 then recIdx recs (fun r => r.op == 1 && r.w1 == Reg.TIME_CTRL) else none)
            else none),
        (7, if timed && decide (c ≤ q.submitPt + q.armLead * usUnit) then some 0 else none),
        (8, s.bandwidthErr ps recs),
        (9, minIdx (minIdx (t.mixErr recs) (t.streamErr recs)) (minIdx (t.macErr recs) (t.feltErr recs))),
        (10, if latencyMoves s0 t recs then t.latencyErr (routeAfter s t moved) recs else none),
        (11, overlapErr ps recs (timed && ps.any (fun p => !p.immediate && p.c == c &&
              (!restart.isEmpty || !(restartDiff s (s.projectRegs p.recs)).isEmpty)))),
        (12, if staleGen (s.reg Reg.CLAUSE_GEN_LAST) ps c q.gen then some 0 else none),
        (13, s.sealErr recs),
        (15, if q.immediate && s.seqState != 0 then some 0 else none)] with
      | some r => .inl r
      | none =>
        let phrases := ((recs.filter Rec.isBank).map Rec.phrase).eraseDups
        let crit := (phrases.map (fun p => (s.word ((tab + 64 * p + 44) % 2 ^ 32)).toNat % 2 ^ 24)).foldl max 0
        .inr { q with recs := recs, c := c, cFolio := (match folio with | some k => if timed then k else 0 | none => 0),
                      crit := crit, affected := phrases, ptab := tab }

end Sys2Proof.Machine
end

