-- ==== Sys2Proof/Machine/Clause.lean ====
section
/-! DEFINITION. The clause engine: slots and their states, filling, the commit, the mirror pass, and UNWIND (R259-R300). -/

namespace Sys2Proof.Machine

/-! ### Slot states (R267, R297, R300) -/

/-- CLAUSE_STATUS follows the slots: BUSY from VALIDATING to MIRROR and in UNWIND, ADMITTING while a slot is in VALIDATING. -/
def State.syncClause (s : State) : State :=
  let busy := (List.range 16).foldl (fun b i =>
    let st := s.slotState i
    if (1 ≤ st ∧ st ≤ 7) ∨ st = 9 then b + 2 ^ i else b) 0
  (s.setFld Reg.CLAUSE_STATUS Fld.CLAUSE_STATUS_BUSY busy).setBit Reg.CLAUSE_STATUS Fld.CLAUSE_STATUS_ADMITTING
    ((List.range 16).any (fun i => s.slotState i == 1))

/-- TIME_STATUS.RATE_PENDING: an uncommitted clause changes the rate (R74). -/
def State.syncRatePending (s : State) : State :=
  s.setBit Reg.TIME_STATUS Fld.TIME_STATUS_RATE_PENDING ((List.range 16).any (fun i =>
    s.slotHeld i && rateDiff s (s.projectRegs (s.slot i).recs)))

/-- Write the state of a slot. -/
def State.setSlotState (s : State) (n st : Nat) : State :=
  ((s.setFld (Reg.CLAUSE_SLOT_STATE n) Fld.CLAUSE_SLOT_STATE_STATE st).syncClause).syncRatePending

/-- A slot in REFUSED with its code and record index (R267, R269). -/
def State.slotRefused (s : State) (n code rec : Nat) : State :=
  let a := Reg.CLAUSE_SLOT_STATE n
  (((s.setFld a Fld.CLAUSE_SLOT_STATE_CODE code).setFld a Fld.CLAUSE_SLOT_STATE_RECORD rec).setSlotState n
    10).countHold Reg.CLAUSE_REFUSALS 1 |>.raiseN 306 (n + code * 2 ^ 4 + rec % 2 ^ 13 * 2 ^ 8)

/-- A refused command: 14 BUSY or 15 STATE (R266, R288, R289, R297). -/
def State.cmdRefused (s : State) (n code : Nat) : State :=
  ((s.setFld Reg.CLAUSE_STATUS Fld.CLAUSE_STATUS_CMD_ERR code).setFld Reg.CLAUSE_STATUS Fld.CLAUSE_STATUS_CMD_SLOT
    n).countHold Reg.CLAUSE_REFUSALS 1 |>.raiseN 306 (n + code * 2 ^ 4)

/-- Whether SUBMIT is accepted in a state (R266). -/
def slotFree (st : Nat) : Bool := [0, 8, 10, 11, 12].contains st

/-- ARM_LEAD as taken (R296). -/
def State.armLead (s : State) : Nat := max 10 (s.fld Reg.CLAUSE_TIMING Fld.CLAUSE_TIMING_ARM_LEAD)

/-- The group of a submission: those at one PT stand for those of one cycle (R293; log entry 12). -/
def State.submitGroup (s : State) : Nat := if s.clause.lastPt = some s.now then s.clause.groups else s.clause.groups + 1

/-- The order of R293 among the masters of one cycle. -/
def submitRank (m : RegMaster) : Nat := match m with | .host => 0 | .cpa => 1 | .cpb => 2 | _ => 3

/-- Whether submission x is admitted before y. -/
def ClauseSlot.submittedBefore (x y : ClauseSlot) : Bool :=
  decide (x.group < y.group) || (x.group == y.group && (decide (submitRank x.master < submitRank y.master) ||
    (submitRank x.master == submitRank y.master && decide (x.order < y.order))))

/-- An image is taken into a slot (R266, R267): its header is read. The TAG and GEN of an image whose header lies outside the
vat window are not stated: free (log entry 1). -/
def State.clauseTake (s : State) (m : RegMaster) (n img : Nat) : State :=
  let ok := inVat img 32
  let s1 := if ok then s else s.takeFree.2
  let w (i : Nat) : Nat := if ok then s.imgWord img i else s.takeFree.1
  let c : Int := s.absPt (w 4) (w 3) 0
  let q : ClauseSlot := { image := img, nrec := w 0 % 2 ^ 13, twoPhase := (w 0).testBit 13, immediate := (w 0).testBit 14,
                          kind := w 0 / 2 ^ 16 % 4, gen := BitVec.ofNat 32 (w 2), c := c.toNat, armLead := s.armLead,
                          submitPt := s.now, master := m, order := s.clause.count + 1, group := s.submitGroup }
  let a := Reg.CLAUSE_SLOT_STATE n
  let s2 := { s1 with clause := { s1.clause with
    count := s1.clause.count + 1, groups := s.submitGroup, lastPt := some s.now } }.setSlot n q
  ((((s2.setRegN (Reg.CLAUSE_SLOT_TAG n) (w 1)).setRegN (Reg.CLAUSE_SLOT_GEN n) (w 2)).setFld a
    Fld.CLAUSE_SLOT_STATE_CODE 0).setFld a Fld.CLAUSE_SLOT_STATE_RECORD 0).setSlotState n 1

/-- SUBMIT (R266, R594): until BOOT has released the processors only BOOT may submit. -/
def State.clauseSubmit (s : State) (m : RegMaster) (n img : Nat) : State :=
  if !s.released ∧ m ≠ .boot then
    (if m = .host then s.hostErr 2 0 true Reg.CLAUSE_CMD else s.cmdRefused n 15)
  else if slotFree (s.slotState n) then s.clauseTake m n img
  else s.cmdRefused n 14

/-! ### Idle copies (R274-R278, R282) -/

/-- The objects of a slot that have an idle bank: the phrases, and 4 096 for the route table. -/
def ClauseSlot.banks (q : ClauseSlot) : List Nat :=
  q.affected ++ (if q.recs.any (fun r => Rec.op r == 4) then [4096] else [])

/-- Whether an idle bank or a spare version that the slot writes is in a mirror pass or drains (R282). `inPass` also counts
a pass that has started: how long it takes is not modelled, so CLAUSE_BANK_FREE comes after it. -/
def State.banksBusy (s : State) (n : Nat) (inPass : Bool) : Bool :=
  let q := s.slot n
  ((List.range 16).any (fun i => i != n && s.slotState i == 7 &&
    (let o := s.slot i
     let busy := if inPass then o.banks else o.mirror
     q.banks.any busy.contains))) ||
  q.recs.any (fun r => Rec.op r == 5 && s.draining (Rec.mac r) (Rec.w1 r))

/-- The words of an image are read (R404; log entry 20). -/
def State.imgScan (s : State) (n : Nat) : State :=
  let q := s.slot n
  if inVat q.image (32 + 16 * q.nrec) then s.vatScan q.image (32 + 16 * q.nrec) else s

/-- The staging of an admitted clause that moves what R239 computes from: its RDLY, and that of every staged clause that commits
after it, from what stands after each and the clauses that commit before it (log entry 126). -/
def State.stageDelays (s : State) (n : Nat) : State :=
  let before (x y : ClauseSlot) : Bool := decide (x.c < y.c) || (x.c == y.c && decide (x.order ≤ y.order))
  let held := (List.range 16).filter (fun i => i == n || s.slotHeld i)
  let earlier (i : Nat) : List ClauseSlot := (sortBy before ((held.filter (fun j => j != i)).map s.slot)).filter
    (fun q => before q (s.slot i))
  let apply (qs : List ClauseSlot) : State := qs.foldl (fun s q => s.project q.ptab q.recs) s
  let delays (i : Nat) : SMap Nat :=
    let qs := earlier i ++ [s.slot i]
    let t := apply qs
    t.delayMap (routeAfter s t (qs.any (fun q => q.recs.any (fun r => Rec.op r == 4))))
  let q := s.slot n
  let s0 := apply (earlier n)
  if latencyMoves s0 (s0.project q.ptab q.recs) q.recs then
    held.foldl (fun t i => if i = n ∨ ((s.slot i).rdly.isSome ∧ before q (s.slot i)) then
      t.setSlot i { s.slot i with rdly := some (delays i) } else t) s
  else s

/-- CLAUSE_ADMIT (R267, R269): one admission at a time, in the order of the submissions. -/
def State.clauseAdmit (s : State) (n : Nat) : State :=
  let first := (List.range 16).all (fun i => s.slotState i != 1 || !(s.slot i).submittedBefore (s.slot n))
  if s.slotState n = 1 ∧ first then
    match s.admission n with
    | .inl r => (s.imgScan n).slotRefused n r.1 r.2
    | .inr q =>
      let s1 := ((s.imgScan n).setSlot n q).stageDelays n
      s1.setSlotState n (if s1.banksBusy n true then 3 else 2)
  else s

/-- CLAUSE_BANK_FREE (R267, R282). -/
def State.clauseBankFree (s : State) (n : Nat) : State :=
  if s.slotState n = 3 ∧ !s.banksBusy n false then s.setSlotState n 2 else s

/-- The base of a route bank. -/
def State.routeBase (s : State) (b : Nat) : Nat := s.regN (Reg.MIX_RTAB b)

/-- The route bank not in force. -/
def State.idleRoute (s : State) : Nat := 1 - s.fld Reg.MIX_RCTRL Fld.MIX_RCTRL_BANK

/-- The records of a slot as its image holds them: they are read again at each pass (R264). -/
def State.slotRecs (s : State) (n : Nat) : List Rec := s.imgRecs (s.slot n).image (s.slot n).nrec

/-- One record written into its idle copy (R275-R278). -/
def State.fillRec (s : State) (tab : Nat) (r : Rec) : State :=
  match r.op with
  | 2 => s.bankRec tab (!s.bankNewest r.phrase) r
  | 3 => (s.vatScan r.w2 r.w3).bankRec tab (!s.bankNewest r.phrase) r
  | 4 => s.routeRec (s.routeBase s.idleRoute) r
  | 5 =>
    let s1 := if r.w2 = 0 then s else s.vatScan r.w2 (entrySize r.mac)
    { s1 with spare := Memory.write s1.spare (entryAt r.mac r.w1) (s.entryImage r) }
  | _ => s

/-- The records of a slot written into the idle copies. -/
def State.fillSlot (s : State) (n : Nat) : State :=
  (s.slotRecs n).foldl (fun s r => s.fillRec (s.slot n).ptab r) (s.imgScan n)

/-- What UNWIND does for one record: the idle copy takes back the words of the copy in force, a prepared entry version is
dropped (R267). -/
def State.unfillRec (s : State) (tab : Nat) (r : Rec) : State :=
  let back (r : Rec) : State :=
    let b := s.bankNewest r.phrase
    let n := if r.op = 2 then 4 else r.w3
    let a := (s.bankAddr tab r.phrase b + r.w1) % 2 ^ 32
    s.unitPut ((s.bankAddr tab r.phrase (!b) + r.w1) % 2 ^ 32) (s.read a n)
  match r.op with
  | 2 => back r
  | 3 => back r
  | 4 =>
    let off := 16 * r.sink + 4 * r.routeWord
    s.unitPut (s.routeBase s.idleRoute + off) (s.read (s.routeBase (1 - s.idleRoute) + off) 4)
  | 5 => { s with spare := Memory.write s.spare (entryAt r.mac r.w1) (List.replicate (entrySize r.mac) 0) }
  | _ => s

/-! ### UNWIND (R267, R293) -/

/-- A slot enters UNWIND; `filled` says that its idle copies have been written. The pass reads the records again (R264). -/
def State.slotUnwind (s : State) (n end_ : Nat) (filled : Bool) : State :=
  let q := s.slot n
  let s1 := if filled then (s.slotRecs n).foldl (fun s r => s.unfillRec q.ptab r) (s.imgScan n) else s
  (s1.setSlot n { q with endState := end_ }).setSlotState n 9

/-- Whether the idle copies of a slot hold its records: from the end of FILLING on. -/
def State.slotFilled (s : State) (n : Nat) : Bool := decide (4 ≤ s.slotState n)

/-- CLAUSE_UNWIND_DONE (R267): the reservations end. -/
def State.clauseUnwound (s : State) (n : Nat) : State :=
  if s.slotState n = 9 then
    let q := s.slot n
    let s1 := s.setSlot n { q with recs := [] }
    match q.endState with
    | 10 => s1.slotRefused n 7 0
    | 11 => (s1.setSlotState n 11).raiseN 307 n
    | _ => (s1.setSlotState n 12).raiseN 308 n
  else s

/-- C of a slot, exact (R259): until its admission the one its image names. -/
def State.slotC (s : State) (n : Nat) : Nat := if s.slotState n = 1 then (s.commitTime n).2 else (s.slot n).c

/-- The arm deadline of a slot. -/
def State.armDeadline (s : State) (n : Nat) : Nat := s.slotC n - (s.slot n).armLead * usUnit

/-- CLAUSE_ARM_DEADLINE (R267, R282, R288). -/
def State.clauseDeadline (s : State) (n : Nat) : State :=
  let st := s.slotState n
  if s.armDeadline n ≤ s.now ∧ !(s.slot n).immediate then
    if 1 ≤ st ∧ st ≤ 3 then s.slotUnwind n 10 false
    else if st = 4 then s.slotUnwind n 11 true
    else s
  else s

/-- CONFIRM (R288). -/
def State.clauseConfirm (s : State) (n : Nat) : State :=
  if s.slotState n = 4 ∧ s.now < s.armDeadline n then s.setSlotState n 5 else s.cmdRefused n 15

/-- Whether PT is before the freeze point of a slot; an IMMEDIATE clause has none (R289, R291). -/
def State.beforeFreeze (s : State) (n : Nat) : Bool :=
  (s.slot n).immediate || decide (s.now + 2 * usUnit < s.slotC n)

/-- ABORT (R289). -/
def State.clauseAbort (s : State) (n : Nat) : State :=
  let st := s.slotState n
  if 1 ≤ st ∧ st ≤ 5 ∧ s.beforeFreeze n then s.slotUnwind n 12 (s.slotFilled n) else s.cmdRefused n 15

/-- CLAUSE_FREEZE (R267). -/
def State.clauseFreeze (s : State) (n : Nat) : State :=
  if s.slotState n = 5 ∧ !s.beforeFreeze n then s.setSlotState n 6 else s

/-- A subsystem reset of CLAUSE (R267, R293). -/
def State.clauseReset (s : State) : State :=
  (List.range 16).foldl (fun s n =>
    if 1 ≤ s.slotState n ∧ s.slotState n ≤ 6 then s.slotUnwind n 12 (s.slotFilled n) else s) s

/-! ### What a commit brings into force (R283) -/

/-- G_t and S_t of a target by the committed guarantees (R270, R411, R414). -/
def State.syncSums (s : State) (t : Nat) : State :=
  let sum (ms : List Nat) : Nat := (ms.map (fun m => s.regN (Reg.XBAR_GUAR t m))).foldl (· + ·) 0
  let sac := (List.range 21).filter (fun m => s.bit (Reg.XBAR_MASTER m) Fld.XBAR_MASTER_SACRIFICE)
  let s1 := (s.setRegN (Reg.XBAR_GSUM t) (sum (List.range 21))).setRegN (Reg.XBAR_SSUM t) (sum sac)
  if (t = 32 ∨ t = 33) ∧ (s1.reg (Reg.XBAR_GSUM t) ≠ s.reg (Reg.XBAR_GSUM t) ∨
      s1.reg (Reg.XBAR_SSUM t) ≠ s.reg (Reg.XBAR_SSUM t)) then s1.bwJudge (t - 32) else s1

/-- The net change of a commit on a pair is added: the credit grows at the old rate up to now. What would leave the sum of the
pair below zero is kept, and comes off a later change (log entry 125). -/
def State.addGuarantee (s : State) (t m : Nat) (change : Int) : State :=
  let a := Reg.XBAR_GUAR t m
  let g : Nat := s.regN a
  let sum : Int := (g : Int) - s.guarDebt t m + change
  let s1 := if g = 0 then s.setCredit t m 0 else s.setCredit t m (s.credit t m)
  { s1 with xbar := { s1.xbar with debt := SMap.set 0 s1.xbar.debt (t * 32 + m) (-sum).toNat } }.setRegN a sum.toNat

/-- Every GUARANTEE of a commit, then the sums of the targets they name, or of all where SACRIFICE may have changed. -/
def State.commitGuarantees (s : State) (recs : List Rec) : State :=
  let gs := recs.filter (fun r => r.op == 6)
  let pairs := (gs.map (fun r => (r.target, r.master))).eraseDups
  let s1 := pairs.foldl (fun s p => s.addGuarantee p.1 p.2 (netPair recs p.1 p.2)) s
  let ts := if recs.any (fun r => r.op == 1 && (List.range 21).any (fun m => r.w1 == Reg.XBAR_MASTER m)) then List.range 36
    else (gs.map Rec.target).eraseDups
  ts.foldl (fun s t => s.syncSums t) s1

/-- The two versions of an entry change places: the spare then holds the retiring one (R278, R281). -/
def State.switchEntry (s : State) (mac : Bool) (i : Nat) : State :=
  let a := entryAt mac i
  let old := s.read a (entrySize mac)
  let s1 := s.write a (Memory.read s.spare a (entrySize mac))
  { s1 with spare := Memory.write s1.spare a old }

/-- The counter block of an entry cleared (R399). -/
def State.clearEntryCounts (s : State) (i : Nat) : State :=
  (List.range 8).foldl (fun s w => s.setReg (Reg.STREAM_ENTRY_COUNT i w) 0) s

/-- The ENTRY versions of a commit at PT t (R279, R281, R293, R398, R399). -/
def State.commitEntries (s : State) (t : Nat) (recs : List Rec) : State :=
  let es := ((recs.filter (fun r => r.op == 5)).map (fun r => (r.mac, r.w1))).eraseDups
  let s1 := es.foldl (fun (s : State) (e : Bool × Nat) =>
    let r : Bool × Nat × Nat × Nat := (e.1, e.2, s.tableEpoch e.1, t)
    let s1 := { s with clause := { s.clause with retiring := s.clause.retiring ++ [r] } }.switchEntry e.1 e.2
    if e.1 then s1 else s1.clearEntryCounts e.2) s
  let bump (s : State) (mac : Bool) : State :=
    if es.any (fun e => e.1 == mac) then
      s.setFld Reg.CLAUSE_EPOCH (if mac then Fld.CLAUSE_EPOCH_MAC else Fld.CLAUSE_EPOCH_STREAM) (s.tableEpoch mac + 1)
    else s
  if es.isEmpty then s else ((bump (bump s1 false) true).syncUsage).syncMacCount

/-- The PLLs that a commit updates: those whose own registers its records write, or both where they write SYNTH_ROUTE alone
(R88). -/
def commitPlls (recs : List Rec) : List Nat :=
  let regs := recs.filter (fun r => r.op == 1)
  let own := [0, 1].filter (fun x => regs.any (fun r => r.w1 != Reg.SYNTH_ROUTE && synthOwns x r.w1))
  if own.isEmpty ∧ regs.any (fun r => r.w1 == Reg.SYNTH_ROUTE) then [0, 1] else own

/-- The REG values of a commit. A SYNTH value is staged and its PLL updated (R88, R277); every other SH field is written. -/
def State.commitRegs (s : State) (recs : List Rec) : State :=
  let regs := recs.filter (fun r => r.op == 1)
  let s1 := regs.foldl (fun s r =>
    if (synthPlls r.w1).isEmpty then s.regRec r
    else s.synthStage r.w1 (mergeWord (s.stagedOr r.w1) r.2.2.1 (r.2.2.2 &&& shBits r.w1))) s
  (commitPlls recs).foldl (fun s x => s.synthUpdate x) s1

/-- Whether a record sets bits of a field. -/
def setsField (recs : List Rec) (a : Nat) (f : Field) : Bool := (recMask recs a &&& f.mask) != 0

/-- What follows a change of SH registers: a new line table clears the hold words (R416), pair settings form the claim
(R16, R18, R450), the felt lanes and the sheet size (R470, R471), indices that are no longer VALID (R629). -/
def State.commitFollow (s : State) (recs : List Rec) : State :=
  let names (a : Nat) : Bool := recs.any (fun r => r.op == 1 && r.w1 == a)
  let s1 := if names Reg.DRAM_LTAB || names Reg.DRAM_LCOUNT then { s with dramc := { s.dramc with hold := [] } } else s
  let s2 := if setsField recs Reg.REDUN_CTRL Fld.REDUN_CTRL_PAIR || setsField recs Reg.REDUN_CTRL Fld.REDUN_CTRL_INIT_ACTIVE ||
      setsField recs Reg.REDUN_UNIT Fld.REDUN_UNIT_UNIT_ID then s1.claimForm else s1
  let s3 := if names Reg.REDUN_FELT_TAB || names Reg.REDUN_FELT_COUNT || names Reg.SEQ_PTAB || names Reg.SEQ_COUNTS then
      s2.setFld Reg.REDUN_SHEET_SIZE Fld.REDUN_SHEET_SIZE_SIZE s2.sheetSize else s2
  let valid := (List.range 63).foldl (fun v i =>
    if s3.bit (Reg.HOST_RELAY_DEV_HI (i + 1)) Fld.HOST_RELAY_DEV_HI_VALID then v + 2 ^ (i + 1) else v) 1
  let mask64 (s : State) (a : Nat) : State := s.setReg64 a (s.reg64 a &&& valid)
  (((mask64 (mask64 s3 Reg.GLOBAL_REMOTE_SUMMARY) Reg.HOST_RELAY_LOST)).syncFelt).syncSummary

/-- A rate change (R42, R71, R516, R518). -/
def State.rateFollow (s : State) : State := ((s.raiseN 73 s.rate).resyncAin 3).resyncAout

/-- The computed RDLY that the last staged of some clauses brings. -/
def stagedDelays (qs : List ClauseSlot) : Option (SMap Nat) := (qs.filterMap ClauseSlot.rdly).getLast?

/-- The routing of a commit from state s (R235, R239, R276): in force for every folio from g on, with the RDLY computed at the
staging. -/
def State.commitRoute (t s : State) (g : Nat) (recs : List Rec) (staged : Option (SMap Nat)) : State :=
  let moved := recs.any (fun r => r.op == 4)
  if moved || staged.isSome then
    let t1 := if moved then t.setFld Reg.MIX_RCTRL Fld.MIX_RCTRL_BANK (1 - s.fld Reg.MIX_RCTRL Fld.MIX_RCTRL_BANK) else t
    let b := t1.bit Reg.MIX_RCTRL Fld.MIX_RCTRL_BANK
    let r0 : Route := ⟨g, b, t1.reg (Reg.MIX_RTAB 0), t1.reg (Reg.MIX_RTAB 1), []⟩
    let m := staged.getD t.mix.rdly
    let seed := if t1.mix.routes.isEmpty then [{ s.routeOf 0 with first := 0 }] else t1.mix.routes
    ({ t1 with mix := { t1.mix with rdly := m, routes := seed } }).addRoute g { r0 with rdly := m }
  else t

/-- The release folio r: the largest k with release(k) at or before PT (R167). -/
def State.releaseFolio (s : State) : Nat := s.firstGoverned s.now - 1

/-- CLAUSE_GEN shows the generation of the release folio (R295), MIX_RCTRL its bank (R253). -/
def State.syncForce (s : State) : State :=
  (s.setReg Reg.CLAUSE_GEN (s.genOf s.releaseFolio)).setBit Reg.MIX_RCTRL Fld.MIX_RCTRL_IN_FORCE
    (s.routeOf s.releaseFolio).bankB

/-- MIX_USAGE as the programs stand (R255). -/
def State.syncMixUsage (s : State) : State :=
  let u := s.mixUsage
  (s.setFld Reg.MIX_USAGE Fld.MIX_USAGE_BUSES u.1.length).setFld Reg.MIX_USAGE Fld.MIX_USAGE_XPS u.2

/-! ### The mirror pass (R280, R264) -/

/-- Whether the pass of an object can start: the route bank at C, a parameter bank once no folio before the flip folio is
unreleased (R194, R280). -/
def State.mirrorReady (s : State) (q : ClauseSlot) (o : Nat) : Bool :=
  o == 4096 || s.seqState == 0 || s.seqState == 1 || decide (q.flip ≤ s.firstUnreleased)

/-- The records of one object written once more, into the copy that has gone out of use. -/
def State.mirrorObject (s : State) (n o : Nat) : State :=
  let q := s.slot n
  ((s.slotRecs n).filter (fun r => if o = 4096 then r.op == 4 else r.isBank && r.phrase == o)).foldl
    (fun s r => s.fillRec q.ptab r) s

/-- The mirror passes of a slot that can start do. -/
def State.mirrorStart (s : State) (n : Nat) : State :=
  if s.slotState n = 7 then
    let q := s.slot n
    let go := q.mirror.filter (fun o => s.mirrorReady q o)
    (go.foldl (fun s o => s.mirrorObject n o) s).setSlot n { q with mirror := q.mirror.filter (fun o => !go.contains o) }
  else s

/-- The mirror passes of every slot that can start do. -/
def State.mirrorStarts (s : State) : State := (List.range 16).foldl (fun s n => s.mirrorStart n) s

/-- CLAUSE_MIRROR_DONE (R267, R280): the pass of the last object is complete. -/
def State.clauseMirrored (s : State) (n : Nat) : State :=
  let s1 := s.mirrorStart n
  if s1.slotState n = 7 ∧ (s1.slot n).mirror.isEmpty then s1.setSlotState n 8 else s1

/-! ### The commit (R283-R287) -/

/-- The larger of two generations, modulo 2^32 (R284). -/
def genMax (a b : Word) : Word := if seqAhead a b then a else b

/-- A slot after its commit (R267, R294, R295). -/
def State.slotCommitted (s : State) (flip n : Nat) : State :=
  let q := s.slot n
  let s1 := (s.setSlot n { q with mirror := q.banks, flip := flip }).setRegN (Reg.CLAUSE_SLOT_FLIP n) flip
  ((s1.setSlotState n 7).countHold Reg.CLAUSE_COMMITS 1).raiseN 305 (n + q.gen.toNat % 2 ^ 16 * 2 ^ 16)

/-- The clauses of the given slots commit at PT t, the boundary of folio c (R283): one commit edge and one decision of SEQ
(R193, R293). -/
def State.commitSlots (s : State) (t c : Nat) (ns : List Nat) : State :=
  let recs : List Rec := ns.flatMap (fun n => (s.slot n).recs)
  let gen := ns.foldl (fun g n => genMax (s.slot n).gen g) (s.reg Reg.CLAUSE_GEN_LAST)
  let ps := (ns.flatMap (fun n => (s.slot n).affected)).eraseDups
  let crit := ns.foldl (fun m n => max m (s.slot n).crit) 0
  let s1 := (s.commitRegs recs).setReg Reg.CLAUSE_GEN_LAST gen
  let restart := !(restartDiff s s1).isEmpty
  let g := s1.firstGoverned t
  let staged := stagedDelays (sortBy (fun x y => decide (x.order < y.order)) (ns.map s.slot))
  let s2 := ((s1.commitRoute s g recs staged).commitEntries t recs).commitGuarantees recs
  let r := s2.seqCommit t c g ps gen crit restart
  let s3 := (r.2.commitFollow recs).syncMixUsage
  let s4 := if rateDiff s s1 then s3.rateFollow else s3
  let s5 := recs.foldl (fun s x =>
    match Rec.op x with
    | 7 => s.activate (bitOf (Rec.mac x))
    | 8 => s.ledgerLeaf (Rec.w1 x % 2 ^ 8)
    | _ => s) s4
  ((ns.foldl (fun s n => s.slotCommitted r.1 n) s5).mirrorStarts).syncForce

/-- The slots whose C has come (R286). -/
def State.dueSlots (s : State) : List Nat :=
  (List.range 16).filter (fun n => (s.slotState n == 5 || s.slotState n == 6) && decide ((s.slot n).c ≤ s.now))

/-- Every due clause commits, by rising C; clauses with the same C together. -/
def State.commitDue (s : State) : Nat → State
  | 0 => s
  | fuel + 1 =>
    match sortBy (fun (a b : Nat) => decide ((s.slot a).c < (s.slot b).c)) s.dueSlots with
    | [] => s
    | n :: ns =>
      let q := s.slot n
      (s.commitSlots q.c q.cFolio (n :: ns.filter (fun m => (s.slot m).c == q.c))).commitDue fuel

/-- CLAUSE_COMMIT of a slot whose C has come (R283, R286). -/
def State.clauseCommit (s : State) (n : Nat) : State := if s.dueSlots.contains n then s.commitDue 16 else s

/-- Whether a clause commits at UPDATE_PT of PLL x and updates that PLL, so that its commit and the scheduled update are one
update (R92). -/
def State.commitUpdates (s : State) (x : Nat) : Bool :=
  s.dueSlots.any (fun n => s.updatePt x == ((s.slot n).c : Int) && (commitPlls (s.slot n).recs).contains x)

/-- PT has reached UPDATE_PT while SCHED is 1 (R89, R92). -/
def State.synthScheduled (s : State) (x : Nat) : State :=
  if s.bit (Reg.SYNTH_CTRL x) Fld.SYNTH_CTRL_SCHED ∧ s.updatePt x ≤ (s.now : Int) ∧ s.commitUpdates x = false then
    s.synthUpdate x
  else s

/-- CLAUSE_FILL_DONE (R267, R291): an IMMEDIATE clause commits at the next edge. -/
def State.clauseFilled (s : State) (n : Nat) : State :=
  if s.slotState n = 2 then
    let q := s.slot n
    let s1 := (s.fillSlot n).raiseN 304 (n + q.gen.toNat % 2 ^ 16 * 2 ^ 16)
    if q.immediate then s1.commitSlots s.now s.folio [n]
    else s1.setSlotState n (if q.twoPhase then 4 else 5)
  else s

/-! ### The commands -/

/-- The command SYNTH_SCHEDULED_UPDATE (R89). -/
def execSynthScheduledUpdate (x : Fin 2) (s : State) : Host.Outcome State Fault Refusal := .next (s.synthScheduled x)

/-- The command CLAUSE_SUBMIT, with the image at CLAUSE_IMAGE: a register write, which holds one tag of the crossbar. -/
def execClauseSubmit (m : RegMaster) (slot : Fin 16) (s : State) : Host.Outcome State Fault Refusal :=
  .next (s.unlessBarred m Reg.CLAUSE_CMD (s.clauseSubmit m slot (s.regN Reg.CLAUSE_IMAGE)))

/-- The command CLAUSE_ADMIT. -/
def execClauseAdmit (slot : Fin 16) (s : State) : Host.Outcome State Fault Refusal := .next (s.clauseAdmit slot)

/-- The command CLAUSE_BANK_FREE. -/
def execClauseBankFree (slot : Fin 16) (s : State) : Host.Outcome State Fault Refusal := .next (s.clauseBankFree slot)

/-- The command CLAUSE_FILL_DONE. -/
def execClauseFillDone (slot : Fin 16) (s : State) : Host.Outcome State Fault Refusal := .next (s.clauseFilled slot)

/-- The command CLAUSE_CONFIRM. -/
def execClauseConfirm (slot : Fin 16) (s : State) : Host.Outcome State Fault Refusal := .next (s.clauseConfirm slot)

/-- The command CLAUSE_ABORT. -/
def execClauseAbort (slot : Fin 16) (s : State) : Host.Outcome State Fault Refusal := .next (s.clauseAbort slot)

/-- The command CLAUSE_ARM_DEADLINE. -/
def execClauseArmDeadline (slot : Fin 16) (s : State) : Host.Outcome State Fault Refusal :=
  .next (s.clauseDeadline slot)

/-- The command CLAUSE_FREEZE. -/
def execClauseFreeze (slot : Fin 16) (s : State) : Host.Outcome State Fault Refusal := .next (s.clauseFreeze slot)

/-- The command CLAUSE_COMMIT. -/
def execClauseCommit (slot : Fin 16) (s : State) : Host.Outcome State Fault Refusal := .next (s.clauseCommit slot)

/-- The command CLAUSE_UNWIND_DONE. -/
def execClauseUnwindDone (slot : Fin 16) (s : State) : Host.Outcome State Fault Refusal := .next (s.clauseUnwound slot)

/-- The command CLAUSE_MIRROR_DONE. -/
def execClauseMirrorDone (slot : Fin 16) (s : State) : Host.Outcome State Fault Refusal :=
  .next (s.clauseMirrored slot)

end Sys2Proof.Machine
end

