-- ==== Sys2Proof/Machine/Sent.lean ====
section
/-! DEFINITION. The sentinel: escalation actions, the output hold, the resets of a subsystem and of the device, and what
stands before boot (R81, R100, R152, R340, R405, R566-R572, R578, R651). -/

namespace Sys2Proof.Machine

/-! ### Claim drop and output hold (R451, R570) -/

/-- A drop that is not in effect already (R564, R572). -/
def State.sentDrop (s : State) (by_ : Nat) : State := if s.dropped then s else s.claimDrop by_

/-- The start of the output hold, unless one runs (R570, R572). -/
def State.outputHold (s : State) : State :=
  if s.holding then s
  else
    let s1 := (s.setBit Reg.SENT_STATUS Fld.SENT_STATUS_HOLDING true).syncClaim
    { s1 with sent := { s1.sent with holdOver := false } }.aoutHold

/-- The ramp of one serial port begins with the values of its last frame (R570). -/
def State.sapRampStart (s : State) (p : Nat) : State :=
  if s.sapState p = 2 ∧ s.sapCtl p Fld.SAP_CTRL_TX_EN = 1 ∧ !s.shared p then
    let c := s.sapSt p
    s.setSapSt p { c with ramp := some (0, c.outL, c.outR) }
  else s

/-- HOLD_END (R529, R570): the hold time is over and the outputs ramp to zero. -/
def State.holdEnd (s : State) : State :=
  if s.holding ∧ !s.sent.holdOver then
    let s1 : State := { s with sent := { s.sent with holdOver := true } }
    (List.range 32).foldl State.sapRampStart s1.aoutHoldEnd
  else s

/-! ### Subsystem resets (R567) -/

/-- The subsystems that an action may reset. -/
inductive Subsystem where
  | cpa | cpb | servo | engines | analogue | clause | device
  deriving DecidableEq, Repr

/-- The subsystem of a fault (R567). -/
def subsystemOf (n : Nat) : Subsystem :=
  match n / 32 with
  | 0 => if n = 4 ∨ n = 6 then .cpa else if n = 5 ∨ n = 7 then .cpb else .device
  | 1 => .servo
  | 2 => .device
  | 3 => .engines
  | 4 => .analogue
  | _ => .clause

/-- A processor restarts. After a watchdog fault within 2 s of an activation (`back`) it goes back to the previous image, which
the idle bank holds (R606). -/
def State.cpRestart (s : State) (p : Nat) (back : Bool) : State :=
  let s1 := s.wdogRestart p
  if back then
    let old := s1.prevFw p
    let s2 := (((s1.swapBanks p).setReg (fwReg p) old).setReg (stagedReg p) 0).setPrev p 0
    s2.raiseN 318 (p + 2 * 2)
  else s1

/-- Registers of an address range back at their reset values. -/
def State.resetRegs (s : State) (lo hi : Nat) : State :=
  { s with regs := s.regs.filter (fun e => decide (e.1 < lo) || decide (hi ≤ e.1)) }

/-- The engine array: every engine OFFLINE, registers reset, X, Y and P kept; transfers already issued complete in the
crossbar, and the data of a GET is discarded (R148, R152). -/
def State.arrayReset (s : State) : State :=
  let pe := s.pe.filterMap (fun e =>
    if e.2.xfers.isEmpty then none
    else some (e.1, ({ xfers := e.2.xfers.map (fun x => { x with drop := true }) } : PeCore)))
  { s.resetRegs 0x04000000 0x05000000 with pe := pe }

/-- The counters of SEQ at their reset values (R199, R202). -/
def State.seqCounters (s : State) : State := s.resetRegs Reg.SEQ_DISPATCHED (Reg.SEQ_SLACK_MIN + 4)

/-- The subsystem reset of SEQ (R199). -/
def State.seqReset (s : State) : State :=
  let s1 := (s.discardTasks.setSeqState 0).foldAllFlips
  { s1 with seq := { s1.seq with startArmed := none, released := none, slotOf := [], present := [] } }.seqCounters

/-- AIN, HADC and LAMP return to their reset values (R567). -/
def State.analogueReset (s : State) : State :=
  { ((s.resetRegs 0x06000000 0x06100000).resetRegs 0x06200000 0x06400000) with ain := {}, hadc := {}, lamp := {} }

/-- The processors whose watchdog fault within 2 s of an activation has ordered their reset (R606). -/
def State.goesBack (s : State) (p : Nat) : Bool := s.boot.revert.getLsbD p && s.sent.ordered.contains (4 + p, 2)

/-- A watchdog fault keeps its claim to the previous image only while it is in GRACE: once what it has ordered is carried out,
a later reset restarts the image in force (R606). -/
def State.settleRevert (s : State) : State :=
  { s with boot := { s.boot with revert := [0, 1].foldl (fun r p => maskSet r p (r.getLsbD p && s.inGrace (4 + p))) s.boot.revert } }

/-- SUBSYSTEM_RESET (R567); `back` says which processors go back to their previous image. -/
def State.resetSubsystem (s : State) (back : Nat → Bool) (x : Subsystem) : State :=
  match x with
  | .cpa => s.cpRestart 0 (back 0)
  | .cpb => s.cpRestart 1 (back 1)
  | .servo => s.servoToFree
  | .engines => s.seqReset.arrayReset
  | .analogue => s.analogueReset
  | .clause => s.clauseReset
  | .device => s

/-! ### The device reset is ordered (R566, R569, R572) -/

/-- RESET_DEVICE is scheduled as the sentinel's own; ALERT and CAUSE are written (R577). -/
def State.scheduleReset (s : State) (cause : Nat) : State :=
  let s1 := (((s.setBit Reg.SENT_STATUS Fld.SENT_STATUS_ALERT true).setFld Reg.SENT_STATUS Fld.SENT_STATUS_CAUSE
    cause).setBit Reg.SENT_STATUS Fld.SENT_STATUS_RESET_PENDING true)
  { s1 with sent := { s1.sent with sentDue := true } }.syncSummary

/-- Whether a device reset is scheduled. -/
def State.resetPending (s : State) : Bool := s.bit Reg.SENT_STATUS Fld.SENT_STATUS_RESET_PENDING

/-- ESCALATION_ACTION: the union of the effects of the actions ordered (R564, R566, R567). -/
def State.escalate (s : State) : State :=
  let os := s.sent.ordered
  if os.isEmpty then s
  else
    let subs := ((os.filter (fun o => o.2 == 2)).map (fun o => subsystemOf o.1)).eraseDups
    let dev := os.any (fun o => o.2 == 3) || subs.contains .device
    let s1 := ({ s with sent := { s.sent with ordered := [] } }.settleRevert).sentDrop 1
    let s2 := if dev || os.any (fun o => o.2 == 1) then s1.outputHold else s1
    let s3 := subs.foldl (fun t x => t.resetSubsystem s.goesBack x) s2
    if dev && !s3.resetPending then s3.scheduleReset 2 else s3

/-- TALLY_SILENT (R569): the sentinel acts on its own. -/
def State.tallySilent (s : State) : State :=
  if s.sent.beating ∧ !s.tally.silent then
    let s1 : State := { s with tally := { s.tally with silent := true } }
    ((s1.scheduleReset 1).sentDrop 2).outputHold
  else s

/-! ### The device reset (R571, R340, R609) -/

/-- The registers of the sentinel domain, and FAB_WAKE_STATUS, which R340 and R571 keep. -/
def sentinelRegs : List Nat := [Reg.SENT_CTRL, Reg.SENT_STATUS, Reg.BOOT_STRAP, Reg.FAB_WAKE_STATUS]

/-- What no reset touches: the flash and the ledger, the levels at the pins and of PVDD, the commands that wait, and the
free values used. Of the other memories the manual says nothing before they are cleared (R152, R405): they keep their
bytes, but for the stream and MAC tables, which hold no VALID entry then, as the reset values of STREAM_USAGE and of
STREAM_MAC_COUNT say (R394, R398; log entry 105). -/
def State.cold (s : State) (power : Power) (regs : SMap Word) : State :=
  { State.reset with
    power := power, regs := regs, mem := Memory.clear s.mem 0x02080000 0x02140000, dram := s.dram, spare := s.spare
    ecc := s.ecc, free := s.free
    aout := { jdMv := s.aout.jdMv, pvddLow := s.aout.pvddLow, pvddHigh := s.aout.pvddHigh }
    boot := { flash := s.boot.flash, idleA := s.boot.idleA, idleB := s.boot.idleB }
    pending := s.pending }

/-- The host interface that the straps select (R578, R637). -/
def State.strapHost (s : State) : State :=
  s.setBit Reg.HOST_STATUS Fld.HOST_STATUS_IF (s.bit Reg.BOOT_STRAP Fld.BOOT_STRAP_HOST_IF)

/-- GLOBAL_SUMMARY follows ALERT, which the reset has kept (R557-R559). -/
def State.keepAlert (s : State) : State :=
  if s.bit Reg.SENT_STATUS Fld.SENT_STATUS_ALERT then
    { (s.setBit Reg.GLOBAL_SUMMARY ⟨11, 1⟩ true).setBit Reg.GLOBAL_REMOTE_SUMMARY ⟨0, 1⟩ true with irqN := false }
  else s

/-- The effect of power-up on everything outside the sentinel domain (R571). The latched straps are used again (R578). -/
def State.powerUp (s : State) : State :=
  ((s.cold .held (s.regs.filter (fun e => sentinelRegs.contains e.1))).strapHost).keepAlert

/-- DEVICE_RESET (R571, R609). -/
def State.deviceReset (s : State) : State :=
  if s.resetPending then
    let n := s.fld Reg.SENT_STATUS Fld.SENT_STATUS_RESETS
    let s1 := ((s.setBit Reg.SENT_STATUS Fld.SENT_STATUS_HOLDING false).setBit Reg.SENT_STATUS
      Fld.SENT_STATUS_RESET_PENDING false).setFld Reg.SENT_STATUS Fld.SENT_STATUS_RESETS
        (if s.sent.sentDue then min 255 (n + 1) else n)
    { s1.powerUp with sent := { bySentinel := s.sent.sentDue } }
  else s

/-- WAKE_DETECT (R340, R350): the detectors of armed lanes work in dormant mode. -/
def State.wakeDetect (s : State) (n : Nat) : State :=
  if s.power = .dormant ∧ (s.fld Reg.FAB_WAKE_CTRL Fld.FAB_WAKE_CTRL_ARM).testBit n then
    ((s.setBit Reg.FAB_WAKE_STATUS Fld.FAB_WAKE_STATUS_WOKE true).setFld Reg.FAB_WAKE_STATUS
      Fld.FAB_WAKE_STATUS_LANE n).powerUp
  else s

/-- RESET_N low, or PWRGOOD low (R340, R577, R651): every domain is reset. -/
def State.allReset (s : State) : State := if s.power = .reset then s else s.cold .reset []

/-- RESET_N_RISE with MODE0-MODE2 low (R578, R645): the straps are latched and the system PLL starts. -/
def State.resetRise (s : State) (straps : BitVec 8) : State :=
  { (s.setRegN Reg.BOOT_STRAP straps.toNat).strapHost with power := .held }

/-! ### The system PLL and the memories before boot (R81, R100, R152, R405, R569) -/

/-- SYS_LOCK (R81, R102, R569). A device held for want of lock stays held. -/
def State.sysLocked (s : State) : Bool := s.bit Reg.SYNTH_SYS_STATUS Fld.SYNTH_SYS_STATUS_SYS_LOCK

/-- The host lane PLL, which the straps enable when they select PCIe (R84). No row stands for its lock: DESIGN CHOICE, it has
locked by the time that the system PLL has (log entry 115). -/
def State.hostPll (s : State) : State :=
  if s.bit Reg.HOST_STATUS Fld.HOST_STATUS_IF then s
  else s.setBit Reg.SYNTH_SYS_STATUS Fld.SYNTH_SYS_STATUS_HPLL_LOCK true

/-- SYS_LOCK: the heartbeat starts when SYS_LOCK first becomes 1. -/
def State.sysLock (s : State) : State :=
  if (s.power = .held ∧ s.fld Reg.SENT_STATUS Fld.SENT_STATUS_CAUSE ≠ 3) ∨ s.power = .running then
    { (s.setBit Reg.SYNTH_SYS_STATUS Fld.SYNTH_SYS_STATUS_SYS_LOCK true).hostPll with
      power := .running, sent := { s.sent with beating := true } }
  else s

/-- SYSPLL_LOCK_TIMEOUT (R569). -/
def State.lockTimeout (s : State) : State :=
  if s.power = .held then
    ((s.setBit Reg.SENT_STATUS Fld.SENT_STATUS_ALERT true).setFld Reg.SENT_STATUS Fld.SENT_STATUS_CAUSE 3).syncSummary
  else s

/-- SYSPLL_UNLOCK (R100). -/
def State.sysUnlock (s : State) : State :=
  if s.sysLocked then (s.setBit Reg.SYNTH_SYS_STATUS Fld.SYNTH_SYS_STATUS_SYS_LOCK false).raiseN 8 0 else s

/-- Vat memory and X, Y and P of every engine are zero with valid ECC (R152, R405). -/
def State.clearMemories (s : State) : State :=
  { s with
    mem := Memory.clear (Memory.clear s.mem 0x04000000 0x05000000) vatLo vatHi
    ecc := s.ecc.filter (fun e => !((decide (0x04000000 ≤ e.1) && decide (e.1 < 0x05000000)) ||
      (decide (vatLo ≤ e.1) && decide (e.1 < vatHi)))) }

/-- MEMORY_CLEAR_DONE: once after each device reset. -/
def State.memCleared (s : State) : State :=
  if s.power = .running ∧ !s.boot.cleared then
    let s1 := s.clearMemories
    { s1 with boot := { s1.boot with cleared := true } }
  else s

/-! ### The commands -/

/-- The command ESCALATION_ACTION. -/
def execEscalationAction (s : State) : Host.Outcome State Fault Refusal := .next s.escalate

/-- The command TALLY_SILENT. -/
def execTallySilent (s : State) : Host.Outcome State Fault Refusal := .next s.tallySilent

/-- The command HOLD_END. -/
def execHoldEnd (s : State) : Host.Outcome State Fault Refusal := .next s.holdEnd

/-- The command DEVICE_RESET. -/
def execDeviceReset (s : State) : Host.Outcome State Fault Refusal := .next s.deviceReset

/-- The command WAKE_DETECT. -/
def execWakeDetect (n : Fin 10) (s : State) : Host.Outcome State Fault Refusal := .next (s.wakeDetect n)

/-- The command RESET_N_RISE. A level on MODE0-MODE2 selects a test mode in which no behaviour is guaranteed (R645). Where PWRGOOD
is not high throughout the cycle of the edge (`pwrgood` false), the reset wins (R651, R81). -/
def execResetNRise (straps : BitVec 8) (mode : BitVec 3) (s : State) (pwrgood : Bool := true) :
    Host.Outcome State Fault Refusal :=
  if !pwrgood then .next s.allReset
  else if s.power = .reset then (if mode = 0 then .next (s.resetRise straps) else .fault .testMode)
  else .next s

/-- RESET_N_FALL by the length of the low pulse (R666): one shorter than 1 µs is ignored, one of at least 10 µs resets. What one
between them does is not stated: free (log entry 1). -/
def State.resetFall (s : State) (ns : Nat) : State :=
  if ns < 1000 then s
  else if 10000 ≤ ns then s.allReset
  else if s.takeFree.1 % 2 = 1 then s.takeFree.2.allReset
  else s.takeFree.2

/-- The command RESET_N_FALL. -/
def execResetNFall (s : State) (ns : Nat := 10000) : Host.Outcome State Fault Refusal := .next (s.resetFall ns)

/-- The command PWRGOOD_FALL: the board must drive RESET_N low and high again (R651). -/
def execPwrgoodFall (s : State) : Host.Outcome State Fault Refusal := .next s.allReset

/-- The command SYS_LOCK. -/
def execSysLock (s : State) : Host.Outcome State Fault Refusal := .next s.sysLock

/-- The command SYSPLL_LOCK_TIMEOUT. -/
def execSyspllLockTimeout (s : State) : Host.Outcome State Fault Refusal := .next s.lockTimeout

/-- The command SYSPLL_UNLOCK. -/
def execSyspllUnlock (s : State) : Host.Outcome State Fault Refusal := .next s.sysUnlock

/-- The command MEMORY_CLEAR_DONE. -/
def execMemoryClearDone (s : State) : Host.Outcome State Fault Refusal := .next s.memCleared

end Sys2Proof.Machine
end

