-- ==== Sys2Proof/Machine/Boot.lean ====
section
/-! DEFINITION. BOOT: discovery, the checks of a slot, the ream and the leaf, release and recovery, the flash commands, the
update path, and the seal engine (R578-R614). -/

namespace Sys2Proof.Machine

/-! ### The flash (R580, R581). A byte is kept as its complement, so that an unlisted byte reads as erased (log entry 24) -/

/-- n bytes of flash. -/
def State.flashBytes (s : State) (a n : Nat) : List Byte := (Memory.read s.boot.flash a n).map (fun b => ~~~b)

/-- Write flash bytes. -/
def State.flashPut (s : State) (a : Nat) (bs : List Byte) : State :=
  { s with boot := { s.boot with flash := Memory.write s.boot.flash a (bs.map (fun b => ~~~b)) } }

/-- The size of the flash as BOOT_FLASH gives it, in bytes. -/
def State.flashSize (s : State) : Nat := s.fld Reg.BOOT_FLASH Fld.BOOT_FLASH_CAP * 2 ^ 20

/-- The size of a slot. -/
def State.slotSize (s : State) : Nat := s.flashSize / 2

/-- The first byte of a slot. -/
def State.slotBase (s : State) (slot : Nat) : Nat := slot * s.slotSize

/-! ### Slot headers (R582-R585) -/

/-- A field of bytes, little-endian. -/
def leAt (bs : List Byte) (i n : Nat) : Nat := leNat (slice bs i n)

/-- Whether bytes are all zero. -/
def allZero (bs : List Byte) : Bool := bs.all (· == 0)

/-- An image entry (R583); `res` says that its reserved bits are zero. -/
structure SlotImage where
  typ     : Nat
  leaf    : Nat
  id      : Nat
  offset  : Nat
  length  : Nat
  load    : Nat
  engines : Nat
  crcOff  : Nat
  digest  : List Byte
  res     : Bool
  deriving DecidableEq, Repr

/-- Entry i of a header. -/
def slotImage (h : List Byte) (i : Nat) : SlotImage :=
  let e := slice h (0x40 + 96 * i) 96
  let w0 := leAt e 0 4
  let t := w0 % 2 ^ 4
  let engines := leAt e 20 8
  { typ := t, leaf := w0 / 2 ^ 4 % 2 ^ 8, id := leAt e 4 4, offset := leAt e 8 4, length := leAt e 12 4, load := leAt e 16 4
    engines := engines, crcOff := leAt e 28 4, digest := slice e 32 48
    res := decide (w0 < 2 ^ 12) && allZero (slice e 80 16) && (t == 3 || engines == 0) &&
      (decide (t ≤ 3) || leAt e 16 4 == 0) }

/-- NIMG. -/
def headerCount (h : List Byte) : Nat := leAt h 5 1

/-- The image entries of a header. -/
def slotImages (h : List Byte) : List SlotImage := (List.range (headerCount h)).map (slotImage h)

/-- KEY. -/
def headerKey (h : List Byte) : Nat := leAt h 6 1 % 4

/-- SVN. -/
def headerSvn (h : List Byte) : Nat := leAt h 8 4

/-- The header of a slot. -/
def State.slotHeader (s : State) (slot : Nat) : List Byte := s.flashBytes (s.slotBase slot) 4096

/-- Check 1: HCRC. -/
def headerCrcOk (h : List Byte) : Bool := crc32c (h.take 0xFFC) == wordOf (h.drop 0xFFC)

/-- MAGIC, FORMAT, NIMG and the reserved fields of a header (R582). -/
def headerFields (h : List Byte) : Bool :=
  leAt h 0 4 == 0x544F4C53 && leAt h 4 1 == 1 && decide (3 ≤ headerCount h) && decide (headerCount h ≤ 32) &&
    decide (leAt h 6 2 < 8) && allZero (slice h 0x10 0x30) &&
    allZero (slice h (0x40 + 96 * headerCount h) (0xF00 - 0x40 - 96 * headerCount h)) && allZero (slice h 0xF60 0x9C)

/-- The code bank of a firmware image. -/
def imageCp (m : SlotImage) : Nat := m.typ - 1

/-- Whether one image is well-formed in a slot of a size (R581, R583, R585): a firmware image lies in the code bank of its
processor, a phrase image in P memory. -/
def imageOk (size : Nat) (m : SlotImage) : Bool :=
  m.res && decide (1 ≤ m.typ) && decide (m.typ ≤ 5) && m.offset % 4096 == 0 && decide (1 ≤ m.length) &&
    decide (m.offset + m.length ≤ size) && decide (m.crcOff + 4 * ((m.length + 4095) / 4096) ≤ size) &&
    (decide (2 < m.typ) || (decide (codeLo (imageCp m) ≤ m.load) &&
      decide (m.load + m.length ≤ codeLo (imageCp m) + codeSize))) &&
    (m.typ != 3 || (m.load % 8 == 0 && decide (m.load + m.length ≤ 0x8000)))

/-- The images of a type. -/
def ofType (l : List SlotImage) (t : Nat) : List SlotImage := l.filter (fun m => m.typ == t)

/-- The ream of a slot as bytes. -/
def State.imageBytes (s : State) (slot : Nat) (m : SlotImage) : List Byte :=
  s.flashBytes (s.slotBase slot + m.offset) m.length

/-- DEFAULT_LEAF, in the header of the ream (R586). -/
def State.defaultLeaf (s : State) (slot : Nat) (l : List SlotImage) : Nat :=
  match (ofType l 4).head? with
  | some m => leAt (s.flashBytes (s.slotBase slot + m.offset) 16) 5 1
  | none => 0

/-- Check 2: the fields of R582 and R585. -/
def State.headerOk (s : State) (slot : Nat) (h : List Byte) : Bool :=
  let l := slotImages h
  let leaves := (ofType l 5).map (·.leaf)
  headerFields h && l.all (imageOk s.slotSize) && (ofType l 1).length == 1 && (ofType l 2).length == 1 &&
    (ofType l 4).length == 1 && !(ofType l 3).isEmpty &&
    ((ofType l 1).map (fun m => m.id / 2 ^ 24)) == ((ofType l 2).map (fun m => m.id / 2 ^ 24)) &&
    leaves.eraseDups.length == leaves.length && leaves.contains (s.defaultLeaf slot l)

/-! ### Loading (R596) -/

/-- BOOT writes vat memory as master 20 of the crossbar (R400, R404, R436). What BOOT does after an error answer is not stated: it
goes on (log entry 20). -/
def State.bootPut (s : State) (a : Nat) (bs : List Byte) : State := (s.unitWrite 20 a bs).2

/-- BOOT reads vat memory as master 20 of the crossbar; a word in error is used as memory holds it (log entry 20). -/
def State.bootRead (s : State) (a n : Nat) : State := (s.unitRead 20 a n).2

/-- The place of a staging area of n bytes in vat memory. -/
def stageAt (c n : Nat) : Nat := min (vatLo + 16 * (c % 0x300000)) (vatHi - (n + 15) / 16 * 16)

/-- A block of an image written to its target; `leaf` is the leaf that is chosen. -/
def State.loadBlock (s : State) (m : SlotImage) (leaf j : Nat) (bs : List Byte) : State :=
  let o := 4096 * j
  match m.typ with
  | 1 => s.write (m.load + o) bs
  | 2 => s.write (m.load + o) bs
  | 3 => (bitsSet 64 m.engines).foldl (fun s e =>
      let a := peBase e + 0x20000 + m.load + o
      (s.write a bs).eccClear a bs.length) s
  | 4 => s.bootPut (stageAt Config.reamStage m.length + o) bs
  | _ => if m.leaf = leaf then s.bootPut (stageAt Config.leafStage m.length + o) bs else s

/-- Check 7 over n blocks from block j on: each block is written as it passes, if `boot`. -/
def State.vetBlocks (s : State) (slot : Nat) (boot : Bool) (m : SlotImage) (leaf : Nat) : Nat → Nat → Bool × State
  | 0, _ => (true, s)
  | n + 1, j =>
    let bs := s.flashBytes (s.slotBase slot + m.offset + 4096 * j) (min 4096 (m.length - 4096 * j))
    if crc32c bs = wordOf (s.flashBytes (s.slotBase slot + m.crcOff + 4 * j) 4) then
      (if boot then s.loadBlock m leaf j bs else s).vetBlocks slot boot m leaf n (j + 1)
    else (false, s)

/-- Checks 7 and 8 over the images in entry order, from index i on. -/
def State.vetImages (s : State) (slot : Nat) (boot : Bool) (leaf : Nat) : List SlotImage → Nat → Option (Nat × Nat) × State
  | [], _ => (none, s)
  | m :: l, i =>
    let r := s.vetBlocks slot boot m leaf ((m.length + 4095) / 4096) 0
    if !r.1 then (some (i, 7), r.2)
    else if Config.sha384 (s.imageBytes slot m) = m.digest then r.2.vetImages slot boot leaf l (i + 1)
    else (some (i, 8), r.2)

/-- The leaf that BOOT chooses first (R589), and whether it is the ledger's. -/
def State.chosenLeaf (s : State) (slot : Nat) (l : List SlotImage) : Nat × Bool :=
  let w := s.controlWord 1
  if w.testBit 8 && (ofType l 5).any (fun m => m.leaf == w % 2 ^ 8) then (w % 2 ^ 8, true)
  else (s.defaultLeaf slot l, false)

/-- Checks 1-9 of a slot (R596): the index of the image and the cause of the first failure, 0xFF for the header. VERIFY_SLOT
leaves out check 6 and writes nothing. Which image a flash read error belongs to is the flash's: free (log entry 1). -/
def State.vetSlot (s : State) (slot : Nat) (boot readErr : Bool) : Option (Nat × Nat) × State :=
  let h := s.slotHeader slot
  if !headerCrcOk h then (some (0xFF, 1), s)
  else if !s.headerOk slot h then (some (0xFF, 2), s)
  else
    let s1 := (s.ledgerRead (keyAt (headerKey h)) 0x70).2
    if !s1.keyUsable (headerKey h) then (some (0xFF, 3), s1)
    else if !Config.verify (s1.keyBytes (headerKey h)) (Config.sha384 (h.take 0xF00)) (slice h 0xF00 96) then (some (0xFF, 4), s1)
    else if headerSvn h < s1.controlWord 3 then (some (0xFF, 5), s1)
    else if boot ∧ 3 ≤ s1.attempts slot then (some (0xFF, 6), s1)
    else
      let r := s1.vetImages slot boot (s1.chosenLeaf slot (slotImages h)).1 (slotImages h) 0
      if r.1.isNone ∧ readErr then (some (r.2.takeFree.1 % 2 ^ 8, 9), r.2.takeFree.2) else r

/-! ### The ream and the leaf (R586-R589) -/

/-- A clause image that BOOT submits to slot 0 and that must be IMMEDIATE (R587, R588): whether it reaches DONE. -/
def State.bootClause (s : State) (img : Nat) : Bool × State :=
  if (s.imgWord img 0).testBit 14 then
    let s1 := (s.clauseSubmit .boot 0 img).clauseAdmit 0
    if s1.slotState 0 = 10 then (false, s1)
    else
      let s2 := ((s1.clauseBankFree 0).clauseFilled 0).clauseMirrored 0
      (s2.slotState 0 == 8, s2)
  else (false, s)

/-- Whether a section keeps R586. -/
def sectionOk (typ a b len : Nat) : Bool :=
  let put (x : Nat) : Bool := x % 16 == 0 && inVat x len
  match typ with
  | 1 => put a && b == 0
  | 2 => put a && put b
  | 3 => [0, 1, 2, 3].all (fun k => put (a + k * b))
  | 4 => put a && b == 0
  | _ => false

/-- One section applied. -/
def State.applySection (s : State) (typ a b : Nat) (d : List Byte) : Bool × State :=
  match typ with
  | 1 => (true, s.bootPut a d)
  | 2 => (true, (s.bootPut a d).bootPut b d)
  | 3 => (true, [0, 1, 2, 3].foldl (fun s k => s.bootPut (a + k * b) d) s)
  | _ => (s.bootPut a d).bootClause a

/-- n sections of a ream from a byte on, in file order. -/
def State.applySections (s : State) (r : List Byte) : Nat → Nat → Bool × State
  | 0, _ => (true, s)
  | n + 1, at_ =>
    let h := slice r at_ 16
    let len := leAt h 12 4
    let pad := (len + 15) / 16 * 16
    if at_ + 16 + pad ≤ r.length ∧ sectionOk (leAt h 0 4) (leAt h 4 4) (leAt h 8 4) len then
      let p := s.applySection (leAt h 0 4) (leAt h 4 4) (leAt h 8 4) (slice r (at_ + 16) len)
      if p.1 then p.2.applySections r n (at_ + 16 + pad) else p
    else (false, s)

/-- The ream applied (R586, R587). -/
def State.applyReam (s : State) (r : List Byte) : Bool × State :=
  if leAt r 0 4 = 0x4D414552 ∧ leAt r 4 1 = 1 ∧ 16 ≤ r.length ∧ allZero (slice r 8 8) then s.applySections r (leAt r 6 2) 16
  else (false, s)

/-- A leaf applied (R588): the image in its staging area carries the leaf number of its entry, in its header and in its LEAF
record. -/
def State.applyLeaf (s : State) (slot : Nat) (l : List SlotImage) (leaf : Nat) : Bool × State :=
  match (ofType l 5).find? (fun m => m.leaf == leaf) with
  | none => (false, s)
  | some m =>
    let bs := s.imageBytes slot m
    let a := stageAt Config.leafStage m.length
    let s1 := s.bootPut a bs
    let w := s1.imgWord (a + 16) 0
    let recs := s1.imgRecs (a + 16) (w % 2 ^ 13)
    if leAt bs 0 4 = 0x4641454C ∧ leAt bs 4 4 = leaf ∧ allZero (slice bs 8 8) ∧ w / 2 ^ 16 % 4 = 1 ∧
        recs.any (fun r => Rec.op r == 8 && Rec.w1 r == leaf) then s1.bootClause (a + 16)
    else (false, s1)

/-- The leaf of the slot (R589): the chosen one, and the ream's default when the ledger's is refused. Answers the leaf that is
applied. -/
def State.applyFirstLeaf (s : State) (slot : Nat) (l : List SlotImage) : Option Nat × State :=
  let c := s.chosenLeaf slot l
  let d := s.defaultLeaf slot l
  let r := s.applyLeaf slot l c.1
  if r.1 then (some c.1, r.2)
  else if c.2 then
    let q := (r.2.raiseN 3 (c.1 + d * 2 ^ 8)).applyLeaf slot l d
    (if q.1 then some d else none, q.2)
  else (none, r.2)

/-- Check 10 (R587, R589): the index of the image and the cause, or the leaf that is applied. -/
def State.applyImages (s : State) (slot : Nat) (l : List SlotImage) : (Nat ⊕ Nat) × State :=
  let ream := (l.findIdx? (fun m => m.typ == 4)).getD 0
  let r := s.applyReam (s.imageBytes slot (l.getD ream (slotImage [] 0)))
  if r.1 then
    let q := r.2.applyFirstLeaf slot l
    match q.1 with
    | some leaf => (.inr leaf, q.2)
    | none => (.inl ((l.findIdx? (fun m => m.typ == 5 && m.leaf == s.defaultLeaf slot l)).getD 0), q.2)
  else (.inl ream, r.2)

/-! ### The seal engine (R600, R601, R614) -/

/-- The state of a host job: 0 IDLE, 1 WAITING, 2 RUNNING, 3 SAVED, 4 DONE, 5 REFUSED. -/
def State.sealState (s : State) (n : Nat) : Nat := s.fld (Reg.SEAL_STATUS n) Fld.SEAL_STATUS_STATE

/-- Write the state of a host job. -/
def State.setSealState (s : State) (n st : Nat) : State := s.setFld (Reg.SEAL_STATUS n) Fld.SEAL_STATUS_STATE st

/-- The engine takes what waits next (R600): a system job, the host job whose context is saved, then host jobs in order. -/
def State.sealNext (s : State) : State :=
  match s.boot.sealRun with
  | some _ => s
  | none =>
    if s.boot.sysSeal then { s with boot := { s.boot with sealRun := some 3, sysSeal := false } }
    else
      match s.boot.sealSaved, s.boot.sealWait with
      | some n, _ => { s with boot := { s.boot with sealRun := some n, sealSaved := none } }.setSealState n 2
      | none, n :: l => { s with boot := { s.boot with sealRun := some n, sealWait := l } }.setSealState n 2
      | none, [] => s

/-- The PT and the rank of a job's submission. -/
def State.sealSub (s : State) (n : Nat) : Nat × Nat := SMap.find (0, 0) s.boot.sealSub n

/-- Whether job x goes ahead of y by the order of one cycle (R600); submissions at one PT stand for those of one cycle (log
entry 12). -/
def State.sealAhead (s : State) (x y : Nat) : Bool :=
  (s.sealSub x).1 == (s.sealSub y).1 && decide ((s.sealSub x).2 < (s.sealSub y).2)

/-- A job joins those that wait: behind every earlier one, and in the order of its cycle. -/
def State.sealJoin (s : State) (n : Nat) (l : List Nat) : List Nat :=
  l.takeWhile (fun y => !s.sealAhead n y) ++ n :: l.dropWhile (fun y => !s.sealAhead n y)

/-- The job that has started in this very cycle ahead of a submission that precedes it waits behind it after all. -/
def State.sealYield (s : State) (n : Nat) : State :=
  match s.boot.sealRun with
  | some r =>
    if r ≠ 3 ∧ s.sealAhead n r then
      { s with boot := { s.boot with sealRun := none, sealWait := s.sealJoin r s.boot.sealWait } }.setSealState r 1
    else s
  | none => s

/-- A submission of a host job by a master (R600). -/
def State.sealSubmit (s : State) (m : RegMaster) (n : Nat) : State :=
  let s1 := { s with boot := { s.boot with sealSub := SMap.set (0, 0) s.boot.sealSub n (s.now, submitRank m) } }
  let s2 := s1.sealYield n
  ({ s2 with boot := { s2.boot with sealWait := s2.sealJoin n s2.boot.sealWait } }.setSealState n 1).sealNext

/-- A system job is requested (R600). A host job that hashes is saved; one in its signature step goes on. When a VERIFY job is
in that step is not stated: free (log entry 1). -/
def State.sysSealStart (s : State) : State :=
  let s1 : State := { s with boot := { s.boot with sysSeal := true } }
  match s.boot.sealRun with
  | none => s1.sealNext
  | some n =>
    if n = 3 then s
    else
      let verify := s.bit (Reg.SEAL_CTRL n) Fld.SEAL_CTRL_OP
      let s2 := if verify then s1.takeFree.2 else s1
      if verify && s1.takeFree.1 % 2 == 1 then s2
      else ({ s2 with boot := { s2.boot with sealRun := none, sealSaved := some n } }.setSealState n 3).sealNext

/-- The system job is over. -/
def State.sysSealEnd (s : State) : State :=
  let run := if s.boot.sealRun = some 3 then none else s.boot.sealRun
  { s with boot := { s.boot with sysSeal := false, sealRun := run } }.sealNext

/-- A write of SEAL_CTRLn (R614): ignored while the job is WAITING, RUNNING or SAVED if it is a START. -/
def State.sealCtrl (s : State) (m : RegMaster) (n : Nat) (data : Word) : State :=
  let busy := s.sealState n == 1 || s.sealState n == 2 || s.sealState n == 3
  if Fld.SEAL_CTRL_START.get data = 1 then
    if busy then s
    else
      ((s.writeRw (Reg.SEAL_CTRL n) data).setBit (Reg.SEAL_STATUS n) Fld.SEAL_STATUS_PASS false).sealSubmit m n
  else s.writeRw (Reg.SEAL_CTRL n) data

/-- Whether n bytes lie where a host job may use them (R601). -/
def sealAt (a n : Nat) : Bool := a % 16 == 0 && inVat a n

/-- What a host job reads: its source, and for VERIFY the signature and the key, whose errors are counted and raised (R404,
R610). -/
def State.sealReads (s : State) (n : Nat) : State :=
  let src := s.regN (Reg.SEAL_SRC n)
  let len := s.regN (Reg.SEAL_LEN n)
  let s1 := if sealAt src len then s.vatScan src len else s
  if s.bit (Reg.SEAL_CTRL n) Fld.SEAL_CTRL_OP then
    let s2 := if sealAt (s.regN (Reg.SEAL_SIG n)) 96 then s1.vatScan (s.regN (Reg.SEAL_SIG n)) 96 else s1
    (s2.ledgerRead (keyAt (s.fld (Reg.SEAL_CTRL n) Fld.SEAL_CTRL_KEY)) 0x70).2
  else s1

/-- Whether a host job is refused (R601). -/
def State.sealRefused (s : State) (n : Nat) : Bool :=
  let at_ (a len : Nat) : Bool := sealAt a len
  !at_ (s.regN (Reg.SEAL_SRC n)) (s.regN (Reg.SEAL_LEN n)) || !at_ (s.regN (Reg.SEAL_RES n)) 48 ||
    (s.bit (Reg.SEAL_CTRL n) Fld.SEAL_CTRL_OP &&
      (!at_ (s.regN (Reg.SEAL_SIG n)) 96 || !s.keyUsable (s.fld (Reg.SEAL_CTRL n) Fld.SEAL_CTRL_KEY)))

/-- SEAL_JOB_DONE (R601): the job that runs, if it is a host job, has ended. What is hashed of a word with an uncorrectable
error is not stated: the bytes as memory holds them (log entry 20). -/
def State.sealDone (s : State) : State :=
  match s.boot.sealRun with
  | none => s
  | some n =>
    if n = 3 then s
    else
      let r := s.sealReads n
      let s0 : State := { r with boot := { r.boot with sealRun := none } }
      if s.sealRefused n then ((s0.setSealState n 5).raiseN 20 n).sealNext
      else
        let d := Config.sha384 (s.read (s.regN (Reg.SEAL_SRC n)) (s.regN (Reg.SEAL_LEN n)))
        let pass := s.bit (Reg.SEAL_CTRL n) Fld.SEAL_CTRL_OP &&
          Config.verify (s.keyBytes (s.fld (Reg.SEAL_CTRL n) Fld.SEAL_CTRL_KEY)) d (s.read (s.regN (Reg.SEAL_SIG n)) 96)
        (((s0.unitPut (s.regN (Reg.SEAL_RES n)) (d.take 48)).setBit (Reg.SEAL_STATUS n) Fld.SEAL_STATUS_PASS pass).setSealState
          n 4).sealNext

/-! ### Boot states (R594, R595) -/

/-- The state of BOOT: 0 HELD, 1 DISCOVER, 2 SLOT, 3 RELEASED, 4 RECOVERY. -/
def State.bootState (s : State) : Nat := s.fld Reg.BOOT_STATUS Fld.BOOT_STATUS_STATE

/-- Write the state of BOOT. -/
def State.setBootState (s : State) (st : Nat) : State := s.setFld Reg.BOOT_STATUS Fld.BOOT_STATUS_STATE st

/-- The slot being tried, or booted. -/
def State.bootSlot (s : State) : Nat := s.fld Reg.BOOT_STATUS Fld.BOOT_STATUS_SLOT

/-- Entry to RECOVERY with its boot record (R598). -/
def State.recovery (s : State) (cause ms : Nat) : State :=
  (s.setBootState 4).bootRecord s.bootSlot 2 cause ms s.boot.leaf

/-- BOOT_START (R595). For SLOT_POLICY 0b11 the cause of the record is the last IMAGE_REJECT cause (R598). -/
def State.bootStart (s : State) (ms : Nat) : State :=
  if s.bootState = 0 ∧ s.sysLocked ∧ s.boot.cleared then
    let r := s.control
    if r.1.isNone then r.2.recovery 12 ms
    else if s.fld Reg.BOOT_STRAP Fld.BOOT_STRAP_SLOT_POLICY = 3 then
      r.2.recovery (s.fld Reg.BOOT_STATUS Fld.BOOT_STATUS_CAUSE) ms
    else r.2.setBootState 1
  else s

/-- The first slot of the strapped order (R578, R579). The order of 0b11, which a RETRY meets, is not stated: free (log
entry 1). -/
def State.firstSlot (s : State) : Nat × State :=
  match s.fld Reg.BOOT_STRAP Fld.BOOT_STRAP_SLOT_POLICY with
  | 0 => (0, s)
  | 1 => (1, s)
  | 2 => (if (s.controlWord 2).testBit 1 then s.controlWord 2 % 2 else 0, s)
  | _ => (s.takeFree.1 % 2, s.takeFree.2)

/-- BOOT_DISCOVER_DONE (R580, R595). -/
def State.discovered (s : State) (r : Sfdp) (ms : Nat) : State :=
  if s.bootState = 1 then
    let code := if r.timeout then 3 else if !r.valid || decide (r.capMiB < 32) then 1 else if !r.erase64 then 2 else 0
    if code = 0 then
      let s1 := s.setFld Reg.BOOT_FLASH Fld.BOOT_FLASH_CAP (min r.capMiB 256)
      let f := s1.firstSlot
      let s2 := (f.2.setBootState 2).setFld Reg.BOOT_STATUS Fld.BOOT_STATUS_SLOT f.1
      { s2 with boot := { s2.boot with second := false } }.sysSealStart
    else (s.raiseN 19 code).recovery 11 ms
  else s

/-- BOOT reads key slots: their ledger errors are raised (R610). -/
def State.keysRead (s : State) (ks : List Nat) : State := ks.foldl (fun s k => (s.ledgerRead (keyAt k) 0x70).2) s

/-- A slot is refused (R595): after the first one, the four key slots are read for a usable key (R610). -/
def State.slotRejected (s : State) (idx cause ms : Nat) : State :=
  let slot := s.bootSlot
  let s0 := (s.setFld Reg.BOOT_STATUS Fld.BOOT_STATUS_CAUSE cause).raiseN 2 (idx + cause * 2 ^ 8 + slot * 2 ^ 12)
  let s1 := if s0.boot.second then s0 else s0.keysRead [0, 1, 2, 3]
  if s1.boot.second || !(List.range 4).any s1.keyUsable then s1.sysSealEnd.recovery cause ms
  else
    let s2 := s1.clearMemories.setFld Reg.BOOT_STATUS Fld.BOOT_STATUS_SLOT (1 - slot)
    { s2 with boot := { s2.boot with second := true } }

/-- A slot is released (R595): ATTEMPTS counted, CPA and CPB started. -/
def State.slotReleased (s : State) (l : List SlotImage) (leaf : Nat) : State :=
  let id (t : Nat) : Nat := ((ofType l t).map (·.id)).headD 0
  let slot := s.bootSlot
  let s1 := (((s.setBootState 3).setRegN Reg.BOOT_FW_CPA (id 1)).setRegN Reg.BOOT_FW_CPB (id 2)).setAttempts slot
    (s.attempts slot + 1)
  let s2 : State := { s1 with boot := { s1.boot with cpReset := 0, audioSeen := false, leaf := leaf } }
  let s3 := ((s2.wdogRestart 0).wdogRestart 1).sysSealEnd
  if s.boot.second then s3.raiseN 1 slot else s3

/-- What the images of a slot whose checks 1-9 pass come to. -/
def imagesVerdict (r : (Nat ⊕ Nat) × State) : ((Nat × Nat) ⊕ Nat) × State :=
  (match r.1 with | .inl i => .inl (i, 10) | .inr leaf => .inr leaf, r.2)

/-- What the checks of a slot with header h come to, after those of R596 up to check 9. -/
def headerVerdict (slot : Nat) (h : List Byte) (r : Option (Nat × Nat) × State) : ((Nat × Nat) ⊕ Nat) × State :=
  match r.1 with
  | some f => (.inl f, r.2)
  | none => imagesVerdict (r.2.applyImages slot (slotImages h))

/-- The state in which the slot with header h is checked. -/
def State.trying (s : State) (h : List Byte) : State :=
  { s with boot := { s.boot with svn := BitVec.ofNat 32 (headerSvn h), commitSvn := (leAt h 6 1).testBit 2 } }

/-- What the checks of the slot being tried come to (R595, R596): the image and the cause of its refusal, or the leaf that is
applied; with the state that the checks leave. -/
def State.slotVerdict (s : State) (readErr : Bool) : ((Nat × Nat) ⊕ Nat) × State :=
  headerVerdict s.bootSlot (s.slotHeader s.bootSlot)
    ((s.trying (s.slotHeader s.bootSlot)).vetSlot s.bootSlot true readErr)

/-- A slot after its checks. -/
def slotEnd (l : List SlotImage) (ms : Nat) (r : ((Nat × Nat) ⊕ Nat) × State) : State :=
  match r.1 with
  | .inl f => r.2.slotRejected f.1 f.2 ms
  | .inr leaf => r.2.slotReleased l leaf

/-- BOOT_SLOT_DONE (R595, R596). -/
def State.slotDone (s : State) (readErr : Bool) (ms : Nat) : State :=
  if s.bootState = 2 then slotEnd (slotImages (s.slotHeader s.bootSlot)) ms (s.slotVerdict readErr) else s

/-- BOOT_DONE, at the first AUDIO_START after boot (R597, R598). -/
def State.bootDone (s : State) (ms : Nat) : State :=
  if s.bootState = 3 ∧ !s.boot.audioSeen then
    let s1 : State := { s with boot := { s.boot with audioSeen := true } }
    let s2 := (s1.raiseN 0 (min ms 0xFFFF + s1.bootSlot * 2 ^ 16 + s1.boot.leaf % 2 ^ 8 * 2 ^ 24)).bootRecord s1.bootSlot 1 0
      ms s1.boot.leaf
    let s3 := s2.setAttempts s1.bootSlot 0
    let s4 := if s.boot.commitSvn && decide (s3.controlWord 3 < s.boot.svn.toNat) then
      s3.setControl (fun ws => ws.set 3 s.boot.svn) else s3
    if s.sent.bySentinel then
      { s4 with sent := { s4.sent with bySentinel := false } }.raiseN 36 (s.fld Reg.SENT_STATUS Fld.SENT_STATUS_CAUSE)
    else s4
  else s

/-! ### Commands of BOOT_CMD (R602-R609, R613) -/

/-- ERR of a command. -/
def State.bootErr (s : State) (code : Nat) : State := s.setFld Reg.BOOT_CMD_STATUS Fld.BOOT_CMD_STATUS_ERR code

/-- Whether a command is running. -/
def State.bootBusy (s : State) : Bool := s.bit Reg.BOOT_CMD_STATUS Fld.BOOT_CMD_STATUS_BUSY

/-- The masters whose commands BOOT accepts. -/
def bootMaster (m : RegMaster) : Bool := m == .host || m == .cpa || m == .cpb

/-- The arguments of a command. -/
def State.bootArg (s : State) (i : Nat) : Nat := s.regN (Reg.BOOT_ARG i)

/-- The codes of a refused write; `f` is the effect of an accepted one. -/
def State.bootAccept (s : State) (m : RegMaster) (f : State → State) : State :=
  if !bootMaster m then s else if s.bootBusy then s.bootErr 1 else f s

/-- A command runs on with its arguments (R613). -/
def State.bootRun (s : State) (op : Nat) : State :=
  let s1 := s.setBit Reg.BOOT_CMD_STATUS Fld.BOOT_CMD_STATUS_BUSY true
  { s1 with boot := { s1.boot with job := some ⟨op, s.reg (Reg.BOOT_ARG 0), s.reg (Reg.BOOT_ARG 1), s.reg (Reg.BOOT_ARG 2)⟩ } }

/-- The command that runs ends. -/
def State.bootEnd (s : State) : State :=
  let s1 := s.setBit Reg.BOOT_CMD_STATUS Fld.BOOT_CMD_STATUS_BUSY false
  { s1 with boot := { s1.boot with job := none } }

/-- The VERIFIED bit of a slot. -/
def verifiedFld (slot : Nat) : Field := if slot = 0 then Fld.BOOT_STATUS_VERIFIED_A else Fld.BOOT_STATUS_VERIFIED_B

/-- Whether n flash bytes at an address touch a slot. -/
def State.touches (s : State) (a n slot : Nat) : Bool :=
  decide (0 < n) && (if slot = 0 then decide (a < s.slotSize) else decide (s.slotSize < a + n))

/-- The flash bytes of a command. -/
def flashLen (op : Nat) (a1 a2 : Nat) : Nat := if op = 1 then a1 * 0x10000 else a2

/-- The bytes of flash that a command may name: those discovered, and where RECOVERY has come before any discovery, so that
CAP is 0, the most that the device uses (R580, R602; log entry 108). -/
def State.flashBound (s : State) : Nat := if s.flashSize = 0 then 256 * 2 ^ 20 else s.flashSize

/-- Whether the arguments of a flash command are legal (R613). -/
def State.flashArgsOk (s : State) (op : Nat) : Bool :=
  let a := s.bootArg 0
  decide (a + flashLen op (s.bootArg 1) (s.bootArg 2) ≤ s.flashBound) &&
    (if op = 1 then a % 0x10000 == 0
     else a % 256 == 0 && s.bootArg 2 % 256 == 0 && decide (s.bootArg 2 ≤ 0x10000) && inVat (s.bootArg 1) (s.bootArg 2))

/-- FLASH_ERASE (1), FLASH_PROGRAM (2) and FLASH_READ (3): refused with STATE outside RELEASED and RECOVERY, and where they
write the slot that booted. -/
def State.flashCmd (s : State) (op : Nat) : State :=
  let n := flashLen op (s.bootArg 1) (s.bootArg 2)
  if s.bootState ≠ 3 ∧ s.bootState ≠ 4 then s.bootErr 2
  else if !s.flashArgsOk op then s.bootErr 3
  else if op ≠ 3 ∧ s.bootState = 3 ∧ s.touches (s.bootArg 0) n s.bootSlot then s.bootErr 2
  else
    let s1 := if op = 3 then s else [0, 1].foldl (fun (s : State) slot =>
      if s.touches (s.bootArg 0) n slot then s.setBit Reg.BOOT_STATUS (verifiedFld slot) false else s) s
    s1.bootRun op

/-- The effect of a flash command that is done. -/
def State.flashApply (s : State) (j : BootJob) : State :=
  let a := j.arg0.toNat
  let n := j.arg2.toNat
  match j.op with
  | 1 => { s with boot := { s.boot with flash := Memory.clear s.boot.flash a (a + j.arg1.toNat * 0x10000) } }
  | 2 => (s.bootRead j.arg1.toNat n).flashPut a (List.zipWith (fun x y => x &&& y) (s.flashBytes a n) (s.read j.arg1.toNat n))
  | _ => s.bootPut j.arg1.toNat (s.flashBytes a n)

/-- The bytes that a failed command leaves where it writes are not stated: free (log entry 1). -/
def State.flashSpoil (s : State) (j : BootJob) : State :=
  let bs := leBytes (flashLen j.op j.arg1.toNat j.arg2.toNat) s.takeFree.1
  if j.op = 3 then s.takeFree.2.bootPut j.arg1.toNat bs else s.takeFree.2.flashPut j.arg0.toNat bs

/-- FLASH_DONE (R610). -/
def State.flashDone (s : State) (r : FlashResult) : State :=
  match s.boot.job with
  | none => s
  | some j =>
    if j.op = 4 then s
    else
      match r with
      | .ok => ((s.flashApply j).bootEnd).raiseN 319 j.op
      | .timeout => (((s.flashSpoil j).bootEnd).bootErr 4).raiseN 19 3
      | .failed => (((s.flashSpoil j).bootEnd).bootErr 4).raiseN 19 (if j.op = 3 then 3 else 4)

/-- VERIFY_SLOT (R603). -/
def State.verifyCmd (s : State) : State :=
  if s.bootState ≠ 3 ∧ s.bootState ≠ 4 then s.bootErr 2 else (s.bootRun 4).sysSealStart

/-- Whether an uncommitted clause activates a processor (R604). -/
def State.activating (s : State) (p : Nat) : Bool :=
  (List.range 16).any (fun n => s.slotHeld n && ((s.slot n).recs.any (fun r => Rec.op r == 7 && bitOf (Rec.mac r) == p)))

/-- Whether VERIFY_SLOT stages the firmware of a processor (R603, R604). -/
def State.stages (s : State) (l : List SlotImage) (p : Nat) : Bool :=
  s.bootState == 3 && !s.activating p &&
    (ofType l (p + 1)).any (fun m => m.id / 2 ^ 24 == s.regN (fwReg p) / 2 ^ 24)

/-- The firmware of a processor copied into its idle bank (R603). -/
def State.stageFw (s : State) (slot : Nat) (l : List SlotImage) (p : Nat) : State :=
  if s.stages l p then
    (ofType l (p + 1)).foldl (fun s m =>
      ((s.setIdle p (Memory.write (s.idleBank p) (m.load - codeLo p) (s.imageBytes slot m))).setRegN (stagedReg p)
        m.id).setPrev p 0) s
  else s

/-- A verification that has ended, by what the checks of the slot come to. -/
def verifyEnd (slot : Nat) (l : List SlotImage) (r : Option (Nat × Nat) × State) : State :=
  let s1 := r.2.bootEnd.sysSealEnd
  match r.1 with
  | some f => (s1.bootErr 5).raiseN 318 (slot + 1 * 2 + f.2 * 2 ^ 4)
  | none =>
    ((((s1.setBit Reg.BOOT_STATUS (verifiedFld slot) true).stageFw slot l 0).stageFw slot l 1)).raiseN 316
      (slot + bitOf (s1.stages l 0) * 2 + bitOf (s1.stages l 1) * 4)

/-- SLOT_VERIFIED (R603, R610). -/
def State.slotVerified (s : State) (readErr : Bool) : State :=
  match s.boot.job with
  | none => s
  | some j =>
    if j.op = 4 then
      verifyEnd (j.arg0.toNat % 2) (slotImages (s.slotHeader (j.arg0.toNat % 2))) (s.vetSlot (j.arg0.toNat % 2) false readErr)
    else s

/-- SET_PREFERRED (R591, R613). -/
def State.preferCmd (s : State) : State :=
  let slot := s.bootArg 0 % 2
  if s.bit Reg.BOOT_STATUS (verifiedFld slot) then s.setControl (fun ws => ws.set 2 (BitVec.ofNat 32 (slot + 2)))
  else s.bootErr 2

/-- CLEAR_ATTEMPTS. -/
def State.clearAttemptsCmd (s : State) : State := s.setAttempts (s.bootArg 0 % 2) 0

/-- KEY_PROGRAM (R592). -/
def State.keyProgramCmd (s : State) : State :=
  let i := s.bootArg 0
  if 4 ≤ i ∨ !inVat (s.bootArg 1) 96 then s.bootErr 3
  else if testBit (s.keyWord i) 0 then (s.keysRead [i]).bootErr 6
  else (((s.keysRead [i]).bootRead (s.bootArg 1) 96).ledgerPut (keyAt i + 0x10) (s.read (s.bootArg 1) 96)).ledgerPut (keyAt i)
    (wordBytes (s.keyWord i ||| 1) ++ leBytes 4 0)

/-- KEY_REVOKE (R592). -/
def State.keyRevokeCmd (s : State) : State :=
  let i := s.bootArg 0
  if 4 ≤ i then s.bootErr 3
  else if (List.range 4).all (fun k => k == i || !s.keyUsable k) then (s.keysRead [0, 1, 2, 3]).bootErr 6
  else (s.keysRead [0, 1, 2, 3]).ledgerPut (keyAt i) (wordBytes (s.keyWord i ||| 2) ++ leBytes 4 0)

/-- REBOOT (R609): not a reset of the sentinel. One that is scheduled already stands (R572). -/
def State.rebootCmd (s : State) : State :=
  ((s.claimDrop 0).outputHold).setBit Reg.SENT_STATUS Fld.SENT_STATUS_RESET_PENDING true

/-- RETRY (R595), in RECOVERY only. -/
def State.retryCmd (s : State) (ms : Nat) : State :=
  if s.bootState = 4 then
    let r := s.clearMemories.control
    if r.1.isNone then r.2.recovery 12 ms else r.2.setBootState 1
  else s.bootErr 2

/-- CONFIRM (R597): of the slot that is released. -/
def State.confirmCmd (s : State) : State := if s.bootState = 3 then s.setAttempts s.bootSlot 0 else s.bootErr 2

/-- A write of BOOT_CMD (R613). -/
def State.bootCmd (s : State) (m : RegMaster) (op ms : Nat) : State :=
  s.bootAccept m (fun s =>
    match op with
    | 1 => s.flashCmd 1
    | 2 => s.flashCmd 2
    | 3 => s.flashCmd 3
    | 4 => s.verifyCmd
    | 5 => s.preferCmd
    | 6 => s.clearAttemptsCmd
    | 7 => s.keyProgramCmd
    | 8 => s.keyRevokeCmd
    | 9 => s.rebootCmd
    | 10 => s.retryCmd ms
    | 11 => s.confirmCmd
    | _ => s.bootErr 3)

/-- A write of BOOT_CMD as a transaction of its master, which holds one tag of the crossbar (R401, R436; log entry 99). -/
def State.bootCommand (s : State) (m : RegMaster) (f : State → State) : State := (s.bootAccept m f).holdTags 1

/-! ### The commands -/

/-- The command BOOT_START. -/
def execBootStart (ms : Nat) (s : State) : Host.Outcome State Fault Refusal := .next (s.bootStart ms)

/-- The command BOOT_DISCOVER_DONE. -/
def execBootDiscoverDone (r : Sfdp) (ms : Nat) (s : State) : Host.Outcome State Fault Refusal := .next (s.discovered r ms)

/-- The command BOOT_SLOT_DONE. -/
def execBootSlotDone (readErr : Bool) (ms : Nat) (s : State) : Host.Outcome State Fault Refusal :=
  .next (s.slotDone readErr ms)

/-- The command FLASH_ERASE. -/
def execFlashErase (m : RegMaster) (s : State) : Host.Outcome State Fault Refusal :=
  .next (s.bootCommand m (fun s => s.flashCmd 1))

/-- The command FLASH_PROGRAM. -/
def execFlashProgram (m : RegMaster) (s : State) : Host.Outcome State Fault Refusal :=
  .next (s.bootCommand m (fun s => s.flashCmd 2))

/-- The command FLASH_READ. -/
def execFlashRead (m : RegMaster) (s : State) : Host.Outcome State Fault Refusal :=
  .next (s.bootCommand m (fun s => s.flashCmd 3))

/-- The command FLASH_DONE. -/
def execFlashDone (result : FlashResult) (s : State) : Host.Outcome State Fault Refusal := .next (s.flashDone result)

/-- The command VERIFY_SLOT. -/
def execVerifySlot (m : RegMaster) (s : State) : Host.Outcome State Fault Refusal :=
  .next (s.bootCommand m State.verifyCmd)

/-- The command SLOT_VERIFIED. -/
def execSlotVerified (readErr : Bool) (s : State) : Host.Outcome State Fault Refusal := .next (s.slotVerified readErr)

/-- The command SET_PREFERRED. -/
def execSetPreferred (m : RegMaster) (s : State) : Host.Outcome State Fault Refusal :=
  .next (s.bootCommand m State.preferCmd)

/-- The command CLEAR_ATTEMPTS. -/
def execClearAttempts (m : RegMaster) (s : State) : Host.Outcome State Fault Refusal :=
  .next (s.bootCommand m State.clearAttemptsCmd)

/-- The command KEY_PROGRAM. -/
def execKeyProgram (m : RegMaster) (s : State) : Host.Outcome State Fault Refusal :=
  .next (s.bootCommand m State.keyProgramCmd)

/-- The command KEY_REVOKE. -/
def execKeyRevoke (m : RegMaster) (s : State) : Host.Outcome State Fault Refusal :=
  .next (s.bootCommand m State.keyRevokeCmd)

/-- The command REBOOT. -/
def execReboot (m : RegMaster) (s : State) : Host.Outcome State Fault Refusal :=
  .next (s.bootCommand m State.rebootCmd)

/-- The command RETRY. -/
def execRetry (m : RegMaster) (ms : Nat) (s : State) : Host.Outcome State Fault Refusal :=
  .next (s.bootCommand m (fun s => s.retryCmd ms))

/-- The command BOOT_CONFIRM. -/
def execBootConfirm (m : RegMaster) (s : State) : Host.Outcome State Fault Refusal :=
  .next (s.bootCommand m State.confirmCmd)

/-- The command SEAL_START: a write with START. -/
def execSealStart (n : Fin 3) (data : Word) (s : State) (m : RegMaster := .host) : Host.Outcome State Fault Refusal :=
  .next ((s.sealCtrl m n (Fld.SEAL_CTRL_START.put data 1)).holdTags 1)

/-- The command SEAL_JOB_DONE. -/
def execSealJobDone (s : State) : Host.Outcome State Fault Refusal := .next s.sealDone

end Sys2Proof.Machine
end

