-- ==== Sys2Proof/Machine/Router.lean ====
section
/-! DEFINITION. Register and memory accesses of the masters: wide registers (R33-R38), the access codes (R9-R11), what a write
of each register does, and which access a target refuses (R400-R405, R428, R590-R594, R630-R633). -/

namespace Sys2Proof.Machine

/-! ### Wide registers (R33-R38) -/

/-- The rows of a wide register's words: word i of n at the row's address. -/
def wideBase (a : Nat) (r : RegRow) : Nat := a - 4 * r.idx

/-- The answer of a read, for the master that made it. -/
def State.answer (s : State) (w : Word) : State := { s with host := { s.host with answer := wordBytes w } }

/-- A read of word 0 (R35): the whole register is latched into the master's shadow. -/
def State.wideLatch (s : State) (m : RegMaster) (a n : Nat) : State :=
  (List.range n).foldl (fun s i =>
    let k := wideKey m (a + 4 * i)
    { s with shadow := SMap.set 0 s.shadow k (s.reg (a + 4 * i))
             fresh := if i = 0 then s.fresh else k :: s.fresh.filter (· != k) }) s

/-- A read of a higher word (R36, R37): from the shadow; a second one without a fresh read of word 0 is stale. -/
def State.wideHigh (s : State) (m : RegMaster) (a : Nat) : Word × State :=
  let k := wideKey m a
  let w := SMap.find 0 s.shadow k
  if s.fresh.contains k then (w, { s with fresh := s.fresh.filter (· != k) })
  else (w, s.setRegN Reg.GLOBAL_STALE_READ (1 + a / 4 * 4))

/-- Whether a wide register is writable (R38): some word has RW or SH fields, or it is TIME_SERVO_OFFSET (R49). -/
def wideWritable (base n : Nat) : Bool :=
  base == Reg.TIME_SERVO_OFFSET || (List.range n).any (fun i =>
    match regRow (base + 4 * i) with
    | some r => r.rw != 0 || r.sh != 0
    | none => false)

/-- A higher word is staged (R38). -/
def State.wideStage (s : State) (m : RegMaster) (a : Nat) (data : Word) : State :=
  { s with staging := SMap.set (regReset a) s.staging (wideKey m a) data }

/-! ### SYNTH registers (R88, R277) -/

/-- The PLLs that uncommitted clauses name. -/
def State.heldPlls (s : State) : List Nat :=
  ((List.range 16).filter s.slotHeld).flatMap (fun n => recPlls (s.slot n).recs)

/-- A direct write of an SH register of SYNTH: staged, or ignored from the admission to the commit of a clause that names the
PLL. -/
def State.synthDirect (s : State) (a : Nat) (data : Word) : State :=
  if (synthPlls a).any s.heldPlls.contains then s else s.synthStage a (mergeWord (s.stagedOr a) data (shBits a))

/-- A write of SYNTH_x_CTRL (R89, R92, R105): UPDATE and CANCEL clear SCHED. -/
def State.synthCtrl (s : State) (x : Nat) (data : Word) : State :=
  let s1 := s.synthEnable x data
  let upd := Fld.SYNTH_CTRL_UPDATE.get data == 1
  let cancel := Fld.SYNTH_CTRL_CANCEL.get data == 1
  if Fld.SYNTH_CTRL_SCHED.get data == 1 && !upd && !cancel then s1.synthSched x
  else
    let s2 := s1.setBit (Reg.SYNTH_CTRL x) Fld.SYNTH_CTRL_SCHED false
    if upd then s2.synthUpdate x else s2

/-- A write of word 0 of a writable wide register: the staged words and this one take effect together (R38). -/
def State.wideWrite (s : State) (m : RegMaster) (a n : Nat) (data : Word) : State :=
  let hi (i : Nat) : Word := s.stagedWord m (a + 4 * i)
  if !wideWritable a n then s
  else if a = Reg.TIME_INCR_NOM then s.incrNomWrite data (hi 1)
  else if a = Reg.TIME_SERVO_OFFSET then s.servoOffsetWrite data (hi 1)
  else if a = Reg.SYNTH_RATIO 0 ∨ a = Reg.SYNTH_RATIO 1 then (s.synthDirect a data).synthDirect (a + 4) (hi 1)
  else (List.range n).foldl (fun s i => s.writeRw (a + 4 * i) (if i = 0 then data else hi i)) s

/-! ### Processors (R633) -/

/-- The processor a master is. -/
def RegMaster.cp (m : RegMaster) : Option Nat :=
  match m with | .cpa => some 0 | .cpb => some 1 | _ => none

/-- A KICK of a processor's watchdog: only its own counts. -/
def State.kick (s : State) (m : RegMaster) (p : Nat) : State := if RegMaster.cp m = some p then s.wdogRestart p else s

/-- A write of HOST_CPx_WDOG: a watchdog that is enabled counts from then. -/
def State.wdogWrite (s : State) (m : RegMaster) (p : Nat) (data : Word) : State :=
  let a := Reg.HOST_CP_WDOG p
  let s1 := s.writeRw a data
  let s2 := if !s.bit a Fld.HOST_CP_WDOG_EN && s1.bit a Fld.HOST_CP_WDOG_EN then s1.wdogRestart p else s1
  if Fld.HOST_CP_WDOG_KICK.get data = 1 then s2.kick m p else s2

/-- MSI_ACK (R616). -/
def State.msiAck (s : State) : State :=
  if s.reg Reg.GLOBAL_SUMMARY ≠ 0 ∧ s.msiOn then
    { s with host := { s.host with msi := s.host.msi + 1 } }
  else s

/-! ### MIX_LAT (R240, R254) -/

/-- What the staged clauses would make of the routing, with the RDLY computed at their staging (R239). -/
def State.stagedLat (s : State) (sink : Nat) : Word :=
  let before (x y : ClauseSlot) : Bool := decide (x.c < y.c) || (x.c == y.c && decide (x.order < y.order))
  let qs := sortBy before (((List.range 16).filter s.slotHeld).map s.slot)
  let recs : List Rec := qs.flatMap (·.recs)
  let t := qs.foldl (fun s q => s.project q.ptab q.recs) s
  let r := routeAfter s t (recs.any (fun x => x.op == 4))
  t.latWord { r with rdly := (stagedDelays qs).getD s.mix.rdly } sink

/-- MIX_LAT follows MIX_LAT_SEL. -/
def State.syncLat (s : State) : State :=
  let sel := s.reg Reg.MIX_LAT_SEL
  let sink := Fld.MIX_LAT_SEL_SINK.get sel
  s.setReg Reg.MIX_LAT (if Fld.MIX_LAT_SEL_STAGED.get sel = 1 then s.stagedLat sink
    else s.latWord (s.routeOf s.releaseFolio) sink)

/-! ### What a write of each register does -/

/-- The writes of CLAUSE_CMD (R298). -/
def State.clauseCmd (s : State) (m : RegMaster) (data : Word) : State :=
  let n := Fld.CLAUSE_CMD_SLOT.get data
  match Fld.CLAUSE_CMD_OP.get data with
  | 1 => s.clauseSubmit m n (s.regN Reg.CLAUSE_IMAGE)
  | 2 => s.clauseConfirm n
  | 3 => s.clauseAbort n
  | _ => s

/-- The writes of PE_CTRL (R157). -/
def State.peCtrl (s : State) (e : Nat) (data : Word) : State :=
  let s1 := s.peEnable e data
  let s2 := if Fld.PE_CTRL_ABORT.get data = 1 then s1.peAbort e else s1
  if Fld.PE_CTRL_CLEAR_FAULT.get data = 1 then s2.peClear e else s2

/-- The writes of FAB_LANE_CTRL (R344). -/
def State.laneCtrl (s : State) (n : Nat) (data : Word) : State :=
  let s1 := (s.laneEnWrite n data).laneLoopWrite n data
  if Fld.FAB_LANE_CTRL_RETRAIN.get data = 1 then s1.laneRetrain n else s1

/-- The writes of FAB_WAKE_CTRL (R349). -/
def State.wakeCtrlWrite (s : State) (data : Word) : State :=
  let s1 := if Fld.FAB_WAKE_CTRL_SEND.get data = 1 then s.wakeSend data else s.wakeCtrl data
  if Fld.FAB_WAKE_CTRL_ENTER.get data = 1 then s1.dormantEnter else s1

/-- The writes of DRAM_CTRL (R444). -/
def State.dramCtrl (s : State) (data : Word) : State :=
  let s1 := s.dramEnWrite data
  if Fld.DRAM_CTRL_RETRAIN.get data = 1 then s1.dramRetrainAll else s1

/-- The writes of REDUN_CMD: RECLAIM acts before DROP. -/
def State.redunCmd (s : State) (data : Word) : State :=
  let s1 := if Fld.REDUN_CMD_SWAP.get data = 1 then s.swap else s
  let s2 := if Fld.REDUN_CMD_RECLAIM.get data = 1 then s1.reclaim else s1
  if Fld.REDUN_CMD_DROP.get data = 1 then s2.claimDrop 0 else s2

/-- The writes of TALLY and the sentinel registers, for the block offset of the row and an index in it. -/
def State.tallyWrite (s : State) (base i a : Nat) (data : Word) : State :=
  if base = Reg.EVG_FORCE 0 then (s.evgForce i data).syncSummary
  else if base = Reg.TALLY_FORCE 0 then s.tallyForce i data []
  else if base = Reg.TALLY_STICKY 0 then s.stickyWrite i data 0 0
  else (s.writeWord a data).syncSummary

/-- The writes of TIME and SYNTH. -/
def State.timeWrite (s : State) (base i a : Nat) (data : Word) : State :=
  if a = Reg.TIME_CTRL then s.timeCtrlWrite data
  else if a = Reg.TIME_CMD then
    s.timeCmd (Fld.TIME_CMD_STEP.get data == 1) (Fld.TIME_CMD_SET.get data == 1) (Fld.TIME_CMD_SERVO_RESET.get data == 1)
  else if a = Reg.TIME_SERVO_CTRL then s.servoCtrlWrite data
  else if base = Reg.TIME_PULSE_CTRL 0 then s.pulseCtrlWrite i data
  else if a = Reg.SYNTH_SERDES_CTRL then s.serdesWrite data
  else if base = Reg.SYNTH_CTRL 0 then s.synthCtrl i data
  else if a = Reg.SYNTH_ROUTE ∨ base = Reg.SYNTH_OUT_CFG 0 0 then s.synthDirect a data
  else s.writeWord a data

/-- The writes of the audio engine: PE, SEQ, MIX, SRC, CLAUSE and REDUN. -/
def State.audioWrite (s : State) (m : RegMaster) (base i a : Nat) (data : Word) : State :=
  if base = Reg.PE_CTRL 0 then s.peCtrl i data
  else if a = Reg.SEQ_CTRL then s.seqEnable data
  else if a = Reg.SEQ_CMD then
    (if Fld.SEQ_CMD_CANCEL.get data = 1 then s.seqCancel (Fld.SEQ_CMD_PHRASE.get data) (Fld.SEQ_CMD_SLOT.get data) else s)
  else if a = Reg.MIX_LAT_SEL then (s.writeWord a data).syncLat
  else if base = Reg.SRC_CH_CFG 0 then s.srcCfg i data
  else if a = Reg.CLAUSE_CMD then s.clauseCmd m data
  else if a = Reg.REDUN_CMD then s.redunCmd data
  else s.writeWord a data

/-- The writes of the fabric, the MACs, the quires and the DRAM controller. -/
def State.netWrite (s : State) (base i a : Nat) (data : Word) : State :=
  if base = Reg.FAB_LANE_CTRL 0 then s.laneCtrl i data
  else if a = Reg.FAB_PORTMAP then s.portmapWrite data
  else if a = Reg.FAB_WAKE_CTRL then s.wakeCtrlWrite data
  else if base = Reg.MAC_PAUSE_TX 0 then s.pauseSend i data
  else if a = Reg.DRAM_CTRL then s.dramCtrl data
  else if base = Reg.QUIRE_CFG 0 then s.quireCfgWrite i data
  else if base = Reg.QUIRE_BASE 0 then s.quireBaseWrite i data
  else if base = Reg.QUIRE_SW_CMD 0 then s.quireSw i data
  else s.writeWord a data

/-- The writes of SAP, AIN, AOUT, HADC, LAMP, BOOT and HOST. -/
def State.portWrite (s : State) (m : RegMaster) (base i a : Nat) (data : Word) : State :=
  if base = Reg.SAP_CTRL 0 then s.sapCtrlWrite i data
  else if a = Reg.AIN_CTRL then s.ainEnable data
  else if base = Reg.AOUT_OUT_CFG 0 then s.outCfg i data
  else if a = Reg.AOUT_CLASSD_CTRL then s.classdCtrl data
  else if a = Reg.AOUT_JD_CTRL then s.jdCtrl data
  else if base = Reg.LAMP_CTRL 0 then s.lampCtrlWrite i data
  else if a = Reg.HADC_URGENT then s.softRequest (data.toNat % 2 ^ 6)
  else if a = Reg.BOOT_CMD then s.takeFree.2.bootCmd m (Fld.BOOT_CMD_OP.get data) s.takeFree.1
  else if base = Reg.SEAL_CTRL 0 then s.sealCtrl m i data
  else if a = Reg.HOST_MSI then (if Fld.HOST_MSI_ACK.get data = 1 then s.msiAck else s)
  else if base = Reg.HOST_CP_WDOG 0 then s.wdogWrite m i data
  else s.writeWord a data

/-- A write of a register of 32 bits: what its row does, or its access codes (R9-R11). -/
def State.narrowWrite (s : State) (m : RegMaster) (a : Nat) (r : RegRow) (data : Word) : State :=
  let i := (a - r.base) / r.s1
  if a < 0x00100000 then s.writeWord a data
  else if a < 0x00200000 then s.tallyWrite r.base i a data
  else if a < 0x01000000 then s.timeWrite r.base i a data
  else if a < 0x04000000 then s.netWrite r.base i a data
  else if a < 0x05300000 then s.audioWrite m r.base i a data
  else if 0x07000000 ≤ a ∧ a < 0x09000000 then s.audioWrite m r.base i a data
  else s.portWrite m r.base i a data

/-- A write of a register. An offset that no register occupies ignores it (R10). -/
def State.writeReg (s : State) (m : RegMaster) (a : Nat) (data : Word) : State :=
  match regRow a with
  | none => s
  | some r =>
    if r.words ≤ 1 then s.narrowWrite m a r data
    else if r.idx = 0 then s.wideWrite m a r.words data
    else if wideWritable (wideBase a r) r.words then s.wideStage m a data
    else s

/-! ### Reads -/

/-- The coefficient ROM in the SRC block (R246, R256). -/
def srcCoefAt : Nat := 0x05240000

/-- What a read does to a register: RC fields clear (R11), and the two MAX fields and SLACK take their new values (R210, R211,
R442). -/
def State.readClear (s : State) (a : Nat) : State :=
  if a = Reg.SEQ_INFLIGHT then s.setFld a Fld.SEQ_INFLIGHT_MAX (s.fld a Fld.SEQ_INFLIGHT_NOW)
  else if a = Reg.XBAR_INFLIGHT then s.setFld a Fld.XBAR_INFLIGHT_MAX (s.fld a Fld.XBAR_INFLIGHT_NOW)
  else if a = Reg.SEQ_SLACK_MIN then s.setReg a 0x7FFFFFFF#32
  else
    match regRow a with
    | none => s
    | some r => if r.rc = 0 then s else s.setReg a (s.reg a &&& ~~~BitVec.ofNat 32 r.rc)

/-- The registers whose value follows PT are brought up to date before a read of them. -/
def State.refresh (s : State) (a : Nat) : State :=
  if a = Reg.CLAUSE_GEN ∨ a = Reg.MIX_RCTRL then s.syncForce
  else if a = Reg.SEQ_RELEASE_FOLIO then s.setReg64 a s.releaseFolio
  else if a = Reg.MIX_LAT then s.syncLat
  else if a = Reg.HADC_STATUS then s.lampRequests else s

/-- A read of a register word by a master. An offset that no register occupies reads as zero (R10); the stream and MAC tables
and the coefficient ROM stand in their windows (R256, R363, R379). -/
def State.readReg (s : State) (m : RegMaster) (a : Nat) : Word × State :=
  match regRow a with
  | none =>
    if srcCoefAt ≤ a ∧ a < srcCoefAt + 4 * 131073 then (Config.srcRom ((a - srcCoefAt) / 4), s)
    else if 0x02000000 ≤ a ∧ a < 0x02400000 then (s.word a, s)
    else (0, s)
  | some r =>
    if r.words ≤ 1 then
      let s1 := s.refresh a
      (s1.reg a, s1.readClear a)
    else if r.idx = 0 then
      let s1 := s.refresh a
      (s1.reg a, s1.wideLatch m a r.words)
    else s.wideHigh m a

/-! ### Where an access goes (R400, R637, R640) -/

/-- What answers at a local address. -/
inductive Region where
  | reg | vat | ledger | dram | engine | processor | nothing
  deriving DecidableEq, Repr

/-- The region of a local address. Engine memories are X, Y and P (R108); the processor memories stand in the HOST block. -/
def regionOf (a : Nat) : Region :=
  match targetOf a with
  | none => .nothing
  | some t =>
    if t < 32 then .vat else if t = 34 then .ledger else if t = 32 then .dram
    else if 0x04000000 ≤ a ∧ a < 0x05000000 then (if (a - 0x04000000) % 0x40000 < 0x28000 then .engine else .reg)
    else if 0x0A400000 ≤ a ∧ a < 0x0A800000 then
      (if (a - 0x0A400000) % 0x200000 < 0x180000 then .processor else .reg)
    else .reg

/-- The DRAM address behind the aperture of a master (R428); BOOT has no page. -/
def State.aperture (s : State) (m : RegMaster) (a : Nat) : Option Nat :=
  if m = .boot then none
  else some (s.regN (Reg.DRAM_APERTURE_PAGE (RegMaster.key m)) % 8 * 2 ^ 31 + (a - 0x80000000))

/-- An access of a master to DRAM: the DRAM address, or the address and the cause of its error answer (R402, R428, R679). What
runs past the installed capacity names the first address without a target; BOOT has no aperture, so its address maps to none. -/
def State.apertureAt (s : State) (m : RegMaster) (a n : Nat) : (Nat × Nat) ⊕ Nat :=
  match s.aperture m a with
  | none => .inl (a, 0)
  | some d =>
    if !s.dramReady d n then .inl (a, 3)
    else if s.dramCap < d + n then .inl (a + (s.dramCap - d), 0) else .inr d

/-- An error answer of the crossbar (R402), with the cause of R630 that the host would be told: 1, or for a DRAM channel
that is not READY, for which R630 states none, a free one (log entry 1). -/
def State.busRefuse (s : State) (code a : Nat) (write : Bool) (cause : Nat) : Nat × State :=
  let s1 := s.xbarErr code a write cause
  if cause = 3 then (1 + s1.takeFree.1 % 7, s1.takeFree.2) else (1, s1)

/-- Whether byte i of an access is enabled; a word without enables of its own has all of them. -/
def byteOn (be : List (BitVec 4)) (i : Nat) : Bool := (be.getD (i / 4) 0xF#4).getLsbD (i % 4)

/-- The bytes that a write leaves: the new ones where they are enabled. -/
def mergeBytes (be : List (BitVec 4)) (old new : List Byte) : List Byte :=
  (List.range new.length).map (fun i => if byteOn be i then new.getD i 0 else old.getD i 0)

/-- The units of w bytes at the addresses of n bytes that the enables leave in part as they are. -/
def partUnits (w : Nat) (be : List (BitVec 4)) (a n : Nat) : List Nat :=
  ((List.range ((a + n + w - 1) / w - a / w)).map (fun i => (a / w + i) * w)).filter (fun u =>
    (List.range w).any (fun j => decide (u + j < a) || decide (a + n ≤ u + j) || !byteOn be (u + j - a)))

/-- The channels that n bytes of DRAM touch (R428). -/
def dramChannels (a n : Nat) : List Nat := if a / 256 = (a + n - 1) / 256 then [dramChannel a] else [0, 1]

/-- Bytes written to the delay-line DRAM (R428). -/
def State.apertureWrite (s : State) (d : Nat) (bs : List Byte) : State := { s with dram := Memory.write s.dram d bs }

/-- The link errors that an aperture access shows on the channels it touches (R427), and whether it is answered with an error. -/
def State.apertureLinks (s : State) (a n : Nat) : Bool × State :=
  (dramChannels a n).foldl (fun r c => let l := r.2.apertureLink c; (r.1 || l.1, l.2)) (false, s)

/-- The crossbar tags that an access of a register master holds (R401, R436; log entry 99). -/
def State.busHold (s : State) (a n : Nat) : State :=
  match regionOf a with
  | .vat => s.holdVat a n
  | _ => s.holdTags 1

/-- Single-bit errors that a read of an engine's memory corrects: counted, and raised with the engine's PC (R152, R153; log
entry 97). -/
def State.engineCorr (s : State) (w a n : Nat) : State :=
  let e := (a - 0x04000000) / 0x40000
  if s.eccWords false w a n = 0 then s
  else (s.countHold (Reg.PE_ECC_COUNT e) (s.eccWords false w a n)).raiseN 201 (e + s.pePc e * 2 ^ 16)

/-- A read of n bytes at the target of an address: the bytes, or the cause of R630 that the host would be told. -/
def State.targetRead (s : State) (m : RegMaster) (a n : Nat) : (List Byte ⊕ Nat) × State :=
  let code := Master.code (RegMaster.master m)
  let refuse (s : State) (a cause : Nat) : (List Byte ⊕ Nat) × State :=
    (.inr (s.busRefuse code a false cause).1, (s.busRefuse code a false cause).2)
  match regionOf a with
  | .vat =>
    let r := s.vatRead code a n
    (match r.1 with | some bs => .inl bs | none => .inr (if s.eccBad a n then 7 else 1), r.2)
  | .ledger =>
    if a + n ≤ ledgerLo + ledgerSize then
      let r := s.ledgerRead (a - ledgerLo) n
      match r.1 with | some bs => (.inl bs, r.2) | none => (.inr 7, r.2.xbarErr code a false 2)
    else refuse s (ledgerLo + ledgerSize) 0
  | .dram =>
    match s.apertureAt m a n with
    | .inl c => refuse s c.1 c.2
    | .inr d => if (s.apertureLinks d n).1 then refuse (s.apertureLinks d n).2 a 3
      else (.inl (Memory.read s.dram d n), (s.apertureLinks d n).2)
  | .engine =>
    let w := if (a - 0x04000000) % 0x40000 < 0x20000 then 4 else 8
    if s.eccWords true w a n = 0 then (.inl (s.read a n), s.engineCorr w a n)
    else (.inr 7, (s.engineCorr w a n).xbarErr code a false 2)
  | .processor => (.inl (s.read a n), s)
  | .reg =>
    let r := s.readReg m a
    (.inl (wordBytes r.1), r.2)
  | .nothing => refuse s a 0

/-- A read of n bytes of memory by a master, through the crossbar. -/
def State.busRead (s : State) (m : RegMaster) (a n : Nat) : (List Byte ⊕ Nat) × State := (s.busHold a n).targetRead m a n

/-- Whether a master may write a processor memory (R632): a processor its own data, BOOT the code. -/
def cpWritable (m : RegMaster) (a : Nat) : Bool :=
  let p := (a - 0x0A400000) / 0x200000
  let data := decide (0x100000 ≤ (a - 0x0A400000) % 0x200000)
  if data then RegMaster.cp m == some p else m == .boot

/-- The answer of a write that the crossbar or its target refuses. -/
def State.writeRefuse (s : State) (code a cause : Nat) : Option Nat × State :=
  (some (s.busRefuse code a true cause).1, (s.busRefuse code a true cause).2)

/-- One transaction of a write of parts of 64-bit words of vat memory: a read-modify-write of those words (R404). A part past
the end of vat memory has no target (R401, R402). -/
def State.vatPartWrite (s : State) (code a : Nat) (bs : List Byte) (be : List (BitVec 4)) : Option Nat × State :=
  let lo := a / 8 * 8
  let hi := (a + bs.length + 7) / 8 * 8
  let part := partUnits 8 be a bs.length
  let s1 := part.foldl (fun s u => s.vatCorr u 8) s
  if vatHi ≤ a then s.writeRefuse code a 0
  else match part.find? (fun u => s.eccBad u 8) with
  | some u => (some 7, (s1.vatUncorr code u).xbarErr code a true 2)
  | none => (none, (s1.write a (mergeBytes be (s.read a bs.length) bs)).eccClear lo (hi - lo))

/-- A write to vat memory with byte enables, transaction by transaction (R401, R404): the cause of the first one that fails. -/
def State.vatPartsWrite (s : State) (code a : Nat) (bs : List Byte) (be : List (BitVec 4)) : Option Nat × State :=
  (accessParts a bs.length).foldl (fun r p =>
    let w := r.2.vatPartWrite code p.1 (slice bs (p.1 - a) p.2) (be.drop ((p.1 - a) / 4))
    (r.1 <|> w.1, w.2)) (none, s)

/-- A write at an offset of the ledger; a refusal is recorded there (R402, R591, R630). -/
def State.ledgerTarget (s : State) (m : RegMaster) (a off : Nat) (bs : List Byte) (be : List (BitVec 4)) :
    Option Nat × State :=
  let code := Master.code (RegMaster.master m)
  if off < 0x10000 ∧ m ≠ .boot then (some 2, s.raiseN 18 (off + code * 2 ^ 24))
  else if ledgerSize < off + bs.length then s.writeRefuse code (ledgerLo + ledgerSize) 0
  else
    let r := s.ledgerRmw ((partUnits 8 be off bs.length).map (fun u => (u, 8)))
    if r.1 then (none, r.2.ledgerPut off (mergeBytes be (s.read a bs.length) bs)) else (some 7, r.2.xbarErr code a true 2)

/-- A write of bytes with byte enables at the target of an address: none, or the cause of R630. -/
def State.targetWrite (s : State) (m : RegMaster) (a : Nat) (bs : List Byte) (be : List (BitVec 4)) : Option Nat × State :=
  let code := Master.code (RegMaster.master m)
  let refuse (s : State) (a cause : Nat) : Option Nat × State := s.writeRefuse code a cause
  let new (old : List Byte) : List Byte := mergeBytes be old bs
  match regionOf a with
  | .vat =>
    if be.any (· != 0xF#4) then s.vatPartsWrite code a bs be
    else
      let r := s.vatWrite code a bs
      (if r.1 then none else some (if (accessParts a bs.length).any (fun p => s.rmwBad p.1 p.2) then 7 else 1), r.2)
  | .ledger => s.ledgerTarget m a (a - ledgerLo) bs be
  | .dram =>
    match s.apertureAt m a bs.length with
    | .inl c => refuse s c.1 c.2
    | .inr d =>
      let l := s.apertureLinks d bs.length
      if l.1 then refuse l.2 a 3
      else (none, l.2.apertureWrite d (new (Memory.read s.dram d bs.length)))
  | .engine =>
    if s.peState ((a - 0x04000000) / 0x40000) = 0 then
      let w := if (a - 0x04000000) % 0x40000 < 0x20000 then 4 else 8
      (none, (s.write a (new (s.read a bs.length))).eccClearW w a bs.length)
    else (some 2, s)
  | .processor => if cpWritable m a then (none, s.write a (new (s.read a bs.length))) else (some 2, s)
  | .reg => (none, s.writeReg m a (wordOf bs))
  | .nothing => refuse s a 0

/-- A write of a master through the crossbar; the host's to a block must wait for the release (R594), while an address that
maps to no target is answered as such at all times (R402, R630, R637). -/
def State.busWrite (s : State) (m : RegMaster) (a : Nat) (bs : List Byte) (be : List (BitVec 4)) : Option Nat × State :=
  if s.hostBarred m a && (targetOf a).isSome then (some 2, s) else (s.busHold a bs.length).targetWrite m a bs be

/-- An error answer as its master sees it: the host's is recorded (R630). -/
def State.answerTo (s : State) (m : RegMaster) (write : Bool) (a : Nat) (cause : Option Nat) : State :=
  match cause with
  | none => s
  | some c => if m = .host then s.hostErr c 0 write a else s

/-- A word written by a master. -/
def State.busWriteWord (s : State) (m : RegMaster) (a : Nat) (data : Word) : State :=
  let r := s.busWrite m a (wordBytes data) []
  r.2.answerTo m true a r.1

/-! ### The commands -/

/-- The command REGISTER_WRITE. -/
def execRegisterWrite (m : RegMaster) (addr : BitVec 32) (data : Word) (s : State) : Host.Outcome State Fault Refusal :=
  .next (s.busWriteWord m addr.toNat data)

/-- The command WIDE_READ_WORD0: at an address that is not word 0 of a wide register it is no such read. -/
def execWideReadWord0 (m : RegMaster) (addr : BitVec 32) (s : State) : Host.Outcome State Fault Refusal :=
  match regRow addr.toNat with
  | some r =>
    if 1 < r.words ∧ r.idx = 0 then
      let s1 := s.refresh addr.toNat
      .next (((s1.wideLatch m addr.toNat r.words).answer (s1.reg addr.toNat)).holdTags 1)
    else .next s
  | none => .next s

/-- The command WIDE_READ_HIGH. -/
def execWideReadHigh (m : RegMaster) (addr : BitVec 32) (s : State) : Host.Outcome State Fault Refusal :=
  match regRow addr.toNat with
  | some r =>
    if 0 < r.idx then
      let w := s.wideHigh m addr.toNat
      .next ((w.2.answer w.1).holdTags 1)
    else .next s
  | none => .next s

/-- The command WIDE_WRITE_HIGH. -/
def execWideWriteHigh (m : RegMaster) (addr : BitVec 32) (data : Word) (s : State) : Host.Outcome State Fault Refusal :=
  match regRow addr.toNat with
  | some r =>
    if 0 < r.idx ∧ wideWritable (wideBase addr.toNat r) r.words ∧ !s.hostBarred m addr.toNat then
      .next ((s.wideStage m addr.toNat data).holdTags 1)
    else .next (s.answerTo m true addr.toNat (if s.hostBarred m addr.toNat then some 2 else none))
  | none => .next s

/-- The command WIDE_WRITE_WORD0. -/
def execWideWriteWord0 (m : RegMaster) (addr : BitVec 32) (data : Word) (s : State) : Host.Outcome State Fault Refusal :=
  match regRow addr.toNat with
  | some r =>
    if 1 < r.words ∧ r.idx = 0 ∧ !s.hostBarred m addr.toNat then .next ((s.wideWrite m addr.toNat r.words data).holdTags 1)
    else .next (s.answerTo m true addr.toNat (if s.hostBarred m addr.toNat then some 2 else none))
  | none => .next s

/-- The command KICK. -/
def execKick (m : RegMaster) (p : Fin 2) (s : State) : Host.Outcome State Fault Refusal :=
  .next (s.unlessBarred m (Reg.HOST_CP_WDOG p) (s.kick m p))

/-- The command MSI_ACK. -/
def execMsiAck (s : State) : Host.Outcome State Fault Refusal := .next s.msiAck

end Sys2Proof.Machine
end

