-- ==== Sys2Proof/Machine/Host.lean ====
section
/-! DEFINITION. The host interface, the management relay and the processors' watchdogs (R12, R26, R27, R615-R636). -/

namespace Sys2Proof.Machine

/-! ### Address windows -/

/-- The local address that a BAR0 offset reaches (R619). -/
def State.bar0 (s : State) (o : Nat) : Nat :=
  let w := o / 2 ^ 24 % 4
  (if w = 0 then 0 else s.fld (Reg.GLOBAL_HOST_WIN w) Fld.GLOBAL_HOST_WIN_BASE) * 2 ^ 24 + o % 2 ^ 24

/-- The management address that a BAR2 offset reaches (R620). -/
def State.bar2 (s : State) (o : Nat) : Nat :=
  let d := o / 2 ^ 16 % 2 ^ 6
  d * 2 ^ 34 + (s.fld (Reg.HOST_RWIN d) Fld.HOST_RWIN_BASE) * 2 ^ 16 + o % 2 ^ 16

/-! ### Service of an access by this device (R621, R622, R630) -/

/-- Words of all ones. -/
def onesWords (n : Nat) : List Word := List.replicate n 0xFFFFFFFF#32

/-- The answer to the host: words and the cause of its error, 0 for none. -/
def State.hostAnswer (s : State) (ws : List Word) (cause : Nat) : State :=
  { s with host := { s.host with data := ws, cause := cause } }

/-- Words read one by one at ascending addresses; the first error ends the access. -/
def State.hostReadEach (s : State) (a : Nat) : Nat → (List Word ⊕ Nat) × State
  | 0 => (.inl [], s)
  | n + 1 =>
    let r := s.busRead .host a 4
    match r.1 with
    | .inr c => (.inr c, r.2)
    | .inl bs =>
      let t := r.2.hostReadEach (a + 4) n
      (match t.1 with | .inl ws => .inl (wordOf bs :: ws) | .inr c => .inr c, t.2)

/-- Words written one by one at ascending addresses; the first error ends the access. -/
def State.hostWriteEach (s : State) (a : Nat) : List Word → Option Nat × State
  | [] => (none, s)
  | w :: ws =>
    let r := s.busWrite .host a (wordBytes w) []
    match r.1 with
    | some c => (some c, r.2)
    | none => r.2.hostWriteEach (a + 4) ws

/-- Whether size, alignment and byte enables of an access are those of R621. `words` says that the link carries several
words to ascending addresses (quad-SPI and relay frames). -/
def accessOk (a nw : Nat) (be : List (BitVec 4)) (words : Bool) : Bool :=
  a % 4 == 0 && decide (0 < nw) && decide (nw ≤ 64) &&
    (regionOf a != .reg || (be.all (· == 0xF#4) && (words || nw == 1)))

/-- A read of the host served here: the words or the cause. -/
def State.hostServeRead (s : State) (a nw : Nat) (be : List (BitVec 4)) (words : Bool) : (List Word ⊕ Nat) × State :=
  if accessOk a nw be words then
    if regionOf a = .reg then s.hostReadEach a nw
    else
      let r := s.busRead .host a (4 * nw)
      (match r.1 with | .inl bs => .inl (wordsOf nw bs) | .inr c => .inr c, r.2)
  else (.inr 3, s)

/-- A write of the host served here: none or the cause. -/
def State.hostServeWrite (s : State) (a : Nat) (data : List Word) (be : List (BitVec 4)) (words : Bool) : Option Nat × State :=
  if accessOk a data.length be words then
    if regionOf a = .reg then s.hostWriteEach a data
    else s.busWrite .host a (data.flatMap wordBytes) be
  else (some 3, s)

/-- The host link in use (R578): quad-SPI or not. -/
def State.quadSpi (s : State) : Bool := s.bit Reg.HOST_STATUS Fld.HOST_STATUS_IF

/-- A read of the local device. -/
def State.hostReadHere (s : State) (a nw : Nat) (be : List (BitVec 4)) : State :=
  let r := s.hostServeRead a nw be s.quadSpi
  match r.1 with
  | .inl ws => r.2.hostAnswer ws 0
  | .inr c => (r.2.hostErr c 0 false a).hostAnswer (onesWords nw) c

/-- A write of the local device. -/
def State.hostWriteHere (s : State) (a : Nat) (data : List Word) (be : List (BitVec 4)) : State :=
  let r := s.hostServeWrite a data be s.quadSpi
  match r.1 with
  | none => r.2.hostAnswer [] 0
  | some c => (r.2.hostErr c 0 true a).hostAnswer [] c

/-! ### Where the device does not run (R568, R631) -/

/-- The registers with mirrors in the sentinel domain (R568). -/
def mirrored (a : Nat) : Bool :=
  a == Reg.GLOBAL_SUMMARY || (List.range 6).any (fun i => a == Reg.TALLY_STICKY i) || a == Reg.TALLY_FIRST ||
    a == Reg.TALLY_FIRST_GLOSS || a == Reg.TALLY_FIRST_GLOSS + 4 || a == Reg.SENT_CTRL || a == Reg.SENT_STATUS

/-- A read while the device is held or dormant: over quad-SPI the mirrors answer; in dormant mode every other access is
answered with an error and no record (cause 8). Over PCI Express there is no link then. -/
def State.hostReadAsleep (s : State) (addr nw : Nat) : State :=
  if !s.quadSpi then s
  else if (List.range nw).all (fun i => mirrored (addr + 4 * i)) then
    s.hostAnswer ((List.range nw).map (fun i => s.reg (addr + 4 * i))) 0
  else if s.power = .dormant then s.hostAnswer (onesWords nw) 8
  else s

/-- A write while the device is held or dormant. -/
def State.hostWriteAsleep (s : State) : State :=
  if s.quadSpi && s.power == .dormant then s.hostAnswer [] 8 else s

/-! ### The relay, at the device with the host (R623-R628) -/

/-- Whether an index can be reached (R625, R641). -/
def State.relayValid (s : State) (d : Nat) : Bool :=
  s.bit Reg.HOST_RELAY_CTRL Fld.HOST_RELAY_CTRL_EN && s.bit (Reg.HOST_RELAY_DEV_HI d) Fld.HOST_RELAY_DEV_HI_VALID

/-- The address of a device index. -/
def State.relayAddr (s : State) (d : Nat) : List Byte :=
  leBytes 4 (s.regN (Reg.HOST_RELAY_DEV_LO d)) ++ leBytes 2 (s.regN (Reg.HOST_RELAY_DEV_HI d))

/-- The egress of a request: the lowest-numbered port of PORTS that is UP. -/
def State.relayPort (s : State) (d : Nat) : Option Nat :=
  (bitsSet 8 (s.fld (Reg.HOST_RELAY_DEV_HI d) Fld.HOST_RELAY_DEV_HI_PORTS)).find? s.portUp

/-- A relay header and its words, most significant byte first (R624). -/
def relayHeader (type nw status tag addr : Nat) (ws : List Word) : List Byte :=
  beBytes 4 (2 ^ 28 + type * 2 ^ 24 + (nw - 1) * 2 ^ 20 + status * 2 ^ 8 + tag) ++ beBytes 4 addr ++
    ws.flatMap (fun w => beBytes 4 w.toNat)

/-- The first request not yet sent, as it leaves, with the requests before and behind it. -/
def relayNext : List RelayReq → Option (List RelayReq × RelayReq × List RelayReq)
  | [] => none
  | r :: rs =>
    if r.sent || r.ended then (relayNext rs).map (fun x => (r :: x.1, x.2)) else some ([], r, rs)

/-- One request is sent (R625): while ETYPE is 0 or no port is UP no frame leaves, and the request times out. An index that
is no longer valid ends it with cause 4. -/
def State.relaySend (s : State) (before : List RelayReq) (r : RelayReq) (rest : List RelayReq) : State :=
  if s.relayValid r.dev then
    let tag := s.host.nextTag
    let r' : RelayReq := { r with tag := tag, sent := true }
    let s1 : State := { s with host := { s.host with
      relay := before ++ r' :: rest, nextTag := (tag + 1) % 2 ^ 8 } }
    match s.relayPort r.dev with
    | some p =>
      if s.fld Reg.HOST_RELAY_CFG Fld.HOST_RELAY_CFG_ETYPE = 0 then s1
      else s1.sendRelay p (s.relayAddr r.dev)
        (relayHeader (if r.write then 2 else 1) r.nw 0 tag r.addr (if r.write then r.data else []))
    | none => s1
  else { s with host := { s.host with relay := before ++ { r with ended := true, fail := 4 } :: rest } }

/-- Requests leave in the order of arrival, at most 8 outstanding (R625). -/
def State.relayPump (s : State) : Nat → State
  | 0 => s
  | n + 1 =>
    if 8 ≤ (s.host.relay.filter (fun r => r.sent && !r.ended)).length then s
    else
      match relayNext s.host.relay with
      | none => s
      | some (before, r, rest) => (s.relaySend before r rest).relayPump n

/-- The parts of a request of nw words, at most 16 words each (R626). -/
def relayParts (group dev : Nat) (write lost : Bool) : Nat → Nat → List Word → Nat → List RelayReq
  | 0, _, _, _ => []
  | fuel + 1, a, data, nw =>
    if nw = 0 then []
    else
      let n := min 16 nw
      ⟨0, group, dev, a, n, write, data.take n, false, false, [], 0, lost⟩ ::
        relayParts group dev write lost fuel (a + 4 * n) (data.drop n) (nw - n)

/-- Whether a write of an earlier request to an index of request g is still without its answer; requests stand in the order of
arrival (R622). -/
def State.relayBehind (s : State) (g : Nat) : Bool :=
  (s.host.relay.filter (fun r => r.group == g)).any (fun r =>
    s.host.relay.any (fun w => w.write && !w.ended && w.dev == r.dev && decide (w.group < g)))

/-- The answer of a host request all of whose parts have ended (R626, R628, R630); a read waits for every earlier write to its
index (R622). The data of a read that the host has given up goes nowhere (R618). -/
def State.relayFinish (s : State) (g : Nat) : State :=
  let parts := s.host.relay.filter (fun r => r.group == g)
  if parts.isEmpty ∨ parts.any (fun r => !r.ended) ∨ (parts.any (fun r => !r.write) ∧ s.relayBehind g) then s
  else
    let s1 : State := { s with host := { s.host with relay := s.host.relay.filter (fun r => r.group != g) } }
    let nw := parts.foldl (fun n r => n + r.nw) 0
    match parts.find? (fun r => r.fail != 0) with
    | some r =>
      let s2 := s1.hostErr r.fail r.dev r.write r.addr
      if r.lost then s2.hostAnswer s.host.data s.host.cause
      else s2.hostAnswer (if r.write then [] else onesWords nw) r.fail
    | none => if parts.any (fun r => r.lost) then s1 else s1.hostAnswer (parts.flatMap (·.got)) 0

/-- Every group that has ended is answered, in order. -/
def State.relayFinishAll (s : State) : State :=
  ((s.host.relay.map (·.group)).eraseDups).foldl (fun s g => s.relayFinish g) s

/-- The relay goes on after a change: requests leave and what has ended is answered. -/
def State.relayGo (s : State) : State := (s.relayPump (s.host.relay.length + 1)).relayFinishAll

/-- The words that a relay frame carries for a write: it has no byte enables, and what it carries in a byte that is not enabled
is not stated: free (log entry 1). -/
def State.relayWords (s : State) (data : List Word) (be : List (BitVec 4)) : List Word × State :=
  if be.all (· == 0xF#4) then (data, s)
  else
    (wordsOf data.length (mergeBytes be (leBytes (4 * data.length) s.takeFree.1) (data.flatMap wordBytes)), s.takeFree.2)

/-- Whether a write to an index is still without its answer. -/
def State.relayWriteOut (s : State) (d : Nat) : Bool := s.host.relay.any (fun w => w.write && !w.ended && w.dev == d)

/-- A host request that is refused for another device, with its cause: the answer of a read waits for every earlier write to its
index (R622). -/
def State.relayRefuse (s : State) (d a nw c : Nat) (write lost : Bool) : State :=
  if !write && s.relayWriteOut d then
    let g := s.host.nextGroup
    { s with host := { s.host with
      relay := s.host.relay ++ [⟨0, g, d, a, nw, false, [], false, true, [], c, lost⟩], nextGroup := g + 1 } }
  else if lost then (s.hostErr c d write a).hostAnswer s.host.data s.host.cause
  else (s.hostErr c d write a).hostAnswer (if write then [] else onesWords nw) c

/-- A host request for another device (R621, R625, R626); its local address lies in the same map as here (R637). `lost` says
that the host has given its answer up. -/
def State.relayRequest (s : State) (d a nw : Nat) (write lost : Bool) (data : List Word) (be : List (BitVec 4)) : State :=
  if !s.relayValid d then s.relayRefuse d a nw 4 write lost
  else if !accessOk a nw be s.quadSpi then s.relayRefuse d a nw 3 write lost
  else
    let w := s.relayWords data be
    let g := w.2.host.nextGroup
    { w.2 with host := { w.2.host with
      relay := w.2.host.relay ++ relayParts g d write lost 4 a w.1 nw, nextGroup := g + 1 } }.relayGo

/-- An outstanding request with a TAG ends (R626, R628). -/
def State.relayEnd (s : State) (tag fail : Nat) (got : List Word) : State :=
  { s with host := { s.host with relay := s.host.relay.map (fun (r : RelayReq) =>
    if r.sent && !r.ended && r.tag == tag then { r with ended := true, fail := fail, got := got } else r) } }.relayGo

/-- The outstanding request with a TAG. -/
def State.relayOf (s : State) (tag : Nat) : Option RelayReq :=
  s.host.relay.find? (fun r => r.sent && !r.ended && r.tag == tag)

/-- RELAY_TIMEOUT of an access. -/
def State.relayTimeout (s : State) (tag : Nat) : State :=
  match s.relayOf tag with
  | some r => (s.raiseN 23 r.dev).relayEnd tag 5 []
  | none => s

/-! ### Relay frames received (R624) -/

/-- Word i after the EtherType of a relay frame. -/
def relayWord (bs : List Byte) (i : Nat) : Nat := beNat (slice bs (14 + 4 * i) 4)

/-- The TYPE of a frame of VER 1, else 0. -/
def relayType (bs : List Byte) : Nat := if relayWord bs 0 / 2 ^ 28 = 1 then relayWord bs 0 / 2 ^ 24 % 16 else 0

/-- The number of words of a relay frame. -/
def relayNw (bs : List Byte) : Nat := relayWord bs 0 / 2 ^ 20 % 16 + 1

/-- The words that a frame carries. -/
def relayData (bs : List Byte) (n : Nat) : List Word := (List.range n).map (fun i => BitVec.ofNat 32 (relayWord bs (2 + i)))

/-- The first frame of some TYPEs, and the frames without it and without those of a VER or TYPE that is not assigned. -/
def takeFrame (types : List Nat) : List (Nat × List Byte) → Option (Nat × List Byte) × List (Nat × List Byte)
  | [] => (none, [])
  | f :: fs =>
    let t := relayType f.2
    if t = 0 ∨ 5 < t then takeFrame types fs
    else if types.contains t then (some f, fs)
    else
      let r := takeFrame types fs
      (r.1, f :: r.2)

/-- The inbox after a frame has been taken. -/
def State.setInbox (s : State) (l : List (Nat × List Byte)) : State := { s with host := { s.host with inbox := l } }

/-- RELAY_RESPONSE_RECEIVE: a response whose TAG matches no outstanding request is discarded (R628). -/
def State.relayResponse (s : State) : State :=
  let r := takeFrame [3, 4] s.host.inbox
  let s1 := s.setInbox r.2
  match r.1 with
  | none => s1
  | some f =>
    let w := relayWord f.2 0
    match s1.relayOf (w % 2 ^ 8) with
    | none => s1
    | some q =>
      if w / 2 ^ 8 % 2 ^ 8 = 0 then s1.relayEnd q.tag 0 (if q.write then [] else relayData f.2 q.nw)
      else s1.relayEnd q.tag 6 []

/-- RELAY_REQUEST_RECEIVE (R627): served as an access of the host, word by word; the local host's last answer stays. -/
def State.relayServe (s : State) : State :=
  let r := takeFrame [1, 2] s.host.inbox
  let s1 := s.setInbox r.2
  match r.1 with
  | none => s1
  | some (p, bs) =>
    if s.bit Reg.HOST_RELAY_CFG Fld.HOST_RELAY_CFG_ACCEPT ∧ slice bs 6 6 = s.relayMaster then
      let a := relayWord bs 1
      let n := relayNw bs
      let read := relayType bs == 1
      let res : (List Word ⊕ Nat) × State :=
        if read then s1.hostServeRead a n [] true
        else
          let x := s1.hostServeWrite a (relayData bs n) [] true
          (match x.1 with | some c => .inr c | none => .inl [], x.2)
      let s2 := match res.1 with | .inl _ => res.2 | .inr c => res.2.hostErr c 0 (!read) a
      let s3 := s2.hostAnswer s.host.data s.host.cause
      let head (st : Nat) (ws : List Word) : List Byte :=
        relayHeader (if read then 3 else 4) n st (relayWord bs 0 % 2 ^ 8) a ws
      match res.1 with
      | .inl ws => s3.sendRelay p (slice bs 6 6) (head 0 ws)
      | .inr _ => s3.sendRelay p (slice bs 6 6) (head 1 (if read then onesWords n else []))
    else s1

/-! ### Summaries (R629) -/

/-- The index of the device with an address. -/
def State.relayIndex (s : State) (addr : List Byte) : Option Nat :=
  ((List.range 64).drop 1).find? (fun d =>
    s.bit (Reg.HOST_RELAY_DEV_HI d) Fld.HOST_RELAY_DEV_HI_VALID && s.relayAddr d == addr)

/-- A bit of a 64-bit wide register. -/
def State.setBit64 (s : State) (a i : Nat) (b : Bool) : State :=
  let v := s.reg64 a
  let rest := v - bitOf (v.testBit i) * 2 ^ i
  s.setReg64 a (rest + bitOf b * 2 ^ i)

/-- RELAY_SUMMARY_RECEIVE. -/
def State.summaryReceive (s : State) : State :=
  let r := takeFrame [5] s.host.inbox
  let s1 := s.setInbox r.2
  match r.1 with
  | none => s1
  | some f =>
    match s1.relayIndex (slice f.2 6 6) with
    | none => s1
    | some d =>
      ((s1.setBit64 Reg.GLOBAL_REMOTE_SUMMARY d (relayWord f.2 2 % 2 ^ 12 != 0)).setBit64
        Reg.HOST_RELAY_LOST d false).syncSummary

/-- RELAY_SUMMARY_LOST. -/
def State.summaryLost (s : State) (d : Nat) : State :=
  if d ≠ 0 ∧ s.bit (Reg.HOST_RELAY_DEV_HI d) Fld.HOST_RELAY_DEV_HI_VALID then
    ((s.setBit64 Reg.GLOBAL_REMOTE_SUMMARY d true).setBit64 Reg.HOST_RELAY_LOST d true).raiseN 23 (d + 2 ^ 8)
  else s

/-! ### The host's commands -/

/-- The device index of a management address (R12). -/
def mgmtDev (addr : BitVec 40) : Nat := addr.toNat / 2 ^ 34

/-- The local address of a management address (R12). -/
def mgmtLocal (addr : BitVec 40) : Nat := addr.toNat % 2 ^ 32

/-- Whether bits [33:32] of a management address are zero (R630). -/
def mgmtOk (addr : BitVec 40) : Bool := addr.toNat / 2 ^ 32 % 4 == 0

/-- A read at a device index and a local address, while the device runs. -/
def State.hostReadAt (s : State) (d a nw : Nat) (be : List (BitVec 4)) (lost : Bool) : State :=
  if d = 0 then s.hostReadHere a nw be else s.relayRequest d a nw false lost [] be

/-- A write at a device index and a local address, while the device runs. -/
def State.hostWriteAt (s : State) (d a : Nat) (data : List Word) (be : List (BitVec 4)) : State :=
  if d = 0 then s.hostWriteHere a data be else s.relayRequest d a data.length true false data be

/-! ### Configuration space (R615, R616) -/

/-- The place of a register of configuration space. -/
def cfgKey (r : HostCfg) : Nat :=
  match r with
  | .bar n => n.val
  | .msiControl => 6
  | .msiAddrLo => 7
  | .msiAddrHi => 8
  | .msiData => 9

/-- The bits of a register of configuration space that a write takes: the base bits of a 64-bit BAR of 64 MiB and one of 4 MiB,
none of the other BARs, the enable of MSI, its 64-bit address and its data. Their places are those of the PCI standards
(PRESUMED, log entry 109). -/
def cfgMask (r : HostCfg) : Word :=
  match cfgKey r with
  | 0 => 0xFC000000#32
  | 1 => 0xFFFFFFFF#32
  | 2 => 0xFFC00000#32
  | 3 => 0xFFFFFFFF#32
  | 6 => 0x00000001#32
  | 7 => 0xFFFFFFFC#32
  | 8 => 0xFFFFFFFF#32
  | 9 => 0x0000FFFF#32
  | _ => 0#32

/-- The fixed bits of a register of configuration space: a 64-bit non-prefetchable BAR, and an MSI capability with one vector
and 64-bit addresses. -/
def cfgFixed (r : HostCfg) : Word :=
  match cfgKey r with
  | 0 => 4#32
  | 2 => 4#32
  | 6 => 0x80#32
  | _ => 0#32

/-- A read of configuration space. -/
def State.cfgRead (s : State) (r : HostCfg) : Word := (SMap.find 0 s.host.cfg (cfgKey r) &&& cfgMask r) ||| cfgFixed r

/-- A write of configuration space. -/
def State.cfgWrite (s : State) (r : HostCfg) (w : Word) : State :=
  { s with host := { s.host with cfg := SMap.set 0 s.host.cfg (cfgKey r) (w &&& cfgMask r) } }

/-! ### The accesses of the two links (R615, R617, R619, R620) -/

/-- The words of a quad-SPI opcode of a kind (0x4 READ, 0x8 WRITE); other opcodes are ignored (R617). -/
def qspiWords (kind : Nat) (op : BitVec 8) : Option Nat := if op.toNat / 2 ^ 4 = kind then some (op.toNat % 2 ^ 4 + 1) else none

/-- A quad-SPI read of n words; `lost` says that HQ_CS_N has risen before its data (R617, R618, R630, R631). -/
def State.qspiRead (s : State) (addr : BitVec 40) (n : Nat) (lost : Bool) : State :=
  match s.power with
  | .reset => s
  | .running =>
    if !mgmtOk addr then (s.hostErr 3 (mgmtDev addr) false (mgmtLocal addr)).hostAnswer (onesWords n) 3
    else s.hostReadAt (mgmtDev addr) (mgmtLocal addr) n [] lost
  | _ => s.hostReadAsleep addr.toNat n

/-- A quad-SPI write. -/
def State.qspiWrite (s : State) (addr : BitVec 40) (data : List Word) : State :=
  match s.power with
  | .reset => s
  | .running =>
    if !mgmtOk addr then (s.hostErr 3 (mgmtDev addr) true (mgmtLocal addr)).hostAnswer [] 3
    else s.hostWriteAt (mgmtDev addr) (mgmtLocal addr) data []
  | _ => s.hostWriteAsleep

/-- A read of the host (R12, R26, R615-R622, R630): over the link in use, while it is up. -/
def State.hostRead (s : State) (via : HostPath) (nw : Nat) (be : List (BitVec 4)) : State :=
  match via with
  | .bar0 o => if s.linkUp then s.hostReadAt 0 (s.bar0 o.toNat) nw be false else s
  | .bar2 o => if s.linkUp then s.hostReadAt (s.bar2 o.toNat / 2 ^ 34) (s.bar2 o.toNat % 2 ^ 32) nw be false else s
  | .cfg r => if s.linkUp then s.hostAnswer [s.cfgRead r] 0 else s
  | .qspi op addr =>
    match qspiWords 4 op with
    | some n => if s.quadSpi then s.qspiRead addr n false else s
    | none => s

/-- A write of the host: a quad-SPI WRITE that has not delivered its N words writes nothing (R618). -/
def State.hostWrite (s : State) (via : HostPath) (data : List Word) (be : List (BitVec 4)) : State :=
  match via with
  | .bar0 o => if s.linkUp then s.hostWriteAt 0 (s.bar0 o.toNat) data be else s
  | .bar2 o => if s.linkUp then s.hostWriteAt (s.bar2 o.toNat / 2 ^ 34) (s.bar2 o.toNat % 2 ^ 32) data be else s
  | .cfg r => if s.linkUp then (s.cfgWrite r (data.headD 0)).hostAnswer [] 0 else s
  | .qspi op addr =>
    match qspiWords 8 op with
    | some n => if s.quadSpi ∧ n ≤ data.length then s.qspiWrite addr (data.take n) else s
    | none => s

/-- HQ_CS_N rises early (R618): a write leaves nothing, the reads that were issued happen and their data is lost. -/
def State.qspiCsRise (s : State) (addr : BitVec 40) (write : Bool) (issued : Nat) : State :=
  if write || !s.quadSpi || issued == 0 then s
  else (s.qspiRead addr issued true).hostAnswer s.host.data s.host.cause

/-! ### Processors and the host link (R631, R633) -/

/-- CPA_WDOG and CPB_WDOG: TIMEOUT_MS, 0 taken as 1, has passed since the last restart of the count, and the count starts
anew. When the fault leaves CLEAR within 2 s of an activation, the reset that it orders goes back to the image before it
(R606). -/
def State.cpWdog (s : State) (p : Nat) : State :=
  let a := Reg.HOST_CP_WDOG p
  let ms := s.fld a Fld.HOST_CP_WDOG_TIMEOUT_MS
  if s.bit a Fld.HOST_CP_WDOG_EN && !s.boot.cpReset.getLsbD p &&
      decide (SMap.find 0 s.host.wdogAt p + max 1 ms * 800000 ≤ s.time.ticks) then
    ((s.noteRaise (4 + p)).wdogRestart p).raiseN (4 + p) ms
  else s

/-- CPA_TRAP and CPB_TRAP: word 3 carries the code and bits [31:8] of the faulting address. -/
def State.cpTrap (s : State) (p : Nat) (code : BitVec 8) (addr : Word) : State :=
  if s.boot.cpReset.getLsbD p then s else s.raiseN (6 + p) (code.toNat + addr.toNat / 2 ^ 8 * 2 ^ 8)

/-- The PCI Express link leaves L0. -/
def State.hostLinkDown (s : State) (cause : BitVec 3) : State :=
  s.linkDrop cause.toNat

/-- The PCI Express link enters L0, at a rate and a width; the host lane PLL that it runs on is then locked
(R84; log entry 115). -/
def State.hostLinkUp (s : State) (speed : BitVec 3) (width : BitVec 2) : State :=
  if s.power = .running ∧ !s.quadSpi then
    (((s.setBit Reg.HOST_STATUS Fld.HOST_STATUS_LINK true).setFld Reg.HOST_STATUS Fld.HOST_STATUS_SPEED speed.toNat).setFld
      Reg.HOST_STATUS Fld.HOST_STATUS_WIDTH width.toNat).setBit Reg.SYNTH_SYS_STATUS Fld.SYNTH_SYS_STATUS_HPLL_LOCK true
  else s

/-! ### The commands -/

/-- The command HOST_READ. -/
def execHostRead (via : HostPath) (nw : Nat) (be : List (BitVec 4)) (s : State) : Host.Outcome State Fault Refusal :=
  .next (s.hostRead via nw be)

/-- The command HOST_WRITE. -/
def execHostWrite (via : HostPath) (data : List Word) (be : List (BitVec 4)) (s : State) : Host.Outcome State Fault Refusal :=
  .next (s.hostWrite via data be)

/-- The command QSPI_CS_RISE. -/
def execQspiCsRise (addr : BitVec 40) (write : Bool) (issued : Nat) (s : State) : Host.Outcome State Fault Refusal :=
  .next (s.qspiCsRise addr write issued)

/-- The command RELAY_REQUEST_RECEIVE. -/
def execRelayRequestReceive (s : State) : Host.Outcome State Fault Refusal := .next s.relayServe

/-- The command RELAY_RESPONSE_RECEIVE. -/
def execRelayResponseReceive (s : State) : Host.Outcome State Fault Refusal := .next s.relayResponse

/-- The command RELAY_TIMEOUT. -/
def execRelayTimeout (tag : BitVec 8) (s : State) : Host.Outcome State Fault Refusal := .next (s.relayTimeout tag.toNat)

/-- The command RELAY_SUMMARY_PERIODIC. -/
def execRelaySummaryPeriodic (s : State) : Host.Outcome State Fault Refusal :=
  if s.bit Reg.HOST_RELAY_CFG Fld.HOST_RELAY_CFG_ACCEPT then .next (s.sendSummary (s.regN Reg.GLOBAL_SUMMARY)) else .next s

/-- The command RELAY_SUMMARY_RECEIVE. -/
def execRelaySummaryReceive (s : State) : Host.Outcome State Fault Refusal := .next s.summaryReceive

/-- The command RELAY_SUMMARY_LOST. -/
def execRelaySummaryLost (d : Fin 64) (s : State) : Host.Outcome State Fault Refusal := .next (s.summaryLost d.val)

/-- The command CPA_WDOG. Its operand says whether an activation lies within 2 s; the ticks since it say so too, and they decide
(R606; log entry 128). -/
def execCpaWdog (p : Fin 2) (_recent : Bool) (s : State) : Host.Outcome State Fault Refusal := .next (s.cpWdog p.val)

/-- The command CPA_TRAP. -/
def execCpaTrap (p : Fin 2) (code : BitVec 8) (addr : Word) (s : State) : Host.Outcome State Fault Refusal :=
  .next (s.cpTrap p.val code addr)

/-- The command HOST_LINK_DOWN. -/
def execHostLinkDown (cause : BitVec 3) (s : State) : Host.Outcome State Fault Refusal := .next (s.hostLinkDown cause)

/-- The command HOST_LINK_UP. -/
def execHostLinkUp (speed : BitVec 3) (width : BitVec 2) (s : State) : Host.Outcome State Fault Refusal :=
  .next (s.hostLinkUp speed width)

end Sys2Proof.Machine
end

