-- ==== Sys2Proof/Machine/Folio.lean ====
section
/-! DEFINITION. The instants of a folio at which several units act: its boundary, its release, and the start and the stop of
audio (R40, R55, R56, R167). -/

namespace Sys2Proof.Machine

/-! ### FOLIO_BOUNDARY -/

/-- EDGE_COMPARE and PLL_STEER_UPDATE of PLL x (R51-R53): an error beyond 20 ns is a slip, which re-aligns the converters. -/
def State.edgeCompare (s : State) (x : Nat) (err : Word) : State :=
  let s1 := s.steerFolio x err.toInt
  if s.steers x ∧ 20 * 256 < err.toInt.natAbs then (s1.raise (82 + x) err).resync x 1 else s1

/-- The active's record of channel n for folio m, where it has come (R249, R467). -/
def State.activeTrack (s : State) (n m : Nat) : Option Track :=
  (s.redun.tracks.find? (fun e => e.1 == n && e.2.folio == m)).map (·.2)

/-- The active's record of folio m among a channel's own: in place of its own one, or added where it has none. What port sample
its POS belongs to is the channel's own: that of its own record, else of its newest block. -/
def SrcCh.take (c : SrcCh) (m : Nat) (t : Track) : SrcCh :=
  if c.tracks.any (fun own => own.folio == m) then
    { c with tracks := c.tracks.map (fun own => if own.folio = m then { t with index := own.index } else own) }
  else { c with tracks := c.tracks ++ [{ t with index := (c.blocks.getLast?.map (·.1)).getD 0 }] }

/-- On a standby, channel n takes the active's record for folio m at E(8m); where it has not arrived, SRC_TRACK_MISS is raised
(R245, R249). -/
def State.trackTake (s : State) (m n : Nat) : State :=
  let c := s.srcCh n
  match s.activeTrack n m with
  | some t => s.setSrcCh n (c.take m t)
  | none => s.raiseN 236 n

/-- The channels that follow their input: in ACQUIRE or LOCKED (R244). -/
def State.tracking (s : State) : List Nat := (List.range 64).filter (fun n => s.srcState n == 1 || s.srcState n == 2)

/-- The track records at the boundary of folio k (R244, R249, R468). -/
def State.trackBoundary (s : State) (k : Nat) : State :=
  let s1 := if s.pair ∧ s.role = 0x40 then s.tracking.foldl (fun s n => s.trackTake k n) s else s
  s1.tracking.foldl (fun s n => (s.srcRecord n (k + 1)).feltTrackSend n (k + 1)) s1

/-- FOLIO_BOUNDARY: PT has reached E(8k) and folio k is the current one. The operands are the edge errors of the two PLLs
in 2^-8 ns, as the comparison measures them. -/
def State.folioBoundary (s : State) (k : Nat) (errA errB : Word) : State :=
  if s.folio = k then
    ((((((s.edgeCompare 0 errA).edgeCompare 1 errB).trackBoundary k).redunBoundary k).aoutBoundary).ainBoundary k).syncForce
  else s

/-- The command FOLIO_BOUNDARY. -/
def execFolioBoundary (k : Nat) (errA errB : Word) (s : State) : Host.Outcome State Fault Refusal :=
  .next (s.folioBoundary k errA errB)

/-! ### FOLIO_RELEASE -/

/-- What the sinks, PACK, REDUN and CLAUSE do at release(k), between SEQ's closing of the folio and its creation of new ones
(R236, R243, R280, R376, R468, R469). -/
def State.releaseOthers (s : State) (k : Nat) : State :=
  ((((((s.readSinks k).classdPower.srcFeedOut k).syncRoute k).packEnqueue k).feltSheetSend k).sheetLoss k).syncForce.mirrorStarts

/-- FOLIO_RELEASE: folio k is the first unreleased one and PT has reached release(k). -/
def State.folioRelease (s : State) (k : Nat) : State :=
  if s.releases k then ((s.seqRelease k).releaseOthers k).seqGoOn k else s

/-- The command FOLIO_RELEASE. -/
def execFolioRelease (k : Nat) (s : State) : Host.Outcome State Fault Refusal := .next (s.folioRelease k)

/-! ### Audio -/

/-- The command AUDIO_START (R55, R199, R598): at the boundary of folio k, after both conditions have held for `held` ms; the
first one after boot completes it. An armed sequencer starts here. -/
def execAudioStart (k held ms : Nat) (s : State) : Host.Outcome State Fault Refusal :=
  if s.audioStarts k held then
    let s1 := (s.audioStart k).bootDone ms
    .next (if s1.seqState = 1 then { s1 with seq := { s1.seq with startArmed := some k } } else s1)
  else .next s

/-- The command AUDIO_STOP (R56, R199): an active sequencer stops with it. -/
def execAudioStop (s : State) : Host.Outcome State Fault Refusal :=
  if s.audio && s.time.stopAsked then .next s.audioStop.seqStop else .next s

end Sys2Proof.Machine
end

