-- ==== Sys2Proof/Machine/Dispatch.lean ====
section
/-! DEFINITION. The effect of each command on everything but the queue: one arm per constructor. -/

namespace Sys2Proof.Machine

def exec (i : Instr) (s : State) : Host.Outcome State Fault Refusal :=
  match i with
  | .resetNRise straps mode pwrgood => Sys2Proof.Machine.execResetNRise straps mode s pwrgood
  | .registerWrite m addr data => Sys2Proof.Machine.execRegisterWrite m addr data s
  | .wideReadWord0 m addr => Sys2Proof.Machine.execWideReadWord0 m addr s
  | .wideReadHigh m addr => Sys2Proof.Machine.execWideReadHigh m addr s
  | .wideWriteHigh m addr data => Sys2Proof.Machine.execWideWriteHigh m addr data s
  | .wideWriteWord0 m addr data => Sys2Proof.Machine.execWideWriteWord0 m addr data s
  | .timeIncrNomWrite m data => Sys2Proof.Machine.execTimeIncrNomWrite m data s
  | .step withSet => Sys2Proof.Machine.execStep withSet s
  | .set withStep => Sys2Proof.Machine.execSet withStep s
  | .timeCtrlWrite data => Sys2Proof.Machine.execTimeCtrlWrite data s
  | .servoCtrlWrite data => Sys2Proof.Machine.execServoCtrlWrite data s
  | .servoOffsetSample m data => Sys2Proof.Machine.execServoOffsetSample m data s
  | .folioBoundary k errA errB => Sys2Proof.Machine.execFolioBoundary k errA errB s
  | .audioStart k held ms => Sys2Proof.Machine.execAudioStart k held ms s
  | .pulseArm n data => Sys2Proof.Machine.execPulseArm n data s
  | .pulseStop n data => Sys2Proof.Machine.execPulseStop n data s
  | .pulseEdge n => Sys2Proof.Machine.execPulseEdge n s
  | .pulseWidthEnd n => Sys2Proof.Machine.execPulseWidthEnd n s
  | .captureEdge n rising => Sys2Proof.Machine.execCaptureEdge n rising s
  | .synthSerdesCtrlWrite data => Sys2Proof.Machine.execSynthSerdesCtrlWrite data s
  | .spllLock p => Sys2Proof.Machine.execSpllLock p s
  | .spllUnlock p => Sys2Proof.Machine.execSpllUnlock p s
  | .synthCtrlWrite x data => Sys2Proof.Machine.execSynthCtrlWrite x data s
  | .update x => Sys2Proof.Machine.execUpdate x s
  | .synthSched x => Sys2Proof.Machine.execSynthSched x s
  | .synthCancel x => Sys2Proof.Machine.execSynthCancel x s
  | .synthScheduledUpdate x => Sys2Proof.Machine.execSynthScheduledUpdate x s
  | .synthLock x v => Sys2Proof.Machine.execSynthLock x v s
  | .synthUnlock x v => Sys2Proof.Machine.execSynthUnlock x v s
  | .synthFastLoss x v => Sys2Proof.Machine.execSynthFastLoss x v s
  | .synthFilterErr x v => Sys2Proof.Machine.execSynthFilterErr x v s
  | .peEnableWrite e data => Sys2Proof.Machine.execPeEnableWrite e data s
  | .peAbort e withFault => Sys2Proof.Machine.execPeAbort e s withFault
  | .clearFault e => Sys2Proof.Machine.execClearFault e s
  | .peMemoryWrite m addr be data => Sys2Proof.Machine.execPeMemoryWrite m addr be data s
  | .taskDispatch sameCycle => Sys2Proof.Machine.execTaskDispatch sameCycle s
  | .mpy e f => Sys2Proof.Machine.execMpy e f s
  | .mac e f => Sys2Proof.Machine.execMac e f s
  | .msu e f => Sys2Proof.Machine.execMsu e f s
  | .add e f => Sys2Proof.Machine.execAdd e f s
  | .sub e f => Sys2Proof.Machine.execSub e f s
  | .adds e f => Sys2Proof.Machine.execAdds e f s
  | .subs e f => Sys2Proof.Machine.execSubs e f s
  | .negs e f => Sys2Proof.Machine.execNegs e f s
  | .abss e f => Sys2Proof.Machine.execAbss e f s
  | .min e f => Sys2Proof.Machine.execMin e f s
  | .max e f => Sys2Proof.Machine.execMax e f s
  | .and e f => Sys2Proof.Machine.execAnd e f s
  | .or e f => Sys2Proof.Machine.execOr e f s
  | .xor e f => Sys2Proof.Machine.execXor e f s
  | .not e f => Sys2Proof.Machine.execNot e f s
  | .shl e f regCount => Sys2Proof.Machine.execShl e f regCount s
  | .shls e f regCount => Sys2Proof.Machine.execShls e f regCount s
  | .shr e f regCount => Sys2Proof.Machine.execShr e f regCount s
  | .shrl e f regCount => Sys2Proof.Machine.execShrl e f regCount s
  | .cmpeq e f => Sys2Proof.Machine.execCmpeq e f s
  | .cmplt e f => Sys2Proof.Machine.execCmplt e f s
  | .cmple e f => Sys2Proof.Machine.execCmple e f s
  | .sel e f => Sys2Proof.Machine.execSel e f s
  | .clr e f => Sys2Proof.Machine.execClr e f s
  | .lda e f => Sys2Proof.Machine.execLda e f s
  | .adda e f => Sys2Proof.Machine.execAdda e f s
  | .suba e f => Sys2Proof.Machine.execSuba e f s
  | .mova e f => Sys2Proof.Machine.execMova e f s
  | .nega e f => Sys2Proof.Machine.execNega e f s
  | .shla e f => Sys2Proof.Machine.execShla e f s
  | .shra e f => Sys2Proof.Machine.execShra e f s
  | .rdl e f => Sys2Proof.Machine.execRdl e f s
  | .rdm e f => Sys2Proof.Machine.execRdm e f s
  | .rdh e f => Sys2Proof.Machine.execRdh e f s
  | .wrl e f => Sys2Proof.Machine.execWrl e f s
  | .wrm e f => Sys2Proof.Machine.execWrm e f s
  | .wrh e f => Sys2Proof.Machine.execWrh e f s
  | .sts e f => Sys2Proof.Machine.execSts e f s
  | .acsMax e f => Sys2Proof.Machine.execAcsMax e f s
  | .acsMin e f => Sys2Proof.Machine.execAcsMin e f s
  | .move e f => Sys2Proof.Machine.execMove e f s
  | .moveNop e f => Sys2Proof.Machine.execMoveNop e f s
  | .ldi e f => Sys2Proof.Machine.execLdi e f s
  | .nop e f => Sys2Proof.Machine.execNop e f s
  | .br e f => Sys2Proof.Machine.execBr e f s
  | .brc e f => Sys2Proof.Machine.execBrc e f s
  | .rep e f => Sys2Proof.Machine.execRep e f s
  | .repv e f => Sys2Proof.Machine.execRepv e f s
  | .wait e f => Sys2Proof.Machine.execWait e f s
  | .endTask e f => Sys2Proof.Machine.execEndTask e f s
  | .trap e f => Sys2Proof.Machine.execTrap e f s
  | .getx e f => Sys2Proof.Machine.execGetx e f s
  | .gety e f => Sys2Proof.Machine.execGety e f s
  | .putx e f => Sys2Proof.Machine.execPutx e f s
  | .puty e f => Sys2Proof.Machine.execPuty e f s
  | .xferRetire e tag err => Sys2Proof.Machine.execXferRetire e tag err s
  | .taskComplete e withAbort withFault => Sys2Proof.Machine.execTaskComplete e s withAbort withFault
  | .peOverrun e => Sys2Proof.Machine.execPeOverrun e s
  | .peDrainDone e => Sys2Proof.Machine.execPeDrainDone e s
  | .peFaultRelease e => Sys2Proof.Machine.execPeFaultRelease e s
  | .seqEnableWrite data => Sys2Proof.Machine.execSeqEnableWrite data s
  | .seqStart k => Sys2Proof.Machine.execSeqStart k s
  | .folioRelease k => Sys2Proof.Machine.execFolioRelease k s
  | .feedSignal feed k => Sys2Proof.Machine.execFeedSignal feed k s
  | .deadline k => Sys2Proof.Machine.execDeadline k s
  | .seqCancel phrase slot => Sys2Proof.Machine.execSeqCancel phrase slot s
  | .tableEcc tag => Sys2Proof.Machine.execTableEcc tag s
  | .mixAbort phrase slot => Sys2Proof.Machine.execMixAbort phrase slot s
  | .srcCfgWrite n data => Sys2Proof.Machine.execSrcCfgWrite n data s
  | .srcNolock n => Sys2Proof.Machine.execSrcNolock n s
  | .srcGroupFeed g k => Sys2Proof.Machine.execSrcGroupFeed g k s
  | .clauseSubmit m slot => Sys2Proof.Machine.execClauseSubmit m slot s
  | .clauseAdmit slot => Sys2Proof.Machine.execClauseAdmit slot s
  | .clauseBankFree slot => Sys2Proof.Machine.execClauseBankFree slot s
  | .clauseFillDone slot => Sys2Proof.Machine.execClauseFillDone slot s
  | .clauseConfirm slot => Sys2Proof.Machine.execClauseConfirm slot s
  | .clauseAbort slot => Sys2Proof.Machine.execClauseAbort slot s
  | .clauseArmDeadline slot => Sys2Proof.Machine.execClauseArmDeadline slot s
  | .clauseFreeze slot => Sys2Proof.Machine.execClauseFreeze slot s
  | .clauseCommit slot => Sys2Proof.Machine.execClauseCommit slot s
  | .clauseUnwindDone slot => Sys2Proof.Machine.execClauseUnwindDone slot s
  | .clauseMirrorDone slot => Sys2Proof.Machine.execClauseMirrorDone slot s
  | .drainTimeout table => Sys2Proof.Machine.execDrainTimeout table s
  | .laneEnWrite n data => Sys2Proof.Machine.execLaneEnWrite n data s
  | .laneLoopWrite n data => Sys2Proof.Machine.execLaneLoopWrite n data s
  | .laneRetrain n => Sys2Proof.Machine.execLaneRetrain n s
  | .anComplete n => Sys2Proof.Machine.execAnComplete n s
  | .trainReady n precode => Sys2Proof.Machine.execTrainReady n precode s
  | .laneUp n => Sys2Proof.Machine.execLaneUp n s
  | .trainFail n => Sys2Proof.Machine.execTrainFail n s
  | .alignTimeout n skew => Sys2Proof.Machine.execAlignTimeout n skew s
  | .laneDown n cause => Sys2Proof.Machine.execLaneDown n cause s
  | .backoffExpiry n => Sys2Proof.Machine.execBackoffExpiry n s
  | .fecWindow n corr uncorr sym prbs signal => Sys2Proof.Machine.execFecWindow n corr uncorr sym s prbs signal
  | .fabPortmapWrite data => Sys2Proof.Machine.execFabPortmapWrite data s
  | .wakeSend data => Sys2Proof.Machine.execWakeSend data s
  | .wakeSent n => Sys2Proof.Machine.execWakeSent n s
  | .wakeDetect n => Sys2Proof.Machine.execWakeDetect n s
  | .frameReceive p f => Sys2Proof.Machine.execFrameReceive p f s
  | .pauseTimerExpiry p => Sys2Proof.Machine.execPauseTimerExpiry p s
  | .pauseSend p data => Sys2Proof.Machine.execPauseSend p data s
  | .frameTransmit p => Sys2Proof.Machine.execFrameTransmit p s
  | .rxWindowClose entry folio => Sys2Proof.Machine.execRxWindowClose entry folio s
  | .macAgingSweep index hit => Sys2Proof.Machine.execMacAgingSweep index hit s
  | .txStale p timed => Sys2Proof.Machine.execTxStale p timed s
  | .xbarGrant t => Sys2Proof.Machine.execXbarGrant t s
  | .xbarTransactionDone t linkErr => Sys2Proof.Machine.execXbarTransactionDone t linkErr s
  | .beStarve t => Sys2Proof.Machine.execBeStarve t s
  | .bwRestore c => Sys2Proof.Machine.execBwRestore c s
  | .dramEnWrite data => Sys2Proof.Machine.execDramEnWrite data s
  | .dramInitDone gbit0 gbit1 x16 => Sys2Proof.Machine.execDramInitDone gbit0 gbit1 x16 s
  | .dramTrainDone c pass => Sys2Proof.Machine.execDramTrainDone c pass s
  | .dramRefreshPoll c mult => Sys2Proof.Machine.execDramRefreshPoll c mult s
  | .quireCfgWrite q data => Sys2Proof.Machine.execQuireCfgWrite q data s
  | .quireBaseWrite q data => Sys2Proof.Machine.execQuireBaseWrite q data s
  | .quirePush q pushes withPop sw => Sys2Proof.Machine.execQuirePush q pushes withPop s sw
  | .quirePop q pops sw => Sys2Proof.Machine.execQuirePop q pops s sw
  | .quireSwPush n data => Sys2Proof.Machine.execQuireSwPush n data s
  | .quireSwPop n data => Sys2Proof.Machine.execQuireSwPop n data s
  | .epochAdopt drop => Sys2Proof.Machine.execEpochAdopt drop s
  | .reclaim withDrop => Sys2Proof.Machine.execReclaim withDrop s
  | .feltBlockReceive lane bytes => Sys2Proof.Machine.execFeltBlockReceive lane bytes s
  | .deckleArbitration p partner ack => Sys2Proof.Machine.execDeckleArbitration p partner ack s
  | .sapCtrlWrite p data => Sys2Proof.Machine.execSapCtrlWrite p data s
  | .sapFrame p f => Sys2Proof.Machine.execSapFrame p f s
  | .sapRxMiss p k => Sys2Proof.Machine.execSapRxMiss p k s
  | .sapLost p edge => Sys2Proof.Machine.execSapLost p edge s
  | .ainEnableWrite data => Sys2Proof.Machine.execAinEnableWrite data s
  | .ainBlock k samples overload => Sys2Proof.Machine.execAinBlock k samples overload s
  | .ainGainSwitch c => Sys2Proof.Machine.execAinGainSwitch c s
  | .ainPhantomMuteEnd c => Sys2Proof.Machine.execAinPhantomMuteEnd c s
  | .ainCalStepDone r => Sys2Proof.Machine.execAinCalStepDone r s
  | .loadClassEval taken0 taken1 => Sys2Proof.Machine.execLoadClassEval taken0 taken1 s
  | .aoutCfgWrite o data => Sys2Proof.Machine.execAoutCfgWrite o data s
  | .aoutBiasDone o => Sys2Proof.Machine.execAoutBiasDone o s
  | .aoutBiasDownDone o => Sys2Proof.Machine.execAoutBiasDownDone o s
  | .aoutOvercurrent spk => Sys2Proof.Machine.execAoutOvercurrent spk s
  | .aoutFaultRetry spk => Sys2Proof.Machine.execAoutFaultRetry spk s
  | .classdClockWindow missing dev => Sys2Proof.Machine.execClassdClockWindow missing dev s
  | .jackDeclare n unmute => Sys2Proof.Machine.execJackDeclare n unmute s
  | .pvddThreshold ev => Sys2Proof.Machine.execPvddThreshold ev s
  | .lampPeriodStart l j => Sys2Proof.Machine.execLampPeriodStart l j s
  | .lampOffEdge l => Sys2Proof.Machine.execLampOffEdge l s
  | .hadcUrgent input => Sys2Proof.Machine.execHadcUrgent input s
  | .hadcConversionDone pos raw => Sys2Proof.Machine.execHadcConversionDone pos raw s
  | .hadcSliceCalDone r => Sys2Proof.Machine.execHadcSliceCalDone r s
  | .evggForceWrite g data => Sys2Proof.Machine.execEvggForceWrite g data s
  | .evggCauseClear g data raised => Sys2Proof.Machine.execEvggCauseClear g data raised s
  | .tallyForceWrite w data raised => Sys2Proof.Machine.execTallyForceWrite w data s raised
  | .tallyStickyClear w data raised forced => Sys2Proof.Machine.execTallyStickyClear w data raised s forced
  | .graceExpiry n cleared => Sys2Proof.Machine.execGraceExpiry n cleared s
  | .bootStart ms => Sys2Proof.Machine.execBootStart ms s
  | .bootDiscoverDone r ms => Sys2Proof.Machine.execBootDiscoverDone r ms s
  | .bootSlotDone readErr ms => Sys2Proof.Machine.execBootSlotDone readErr ms s
  | .flashErase m => Sys2Proof.Machine.execFlashErase m s
  | .flashProgram m => Sys2Proof.Machine.execFlashProgram m s
  | .flashRead m => Sys2Proof.Machine.execFlashRead m s
  | .flashDone result => Sys2Proof.Machine.execFlashDone result s
  | .verifySlot m => Sys2Proof.Machine.execVerifySlot m s
  | .slotVerified readErr => Sys2Proof.Machine.execSlotVerified readErr s
  | .setPreferred m => Sys2Proof.Machine.execSetPreferred m s
  | .clearAttempts m => Sys2Proof.Machine.execClearAttempts m s
  | .keyProgram m => Sys2Proof.Machine.execKeyProgram m s
  | .keyRevoke m => Sys2Proof.Machine.execKeyRevoke m s
  | .reboot m => Sys2Proof.Machine.execReboot m s
  | .retry m ms => Sys2Proof.Machine.execRetry m ms s
  | .bootConfirm m => Sys2Proof.Machine.execBootConfirm m s
  | .sealStart n data m => Sys2Proof.Machine.execSealStart n data s m
  | .ledgerWrite m offset data => Sys2Proof.Machine.execLedgerWrite m offset data s
  | .hostRead via nw be => Sys2Proof.Machine.execHostRead via nw be s
  | .hostWrite via data be => Sys2Proof.Machine.execHostWrite via data be s
  | .qspiCsRise addr write issued => Sys2Proof.Machine.execQspiCsRise addr write issued s
  | .relayTimeout tag => Sys2Proof.Machine.execRelayTimeout tag s
  | .relaySummaryLost d => Sys2Proof.Machine.execRelaySummaryLost d s
  | .kick m p => Sys2Proof.Machine.execKick m p s
  | .cpaWdog p recent => Sys2Proof.Machine.execCpaWdog p recent s
  | .cpaTrap p code addr => Sys2Proof.Machine.execCpaTrap p code addr s
  | .hostLinkDown cause => Sys2Proof.Machine.execHostLinkDown cause s
  | .illegalInstruction e f => Sys2Proof.Machine.execIllegalInstruction e f s
  | .frameTransmitEnd p => Sys2Proof.Machine.execFrameTransmitEnd p s
  | .hostLinkUp speed width => Sys2Proof.Machine.execHostLinkUp speed width s
  | .jdPinChange n mv => Sys2Proof.Machine.execJdPinChange n mv s
  | .resetNFall ns => Sys2Proof.Machine.execResetNFall s ns
  | .pwrgoodFall => Sys2Proof.Machine.execPwrgoodFall s
  | .sysLock => Sys2Proof.Machine.execSysLock s
  | .syspllLockTimeout => Sys2Proof.Machine.execSyspllLockTimeout s
  | .syspllUnlock => Sys2Proof.Machine.execSyspllUnlock s
  | .memoryClearDone => Sys2Proof.Machine.execMemoryClearDone s
  | .servoReset => Sys2Proof.Machine.execServoReset s
  | .servoAdjApply => Sys2Proof.Machine.execServoAdjApply s
  | .servoHoldoverTimeout => Sys2Proof.Machine.execServoHoldoverTimeout s
  | .audioStop => Sys2Proof.Machine.execAudioStop s
  | .eventRecordPush => Sys2Proof.Machine.execEventRecordPush s
  | .mixTaskStart => Sys2Proof.Machine.execMixTaskStart s
  | .mixTaskComplete => Sys2Proof.Machine.execMixTaskComplete s
  | .dormantEnter => Sys2Proof.Machine.execDormantEnter s
  | .controlTxDescriptor => Sys2Proof.Machine.execControlTxDescriptor s
  | .dramRetrain => Sys2Proof.Machine.execDramRetrain s
  | .epochReceive => Sys2Proof.Machine.execEpochReceive s
  | .swapRefusedReceive => Sys2Proof.Machine.execSwapRefusedReceive s
  | .refLost => Sys2Proof.Machine.execRefLost s
  | .swap => Sys2Proof.Machine.execSwap s
  | .drop => Sys2Proof.Machine.execDrop s
  | .swapTimeout => Sys2Proof.Machine.execSwapTimeout s
  | .holdoffExpiry => Sys2Proof.Machine.execHoldoffExpiry s
  | .ainSync => Sys2Proof.Machine.execAinSync s
  | .ainCalStep => Sys2Proof.Machine.execAinCalStep s
  | .hadcSlot => Sys2Proof.Machine.execHadcSlot s
  | .hadcSliceSwap => Sys2Proof.Machine.execHadcSliceSwap s
  | .escalationAction => Sys2Proof.Machine.execEscalationAction s
  | .tallySilent => Sys2Proof.Machine.execTallySilent s
  | .holdEnd => Sys2Proof.Machine.execHoldEnd s
  | .deviceReset => Sys2Proof.Machine.execDeviceReset s
  | .sealJobDone => Sys2Proof.Machine.execSealJobDone s
  | .msiAck => Sys2Proof.Machine.execMsiAck s
  | .relayRequestReceive => Sys2Proof.Machine.execRelayRequestReceive s
  | .relayResponseReceive => Sys2Proof.Machine.execRelayResponseReceive s
  | .relaySummaryPeriodic => Sys2Proof.Machine.execRelaySummaryPeriodic s
  | .relaySummaryReceive => Sys2Proof.Machine.execRelaySummaryReceive s
  | .tuClkTick => Sys2Proof.Machine.execTuClkTick s

end Sys2Proof.Machine
end

