-- ==== Sys2Proof/Machine/Pins.lean ====
section
/-! DEFINITION. The levels of the balls (R498, R559, R652): at rest while the device is reset or held, and of those whose level
State tells while it runs. -/

namespace Sys2Proof.Machine

/-- The balls that R652 names. `dram` stands for the DRAM balls other than DCx_RESET_N, `transmit` for the FAB, FELT and HOST
transmit pairs. -/
inductive Ball where
  | transmit | dcReset (x : Fin 2) | dram | sdout (p : Fin 32) | hqD (i : Fin 4) | bootD (i : Fin 8) | bootCsN | bootClk
  | mclk (i : Fin 4) | timePulse (i : Fin 4) | irqN | out (o : Fin 14) | lamp (l : Fin 8)
  deriving DecidableEq, Repr

/-- What a ball shows: electrical idle, a driven level, nothing driven, nothing driven against an internal pull-up, a released
open drain, or a sink that is off or on. -/
inductive Level where
  | idle | low | high | highZ | pulledUp | released | sinkOff | sinkOn
  deriving DecidableEq, Repr

/-- The states of R652. DCx_RESET_N is so once VDDQ_DRAM_1V05 is within range. -/
def Ball.rest (b : Ball) : Level :=
  match b with
  | .transmit => .idle
  | .dcReset _ => .low
  | .dram => .highZ
  | .sdout _ => .highZ
  | .hqD _ => .highZ
  | .bootD _ => .highZ
  | .bootCsN => .pulledUp
  | .bootClk => .low
  | .mclk _ => .low
  | .timePulse _ => .low
  | .irqN => .released
  | .out _ => .highZ
  | .lamp _ => .sinkOff

/-- Whether the device is held (R652): RESET_N is low, or the system PLL has not locked since (R81). -/
def State.atRest (s : State) : Bool := s.power == .reset || s.power == .held

/-- The level of a ball, where State tells it: at rest while the device is held, but for IRQ_N, which shows the summary (R559; log
entry 77); waveforms between commands, and what the manual does not give, are not told (log entry 84). A port that does not drive
its data drives SDOUT low, but for a shared one, which releases it (R498, R480). A master clock whose output does not toggle is
driven low (R87, R94, R99). -/
def State.ball (s : State) (b : Ball) : Option Level :=
  if s.atRest && b != .irqN then some b.rest
  else
    match b with
    | .timePulse i => some (if s.pulsePin i then .high else .low)
    | .irqN => some (if s.irqN then .released else .low)
    | .mclk i => if s.clocked (.mclk i) then none else some .low
    | .lamp l => some (if s.lamp.on.getLsbD l then .sinkOn else .sinkOff)
    | .out o => if s.outState o = 0 then some .highZ else none
    | .sdout p => if s.sdoutDrives p then none else some (if s.shared p then .highZ else .low)
    | .transmit => none
    | .dcReset _ => none
    | .dram => none
    | .hqD _ => none
    | .bootD _ => none
    | .bootCsN => none
    | .bootClk => none

end Sys2Proof.Machine
end

