-- ==== Sys2Proof/Safety.lean ====
section
/-! DEFINITION. What claims about runs speak of: runs that do not stop, canonical contents, and frames, which say what a
command leaves unchanged. -/

namespace Sys2Proof

/-- Whether a lane is enabled (R116). -/
def InstrFields.lane (f : InstrFields) (l : Nat) : Bool := f.lmask.toNat.testBit l

/-- A register of the enabled lanes. -/
def InstrFields.dest (f : InstrFields) (n l r : Nat) : Bool := f.lane l && r == n

end Sys2Proof

namespace Sys2Proof.Machine

/-- Every register word that is listed differs from its reset value, in rising order of addresses, and every memory is
in canonical form, the spare table versions, the flash and the idle code banks too: equal contents are equal data. -/
def State.canonical (s : State) : Bool :=
  SMap.canon regReset s.regs && Memory.wf s.mem && Memory.wf s.dram && Memory.wf s.spare && Memory.wf s.boot.flash &&
    Memory.wf s.boot.idleA && Memory.wf s.boot.idleB

/-- A run does not stop. -/
def State.runs (s : State) : Prop := ∃ t, step s = .next t

/-- A command answers a next state, of which P holds. -/
def Completes (c : Instr) (s : State) (P : State → Prop) : Prop := ∃ t, exec c s = .next t ∧ P t

/-- The registers that raising an event may change: the summaries, TALLY_STATUS, TALLY_FIRST and its gloss, the sticky
and grace words, and the cause words of the event groups (R554, R557, R558, R562, R563). -/
def eventReg (a : Nat) : Bool :=
  a == 0x4 || a == 0x8 || (decide (0x100000 ≤ a) && decide (a < 0x100010)) ||
    (decide (0x100040 ≤ a) && decide (a < 0x100058)) || (decide (0x100080 ≤ a) && decide (a < 0x100098)) ||
    (decide (0x100100 ≤ a) && decide (a < 0x1001A0) && a % 16 == 0)

/-- The parts of the state beyond its register words. `events` is what raising an event may change there: records that
wait for their push, the tally and the actions it has ordered, IRQ_N, the messages due to the host, and the model's own
counters of free values and of rate limits. -/
inductive Part where
  | power
  | shadow
  | fresh
  | staging
  | mem
  | dram
  | spare
  | ecc
  | time
  | synth
  | pe
  | seq
  | mix
  | src
  | clause
  | stream
  | xbar
  | dramc
  | redun
  | sap
  | ain
  | aout
  | lamp
  | hadc
  | sent
  | boot
  | host
  | pending
  | silent
  | events
  deriving DecidableEq, Repr

/-- A part is the same in two states. The parts of the time unit, the sentinel and the host are taken without what
belongs to `events`. -/
def Part.same (p : Part) (s t : State) : Prop :=
  match p with
  | .power => t.power = s.power
  | .shadow => t.shadow = s.shadow
  | .fresh => t.fresh = s.fresh
  | .staging => t.staging = s.staging
  | .mem => t.mem = s.mem
  | .dram => t.dram = s.dram
  | .spare => t.spare = s.spare
  | .ecc => t.ecc = s.ecc
  | .time => t.time = { s.time with records := t.time.records }
  | .synth => t.synth = s.synth
  | .pe => t.pe = s.pe
  | .seq => t.seq = s.seq
  | .mix => t.mix = s.mix
  | .src => t.src = s.src
  | .clause => t.clause = s.clause
  | .stream => t.stream = s.stream
  | .xbar => t.xbar = s.xbar
  | .dramc => t.dramc = s.dramc
  | .redun => t.redun = s.redun
  | .sap => t.sap = s.sap
  | .ain => t.ain = s.ain
  | .aout => t.aout = s.aout
  | .lamp => t.lamp = s.lamp
  | .hadc => t.hadc = s.hadc
  | .sent => t.sent = { s.sent with ordered := t.sent.ordered }
  | .boot => t.boot = s.boot
  | .host => t.host = { s.host with msi := t.host.msi, sumDue := t.host.sumDue }
  | .pending => t.pending = s.pending
  | .silent => t.tally.silent = s.tally.silent
  | .events => t.time.records = s.time.records ∧ t.tally = s.tally ∧ t.sent.ordered = s.sent.ordered ∧
      t.irqN = s.irqN ∧ t.host.msi = s.host.msi ∧ t.host.sumDue = s.host.sumDue ∧ t.raised = s.raised ∧ t.free = s.free

/-- From s to t no register word changes but those of `regs`, and no part but those of `parts`. -/
def Frame (regs : Nat → Bool) (parts : List Part) (s t : State) : Prop :=
  (∀ a, regs a = false → t.reg a = s.reg a) ∧ ∀ p, p ∉ parts → p.same s t

/-- A frame of a command that may raise events. -/
def FrameEv (regs : Nat → Bool) (parts : List Part) (s t : State) : Prop :=
  Frame (fun a => eventReg a || regs a) (.events :: parts) s t

/-- No register word. -/
def noRegs (_ : Nat) : Bool := false

/-- The register words of an address range [lo, hi). -/
def inRange (lo hi a : Nat) : Bool := decide (lo ≤ a) && decide (a < hi)

/-- Memory keeps every byte outside n bytes at an address. -/
def KeepsOutside (m m' : Memory) (a n : Nat) : Prop := ∀ x, x < a ∨ a + n ≤ x → Memory.byte m' x = Memory.byte m x

/-- What a raise of a fault leaves in the part of BOOT: where it is the watchdog fault of a processor and leaves CLEAR
(`fresh`), whether that came within 2 s of an activation (R606); nothing else. -/
def WdogNoted (n : Nat) (fresh : Bool) (s t : State) : Prop :=
  t.boot = { s.boot with revert := t.boot.revert } ∧
    ∀ p, p < 2 → t.boot.revert.getLsbD p = if n = 4 + p ∧ fresh = true then s.justActivated p else s.boot.revert.getLsbD p

/-- A source is shown as raised: its cause bit is set. -/
def State.shown (s : State) (src : Nat) : Prop := testBit (s.reg (Reg.EVG_CAUSE (src / 32))) (src % 32) = true

/-- GLOBAL_SUMMARY shows its inputs as they stand, and IRQ_N follows it (R557-R559). -/
def State.summaryInForce (s : State) : Prop :=
  s.reg Reg.GLOBAL_SUMMARY = BitVec.ofNat 32 s.summary ∧ s.irqN = (s.summary == 0 || s.irqReleased)

/-- The words that the field tables give a reset value other than zero, GLOBAL_ID apart: the address of the first, the
number of them, their distance, the value of the first, and what each adds to the one before. -/
def resetTable : List (Nat × Nat × Nat × Nat × Nat) :=
  [(Reg.GLOBAL_HOST_WIN 1, 1, 4, 0x0A, 0), (Reg.GLOBAL_HOST_WIN 2, 1, 4, 0x10, 0), (Reg.GLOBAL_HOST_WIN 3, 1, 4, 0x09, 0),
    (Reg.TALLY_GRACE 0, 1, 4, 10, 0), (Reg.TALLY_GRACE 1, 1, 4, 1000, 0), (Reg.TALLY_GRACE 2, 1, 4, 100000, 0),
    (Reg.TALLY_GRACE 3, 1, 4, 1000000, 0), (Reg.TALLY_CLASS 4, 4, 4, 0xA, 0), (Reg.TALLY_CLASS 8, 1, 4, 0xE, 0),
    (Reg.TALLY_CLASS 10, 2, 4, 0x11, 0), (Reg.TALLY_CLASS 66, 1, 4, 2, 0), (Reg.TALLY_CLASS 70, 1, 4, 0x21, 0),
    (Reg.TALLY_CLASS 72, 1, 4, 2, 0), (Reg.TALLY_CLASS 111, 1, 4, 0x21, 0), (Reg.SENT_CTRL, 1, 4, 0x1414, 0),
    (Reg.TIME_CTRL, 1, 4, 3, 0), (Reg.TIME_INCR_NOM, 1, 4, 0x40000000, 0), (Reg.TIME_INCR_NOM + 4, 1, 4, 1, 0),
    (Reg.TIME_INCR_EFF, 1, 4, 0x40000000, 0), (Reg.TIME_INCR_EFF + 4, 1, 4, 1, 0),
    (Reg.TIME_SERVO_CTRL, 1, 4, 0x03E80000, 0), (Reg.TIME_SERVO_KP, 1, 4, 0x560, 0), (Reg.TIME_SERVO_KI, 1, 4, 0x40, 0),
    (Reg.TIME_SERVO_LIMIT, 1, 4, 0x83127, 0), (Reg.TIME_SERVO_LOCK, 1, 4, 0x0A080064, 0), (Reg.TIME_CAP_CTRL 0, 4, 0x20, 2, 0),
    (Reg.SYNTH_RATIO 0, 2, 0x100, 0x75104D55, 0), (Reg.SYNTH_RATIO 0 + 4, 2, 0x100, 0x1F, 0)] ++
  [(Reg.SYNTH_OUT_CFG 0 0, 8, 4, 0x190, 0), (Reg.SYNTH_OUT_CFG 1 0, 8, 4, 0x190, 0),
    (Reg.FAB_LANE_CTRL 0, 10, 0x10000, 2, 0), (Reg.FAB_LANE_TRAIN 0, 10, 0x10000, 3000, 0),
    (Reg.FAB_FEC_DEGRADE 0, 10, 0x10000, 0x800, 0), (Reg.MAC_CTRL 0, 8, 0x10000, 8, 0),
    (Reg.MAC_MAXLEN 0, 8, 0x10000, 9216, 0), (Reg.MAC_VLAN 0, 8, 0x10000, 1, 0), (Reg.MAC_PAUSE_MAX 0, 8, 0x10000, 0xFFFF, 0),
    (Reg.STREAM_ETYPE, 1, 4, 0x88B588B6, 0), (Reg.STREAM_LEARN, 1, 4, 0xFF, 0), (Reg.STREAM_AGE, 1, 4, 300, 0),
    (Reg.STREAM_STALE, 1, 4, 20000, 0), (Reg.XBAR_ARB 0, 36, 4, 0x26, 0), (Reg.XBAR_MASTER 0, 21, 4, 0x88, 0),
    (Reg.XBAR_DELIV 0, 32, 4, 76800, 0), (Reg.XBAR_DELIV 34, 1, 4, 800, 0), (Reg.XBAR_DELIV 35, 1, 4, 4800, 0),
    (Reg.PE_CAPS 0, 8, 0x40000, 0, 16), (Reg.PE_CAPS 8, 8, 0x40000, 0x82, 16), (Reg.PE_CAPS 16, 8, 0x40000, 0x104, 16),
    (Reg.PE_CAPS 24, 8, 0x40000, 0x186, 16), (Reg.PE_CAPS 32, 8, 0x40000, 0x208, 16), (Reg.PE_CAPS 40, 8, 0x40000, 0x28A, 16),
    (Reg.PE_CAPS 48, 8, 0x40000, 0x30C, 16), (Reg.PE_CAPS 56, 8, 0x40000, 0x38F, 16)] ++
  [(Reg.SEQ_CTRL, 1, 4, 0x106, 0), (Reg.SEQ_GUARD, 1, 4, 0x07D003E8, 0), (Reg.SEQ_RECOMP, 1, 4, 2000, 0),
    (Reg.SEQ_SLACK_MIN, 1, 4, 0x7FFFFFFF, 0), (Reg.SRC_CTRL, 1, 4, 5, 0), (Reg.SAP_CTRL 0, 32, 0x1000, 8, 0),
    (Reg.AIN_CTRL, 1, 4, 2, 0), (Reg.AIN_STATUS, 1, 4, 0x100000, 0), (Reg.AIN_CH_STATE 0, 16, 0x20, 0, 16),
    (Reg.AOUT_CLASSD_CTRL, 1, 4, 3, 0), (Reg.AOUT_HOLD, 1, 4, 0x20, 0), (Reg.HADC_CTRL, 1, 4, 2, 0),
    (Reg.HADC_STATUS, 1, 4, 0x100, 0), (Reg.HADC_SEQ 0, 30, 4, 0, 1), (Reg.HADC_SEQ 30, 1, 4, 0x4A, 0),
    (Reg.HADC_SEQ 31, 1, 4, 0x49, 0), (Reg.HADC_LIM 0, 32, 4, 0x0FFF0000, 0), (Reg.LAMP_CTRL 0, 8, 0x10, 0x20, 0),
    (Reg.LAMP_THRESH, 1, 4, 0x03E80011, 0), (Reg.CLAUSE_TIMING, 1, 4, 500, 0), (Reg.HOST_RELAY_CTRL, 1, 4, 0x00C80000, 0),
    (Reg.HOST_CP_WDOG 0, 2, 4, 0x00020064, 0)]

/-! ### The servo -/

/-- The offset of a sample that a write of word 0 of TIME_SERVO_OFFSET makes, in 2^-16 ns (R38, R49). -/
def State.servoTheta (s : State) (m : RegMaster) (data : Word) : Int :=
  signed 48 (data.toNat + 2 ^ 32 * ((s.stagedWord m (Reg.TIME_SERVO_OFFSET + 4)).toNat % 2 ^ 16))

/-- What the servo makes of a sample (R49): P and I in units of 2^-8 LSB, each product floored there, I clamped; adj in whole
LSB, rounded toward zero and clamped. I starts from the newest result, in effect or in flight. -/
def State.servoResult (s : State) (theta : Int) : ServoOut :=
  let lim : Int := (s.fld Reg.TIME_SERVO_LIMIT Fld.TIME_SERVO_LIMIT_ADJ_LIMIT : Nat)
  let p := ((s.fld Reg.TIME_SERVO_KP Fld.TIME_SERVO_KP_KP : Nat) * theta) / 65536
  let iu := s.integLast + ((s.fld Reg.TIME_SERVO_KI Fld.TIME_SERVO_KI_KI : Nat) * theta) / 65536
  let i := if iu < -(lim * 256) then -(lim * 256) else if lim * 256 < iu then lim * 256 else iu
  let a := -(Int.tdiv (p + i) 256)
  ⟨p, i, if a < -lim then -lim else if lim < a then lim else a⟩

/-- Whether a clamp changed a result (R50). -/
def State.servoClamps (s : State) (theta : Int) : Prop :=
  let r := s.servoResult theta
  r.i ≠ s.integLast + ((s.fld Reg.TIME_SERVO_KI Fld.TIME_SERVO_KI_KI : Nat) * theta) / 65536 ∨
    r.adj ≠ -(Int.tdiv (r.p + r.i) 256)

/-- A sample is used (R49, R50): its result is in flight, behind those of the samples before it, and ADJ_CLAMP is raised where a
clamp changed it. -/
def SampleUsed (theta : Int) (s t : State) : Prop :=
  t.time.out = s.time.out ++ [s.servoResult theta] ∧ t.adj = s.adj ∧ t.reg Reg.TIME_SERVO_THETA = thetaNs theta ∧
    (s.servoClamps theta → t.shown 69)

/-- Whether a sample lies beyond the outlier limit (R54); OUTLIER_MULT = 0 disables the limit (R77). -/
def State.outlier (s : State) (theta : Int) : Prop :=
  let mult := s.fld Reg.TIME_SERVO_LOCK Fld.TIME_SERVO_LOCK_OUTLIER_MULT
  mult ≠ 0 ∧ mult * (s.fld Reg.TIME_SERVO_LOCK Fld.TIME_SERVO_LOCK_LOCK_THR * 65536) < theta.natAbs

/-- What a sample does in each state of the servo (R54, R673): 0 FREE, 1 ACQUIRE, 2 LOCKED, 3 HOLDOVER. -/
def ServoMoves (theta : Int) (s t : State) : Prop :=
  let near := theta.natAbs ≤ s.fld Reg.TIME_SERVO_LOCK Fld.TIME_SERVO_LOCK_LOCK_THR * 65536
  let cnt := max 1 (s.fld Reg.TIME_SERVO_LOCK Fld.TIME_SERVO_LOCK_LOCK_COUNT)
  (s.servo = 0 → s.bit Reg.TIME_SERVO_CTRL Fld.TIME_SERVO_CTRL_ENABLE = false →
    Frame (fun a => a == Reg.XBAR_INFLIGHT) [] s t) ∧
  (s.servo = 0 → s.bit Reg.TIME_SERVO_CTRL Fld.TIME_SERVO_CTRL_ENABLE = true →
    SampleUsed theta s t ∧ t.servo = 1 ∧ t.time.inRun = 0) ∧
  (s.servo = 1 → near → cnt ≤ s.time.inRun + 1 → SampleUsed theta s t ∧ t.servo = 2 ∧ t.shown 64) ∧
  (s.servo = 1 → near → s.time.inRun + 1 < cnt → SampleUsed theta s t ∧ t.servo = 1 ∧ t.time.inRun = s.time.inRun + 1) ∧
  (s.servo = 1 → ¬near → SampleUsed theta s t ∧ t.servo = 1 ∧ t.time.inRun = 0) ∧
  (s.servo = 2 → near → SampleUsed theta s t ∧ t.servo = 2 ∧ t.time.midRun = 0 ∧ t.time.outRun = 0) ∧
  (s.servo = 2 → s.outlier theta → s.time.outRun < 3 → t.time.out = s.time.out ∧ t.adj = s.adj ∧ t.servo = 2 ∧
    t.time.outRun = s.time.outRun + 1 ∧ t.shown 68) ∧
  (s.servo = 2 → s.outlier theta → 3 ≤ s.time.outRun → SampleUsed theta s t ∧ t.servo = 1 ∧ t.time.inRun = 0 ∧ t.shown 65) ∧
  (s.servo = 2 → ¬near → ¬s.outlier theta → cnt ≤ s.time.midRun + 1 →
    SampleUsed theta s t ∧ t.servo = 1 ∧ t.time.inRun = 0 ∧ t.shown 65) ∧
  (s.servo = 2 → ¬near → ¬s.outlier theta → s.time.midRun + 1 < cnt →
    SampleUsed theta s t ∧ t.servo = 2 ∧ t.time.midRun = s.time.midRun + 1 ∧ t.time.outRun = 0) ∧
  (s.servo = 3 → SampleUsed theta s t ∧ t.servo = 1 ∧ t.time.inRun = 0 ∧ t.shown 67)

/-! ### Registers of units that several commands reach -/

/-- The registers of SEQ. -/
def seqRegs (a : Nat) : Bool := inRange Reg.SEQ_CTRL 0x5000100 a

/-- The registers that an access of a unit to vat memory may write: XBAR_INFLIGHT, the error record and XBAR_VAT_ECC (R402,
R404, R436). -/
def busRegs (a : Nat) : Bool := inRange Reg.XBAR_INFLIGHT 0x3000010 a

/-- The status words and counters of MIX (R253). -/
def mixRegs (a : Nat) : Bool := inRange Reg.MIX_STATUS 0x5100030 a

/-- What an abort that SEQ orders may write of an engine: PE_STATUS and PE_CYCLES (R148, R156). -/
def abortRegs (a : Nat) : Bool :=
  (List.range 64).any (fun e => a == Reg.PE_STATUS e || a == Reg.PE_CYCLES e || a == Reg.PE_CYCLES e + 4)

/-! ### Phrase engines -/

/-- An engine can issue an instruction, its word and its slots show no fault, and no register is named twice as a
destination; `dests` are those of the operation itself. -/
def PeClear (e : Fin 64) (f : InstrFields) (slots : Bool) (dests : List (PeFile × Nat)) (s : State) : Prop :=
  s.peIssues e = true ∧ s.fetchBad e = false ∧ (∀ r ∈ s.slotResults e f slots, r.faults = []) ∧
    hasRepeat (dests ++ (if slots then slotDests (s.core e) f.lmask (xSlot f) ++ slotDests (s.core e) f.lmask (ySlot f)
      else [])) = false

/-- The words of an engine's own block of registers. -/
def peBlock (e a : Nat) : Bool := inRange (Reg.PE_CTRL e) (Reg.PE_CTRL e + 0x100) a

/-- What an operation of a phrase engine leaves: the lane registers, accumulators, condition flags, TRACE and engine-wide
register that the arguments name may change, what its memory slots write may change, and no other register of an engine,
byte of memory or register word outside the engine's own block. -/
def PeFrame (e : Fin 64) (f : InstrFields) (slots : Bool) (vd ad : Nat → Nat → Bool) (cfd : Nat → Bool) (td : Bool)
    (ed : Option (PeFile × Nat)) (s t : State) : Prop :=
  (∀ l r, l < 4 → r < 16 → vd l r = false → (∀ x ∈ (s.peWrites e f slots (.ok {})).v, x.1 ≠ l * 16 + r) →
    (t.core e).vr l r = (s.core e).vr l r) ∧
  (∀ l n, l < 4 → n < 4 → ad l n = false → (t.core e).ac l n = (s.core e).ac l n) ∧
  (∀ n, ed ≠ some (.a, n) → (∀ x ∈ (s.peWrites e f slots (.ok {})).eng, (x.1, x.2.1) ≠ (.a, n)) →
    (t.core e).ar n = (s.core e).ar n) ∧
  (∀ n, ed ≠ some (.m, n) → SMap.find 0 (t.core e).m n = SMap.find 0 (s.core e).m n) ∧
  (∀ n, ed ≠ some (.o, n) → (∀ x ∈ (s.peWrites e f slots (.ok {})).eng, (x.1, x.2.1) ≠ (.o, n)) →
    SMap.find 0 (t.core e).o n = SMap.find 0 (s.core e).o n) ∧
  (∀ l, cfd l = false → (t.core e).cf.toNat.testBit l = (s.core e).cf.toNat.testBit l) ∧
  (td = false → t.trace e = s.trace e) ∧ (t.core e).xfers = (s.core e).xfers ∧ (t.core e).crc = (s.core e).crc ∧
  (∀ e' : Fin 64, e' ≠ e → t.core e' = s.core e') ∧
  (∀ x, (∀ p ∈ (s.peWrites e f slots (.ok {})).bytes, x < p.1 ∨ p.1 + p.2.length ≤ x) →
    Memory.byte t.mem x = Memory.byte s.mem x) ∧
  FrameEv (peBlock e) [.pe, .mem, .ecc] s t

/-- The exponent of the smallest power of two that is not below a length (R125). -/
def CeilPow (len i : Nat) : Prop := len ≤ 2 ^ i ∧ ∀ j, len ≤ 2 ^ j → i ≤ j

/-- The address that a slot accesses (R125, R126). -/
def SlotAddress (e : Fin 64) (sl : Slot) (s : State) (ea : Nat) : Prop :=
  let a := (s.core e).ar sl.areg
  let len := (s.core e).lenOf sl.mreg
  let o := (SMap.find 0 (s.core e).o (sl.mreg % 4)).toNat
  (sl.am ≠ 4 → ea = a) ∧ (sl.am = 4 → len = 0 → ea = (a + o) % 2 ^ 16) ∧
    (sl.am = 4 → len ≠ 0 → ∀ i, CeilPow len i → ea = a / 2 ^ i * 2 ^ i + (a % 2 ^ i + o) % len)

/-- Where a lane's word lies in an access: words 0 and 1 by turns in a double access, its own word in a vector access (R121). -/
def laneOff (width l : Nat) : Nat := match width with | 0 => 0 | 1 => 4 * (l % 2) | _ => 4 * l

/-- The lanes whose words a slot stores (R119, R121): the lowest enabled one, the enabled ones of lanes 0 and 1, or all enabled
ones. -/
def storedLanes (lm : BitVec 4) (sl : Slot) : List Nat :=
  if sl.store then
    match sl.width with
    | 0 => (lanes lm).take 1
    | 1 => (lanes lm).filter (fun l => decide (l < 2))
    | 2 => lanes lm
    | _ => []
  else []

/-- What a slot moves (R119-R121, R123). -/
def SlotMoves (e : Fin 64) (f : InstrFields) (inY : Bool) (sl : Slot) (ea : Nat) (s t : State) : Prop :=
  (sl.store = false → sl.width < 3 → ∀ l, l < 4 → f.lane l = true →
    (t.core e).vr l sl.vreg = s.word (xyAddr e inY ea + laneOff sl.width l)) ∧
  (∀ l ∈ storedLanes f.lmask sl, t.word (xyAddr e inY ea + laneOff sl.width l) = (s.core e).vr l sl.vreg)

/-- What a slot makes of its address register or its offset register (R118, R125, R126, R128). -/
def SlotSteps (e : Fin 64) (f : InstrFields) (sl : Slot) (s t : State) : Prop :=
  let a := (s.core e).ar sl.areg
  let step := (s.core e).stepOf sl.mreg
  let len := (s.core e).lenOf sl.mreg
  let o := (SMap.find 0 (s.core e).o (sl.mreg % 4)).toNat
  let q := if f.lmask = 0 ∨ 2 ≤ sl.width then 4 else 2 + sl.width
  let rev := fun x : Nat => (BitVec.ofNat (16 - q) (x / 2 ^ q)).reverse
  (sl.am = 1 ∨ (sl.am = 2 ∧ len = 0) → (t.core e).ar sl.areg = lowInt 16 (a + step)) ∧
  (sl.am = 2 → len ≠ 0 → ∀ i, CeilPow len i →
    (t.core e).ar sl.areg = a / 2 ^ i * 2 ^ i + (((a % 2 ^ i : Nat) + step) % (len : Int)).toNat) ∧
  (sl.am = 3 → rev ((t.core e).ar sl.areg) = rev a + rev (lowInt 16 step) ∧
    (t.core e).ar sl.areg % 2 ^ q = a % 2 ^ q) ∧
  (sl.am = 4 → (SMap.find 0 (t.core e).o (sl.mreg % 4)).toNat =
    if len = 0 then lowInt 16 (o + step) else (((o : Int) + step) % (len : Int)).toNat)

/-- The instructions that issue with an operation of their own, whether they have slots, and the operation. -/
def issueOps (e : Fin 64) (f : InstrFields) (rc : Bool) (s : State) : List (Instr × Bool × (PeCore → PeRes)) :=
  [(.mpy e f, true, macOp f (fun _ p => p)), (.mac e f, true, macOp f (fun a p => a + p)),
    (.msu e f, true, macOp f (fun a p => a - p)), (.add e f, true, aluOp f (fun a b _ => plain (a + b))),
    (.sub e f, true, aluOp f (fun a b _ => plain (a - b))),
    (.adds e f, true, aluOp f (fun a b _ => satWord (a.toInt + b.toInt))),
    (.subs e f, true, aluOp f (fun a b _ => satWord (a.toInt - b.toInt))),
    (.negs e f, true, aluOp f (fun a _ _ => satWord (-a.toInt))),
    (.abss e f, true, aluOp f (fun a _ _ => satWord (a.toInt.natAbs : Nat))),
    (.min e f, true, aluOp f (fun a b _ => plain (if wordLt b a then b else a))),
    (.max e f, true, aluOp f (fun a b _ => plain (if wordLt a b then b else a))),
    (.and e f, true, aluOp f (fun a b _ => plain (a &&& b))),
    (.or e f, true, aluOp f (fun a b _ => plain (a ||| b))),
    (.xor e f, true, aluOp f (fun a b _ => plain (a ^^^ b))),
    (.not e f, true, aluOp f (fun a _ _ => plain (~~~a))),
    (.shl e f rc, true, aluOp f (fun a b _ => plain (a <<< shiftCount f rc b))),
    (.shls e f rc, true, aluOp f (fun a b _ => satWord (a.toInt * (2 ^ shiftCount f rc b : Nat)))),
    (.shr e f rc, true, aluOp f (fun a b _ => plain (wordOfInt (floorShift a.toInt (shiftCount f rc b))))),
    (.shrl e f rc, true, aluOp f (fun a b _ => plain (a >>> shiftCount f rc b))),
    (.cmpeq e f, true, cmpOp f (fun a b => a == b)),
    (.cmplt e f, true, cmpOp f (fun a b => wordLt a b)), (.cmple e f, true, cmpOp f (fun a b => !wordLt b a)),
    (.sel e f, true, aluOp f (fun a b cf => plain (if cf then a else b))),
    (.clr e f, true, accOp f [] (fun _ _ _ => 0))] ++
  [(.lda e f, true, accOp f [] (fun _ _ v => v.toInt * (2 ^ 32 : Nat))),
    (.adda e f, true, accOp f [f.dst.toNat % 4, f.srca.toNat % 4] (fun d a _ => d + a)),
    (.suba e f, true, accOp f [f.dst.toNat % 4, f.srca.toNat % 4] (fun d a _ => d - a)),
    (.mova e f, true, accOp f [f.srca.toNat % 4] (fun _ a _ => a)),
    (.nega e f, true, accOp f [f.srca.toNat % 4] (fun _ a _ => -a)),
    (.shla e f, true, accOp f [f.srca.toNat % 4] (fun _ a _ => a * (2 ^ f.aux.toNat : Nat))),
    (.shra e f, true, accOp f [f.srca.toNat % 4] (fun _ a _ => floorShift a f.aux.toNat)),
    (.rdl e f, true, rdOp f (fun a => BitVec.ofNat 32 a.toNat)),
    (.rdm e f, true, rdOp f (fun a => BitVec.ofNat 32 (a.toNat / 2 ^ 32))),
    (.rdh e f, true, rdOp f (fun a => wordOfInt (signed 8 (a.toNat / 2 ^ 64)))),
    (.wrl e f, true, wrOp f 0 32), (.wrm e f, true, wrOp f 32 32),
    (.wrh e f, true, wrOp f 64 8), (.sts e f, true, stsOp f),
    (.acsMax e f, true, acsOp true f (s.trace e)), (.acsMin e f, true, acsOp false f (s.trace e)),
    (.move e f, true, moveOp e f (s.trace e)), (.moveNop e f, true, fun _ => .ok {}),
    (.ldi e f, false, ldiOp e f), (.nop e f, false, fun _ => .ok {}),
    (.br e f, false, fun _ => .ok { flow := .branch (branchTarget (s.pePc e) f) }),
    (.brc e f, false, brcOp (s.pePc e) f),
    (.rep e f, false, repOp (s.pePc e) f (f.imm.toNat / 2 ^ 16)),
    (.repv e f, false, fun c => repOp (s.pePc e) f ((c.vr (lowLane f.lmask) f.srca.toNat).toNat % 2 ^ 16) c)]

/-- Every instruction of an engine. -/
def engineInstrs (e : Fin 64) (f : InstrFields) (rc : Bool) (s : State) : List Instr :=
  (issueOps e f rc s).map (·.1) ++ [.wait e f, .endTask e f, .trap e f, .illegalInstruction e f, .getx e f, .gety e f,
    .putx e f, .puty e f]

/-- An instruction ends in a fault (R148, R153-R155, R160): its engine is FAULTED with the code, the slot, the PC and the address,
the event of the code is raised, and no register, flag, repeat level, transfer or byte of memory is written. -/
def Faulted (e : Fin 64) (x : PeFault) (s t : State) : Prop :=
  t.peState e = 4 ∧ t.reg (Reg.PE_FAULT e) = BitVec.ofNat 32 (x.code + x.slot * 2 ^ 4 + s.pePc e * 2 ^ 12) ∧
    t.reg (Reg.PE_FAULT_ADDR e) = BitVec.ofNat 32 x.addr ∧ t.pePc e = s.pePc e ∧
    t.core e = { s.core e with stalled := false } ∧ t.trace e = s.trace e ∧ (∀ e' : Fin 64, e' ≠ e → t.core e' = s.core e') ∧
    t.mem = s.mem ∧ (x.code < 10 → s.tally.silent = false → t.shown (191 + x.code)) ∧ FrameEv (peBlock e) [.pe] s t

/-- No lane register. -/
def noLane (_ _ : Nat) : Bool := false

/-- No condition flag. -/
def noFlag (_ : Nat) : Bool := false

/-! ### Lanes and ports -/

/-- The registers that a change of a lane's state may write: the lane's FAB_LANE_STATUS, FAB_WAKE_CTRL for SENDING, and
REDUN_STATUS for the felt state (R310, R314, R349). -/
def laneRegs (n a : Nat) : Bool := a == Reg.FAB_LANE_STATUS n || a == Reg.FAB_WAKE_CTRL || a == Reg.REDUN_STATUS

/-- The registers that leaving UP may write: the status words of the lane and of the other lanes of its port, their
FAB_LINK_DOWNS, the status of the port, and the counters of the frames the port loses (R310, R313, R387). -/
def lossRegs (a : Nat) : Bool :=
  (List.range 10).any (fun l => laneRegs l a || a == Reg.FAB_LINK_DOWNS l) || a == Reg.FAB_PORT_STATUS ||
    (List.range 8).any (fun m => a == Reg.MAC_STATUS m || a == Reg.MAC_COUNTER m 12 || a == Reg.MAC_COUNTER m 12 + 4) ||
    inRange 0x2000080 0x20000C0 a || inRange 0x2200000 0x2240000 a

/-! ### Clauses -/

/-- The registers that a change of a clause slot may write: the words of the slot, CLAUSE_STATUS and CLAUSE_REFUSALS, and
TIME_STATUS for RATE_PENDING (R74, R294-R300). -/
def clauseRegs (n a : Nat) : Bool :=
  inRange (Reg.CLAUSE_SLOT_STATE n) (Reg.CLAUSE_SLOT_STATE n + 16) a || a == Reg.CLAUSE_STATUS ||
    a == Reg.CLAUSE_REFUSALS || a == Reg.TIME_STATUS

/-- The records of one clause take effect (R274-R279, R283): each register that a REG record names holds the record's bits, a
ROUTE record brings the other route bank into force, an ENTRY record the spare version of its entry, a PARAM or PBLOCK record the
other bank of its phrase, and the GUARANTEE records of a pair their net change. SYNTH registers follow the update of their PLL
(R88, R277). -/
def RecordsInForce (recs : List Rec) (s t : State) : Prop :=
  (∀ r ∈ recs, r.op = 1 → synthPlls r.w1 = [] → r.w1 ≠ Reg.MIX_RCTRL →
    t.reg r.w1 &&& shBits r.w1 = (s.projectRegs recs).reg r.w1 &&& shBits r.w1) ∧
  (∀ r ∈ recs, r.op = 4 → t.fld Reg.MIX_RCTRL Fld.MIX_RCTRL_BANK = 1 - s.fld Reg.MIX_RCTRL Fld.MIX_RCTRL_BANK) ∧
  (∀ r ∈ recs, r.op = 5 →
    t.read (entryAt r.mac r.w1) (entrySize r.mac) = Memory.read s.spare (entryAt r.mac r.w1) (entrySize r.mac)) ∧
  (∀ r ∈ recs, r.op = 6 → t.regN (Reg.XBAR_GUAR r.target r.master) =
    ((s.regN (Reg.XBAR_GUAR r.target r.master) : Int) - s.guarDebt r.target r.master +
      netPair recs r.target r.master).toNat % 2 ^ 32)

/-- Every entry that the records name exists (R261, R269). -/
def EntriesExist (recs : List Rec) : Prop := ∀ r ∈ recs, r.op = 5 → r.w1 < if r.mac then 16384 else 8192

/-- A slot is refused with a code (R269, R300). -/
def SlotRefused (n code : Nat) (t : State) : Prop :=
  t.slotState n = 10 ∧ t.fld (Reg.CLAUSE_SLOT_STATE n) Fld.CLAUSE_SLOT_STATE_CODE = code ∧ t.shown 306

/-- What admission has checked of an admitted clause, apart from its image and its tables (R269-R272, R284, R291, R292, R605). -/
def Admissible (n : Nat) (s : State) : Prop :=
  let q := s.slot n
  let recs := s.imgRecs q.image q.nrec
  let ps := s.pendingSlots n
  let c := (s.commitTime n).2
  (∀ r ∈ recs, (r.op = 7 → q.kind = 2) ∧ (r.op = 8 → q.kind = 1)) ∧
  (∀ r ∈ recs, r.op = 1 → shBits r.w1 ≠ 0 ∧ r.w1 ≠ Reg.MIX_RCTRL) ∧
  (∀ r ∈ recs, r.op = 4 → r.sink < 16462) ∧
  (∀ r ∈ recs, r.op = 5 → r.w1 < (if r.mac then 16384 else 8192) ∧ (r.w2 ≠ 0 → inVat r.w2 (entrySize r.mac) = true)) ∧
  (q.immediate = false → c ≤ s.now + 3600 * secUnit ∧ q.submitPt + q.armLead * usUnit < c ∧ (s.commitTime n).1.isSome) ∧
  (∀ t, 0 < netOf recs t → (s.regN (Reg.XBAR_GSUM t) : Int) + netOf recs t +
    (ps.map (fun p => max 0 (netOf p.recs t))).foldl (· + ·) 0 ≤ s.capOf t) ∧
  (∀ p ∈ ps, ∀ x ∈ recs, ∀ y ∈ p.recs, x.object = Rec.object y → x.object = none) ∧
  seqAhead q.gen (s.reg Reg.CLAUSE_GEN_LAST) = true ∧
  (∀ p ∈ ps, (p.c < c → seqAhead q.gen p.gen = true) ∧ (c < p.c → seqAhead p.gen q.gen = true)) ∧
  (∀ r ∈ recs, r.op = 7 → r.w1 ≠ 0 ∧ s.regN (stagedReg (bitOf r.mac)) = r.w1) ∧
  (q.immediate = true → s.seqState = 0)

/-- A clause command was refused (R297): CMD_ERR and CMD_SLOT show it, CLAUSE_REFUSALS counts it, CLAUSE_REFUSED is raised; no
other register word changes but those of `regs`. -/
def CmdRefused (n code : Nat) (regs : Nat → Bool) (s t : State) : Prop :=
  t.fld Reg.CLAUSE_STATUS Fld.CLAUSE_STATUS_CMD_ERR = code ∧ t.fld Reg.CLAUSE_STATUS Fld.CLAUSE_STATUS_CMD_SLOT = n ∧
    t.regN Reg.CLAUSE_REFUSALS = min (s.regN Reg.CLAUSE_REFUSALS + 1) 0xFFFFFFFF ∧ t.shown 306 ∧
    FrameEv (fun a => a == Reg.CLAUSE_STATUS || a == Reg.CLAUSE_REFUSALS || regs a) [] s t

/-! ### Calibrations and lamps -/

/-- A calibration within limits: an offset of at most `lim`, and a gain whose correction lies at most 1 / `per` from 1 (R524,
R543). -/
def CalWithin (r : CalRecord) (lim per : Nat) : Prop :=
  r.offset.toInt.natAbs ≤ lim ∧ per * ((r.gcorr.toNat : Int) - (2 ^ 31 : Nat)).natAbs ≤ 2 ^ 31

/-- No lamp's measurement is due (R534). -/
def State.noLampDue (s : State) : Prop := ∀ e ∈ s.lamp.due, s.now < e.2

/-! ### The host -/

/-- An access of n words comes over the link in use, and is one to address a of device d (R617, R619, R620, R630): through BAR0 or
BAR2, or as a quad-SPI transaction of a kind (4 READ, 8 WRITE). -/
def State.hostReaches (s : State) (via : HostPath) (kind n d a : Nat) : Prop :=
  match via with
  | .bar0 o => s.linkUp = true ∧ d = 0 ∧ a = s.bar0 o.toNat
  | .bar2 o => s.linkUp = true ∧ d = s.bar2 o.toNat / 2 ^ 34 ∧ a = s.bar2 o.toNat % 2 ^ 32
  | .cfg _ => False
  | .qspi op addr => s.quadSpi = true ∧ s.power = .running ∧ mgmtOk addr = true ∧ qspiWords kind op = some n ∧
      d = mgmtDev addr ∧ a = mgmtLocal addr

/-- The device takes no notice of an access (R615, R617, R618): its link is not up, or a quad-SPI opcode is neither READ nor a
WRITE that has delivered its words. -/
def State.hostIgnores (s : State) (via : HostPath) (words : Nat) : Prop :=
  match via with
  | .qspi op _ => s.quadSpi = false ∨ s.power = .reset ∨
      (qspiWords 4 op = none ∧ ∀ k, qspiWords 8 op = some k → words < k)
  | _ => s.linkUp = false

/-- All bytes of an access are enabled; quad-SPI has no byte enables (R617, R621). -/
def State.wholeWords (s : State) (be : List (BitVec 4)) : Prop := s.quadSpi = true ∨ ∀ b ∈ be, b = 0xF#4

/-- The size, the alignment or the byte enables of an access break R621. -/
def State.hostMalformed (s : State) (n a : Nat) (be : List (BitVec 4)) : Prop :=
  a % 4 ≠ 0 ∨ s.quadSpi = false ∧ (n = 0 ∨ 64 < n ∨ regionOf a = .reg ∧ (n ≠ 1 ∨ ∃ b ∈ be, b ≠ 0xF#4))

/-- A read of one register word for the host: the word and the state it leaves. -/
def State.hostRegister (s : State) (a : Nat) : Word × State := (s.busHold a 4).readReg .host a

/-- GLOBAL_HOST_ERR and GLOBAL_HOST_ERR_ADDR show an access of the host that was refused, and the answer carries its cause (R630,
R638). -/
def HostTold (cause dev : Nat) (write : Bool) (addr : Nat) (t : State) : Prop :=
  t.fld Reg.GLOBAL_HOST_ERR Fld.GLOBAL_HOST_ERR_CAUSE = cause ∧ t.fld Reg.GLOBAL_HOST_ERR Fld.GLOBAL_HOST_ERR_DEVICE = dev ∧
    t.bit Reg.GLOBAL_HOST_ERR Fld.GLOBAL_HOST_ERR_WRITE = write ∧
    t.bit Reg.GLOBAL_HOST_ERR Fld.GLOBAL_HOST_ERR_VALID = true ∧ t.regN Reg.GLOBAL_HOST_ERR_ADDR = addr ∧
    t.host.cause = cause

/-- An access of the host was refused, and nothing else changes. -/
def HostRefused (cause dev : Nat) (write : Bool) (addr : Nat) (s t : State) : Prop :=
  HostTold cause dev write addr t ∧ FrameEv (fun a => a == Reg.GLOBAL_HOST_ERR || a == Reg.GLOBAL_HOST_ERR_ADDR) [.host] s t

/-! ### Register writes -/

/-- The registers of 32 bits whose write has a rule of its own beyond their access codes, by the address of the first of each
array. -/
def ownRules : List Nat :=
  [Reg.EVG_FORCE 0, Reg.TALLY_FORCE 0, Reg.TALLY_STICKY 0, Reg.TIME_CTRL, Reg.TIME_CMD, Reg.TIME_SERVO_CTRL,
    Reg.TIME_PULSE_CTRL 0, Reg.SYNTH_SERDES_CTRL, Reg.SYNTH_CTRL 0, Reg.SYNTH_ROUTE, Reg.SYNTH_OUT_CFG 0 0,
    Reg.FAB_LANE_CTRL 0, Reg.FAB_PORTMAP, Reg.FAB_WAKE_CTRL, Reg.MAC_PAUSE_TX 0, Reg.DRAM_CTRL, Reg.QUIRE_CFG 0,
    Reg.QUIRE_BASE 0, Reg.QUIRE_SW_CMD 0, Reg.PE_CTRL 0, Reg.SEQ_CTRL, Reg.SEQ_CMD, Reg.MIX_LAT_SEL, Reg.SRC_CH_CFG 0,
    Reg.CLAUSE_CMD, Reg.REDUN_CMD, Reg.SAP_CTRL 0, Reg.AIN_CTRL, Reg.AOUT_OUT_CFG 0, Reg.AOUT_CLASSD_CTRL,
    Reg.AOUT_JD_CTRL, Reg.LAMP_CTRL 0, Reg.HADC_URGENT, Reg.BOOT_CMD, Reg.SEAL_CTRL 0, Reg.HOST_MSI, Reg.HOST_CP_WDOG 0]

/-! ### RESET_SUBSYSTEM (R566, R567) -/

/-- A frame of an escalation action: with the claim drop, and with the faults whose reset it was no longer to go back to an
image. -/
def EscalationFrame (regs : Nat → Bool) (parts : List Part) (s t : State) : Prop :=
  FrameEv (fun a => regs a || a == Reg.REDUN_STATUS || a == Reg.REDUN_CLAIM) (.redun :: .boot :: parts) s t

/-- The servo in FREE (R54). -/
def ServoFreed (s t : State) : Prop :=
  t.servo = 0 ∧ t.adj = 0 ∧ t.reg Reg.TIME_SERVO_INTEG = 0 ∧ t.time.i = 0 ∧ t.time.p = 0 ∧ t.time.out = [] ∧
    t.reg64 Reg.TIME_INCR_EFF = lowInt 40 (s.reg64 Reg.TIME_INCR_NOM : Nat)

/-- The engine array and SEQ after their reset: registers at their reset values, no task, transfers in flight without an effect,
X, Y and P kept (R148, R152, R199). -/
def ArrayReset (t : State) : Prop :=
  (∀ a, inRange 0x04000000 0x05000000 a = true → t.reg a = regReset a) ∧
    (∀ e : Fin 64, t.peState e = 0 ∧ (t.core e).task = none ∧ ∀ x ∈ (t.core e).xfers, x.drop = true) ∧
    t.seqState = 0 ∧ t.seq.tasks = [] ∧ t.seq.startArmed = none ∧
    (∀ a, inRange Reg.SEQ_DISPATCHED (Reg.SEQ_SLACK_MIN + 4) a = true → t.reg a = regReset a)

/-- The clauses after a reset of CLAUSE: those not yet frozen unwind as aborted, the others go on (R267, R293). -/
def ClausesReset (s t : State) : Prop :=
  ∀ m, m < 16 → (1 ≤ s.slotState m ∧ s.slotState m ≤ 6 → t.slotState m = 9 ∧ (t.slot m).endState = 12) ∧
    (s.slotState m = 0 ∨ 6 < s.slotState m → t.slotState m = s.slotState m ∧ t.slot m = s.slot m)

/-- A processor after its restart: its watchdog counts anew; where the reset follows a watchdog fault within 2 s of an
activation, the image before it runs again and UPDATE_FAIL is raised (R606). -/
def ProcessorRestarts (p n : Nat) (s t : State) : Prop :=
  let back := n = 4 + p ∧ s.boot.revert.getLsbD p = true
  SMap.find 0 t.host.wdogAt p = s.time.ticks ∧
    (back → t.reg (fwReg p) = s.prevFw p ∧ t.reg (stagedReg p) = 0 ∧ t.shown 318 ∧
      (s.canonical = true → ∀ i, i < codeSize →
        Memory.byte t.mem (codeLo p + i) = Memory.byte (s.idleBank p) i) ∧
      EscalationFrame (fun a => a == fwReg p || a == stagedReg p) [.host, .mem] s t) ∧
    (¬back → EscalationFrame noRegs [.host] s t)

/-- What RESET_SUBSYSTEM resets for a fault (R567). -/
def SubsystemReset (n : Nat) (s t : State) : Prop :=
  (n / 32 = 0 → (n = 4 ∨ n = 6 → ProcessorRestarts 0 n s t) ∧ (n = 5 ∨ n = 7 → ProcessorRestarts 1 n s t)) ∧
    (n / 32 = 1 → ServoFreed s t ∧
      EscalationFrame (fun a => a == Reg.TIME_STATUS || inRange 0x200028 0x200030 a || inRange 0x20005C 0x200064 a) [.time] s t) ∧
    (n / 32 = 3 → ArrayReset t ∧ EscalationFrame (fun a => inRange 0x04000000 0x05000000 a || seqRegs a) [.seq, .pe, .mix] s t) ∧
    (n / 32 = 4 → (∀ a, inRange 0x06000000 0x06100000 a || inRange 0x06200000 0x06400000 a = true → t.reg a = regReset a) ∧
      (∀ p : Part, p ∈ [.ain, .lamp, .hadc] → p.same State.reset t) ∧
      EscalationFrame (fun a => inRange 0x06000000 0x06100000 a || inRange 0x06200000 0x06400000 a) [.ain, .lamp, .hadc] s t) ∧
    (n / 32 = 5 → ClausesReset s t ∧
      EscalationFrame (fun a => (List.range 16).any (fun m => clauseRegs m a) || busRegs a) [.clause, .mem, .ecc, .spare] s t) ∧
    (n / 32 = 2 ∨ (n / 32 = 0 ∧ ¬(4 ≤ n ∧ n ≤ 7)) → t.holding = true ∧ t.resetPending = true ∧
      (s.resetPending = false → t.bit Reg.SENT_STATUS Fld.SENT_STATUS_ALERT = true ∧
        t.fld Reg.SENT_STATUS Fld.SENT_STATUS_CAUSE = 2))

end Sys2Proof.Machine
end

