-- ==== Sys2Proof/Certificates/Slice0/Obligations.lean ====
section
/-! DEFINITION. The statements about this model. -/

open Sys2Proof Sys2Proof.Machine

/-- A step takes the command at the front of the queue and runs it with the queue's rest, and on an empty queue the block idles:
the queue is the model's own (log entry 9), and so is the idle step (log entry 10). -/
def Obligations.StepRunsFront : Prop :=
  (∀ (c : Instr) (rest : List Instr) (s : State), s.pending = c :: rest → step s = exec c { s with pending := rest }) ∧
  (∀ (s : State), s.pending = [] → step s = .next s)

/-- The state after reset: no command waits, nothing is raised, every register word that a field table gives a reset value other
than zero reads as it, GLOBAL_ID reads as the variant of the part has it, and every other register word reads as zero. The state
also has its canonical form. That the memories list nothing, and so read as zero, is the model's choice (log entry 3), and so is
the zero of the words for which the field tables give none: BOOT_STRAP (log entry 6), SEQ_RELEASE_FOLIO (log entry 31) and
SYNTH_x_UPDATE_PT (log entry 93). -/
def Obligations.ResetState : Prop :=
  State.reset.canonical = true ∧ State.reset.pending = [] ∧ State.reset.summaryInForce ∧
  (∀ r ∈ resetTable, ∀ i, i < r.2.1 → State.reset.regN (r.1 + r.2.2.1 * i) = r.2.2.2.1 + r.2.2.2.2 * i) ∧
  State.reset.reg Reg.GLOBAL_ID = (if Config.isAI then 0x02B08420 else 0x01B08420) ∧
  (∀ a, a ≠ Reg.GLOBAL_ID → (∀ r ∈ resetTable, ∀ i, i < r.2.1 → a ≠ r.1 + r.2.2.1 * i) → State.reset.reg a = 0) ∧
  (∀ c : Fin 16, State.reset.ainMod c = c) ∧ (∀ g : Fin 10, State.reset.regN (Reg.EVG_CAUSE g) = 0) ∧
  State.reset.bootState = 0 ∧ State.reset.servo = 0 ∧ State.reset.irqN = true ∧ State.reset.power = .reset

/-- Every step keeps the canonical form of the register words and of every memory (the memory of the map, DRAM, the spare table
versions, the flash and the two idle code banks): equal contents stay equal data, whatever the command at the front of the
queue. The form is the model's own (log entry 3). -/
def Obligations.CanonicalKept : Prop := ∀ (s t : State), s.canonical = true → step s = .next t → t.canonical = true

/-- R28, R29, R42, R56, R73, R594: a tick at which no command of TIME_CMD waits adds the effective increment to TIME_NOW, which
goes on from 0 past its 48 bits of seconds (the model's choice, log entry 91), and takes up the lamp requests that have come
due; an increment that leaves its 40 bits wraps (the model's choice, log entry 111); the nominal increment is written only while the servo is FREE, elsewhere with
CONFIG_ERR, and by the host only once the node is released; a write of TIME_CTRL takes AUDIO_RUN and not RATE, an SH field, and
AUDIO_RUN written 0 while audio runs asks for its stop. That a reserved RATE code raises CONFIG_ERR is the model's choice (log
entry 15). -/
def Obligations.CounterAndTimeControl : Prop :=
  ((∀ s, s.time.cmds = [] → Completes .tuClkTick s fun t =>
     t.now = (s.now + s.reg64 Reg.TIME_INCR_EFF) % ptWrap ∧ t.time.ticks = s.time.ticks + 1 ∧
     t.lamp.due = s.lamp.due.filter (fun e => decide (t.now < e.2)) ∧
     ((∀ e ∈ s.lamp.due, t.now < e.2) → Frame (inRange 0x200010 0x200020) [.time] s t) ∧
     FrameEv (fun a => inRange 0x200010 0x200020 a || a == Reg.HADC_STATUS) [.time, .lamp, .hadc] s t) ∧
   (∀ m data s, s.hostBarred m Reg.TIME_INCR_NOM = true → Completes (.timeIncrNomWrite m data) s fun t =>
     HostRefused 2 0 true Reg.TIME_INCR_NOM s t) ∧
   (∀ m data s, s.hostBarred m Reg.TIME_INCR_NOM = false → s.servo = 0 → Completes (.timeIncrNomWrite m data) s fun t =>
     t.reg Reg.TIME_INCR_NOM = data ∧
     t.regN (Reg.TIME_INCR_NOM + 4) = (s.stagedWord m (Reg.TIME_INCR_NOM + 4)).toNat % 256 ∧
     t.reg64 Reg.TIME_INCR_EFF = lowInt 40 ((t.reg64 Reg.TIME_INCR_NOM : Nat) + s.adj) ∧
     Frame (fun a => inRange 0x200020 0x200030 a || a == Reg.XBAR_INFLIGHT) [] s t) ∧
   (∀ m data s, s.hostBarred m Reg.TIME_INCR_NOM = false → s.servo ≠ 0 → s.tally.silent = false →
     Completes (.timeIncrNomWrite m data) s fun t =>
     t.shown 84 ∧ FrameEv (fun a => a == Reg.XBAR_INFLIGHT) [] s t)) ∧
  (∀ (data : Word) (s : State), Completes (.timeCtrlWrite data) s fun t =>
     t.fld Reg.TIME_CTRL Fld.TIME_CTRL_AUDIO_RUN = Fld.TIME_CTRL_AUDIO_RUN.get data ∧ t.rate = s.rate ∧
     (s.audio = true → Fld.TIME_CTRL_AUDIO_RUN.get data = 0 → t.time.stopAsked = true) ∧
     (6 ≤ Fld.TIME_CTRL_RATE.get data → s.tally.silent = false → t.shown 84) ∧
     FrameEv (fun a => a == Reg.TIME_CTRL) [.time] s t)

/-- R30, R31, R75: a write of STEP or of SET waits for the next tick, and changes nothing before it; ordered together they are
refused with STEP_REFUSED at once. At the tick STEP adds TIME_ADJ to TIME_NOW, or subtracts it where its SIGN is set, and SET
writes it, both with STEP_DONE; while audio runs then, or with a nanosecond field beyond its range, the command is refused with
STEP_REFUSED and TIME_NOW takes its increment alone. That the increment of that tick comes before the command is the model's
reading (log entry 13). That the sum lies in the range of PT is a hypothesis: the manual states no PT outside it. -/
def Obligations.StepAndSet : Prop :=
  (∀ s : State, Completes (.step false) s fun t => t.time.cmds = s.time.cmds ++ [.step] ∧
     t.time = { s.time with cmds := t.time.cmds } ∧ Frame noRegs [.time] s t) ∧
  (∀ s : State, Completes (.set false) s fun t => t.time.cmds = s.time.cmds ++ [.set] ∧
     t.time = { s.time with cmds := t.time.cmds } ∧ Frame noRegs [.time] s t) ∧
  (∀ (s : State) (c : Instr), (c = .step true ∨ c = .set true) → s.tally.silent = false →
    Completes c s fun t => t.shown 71 ∧ FrameEv noRegs [] s t) ∧
  (∀ s : State, let now := (s.now + s.reg64 Reg.TIME_INCR_EFF) % ptWrap
    s.time.cmds = [.step] → s.audio = false → s.regN (Reg.TIME_ADJ + 4) < 1000000000 → s.tally.silent = false →
    testBit (s.reg (Reg.TIME_ADJ + 12)) 31 = false → now + s.timeAdj < ptWrap →
    Completes .tuClkTick s fun t => t.now = now + s.timeAdj ∧ t.time.cmds = [] ∧ t.shown 70 ∧
      FrameEv (fun a => inRange 0x200010 0x200020 a || inRange 0x200080 0x200100 a || a == Reg.HADC_STATUS)
        [.time, .lamp, .hadc] s t) ∧
  (∀ s : State, let now := (s.now + s.reg64 Reg.TIME_INCR_EFF) % ptWrap
    s.time.cmds = [.step] → s.audio = false → s.regN (Reg.TIME_ADJ + 4) < 1000000000 → s.tally.silent = false →
    testBit (s.reg (Reg.TIME_ADJ + 12)) 31 = true → s.timeAdj ≤ now →
    Completes .tuClkTick s fun t => t.now = now - s.timeAdj ∧ t.time.cmds = [] ∧ t.shown 70 ∧
      FrameEv (fun a => inRange 0x200010 0x200020 a || a == Reg.HADC_STATUS) [.time, .lamp, .hadc] s t) ∧
  (∀ s : State, s.time.cmds = [.set] → s.audio = false → s.regN (Reg.TIME_ADJ + 4) < 1000000000 → s.tally.silent = false →
    Completes .tuClkTick s fun t => t.now = s.timeAdj ∧ t.time.cmds = [] ∧ t.shown 70 ∧
      FrameEv (fun a => inRange 0x200010 0x200020 a || inRange 0x200080 0x200100 a || a == Reg.HADC_STATUS)
        [.time, .lamp, .hadc] s t) ∧
  (∀ (s : State) (c : TimeCmd), s.time.cmds = [c] → s.tally.silent = false →
    (s.audio = true ∨ 1000000000 ≤ s.regN (Reg.TIME_ADJ + 4)) →
    Completes .tuClkTick s fun t => t.now = (s.now + s.reg64 Reg.TIME_INCR_EFF) % ptWrap ∧ t.time.cmds = [] ∧ t.shown 71 ∧
      FrameEv (fun a => inRange 0x200010 0x200020 a || a == Reg.HADC_STATUS) [.time, .lamp, .hadc] s t)

/-- R49, R50, R54, R76, R594, R673: the servo. ENABLE written 0 and SERVO_RESET return it to FREE, with P, I, adj and the
samples in flight gone; a write of TIME_SERVO_CTRL takes its fields and ends the correction of a PLL that it does not steer.
Each sample written to TIME_SERVO_OFFSET while that is the source is used as R49 computes it, or discarded as an outlier, and
moves the servo as the table of R54 says: into ACQUIRE from FREE and HOLDOVER, from ACQUIRE to LOCKED, and back. That with
OUTLIER_MULT = 0 the limit is infinite is the model's reading (log entry 89), that SYNTH_x_STEER reads 0 from the write that ends
the steering is log entry 81, and that the oldest of several results in flight takes effect and FREE drops them all is log entry
106. An applied result gives P, I, adj and the effective increment. On a time-out the servo goes to HOLDOVER with P at 0 and adj from I alone. -/
def Obligations.ServoStates : Prop :=
  ((∀ s, Completes .servoReset s fun t => t.servo = 0 ∧ t.adj = 0 ∧ t.reg Reg.TIME_SERVO_INTEG = 0 ∧ t.time.i = 0 ∧
     t.time.p = 0 ∧ t.time.out = [] ∧ t.reg64 Reg.TIME_INCR_EFF = lowInt 40 (s.reg64 Reg.TIME_INCR_NOM : Nat) ∧
     Frame (fun a => a == Reg.TIME_STATUS || inRange 0x200028 0x200030 a || inRange 0x20005C 0x200064 a) [.time] s t) ∧
   (∀ (data : Word) (s : State), Completes (.servoCtrlWrite data) s fun t =>
     (∀ f ∈ [Fld.TIME_SERVO_CTRL_ENABLE, Fld.TIME_SERVO_CTRL_SOURCE, Fld.TIME_SERVO_CTRL_STEER_A,
       Fld.TIME_SERVO_CTRL_STEER_B, Fld.TIME_SERVO_CTRL_HOLDOVER_MS], t.fld Reg.TIME_SERVO_CTRL f = f.get data) ∧
     (Fld.TIME_SERVO_CTRL_STEER_A.get data = 0 → t.reg (Reg.SYNTH_STEER 0) = 0) ∧
     (Fld.TIME_SERVO_CTRL_STEER_B.get data = 0 → t.reg (Reg.SYNTH_STEER 1) = 0) ∧
     (Fld.TIME_SERVO_CTRL_ENABLE.get data = 0 → t.servo = 0 ∧ t.adj = 0 ∧ t.time.p = 0 ∧ t.time.i = 0 ∧
       t.reg Reg.TIME_SERVO_INTEG = 0 ∧ t.time.out = [] ∧
       t.reg64 Reg.TIME_INCR_EFF = lowInt 40 (s.reg64 Reg.TIME_INCR_NOM : Nat) ∧
       Frame (fun a => a == Reg.TIME_SERVO_CTRL || a == Reg.SYNTH_STEER 0 || a == Reg.SYNTH_STEER 1 ||
         a == Reg.TIME_STATUS || inRange 0x200028 0x200030 a || inRange 0x20005C 0x200064 a) [.time] s t) ∧
     (Fld.TIME_SERVO_CTRL_ENABLE.get data = 1 → t.time.out = s.time.out ∧ t.time.p = s.time.p ∧ t.time.i = s.time.i ∧
       Frame (fun a => a == Reg.TIME_SERVO_CTRL || a == Reg.SYNTH_STEER 0 || a == Reg.SYNTH_STEER 1) [.time] s t))) ∧
  ((∀ m data (s : State), s.hostBarred m Reg.TIME_SERVO_OFFSET = false →
     s.fld Reg.TIME_SERVO_CTRL Fld.TIME_SERVO_CTRL_SOURCE = 0 → s.tally.silent = false →
     Completes (.servoOffsetSample m data) s fun t => ServoMoves (s.servoTheta m data) s t ∧
       FrameEv (fun a => a == Reg.TIME_STATUS || a == Reg.TIME_SERVO_THETA || a == Reg.XBAR_INFLIGHT) [.time] s t) ∧
   (∀ m data (s : State), s.hostBarred m Reg.TIME_SERVO_OFFSET = false →
     s.fld Reg.TIME_SERVO_CTRL Fld.TIME_SERVO_CTRL_SOURCE ≠ 0 → Completes (.servoOffsetSample m data) s fun t =>
       Frame (fun a => a == Reg.XBAR_INFLIGHT) [] s t) ∧
   (∀ m data (s : State), s.hostBarred m Reg.TIME_SERVO_OFFSET = true →
     Completes (.servoOffsetSample m data) s fun t => HostRefused 2 0 true Reg.TIME_SERVO_OFFSET s t)) ∧
  ((∀ (s : State) (o : ServoOut) (l : List ServoOut), s.time.out = o :: l → -(2 ^ 31 : Int) ≤ o.adj → o.adj < 2 ^ 31 →
     Completes .servoAdjApply s fun t => t.adj = o.adj ∧ t.time.i = o.i ∧ t.time.p = o.p ∧ t.time.out = l ∧
       t.reg64 Reg.TIME_INCR_EFF = lowInt 40 ((s.reg64 Reg.TIME_INCR_NOM : Nat) + o.adj) ∧
       Frame (fun a => inRange 0x200028 0x200030 a || inRange 0x20005C 0x200064 a) [.time] s t) ∧
   (∀ s : State, s.time.out = [] → exec .servoAdjApply s = .next s) ∧
   (∀ s : State, (s.servo = 1 ∨ s.servo = 2) → s.tally.silent = false →
     -(2 ^ 31 : Int) < truncDiv s.integLast 256 → truncDiv s.integLast 256 < 2 ^ 31 →
     Completes .servoHoldoverTimeout s fun t => t.servo = 3 ∧ t.adj = -(truncDiv s.integLast 256) ∧ t.time.p = 0 ∧
       t.time.i = s.integLast ∧ t.time.out = [] ∧ t.shown 66 ∧
       FrameEv (fun a => a == Reg.TIME_STATUS || inRange 0x200028 0x200030 a || inRange 0x20005C 0x200064 a) [.time] s t) ∧
   (∀ s : State, s.servo ≠ 1 → s.servo ≠ 2 → exec .servoHoldoverTimeout s = .next s))

/-- R57-R62, R78: a write of MODE once or periodic arms a pulse output from its START, PERIOD and WIDTH, with its pin at the
inactive level that POLARITY gives; widths and periods that break R61 leave it unarmed with MODE 0 and CONFIG_ERR; an arming
less than a microsecond before the first edge skips it with PULSE_MISSED. Its edge and the end of its width move the pin once PT
has reached them, and MODE 0 stops it. R63-R65: an edge of an enabled capture, in a direction it selects and not within 10 ns of
the last captured one, writes PT and the direction to TIME_CAPn_LAST, and pushes them into its quire where TO_QUIRE is set; here
of a capture that does not feed the servo. An edge too soon counts in TIME_CAPn_DROP alone, and one that is not selected does
nothing. The model's choices: a START with 10^9 ns and more (log entries 87 and 110), TIME_CAPn_LAST exactly PT (log entry 88),
and an arming that ends a pulse in progress (log entry 90). -/
def Obligations.PulsesAndCaptures : Prop :=
  ((∀ (n : Fin 4) (data : Word) (s : State), s.tally.silent = false →
     (Fld.TIME_PULSE_CTRL_MODE.get data = 1 ∨ Fld.TIME_PULSE_CTRL_MODE.get data = 2) →
     let w := s.fld (Reg.TIME_PULSE_WIDTH n) Fld.TIME_PULSE_WIDTH_WIDTH
     let per := s.reg64 (Reg.TIME_PULSE_PERIOD n)
     let st := s.absPt (s.regN (Reg.TIME_PULSE_START n + 8)) (s.regN (Reg.TIME_PULSE_START n + 4))
       (s.regN (Reg.TIME_PULSE_START n))
     let train := Fld.TIME_PULSE_CTRL_MODE.get data = 2
     let legal := 5 ≤ w ∧ (train → 20 * nsUnit ≤ per ∧ (w + 5) * nsUnit ≤ per)
     Completes (.pulseArm n data) s fun t =>
       t.fld (Reg.TIME_PULSE_CTRL n) Fld.TIME_PULSE_CTRL_POLARITY = Fld.TIME_PULSE_CTRL_POLARITY.get data ∧
       t.pulsePin n = (Fld.TIME_PULSE_CTRL_POLARITY.get data == 1) ∧
       t.bit (Reg.TIME_PULSE_CTRL n) Fld.TIME_PULSE_CTRL_ARMED = (t.pulse n).armed ∧
       (legal → t.fld (Reg.TIME_PULSE_CTRL n) Fld.TIME_PULSE_CTRL_MODE = Fld.TIME_PULSE_CTRL_MODE.get data) ∧
       (legal → (s.now + usUnit : Nat) ≤ st →
         t.pulse n = ⟨true, decide train, st, if train then per else 0, w * nsUnit, 0, false⟩) ∧
       (legal → st < (s.now + usUnit : Nat) → ¬train → (t.pulse n).armed = false ∧ t.shown (74 + n)) ∧
       (legal → st < (s.now + usUnit : Nat) → train → (t.pulse n).armed = true ∧ t.shown (74 + n) ∧
         (s.now + usUnit : Nat) ≤ (t.pulse n).instant (t.pulse n).next ∧
         ∀ j, j < (t.pulse n).next → (t.pulse n).instant j < (s.now + usUnit : Nat)) ∧
       (¬legal → t.pulse n = {} ∧ t.fld (Reg.TIME_PULSE_CTRL n) Fld.TIME_PULSE_CTRL_MODE = 0 ∧ t.shown 84) ∧
       FrameEv (fun a => a == Reg.TIME_PULSE_CTRL n) [.time] s t) ∧
   (∀ (n : Fin 4) (data : Word) (s : State), Completes (.pulseStop n data) s fun t => t.pulse n = {} ∧
     t.bit (Reg.TIME_PULSE_CTRL n) Fld.TIME_PULSE_CTRL_ARMED = false ∧
     t.fld (Reg.TIME_PULSE_CTRL n) Fld.TIME_PULSE_CTRL_MODE = 0 ∧
     t.pulsePin n = (Fld.TIME_PULSE_CTRL_POLARITY.get data == 1) ∧
     Frame (fun a => a == Reg.TIME_PULSE_CTRL n) [.time] s t) ∧
   (∀ (n : Fin 4) (s : State), (s.pulse n).armed = true → (s.pulse n).high = false →
     (s.pulse n).instant (s.pulse n).next ≤ (s.now : Int) →
     Completes (.pulseEdge n) s fun t => t.pulse n = { s.pulse n with high := true, next := (s.pulse n).next + 1 } ∧
       t.pulsePin n = !(s.bit (Reg.TIME_PULSE_CTRL n) Fld.TIME_PULSE_CTRL_POLARITY) ∧
       Frame (fun a => a == Reg.TIME_PULSE_CTRL n) [.time] s t) ∧
   (∀ (n : Fin 4) (s : State), (s.pulse n).high = true →
     Completes (.pulseWidthEnd n) s fun t => (t.pulse n).high = false ∧ (t.pulse n).armed = (s.pulse n).train ∧
       t.bit (Reg.TIME_PULSE_CTRL n) Fld.TIME_PULSE_CTRL_ARMED = (s.pulse n).train ∧
       t.pulsePin n = s.bit (Reg.TIME_PULSE_CTRL n) Fld.TIME_PULSE_CTRL_POLARITY ∧
       Frame (fun a => a == Reg.TIME_PULSE_CTRL n) [.time] s t)) ∧
  ((∀ (n : Fin 4) (rising : Bool) (s : State),
     Fld.TIME_CAP_CTRL_ENABLE.get (s.reg (Reg.TIME_CAP_CTRL n)) = 1 →
     (Fld.TIME_CAP_CTRL_EDGE.get (s.reg (Reg.TIME_CAP_CTRL n)) = 3 ∨
       Fld.TIME_CAP_CTRL_EDGE.get (s.reg (Reg.TIME_CAP_CTRL n)) = (if rising then 1 else 2)) →
     s.capTooSoon n = false → s.fld Reg.TIME_SERVO_CTRL Fld.TIME_SERVO_CTRL_SOURCE ≠ n.val + 1 →
     let q := Fld.TIME_CAP_CTRL_QUIRE.get (s.reg (Reg.TIME_CAP_CTRL n))
     Completes (.captureEdge n rising) s fun t =>
       t.regN (Reg.TIME_CAP_LAST n) = s.now % 2 ^ 32 ∧ t.regN (Reg.TIME_CAP_LAST n + 4) = ptNs s.now ∧
       t.regN (Reg.TIME_CAP_LAST n + 8) = ptSec s.now % 2 ^ 32 ∧
       t.regN (Reg.TIME_CAP_LAST n + 12) = ptSec s.now / 2 ^ 32 % 2 ^ 16 + (if rising then 2 ^ 31 else 0) ∧
       (Fld.TIME_CAP_CTRL_TO_QUIRE.get (s.reg (Reg.TIME_CAP_CTRL n)) = 0 →
         Frame (fun a => inRange (Reg.TIME_CAP_LAST n) (Reg.TIME_CAP_LAST n + 16) a) [.time] s t) ∧
       (Fld.TIME_CAP_CTRL_TO_QUIRE.get (s.reg (Reg.TIME_CAP_CTRL n)) = 1 → s.quireOn q = true → s.quireSize q = 16 →
         s.quireCount q < quireDepth (s.reg (Reg.QUIRE_CFG q)) →
         t.read (s.quireAddr q (s.quireCount q)) 16 = [0, 4, 8, 12].flatMap (fun i =>
           wordBytes (t.reg (Reg.TIME_CAP_LAST n + i))))) ∧
   (∀ (n : Fin 4) (rising : Bool) (s : State),
     Fld.TIME_CAP_CTRL_ENABLE.get (s.reg (Reg.TIME_CAP_CTRL n)) = 1 →
     (Fld.TIME_CAP_CTRL_EDGE.get (s.reg (Reg.TIME_CAP_CTRL n)) = 3 ∨
       Fld.TIME_CAP_CTRL_EDGE.get (s.reg (Reg.TIME_CAP_CTRL n)) = (if rising then 1 else 2)) → s.capTooSoon n = true →
     Completes (.captureEdge n rising) s fun t =>
       (s.regN (Reg.TIME_CAP_DROP n) + 1 < 2 ^ 32 → t.regN (Reg.TIME_CAP_DROP n) = s.regN (Reg.TIME_CAP_DROP n) + 1) ∧
       FrameEv (fun a => a == Reg.TIME_CAP_DROP n) [] s t) ∧
   (∀ (n : Fin 4) (rising : Bool) (s : State),
     (Fld.TIME_CAP_CTRL_ENABLE.get (s.reg (Reg.TIME_CAP_CTRL n)) = 0 ∨
       Fld.TIME_CAP_CTRL_EDGE.get (s.reg (Reg.TIME_CAP_CTRL n)) = 0 ∨
       Fld.TIME_CAP_CTRL_EDGE.get (s.reg (Reg.TIME_CAP_CTRL n)) = (if rising then 2 else 1)) →
     exec (.captureEdge n rising) s = .next s))

/-- R40, R51-R56, R67, R70, R167, R169, R199, R518, R519: the instants of a folio. Its boundary shows the edge error of a steered
PLL, reports a slip beyond 20 ns, begins the re-alignment of the outputs that waits, and counts down a calibration step, whose
spare takes over at the last of its boundaries (the model's reading of R519, log entry 71); its release moves SEQ on; audio
starts and stops at a boundary; and the first host event record that is due goes to its quire. -/
def Obligations.FolioInstants : Prop :=
  (∀ (k : Nat) (errA errB : Word) (s : State), s.folio = k → s.tally.silent = false →
    Completes (.folioBoundary k errA errB) s fun t =>
      (s.steers 0 = true → t.reg (Reg.TIME_EDGE_ERR 0) = errA ∧ (5120 < errA.toInt.natAbs → t.shown 82)) ∧
      (s.steers 1 = true → t.reg (Reg.TIME_EDGE_ERR 1) = errB ∧ (5120 < errB.toInt.natAbs → t.shown 83)) ∧
      (s.aout.sync = true → t.aout.sync = false ∧ t.aout.realign = some s.time.ticks) ∧
      (∀ st, s.ain.step = some st → 1 < st.left → t.ain.step = some { st with left := st.left - 1 }) ∧
      (∀ st, s.ain.step = some st → st.left = 1 → st.ch < 16 → st.spare < 17 → t.ainMod st.ch = st.spare ∧
        t.ain.step = some { st with left := 0, first := k, old := s.chanRec st.ch, freed := s.ainMod st.ch }) ∧
      t.seq = s.seq ∧ t.pe = s.pe ∧ t.mem = s.mem ∧ t.clause = s.clause ∧ t.mix = s.mix) ∧
  (∀ (k : Nat) (errA errB : Word) (s : State), s.folio ≠ k → exec (.folioBoundary k errA errB) s = .next s) ∧
  (∀ (k : Nat) (s : State), s.releases k = true → Completes (.folioRelease k) s fun t => t.seq.released = some k ∧
    (s.seqState = 2 → t.seq.next = max s.seq.next (k + s.runahead + 1)) ∧
    (s.seqState = 3 → ∀ u ∈ t.seq.tasks, u.folio ≠ k)) ∧
  (∀ (k : Nat) (s : State), s.releases k = false → exec (.folioRelease k) s = .next s) ∧
  (∀ (k held ms : Nat) (s : State), s.audioStarts k held = true → s.tally.silent = false →
    Completes (.audioStart k held ms) s fun t => t.audio = true ∧ t.shown 72 ∧
      (s.seqState = 1 → t.seq.startArmed = some k) ∧ (s.seqState ≠ 1 → t.seq = s.seq) ∧
      KeepsOutside s.mem t.mem ledgerLo ledgerSize ∧ t.pe = s.pe ∧ t.clause = s.clause) ∧
  (∀ (k held ms : Nat) (s : State), s.audioStarts k held = false → exec (.audioStart k held ms) s = .next s) ∧
  (∀ (s : State), s.audio = true → s.time.stopAsked = true → Completes .audioStop s fun t => t.audio = false ∧
    t.time.stopAsked = false ∧ (s.seqState = 2 → s.seq.info ≠ [] → t.seqState = 3) ∧
    (s.seqState = 2 → s.seq.info = [] → t.seqState = 0) ∧
    Frame (fun a => a == Reg.TIME_STATUS || a == Reg.SEQ_STATUS) [.time, .seq] s t) ∧
  (∀ (s : State) (r : EventRec) (l : List EventRec), sortBy recordBefore s.time.records = r :: l → s.recordDue r = true →
    Completes .eventRecordPush s fun t => t.time.evSeq = s.time.evSeq + 1 ∧
      (s.quireOn r.quire = true → s.quireSize r.quire = 16 →
        s.quireCount r.quire < quireDepth (s.reg (Reg.QUIRE_CFG r.quire)) →
        t.read (s.quireAddr r.quire (s.quireCount r.quire)) 16 = r.bytes s.time.evSeq) ∧
      (∃ more, t.time.records = l ++ more) ∧
      FrameEv (fun a => a == Reg.QUIRE_COUNT r.quire || a == Reg.QUIRE_HEAD r.quire || a == Reg.QUIRE_PEND (r.quire / 32))
        [.time, .mem, .ecc] s t) ∧
  (∀ (s : State) (r : EventRec) (l : List EventRec), sortBy recordBefore s.time.records = r :: l → s.recordDue r = false →
    exec .eventRecordPush s = .next s)

/-- R88, R89, R92: an update that is not refused, by command or at the PT it was scheduled for, puts every value staged for the
PLL into its register, all at once, clears SCHED (for every update the model's choice, log entry 114), and leaves nothing staged.
Where a clause that is due commits at that same PT and updates the PLL, the two are one update, which comes with the commit (the
model's reading of which of them acts, log entry 124). R91, R93, R105: an update whose staged values break a limit changes
nothing but REFUSE and SCHED and raises SYNTH_REFUSED; a schedule closer than a microsecond is refused; SCHED is set by a legal
schedule and cleared by a cancel. A write that takes ENABLE from 0 to 1 gates the outputs, the model's reading (log entry 17). -/
def Obligations.SynthUpdates : Prop :=
  (∀ (x : Fin 2) (s : State) (c : Instr), (s.updateCode x).1 = 0 → SMap.rising s.synth.staged = true →
     (c = .update x ∨ (c = .synthScheduledUpdate x ∧ s.bit (Reg.SYNTH_CTRL x) Fld.SYNTH_CTRL_SCHED = true ∧
       s.updatePt x ≤ (s.now : Int) ∧ s.commitUpdates x = false)) →
     Completes c s fun t =>
       t.reg (Reg.SYNTH_RATIO x) = s.synthNext x (Reg.SYNTH_RATIO x) ∧
       t.reg (Reg.SYNTH_RATIO x + 4) = s.synthNext x (Reg.SYNTH_RATIO x + 4) ∧
       (∀ n, n < 8 → t.reg (Reg.SYNTH_OUT_CFG x n) = s.synthNext x (Reg.SYNTH_OUT_CFG x n)) ∧
       t.reg Reg.SYNTH_ROUTE = s.synthNext x Reg.SYNTH_ROUTE ∧
       t.bit (Reg.SYNTH_CTRL x) Fld.SYNTH_CTRL_SCHED = false ∧
       (∀ e ∈ t.synth.staged, synthOwns x e.1 = false) ∧
       Frame (synthOwns x) [.synth, .ain, .aout] s t) ∧
  (∀ (x : Fin 2) (s : State), s.commitUpdates x = true → exec (.synthScheduledUpdate x) s = .next s) ∧
  ((∀ (x : Fin 2) (s : State), (s.updateCode x).1 ≠ 0 → s.tally.silent = false →
     Completes (.update x) s fun t =>
       t.fld (Reg.SYNTH_STATUS x) Fld.SYNTH_STATUS_REFUSE = (s.updateCode x).1 % 4 ∧ t.shown 14 ∧
       t.bit (Reg.SYNTH_CTRL x) Fld.SYNTH_CTRL_SCHED = false ∧ t.synth = s.synth ∧
       FrameEv (fun a => a == Reg.SYNTH_STATUS x || a == Reg.SYNTH_CTRL x) [] s t) ∧
   (∀ (x : Fin 2) (s : State), s.updatePt x < ((s.now + usUnit : Nat) : Int) → s.tally.silent = false →
     Completes (.synthSched x) s fun t => t.fld (Reg.SYNTH_STATUS x) Fld.SYNTH_STATUS_REFUSE = 3 ∧ t.shown 14 ∧
       t.bit (Reg.SYNTH_CTRL x) Fld.SYNTH_CTRL_SCHED = false) ∧
   (∀ (x : Fin 2) (s : State), ((s.now + usUnit : Nat) : Int) ≤ s.updatePt x →
     Completes (.synthSched x) s fun t => t.bit (Reg.SYNTH_CTRL x) Fld.SYNTH_CTRL_SCHED = true ∧
       Frame (fun a => a == Reg.SYNTH_CTRL x) [] s t) ∧
   (∀ (x : Fin 2) (s : State), Completes (.synthCancel x) s fun t =>
     t.bit (Reg.SYNTH_CTRL x) Fld.SYNTH_CTRL_SCHED = false ∧ Frame (fun a => a == Reg.SYNTH_CTRL x) [] s t) ∧
   (∀ (x : Fin 2) (data : Word) (s : State), Completes (.synthCtrlWrite x data) s fun t =>
     t.bit (Reg.SYNTH_CTRL x) Fld.SYNTH_CTRL_ENABLE = (Fld.SYNTH_CTRL_ENABLE.get data == 1) ∧
     (s.bit (Reg.SYNTH_CTRL x) Fld.SYNTH_CTRL_ENABLE = false → Fld.SYNTH_CTRL_ENABLE.get data = 1 →
       t.bit (Reg.SYNTH_STATUS x) Fld.SYNTH_STATUS_GATED = true) ∧
     Frame (fun a => a == Reg.SYNTH_STATUS x || a == Reg.SYNTH_CTRL x) [] s t))

/-- R96, R94: the lock decision. LOCK rises, with the outputs no longer gated, at 1.5 V on the lock pin of a PLL that is not
locked, not in fast loss and without FILTER_ERR; it falls at 0.5 V and on a fast loss; at 3 V FILTER_ERR holds LOCK at 0. Each
of the four shows the voltage in LOCK_V, whatever it decides, and raises its event. That the thresholds are compared with 16 mV
times the read-back code is the model's choice (log entry 95). -/
def Obligations.SynthLockDecision : Prop :=
  (∀ (x : Fin 2) (v : BitVec 8) (s : State) (c : Instr),
    c ∈ [Instr.synthLock x v, .synthUnlock x v, .synthFastLoss x v, .synthFilterErr x v] → Completes c s fun t =>
      t.fld (Reg.SYNTH_STATUS x) Fld.SYNTH_STATUS_LOCK_V = v.toNat) ∧
  (∀ (x : Fin 2) (v : BitVec 8) (s : State), s.bit (Reg.SYNTH_STATUS x) Fld.SYNTH_STATUS_LOCK = false →
    (s.bit (Reg.SYNTH_STATUS x) Fld.SYNTH_STATUS_FILTER_ERR = true ∨ s.synth.fastLoss.toNat.testBit x = true) →
    Completes (.synthLock x v) s fun t => t.bit (Reg.SYNTH_STATUS x) Fld.SYNTH_STATUS_LOCK = false ∧
      Frame (fun a => a == Reg.SYNTH_STATUS x) [] s t) ∧
  (∀ (x : Fin 2) (v : BitVec 8) (s : State), 1500 ≤ 16 * v.toNat →
    s.bit (Reg.SYNTH_STATUS x) Fld.SYNTH_STATUS_LOCK = false →
    s.bit (Reg.SYNTH_STATUS x) Fld.SYNTH_STATUS_FILTER_ERR = false → s.synth.fastLoss.toNat.testBit x = false →
    s.tally.silent = false → Completes (.synthLock x v) s fun t =>
      t.bit (Reg.SYNTH_STATUS x) Fld.SYNTH_STATUS_LOCK = true ∧
      t.bit (Reg.SYNTH_STATUS x) Fld.SYNTH_STATUS_GATED = false ∧
      t.fld (Reg.SYNTH_STATUS x) Fld.SYNTH_STATUS_LOCK_V = v.toNat ∧ t.shown (12 + x) ∧
      FrameEv (fun a => a == Reg.SYNTH_STATUS x) [.synth, .ain, .aout] s t) ∧
  (∀ (x : Fin 2) (v : BitVec 8) (s : State), 16 * v.toNat ≤ 500 →
    s.bit (Reg.SYNTH_STATUS x) Fld.SYNTH_STATUS_LOCK = true → s.tally.silent = false →
    Completes (.synthUnlock x v) s fun t => t.bit (Reg.SYNTH_STATUS x) Fld.SYNTH_STATUS_LOCK = false ∧
      t.fld (Reg.SYNTH_STATUS x) Fld.SYNTH_STATUS_LOCK_V = v.toNat ∧ t.shown (10 + x) ∧
      FrameEv (fun a => a == Reg.SYNTH_STATUS x) [.synth] s t) ∧
  (∀ (x : Fin 2) (v : BitVec 8) (s : State), s.bit (Reg.SYNTH_STATUS x) Fld.SYNTH_STATUS_LOCK = true →
    s.tally.silent = false → Completes (.synthFastLoss x v) s fun t =>
      t.bit (Reg.SYNTH_STATUS x) Fld.SYNTH_STATUS_LOCK = false ∧ t.shown (10 + x) ∧
      t.fld (Reg.SYNTH_STATUS x) Fld.SYNTH_STATUS_LOCK_V = v.toNat ∧
      t.synth.fastLoss.toNat.testBit x = decide (500 < 16 * v.toNat) ∧
      FrameEv (fun a => a == Reg.SYNTH_STATUS x) [.synth] s t) ∧
  (∀ (x : Fin 2) (v : BitVec 8) (s : State), 3000 ≤ 16 * v.toNat →
    s.bit (Reg.SYNTH_STATUS x) Fld.SYNTH_STATUS_FILTER_ERR = false → s.tally.silent = false →
    Completes (.synthFilterErr x v) s fun t => t.bit (Reg.SYNTH_STATUS x) Fld.SYNTH_STATUS_FILTER_ERR = true ∧
      t.bit (Reg.SYNTH_STATUS x) Fld.SYNTH_STATUS_LOCK = false ∧ t.shown 15 ∧
      t.fld (Reg.SYNTH_STATUS x) Fld.SYNTH_STATUS_LOCK_V = v.toNat ∧
      FrameEv (fun a => a == Reg.SYNTH_STATUS x) [] s t)

/-- R109, R110, R129: MPY, MAC and MSU put the exact product of two Q1.31 words, added to or taken from the accumulator, into
ACC of every enabled lane, modulo 2^72, and set AOVF where the exact value lies outside the range. -/
def Obligations.MultiplyAccumulate : Prop :=
  ∀ (e : Fin 64) (f : InstrFields) (s : State) (c : Instr) (g : Int → Int → Int),
    (c, g) ∈ ([(.mpy e f, fun _ p => p), (.mac e f, fun a p => a + p), (.msu e f, fun a p => a - p)] :
      List (Instr × (Int → Int → Int))) →
    f.dst.toNat < 4 → f.aux = 0 → PeClear e f true (destAcc f.lmask f.dst.toNat) s →
    let v := fun l => g ((s.core e).ac l f.dst.toNat).toInt
      (((s.core e).vr l f.srca.toNat).toInt * ((s.core e).vr l f.srcb.toNat).toInt * 2)
    Completes c s fun t =>
      (∀ l, l < 4 → f.lane l = true → (t.core e).ac l f.dst.toNat = BitVec.ofInt 72 (v l)) ∧
      ((∃ l, l < 4 ∧ f.lane l = true ∧ (v l < -(2 ^ 71 : Int) ∨ 2 ^ 71 ≤ v l)) →
        t.bit (Reg.PE_STATUS e) Fld.PE_STATUS_AOVF = true) ∧
      ((∀ l, l < 4 → f.lane l = true → -(2 ^ 71 : Int) ≤ v l ∧ v l < 2 ^ 71) →
        t.bit (Reg.PE_STATUS e) Fld.PE_STATUS_AOVF = s.bit (Reg.PE_STATUS e) Fld.PE_STATUS_AOVF) ∧
      PeFrame e f true noLane (f.dest f.dst.toNat) noFlag false none s t

/-- R112, R117: the ALU operations that do not saturate, in every enabled lane; a shift takes its count from AUX or from the low
five bits of Vb. R117, R119: the compares write CF of the enabled lanes and nothing else of the operation. -/
def Obligations.LogicAndCompares : Prop :=
  (∀ (e : Fin 64) (f : InstrFields) (rc : Bool) (s : State) (c : Instr) (g : Word → Word → Bool → Word),
     let k := fun b : Word => if rc then b.toNat % 32 else f.aux.toNat
     (c, g) ∈ ([(.add e f, fun a b _ => a + b), (.sub e f, fun a b _ => a - b),
       (.min e f, fun a b _ => if b.toInt < a.toInt then b else a),
       (.max e f, fun a b _ => if a.toInt < b.toInt then b else a),
       (.and e f, fun a b _ => a &&& b), (.or e f, fun a b _ => a ||| b), (.xor e f, fun a b _ => a ^^^ b),
       (.not e f, fun a _ _ => ~~~a), (.shl e f rc, fun a b _ => a <<< k b), (.shr e f rc, fun a b _ => a.sshiftRight (k b)),
       (.shrl e f rc, fun a b _ => a >>> k b), (.sel e f, fun a b cf => if cf then a else b)] :
       List (Instr × (Word → Word → Bool → Word))) →
     PeClear e f true (destV f.lmask f.dst.toNat) s → Completes c s fun t =>
       (∀ l, l < 4 → f.lane l = true → (t.core e).vr l f.dst.toNat =
         g ((s.core e).vr l f.srca.toNat) ((s.core e).vr l f.srcb.toNat) ((s.core e).cf.toNat.testBit l)) ∧
       t.bit (Reg.PE_STATUS e) Fld.PE_STATUS_SATF = s.bit (Reg.PE_STATUS e) Fld.PE_STATUS_SATF ∧
       PeFrame e f true (f.dest f.dst.toNat) noLane noFlag false none s t) ∧
  (∀ (e : Fin 64) (f : InstrFields) (s : State) (c : Instr) (g : Word → Word → Bool),
     (c, g) ∈ ([(.cmpeq e f, fun a b => decide (a = b)), (.cmplt e f, fun a b => decide (a.toInt < b.toInt)),
       (.cmple e f, fun a b => decide (a.toInt ≤ b.toInt))] : List (Instr × (Word → Word → Bool))) →
     PeClear e f true [] s → Completes c s fun t =>
       (∀ l, l < 4 → f.lane l = true → (t.core e).cf.toNat.testBit l =
         g ((s.core e).vr l f.srca.toNat) ((s.core e).vr l f.srcb.toNat)) ∧
       PeFrame e f true noLane noLane f.lane false none s t)

/-- R113: the saturating ALU operations limit the exact result to a word in every enabled lane; an instruction in which any lane
was limited sets SATF and counts once in PE_SAT_COUNT. -/
def Obligations.AluWithSaturation : Prop :=
  ∀ (e : Fin 64) (f : InstrFields) (rc : Bool) (s : State) (c : Instr) (g : Int → Int → Nat → Int),
    (c, g) ∈ ([(.adds e f, fun a b _ => a + b), (.subs e f, fun a b _ => a - b), (.negs e f, fun a _ _ => -a),
      (.abss e f, fun a _ _ => (a.natAbs : Int)), (.shls e f rc, fun a _ k => a * 2 ^ k)] :
      List (Instr × (Int → Int → Nat → Int))) →
    PeClear e f true (destV f.lmask f.dst.toNat) s →
    let v := fun l => g ((s.core e).vr l f.srca.toNat).toInt ((s.core e).vr l f.srcb.toNat).toInt
      (if rc then ((s.core e).vr l f.srcb.toNat).toNat % 32 else f.aux.toNat)
    Completes c s fun t =>
      (∀ l, l < 4 → f.lane l = true → (t.core e).vr l f.dst.toNat =
        BitVec.ofInt 32 (if v l < -(2 ^ 31 : Int) then -(2 ^ 31 : Int) else if 2 ^ 31 ≤ v l then 2 ^ 31 - 1 else v l)) ∧
      ((∃ l, l < 4 ∧ f.lane l = true ∧ (v l < -(2 ^ 31 : Int) ∨ 2 ^ 31 ≤ v l)) →
        t.bit (Reg.PE_STATUS e) Fld.PE_STATUS_SATF = true ∧
        t.regN (Reg.PE_SAT_COUNT e) = min (s.regN (Reg.PE_SAT_COUNT e) + 1) 0xFFFFFFFF) ∧
      ((∀ l, l < 4 → f.lane l = true → -(2 ^ 31 : Int) ≤ v l ∧ v l < 2 ^ 31) →
        t.bit (Reg.PE_STATUS e) Fld.PE_STATUS_SATF = s.bit (Reg.PE_STATUS e) Fld.PE_STATUS_SATF ∧
        t.regN (Reg.PE_SAT_COUNT e) = s.regN (Reg.PE_SAT_COUNT e)) ∧
      PeFrame e f true (f.dest f.dst.toNat) noLane noFlag false none s t

/-- R110, R112: the accumulator operations, in every enabled lane, modulo 2^72 with AOVF where the exact value does not fit.
R110, R111, R130: the moves between accumulators and lane registers: RDL, RDM and RDH read bits 31..0, 63..32 and 71..64 (sign
extended), WRL, WRM and WRH replace them, and STS stores the accumulator shifted right by 32 + AUX and limited to a word. -/
def Obligations.AccumulatorOperations : Prop :=
  (∀ (e : Fin 64) (f : InstrFields) (s : State) (c : Instr) (g : Int → Int → Int → Int),
     (c, g) ∈ ([(.clr e f, fun _ _ _ => 0), (.lda e f, fun _ _ v => v * 2 ^ 32), (.adda e f, fun d a _ => d + a),
       (.suba e f, fun d a _ => d - a), (.mova e f, fun _ a _ => a), (.nega e f, fun _ a _ => -a),
       (.shla e f, fun _ a _ => a * 2 ^ f.aux.toNat), (.shra e f, fun _ a _ => a / 2 ^ f.aux.toNat)] :
       List (Instr × (Int → Int → Int → Int))) →
     PeClear e f true (destAcc f.lmask (f.dst.toNat % 4)) s →
     let v := fun l => g ((s.core e).ac l (f.dst.toNat % 4)).toInt ((s.core e).ac l (f.srca.toNat % 4)).toInt
       ((s.core e).vr l f.srca.toNat).toInt
     Completes c s fun t =>
       (∀ l, l < 4 → f.lane l = true → (t.core e).ac l (f.dst.toNat % 4) = BitVec.ofInt 72 (v l)) ∧
       ((∃ l, l < 4 ∧ f.lane l = true ∧ (v l < -(2 ^ 71 : Int) ∨ 2 ^ 71 ≤ v l)) →
         t.bit (Reg.PE_STATUS e) Fld.PE_STATUS_AOVF = true) ∧
       ((∀ l, l < 4 → f.lane l = true → -(2 ^ 71 : Int) ≤ v l ∧ v l < 2 ^ 71) →
         t.bit (Reg.PE_STATUS e) Fld.PE_STATUS_AOVF = s.bit (Reg.PE_STATUS e) Fld.PE_STATUS_AOVF) ∧
       PeFrame e f true noLane (f.dest (f.dst.toNat % 4)) noFlag false none s t) ∧
  ((∀ (e : Fin 64) (f : InstrFields) (s : State) (c : Instr) (g : BitVec 72 → Word),
     (c, g) ∈ ([(.rdl e f, fun a => a.extractLsb' 0 32), (.rdm e f, fun a => a.extractLsb' 32 32),
       (.rdh e f, fun a => (a.extractLsb' 64 8).signExtend 32)] : List (Instr × (BitVec 72 → Word))) →
     PeClear e f true (destV f.lmask f.dst.toNat) s → Completes c s fun t =>
       (∀ l, l < 4 → f.lane l = true → (t.core e).vr l f.dst.toNat = g ((s.core e).ac l (f.srca.toNat % 4))) ∧
       PeFrame e f true (f.dest f.dst.toNat) noLane noFlag false none s t) ∧
   (∀ (e : Fin 64) (f : InstrFields) (s : State) (c : Instr) (lo n : Nat),
     (c, lo, n) ∈ ([(.wrl e f, 0, 32), (.wrm e f, 32, 32), (.wrh e f, 64, 8)] : List (Instr × Nat × Nat)) →
     PeClear e f true (destAcc f.lmask (f.dst.toNat % 4)) s → Completes c s fun t =>
       (∀ l, l < 4 → f.lane l = true → ∀ i, i < 72 → ((t.core e).ac l (f.dst.toNat % 4)).getLsbD i =
         if lo ≤ i ∧ i < lo + n then ((s.core e).vr l f.srca.toNat).getLsbD (i - lo)
         else ((s.core e).ac l (f.dst.toNat % 4)).getLsbD i) ∧
       PeFrame e f true noLane (f.dest (f.dst.toNat % 4)) noFlag false none s t) ∧
   (∀ (e : Fin 64) (f : InstrFields) (s : State), f.aux.toNat ≤ 8 → PeClear e f true (destV f.lmask f.dst.toNat) s →
     let v := fun l => ((s.core e).ac l (f.srca.toNat % 4)).toInt / 2 ^ (32 + f.aux.toNat)
     Completes (.sts e f) s fun t =>
       (∀ l, l < 4 → f.lane l = true → (t.core e).vr l f.dst.toNat =
         BitVec.ofInt 32 (if v l < -(2 ^ 31 : Int) then -(2 ^ 31 : Int) else if 2 ^ 31 ≤ v l then 2 ^ 31 - 1 else v l)) ∧
       ((∃ l, l < 4 ∧ f.lane l = true ∧ (v l < -(2 ^ 31 : Int) ∨ 2 ^ 31 ≤ v l)) →
         t.bit (Reg.PE_STATUS e) Fld.PE_STATUS_SATF = true) ∧
       PeFrame e f true (f.dest f.dst.toNat) noLane noFlag false none s t))

/-- R139-R141: add-compare-select. Each enabled lane makes two butterflies on metrics modulo 2^24: the candidates of V(DST+i)
are V(SRCA+2i) plus the branch metric and V(SRCA+2i+1) minus it, those of V(DST+2+i) the other way round; an equal pair keeps
the first one, and TRACE shifts 16 decisions in. -/
def Obligations.AddCompareSelect : Prop :=
  ∀ (e : Fin 64) (f : InstrFields) (s : State) (c : Instr) (better : Int → Bool),
    (c, better) ∈ ([(.acsMax e f, fun d => decide (0 < d)), (.acsMin e f, fun d => decide (d < 0))] :
      List (Instr × (Int → Bool))) →
    f.srca.toNat % 4 = 0 → f.dst.toNat % 4 = 0 →
    PeClear e f true ([0, 1, 2, 3].flatMap (fun i => destV f.lmask (f.dst.toNat + i))) s →
    let p := fun l i => (((s.core e).vr l (f.srca.toNat + 2 * i)).setWidth 24 : BitVec 24)
    let q := fun l i => (((s.core e).vr l (f.srca.toNat + 2 * i + 1)).setWidth 24 : BitVec 24)
    let lam := fun l i => ((((s.core e).vr l f.srcb.toNat).extractLsb' (16 * i) 16).signExtend 24 : BitVec 24)
    let pick := fun (x y : BitVec 24) => if better (y - x).toInt then y else x
    Completes c s fun t =>
      (∀ l i, l < 4 → i < 2 → f.lane l = true →
        (t.core e).vr l (f.dst.toNat + i) = (pick (p l i + lam l i) (q l i - lam l i)).signExtend 32 ∧
        (t.core e).vr l (f.dst.toNat + 2 + i) = (pick (p l i - lam l i) (q l i + lam l i)).signExtend 32) ∧
      t.trace e / 2 ^ 16 = s.trace e % 2 ^ 48 ∧
      (∀ l i, l < 4 → i < 2 → f.lane l = true →
        (t.trace e).testBit (4 * l + 2 * i) = better ((q l i - lam l i) - (p l i + lam l i)).toInt ∧
        (t.trace e).testBit (4 * l + 2 * i + 1) = better ((q l i + lam l i) - (p l i - lam l i)).toInt) ∧
      PeFrame e f true (fun l r => f.lane l && decide (f.dst.toNat ≤ r) && decide (r < f.dst.toNat + 4)) noLane noFlag true
        none s t

/-- R118, R131, R132, R674: LDI puts its immediate, and MOVE the value of a register, into a lane register of the enabled lanes
or, from the lowest enabled lane or lane 0 where none is (R118), into an engine-wide register, of which 16-bit ones keep the low
bits. -/
def Obligations.MovesAndImmediates : Prop :=
  (∀ (e : Fin 64) (f : InstrFields) (s : State) (df : PeFile), fileOk e f.aux.toNat f.dst.toNat true = some df →
    PeClear e f false (if df = .v then destV f.lmask f.dst.toNat else [(df, f.dst.toNat)]) s →
    Completes (.ldi e f) s fun t =>
      (df = .v → ∀ l, l < 4 → f.lane l = true → (t.core e).vr l f.dst.toNat = f.imm) ∧
      (df = .a → (t.core e).ar f.dst.toNat = f.imm.toNat % 2 ^ 16) ∧
      (df = .m → SMap.find 0 (t.core e).m f.dst.toNat = f.imm) ∧
      (df = .o → (SMap.find 0 (t.core e).o f.dst.toNat).toNat = f.imm.toNat % 2 ^ 16) ∧
      (df = .lc → (∀ l ∈ (s.core e).loops, l.last ≠ s.pePc e) →
        (SMap.find 0 (t.core e).lc f.dst.toNat).toNat = f.imm.toNat % 2 ^ 16) ∧
      PeFrame e f false (fun l r => decide (df = .v) && f.dest f.dst.toNat l r) noLane noFlag false
        (some (df, f.dst.toNat)) s t) ∧
  (∀ (e : Fin 64) (f : InstrFields) (s : State) (df sf : PeFile), fileOk e f.aux.toNat f.dst.toNat true = some df →
    fileOk e f.srcb.toNat f.srca.toNat false = some sf →
    PeClear e f true (if df = .v then destV f.lmask f.dst.toNat else [(df, f.dst.toNat)]) s →
    let val := fun l => if sf = .v then ((s.core e).vr l f.srca.toNat).toNat
      else (s.core e).engReg (s.trace e) sf f.srca.toNat
    Completes (.move e f) s fun t =>
      (df = .v → ∀ l, l < 4 → f.lane l = true → (t.core e).vr l f.dst.toNat = BitVec.ofNat 32 (val l)) ∧
      (df = .a → (t.core e).ar f.dst.toNat = val (lowLane f.lmask) % 2 ^ 16) ∧
      (df = .m → SMap.find 0 (t.core e).m f.dst.toNat = BitVec.ofNat 32 (val (lowLane f.lmask))) ∧
      (df = .o → (SMap.find 0 (t.core e).o f.dst.toNat).toNat = val (lowLane f.lmask) % 2 ^ 16) ∧
      (df = .lc → (∀ l ∈ (s.core e).loops, l.last ≠ s.pePc e) →
        (SMap.find 0 (t.core e).lc f.dst.toNat).toNat = val (lowLane f.lmask) % 2 ^ 16) ∧
      PeFrame e f true (fun l r => decide (df = .v) && f.dest f.dst.toNat l r) noLane noFlag false
        (some (df, f.dst.toNat)) s t)

/-- R118-R123, R125, R126, R128: the memory slots, by MOVE_NOP, whose operation does nothing. A load of any width puts the words at
the slot's address into the enabled lanes, a store those of the enabled lanes there, as R121 deals them out, whichever the other
slot is; the address register is then stepped, linear, modulo or bit-reversed, or in offset mode the offset register. Without a
lane nothing is moved and the step is made. With the other slot unused, no byte changes but the stored words, and a register that
the mode does not step stays. -/
def Obligations.MemorySlots : Prop :=
  (∀ (e : Fin 64) (f : InstrFields) (s : State), PeClear e f true [] s → Completes (.moveNop e f) s fun t =>
    PeFrame e f true noLane noLane noFlag false none s t) ∧
  (∀ (e : Fin 64) (f : InstrFields) (s : State) (inY : Bool) (sl : Slot) (ea : Nat), PeClear e f true [] s →
    Slot.of (if inY then ySlot f else xSlot f) = sl → sl.am ≠ 7 → SlotAddress e sl s ea →
    Completes (.moveNop e f) s fun t => SlotMoves e f inY sl ea s t ∧ SlotSteps e f sl s t ∧
      ((Slot.of (if inY then xSlot f else ySlot f)).am = 7 →
        (sl.am = 0 ∨ sl.am = 4 → (t.core e).ar sl.areg = (s.core e).ar sl.areg) ∧
        (storedLanes f.lmask sl = [] → t.mem = s.mem) ∧
        (∀ x, (∀ l ∈ storedLanes f.lmask sl, x < xyAddr e inY ea + laneOff sl.width l ∨
            xyAddr e inY ea + laneOff sl.width l + 4 ≤ x) →
          Memory.byte t.mem x = Memory.byte s.mem x)))

/-- R133-R135, R118: control. Outside the end of a repeat body NOP and a branch not taken go on to the next instruction, a taken
branch goes to its target, REP and REPV with a count enter a repeat level, and with a count of 0 skip the body. -/
def Obligations.ControlFlow : Prop :=
  (∀ (e : Fin 64) (f : InstrFields) (s : State), PeClear e f false [] s →
    (∀ l ∈ (s.core e).loops, l.last ≠ s.pePc e) → s.pePc e + 1 < 4096 → Completes (.nop e f) s fun t =>
      t.pePc e = s.pePc e + 1 ∧
      (s.fetchErr e false = false → t.reg64 (Reg.PE_CYCLES e) = (s.reg64 (Reg.PE_CYCLES e) + 1) % 2 ^ 64) ∧
      (t.core e).loops = (s.core e).loops ∧ PeFrame e f false noLane noLane noFlag false none s t) ∧
  (∀ (e : Fin 64) (f : InstrFields) (s : State), PeClear e f false [] s → 0 ≤ branchTarget (s.pePc e) f →
    branchTarget (s.pePc e) f < 4096 → Completes (.br e f) s fun t =>
      (t.pePc e : Int) = (s.pePc e : Int) + 1 + signed 16 (f.imm.toNat / 2 ^ 16) ∧
      PeFrame e f false noLane noLane noFlag false none s t) ∧
  (∀ (e : Fin 64) (f : InstrFields) (s : State), PeClear e f false [] s → f.aux.toNat % 4 < 3 →
    (∀ l ∈ (s.core e).loops, l.last ≠ s.pePc e) → s.pePc e + 1 < 4096 → 0 ≤ branchTarget (s.pePc e) f →
    branchTarget (s.pePc e) f < 4096 → Completes (.brc e f) s fun t =>
      let cf := fun l => (s.core e).cf.toNat.testBit l
      (t.pePc e : Int) = (if (f.aux.toNat % 4 = 0 ∧ ∃ l, l < 4 ∧ f.lane l = true ∧ cf l = true) ∨
          (f.aux.toNat % 4 = 1 ∧ ∀ l, l < 4 → f.lane l = true → cf l = true) ∨
          (f.aux.toNat % 4 = 2 ∧ ∀ l, l < 4 → f.lane l = true → cf l = false)
        then (s.pePc e : Int) + 1 + signed 16 (f.imm.toNat / 2 ^ 16) else (s.pePc e : Int) + 1) ∧
      PeFrame e f false noLane noLane noFlag false none s t) ∧
  (∀ (e : Fin 64) (f : InstrFields) (s : State) (c : Instr) (n : Nat),
    (c, n) ∈ ([(.rep e f, f.imm.toNat / 2 ^ 16),
      (.repv e f, ((s.core e).vr (lowLane f.lmask) f.srca.toNat).toNat % 2 ^ 16)] : List (Instr × Nat)) →
    PeClear e f false [] s → f.imm.toNat % 2 ^ 12 ≠ 0 → (s.core e).loops.length < 3 →
    (∀ l ∈ (s.core e).loops, l.first ≤ s.pePc e → s.pePc e ≤ l.last → s.pePc e + f.imm.toNat % 2 ^ 12 ≤ l.last) →
    n ≠ 0 → s.pePc e + 1 < 4096 → Completes c s fun t =>
      t.pePc e = s.pePc e + 1 ∧
      (t.core e).loops = (s.core e).loops ++
        [⟨(s.core e).loops.length, s.pePc e + 1, s.pePc e + f.imm.toNat % 2 ^ 12, false⟩] ∧
      SMap.find 0 (t.core e).lc (s.core e).loops.length = BitVec.ofNat 16 n ∧
      PeFrame e f false noLane noLane noFlag false none s t) ∧
  (∀ (e : Fin 64) (f : InstrFields) (s : State) (c : Instr) (n : Nat),
    (c, n) ∈ ([(.rep e f, f.imm.toNat / 2 ^ 16),
      (.repv e f, ((s.core e).vr (lowLane f.lmask) f.srca.toNat).toNat % 2 ^ 16)] : List (Instr × Nat)) →
    PeClear e f false [] s → f.imm.toNat % 2 ^ 12 ≠ 0 → n = 0 →
    (∀ l ∈ (s.core e).loops, l.first ≤ s.pePc e → s.pePc e ≤ l.last → s.pePc e + f.imm.toNat % 2 ^ 12 ≤ l.last) →
    (∀ l ∈ (s.core e).loops, l.last ≠ s.pePc e + f.imm.toNat % 2 ^ 12) →
    s.pePc e + f.imm.toNat % 2 ^ 12 + 1 < 4096 → Completes c s fun t =>
      t.pePc e = s.pePc e + f.imm.toNat % 2 ^ 12 + 1 ∧ (t.core e).loops = (s.core e).loops)

/-- R138, R146, R154, R117: WAIT goes on once no transfer with a named tag is outstanding and stalls before; END ends the task's
instructions; TRAP and a word of no assigned class fault the engine with their code, at their PC, with their event. -/
def Obligations.WaitEndTrap : Prop :=
  (∀ (e : Fin 64) (f : InstrFields) (s : State), PeClear e f false [] s →
    (∀ x ∈ (s.core e).xfers, f.imm.toNat.testBit x.tag = false) → (∀ l ∈ (s.core e).loops, l.last ≠ s.pePc e) →
    s.pePc e + 1 < 4096 → Completes (.wait e f) s fun t =>
      t.pePc e = s.pePc e + 1 ∧ PeFrame e f false noLane noLane noFlag false none s t) ∧
  (∀ (e : Fin 64) (f : InstrFields) (s : State), PeClear e f false [] s →
    (∃ x ∈ (s.core e).xfers, f.imm.toNat.testBit x.tag = true) → Completes (.wait e f) s fun t =>
      t.core e = { s.core e with stalled := true } ∧ t.pePc e = s.pePc e ∧ t.peState e = s.peState e ∧
      PeFrame e f false noLane noLane noFlag false none s t) ∧
  (∀ (e : Fin 64) (f : InstrFields) (s : State), s.peIssues e = true → s.fetchBad e = false →
    Completes (.endTask e f) s fun t => (t.core e).ended = true ∧ t.pePc e = s.pePc e ∧ t.peState e = 2 ∧
      (s.fetchErr e false = false → t.reg64 (Reg.PE_CYCLES e) = (s.reg64 (Reg.PE_CYCLES e) + 1) % 2 ^ 64) ∧
      PeFrame e f false noLane noLane noFlag false none s t) ∧
  (∀ (e : Fin 64) (f : InstrFields) (s : State) (c : Instr) (code addr : Nat),
    (c, code, addr) ∈ ([(.trap e f, 9, f.imm.toNat % 2 ^ 16), (.illegalInstruction e f, 1, 0)] : List (Instr × Nat × Nat)) →
    s.peIssues e = true → s.fetchBad e = false → Completes c s (Faulted e ⟨code, 0, addr⟩ s)) ∧
  (∀ (e : Fin 64) (s : State), s.peState e = 2 → s.fld (Reg.PE_TASK_LIMIT e) ⟨0, 24⟩ ≠ 0 →
    Completes (.peOverrun e) s (Faulted e ⟨7, 0, 0⟩ s))

/-- R117, R133, R139, R143-R145, R152-R155: an instruction that meets faults writes nothing: its engine is FAULTED with one of
them, and no register, flag or byte of memory that it names changes. Stated of every instruction that issues with an operation
of its own, whatever the faults of the operation, of its slots and of a register written twice; of every instruction whose word
shows an uncorrectable error; of the far transfers; and, with the code, of every form of an operation that is illegal. Which of
several faults is reported is free (log entry 1). That an XFER is judged before it waits for a tag or a place is the model's
reading (log entry 37). -/
def Obligations.FaultSuppressesWrites : Prop :=
  (∀ (e : Fin 64) (f : InstrFields) (rc : Bool) (s : State), ∀ x ∈ issueOps e f rc s, s.peIssues e = true →
    s.fetchBad e = false → s.peFaults e f x.2.1 (x.2.2 (s.core e)) ≠ [] →
    Completes x.1 s fun t => ∃ y ∈ s.peFaults e f x.2.1 (x.2.2 (s.core e)), Faulted e y s t) ∧
  (∀ (e : Fin 64) (f : InstrFields) (rc : Bool) (s : State), ∀ c ∈ engineInstrs e f rc s, s.peIssues e = true →
    s.fetchBad e = true → Completes c s (Faulted e ⟨8, 0, 0⟩ s)) ∧
  (∀ (e : Fin 64) (f : InstrFields) (s : State) (c : Instr) (put inY : Bool),
    (c, put, inY) ∈ ([(.getx e f, false, false), (.gety e f, false, true), (.putx e f, true, false),
      (.puty e f, true, true)] : List (Instr × Bool × Bool)) →
    let loc := (s.core e).ar (f.aux.toNat % 8)
    let far := ((s.core e).vr (lowLane f.lmask) f.srca.toNat).toNat
    let fs := xferFaults (decide (8 ≤ f.dst.toNat)) loc far (xferLen f)
    s.peIssues e = true → s.fetchBad e = false →
    (fs ≠ [] → Completes c s fun t => ∃ y ∈ fs, Faulted e y s t) ∧
    (fs = [] → s.xferStalls e (f.dst.toNat % 8)
        (s.engineTxns e (f.dst.toNat % 8) far (xferLen f) (s.core e).qos put).1.length = false →
      put = true → s.eccWords true 4 (xyAddr e inY loc) (xferLen f) ≠ 0 → Completes c s (Faulted e ⟨8, 3, 0⟩ s))) ∧
  (∀ (e : Fin 64) (f : InstrFields) (s : State) (c : Instr) (slots : Bool) (code : Nat),
    s.peIssues e = true → s.fetchBad e = false → s.peFaults e f slots (.error ⟨code, 0, 0⟩) = [⟨code, 0, 0⟩] →
    ((c ∈ [.mpy e f, .mac e f, .msu e f] ∧ slots = true ∧ code = 1 ∧ (4 ≤ f.dst.toNat ∨ f.aux ≠ 0)) ∨
      (c = .sts e f ∧ slots = true ∧ code = 1 ∧ 8 < f.aux.toNat) ∨
      (c ∈ [.acsMax e f, .acsMin e f] ∧ slots = true ∧ code = 1 ∧ (f.srca.toNat % 4 ≠ 0 ∨ f.dst.toNat % 4 ≠ 0)) ∨
      (c = .move e f ∧ slots = true ∧ code = 1 ∧
        (fileOk e f.aux.toNat f.dst.toNat true = none ∨ fileOk e f.srcb.toNat f.srca.toNat false = none)) ∨
      (c = .ldi e f ∧ slots = false ∧ code = 1 ∧ fileOk e f.aux.toNat f.dst.toNat true = none) ∨
      (c = .brc e f ∧ slots = false ∧ code = 1 ∧ f.aux.toNat % 4 = 3) ∨
      (c ∈ [.rep e f, .repv e f] ∧ slots = false ∧ code = 2 ∧ (f.imm.toNat % 2 ^ 12 = 0 ∨
        ∃ l ∈ (s.core e).loops, l.first ≤ s.pePc e ∧ s.pePc e ≤ l.last ∧ l.last < s.pePc e + f.imm.toNat % 2 ^ 12))) →
    Completes c s (Faulted e ⟨code, 0, 0⟩ s))

/-- R137, R143-R145, R147, R437, R675: a far transfer that meets no fault and finds a place, its crossbar tags within the 8 of
the engine and the 64 of its cluster, leaves the engine; one that finds none stalls. It leaves so: it stands among the
outstanding ones under its tag, its transactions wait at the crossbar, a PUT takes its data and enters the digest at once, and
the engine goes on. R145, R148, R150: a transfer that the crossbar has finished retires: a GET puts its data into local memory
and nothing else of it, a PUT nothing, and the tag is free. -/
def Obligations.FarTransfers : Prop :=
  (∀ (e : Fin 64) (f : InstrFields) (s : State) (c : Instr) (put inY : Bool),
     (c, put, inY) ∈ ([(.getx e f, false, false), (.gety e f, false, true), (.putx e f, true, false),
       (.puty e f, true, true)] : List (Instr × Bool × Bool)) →
     let loc := (s.core e).ar (f.aux.toNat % 8)
     let far := ((s.core e).vr (lowLane f.lmask) f.srca.toNat).toNat
     s.peIssues e = true → s.fetchBad e = false → f.dst.toNat < 8 → loc % 16 = 0 → far % 16 = 0 →
     loc + xferLen f ≤ 0x10000 → ((vatLo ≤ far ∧ far + xferLen f ≤ vatHi) ∨ 0x80000000 ≤ far) →
     let n := (s.engineTxns e f.dst.toNat far (xferLen f) (s.core e).qos put).1.length
     (s.core e).xfers.length < 8 → (∀ x ∈ (s.core e).xfers, x.tag ≠ f.dst.toNat) → s.engineTags e + n ≤ 8 →
     (∀ c8 : Fin 8, c8.val = e.val / 8 → s.clusterTags c8 + n ≤ 64) →
     (put = true → s.eccWords true 4 (xyAddr e inY loc) (xferLen f) = 0) →
     (∀ l ∈ (s.core e).loops, l.last ≠ s.pePc e) → s.pePc e + 1 < 4096 →
     Completes c s fun t =>
       let data := if put then s.read (xyAddr e inY loc) (xferLen f) else []
       (t.core e).xfers = (s.core e).xfers ++
         [⟨f.dst.toNat, put, inY, loc, far, xferLen f, s.pePc e, if put then data else List.replicate (xferLen f) 0,
           false, false, false⟩] ∧
       (t.core e).crc = (if put then crc64 (s.core e).crc (leBytes 4 far ++ data) else (s.core e).crc) ∧
       s.xbar.waiting.length < t.xbar.waiting.length ∧ t.pePc e = s.pePc e + 1 ∧ (t.core e).v = (s.core e).v ∧
       (t.core e).acc = (s.core e).acc ∧ (t.core e).a = (s.core e).a ∧ t.mem = s.mem ∧
       FrameEv (fun a => peBlock e a || a == Reg.XBAR_INFLIGHT) [.pe, .xbar] s t) ∧
  (∀ (e : Fin 64) (f : InstrFields) (s : State) (c : Instr) (put inY : Bool),
     (c, put, inY) ∈ ([(.getx e f, false, false), (.gety e f, false, true), (.putx e f, true, false),
       (.puty e f, true, true)] : List (Instr × Bool × Bool)) →
     let loc := (s.core e).ar (f.aux.toNat % 8)
     let far := ((s.core e).vr (lowLane f.lmask) f.srca.toNat).toNat
     s.peIssues e = true → s.fetchBad e = false → xferFaults (decide (8 ≤ f.dst.toNat)) loc far (xferLen f) = [] →
     s.xferStalls e (f.dst.toNat % 8)
       (s.engineTxns e (f.dst.toNat % 8) far (xferLen f) (s.core e).qos put).1.length = true →
     Completes c s fun t => t.core e = { s.core e with stalled := true } ∧ t.pePc e = s.pePc e ∧ t.peState e = s.peState e ∧
       t.xbar = s.xbar ∧ t.mem = s.mem ∧ FrameEv (peBlock e) [.pe] s t) ∧
  (∀ (e : Fin 64) (tag : Fin 8) (s : State) (x : Xfer),
     (s.core e).xfers.find? (fun y => y.tag == tag.val) = some x → s.xferBusy e tag = false → x.err = false →
     x.drop = false → s.peState e = 2 → Completes (.xferRetire e tag false) s fun t =>
       (∀ y ∈ (t.core e).xfers, y ∈ (s.core e).xfers ∧ y.tag ≠ tag.val) ∧
       (x.put = false → t.read (xyAddr e x.inY x.loc) x.data.length = x.data) ∧
       (x.put = false → KeepsOutside s.mem t.mem (xyAddr e x.inY x.loc) x.data.length) ∧
       (x.put = true → t.mem = s.mem) ∧
       (x.deg = true → t.bit (Reg.PE_STATUS e) Fld.PE_STATUS_XDEG = true) ∧ t.pePc e = s.pePc e ∧
       Frame (fun a => a == Reg.PE_STATUS e) [.pe, .mem, .ecc] s t)

/-- R146-R148, R183: a task that has ended and has no transfer left completes: its digest, its count, and the engine back to
IDLE, or to OFFLINE without ENABLE; an engine that has drained, or is FAULTED without FAULT_HOLD, leaves its state the same way.
R148, R149, R151, R157, R594: ENABLE takes an OFFLINE engine to IDLE and an IDLE one to OFFLINE, an abort takes a running one to
DRAIN; of an abort, an END and a fault of one cycle the fault wins, then the abort. The memories of an OFFLINE engine, and of no
other, take a write of the enabled bytes, of the host only once the node is released; elsewhere its write is answered with cause
2. -/
def Obligations.EngineStates : Prop :=
  ((∀ (e : Fin 64) (s : State), s.peState e = 2 → (s.core e).ended = true → (s.core e).xfers = [] →
     Completes (.taskComplete e false false) s fun t =>
       t.peState e = (if s.bit (Reg.PE_CTRL e) Fld.PE_CTRL_ENABLE then 1 else 0) ∧ (t.core e).task = none ∧
       t.reg64 (Reg.PE_DIGEST e) = (if (s.core e).puts then (~~~(s.core e).crc).toNat else 0) ∧
       t.regN (Reg.PE_TASKS e) = (s.regN (Reg.PE_TASKS e) + 1) % 2 ^ 32 ∧ t.mem = s.mem ∧
       FrameEv (fun a => peBlock e a || seqRegs a) [.pe, .seq] s t) ∧
   (∀ (e : Fin 64) (s : State) (ab : Bool), exec (.taskComplete e ab true) s = .next s ∧
     exec (.taskComplete e true false) s = exec (.peAbort e false) s ∧ exec (.peAbort e true) s = .next s) ∧
   (∀ (e : Fin 64) (s : State) (c : Instr), (s.core e).xfers = [] →
     ((c = .peDrainDone e ∧ s.peState e = 3) ∨ (c = .peFaultRelease e ∧ s.peState e = 4 ∧
       s.bit (Reg.PE_CTRL e) Fld.PE_CTRL_FAULT_HOLD = false) ∨ (c = .clearFault e ∧ s.peState e = 4)) →
     Completes c s fun t =>
       t.peState e = (if s.bit (Reg.PE_CTRL e) Fld.PE_CTRL_ENABLE then 1 else 0) ∧ (t.core e).task = none ∧
       ((s.core e).task = none → t.mem = s.mem) ∧
       FrameEv (fun a => peBlock e a || seqRegs a || busRegs a) [.pe, .seq, .mem, .ecc] s t) ∧
   (∀ (e : Fin 64) (s : State), s.peState e = 4 → (s.core e).xfers ≠ [] → Completes (.clearFault e) s fun t =>
     t.bit (Reg.PE_STATUS e) Fld.PE_STATUS_CLEAR_PENDING = true ∧ t.peState e = 4 ∧
       Frame (fun a => a == Reg.PE_STATUS e) [] s t)) ∧
  ((∀ (e : Fin 64) (data : Word) (s : State), s.peState e < 2 → (s.core e).xfers = [] →
     Completes (.peEnableWrite e data) s fun t =>
       t.peState e = Fld.PE_CTRL_ENABLE.get data ∧
       t.fld (Reg.PE_CTRL e) Fld.PE_CTRL_ENABLE = Fld.PE_CTRL_ENABLE.get data ∧
       t.fld (Reg.PE_CTRL e) Fld.PE_CTRL_FAULT_HOLD = Fld.PE_CTRL_FAULT_HOLD.get data ∧
       FrameEv (fun a => a == Reg.PE_CTRL e || a == Reg.PE_STATUS e) [.pe] s t) ∧
   (∀ (e : Fin 64) (s : State), s.peState e = 2 → Completes (.peAbort e false) s fun t =>
     t.peState e = 3 ∧ t.core e = { s.core e with stalled := false } ∧
       Frame (fun a => a == Reg.PE_STATUS e || a == Reg.PE_CYCLES e || a == Reg.PE_CYCLES e + 4) [.pe, .events] s t) ∧
   (∀ (e : Fin 64) (s : State), s.peState e ≠ 2 → exec (.peAbort e false) s = .next s) ∧
   (∀ (m : RegMaster) (e : Fin 64) (off : Nat) (be : BitVec 4) (data : Word) (s : State), off < 0x28000 →
     s.hostBarred m (peBase e + off) = false → s.peState e = 0 →
     Completes (.peMemoryWrite m (BitVec.ofNat 32 (peBase e + off)) be data) s fun t =>
       (∀ i, i < 4 → Memory.byte t.mem (peBase e + off + i) =
         if be.getLsbD i then (wordBytes data).getD i 0 else Memory.byte s.mem (peBase e + off + i)) ∧
       KeepsOutside s.mem t.mem (peBase e + off) 4 ∧ Frame (fun a => a == Reg.XBAR_INFLIGHT) [.mem, .ecc] s t) ∧
   (∀ (e : Fin 64) (off : Nat) (be : BitVec 4) (data : Word) (s : State), off < 0x28000 →
     (s.peState e ≠ 0 ∨ s.hostBarred .host (peBase e + off) = true) →
     Completes (.peMemoryWrite .host (BitVec.ofNat 32 (peBase e + off)) be data) s fun t =>
       HostTold 2 0 true (peBase e + off) t ∧
       FrameEv (fun a => a == Reg.GLOBAL_HOST_ERR || a == Reg.GLOBAL_HOST_ERR_ADDR || a == Reg.XBAR_INFLIGHT) [.host] s t) ∧
   (∀ (m : RegMaster) (e : Fin 64) (off : Nat) (be : BitVec 4) (data : Word) (s : State), off < 0x28000 → m ≠ .host →
     s.peState e ≠ 0 → Completes (.peMemoryWrite m (BitVec.ofNat 32 (peBase e + off)) be data) s fun t =>
       Frame (fun a => a == Reg.XBAR_INFLIGHT) [] s t))

/-- R199, R204, R205: ENABLE arms an idle sequencer and disarms an armed one; a running one without folios in flight stops at
once, one with folios goes to STOPPING. At its start boundary an armed sequencer runs, and has created the tasks of RUNAHEAD
folios. -/
def Obligations.SequencerStates : Prop :=
  (∀ (data : Word) (s : State), Fld.SEQ_CTRL_ENABLE.get data = 1 → s.seqState = 0 →
    Completes (.seqEnableWrite data) s fun t => t.seqState = 1 ∧ t.fld Reg.SEQ_CTRL Fld.SEQ_CTRL_ENABLE = 1 ∧
      t.seq.startArmed = (if s.audio then some (s.folio + 1) else none) ∧
      Frame (fun a => a == Reg.SEQ_CTRL || a == Reg.SEQ_STATUS) [.seq] s t) ∧
  (∀ (data : Word) (s : State), Fld.SEQ_CTRL_ENABLE.get data = 0 →
    Completes (.seqEnableWrite data) s fun t => t.fld Reg.SEQ_CTRL Fld.SEQ_CTRL_ENABLE = 0 ∧
      (s.seqState = 1 → t.seqState = 0 ∧ t.seq.startArmed = none) ∧
      (s.seqState = 2 → s.seq.info = [] → t.seqState = 0) ∧ (s.seqState = 2 → s.seq.info ≠ [] → t.seqState = 3) ∧
      t.seq.tasks = s.seq.tasks ∧ Frame (fun a => a == Reg.SEQ_CTRL || a == Reg.SEQ_STATUS) [.seq] s t) ∧
  (∀ (k : Nat) (s : State), s.seqState = 1 → s.seq.startArmed = some k → s.audio = true → s.folio = k →
    Completes (.seqStart k) s fun t => t.seqState = 2 ∧ t.seq.first = k ∧ t.seq.next = k + s.runahead ∧
      t.seq.released = none ∧ (∀ p ∈ s.phrases, ∀ i, i < s.runahead → (t.task p (k + i)).isSome = true) ∧
      FrameEv (fun a => seqRegs a || busRegs a) [.seq] s t)

/-- R114, R115, R174, R177: a dispatch gives the first task in order that has a place to its place. An engine starts with
cleared registers, its descriptor in X memory, A0 at the descriptor and the phrase's entry point; MIX gets the task queued.
R171-R173: a feed signal sets the feed's present bit for the folio and counts its successors' tasks down, a task whose count
reaches 0 being ready; a second signal for the same folio is reported and counts nothing. -/
def Obligations.DispatchAndFeeds : Prop :=
  ((∀ (same : Bool) (s : State) (t : Task) (e : Fin 64), (s.seqState = 2 ∨ s.seqState = 3) →
     (s.dispatchCycle same).nextDispatch = some (t, e.val) → Completes (.taskDispatch same) s fun u =>
       u.peState e = 2 ∧ u.pePc e = s.pword t.phrase 0 / 2 ^ 16 % 2 ^ 12 ∧ u.trace e = 0 ∧
       u.core e = { a := [(0, 0xFFC0)], task := some (t.phrase, t.folio), qos := s.pword t.phrase 0 / 2 ^ 28 } ∧
       (∀ i, i < 16 → u.word (xyAddr e false 0xFFC0 + 4 * i) =
         (s.descriptor t (s.taskSlot t) e).getD i 0) ∧
       KeepsOutside s.mem u.mem (xyAddr e false 0xFFC0) 64 ∧
       (∀ v ∈ u.seq.tasks, v.phrase = t.phrase → v.folio = t.folio → v.st = .running e ∧ v.disp = true) ∧
       u.reg64 Reg.SEQ_DISPATCHED = (s.reg64 Reg.SEQ_DISPATCHED + 1) % 2 ^ 64 ∧
       Frame (fun a => peBlock e a || inRange Reg.SEQ_DISPATCHED 0x5000038 a)
         [.seq, .pe, .mem, .ecc] s u) ∧
   (∀ (same : Bool) (s : State) (t : Task), (s.seqState = 2 ∨ s.seqState = 3) →
     (s.dispatchCycle same).nextDispatch = some (t, 64) → Completes (.taskDispatch same) s fun u =>
       u.mix.queue.map (fun j => (j.phrase, j.folio)) = s.mix.queue.map (fun j => (j.phrase, j.folio)) ++
         [(t.phrase, t.folio)] ∧
       (∀ v ∈ u.seq.tasks, v.phrase = t.phrase → v.folio = t.folio → v.st = .mix ∧ v.disp = true) ∧
       Frame (inRange Reg.SEQ_DISPATCHED 0x5000038) [.seq, .mix] s u)) ∧
  ((∀ (f : Fin 2048) (k : Nat) (s : State), s.feedPresent f k = false → Completes (.feedSignal f k) s fun t =>
     t.feedPresent f k = true ∧
     (∀ (q : Nat) (u : Task), s.goodSucc (s.feedSucc f) = [q] → s.task q k = some u → u.count ≠ 0 →
       t.task q k = some { u with count := u.count - 1, st := if u.count = 1 ∧ u.st = .pending then .ready else u.st }) ∧
     FrameEv seqRegs [.seq] s t) ∧
   (∀ (f : Fin 2048) (k : Nat) (s : State), s.feedPresent f k = true → s.tally.silent = false →
     Completes (.feedSignal f k) s fun t => t.shown 209 ∧ t.seq = s.seq ∧ FrameEv noRegs [] s t))

/-- R180, R181, R183, R196, R201: tasks that are given up. At its deadline every open task of a folio is substituted, with
DEADLINE_MISS; a cancel and an ECC error of the tables substitute the open task they name. -/
def Obligations.TasksGivenUp : Prop :=
  (∀ (k : Nat) (s : State), s.seq.info.any (fun i => i.folio == k && !i.closed) = true → s.deadlinePt k ≤ s.now →
    s.tally.silent = false → Completes (.deadline k) s fun t =>
      (∀ u ∈ t.seq.tasks, u.folio = k → u.complete = true) ∧
      (∀ i ∈ t.seq.info, i.folio = k → i.closed = true) ∧ (s.openTasks k ≠ [] → t.shown 203) ∧
      (s.openTasks k = [] → t.mem = s.mem ∧ t.seq.tasks = s.seq.tasks) ∧
      FrameEv (fun a => seqRegs a || abortRegs a || busRegs a) [.seq, .pe, .mix, .mem, .ecc, .redun] s t) ∧
  (∀ (p : Fin 4096) (slot : Fin 4) (s : State) (u : Task),
    s.seq.tasks.find? (fun v => v.phrase == p.val && v.folio % 4 == slot.val && !v.complete) = some u →
    s.tally.silent = false → Completes (.seqCancel p slot) s fun t =>
      (∀ v ∈ t.seq.tasks, v.phrase = p → v.folio = u.folio → v.st = .substituted) ∧ t.shown 206 ∧
      t.regN Reg.SEQ_CANCEL_COUNT = min (s.regN Reg.SEQ_CANCEL_COUNT + if u.waits then 1 else 0) 0xFFFFFFFF ∧
      t.regN Reg.SEQ_SUBSTITUTED = min (s.regN Reg.SEQ_SUBSTITUTED + 1) 0xFFFFFFFF ∧
      FrameEv (fun a => seqRegs a || abortRegs a || busRegs a) [.seq, .pe, .mix, .mem, .ecc] s t) ∧
  (∀ (tag : Fin 16384) (s : State), s.tally.silent = false → Completes (.tableEcc tag) s fun t => t.shown 212 ∧
      (∀ u, s.seq.tasks.find? (fun v => v.phrase == tag.val / 4 && v.folio % 4 == tag.val % 4 && !v.complete) = some u →
        ∀ v ∈ t.seq.tasks, v.phrase = u.phrase → v.folio = u.folio → v.st = .substituted) ∧
      FrameEv (fun a => seqRegs a || abortRegs a || busRegs a) [.seq, .pe, .mix, .mem, .ecc] s t)

/-- R212, R213, R217, R230, R232, R678: MIX takes the task that waits first, shows it in MIX_STATUS, and is idle again at its
completion, fault or abort. A task that comes to its end has written its blocks and its state, and is DONE with its digest; one
that meets an error ends in MIX_FAULT. An abort of the task in execution stops it at a bus record, one of a queued task takes it
from the queue. How far the records had been taken at an abort is free (log entry 1). -/
def Obligations.MixTasks : Prop :=
  (∀ (s : State) (j : MixJob) (q : List MixJob), s.mix.running = none → s.mix.queue = j :: q →
    Completes .mixTaskStart s fun t => t.mix.running = some j ∧ t.mix.queue = q ∧ t.mix.aborting = false ∧
      t.bit Reg.MIX_STATUS Fld.MIX_STATUS_BUSY = true ∧
      t.regN Reg.MIX_STATUS = (1 + j.phrase * 2 ^ 4 + j.folio % 4 * 2 ^ 16) % 2 ^ 32 ∧
      Frame (fun a => a == Reg.MIX_STATUS) [.mix] s t) ∧
  (∀ (s : State), (s.mix.running ≠ none ∨ s.mix.queue = []) → exec .mixTaskStart s = .next s) ∧
  (∀ (s : State) (j : MixJob), s.mix.running = some j → s.mix.aborting = false → (s.mixWhole j).1.err = none →
    ((s.mixWhole j).2.unitWrite mixCode j.stateOut (s.mixWhole j).1.st).1 = true →
    Completes .mixTaskComplete s fun t => t.mix.running = none ∧ t.mix.queue = s.mix.queue ∧
      t.bit Reg.MIX_STATUS Fld.MIX_STATUS_BUSY = false ∧
      t.mem = ((s.mixWhole j).2.unitWrite mixCode j.stateOut (s.mixWhole j).1.st).2.mem ∧
      (∀ v, s.task j.phrase j.folio = some v → v.st = .mix →
        (t.task j.phrase j.folio).map (fun w => (w.st, w.digest)) = some (.done, mixDigest j (s.mixWhole j).1)) ∧
      FrameEv (fun a => mixRegs a || seqRegs a || busRegs a) [.seq, .mix, .mem, .ecc] s t) ∧
  (∀ (s : State) (j : MixJob), s.mix.running = some j → s.mix.aborting = false → (s.mixWhole j).1.err ≠ none →
    s.tally.silent = false → Completes .mixTaskComplete s fun t => t.mix.running = none ∧ t.mix.queue = s.mix.queue ∧
      t.bit Reg.MIX_STATUS Fld.MIX_STATUS_BUSY = false ∧ t.shown 226 ∧
      (∀ v, s.task j.phrase j.folio = some v → v.st = .mix →
        (t.task j.phrase j.folio).map (·.st) = some .substituted) ∧
      FrameEv (fun a => mixRegs a || seqRegs a || busRegs a) [.seq, .mix, .mem, .ecc] s t) ∧
  (∀ (s : State), (s.mix.running = none ∨ s.mix.aborting = true) → exec .mixTaskComplete s = .next s) ∧
  (∀ (s : State) (j : MixJob) (p : Fin 4096) (slot : Fin 4), s.mix.running = some j → j.phrase = p → j.folio % 4 = slot →
    Completes (.mixAbort p slot) s fun t => t.mix.running = none ∧ t.mix.queue = s.mix.queue ∧
      t.bit Reg.MIX_STATUS Fld.MIX_STATUS_BUSY = false ∧
      (∀ v, s.task j.phrase j.folio = some v → v.st = .mix →
        (t.task j.phrase j.folio).map (·.st) = some .substituted) ∧
      FrameEv (fun a => mixRegs a || seqRegs a || busRegs a) [.seq, .mix, .mem, .ecc] s t) ∧
  (∀ (s : State) (j : MixJob) (p : Fin 4096) (slot : Fin 4), s.mix.running = none →
    s.mix.queue.find? (fun j => j.phrase == p.val && j.folio % 4 == slot.val) = some j →
    Completes (.mixAbort p slot) s fun t => t.mix.running = none ∧ t.mix.queue = s.mix.queue.erase j ∧
      FrameEv (fun a => seqRegs a || busRegs a) [.seq, .mix, .mem, .ecc] s t)

/-- R241, R247, R248, R257: a converter channel enters ACQUIRE when it is enabled and OFF when it is disabled, and ignores any
other write while it is on; one that does not lock is reported; the channels of a group write their folio and the group signals
its feed. -/
def Obligations.ConverterChannels : Prop :=
  (∀ (n : Fin 64) (data : Word) (s : State), s.bit (Reg.SRC_CH_CFG n) Fld.SRC_CH_CFG_EN = false →
    Fld.SRC_CH_CFG_EN.get data = 1 → Completes (.srcCfgWrite n data) s fun t => t.srcState n = 1 ∧
      t.bit (Reg.SRC_CH_CFG n) Fld.SRC_CH_CFG_EN = true ∧ t.srcCh n = { cfg := t.reg (Reg.SRC_CH_CFG n) } ∧
      (∀ m : Fin 64, m ≠ n → t.srcCh m = s.srcCh m) ∧
      Frame (fun a => a == Reg.SRC_CH_CFG n || a == Reg.SRC_CH_STATE n || a == Reg.SRC_LOCKED || a == Reg.SRC_LOCKED + 4)
        [.src] s t) ∧
  (∀ (n : Fin 64) (data : Word) (s : State), s.bit (Reg.SRC_CH_CFG n) Fld.SRC_CH_CFG_EN = true →
    Fld.SRC_CH_CFG_EN.get data = 0 → Completes (.srcCfgWrite n data) s fun t => t.srcState n = 0 ∧
      t.bit (Reg.SRC_CH_CFG n) Fld.SRC_CH_CFG_EN = false ∧ t.reg64 Reg.SRC_LOCKED / 2 ^ n.val % 2 = 0 ∧
      Frame (fun a => a == Reg.SRC_CH_CFG n || a == Reg.SRC_CH_STATE n || a == Reg.SRC_LOCKED || a == Reg.SRC_LOCKED + 4)
        [.src] s t) ∧
  (∀ (n : Fin 64) (data : Word) (s : State), s.bit (Reg.SRC_CH_CFG n) Fld.SRC_CH_CFG_EN = true →
    Fld.SRC_CH_CFG_EN.get data = 1 → exec (.srcCfgWrite n data) s = .next s) ∧
  (∀ (n : Fin 64) (s : State), s.srcState n = 1 → s.tally.silent = false → Completes (.srcNolock n) s fun t =>
    t.shown 235 ∧ FrameEv noRegs [] s t) ∧
  (∀ (n : Fin 64) (s : State), s.srcState n ≠ 1 → exec (.srcNolock n) s = .next s) ∧
  (∀ (g : Fin 8) (k n : Nat) (s : State), s.srcGroup g = [n] → inVat (s.regN (Reg.SRC_CH_BASE n) + 32 * (k % 4)) 32 = true →
    s.regN (Reg.SRC_CH_BASE n) % 8 = 0 →
    Completes (.srcGroupFeed g k) s fun t => t.feedPresent (s.fld (Reg.SRC_GFEED g) Fld.SRC_GFEED_FEED) k = true ∧
      t.read (s.regN (Reg.SRC_CH_BASE n) + 32 * (k % 4)) 32 =
        ((List.range 8).map (fun j => (s.srcCh n).inSample k j)).flatMap wordBytes ∧
      KeepsOutside s.mem t.mem (s.regN (Reg.SRC_CH_BASE n) + 32 * (k % 4)) 32 ∧
      FrameEv seqRegs [.src, .mem, .ecc, .seq] s t) ∧
  (∀ (g : Fin 8) (k : Nat) (s : State), s.srcGroup g ≠ [] → Completes (.srcGroupFeed g k) s fun t =>
    t.feedPresent (s.fld (Reg.SRC_GFEED g) Fld.SRC_GFEED_FEED) k = true ∧
      FrameEv (fun a => seqRegs a || busRegs a) [.src, .mem, .ecc, .seq] s t) ∧
  (∀ (g : Fin 8) (k : Nat) (s : State), s.srcGroup g = [] → exec (.srcGroupFeed g k) s = .next s)

/-- R264-R269, R282, R288, R289, R291: a clause up to its arming. A submission to a free slot takes the image's header and is
VALIDATING; admission refuses it with a code and the offending record, or admits it and computes the RDLY that it stages (R239;
of the other staged clauses too, the model's reading, log entry 126); idle banks that are free start the filling, whose end
prepares the clause and leaves it waiting for its confirmation, or for C; CONFIRM and ABORT act only where they are allowed, and
are refused with CMD_ERR elsewhere. The model's readings: a CONFIRM at or after the arm deadline has the code of a wrong state
(log entry 47), and an ABORT up to FILLING leaves memory as it is (log entry 51). -/
def Obligations.ClauseUpToArming : Prop :=
  (∀ (m : RegMaster) (n : Fin 16) (s : State), (s.released = true ∨ m = .boot) → slotFree (s.slotState n) = true →
    inVat (s.regN Reg.CLAUSE_IMAGE) 32 = true → Completes (.clauseSubmit m n) s fun t => t.slotState n = 1 ∧
      t.reg (Reg.CLAUSE_SLOT_TAG n) = s.word (s.regN Reg.CLAUSE_IMAGE + 4) ∧
      t.reg (Reg.CLAUSE_SLOT_GEN n) = s.word (s.regN Reg.CLAUSE_IMAGE + 8) ∧
      (t.slot n).image = s.regN Reg.CLAUSE_IMAGE ∧ (t.slot n).submitPt = s.now ∧ (t.slot n).master = m ∧
      (t.slot n).nrec = (s.word (s.regN Reg.CLAUSE_IMAGE)).toNat % 2 ^ 13 ∧
      (∀ i : Fin 16, i ≠ n → t.slot i = s.slot i) ∧
      Frame (fun a => clauseRegs n a || a == Reg.XBAR_INFLIGHT) [.clause] s t) ∧
  (∀ (m : RegMaster) (n : Fin 16) (s : State), (s.released = true ∨ m = .boot) → slotFree (s.slotState n) = false →
    s.tally.silent = false → Completes (.clauseSubmit m n) s (CmdRefused n 14 (· == Reg.XBAR_INFLIGHT) s)) ∧
  (∀ (n : Fin 16) (s : State), s.slotState n = 1 →
    (∀ i : Fin 16, s.slotState i = 1 → (s.slot i).submittedBefore (s.slot n) = false) → s.tally.silent = false →
    Completes (.clauseAdmit n) s fun t =>
      (∀ code rec, s.admission n = .inl (code, rec) → t.slotState n = 10 ∧ t.shown 306 ∧
        t.fld (Reg.CLAUSE_SLOT_STATE n) Fld.CLAUSE_SLOT_STATE_CODE = code % 2 ^ 4 ∧
        t.fld (Reg.CLAUSE_SLOT_STATE n) Fld.CLAUSE_SLOT_STATE_RECORD = rec % 2 ^ 13 ∧
        t.regN Reg.CLAUSE_REFUSALS = min (s.regN Reg.CLAUSE_REFUSALS + 1) 0xFFFFFFFF ∧ t.clause = s.clause) ∧
      (∀ q, s.admission n = .inr q → t.slot n = { q with rdly := (t.slot n).rdly } ∧
        (∀ i : Fin 16, i ≠ n → t.slot i = { s.slot i with rdly := (t.slot i).rdly }) ∧
        t.slotState n = if (s.setSlot n q).banksBusy n true then 3 else 2) ∧
      FrameEv (fun a => clauseRegs n a || busRegs a) [.clause] s t) ∧
  (∀ (n : Fin 16) (s : State), s.slotState n = 3 → s.banksBusy n false = false →
    Completes (.clauseBankFree n) s fun t => t.slotState n = 2 ∧ Frame (clauseRegs n) [] s t) ∧
  (∀ (n : Fin 16) (s : State), s.slotState n = 2 → (s.slot n).immediate = false → s.tally.silent = false →
    Completes (.clauseFillDone n) s fun t => t.slotState n = (if (s.slot n).twoPhase then 4 else 5) ∧ t.shown 304 ∧
      t.mem = (s.fillSlot n).mem ∧ t.spare = (s.fillSlot n).spare ∧
      FrameEv (fun a => clauseRegs n a || busRegs a) [.mem, .ecc, .spare] s t) ∧
  (∀ (n : Fin 16) (s : State), s.slotState n = 2 → (s.slot n).immediate = true → s.tally.silent = false →
    EntriesExist (s.slot n).recs → Completes (.clauseFillDone n) s fun t => t.slotState n = 7 ∧ t.shown 304 ∧ t.shown 305 ∧
      t.reg Reg.CLAUSE_GEN_LAST = genMax (s.slot n).gen (s.reg Reg.CLAUSE_GEN_LAST) ∧
      RecordsInForce (s.slot n).recs (s.fillSlot n) t) ∧
  (∀ (n : Fin 16) (s : State), s.slotState n = 4 → s.now < s.armDeadline n → Completes (.clauseConfirm n) s fun t =>
    t.slotState n = 5 ∧ Frame (clauseRegs n) [] s t) ∧
  (∀ (n : Fin 16) (s : State), s.slotState n ≠ 4 ∨ s.armDeadline n ≤ s.now → s.tally.silent = false →
    Completes (.clauseConfirm n) s (CmdRefused n 15 noRegs s)) ∧
  (∀ (n : Fin 16) (s : State), 1 ≤ s.slotState n → s.slotState n ≤ 5 → s.beforeFreeze n = true →
    Completes (.clauseAbort n) s fun t => t.slotState n = 9 ∧ (t.slot n).endState = 12 ∧
      (s.slotState n ≤ 3 → t.mem = s.mem ∧ t.spare = s.spare) ∧
      FrameEv (fun a => clauseRegs n a || busRegs a) [.mem, .ecc, .spare, .clause] s t) ∧
  (∀ (n : Fin 16) (s : State), s.slotState n = 0 ∨ 6 ≤ s.slotState n ∨ s.beforeFreeze n = false →
    s.tally.silent = false → Completes (.clauseAbort n) s (CmdRefused n 15 noRegs s))

/-- R262, R269-R272, R284, R291, R292: what admission checks. An image of a wrong form is refused with FORMAT, one whose CRC
does not check with CRC; a clause that is admitted has passed every check, its guarantees fit within 85 % of what each target
delivers beside those of the clauses that are waiting, no object it writes is written by one of these, and its generation
follows theirs. -/
def Obligations.ClauseAdmission : Prop :=
  ∀ (n : Fin 16) (s : State), s.slotState n = 1 →
    (∀ i : Fin 16, s.slotState i = 1 → (s.slot i).submittedBefore (s.slot n) = false) → s.tally.silent = false →
    Completes (.clauseAdmit n) s fun t =>
      (((s.slot n).image % 16 ≠ 0 ∨ inVat (s.slot n).image 32 = false ∨ s.imgWord (s.slot n).image 0 % 2 ^ 13 = 0 ∨
        4096 < s.imgWord (s.slot n).image 0 % 2 ^ 13) → SlotRefused n 1 t) ∧
      (s.formatErr (s.slot n).image = none → s.imgCrcOk (s.slot n).image (s.slot n).nrec = false → SlotRefused n 2 t) ∧
      (t.slotState n = 10 ∨ t.slotState n = 2 ∨ t.slotState n = 3) ∧
      (t.slotState n ≠ 10 → s.imgCrcOk (s.slot n).image (s.slot n).nrec = true ∧ Admissible n s ∧
        ((s.slot n).nrec = s.imgWord (s.slot n).image 0 % 2 ^ 13 →
          ∀ r ∈ s.imgRecs (s.slot n).image (s.slot n).nrec, r.bad = false) ∧
        (t.slot n).recs = s.imgRecs (s.slot n).image (s.slot n).nrec ∧ (t.slot n).c = (s.commitTime n).2)

/-- R267, R280-R289, R293: a clause from its arm deadline on. One not armed by then unwinds, refused when it was not prepared
and expired when it waited for its confirmation; at its freeze point it is frozen; at C it commits; the end of an unwinding ends
it as it was to end; when the mirror pass of its last object can run it is done; and a retiring version that drains too long
loses its frames, but for the one in transmission. The model's readings: that frame goes on to its end (log entry 65), a slot
that unwinds from FILLING leaves memory as it is (log entry 51), and what the guarantees of a pair lack to zero comes off a later
change (log entry 125). -/
def Obligations.ClauseFromDeadline : Prop :=
  (∀ (n : Fin 16) (s : State), s.armDeadline n ≤ s.now → (s.slot n).immediate = false → 1 ≤ s.slotState n →
    s.slotState n ≤ 4 → Completes (.clauseArmDeadline n) s fun t => t.slotState n = 9 ∧
      (t.slot n).endState = (if s.slotState n = 4 then 11 else 10) ∧
      (s.slotState n ≤ 3 → t.mem = s.mem ∧ t.spare = s.spare) ∧
      FrameEv (fun a => clauseRegs n a || busRegs a) [.mem, .ecc, .spare, .clause] s t) ∧
  (∀ (n : Fin 16) (s : State), s.now < s.armDeadline n ∨ (s.slot n).immediate = true ∨ 5 ≤ s.slotState n →
    exec (.clauseArmDeadline n) s = .next s) ∧
  (∀ (n : Fin 16) (s : State), s.slotState n = 5 → s.beforeFreeze n = false → Completes (.clauseFreeze n) s fun t =>
    t.slotState n = 6 ∧ Frame (clauseRegs n) [] s t) ∧
  (∀ (n : Fin 16) (s : State), s.dueSlots = [n.val] → s.tally.silent = false → EntriesExist (s.slot n).recs →
    Completes (.clauseCommit n) s fun t => t.slotState n = 7 ∧ t.shown 305 ∧
    t.reg Reg.CLAUSE_GEN_LAST = genMax (s.slot n).gen (s.reg Reg.CLAUSE_GEN_LAST) ∧
    t.regN Reg.CLAUSE_COMMITS = min (s.regN Reg.CLAUSE_COMMITS + 1) 0xFFFFFFFF ∧
    (∀ p ∈ (s.slot n).affected, t.bankNewest p = !s.bankNewest p) ∧ RecordsInForce (s.slot n).recs s t) ∧
  (∀ (n : Fin 16) (s : State), n.val ∉ s.dueSlots → exec (.clauseCommit n) s = .next s) ∧
  (∀ (n : Fin 16) (s : State), s.slotState n = 9 → s.tally.silent = false → Completes (.clauseUnwindDone n) s fun t =>
    (t.slot n).recs = [] ∧
    ((s.slot n).endState = 10 → t.slotState n = 10 ∧ t.shown 306 ∧
      t.fld (Reg.CLAUSE_SLOT_STATE n) Fld.CLAUSE_SLOT_STATE_CODE = 7) ∧
    ((s.slot n).endState = 11 → t.slotState n = 11 ∧ t.shown 307) ∧
    ((s.slot n).endState = 12 → t.slotState n = 12 ∧ t.shown 308) ∧ FrameEv (clauseRegs n) [.clause] s t) ∧
  (∀ (n : Fin 16) (s : State), s.slotState n = 7 → (∀ o ∈ (s.slot n).mirror, s.mirrorReady (s.slot n) o = true) →
    Completes (.clauseMirrorDone n) s fun t => t.slotState n = 8 ∧ (t.slot n).mirror = [] ∧
      FrameEv (fun a => clauseRegs n a || busRegs a) [.mem, .ecc, .spare, .clause] s t) ∧
  (∀ (mac : Bool) (s : State) (c : Bool × Nat × Nat × Nat),
    s.freeRetired.clause.retiring.find? (fun r => r.1 == mac && decide (r.2.2.2 + 2 * usUnit ≤ s.now)) = some c →
    s.tally.silent = false → Completes (.drainTimeout mac) s fun t =>
      (∀ r ∈ t.clause.retiring, r ∈ s.clause.retiring ∧ (r.1 ≠ mac ∨ r.2.2.2 ≠ c.2.2.2)) ∧ t.shown 309 ∧
      (∀ p : Fin 8, ∀ f ∈ (t.egress p).timed ++ (t.egress p).bulk, f ∈ (s.egress p).timed ++ (s.egress p).bulk ∧
        ∀ r ∈ s.freeRetired.clause.retiring, r.1 = mac → r.2.2.2 = c.2.2.2 → f.holds r = false) ∧
      (∀ p : Fin 8, (t.egress p).current = (s.egress p).current) ∧
      FrameEv (fun a => a == Reg.CLAUSE_DRAIN_DISCARD) [.clause, .stream] s t) ∧
  (∀ (mac : Bool) (s : State),
    s.freeRetired.clause.retiring.find? (fun r => r.1 == mac && decide (r.2.2.2 + 2 * usUnit ≤ s.now)) = none →
    exec (.drainTimeout mac) s = .next s.freeRetired)

/-- R306-R318, R338: the transitions of a lane's state machine up to UP, each from the state it starts in, and none from another
one: enabling, auto-negotiation, training, alignment, link up with LANE_UP and PORT_UP, training failure with its reason, and
the end of BACKOFF. R310-R313, R318, R346: how a lane leaves UP. A retrain, a lost signal or block lock, and a degraded link
that is to go down train it again, and take the other lanes of its port that were in UP to ALIGN; a disable takes it to OFF and
a loop mode to TEST, which its end leaves for training. The felt lanes of a solo unit do not start (R18). SIGNAL follows the
signal (R345). Each counts in FAB_LINK_DOWNS and raises LANE_DOWN. That SIGNAL is 1 from AN_COMPLETE and TRAIN_READY on, and that
a lane with LOOP not 0 starts into TEST, is the model's reading (log entry 59). -/
def Obligations.LaneStates : Prop :=
  ((∀ (n : Fin 10) (data : Word) (s : State), Fld.FAB_LANE_CTRL_EN.get data = 1 → s.lane n = 0 →
     s.pllLocked (lanePll n) = true → s.laneDead n = false → Completes (.laneEnWrite n data) s fun t => t.laneOn n = true ∧
       t.lane n = (if t.laneLoop n ≠ 0 then 6 else if t.laneAn n then 1 else 2) ∧
       FrameEv (fun a => a == Reg.FAB_LANE_CTRL n || laneRegs n a) [] s t) ∧
   (∀ (n : Fin 10) (s : State), s.lane n = 1 → Completes (.anComplete n) s fun t => t.lane n = 2 ∧
     t.bit (Reg.FAB_LANE_STATUS n) Fld.FAB_LANE_STATUS_SIGNAL = true ∧ FrameEv (laneRegs n) [] s t) ∧
   (∀ (n : Fin 10) (precode : Bool) (s : State), s.lane n = 2 → Completes (.trainReady n precode) s fun t =>
     t.lane n = 3 ∧ t.bit (Reg.FAB_LANE_STATUS n) Fld.FAB_LANE_STATUS_SIGNAL = true ∧
     t.bit (Reg.FAB_LANE_STATUS n) Fld.FAB_LANE_STATUS_PRECODE = precode ∧ FrameEv (laneRegs n) [] s t) ∧
   (∀ (n : Fin 10) (s : State), s.lane n = 3 → (∀ l ∈ s.partners n, s.lane l = 3 ∨ s.lane l = 4) →
     s.tally.silent = false → Completes (.laneUp n) s fun t => t.lane n = 4 ∧ t.shown 96 ∧
       (∀ m, s.portOf n = some m → (∀ l ∈ s.partners n, s.lane l = 4) → t.shown 99 ∧
         t.bit (Reg.MAC_STATUS m) Fld.MAC_STATUS_LINK = true ∧ testBit (t.reg Reg.FAB_PORT_STATUS) m = true) ∧
       FrameEv (fun a => laneRegs n a || a == Reg.FAB_PORT_STATUS ||
         (List.range 8).any (fun m => a == Reg.MAC_STATUS m)) [] s t) ∧
   (∀ (n : Fin 10) (s : State), s.lane n = 1 ∨ s.lane n = 2 → s.tally.silent = false →
     Completes (.trainFail n) s fun t => t.lane n = 5 ∧ t.shown 98 ∧
       t.fld (Reg.FAB_LANE_STATUS n) Fld.FAB_LANE_STATUS_LAST_FAIL = s.lane n ∧ FrameEv (laneRegs n) [] s t) ∧
   (∀ (n : Fin 10) (skew : Bool) (s : State), s.lane n = 3 →
     (∀ l ∈ s.partners n, s.lane l ≠ 1 ∧ s.lane l ≠ 2 ∧ s.lane l ≠ 5 ∧ s.lane l ≠ 7) → s.tally.silent = false →
     Completes (.alignTimeout n skew) s fun t => t.lane n = 5 ∧ t.shown 98 ∧
       t.fld (Reg.FAB_LANE_STATUS n) Fld.FAB_LANE_STATUS_LAST_FAIL = (if skew then 4 else 3) ∧
       FrameEv (laneRegs n) [] s t) ∧
   (∀ (n : Fin 10) (s : State), s.lane n = 5 → Completes (.backoffExpiry n) s fun t =>
     t.lane n = (if s.laneLoop n ≠ 0 then 6 else if s.laneAn n then 1 else 2) ∧ FrameEv (laneRegs n) [] s t) ∧
   (∀ (n : Fin 10) (data : Word) (s : State), s.laneDead n = true → s.lane n = 0 → Fld.FAB_LANE_CTRL_EN.get data = 1 →
     Completes (.laneEnWrite n data) s fun t => t.lane n = 0 ∧ Frame (fun a => a == Reg.FAB_LANE_CTRL n) [] s t) ∧
   (∀ (n : Fin 10) (b : Bool) (s : State),
     (s.lane n ≠ 1 → exec (.anComplete n) s = .next s) ∧ (s.lane n ≠ 2 → exec (.trainReady n b) s = .next s) ∧
     (s.lane n ≠ 3 → exec (.laneUp n) s = .next s ∧ exec (.alignTimeout n b) s = .next s) ∧
     (s.lane n ≠ 5 → exec (.backoffExpiry n) s = .next s))) ∧
  ((∀ (n : Fin 10) (s : State) (c : Instr), s.lane n = 4 → s.tally.silent = false →
     (c = .laneRetrain n ∨ c = .laneDown n .signal ∨ c = .laneDown n .blockLock ∨ (c = .laneDown n .degrade ∧
       s.bit (Reg.FAB_LANE_STATUS n) Fld.FAB_LANE_STATUS_DEGRADED = true ∧
       s.bit (Reg.FAB_FEC_DEGRADE n) Fld.FAB_FEC_DEGRADE_DOWN_ON_DEGRADE = true)) →
     Completes c s fun t => t.lane n = (if s.laneLoop n ≠ 0 then 6 else if s.laneAn n then 1 else 2) ∧
       (∀ l ∈ s.partners n, t.lane l = if s.lane l = 4 then 3 else s.lane l) ∧
       t.regN (Reg.FAB_LINK_DOWNS n) = min (s.regN (Reg.FAB_LINK_DOWNS n) + 1) 0xFFFFFFFF ∧ t.shown 97 ∧
       (∀ m, s.portOf n = some m → s.portUp m = true → t.portUp m = false ∧ t.shown 100 ∧ t.egress m = {}) ∧
       FrameEv lossRegs [.stream] s t) ∧
   (∀ (n : Fin 10) (data : Word) (s : State), s.lane n = 4 → s.tally.silent = false →
     Fld.FAB_LANE_CTRL_EN.get data = 0 → Completes (.laneEnWrite n data) s fun t => t.laneOn n = false ∧ t.lane n = 0 ∧
       t.regN (Reg.FAB_LINK_DOWNS n) = min (s.regN (Reg.FAB_LINK_DOWNS n) + 1) 0xFFFFFFFF ∧ t.shown 97 ∧
       FrameEv (fun a => a == Reg.FAB_LANE_CTRL n || lossRegs a) [.stream] s t) ∧
   (∀ (n : Fin 10) (data : Word) (s : State), s.lane n = 4 → s.tally.silent = false →
     Fld.FAB_LANE_CTRL_LOOP.get data ≠ 0 → Completes (.laneLoopWrite n data) s fun t =>
       t.fld (Reg.FAB_LANE_CTRL n) Fld.FAB_LANE_CTRL_LOOP = Fld.FAB_LANE_CTRL_LOOP.get data ∧ t.lane n = 6 ∧
       t.regN (Reg.FAB_LINK_DOWNS n) = min (s.regN (Reg.FAB_LINK_DOWNS n) + 1) 0xFFFFFFFF ∧ t.shown 97 ∧
       FrameEv (fun a => a == Reg.FAB_LANE_CTRL n || lossRegs a) [.stream] s t) ∧
   (∀ (n : Fin 10) (data : Word) (s : State), s.lane n = 6 → Fld.FAB_LANE_CTRL_LOOP.get data = 0 →
     Completes (.laneLoopWrite n data) s fun t => t.laneLoop n = 0 ∧ t.lane n = (if s.laneAn n then 1 else 2) ∧
       FrameEv (fun a => a == Reg.FAB_LANE_CTRL n || laneRegs n a) [] s t) ∧
   (∀ (n : Fin 10) (s : State), Completes (.laneDown n .signal) s fun t =>
     t.bit (Reg.FAB_LANE_STATUS n) Fld.FAB_LANE_STATUS_SIGNAL = false ∧
       (s.lane n ≠ 4 → Frame (fun a => a == Reg.FAB_LANE_STATUS n) [] s t)) ∧
   (∀ (n : Fin 10) (cause : DownCause) (s : State), s.lane n ≠ 4 → cause ≠ .signal →
     exec (.laneRetrain n) s = .next s ∧ exec (.laneDown n cause) s = .next s))

/-- R83, R100, R102, R306, R307, R315-R317, R338: the rest of the fabric's commands: a legal port map takes effect while the
lanes that a port map can name are off, and an illegal one changes nothing; SerDes PLLs take their enables, start their lanes
when they lock, and report an unlock; a FEC window counts in ALIGN and UP and decides DEGRADED, and counts the bit errors of a
lane that checks PRBS31; a wake pattern occupies its lane, and a felt lane of a solo unit sends none (log entry 61). That a lane
starts into TEST at a lock, and SIGNAL at a FEC window, are the model's readings (log entry 59), and so is the window that counts
FAB_PRBS_ERR (log entry 60). -/
def Obligations.FabricControl : Prop :=
  (∀ (data : Word) (s : State), mapValid (data &&& 0xFFFFFF#32) = true → (∀ l, l < 11 → s.laneOn l = false) →
    Completes (.fabPortmapWrite data) s fun t => t.reg Reg.FAB_PORTMAP = data &&& 0xFFFFFF#32 ∧
      (∀ m, m < 8 → t.fld (Reg.MAC_STATUS m) Fld.MAC_STATUS_WIDTH = data.toNat / 2 ^ (2 * m) % 4) ∧
      Frame (fun a => a == Reg.FAB_PORTMAP || (List.range 8).any (fun m => a == Reg.MAC_STATUS m)) [] s t) ∧
  (∀ (data : Word) (s : State), mapValid (data &&& 0xFFFFFF#32) = false → s.tally.silent = false →
    Completes (.fabPortmapWrite data) s fun t => t.shown 106 ∧ FrameEv noRegs [] s t) ∧
  (∀ (data : Word) (s : State), Completes (.synthSerdesCtrlWrite data) s fun t =>
    (∀ p, p < 3 → t.pllOn p = testBit data (2 * p) ∧ (testBit data (2 * p) = false → t.pllLocked p = false) ∧
      (testBit data (2 * p) = true → t.pllLocked p = s.pllLocked p)) ∧
    Frame (fun a => a == Reg.SYNTH_SERDES_CTRL || a == Reg.SYNTH_SYS_STATUS ||
      (List.range 8).any (fun m => a == Reg.MAC_STATUS m)) [] s t) ∧
  (∀ (p : Fin 3) (s : State), s.pllOn p = true → Completes (.spllLock p) s fun t => t.pllLocked p = true ∧
    (∀ n, n < 10 → lanePll n = p.val → s.lane n = 0 → s.laneOn n = true → s.laneDead n = false →
      t.lane n = if s.laneLoop n ≠ 0 then 6 else if s.laneAn n then 1 else 2) ∧
    FrameEv (fun a => a == Reg.SYNTH_SYS_STATUS || (List.range 10).any (fun l => laneRegs l a)) [] s t) ∧
  (∀ (p : Fin 3) (s : State), s.pllOn p = true → s.pllLocked p = true → s.tally.silent = false →
    Completes (.spllUnlock p) s fun t => t.pllLocked p = false ∧ t.shown 9 ∧
      FrameEv (fun a => a == Reg.SYNTH_SYS_STATUS) [] s t) ∧
  (∀ (n : Fin 10) (corr uncorr sym prbs : Nat) (signal : Bool) (s : State), s.lane n = 3 ∨ s.lane n = 4 →
    s.tally.silent = false → Completes (.fecWindow n corr uncorr sym prbs signal) s fun t =>
      t.bit (Reg.FAB_LANE_STATUS n) Fld.FAB_LANE_STATUS_SIGNAL = signal ∧
      t.reg64 (Reg.FAB_FEC_CORR n) = (s.reg64 (Reg.FAB_FEC_CORR n) + corr) % 2 ^ 64 ∧
      t.reg64 (Reg.FAB_FEC_UNCORR n) = (s.reg64 (Reg.FAB_FEC_UNCORR n) + uncorr) % 2 ^ 64 ∧
      t.reg64 (Reg.FAB_FEC_SYMERR n) = (s.reg64 (Reg.FAB_FEC_SYMERR n) + sym) % 2 ^ 64 ∧
      (max 1 (s.fld (Reg.FAB_FEC_DEGRADE n) Fld.FAB_FEC_DEGRADE_THRESH) ≤ sym → t.shown 101 ∧
        t.bit (Reg.FAB_LANE_STATUS n) Fld.FAB_LANE_STATUS_DEGRADED = true) ∧
      (2 * sym < max 1 (s.fld (Reg.FAB_FEC_DEGRADE n) Fld.FAB_FEC_DEGRADE_THRESH) →
        t.bit (Reg.FAB_LANE_STATUS n) Fld.FAB_LANE_STATUS_DEGRADED = false) ∧
      FrameEv (fun a => a == Reg.FAB_LANE_STATUS n || inRange (Reg.FAB_FEC_CORR n) (Reg.FAB_FEC_CORR n + 24) a) [] s t) ∧
  (∀ (n : Fin 10) (corr uncorr sym prbs : Nat) (signal : Bool) (s : State), s.lane n = 6 → s.laneLoop n = 3 →
    Completes (.fecWindow n corr uncorr sym prbs signal) s fun t =>
      t.reg64 (Reg.FAB_PRBS_ERR n) = (s.reg64 (Reg.FAB_PRBS_ERR n) + prbs) % 2 ^ 64 ∧
      t.bit (Reg.FAB_LANE_STATUS n) Fld.FAB_LANE_STATUS_SIGNAL = signal ∧
      Frame (fun a => a == Reg.FAB_LANE_STATUS n || inRange (Reg.FAB_PRBS_ERR n) (Reg.FAB_PRBS_ERR n + 8) a) [] s t) ∧
  (∀ (data : Word) (s : State) (n : Fin 10), Fld.FAB_WAKE_CTRL_SEND.get data = 1 → s.laneDead n = true →
    Fld.FAB_WAKE_CTRL_SEND_LANE.get data = n → s.tally.silent = false → Completes (.wakeSend data) s fun t =>
      t.lane n = s.lane n ∧ t.shown 106 ∧ FrameEv (fun a => a == Reg.FAB_WAKE_CTRL) [] s t) ∧
  (∀ (data : Word) (s : State) (n : Fin 10), Fld.FAB_WAKE_CTRL_SEND.get data = 1 → s.laneDead n = false →
    Fld.FAB_WAKE_CTRL_SEND_LANE.get data = n → s.lane n ≠ 4 → s.lane n ≠ 6 → s.lane n ≠ 7 →
    Completes (.wakeSend data) s fun t => t.lane n = 7 ∧ t.bit Reg.FAB_WAKE_CTRL Fld.FAB_WAKE_CTRL_SENDING = true ∧
      FrameEv (laneRegs n) [] s t) ∧
  (∀ (n : Fin 10) (s : State), s.lane n = 7 → s.tally.silent = false → Completes (.wakeSent n) s fun t =>
    t.lane n = (if s.laneOn n then 5 else 0) ∧ t.shown 107 ∧ FrameEv (laneRegs n) [] s t)

/-- R313, R321-R336, R351-R355, R372-R382: frames received. A port that is down or disabled takes none; one that fails a check
is counted by its class; a PAUSE frame loads the pause timer, whose expiry ends the pause; a good frame is counted, and its
source learned; a good frame that finds no descriptor is lost, a PAUSE frame among them (the model's reading, log entry 63); aging
clears HIT and then VALID; and the close of a receive window selects the candidate held, or counts a miss, and signals the feed
with its last entry (when a window closes and what LAST then holds is the model's reading, log entry 64). -/
def Obligations.FramesReceived : Prop :=
  (∀ (p : Fin 8) (f : RxFrame) (s : State), s.portUp p = false ∨ s.bit (Reg.MAC_CTRL p) Fld.MAC_CTRL_RX_EN = false →
    exec (.frameReceive p f) s = .next s) ∧
  (∀ (p : Fin 8) (f : RxFrame) (s : State), s.portUp p = true → s.bit (Reg.MAC_CTRL p) Fld.MAC_CTRL_RX_EN = true →
    s.rxClass p f (s.untag p f.bytes) ≠ 0 → Completes (.frameReceive p f) s fun t =>
      t.reg64 (Reg.MAC_COUNTER p (classCounter (s.rxClass p f (s.untag p f.bytes)))) =
        (s.reg64 (Reg.MAC_COUNTER p (classCounter (s.rxClass p f (s.untag p f.bytes)))) + 1) % 2 ^ 64 ∧
      FrameEv (fun a => inRange Reg.STREAM_NODESC 0x2000034 a || (List.range 8).any (fun m =>
        inRange (Reg.MAC_COUNTER m 0) (Reg.MAC_COUNTER m 13) a)) [.stream] s t) ∧
  (∀ (p : Fin 8) (f : RxFrame) (s : State) (b : List Byte), s.portUp p = true →
    s.bit (Reg.MAC_CTRL p) Fld.MAC_CTRL_RX_EN = true → s.rxClass p f (s.untag p f.bytes) = 0 →
    b = (s.untag p f.bytes).bytes → etherAt b 12 = 0x8808 → etherAt b 14 = 1 →
    b.take 6 = [0x01, 0x80, 0xC2, 0x00, 0x00, 0x01] → s.bit (Reg.MAC_CTRL p) Fld.MAC_CTRL_PAUSE_RX_EN = true →
    s.descFree = true → Completes (.frameReceive p f) s fun t =>
      t.fld (Reg.MAC_PAUSE_LEFT p) Fld.MAC_PAUSE_LEFT_LEFT =
        min (etherAt b 16) (s.fld (Reg.MAC_PAUSE_MAX p) Fld.MAC_PAUSE_MAX_PAUSE_MAX) ∧
      t.bit (Reg.MAC_STATUS p) Fld.MAC_STATUS_PAUSED =
        (min (etherAt b 16) (s.fld (Reg.MAC_PAUSE_MAX p) Fld.MAC_PAUSE_MAX_PAUSE_MAX) != 0) ∧
      t.reg64 (Reg.MAC_COUNTER p 7) = (s.reg64 (Reg.MAC_COUNTER p 7) + 1) % 2 ^ 64 ∧
      FrameEv (fun a => a == Reg.MAC_PAUSE_LEFT p || a == Reg.MAC_STATUS p || inRange Reg.STREAM_MAC_COUNT 0x2000048 a ||
        inRange (Reg.MAC_COUNTER p 7) (Reg.MAC_COUNTER p 8) a) [.mem] s t) ∧
  (∀ (p : Fin 8) (f : RxFrame) (s : State), s.portUp p = true → s.bit (Reg.MAC_CTRL p) Fld.MAC_CTRL_RX_EN = true →
    s.rxClass p f (s.untag p f.bytes) = 0 → s.descFree = false → s.tally.silent = false →
    SMap.find 0 s.raised (limitKey 136 0) = 0 → Completes (.frameReceive p f) s fun t =>
      t.regN Reg.STREAM_NODESC = min (s.regN Reg.STREAM_NODESC + 1) 0xFFFFFFFF ∧ t.shown 136 ∧
      t.reg (Reg.MAC_PAUSE_LEFT p) = s.reg (Reg.MAC_PAUSE_LEFT p) ∧ t.stream = s.stream ∧
      FrameEv (fun a => inRange Reg.STREAM_MAC_COUNT 0x2000048 a ||
        inRange (Reg.MAC_COUNTER p 0) (Reg.MAC_COUNTER p 9) a) [.mem] s t) ∧
  (∀ (p : Fin 8) (f : RxFrame) (s : State) (g : RxInfo), s.portUp p = true →
    s.bit (Reg.MAC_CTRL p) Fld.MAC_CTRL_RX_EN = true → s.rxClass p f (s.untag p f.bytes) = 0 → g = s.untag p f.bytes →
    etherAt g.bytes 12 ≠ 0x8808 → s.descFree = true → Completes (.frameReceive p f) s fun t =>
      t.reg64 (Reg.MAC_COUNTER p 0) = (s.reg64 (Reg.MAC_COUNTER p 0) + 1) % 2 ^ 64 ∧
      t.reg64 (Reg.MAC_COUNTER p 1) = (s.reg64 (Reg.MAC_COUNTER p 1) + (f.bytes.length + 4)) % 2 ^ 64 ∧
      (s.filterLocal p f.bytes = false → (s.forwardSet p g).loc = false → (∀ i, testBit (s.reg Reg.STREAM_LEARN) p = true →
        isGroup (slice g.bytes 6 6) = false → s.macFind (slice g.bytes 6 6) g.vid = none →
        (bucketWays (macBucket (slice g.bytes 6 6) g.vid)).find? (fun i => !(s.macEntry i).valid) = some i →
        t.macEntry i = ⟨slice g.bytes 6 6, g.vid, 2 ^ p.val, false, false, true, true⟩) ∧
        FrameEv (fun a => inRange Reg.STREAM_MAC_COUNT 0x2000048 a || inRange (Reg.MAC_COUNTER p 0) (Reg.MAC_COUNTER p 2) a)
          [.stream, .mem] s t)) ∧
  (∀ (p : Fin 8) (s : State), Completes (.pauseTimerExpiry p) s fun t =>
    t.fld (Reg.MAC_PAUSE_LEFT p) Fld.MAC_PAUSE_LEFT_LEFT = 0 ∧ t.bit (Reg.MAC_STATUS p) Fld.MAC_STATUS_PAUSED = false ∧
    Frame (fun a => a == Reg.MAC_PAUSE_LEFT p || a == Reg.MAC_STATUS p) [] s t) ∧
  (∀ (i : Fin 16384) (hit : Bool) (s : State), s.fld Reg.STREAM_AGE Fld.STREAM_AGE_PERIOD ≠ 0 →
    (s.macEntry i).valid = true → (s.macEntry i).static = false → Completes (.macAgingSweep i hit) s fun t =>
      ((s.macEntry i).hit = true → hit = false → t.macEntry i = { s.macEntry i with hit := false }) ∧
      ((s.macEntry i).hit = true → hit = true → ∃ b, t.macEntry i = { s.macEntry i with hit := b }) ∧
      ((s.macEntry i).hit = false → hit = true → t.macEntry i = { s.macEntry i with hit := true }) ∧
      ((s.macEntry i).hit = false → hit = false → t.macEntry i = { s.macEntry i with valid := false } ∧
        t.regN Reg.STREAM_AGED = min (s.regN Reg.STREAM_AGED + 1) 0xFFFFFFFF) ∧
      KeepsOutside s.mem t.mem (macAt i) 16 ∧
      FrameEv (fun a => a == Reg.STREAM_MAC_COUNT || a == Reg.STREAM_AGED) [.mem] s t) ∧
  (∀ (i : Fin 8192) (m : Nat) (s : State), (s.entry i).valid = true → (s.entry i).tx = false → s.hasClosed i m = false →
    (s.entry i).phase = 0 ∨ 0 < m → s.windowClose (s.entry i) m ≤ s.now → Completes (.rxWindowClose i m) s fun t =>
      (t.rxSt i).closed = some m ∧
      (∀ h, (s.rxSt i).held.find? (fun h => h.folio == m) = some h → (t.rxSt i).misses = 0 ∧
        t.reg (Reg.STREAM_ENTRY_LAST i 0) = h.claim ∧ t.reg (Reg.STREAM_ENTRY_LAST i 1) = h.gen) ∧
      ((s.rxSt i).held.find? (fun h => h.folio == m) = none → (t.rxSt i).misses = (s.rxSt i).misses + 1) ∧
      (s.rxEntries = [i.val] → t.feedPresent (s.entry i).feed m = true) ∧
      FrameEv (fun a => inRange (Reg.STREAM_ENTRY_COUNT i 0) (Reg.STREAM_ENTRY_COUNT i 8) a || seqRegs a ||
        busRegs a) [.stream, .seq, .mem, .ecc] s t)

/-- R313, R335, R336, R351, R385, R387, R388, R392: frames sent. A PAUSE frame that waits goes first; then, unless the port is
paused, the oldest frame of the TIMED queue, else of the BULK queue, stamped as it leaves; no AAF frame starts while the claim
in force does not let it (R362); its end counts it; a frame that has waited too long is discarded; and a control descriptor puts
its buffer into the queues of its ports, those that are not UP too (the model's reading, log entry 65). -/
def Obligations.FramesSent : Prop :=
  (∀ (p : Fin 8) (data : Word) (s : State), Completes (.pauseSend p data) s fun t =>
    t.fld (Reg.MAC_PAUSE_TX p) Fld.MAC_PAUSE_TX_QUANTA = Fld.MAC_PAUSE_TX_QUANTA.get data ∧
    (Fld.MAC_PAUSE_TX_SEND.get data = 1 → t.bit (Reg.MAC_PAUSE_TX p) Fld.MAC_PAUSE_TX_PENDING = true) ∧
    Frame (fun a => a == Reg.MAC_PAUSE_TX p) [] s t) ∧
  (∀ (p : Fin 8) (s : State), s.portUp p = true → s.bit (Reg.MAC_CTRL p) Fld.MAC_CTRL_TX_EN = true → s.host.sumDue = [] →
    (s.egress p).current = none → s.bit (Reg.MAC_PAUSE_TX p) Fld.MAC_PAUSE_TX_PENDING = true →
    Completes (.frameTransmit p) s fun t => (t.egress p).current = some (s.pauseFrame p) ∧
      (t.egress p).timed = (s.egress p).timed ∧ (t.egress p).bulk = (s.egress p).bulk ∧
      t.bit (Reg.MAC_PAUSE_TX p) Fld.MAC_PAUSE_TX_PENDING = false ∧
      Frame (fun a => a == Reg.MAC_PAUSE_TX p) [.stream] s t) ∧
  (∀ (p : Fin 8) (s : State) (f : QFrame) (e : Egress), s.portUp p = true →
    s.bit (Reg.MAC_CTRL p) Fld.MAC_CTRL_TX_EN = true → s.host.sumDue = [] → (s.egress p).current = none →
    s.bit (Reg.MAC_PAUSE_TX p) Fld.MAC_PAUSE_TX_PENDING = false → s.bit (Reg.MAC_STATUS p) Fld.MAC_STATUS_PAUSED = false →
    (∀ g ∈ (s.egress p).timed, ∀ i, g.kind = .aaf i → s.sendsAaf = true) → (s.egress p).next = some (f, e) →
    Completes (.frameTransmit p) s fun t =>
      (t.egress p).current = some { f with bytes := s.stamp p f } ∧ (t.egress p).timed = e.timed ∧
      (t.egress p).bulk = e.bulk ∧ (∀ q : Fin 8, q ≠ p → t.egress q = s.egress q) ∧
      ((∀ (o : Bool) (c : Nat), f.kind ≠ .control o true c) → Frame noRegs [.stream] s t)) ∧
  (∀ (p : Fin 8) (s : State), s.host.sumDue = [] → (s.egress p).current = none → s.sendsAaf = false →
    (∀ g ∈ (s.egress p).bulk, ∀ i, g.kind ≠ .aaf i) →
      Completes (.frameTransmit p) s fun t => ∀ f, (t.egress p).current = some f → ∀ i, f.kind ≠ .aaf i) ∧
  (∀ (p : Fin 8) (s : State), s.host.sumDue = [] → s.portUp p = false ∨ (s.egress p).current ≠ none →
    exec (.frameTransmit p) s = .next s) ∧
  (∀ (p : Fin 8) (s : State) (f : QFrame), (s.egress p).current = some f → Completes (.frameTransmitEnd p) s fun t =>
    (t.egress p).current = none ∧ (t.egress p).timed = (s.egress p).timed ∧ (t.egress p).bulk = (s.egress p).bulk ∧
    ((s.egress p).stomped = false → f.kind ≠ .pause →
      t.reg64 (Reg.MAC_COUNTER p 9) = (s.reg64 (Reg.MAC_COUNTER p 9) + 1) % 2 ^ 64 ∧
      t.reg64 (Reg.MAC_COUNTER p 10) = (s.reg64 (Reg.MAC_COUNTER p 10) + ((s.egress p).wire.length + 4)) % 2 ^ 64) ∧
    Frame (fun a => inRange (Reg.MAC_COUNTER p 9) (Reg.MAC_COUNTER p 12) a || inRange 0x2200000 0x2240000 a ||
      (match f.kind with | .folio i => a == Reg.STREAM_ENTRY_COUNT i 0 | .aaf i => a == Reg.STREAM_ENTRY_COUNT i 0
                         | _ => false)) [.stream] s t) ∧
  (∀ (p : Fin 8) (s : State) (f : QFrame) (r : List QFrame), (s.egress p).timed = f :: r →
    f.enqPt + max 1000 (s.fld Reg.STREAM_STALE Fld.STREAM_STALE_STALE_NS) * nsUnit ≤ s.now →
    Completes (.txStale p true) s fun t => (t.egress p).timed = r ∧ (t.egress p).bulk = (s.egress p).bulk ∧
      t.regN (Reg.STREAM_TX_STALE p) = min (s.regN (Reg.STREAM_TX_STALE p) + 1) 0xFFFFFFFF ∧
      FrameEv (fun a => a == Reg.STREAM_TX_STALE p || inRange 0x2200000 0x2240000 a ||
        (match f.kind with | .folio i => a == Reg.STREAM_ENTRY_COUNT i 4 | .aaf i => a == Reg.STREAM_ENTRY_COUNT i 4
                           | _ => false)) [.stream] s t) ∧
  (∀ (p : Fin 8) (s : State) (f : QFrame) (r : List QFrame), (s.egress p).bulk = f :: r →
    f.enqPt + max 1000 (s.fld Reg.STREAM_STALE Fld.STREAM_STALE_STALE_NS) * nsUnit ≤ s.now →
    Completes (.txStale p false) s fun t => (t.egress p).bulk = r ∧ (t.egress p).timed = (s.egress p).timed ∧
      t.regN (Reg.STREAM_TX_STALE p) = min (s.regN (Reg.STREAM_TX_STALE p) + 1) 0xFFFFFFFF) ∧
  (∀ (p : Fin 8) (s : State) (f : QFrame) (r : List QFrame), (s.egress p).timed = f :: r →
    s.now < f.enqPt + max 1000 (s.fld Reg.STREAM_STALE Fld.STREAM_STALE_STALE_NS) * nsUnit →
    exec (.txStale p true) s = .next s) ∧
  (∀ (s : State), s.descFree = false → exec .controlTxDescriptor s = .next s) ∧
  (∀ (s u : State) (d : List Byte), s.descFree = true →
    s.hwPop (s.fld Reg.STREAM_TXQ Fld.STREAM_TXQ_CPU) 16 = (some d, u) →
    leNat (slice d 4 4) % 2 ^ 14 < 60 ∨ 9212 < leNat (slice d 4 4) % 2 ^ 14 → Completes .controlTxDescriptor s fun t =>
      t.regN Reg.STREAM_CPU_DROP = min (u.regN Reg.STREAM_CPU_DROP + 1) 0xFFFFFFFF ∧ t.stream = u.stream ∧ t.mem = u.mem) ∧
  (∀ (s u v : State) (d bs : List Byte), s.descFree = true →
    s.hwPop (s.fld Reg.STREAM_TXQ Fld.STREAM_TXQ_CPU) 16 = (some d, u) → 60 ≤ leNat (slice d 4 4) % 2 ^ 14 →
    leNat (slice d 4 4) % 2 ^ 14 ≤ 9212 →
    u.unitRead 11 (leNat (d.take 4)) (leNat (slice d 4 4) % 2 ^ 14) = (some bs, v) →
    Completes .controlTxDescriptor s fun t =>
      (∀ p ∈ bitsSet 8 (leNat (slice d 4 4) / 2 ^ 16), ∃ f, f.bytes = bs ∧
        (f ∈ (t.egress p).timed ∨ f ∈ (t.egress p).bulk)) ∧ t.mem = s.mem ∧ t.regs = v.regs)

/-- R401, R406-R409, R414, R415, R423-R427: an idle target grants the first waiting request of the order and charges the credit
of one in guarantee; a transaction of vat memory that is done has moved its bytes and frees its tag; a link error of a DRAM
access is retried once, and answered with an error the second time; at a channel with no transaction it is one of the next
aperture access (log entry 98). A delay-line transfer that waits goes by the line table in force, and keeps the line that it has
at its grant. The DRAM channels
initialise with a legal pair of devices, train, step down in rate when training fails, follow the refresh multiplier, train
again, and lose their contents when EN is written 0. -/
def Obligations.CrossbarAndDram : Prop :=
  (∀ (b : Fin 36) (s : State) (x : Txn) (r : List Txn), b.val < 32 → s.xbar.active.any (fun e => e.1 == b.val) = false →
    sortBy s.grantBefore (s.retarget.xbar.waiting.filter (fun y => y.target == b.val)) = x :: r →
    Completes (.xbarGrant b) s fun t => t.xbar.active.find? (fun e => e.1 == b.val) =
        some (b.val, { x with line := none }) ∧ t.xbar.waiting = s.retarget.xbar.waiting.erase x ∧
      (s.inGuarantee x = true → t.credit b (Master.code x.master) =
        s.credit b (Master.code x.master) - x.len * 800) ∧
      Frame (fun a => a == Reg.XBAR_INFLIGHT) [.xbar] s t) ∧
  (∀ (c : Fin 2) (s : State) (x : Txn), s.xbar.waiting = [x] → 0x80000000 ≤ x.addr → s.refChannel x.addr = c →
    (s.dramEarly { x with target := 32 + c }).1 = false →
    s.xbar.active.any (fun e => e.1 == 32 + c.val) = false → Completes (.xbarGrant ⟨32 + c, by omega⟩) s fun t =>
      t.xbar.active.find? (fun e => e.1 == 32 + c.val) =
        some (32 + c.val, { x with target := 32 + c, line := s.line (refLine x.addr) }) ∧
      t.xbar.waiting = [] ∧ FrameEv busRegs [.xbar] s t) ∧
  (∀ (b : Fin 36) (e : Bool) (s : State) (x : Txn) (f : Xfer), b.val < 32 → x.addr < 0x80000000 →
    s.xbar.active.find? (fun y => y.1 == b.val) = some (b.val, x) → s.xferOf x = some f → x.addr + x.len ≤ vatHi →
    Completes (.xbarTransactionDone b e) s fun t =>
      (x.write = true → (∀ p ∈ accessParts x.addr (slice f.data (x.addr - f.far) x.len).length, s.rmwBad p.1 p.2 = false) →
        t.mem = Memory.write s.mem x.addr (slice f.data (x.addr - f.far) x.len)) ∧
      (x.write = false → s.eccBad x.addr x.len = false → t.mem = s.mem ∧
        (t.xferOf x).map (·.data) = some (patch f.data (x.addr - f.far) (s.read x.addr x.len))) ∧
      t.xbar.active = SMap.del s.xbar.active b ∧
      FrameEv busRegs [.xbar, .mem, .ecc, .pe] s t) ∧
  (∀ (c : Fin 2) (s : State) (x : Txn), s.xbar.active.find? (fun y => y.1 == 32 + c.val) = some (32 + c.val, x) →
    s.dramc.retried.toNat.testBit c = false → Completes (.xbarTransactionDone ⟨32 + c, by omega⟩ true) s fun t =>
      t.xbar.active = s.xbar.active ∧ t.regN Reg.DRAM_RETRIES = min (s.regN Reg.DRAM_RETRIES + 1) 0xFFFFFFFF ∧
      t.dramc.retried.toNat.testBit c = true) ∧
  (∀ (c : Fin 2) (s : State) (x : Txn), s.xbar.active.find? (fun y => y.1 == 32 + c.val) = some (32 + c.val, x) →
    s.dramc.retried.toNat.testBit c = true → s.tally.silent = false → SMap.find 0 s.raised (limitKey 169 0) = 0 →
    Completes (.xbarTransactionDone ⟨32 + c, by omega⟩ true) s fun t => t.xbar.active = SMap.del s.xbar.active (32 + c) ∧
      t.mem = s.mem ∧ t.dram = s.dram ∧ t.dramc.retried.toNat.testBit c = false ∧ t.shown 160 ∧ t.shown 169 ∧
      (∀ f, s.xferOf x = some f → (t.xferOf x).map (·.err) = some true)) ∧
  (∀ (c : Fin 2) (s : State), s.xbar.active.find? (fun y => y.1 == 32 + c.val) = none →
    Completes (.xbarTransactionDone ⟨32 + c, by omega⟩ true) s fun t => t.linkDue c = s.linkDue c + 1 ∧
      Frame noRegs [.dramc] s t) ∧
  (∀ (b : Fin 36) (s : State), s.xbar.active.find? (fun y => y.1 == b.val) = none →
    exec (.xbarTransactionDone b false) s = .next s) ∧
  (∀ (b : Fin 36) (s : State), (∃ x ∈ s.retarget.xbar.waiting, x.target = b ∧ s.tier x = 3) → s.tally.silent = false →
    SMap.find 0 s.raised (limitKey 163 b) = 0 → Completes (.beStarve b) s fun t => t.shown 163 ∧ FrameEv noRegs [] s t) ∧
  (∀ (c : Fin 2) (s : State), s.bit Reg.DRAM_STATUS (dramDeg c) = true →
    s.regN (Reg.XBAR_GSUM (32 + c)) ≤ s.regN (Reg.XBAR_DELIV (32 + c)) → s.tally.silent = false →
    Completes (.bwRestore c) s fun t => t.bit Reg.DRAM_STATUS (dramDeg c) = false ∧ t.shown 165 ∧
      FrameEv (fun a => a == Reg.DRAM_STATUS) [] s t) ∧
  (∀ (data : Word) (s : State), Fld.DRAM_CTRL_EN.get data = 0 → Completes (.dramEnWrite data) s fun t =>
    t.dramState 0 = 0 ∧ t.dramState 1 = 0 ∧ t.dram = [] ∧ t.regN Reg.DRAM_CAP = 0 ∧
    t.regN (Reg.XBAR_DELIV 32) = 0 ∧ t.regN (Reg.XBAR_DELIV 33) = 0 ∧
    FrameEv (fun a => inRange Reg.DRAM_CTRL 0x320000C a || a == Reg.XBAR_DELIV 32 || a == Reg.XBAR_DELIV 33 || busRegs a)
      [.dram, .dramc, .xbar, .pe] s t) ∧
  (∀ (data : Word) (s : State), Fld.DRAM_CTRL_EN.get data = 1 → Completes (.dramEnWrite data) s fun t =>
    (∀ c, c < 2 → t.dramState c = if s.dramState c = 0 then 1 else s.dramState c) ∧
    Frame (fun a => a == Reg.DRAM_CTRL || a == Reg.DRAM_STATUS) [] s t) ∧
  (∀ (g0 g1 : BitVec 8) (x16 : Bool) (s : State), s.dramState 0 = 1 → s.dramState 1 = 1 → s.tally.silent = false →
    Completes (.dramInitDone g0 g1 x16) s fun t =>
      (g0 = g1 ∧ x16 = true ∧ g0.toNat ∈ [8, 12, 16, 24, 32] → t.dramState 0 = 2 ∧ t.dramState 1 = 2 ∧
        t.regN Reg.DRAM_CAP = g0.toNat / 2) ∧
      (¬(g0 = g1 ∧ x16 = true ∧ g0.toNat ∈ [8, 12, 16, 24, 32]) → t.dramState 0 = 5 ∧ t.dramState 1 = 5 ∧ t.shown 168) ∧
      FrameEv (fun a => inRange Reg.DRAM_CTRL 0x320000C a || a == Reg.XBAR_DELIV 32 || a == Reg.XBAR_DELIV 33) [] s t) ∧
  (∀ (c : Fin 2) (pass : Bool) (s : State), s.dramState c = 2 ∨ s.dramState c = 4 → s.tally.silent = false →
    Completes (.dramTrainDone c pass) s fun t =>
      (pass = true → t.dramState c = 3 ∧ t.regN (Reg.XBAR_DELIV (32 + c)) =
        4 * dramRate (s.fld Reg.DRAM_STATUS Fld.DRAM_STATUS_RATE) * t.dramF c / 8) ∧
      (pass = false → s.fld Reg.DRAM_STATUS Fld.DRAM_STATUS_RATE < 4 → t.dramState c = 2 ∧ t.shown 168 ∧
        t.fld Reg.DRAM_STATUS Fld.DRAM_STATUS_RATE = s.fld Reg.DRAM_STATUS Fld.DRAM_STATUS_RATE + 1) ∧
      (pass = false → 4 ≤ s.fld Reg.DRAM_STATUS Fld.DRAM_STATUS_RATE → t.dramState c = 5 ∧ t.shown 168) ∧
      FrameEv (fun a => a == Reg.DRAM_STATUS || a == Reg.XBAR_DELIV 32 || a == Reg.XBAR_DELIV 33) [.dramc] s t) ∧
  (∀ (c : Fin 2) (mult : BitVec 2) (s : State), s.dramState c = 3 → mult.toNat < 3 → s.tally.silent = false →
    s.fld Reg.DRAM_STATUS (if c = 0 then Fld.DRAM_STATUS_REFRESH0 else Fld.DRAM_STATUS_REFRESH1) ≠ mult.toNat →
    Completes (.dramRefreshPoll c mult) s fun t => t.shown 170 ∧
      t.fld Reg.DRAM_STATUS (if c = 0 then Fld.DRAM_STATUS_REFRESH0 else Fld.DRAM_STATUS_REFRESH1) = mult.toNat ∧
      FrameEv (fun a => a == Reg.DRAM_STATUS || a == Reg.XBAR_DELIV (32 + c)) [] s t) ∧
  (∀ (s : State), Completes .dramRetrain s fun t =>
    (∀ c, c < 2 → t.dramState c = if s.dramState c = 3 then 4 else s.dramState c) ∧
    ((∀ d : Fin 2, s.xbar.active.filter (fun y => y.1 == 32 + d.val) = []) →
      t.xbar = s.xbar ∧ t.dram = s.dram) ∧
    FrameEv (fun a => a == Reg.DRAM_STATUS || a == Reg.XBAR_DELIV 32 || a == Reg.XBAR_DELIV 33 || busRegs a)
      [.dram, .dramc, .xbar, .pe] s t)

/-- R449-R452, R457-R465: the claim and the referee. A drop holds the claim at zero, and a reclaim in solo operation ends it; an
adoption whose time has come puts its epoch and the unit's role into the claim, unless a drop comes with it or the outputs are
held; an EPOCH frame of a later epoch is kept until its time; three silent folios lose the referee; a swap request goes out
where it may, ends with its refusal or after 8 folios, and a refusal holds off the next one. -/
def Obligations.ClaimAndReferee : Prop :=
  (∀ (s : State), s.tally.silent = false → Completes .drop s fun t => t.dropped = true ∧ t.regN Reg.REDUN_CLAIM = 0 ∧
    t.fld Reg.REDUN_STATUS Fld.REDUN_STATUS_ROLE = 0 ∧ t.shown 288 ∧ t.redun.dropEpoch = s.redun.epoch ∧
    FrameEv (fun a => a == Reg.REDUN_STATUS || a == Reg.REDUN_CLAIM) [.redun] s t) ∧
  (∀ (s : State), s.pair = false → s.holding = false → Completes (.reclaim false) s fun t => t.dropped = false ∧
    t.regN Reg.REDUN_CLAIM = 0xC0 * 2 ^ 16 + s.unitId ∧ t.fld Reg.REDUN_STATUS Fld.REDUN_STATUS_ROLE = 2 ∧
    Frame (fun a => a == Reg.REDUN_STATUS || a == Reg.REDUN_CLAIM) [.redun] s t) ∧
  (∀ (s : State), s.pair = false → s.holding = true → Completes (.reclaim false) s fun t => t.dropped = false ∧
    t.regN Reg.REDUN_CLAIM = 0 ∧ Frame (fun a => a == Reg.REDUN_STATUS || a == Reg.REDUN_CLAIM) [.redun] s t) ∧
  (∀ (s : State), s.tally.silent = false → Completes (.reclaim true) s fun t => t.dropped = true ∧
    t.regN Reg.REDUN_CLAIM = 0 ∧ t.shown 288 ∧ FrameEv (fun a => a == Reg.REDUN_STATUS || a == Reg.REDUN_CLAIM) [.redun] s t) ∧
  (∀ (s : State), s.pair = true → exec (.reclaim false) s = .next s) ∧
  (∀ (s : State) (a : Adoption) (drop : Option (Fin 3)), s.redun.adopt = some a → a.eff ≤ (s.now : Int) → s.tally.silent = false →
    Completes (.epochAdopt drop) s fun t => t.redun.adopt = none ∧ t.redun.epoch = a.epoch ∧ t.shown 289 ∧
      t.redun.rank = s.rankOf a.active a.standby ∧
      t.bit Reg.REDUN_STATUS Fld.REDUN_STATUS_EPOCH_PENDING = false ∧
      (drop.isSome → t.dropped = true ∧ t.regN Reg.REDUN_CLAIM = 0 ∧ t.redun.dropEpoch = a.epoch ∧ t.shown 288) ∧
      (s.holding = true → t.regN Reg.REDUN_CLAIM = 0) ∧
      (drop = none → s.holding = false → s.dropped = false ∨ epochAhead a.epoch s.redun.dropEpoch = true → t.dropped = false ∧
        t.regN Reg.REDUN_CLAIM = (a.epoch * 2 ^ 24 + s.rankOf a.active a.standby * 2 ^ 16 + s.unitId) % 2 ^ 32) ∧
      FrameEv (fun a => a == Reg.REDUN_STATUS || a == Reg.REDUN_CLAIM) [.redun] s t) ∧
  (∀ (s u : State) (h : List Byte), s.takeReferee 3 = (some h, u) → etherAt h 20 ≠ etherAt h 22 → s.redun.adopt = none →
    epochAhead (h.getD 16 0).toNat s.redun.epoch = true →
    (s.now : Int) < s.absPt (beNat (slice h 28 4)) (beNat (slice h 32 4)) 0 → Completes .epochReceive s fun t =>
      t.redun.adopt = some ⟨(h.getD 16 0).toNat, etherAt h 20, etherAt h 22,
        s.absPt (beNat (slice h 28 4)) (beNat (slice h 32 4)) 0⟩ ∧ t.redun.heard = true ∧
      t.bit Reg.REDUN_STATUS Fld.REDUN_STATUS_EPOCH_PENDING = true ∧ t.reg Reg.REDUN_CLAIM = s.reg Reg.REDUN_CLAIM ∧
      FrameEv (fun a => a == Reg.REDUN_STATUS || a == Reg.REDUN_SWAP) [.redun] s t) ∧
  (∀ (s u : State) (h : List Byte), s.takeReferee 4 = (some h, u) → s.swapWaits = true → etherAt h 18 = s.reqSeq →
    s.tally.silent = false → Completes .swapRefusedReceive s fun t => t.swapWaits = false ∧ t.holdoff = 4 ∧ t.shown 293 ∧
      t.redun.holdPast = 0 ∧ t.redun.reqFolios = none ∧
      t.fld Reg.REDUN_SWAP Fld.REDUN_SWAP_CAUSE = (h.getD 17 0).toNat % 2 ^ 4 ∧
      FrameEv (fun a => a == Reg.REDUN_SWAP) [.redun] s t) ∧
  (∀ (s : State), s.refState = 1 → 3 ≤ s.redun.silent → s.tally.silent = false → Completes .refLost s fun t =>
    t.refState = 2 ∧ t.shown 291 ∧ FrameEv (fun a => a == Reg.REDUN_STATUS) [] s t) ∧
  (∀ (s : State), s.refState ≠ 1 ∨ s.redun.silent < 3 → exec .refLost s = .next s) ∧
  (∀ (s : State), s.pair = true → s.refState = 1 → s.swapWaits = false → s.holdoff = 0 → Completes .swap s fun t =>
    t.swapWaits = true ∧ t.reqSeq = (if s.reqSeq = 0xFFFF then 1 else s.reqSeq + 1) ∧
    Frame (fun a => a == Reg.REDUN_SWAP) [.redun] s t) ∧
  (∀ (s : State), s.pair = false ∨ s.refState ≠ 1 ∨ s.swapWaits = true ∨ s.holdoff ≠ 0 → s.tally.silent = false →
    Completes .swap s fun t => t.fld Reg.REDUN_SWAP Fld.REDUN_SWAP_CAUSE = 8 ∧ t.shown 293 ∧ t.reqSeq = s.reqSeq ∧
      FrameEv (fun a => a == Reg.REDUN_SWAP) [] s t) ∧
  (∀ (s : State) (n : Nat), s.redun.reqFolios = some n → 8 ≤ n → s.swapWaits = true → s.tally.silent = false →
    Completes .swapTimeout s fun t => t.swapWaits = false ∧ t.shown 294 ∧
      FrameEv (fun a => a == Reg.REDUN_SWAP) [.redun] s t) ∧
  (∀ (s : State), s.holdoff ≠ 0 → 5 ≤ s.redun.holdPast → Completes .holdoffExpiry s fun t => t.holdoff = 0 ∧
    Frame (fun a => a == Reg.REDUN_SWAP) [] s t)

/-- R249, R466-R469, R477-R482: felt blocks and deckles. A unit that is active or has no felt lane discards every block, and any
unit one with a bad CRC; a TRACK block is kept for its folio, and a STATE block joins the sheet of its folio until that folio's
deadline, whatever other folios have begun. A deckle window is won by the higher code; the loser without an acknowledge is
counted; a port that takes no part wins nothing, and that its WIN reads 0 and it is not counted is the model's reading (log
entry 69). -/
def Obligations.FeltAndDeckle : Prop :=
  (∀ (lane : Fin 2) (bs : List Byte) (s : State), s.pair = false ∨ s.role = 0xC0 ∨ s.felt = 0 ∨ s.lane (8 + lane) ≠ 4 ∨
    beNat (slice bs 12 4) ≠ (crc32c (bs.take 12 ++ bs.drop 16)).toNat → exec (.feltBlockReceive lane bs) s = .next s) ∧
  (∀ (lane : Fin 2) (f n : Nat) (payload : List Byte) (s : State), s.pair = true → s.role ≠ 0xC0 → s.felt ≠ 0 →
    s.lane (8 + lane) = 4 → f < 2 ^ 32 → n < 64 → payload.length = 16 → s.now < s.boundary (s.folioNear f) →
    Completes (.feltBlockReceive lane (feltBlock 4 f n 0 payload)) s fun t =>
      (∃ tr, (n, tr) ∈ t.redun.tracks ∧ tr.folio = s.folioNear f ∧ tr.rho = beNat (slice payload 2 6) ∧
        tr.pos = signed 64 (beNat (slice payload 8 8))) ∧ Frame noRegs [.redun] s t) ∧
  (∀ (lane : Fin 2) (f p o : Nat) (payload : List Byte) (s : State), s.pair = true → s.role ≠ 0xC0 → s.felt ≠ 0 →
    s.lane (8 + lane) = 4 → f < 2 ^ 32 → p < 2 ^ 12 → o < 2 ^ 20 → payload.length ≤ 4096 →
    s.sheetOf (s.folioNear f) = { folio := s.folioNear f } → s.now < s.releasePt (s.folioNear f + 1) →
    Completes (.feltBlockReceive lane (feltBlock 3 f p o payload)) s fun t =>
      t.sheetOf (s.folioNear f) =
        { folio := s.folioNear f, states := [(p, 16 * o, payload)], bytes := 16 + payload.length } ∧
      (∀ k, k ≠ s.folioNear f → t.sheetOf k = s.sheetOf k) ∧
      Frame noRegs [.redun] s t) ∧
  (∀ (p : Fin 32) (c : Option (BitVec 5)) (ack : Bool) (s : State), s.takesPart p = true →
    Completes (.deckleArbitration p c ack) s fun t =>
      testBit (t.reg Reg.REDUN_DECKLE_WIN) p = deckleWins s.deckleCode c ∧
      (∀ q : Fin 32, q ≠ p → testBit (t.reg Reg.REDUN_DECKLE_WIN) q = testBit (s.reg Reg.REDUN_DECKLE_WIN) q) ∧
      (deckleWins s.deckleCode c = false → ack = false →
        t.regN Reg.REDUN_DECKLE_NOACK = min (s.regN Reg.REDUN_DECKLE_NOACK + 1) 0xFFFFFFFF) ∧
      FrameEv (fun a => a == Reg.REDUN_DECKLE_WIN || a == Reg.REDUN_DECKLE_CHANGES || a == Reg.REDUN_DECKLE_NOACK)
        [.redun] s t) ∧
  (∀ (p : Fin 32) (c : Option (BitVec 5)) (ack : Bool) (s : State), s.takesPart p = false →
    Completes (.deckleArbitration p c ack) s fun t => testBit (t.reg Reg.REDUN_DECKLE_WIN) p = false ∧
      Frame (fun a => a == Reg.REDUN_DECKLE_WIN) [] s t)

/-- R429, R430: a quire is enabled, empty, by a write of a legal configuration while it is off, and is off and empty after a
write of EN 0; an illegal configuration, and a write of an enabled quire that is not a disable, change nothing that counts and
raise QUIRE_CFG_ERR. -/
def Obligations.QuireConfiguration : Prop :=
  (∀ (q : Fin 16384) (data : Word) (s : State), s.quireOn q = false → Fld.QUIRE_CFG_EN.get data = 1 →
    s.regN (Reg.QUIRE_BASE q) % (8 * 2 ^ Fld.QUIRE_CFG_ESIZE.get data) = 0 → quireDepth data ≠ 1 →
    inVat (s.regN (Reg.QUIRE_BASE q)) (quireDepth data * (8 * 2 ^ Fld.QUIRE_CFG_ESIZE.get data)) = true →
    Completes (.quireCfgWrite q data) s fun t => t.quireOn q = true ∧ t.quireCount q = 0 ∧
      t.quireAddr q 0 = s.regN (Reg.QUIRE_BASE q) ∧ t.quireSize q = 8 * 2 ^ Fld.QUIRE_CFG_ESIZE.get data ∧
      quireDepth (t.reg (Reg.QUIRE_CFG q)) = quireDepth data ∧
      Frame (fun a => a == Reg.QUIRE_CFG q || a == Reg.QUIRE_COUNT q || a == Reg.QUIRE_HEAD q) [] s t) ∧
  (∀ (q : Fin 16384) (data : Word) (s : State), s.quireOn q = false → Fld.QUIRE_CFG_EN.get data = 1 →
    s.tally.silent = false → (s.regN (Reg.QUIRE_BASE q) % (8 * 2 ^ Fld.QUIRE_CFG_ESIZE.get data) ≠ 0 ∨
      quireDepth data = 1 ∨
      inVat (s.regN (Reg.QUIRE_BASE q)) (quireDepth data * (8 * 2 ^ Fld.QUIRE_CFG_ESIZE.get data)) = false) →
    Completes (.quireCfgWrite q data) s fun t => t.quireOn q = false ∧ t.shown 176 ∧
      FrameEv (fun a => a == Reg.QUIRE_CFG q) [] s t) ∧
  (∀ (q : Fin 16384) (data : Word) (s : State), Fld.QUIRE_CFG_EN.get data = 0 →
    Completes (.quireCfgWrite q data) s fun t => t.quireOn q = false ∧ t.quireCount q = 0 ∧
      Frame (fun a => a == Reg.QUIRE_CFG q || a == Reg.QUIRE_COUNT q) [] s t) ∧
  (∀ (q : Fin 16384) (data : Word) (s : State), s.quireOn q = true → Fld.QUIRE_CFG_EN.get data = 1 →
    s.tally.silent = false → Completes (.quireCfgWrite q data) s fun t => t.shown 176 ∧ FrameEv noRegs [] s t) ∧
  (∀ (q : Fin 16384) (data : Word) (s : State), s.quireOn q = false → Completes (.quireBaseWrite q data) s fun t =>
    t.reg (Reg.QUIRE_BASE q) = data ∧ Frame (fun a => a == Reg.QUIRE_BASE q) [] s t) ∧
  (∀ (q : Fin 16384) (data : Word) (s : State), s.quireOn q = true → s.tally.silent = false →
    Completes (.quireBaseWrite q data) s fun t => t.shown 176 ∧ FrameEv noRegs [] s t)

/-- R431-R435, R680, R681: pushes and pops. An entry goes to the tail and comes from the head of the ring; a full quire refuses
a push and counts it, unless a pop in the same cycle makes room; an empty one answers a pop with nothing; hardware of another
entry size changes nothing but DROP. Pushes and pops of one cycle are served by the base address of their block, and those of
the staging windows after the hardware, HOST before CPA before CPB. The staging windows do the same for software, and show a
refused push and an empty quire. -/
def Obligations.QuireTransfers : Prop :=
  (∀ (q : Fin 16384) (a : Nat) (e : List Byte) (s : State), s.quireOn q = true → e.length = s.quireSize q →
    s.quireCount q < quireDepth (s.reg (Reg.QUIRE_CFG q)) → Completes (.quirePush q [(a, e)] false) s fun t =>
      t.read (s.quireAddr q (s.quireCount q)) (s.quireSize q) = e ∧ t.quireCount q = s.quireCount q + 1 ∧
      t.quireAddr q 0 = s.quireAddr q 0 ∧ KeepsOutside s.mem t.mem (s.quireAddr q (s.quireCount q)) (s.quireSize q) ∧
      FrameEv (fun a => a == Reg.QUIRE_COUNT q || a == Reg.QUIRE_PEND (q / 32)) [.mem, .ecc] s t) ∧
  (∀ (q : Fin 16384) (a : Nat) (e : List Byte) (s : State), s.quireOn q = true → e.length = s.quireSize q →
    s.quireCount q = quireDepth (s.reg (Reg.QUIRE_CFG q)) → Completes (.quirePush q [(a, e)] false) s fun t =>
      t.fld (Reg.QUIRE_HEAD q) Fld.QUIRE_HEAD_DROP = min (s.fld (Reg.QUIRE_HEAD q) Fld.QUIRE_HEAD_DROP + 1) 0xFFFF ∧
      t.quireCount q = s.quireCount q ∧
      FrameEv (fun a => a == Reg.QUIRE_HEAD q || a == Reg.QUIRE_COUNT q || a == Reg.QUIRE_PEND (q / 32)) [] s t) ∧
  (∀ (q : Fin 16384) (a : Nat) (e : List Byte) (s : State), s.quireOn q = true → e.length = s.quireSize q → 0 < s.quireCount q →
    s.eccBad (s.quireAddr q 0) (s.quireSize q) = false → Completes (.quirePush q [(a, e)] true) s fun t =>
      t.host.answer = s.read (s.quireAddr q 0) (s.quireSize q) ∧
      t.read (s.quireAddr q (s.quireCount q)) (s.quireSize q) = e ∧ t.quireCount q = s.quireCount q ∧
      FrameEv (fun a => a == Reg.QUIRE_HEAD q || a == Reg.QUIRE_COUNT q || a == Reg.QUIRE_PEND (q / 32) ||
        busRegs a) [.mem, .ecc, .host] s t) ∧
  (∀ (q : Fin 16384) (a : Nat) (s : State), s.quireOn q = true → 0 < s.quireCount q →
    s.eccBad (s.quireAddr q 0) (s.quireSize q) = false → Completes (.quirePop q [(a, s.quireSize q)]) s fun t =>
      t.host.answer = s.read (s.quireAddr q 0) (s.quireSize q) ∧ t.quireCount q = s.quireCount q - 1 ∧
      t.fld (Reg.QUIRE_HEAD q) Fld.QUIRE_HEAD_HEAD = (s.fld (Reg.QUIRE_HEAD q) Fld.QUIRE_HEAD_HEAD + 1) %
        quireDepth (s.reg (Reg.QUIRE_CFG q)) ∧
      FrameEv (fun a => a == Reg.QUIRE_HEAD q || a == Reg.QUIRE_COUNT q || a == Reg.QUIRE_PEND (q / 32) || busRegs a) [.host] s t) ∧
  (∀ (q : Fin 16384) (a n : Nat) (s : State), s.quireOn q = false ∨ s.quireSize q ≠ n →
    Completes (.quirePop q [(a, n)]) s fun t => t.host.answer = [] ∧ Frame noRegs [.host] s t) ∧
  (∀ (q : Fin 16384) (a : Nat) (e : List Byte) (s : State), s.quireOn q = false ∨ e.length ≠ s.quireSize q →
    Completes (.quirePush q [(a, e)] false) s fun t =>
      t.fld (Reg.QUIRE_HEAD q) Fld.QUIRE_HEAD_DROP = min (s.fld (Reg.QUIRE_HEAD q) Fld.QUIRE_HEAD_DROP + 1) 0xFFFF ∧
      Frame (fun a => a == Reg.QUIRE_HEAD q) [] s t) ∧
  (∀ (n : Fin 3) (data : Word) (s : State) (q : Nat), q = Fld.QUIRE_SW_CMD_QUIRE.get data →
    Fld.QUIRE_SW_CMD_PUSH.get data = 1 → Fld.QUIRE_SW_CMD_POP.get data = 0 →
    s.bit (Reg.QUIRE_SW_STATUS n) Fld.QUIRE_SW_STATUS_BUSY = false → s.quireOn q = true →
    s.quireCount q < quireDepth (s.reg (Reg.QUIRE_CFG q)) → Completes (.quireSwPush n data) s fun t =>
      t.read (s.quireAddr q (s.quireCount q)) (s.quireSize q) = (s.swData n).take (s.quireSize q) ∧
      t.quireCount q = s.quireCount q + 1 ∧ t.bit (Reg.QUIRE_SW_STATUS n) Fld.QUIRE_SW_STATUS_PUSHED = true ∧
      FrameEv (fun a => a == Reg.QUIRE_SW_STATUS n || a == Reg.QUIRE_COUNT q || a == Reg.QUIRE_PEND (q / 32))
        [.mem, .ecc] s t) ∧
  (∀ (n : Fin 3) (data : Word) (s : State) (q : Nat), q = Fld.QUIRE_SW_CMD_QUIRE.get data →
    Fld.QUIRE_SW_CMD_PUSH.get data = 0 → Fld.QUIRE_SW_CMD_POP.get data = 1 →
    s.bit (Reg.QUIRE_SW_STATUS n) Fld.QUIRE_SW_STATUS_BUSY = false → s.quireOn q = true → 0 < s.quireCount q →
    s.eccBad (s.quireAddr q 0) (s.quireSize q) = false → Completes (.quireSwPop n data) s fun t =>
      (∀ i, i < s.quireSize q / 4 → t.reg (Reg.QUIRE_SW_DATA n i) = s.word (s.quireAddr q 0 + 4 * i)) ∧
      t.quireCount q = s.quireCount q - 1 ∧ t.bit (Reg.QUIRE_SW_STATUS n) Fld.QUIRE_SW_STATUS_POPPED = true ∧
      FrameEv (fun a => a == Reg.QUIRE_SW_STATUS n || inRange (Reg.QUIRE_SW_DATA n 0) (Reg.QUIRE_SW_DATA n 0 + 64) a ||
        a == Reg.QUIRE_HEAD q || a == Reg.QUIRE_COUNT q || a == Reg.QUIRE_PEND (q / 32) || busRegs a) [] s t) ∧
  (∀ (q : Fin 16384) (a₁ a₂ : Nat) (e₁ e₂ : List Byte) (s : State), s.quireOn q = true → e₁.length = s.quireSize q →
    e₂.length = s.quireSize q → s.quireCount q + 1 < quireDepth (s.reg (Reg.QUIRE_CFG q)) → a₁ < a₂ →
    Completes (.quirePush q [(a₂, e₂), (a₁, e₁)] false) s fun t =>
      t.read (s.quireAddr q (s.quireCount q)) (s.quireSize q) = e₁ ∧
      t.read (s.quireAddr q (s.quireCount q + 1)) (s.quireSize q) = e₂ ∧ t.quireCount q = s.quireCount q + 2) ∧
  (∀ (q : Fin 16384) (a₁ a₂ : Nat) (s : State), s.quireOn q = true → 1 < s.quireCount q → a₁ < a₂ →
    s.eccBad (s.quireAddr q 0) (s.quireSize q) = false → s.eccBad (s.quireAddr q 1) (s.quireSize q) = false →
    Completes (.quirePop q [(a₂, s.quireSize q), (a₁, s.quireSize q)]) s fun t =>
      t.host.answer = s.read (s.quireAddr q 0) (s.quireSize q) ++ s.read (s.quireAddr q 1) (s.quireSize q) ∧
      t.quireCount q = s.quireCount q - 2) ∧
  (∀ (q : Fin 16384) (a : Nat) (s : State), s.quireOn q = true → s.quireCount q = 0 →
    Completes (.quirePop q [(a, s.quireSize q)]) s fun t => t.host.answer = [] ∧ t.quireCount q = 0 ∧
      Frame noRegs [.host] s t) ∧
  (∀ (n : Fin 3) (data : Word) (s : State) (q : Nat), q = Fld.QUIRE_SW_CMD_QUIRE.get data →
    Fld.QUIRE_SW_CMD_PUSH.get data = 1 → Fld.QUIRE_SW_CMD_POP.get data = 0 →
    s.bit (Reg.QUIRE_SW_STATUS n) Fld.QUIRE_SW_STATUS_BUSY = false → (s.quireOn q = false ∨
      s.quireCount q = quireDepth (s.reg (Reg.QUIRE_CFG q))) → Completes (.quireSwPush n data) s fun t =>
      t.bit (Reg.QUIRE_SW_STATUS n) Fld.QUIRE_SW_STATUS_PUSHED = false ∧
      t.bit (Reg.QUIRE_SW_STATUS n) Fld.QUIRE_SW_STATUS_FULL = true ∧
      t.bit (Reg.QUIRE_SW_STATUS n) Fld.QUIRE_SW_STATUS_DISABLED = !s.quireOn q ∧
      t.fld (Reg.QUIRE_HEAD q) Fld.QUIRE_HEAD_DROP = min (s.fld (Reg.QUIRE_HEAD q) Fld.QUIRE_HEAD_DROP + 1) 0xFFFF ∧
      t.quireCount q = s.quireCount q ∧
      FrameEv (fun a => a == Reg.QUIRE_SW_STATUS n || a == Reg.QUIRE_HEAD q || a == Reg.QUIRE_PEND (q / 32)) [] s t) ∧
  (∀ (n : Fin 3) (data : Word) (s : State) (q : Nat), q = Fld.QUIRE_SW_CMD_QUIRE.get data →
    Fld.QUIRE_SW_CMD_PUSH.get data = 0 → Fld.QUIRE_SW_CMD_POP.get data = 1 →
    s.bit (Reg.QUIRE_SW_STATUS n) Fld.QUIRE_SW_STATUS_BUSY = false → (s.quireOn q = false ∨ s.quireCount q = 0) →
    Completes (.quireSwPop n data) s fun t =>
      t.bit (Reg.QUIRE_SW_STATUS n) Fld.QUIRE_SW_STATUS_POPPED = false ∧
      t.bit (Reg.QUIRE_SW_STATUS n) Fld.QUIRE_SW_STATUS_EMPTY = true ∧
      t.bit (Reg.QUIRE_SW_STATUS n) Fld.QUIRE_SW_STATUS_DISABLED = !s.quireOn q ∧ t.quireCount q = s.quireCount q ∧
      Frame (fun a => a == Reg.QUIRE_SW_STATUS n) [] s t) ∧
  (∀ (n : Fin 3) (data : Word) (s : State), s.bit (Reg.QUIRE_SW_STATUS n) Fld.QUIRE_SW_STATUS_BUSY = true →
    exec (.quireSwPush n data) s = .next s ∧ exec (.quireSwPop n data) s = .next s) ∧
  (∀ (q : Fin 16384) (pushes : List (Nat × List Byte)) (withPop : Bool) (n m : Fin 3) (d₁ d₂ : Word) (s : State), n < m →
    Fld.QUIRE_SW_CMD_QUIRE.get d₁ = q → Fld.QUIRE_SW_CMD_QUIRE.get d₂ = q → Fld.QUIRE_SW_CMD_PUSH.get d₁ = 1 →
    Fld.QUIRE_SW_CMD_PUSH.get d₂ = 1 → ∃ u v, exec (.quirePush q pushes withPop) s = .next u ∧
      exec (.quireSwPush n d₁) u = .next v ∧
      exec (.quirePush q pushes withPop [(m, d₂), (n, d₁)]) s = exec (.quireSwPush m d₂) v) ∧
  (∀ (q : Fin 16384) (pops : List (Nat × Nat)) (n m : Fin 3) (d₁ d₂ : Word) (s : State), n < m →
    Fld.QUIRE_SW_CMD_QUIRE.get d₁ = q → Fld.QUIRE_SW_CMD_QUIRE.get d₂ = q → Fld.QUIRE_SW_CMD_POP.get d₁ = 1 →
    Fld.QUIRE_SW_CMD_POP.get d₂ = 1 → ∃ u v, exec (.quirePop q pops) s = .next u ∧ exec (.quireSwPop n d₁) u = .next v ∧
      exec (.quirePop q pops [(m, d₂), (n, d₁)]) s = exec (.quireSwPop m d₂) v)

/-- R680: a pop whose head entry meets an uncorrectable error removes the entry and returns empty, and VAT_ECC_UNCORR is raised;
the quire's events follow the change of its count, of which only becoming empty can happen; a staging-window pop keeps
QUIRE_SWn_DATA and sets ECC_LOST. -/
def Obligations.LostEntry : Prop :=
  ∀ (q : Fin 16384) (a : Nat) (s : State) (c : Nat), c = s.quireCount q → s.quireOn q = true → 0 < c → s.tally.silent = false →
    s.eccBad (s.quireAddr q 0) (s.quireSize q) = true →
    (Completes (.quirePop q [(a, s.quireSize q)]) s fun t => t.quireCount q = c - 1 ∧ t.host.answer = [] ∧ t.shown 162 ∧
      t.fld (Reg.QUIRE_HEAD q) Fld.QUIRE_HEAD_HEAD = (s.fld (Reg.QUIRE_HEAD q) Fld.QUIRE_HEAD_HEAD + 1) %
        quireDepth (s.reg (Reg.QUIRE_CFG q)) ∧
      (c = 1 → s.bit (Reg.QUIRE_CFG q) Fld.QUIRE_CFG_EV_EMPTY = true →
        testBit (t.reg (Reg.QUIRE_PEND (q / 32))) (q % 32) = true ∧
        (testBit (s.reg (Reg.QUIRE_PEND (q / 32))) (q % 32) = false → t.shown 173)) ∧
      (c ≠ 1 ∨ s.bit (Reg.QUIRE_CFG q) Fld.QUIRE_CFG_EV_EMPTY = false →
        t.reg (Reg.QUIRE_PEND (q / 32)) = s.reg (Reg.QUIRE_PEND (q / 32))) ∧
      FrameEv (fun a => a == Reg.QUIRE_HEAD q || a == Reg.QUIRE_COUNT q || a == Reg.QUIRE_PEND (q / 32) || busRegs a) [.host] s t) ∧
    ∀ (n : Fin 3) (data : Word), Fld.QUIRE_SW_CMD_QUIRE.get data = q → Fld.QUIRE_SW_CMD_PUSH.get data = 0 →
      Fld.QUIRE_SW_CMD_POP.get data = 1 → s.bit (Reg.QUIRE_SW_STATUS n) Fld.QUIRE_SW_STATUS_BUSY = false →
      Completes (.quireSwPop n data) s fun t => t.quireCount q = c - 1 ∧ t.shown 162 ∧
        (∀ i, i < 16 → t.reg (Reg.QUIRE_SW_DATA n i) = s.reg (Reg.QUIRE_SW_DATA n i)) ∧
        t.bit (Reg.QUIRE_SW_STATUS n) Fld.QUIRE_SW_STATUS_ECC_LOST = true ∧
        t.bit (Reg.QUIRE_SW_STATUS n) Fld.QUIRE_SW_STATUS_EMPTY = true ∧
        t.bit (Reg.QUIRE_SW_STATUS n) Fld.QUIRE_SW_STATUS_POPPED = false

/-- R554, R562, R563: while the tally works, a raise sets the cause bit of its source, holds a record for the host event quire
where the enables say so, and, for a fault, sets the sticky bit; a fault in class 1 goes into GRACE, one in class 2 orders its
action at once, and the first one is kept in TALLY_FIRST. -/
def Obligations.RaisedEvents : Prop :=
  ∀ (src : Nat) (w3 : Word) (s : State), src < 320 → s.tally.silent = false →
    (s.raise src w3).shown src ∧ (s.raise src w3).summaryInForce ∧ FrameEv noRegs [] s (s.raise src w3) ∧
    (testBit (s.reg (Reg.EVG_ENABLE (src / 32))) (src % 32) = true → s.bit Reg.TALLY_EVQ Fld.TALLY_EVQ_EN = true →
      ∃ more, (s.raise src w3).time.records = s.time.records ++
        (⟨ptSec s.now % 2 ^ 32, ptNs s.now, src, s.fld Reg.TALLY_EVQ Fld.TALLY_EVQ_QUIRE, w3⟩ : EventRec) :: more) ∧
    (∀ n, faultOf src = some n → (s.raise src w3).sticky n = true) ∧
    (∀ n, faultOf src = some n → s.sticky n = false →
      Fld.TALLY_CLASS_CLASS.get (s.reg (Reg.TALLY_CLASS n)) = 1 →
      (s.raise src w3).inGrace n = true ∧ (s.raise src w3).shown 32 ∧ (s.raise src w3).sent = s.sent) ∧
    (∀ n, faultOf src = some n → s.sticky n = false →
      Fld.TALLY_CLASS_CLASS.get (s.reg (Reg.TALLY_CLASS n)) = 2 →
      (s.raise src w3).sent.ordered = s.sent.ordered ++
        [(n, Fld.TALLY_CLASS_ACTION.get (s.reg (Reg.TALLY_CLASS n)))] ∧ (s.raise src w3).shown 34) ∧
    (∀ n, faultOf src = some n → s.noSticky = true →
      (s.raise src w3).regN Reg.TALLY_FIRST = n + 2 ^ 9 ∧ (s.raise src w3).reg64 Reg.TALLY_FIRST_GLOSS = gloss s.now)

/-- R552, R555: a write to EVGg_FORCE raises the assigned sources of its bits for the event path alone: their cause bits are
set, and no fault reacts. GLOBAL_SUMMARY and IRQ_N follow. R553, R555, R562: a forced fault sets its sticky bit and raises
FORCED; with a raise by its condition in the same cycle it is that one raise, not forced (R564); a clear of a sticky bit takes
it away unless the fault is raised in its cycle, which then reacts as from CLEAR. R562, R564: the expiry of a grace timer ends
the GRACE state of its fault, orders the action of the class word taken at the raise, and leaves the sticky bit; a fault that is
not in GRACE ignores it. R606: a raise of a watchdog fault of a processor that leaves CLEAR settles whether it came within 2 s
of an activation. -/
def Obligations.ForcesAndClears : Prop :=
  (∀ (g : Fin 10) (data : Word) (s : State), Completes (.evggForceWrite g data) s fun t =>
     (∀ i, i < 32 → testBit data i = true → sourceAssigned (32 * g + i) = true → t.shown (32 * g + i)) ∧
     t.tally = s.tally ∧ t.sent = s.sent ∧ t.summaryInForce ∧
     FrameEv noRegs [] s t ∧ (∀ h : Fin 10, h ≠ g → t.reg (Reg.EVG_CAUSE h) = s.reg (Reg.EVG_CAUSE h)) ∧
     (∀ w, w < 6 → t.reg (Reg.TALLY_STICKY w) = s.reg (Reg.TALLY_STICKY w))) ∧
  ((∀ (w : Fin 6) (i : Nat) (s : State), i < 32 → sourceAssigned (sourceOf (32 * w + i)) = true →
     Completes (.tallyForceWrite w (bitMask i) []) s fun t =>
       t.sticky (32 * w + i) = true ∧ t.shown (sourceOf (32 * w + i)) ∧ t.shown 35 ∧
       WdogNoted (32 * w + i) (!s.sticky (32 * w + i)) s t ∧ FrameEv noRegs [.boot] s t) ∧
   (∀ (w : Fin 6) (i : Fin 32) (w3 : Word) (s : State), sourceAssigned (sourceOf (32 * w + i)) = true →
     Completes (.tallyForceWrite w (bitMask i) [(i, w3)]) s fun t =>
       t.sticky (32 * w + i) = true ∧ t.shown (sourceOf (32 * w + i)) ∧
       testBit (t.reg (Reg.EVG_CAUSE 1)) 3 = testBit (s.reg (Reg.EVG_CAUSE 1)) 3 ∧
       WdogNoted (32 * w + i) (!s.sticky (32 * w + i)) s t ∧ FrameEv noRegs [.boot] s t) ∧
   (∀ (w : Fin 6) (i : Nat) (s : State), i < 32 → Completes (.tallyStickyClear w (bitMask i) 0 0) s fun t =>
       t.sticky (32 * w + i) = false ∧ (s.sticky (32 * w + i) = true → t.inGrace (32 * w + i) = false) ∧
       FrameEv noRegs [.boot] s t) ∧
   (∀ (w : Fin 6) (i : Nat) (s : State), i < 32 → s.sticky (32 * w + i) = true →
     Completes (.tallyStickyClear w (bitMask i) (bitMask i) 0) s fun t => t.sticky (32 * w + i) = true ∧
       t.inGrace (32 * w + i) = (Fld.TALLY_CLASS_CLASS.get (s.reg (Reg.TALLY_CLASS (32 * w + i))) == 1) ∧
       (Fld.TALLY_CLASS_CLASS.get (s.reg (Reg.TALLY_CLASS (32 * w + i))) = 2 →
         t.sent.ordered = s.sent.ordered ++
           [(32 * w.val + i, Fld.TALLY_CLASS_ACTION.get (s.reg (Reg.TALLY_CLASS (32 * w + i))))]) ∧
       WdogNoted (32 * w + i) true s t ∧ FrameEv noRegs [.boot] s t)) ∧
  ((∀ (n : Fin 192) (c : Bool) (s : State), s.inGrace n = true → Completes (.graceExpiry n c) s fun t =>
     t.inGrace n = false ∧ t.sticky n = s.sticky n ∧ t.shown 34 ∧
     t.sent.ordered = s.sent.ordered ++ [(n.val, Fld.TALLY_CLASS_ACTION.get (SMap.find 0 s.tally.taken n))] ∧
     t.fld Reg.TALLY_STATUS Fld.TALLY_STATUS_ORDERED = 1 ∧ FrameEv noRegs [] s t) ∧
   (∀ (n : Fin 192) (c : Bool) (s : State), s.inGrace n = false → Completes (.graceExpiry n c) s fun t => t = s))

/-- R556: a write to EVGg_CAUSE clears the bits written 1, except those raised in the same cycle. -/
def Obligations.CauseClear : Prop :=
  ∀ (g : Fin 10) (data raised : Word) (s : State), Completes (.evggCauseClear g data raised) s fun t =>
    t.reg (Reg.EVG_CAUSE g) = s.reg (Reg.EVG_CAUSE g) &&& ~~~(data &&& ~~~raised) ∧ t.summaryInForce ∧
    t.tally = s.tally ∧ (∀ h : Fin 10, h ≠ g → t.reg (Reg.EVG_CAUSE h) = s.reg (Reg.EVG_CAUSE h)) ∧
    (∀ w, w < 6 → t.reg (Reg.TALLY_STICKY w) = s.reg (Reg.TALLY_STICKY w)) ∧ FrameEv noRegs [] s t

/-- R578, R645, R651, R652: RESET_N high latches the straps and starts the system PLL, while a level on the MODE pins, with
which no behaviour is guaranteed, stops the model; RESET_N low and PWRGOOD low put every domain back to reset; a RESET_N pulse
shorter than 1 µs is ignored, and one from there to 10 µs does either (R666, log entry 1). Where PWRGOOD is not high at the edge
of RESET_N, the reset wins. The tables of the stream engine then hold no entry (log entry 105); the model's choice are the bytes
that the other memories keep (log entry 3) and the levels of PVDD and JD that it keeps (log entry 23). -/
def Obligations.ResetPins : Prop :=
  (∀ (straps : BitVec 8) (s : State), s.power = .reset → Completes (.resetNRise straps 0) s fun t => t.power = .held ∧
    t.regN Reg.BOOT_STRAP = straps.toNat ∧
    t.bit Reg.HOST_STATUS Fld.HOST_STATUS_IF = t.bit Reg.BOOT_STRAP Fld.BOOT_STRAP_HOST_IF ∧
    Frame (fun a => a == Reg.BOOT_STRAP || a == Reg.HOST_STATUS) [.power] s t) ∧
  (∀ (straps : BitVec 8) (mode : BitVec 3) (s : State), s.power = .reset → mode ≠ 0 →
    exec (.resetNRise straps mode) s = .fault .testMode) ∧
  (∀ (straps : BitVec 8) (mode : BitVec 3) (s : State), s.power ≠ .reset → exec (.resetNRise straps mode) s = .next s) ∧
  (∀ (s : State) (ns : Nat), ns < 1000 → exec (.resetNFall ns) s = .next s) ∧
  (∀ (s : State) (ns : Nat), 1000 ≤ ns → ns < 10000 → Completes (.resetNFall ns) s fun t =>
    t = s.takeFree.2 ∨ t = s.takeFree.2.allReset) ∧
  (∀ (s : State), s.power = .reset → exec .pwrgoodFall s = .next s ∧
    (∀ straps mode, exec (.resetNRise straps mode false) s = .next s) ∧
    ∀ ns, 10000 ≤ ns → exec (.resetNFall ns) s = .next s) ∧
  (∀ (s : State) (c : Instr), s.power ≠ .reset → (c = .pwrgoodFall ∨ (∃ straps mode, c = .resetNRise straps mode false) ∨
      ∃ ns, 10000 ≤ ns ∧ c = .resetNFall ns) →
    Completes c s fun t => t.power = .reset ∧ t.regs = [] ∧ t.irqN = true ∧
      (∀ p : Part, p ∉ [.mem, .dram, .spare, .ecc, .aout, .boot, .pending, .events] → p.same State.reset t) ∧
      t.aout = { jdMv := s.aout.jdMv, pvddLow := s.aout.pvddLow, pvddHigh := s.aout.pvddHigh } ∧
      t.boot = { flash := s.boot.flash, idleA := s.boot.idleA, idleB := s.boot.idleB } ∧
      t.mem = Memory.clear s.mem 0x02080000 0x02140000 ∧ t.dram = s.dram ∧ t.spare = s.spare ∧ t.pending = s.pending)

/-- R81, R100, R152, R337, R340, R405, R569, R571, R609: the system PLL locks and the device runs, does not lock and the device
is held with ALERT, or loses lock; the memories are cleared once; a device reset returns all but the sentinel domain to reset;
dormant mode is entered with every lane off and the host link down, and left by a wake pattern on an armed lane. Choices of the
model: the memories that keep their bytes (log entry 3), the tables that a device reset empties (log entry 105), IRQ_N released
after a lock time-out (log entry 77), and HPLL_LOCK set with SYS_LOCK where the straps select PCIe (R84, log entry 115). -/
def Obligations.PowerStates : Prop :=
  (∀ (s : State), s.power = .held → s.fld Reg.SENT_STATUS Fld.SENT_STATUS_CAUSE ≠ 3 → Completes .sysLock s fun t =>
    t.power = .running ∧ t.sysLocked = true ∧ t.sent.beating = true ∧
    t.bit Reg.SYNTH_SYS_STATUS Fld.SYNTH_SYS_STATUS_HPLL_LOCK =
      (!s.bit Reg.HOST_STATUS Fld.HOST_STATUS_IF || s.bit Reg.SYNTH_SYS_STATUS Fld.SYNTH_SYS_STATUS_HPLL_LOCK) ∧
    Frame (fun a => a == Reg.SYNTH_SYS_STATUS) [.power, .sent] s t) ∧
  (∀ (s : State), s.power = .held → Completes .syspllLockTimeout s fun t =>
    t.bit Reg.SENT_STATUS Fld.SENT_STATUS_ALERT = true ∧ t.fld Reg.SENT_STATUS Fld.SENT_STATUS_CAUSE = 3 ∧
    t.irqN = true ∧ t.power = .held ∧ FrameEv (fun a => a == Reg.SENT_STATUS) [] s t) ∧
  (∀ (s : State), s.sysLocked = true → s.tally.silent = false → Completes .syspllUnlock s fun t =>
    t.sysLocked = false ∧ t.shown 8 ∧ FrameEv (fun a => a == Reg.SYNTH_SYS_STATUS) [] s t) ∧
  (∀ (s : State), s.power = .running → s.boot.cleared = false → Completes .memoryClearDone s fun t =>
    t.boot.cleared = true ∧
    (∀ a, (vatLo ≤ a ∧ a < vatHi) ∨ (0x04000000 ≤ a ∧ a < 0x05000000) → Memory.byte t.mem a = 0) ∧
    (∀ a, ¬((vatLo ≤ a ∧ a < vatHi) ∨ (0x04000000 ≤ a ∧ a < 0x05000000)) → Memory.byte t.mem a = Memory.byte s.mem a) ∧
    Frame noRegs [.mem, .ecc, .boot] s t) ∧
  (∀ (s : State), s.resetPending = true → Completes .deviceReset s fun t => t.power = .held ∧
    (∀ a, a ∉ sentinelRegs → a ≠ Reg.HOST_STATUS → a ≠ Reg.GLOBAL_SUMMARY → a ≠ Reg.GLOBAL_REMOTE_SUMMARY →
      t.reg a = regReset a) ∧
    (∀ a ∈ sentinelRegs, a ≠ Reg.SENT_STATUS → t.reg a = s.reg a) ∧
    t.resetPending = false ∧ t.holding = false ∧ t.sent.bySentinel = s.sent.sentDue ∧
    t.fld Reg.SENT_STATUS Fld.SENT_STATUS_RESETS = (if s.sent.sentDue
      then min 255 (s.fld Reg.SENT_STATUS Fld.SENT_STATUS_RESETS + 1) else s.fld Reg.SENT_STATUS Fld.SENT_STATUS_RESETS) ∧
    (∀ p : Part, p ∉ [.power, .mem, .dram, .spare, .ecc, .aout, .boot, .sent, .pending, .events] → p.same State.reset t) ∧
    t.boot.flash = s.boot.flash ∧ t.mem = Memory.clear s.mem 0x02080000 0x02140000) ∧
  (∀ (n : Fin 10) (s : State), s.power = .dormant → (s.fld Reg.FAB_WAKE_CTRL Fld.FAB_WAKE_CTRL_ARM).testBit n = true →
    Completes (.wakeDetect n) s fun t => t.power = .held ∧ t.bit Reg.FAB_WAKE_STATUS Fld.FAB_WAKE_STATUS_WOKE = true ∧
      t.fld Reg.FAB_WAKE_STATUS Fld.FAB_WAKE_STATUS_LANE = n ∧
      (∀ p : Part, p ∉ [.power, .mem, .dram, .spare, .ecc, .aout, .boot, .pending, .events] → p.same State.reset t)) ∧
  (∀ (s : State), s.audio = false → s.seqState = 0 → s.bit Reg.FAB_WAKE_CTRL Fld.FAB_WAKE_CTRL_SENDING = false →
    Completes .dormantEnter s fun t => t.power = .dormant ∧ (∀ n, n < 10 → t.lane n = 0) ∧
      t.linkUp = false ∧ (s.linkUp = true → s.tally.silent = false → t.shown 21 ∧ t.host.cfg = []) ∧
      FrameEv (fun a => lossRegs a || a == Reg.HOST_STATUS || a == Reg.SYNTH_SYS_STATUS) [.power, .stream, .host] s t) ∧
  (∀ (s : State), s.audio = true ∨ s.seqState ≠ 0 ∨ s.bit Reg.FAB_WAKE_CTRL Fld.FAB_WAKE_CTRL_SENDING = true →
    s.tally.silent = false → Completes .dormantEnter s fun t =>
    t.shown 106 ∧ t.power = s.power ∧ FrameEv noRegs [] s t)

/-- R451, R529, R564, R566-R570: the sentinel. Every action drops the claim; HOLD_OUTPUTS and RESET_DEVICE start the output
hold, and RESET_DEVICE schedules the device reset with ALERT; RESET_SUBSYSTEM resets the subsystem of its fault's group: the
servo goes to FREE, the engine array to OFFLINE with SEQ idle and its counters reset, AIN, HADC and LAMP to their reset values,
the clauses not yet frozen unwind as aborted, a processor restarts (after a watchdog fault within 2 s of an activation from the
image before it, R606), and any other fault resets the device; a heartbeat that stops makes the sentinel do all of it on its own;
at the end of the hold time the outputs ramp to zero, in folios where their converter has its clock, else within the analogue
ramp. -/
def Obligations.SentinelActs : Prop :=
  (∀ (s : State), s.sent.ordered ≠ [] → Completes .escalationAction s fun t => t.dropped = true ∧
    ((∃ o ∈ s.sent.ordered, o.2 = 1 ∨ o.2 = 3) → t.holding = true) ∧
    ((∃ o ∈ s.sent.ordered, o.2 = 3) → t.resetPending = true) ∧
    ((∀ o ∈ s.sent.ordered, o.2 = 0) →
      FrameEv (fun a => a == Reg.REDUN_STATUS || a == Reg.REDUN_CLAIM) [.redun, .boot] s t)) ∧
  (∀ (n : Nat) (s : State), n < 192 → s.sent.ordered = [(n, 2)] → Completes .escalationAction s fun t => t.dropped = true ∧
    t.sent.ordered = [] ∧ SubsystemReset n s t) ∧
  (∀ (s : State), s.sent.ordered = [] → exec .escalationAction s = .next s) ∧
  (∀ (s : State), s.sent.beating = true → s.tally.silent = false → s.resetPending = false →
    Completes .tallySilent s fun t => t.tally.silent = true ∧ t.dropped = true ∧ t.holding = true ∧ t.resetPending = true ∧
      t.bit Reg.SENT_STATUS Fld.SENT_STATUS_ALERT = true ∧ t.fld Reg.SENT_STATUS Fld.SENT_STATUS_CAUSE = 1 ∧
      t.sent.sentDue = true ∧
      FrameEv (fun a => a == Reg.SENT_STATUS || a == Reg.REDUN_STATUS || a == Reg.REDUN_CLAIM || a == Reg.AOUT_HOLD ||
        (List.range 14).any (fun o => a == Reg.AOUT_OUT_STATUS o)) [.silent, .sent, .redun, .aout] s t) ∧
  (∀ (s : State), s.holding = true → s.sent.holdOver = false → s.tally.silent = false → Completes .holdEnd s fun t =>
    t.sent.holdOver = true ∧ t.shown 267 ∧
    (∀ (o : Fin 14) (h : OutHold), s.outState o = 5 → SMap.find none s.aout.held o = some h →
      SMap.find none t.aout.held o =
        some { h with ramp := if s.outClock o = true then .folios (sampleAt s.hz s.now) s.holdRamp else .analogue s.now }) ∧
    (∀ p : Fin 32, s.sapState p = 2 → s.sapCtl p Fld.SAP_CTRL_TX_EN = 1 → s.shared p = false →
      (t.sapSt p).ramp = some (0, (s.sapSt p).outL, (s.sapSt p).outR)) ∧ FrameEv noRegs [.sent, .aout, .sap] s t) ∧
  (∀ (s : State), s.holding = false ∨ s.sent.holdOver = true → exec .holdEnd s = .next s)

/-- R9-R11, R404, R594, R630, R637: a word written by a master. A register of 32 bits, in every block, without a rule of its own
(`ownRules` lists those with one) takes the bits of its RW fields, and its W1C and STK fields clear where the word has ones; in
the tally GLOBAL_SUMMARY follows; vat memory takes the word; before the release the host's write to a block other than GLOBAL and
BOOT changes nothing and is answered with cause 2; and one to an address that lies in no block, with cause 1 at all times. That
the access holds a tag of XBAR_INFLIGHT is the model's reading (log entry 99). -/
def Obligations.RegisterWrites : Prop :=
  (∀ (m : RegMaster) (addr : BitVec 32) (data : Word) (s : State) (r : RegRow), regionOf addr.toNat = .reg →
    regRow addr.toNat = some r → r.words ≤ 1 → r.base ∉ ownRules → s.hostBarred m addr.toNat = false →
    Completes (.registerWrite m addr data) s fun t =>
      t.reg addr.toNat = (((s.holdTags 1).reg addr.toNat &&& ~~~(BitVec.ofNat 32 r.rw)) |||
        (data &&& BitVec.ofNat 32 r.rw)) &&& ~~~(data &&& BitVec.ofNat 32 r.w1c) ∧
      (inRange 0x100000 0x200000 addr.toNat = false →
        Frame (fun a => a == addr.toNat || a == Reg.XBAR_INFLIGHT) [] s t) ∧
      (inRange 0x100000 0x200000 addr.toNat = true → t.summaryInForce ∧ t.tally = s.tally ∧
        Frame (fun a => a == addr.toNat || a == Reg.XBAR_INFLIGHT || a == Reg.GLOBAL_SUMMARY ||
          a == Reg.GLOBAL_REMOTE_SUMMARY) [.events] s t)) ∧
  (∀ (m : RegMaster) (g : Fin 10) (data : Word) (s : State), s.hostBarred m (Reg.EVG_ENABLE g) = false →
    Completes (.registerWrite m (BitVec.ofNat 32 (Reg.EVG_ENABLE g)) data) s fun t =>
      t.reg (Reg.EVG_ENABLE g) = data ∧ t.summaryInForce ∧
      FrameEv (fun a => a == Reg.EVG_ENABLE g || a == Reg.XBAR_INFLIGHT) [] s t) ∧
  (∀ (m : RegMaster) (addr : BitVec 32) (data : Word) (s : State), inVat addr.toNat 4 = true →
    s.rmwBad addr.toNat 4 = false → s.hostBarred m addr.toNat = false →
    Completes (.registerWrite m addr data) s fun t => t.word addr.toNat = data ∧
      KeepsOutside s.mem t.mem addr.toNat 4 ∧ FrameEv busRegs [.mem, .ecc] s t) ∧
  (∀ (addr : BitVec 32) (data : Word) (s : State), s.released = false → 0x100000 ≤ addr.toNat →
    (addr.toNat < 0x9000000 ∨ 0x9100000 ≤ addr.toNat) → regionOf addr.toNat ≠ .nothing →
    Completes (.registerWrite .host addr data) s fun t =>
      t.reg Reg.GLOBAL_HOST_ERR_ADDR = addr ∧ t.fld Reg.GLOBAL_HOST_ERR ⟨0, 4⟩ = 2 ∧ t.host.cause = 2 ∧
      t.bit Reg.GLOBAL_HOST_ERR ⟨10, 1⟩ = true ∧
      FrameEv (fun a => a == Reg.GLOBAL_HOST_ERR || a == Reg.GLOBAL_HOST_ERR_ADDR) [.host] s t) ∧
  (∀ (addr : BitVec 32) (data : Word) (s : State), regionOf addr.toNat = .nothing →
    Completes (.registerWrite .host addr data) s fun t => HostTold 1 0 true addr.toNat t ∧
      FrameEv (fun a => a == Reg.GLOBAL_HOST_ERR || a == Reg.GLOBAL_HOST_ERR_ADDR || busRegs a) [.host] s t)

/-- R33-R38: wide registers. A read of word 0 answers it and latches the whole register into the master's own shadow; a read of
a higher word answers from the shadow, and one that no read of word 0 precedes records its offset in GLOBAL_STALE_READ; a write
of a higher word is only staged for its master; a write of word 0 puts it and the master's staged words into force together. Each
access holds a tag of the crossbar (R401, R436, log entry 99). -/
def Obligations.WideRegisters : Prop :=
  (∀ (m : RegMaster) (addr : BitVec 32) (s : State) (r : RegRow), regRow addr.toNat = some r → 1 < r.words → r.idx = 0 →
    Completes (.wideReadWord0 m addr) s fun t =>
      t.host.answer = wordBytes ((s.refresh addr.toNat).reg addr.toNat) ∧
      (∀ i, i < r.words → SMap.find 0 t.shadow (wideKey m (addr.toNat + 4 * i)) =
        (s.refresh addr.toNat).reg (addr.toNat + 4 * i)) ∧
      (∀ i, 0 < i → i < r.words → wideKey m (addr.toNat + 4 * i) ∈ t.fresh) ∧
      (∀ (m' : RegMaster) (b : Nat), RegMaster.key m' ≠ RegMaster.key m → b < 2 ^ 32 → addr.toNat + 4 * r.words < 2 ^ 32 →
        SMap.find 0 t.shadow (wideKey m' b) = SMap.find 0 s.shadow (wideKey m' b)) ∧
      (addr.toNat ≠ Reg.SEQ_RELEASE_FOLIO → Frame (fun a => a == Reg.XBAR_INFLIGHT) [.shadow, .fresh, .host] s t)) ∧
  (∀ (m : RegMaster) (addr : BitVec 32) (s : State) (r : RegRow), regRow addr.toNat = some r → 0 < r.idx →
    wideKey m addr.toNat ∈ s.fresh → Completes (.wideReadHigh m addr) s fun t =>
      t.host.answer = wordBytes (SMap.find 0 s.shadow (wideKey m addr.toNat)) ∧ wideKey m addr.toNat ∉ t.fresh ∧
      t.shadow = s.shadow ∧ Frame (fun a => a == Reg.XBAR_INFLIGHT) [.fresh, .host] s t) ∧
  (∀ (m : RegMaster) (addr : BitVec 32) (s : State) (r : RegRow), regRow addr.toNat = some r → 0 < r.idx →
    wideKey m addr.toNat ∉ s.fresh → Completes (.wideReadHigh m addr) s fun t =>
      t.host.answer = wordBytes (SMap.find 0 s.shadow (wideKey m addr.toNat)) ∧
      t.bit Reg.GLOBAL_STALE_READ ⟨0, 1⟩ = true ∧ t.fld Reg.GLOBAL_STALE_READ ⟨2, 30⟩ = addr.toNat / 4 ∧
      Frame (fun a => a == Reg.GLOBAL_STALE_READ || a == Reg.XBAR_INFLIGHT) [.host] s t) ∧
  (∀ (m : RegMaster) (addr : BitVec 32) (data : Word) (s : State) (r : RegRow), regRow addr.toNat = some r → 0 < r.idx →
    wideWritable (wideBase addr.toNat r) r.words = true → s.hostBarred m addr.toNat = false →
    Completes (.wideWriteHigh m addr data) s fun t => t.stagedWord m addr.toNat = data ∧
      Frame (fun a => a == Reg.XBAR_INFLIGHT) [.staging] s t) ∧
  (∀ (m : RegMaster) (addr : BitVec 32) (data : Word) (s : State) (r : RegRow), regRow addr.toNat = some r →
    s.hostBarred m addr.toNat = true → Completes (.wideWriteHigh m addr data) s (HostRefused 2 0 true addr.toNat s) ∧
      Completes (.wideWriteWord0 m addr data) s (HostRefused 2 0 true addr.toNat s)) ∧
  (∀ (m : RegMaster) (addr : BitVec 32) (data : Word) (s : State) (r : RegRow) (x : Nat), regRow addr.toNat = some r →
    (x = Reg.TIME_ADJ ∨ ∃ n : Fin 4, x = Reg.TIME_PULSE_START n ∨ x = Reg.TIME_PULSE_PERIOD n) → addr.toNat = x →
    s.hostBarred m addr.toNat = false → Completes (.wideWriteWord0 m addr data) s fun t => t.reg x = data ∧
      (∀ i, 0 < i → i < r.words → (x = Reg.TIME_ADJ → i < 3) → t.reg (x + 4 * i) = s.stagedWord m (x + 4 * i)) ∧
      Frame (fun a => inRange x (x + 4 * r.words) a || a == Reg.XBAR_INFLIGHT) [] s t) ∧
  (∀ (m : RegMaster) (n : Fin 2) (data : Word) (s : State), s.hostBarred m (Reg.SYNTH_RATIO n) = false →
    n.val ∉ s.heldPlls → Completes (.wideWriteWord0 m (BitVec.ofNat 32 (Reg.SYNTH_RATIO n)) data) s fun t =>
      t.stagedOr (Reg.SYNTH_RATIO n) = data ∧
      (t.stagedOr (Reg.SYNTH_RATIO n + 4)).toNat % 256 =
        (s.stagedWord m (Reg.SYNTH_RATIO n + 4)).toNat % 256 ∧ Frame (fun a => a == Reg.XBAR_INFLIGHT) [.synth] s t)

/-- R10: an offset inside a block that no register occupies ignores writes and reads as zero. The tables of the stream engine
and the coefficient ROM occupy their windows (R256, R363, R379). -/
def Obligations.ReservedOffsets : Prop :=
  (∀ (m : RegMaster) (addr : BitVec 32) (data : Word) (s : State), regionOf addr.toNat = .reg →
    regRow addr.toNat = none → s.hostBarred m addr.toNat = false → Completes (.registerWrite m addr data) s fun t =>
      Frame (fun a => a == Reg.XBAR_INFLIGHT) [] s t) ∧
  (∀ (via : HostPath) (be : List (BitVec 4)) (s : State) (a : Nat), s.hostReaches via 4 1 0 a → s.wholeWords be → a % 4 = 0 →
    regionOf a = .reg → regRow a = none → (a < 0x2000000 ∨ 0x2400000 ≤ a) →
    (a < srcCoefAt ∨ srcCoefAt + 4 * 131073 ≤ a) → Completes (.hostRead via 1 be) s fun t =>
      t.host.data = [0] ∧ t.host.cause = 0 ∧ Frame (fun a => a == Reg.XBAR_INFLIGHT) [.host] s t)

/-- R495-R509: a serial audio port. EN takes it to SEEK or to OFF, and a change of the fields that EN locks is refused; 16 good
frames in a row take it from SEEK to RUN, two bad ones from RUN to SEEK, and each bad one is counted; a good frame of a
grid-mode port in RUN puts its samples into the receive block, and the frame that starts carries the samples of the folio
released last; samples that have not come become zeros at their instant; and a port without an edge for its time is LOST. The
model's readings (log entry 70): a frame in LOST takes the port to SEEK and is then judged, the second bad frame in RUN is counted
too, a grid port sends the folio released last, and a write that EN locks is ignored whole. -/
def Obligations.SerialPorts : Prop :=
  (∀ (p : Fin 32) (data : Word) (s : State), s.bit (Reg.SAP_CTRL p) Fld.SAP_CTRL_EN = false →
    Completes (.sapCtrlWrite p data) s fun t =>
      t.bit (Reg.SAP_CTRL p) Fld.SAP_CTRL_EN = (Fld.SAP_CTRL_EN.get data == 1) ∧
      t.fld (Reg.SAP_CTRL p) ⟨1, 6⟩ = (⟨1, 6⟩ : Field).get data ∧
      (Fld.SAP_CTRL_EN.get data = 1 → t.sapState p = 1 ∧ (t.sapSt p).good = 0) ∧
      (Fld.SAP_CTRL_EN.get data = 0 → t.sapState p = s.sapState p) ∧
      Frame (fun a => a == Reg.SAP_CTRL p || a == Reg.SAP_STATUS p) [.sap] s t) ∧
  (∀ (p : Fin 32) (data : Word) (s : State), s.bit (Reg.SAP_CTRL p) Fld.SAP_CTRL_EN = true →
    s.fld (Reg.SAP_CTRL p) ⟨1, 6⟩ = (⟨1, 6⟩ : Field).get data → Fld.SAP_CTRL_EN.get data = 0 →
    Completes (.sapCtrlWrite p data) s fun t => t.bit (Reg.SAP_CTRL p) Fld.SAP_CTRL_EN = false ∧ t.sapState p = 0 ∧
      (t.sapSt p).outL = 0 ∧ (t.sapSt p).outR = 0 ∧
      Frame (fun a => a == Reg.SAP_CTRL p || a == Reg.SAP_STATUS p) [.sap] s t) ∧
  (∀ (p : Fin 32) (data : Word) (s : State), s.bit (Reg.SAP_CTRL p) Fld.SAP_CTRL_EN = true →
    s.fld (Reg.SAP_CTRL p) ⟨1, 6⟩ ≠ (⟨1, 6⟩ : Field).get data → Completes (.sapCtrlWrite p data) s fun t =>
      (s.tally.silent = false → SMap.find 0 s.raised (limitKey 244 p) ≠ s.folio + 1 → t.shown 244) ∧
      FrameEv noRegs [] s t) ∧
  (∀ (p : Fin 32) (f : SapFrame) (s : State), s.sapState p = 0 → exec (.sapFrame p f) s = .next s) ∧
  (∀ (p : Fin 32) (f : SapFrame) (s : State), s.sapState p = 1 → Completes (.sapFrame p f) s fun t =>
    t.fld (Reg.SAP_PERIOD p) Fld.SAP_PERIOD_PERIOD = f.period.toNat ∧
    (s.sapCause p f ≠ 0 → t.sapState p = 1 ∧ (t.sapSt p).good = 0) ∧
    (s.sapCause p f = 0 → (s.sapSt p).good < 15 → t.sapState p = 1 ∧ (t.sapSt p).good = (s.sapSt p).good + 1) ∧
    (s.sapCause p f = 0 → 15 ≤ (s.sapSt p).good → t.sapState p = 2 ∧ (s.sapSrc p = true → t.reg64 (Reg.SAP_FRAMES p) = 0)) ∧
    t.mem = s.mem) ∧
  (∀ (p : Fin 32) (f : SapFrame) (s : State), s.sapState p = 3 → Completes (.sapFrame p f) s fun t => t.sapState p = 1 ∧
    (t.sapSt p).good = (if s.sapCause p f = 0 then 1 else 0) ∧ t.mem = s.mem) ∧
  (∀ (p : Fin 32) (f : SapFrame) (s : State), s.sapState p = 2 → s.sapCause p f ≠ 0 → Completes (.sapFrame p f) s fun t =>
    t.regN (Reg.SAP_FRAME_ERRS p) = min (s.regN (Reg.SAP_FRAME_ERRS p) + 1) 0xFFFFFFFF ∧
    t.sapState p = (if (s.sapSt p).bad = 0 then 2 else 1)) ∧
  (∀ (p : Fin 32) (f : SapFrame) (s : State) (n b : Nat), s.sapState p = 2 → s.sapSrc p = false → s.sapCause p f = 0 →
    s.sapCtl p Fld.SAP_CTRL_RX_EN = 1 → n = sampleAt s.hz (s.sapEdge p f) →
    b = s.regN (Reg.SAP_RXBASE p) + 64 * (n / 8 % 4) + 4 * (n % 8) → inVat b 36 = true →
    s.rmwBad b 4 = false → s.rmwBad (b + 32) 4 = false → Completes (.sapFrame p f) s fun t => t.sapState p = 2 ∧ (t.sapSt p).bad = 0 ∧
      (n % 8 < 7 → t.word b = topBits f.left (s.sapWidth p true) ∧ t.word (b + 32) = topBits f.right (s.sapWidth p false) ∧
        (∀ x, (x < b ∨ b + 4 ≤ x) → (x < b + 32 ∨ b + 36 ≤ x) → Memory.byte t.mem x = Memory.byte s.mem x) ∧
        FrameEv (fun a => a == Reg.SAP_PERIOD p || a == Reg.SAP_PHASE p || busRegs a) [.sap, .mem, .ecc] s t) ∧
      (n % 8 = 7 → s.sapFed p (n / 8) = false → (t.sapSt p).fed = n / 8 + 1 ∧
        t.feedPresent (s.fld (Reg.SAP_FEED p) Fld.SAP_FEED_FEED) (n / 8) = true) ∧
      (s.sapCtl p Fld.SAP_CTRL_TX_EN = 1 → s.holding = false →
        (t.sapSt p).outL = topBits (s.gridOut p 0 (sampleAt s.hz (s.sapEdge p f + f.period.toNat * 2 ^ 24))) (s.sapWidth p true) ∧
        (t.sapSt p).outR = topBits (s.gridOut p 1 (sampleAt s.hz (s.sapEdge p f + f.period.toNat * 2 ^ 24)))
          (s.sapWidth p false))) ∧
  (∀ (p : Fin 32) (k : Nat) (s : State), s.sapSrc p = false → s.sapFed p k = false →
    edgePt s.hz (8 * k + 8) + secUnit / (2 * s.hz) + 400 * nsUnit ≤ s.now →
    inVat (s.regN (Reg.SAP_RXBASE p) + 64 * (k % 4)) 64 = true → s.seq.tasks.any (fun x => x.folio == k) = false →
    (∀ j, j < 16 → s.rmwBad (s.regN (Reg.SAP_RXBASE p) + 64 * (k % 4) + 4 * j) 4 = false) →
    Completes (.sapRxMiss p k) s fun t => t.regN (Reg.SAP_RX_MISS p) = min (s.regN (Reg.SAP_RX_MISS p) + 1) 0xFFFFFFFF ∧
      (t.sapSt p).fed = k + 1 ∧ t.feedPresent (s.fld (Reg.SAP_FEED p) Fld.SAP_FEED_FEED) k = true ∧
      (∀ j, j < 8 → (s.sapState p ≠ 2 ∨ s.sapCtl p Fld.SAP_CTRL_RX_EN = 0 ∨ 8 * k + j ∉ (s.sapSt p).got) →
        t.word (s.regN (Reg.SAP_RXBASE p) + 64 * (k % 4) + 4 * j) = 0 ∧
        t.word (s.regN (Reg.SAP_RXBASE p) + 64 * (k % 4) + 4 * j + 32) = 0) ∧
      KeepsOutside s.mem t.mem (s.regN (Reg.SAP_RXBASE p) + 64 * (k % 4)) 64 ∧
      FrameEv (fun a => a == Reg.SAP_RX_MISS p || busRegs a) [.sap, .seq, .mem, .ecc] s t) ∧
  (∀ (p : Fin 32) (k : Nat) (s : State), s.sapSrc p = true ∨ s.sapFed p k = true ∨
    s.now < edgePt s.hz (8 * k + 8) + secUnit / (2 * s.hz) + 400 * nsUnit → exec (.sapRxMiss p k) s = .next s) ∧
  (∀ (p : Fin 32) (s : State), s.sapState p = 1 ∨ s.sapState p = 2 → Completes (.sapLost p false) s fun t =>
    t.sapState p = 3 ∧ (t.sapSt p).good = 0 ∧ (t.sapSt p).outL = 0 ∧ (t.sapSt p).outR = 0 ∧
    (s.srcOfPort p = [] → FrameEv (fun a => a == Reg.SAP_STATUS p) [.sap] s t)) ∧
  (∀ (p : Fin 32) (s : State), exec (.sapLost p true) s = .next s)

/-- R511-R524: the analogue inputs. EN = 1 leaves every channel without a calibration in use and asks for a synchronising reset;
the reset comes at a folio boundary after its cause and opens the settling time; a block puts the corrected samples of the 16
channels into memory and signals the feed; the preamplifier takes the committed gain; a phantom mute ends in a ramp up; and a
calibration step takes the spare, which serves the channel from the seventh folio boundary on; the modulator it replaced is then
calibrated and takes the spare's place, or, beyond the limits, ends the rotation. The model's readings (log entry 71): the spare
takes over at the seventh folio boundary, at once at an AIN_CAL_STEP_DONE before it, and SPARE reads 0x1F during a step. -/
def Obligations.AnalogueInputs : Prop :=
  (∀ (data : Word) (s : State), Fld.AIN_CTRL_EN.get data = 1 → Completes (.ainEnableWrite data) s fun t =>
    t.bit Reg.AIN_CTRL Fld.AIN_CTRL_EN = true ∧ t.bit Reg.AIN_STATUS Fld.AIN_STATUS_CAL_STOPPED = false ∧
    t.fld Reg.AIN_STATUS Fld.AIN_STATUS_SPARE = s.freeMod % 32 ∧ (∀ c, c < 16 → t.ainCal c = 0) ∧
    t.ain.pass = List.range 16 ∧ t.ain.step = none ∧ 3 ∈ t.ain.sync ∧
    Frame (fun a => a == Reg.AIN_CTRL || a == Reg.AIN_STATUS || (List.range 16).any (fun c => a == Reg.AIN_CH_STATE c))
      [.ain, .events] s t) ∧
  (∀ (data : Word) (s : State), Fld.AIN_CTRL_EN.get data = 0 → Completes (.ainEnableWrite data) s fun t =>
    t.bit Reg.AIN_CTRL Fld.AIN_CTRL_EN = false ∧ Frame (fun a => a == Reg.AIN_CTRL) [] s t) ∧
  (∀ (s : State), s.ain.sync = [] ∨ s.folio = s.ain.syncFolio → exec .ainSync s = .next s) ∧
  (∀ (s : State), s.ain.sync ≠ [] → s.folio ≠ s.ain.syncFolio → Completes .ainSync s fun t =>
    t.ain.sync = [] ∧ t.ain.settle = s.settling (8 * s.folio - 8) ++ [8 * s.folio] ∧
    t.fld Reg.AIN_STATUS Fld.AIN_STATUS_SETTLING = 0xFFFF ∧
    (∀ c, c < 16 → t.bit (Reg.AIN_CH_STATE c) Fld.AIN_CH_STATE_SETTLING = true ∧ t.ainCal c = s.ainCal c) ∧
    t.regN Reg.AIN_SYNC_COUNT = min (s.regN Reg.AIN_SYNC_COUNT + 1) 0xFFFFFFFF ∧
    (s.tally.silent = false → t.shown 256) ∧ t.ain.recs = s.ain.recs ∧ t.ain.phantom = s.ain.phantom ∧
    FrameEv (fun a => a == Reg.AIN_STATUS || a == Reg.AIN_SYNC_COUNT ||
      (List.range 16).any (fun c => a == Reg.AIN_CH_STATE c)) [.ain] s t) ∧
  (∀ (k : Nat) (samples : List (List Word)) (overload : BitVec 16) (s : State),
    s.bit Reg.AIN_CTRL Fld.AIN_CTRL_EN = false ∨ s.now < edgePt s.hz (8 * k + 7) →
    exec (.ainBlock k samples overload) s = .next s) ∧
  (∀ (k : Nat) (samples : List (List Word)) (overload : BitVec 16) (s : State),
    s.bit Reg.AIN_CTRL Fld.AIN_CTRL_EN = true → edgePt s.hz (8 * k + 7) ≤ s.now →
    inVat (s.regN Reg.AIN_RXBASE + 512 * (k % 4)) 512 = true → s.seq.tasks.any (fun x => x.folio == k) = false →
    (∀ c, c < 16 → s.rmwBad (s.regN Reg.AIN_RXBASE + 512 * (k % 4) + 32 * c) 32 = false) →
    Completes (.ainBlock k samples overload) s fun t =>
      (∀ c j, c < 16 → j < 8 → t.word (s.regN Reg.AIN_RXBASE + 512 * (k % 4) + 32 * c + 4 * j) =
        s.ainSample c (8 * k + j) (overload.getLsbD c) ((samples.getD c []).getD j 0)) ∧
      KeepsOutside s.mem t.mem (s.regN Reg.AIN_RXBASE + 512 * (k % 4)) 512 ∧
      (∀ c, c < 16 → t.phantom c = (s.phantom c).after) ∧
      t.feedPresent (s.fld Reg.AIN_FEED Fld.AIN_FEED_FEED) k = true ∧
      FrameEv (fun a => a == Reg.AIN_STATUS || a == Reg.AIN_CLIP_COUNT || busRegs a ||
        (List.range 16).any (fun c => a == Reg.AIN_CH_STATE c)) [.ain, .seq, .mem, .ecc] s t) ∧
  (∀ (c : Fin 16) (s : State), Completes (.ainGainSwitch c) s fun t =>
    SMap.find 0 t.ain.gain c = s.fld (Reg.AIN_CH_GAIN c) Fld.AIN_CH_GAIN_GAIN ∧
    (∀ i, i ≠ c.val → SMap.find 0 t.ain.gain i = SMap.find 0 s.ain.gain i) ∧ t.ain.recs = s.ain.recs ∧
    Frame noRegs [.ain] s t) ∧
  (∀ (c : Fin 16) (s : State), Completes (.ainPhantomMuteEnd c) s fun t =>
    (s.phantom c = .muted → t.phantom c = .rampUp ∧ t.bit (Reg.AIN_CH_STATE c) Fld.AIN_CH_STATE_PH_MUTE = false) ∧
    (s.phantom c ≠ .muted → t = s) ∧ (∀ i, i ≠ c.val → t.phantom i = s.phantom i) ∧
    Frame (fun a => a == Reg.AIN_CH_STATE c) [.ain] s t) ∧
  (∀ (s : State) (c : Nat) (rot : Bool), s.bit Reg.AIN_CTRL Fld.AIN_CTRL_EN = true → s.ain.step = none →
    s.fld Reg.AIN_STATUS Fld.AIN_STATUS_SPARE ≠ 0x1F → s.bit Reg.AIN_STATUS Fld.AIN_STATUS_CAL_STOPPED = false →
    s.calNext = some (c, rot) → Completes .ainCalStep s fun t =>
      t.ain.step = some { ch := c, spare := s.fld Reg.AIN_STATUS Fld.AIN_STATUS_SPARE, left := 7 } ∧
      t.fld Reg.AIN_STATUS Fld.AIN_STATUS_SPARE = 0x1F ∧ c ∉ t.ain.pass ∧
      t.ain.nextCh = (if rot then (c + 1) % 16 else s.ain.nextCh) ∧ Frame (fun a => a == Reg.AIN_STATUS) [.ain] s t) ∧
  (∀ (s : State), s.bit Reg.AIN_CTRL Fld.AIN_CTRL_EN = false ∨ s.ain.step ≠ none ∨
    s.bit Reg.AIN_STATUS Fld.AIN_STATUS_CAL_STOPPED = true ∨ s.fld Reg.AIN_STATUS Fld.AIN_STATUS_SPARE = 0x1F ∨
    s.calNext = none → exec .ainCalStep s = .next s) ∧
  (∀ (r : CalRecord) (s : State), s.ain.step = none → exec (.ainCalStepDone r) s = .next s) ∧
  (∀ (r : CalRecord) (s : State) (st : CalStep), s.ain.step = some st → st.left ≠ 0 → st.ch < 16 → st.spare < 17 →
    CalWithin r (2 ^ 23) 100 → Completes (.ainCalStepDone r) s fun t => t.ain.step = none ∧ t.ainMod st.ch = st.spare ∧
      t.fld Reg.AIN_STATUS Fld.AIN_STATUS_SPARE = s.ainMod st.ch ∧ t.ainRec (s.ainMod st.ch) = some (s.takeCal r) ∧
      (∀ q, s.ainRec st.spare = some q → s.calOk q = true → t.ainCal st.ch = 1 ∧
        t.reg (Reg.AIN_CH_CAL1 st.ch) = q.offset ∧ t.reg (Reg.AIN_CH_CAL2 st.ch) = q.gcorr ∧
        t.reg (Reg.AIN_CH_CAL4 st.ch) = q.taken) ∧
      FrameEv (fun a => a == Reg.AIN_STATUS || inRange (Reg.AIN_CH_STATE st.ch) (Reg.AIN_CH_STATE st.ch + 24) a) [.ain] s t) ∧
  (∀ (r : CalRecord) (s : State) (st : CalStep), s.ain.step = some st → st.left = 0 → st.freed < 17 →
    CalWithin r (2 ^ 23) 100 → Completes (.ainCalStepDone r) s fun t => t.ain.step = none ∧
      t.fld Reg.AIN_STATUS Fld.AIN_STATUS_SPARE = st.freed ∧ t.ainRec st.freed = some (s.takeCal r) ∧
      Frame (fun a => a == Reg.AIN_STATUS) [.ain] s t) ∧
  (∀ (r : CalRecord) (s : State) (st : CalStep), s.ain.step = some st → st.left = 0 → ¬CalWithin r (2 ^ 23) 100 →
    Completes (.ainCalStepDone r) s fun t => t.ain.step = none ∧
      t.bit Reg.AIN_STATUS Fld.AIN_STATUS_CAL_STOPPED = true ∧ t.ain.recs = s.ain.recs ∧ st.freed ∈ t.ain.noService ∧
      (s.tally.silent = false → t.shown 259) ∧ FrameEv (fun a => a == Reg.AIN_STATUS) [.ain] s t) ∧
  (∀ (r : CalRecord) (s : State) (st : CalStep), s.ain.step = some st → st.left ≠ 0 → st.ch < 16 → st.spare < 17 →
    ¬CalWithin r (2 ^ 23) 100 → Completes (.ainCalStepDone r) s fun t => t.ain.step = none ∧ t.ainMod st.ch = st.spare ∧
      t.bit Reg.AIN_STATUS Fld.AIN_STATUS_CAL_STOPPED = true ∧ t.ain.recs = s.ain.recs ∧
      (s.tally.silent = false → t.shown 259) ∧
      FrameEv (fun a => a == Reg.AIN_STATUS || inRange (Reg.AIN_CH_STATE st.ch) (Reg.AIN_CH_STATE st.ch + 24) a) [.ain] s t)

/-- R523, R526-R532, R653: the analogue outputs. EN takes an OFF output to BIAS_UP and an ON one, by a ramp, to BIAS_DOWN; the
mute conditions take it between ON and MUTED by a ramp from the gain it has, which begins at the current sample; the ends of
the bias phases, over-current and its retry, the class-D clock check,
the jack pins and PVDD change states, mutes and bridges as those rules say. -/
def Obligations.AnalogueOutputs : Prop :=
  (∀ (o : Fin 14) (data : Word) (s : State), s.outState o = 0 → Fld.AOUT_OUT_CFG_EN.get data = 1 →
    Completes (.aoutCfgWrite o data) s fun t => t.outState o = 1 ∧
      t.bit (Reg.AOUT_OUT_STATUS o) Fld.AOUT_OUT_STATUS_MUTE_SW = (Fld.AOUT_OUT_CFG_MUTE.get data == 1) ∧
      t.fld (Reg.AOUT_OUT_CFG o) ⟨0, 5⟩ = (⟨0, 5⟩ : Field).get data ∧
      Frame (fun a => a == Reg.AOUT_OUT_CFG o || a == Reg.AOUT_OUT_STATUS o) [.aout] s t) ∧
  (∀ (o : Fin 14) (data : Word) (s : State), s.outState o = 2 → Fld.AOUT_OUT_CFG_EN.get data = 0 →
    Completes (.aoutCfgWrite o data) s fun t => t.outState o = 4 ∧
      SMap.find none t.aout.ramp o = some ⟨s.outGain o, false, sampleAt s.hz s.now⟩ ∧
      Frame (fun a => a == Reg.AOUT_OUT_CFG o || a == Reg.AOUT_OUT_STATUS o) [.aout] s t) ∧
  (∀ (o : Fin 14) (data : Word) (s : State) (m : Bool), s.outState o = 2 ∨ s.outState o = 3 →
    Fld.AOUT_OUT_CFG_EN.get data = 1 → m = (Fld.AOUT_OUT_CFG_MUTE.get data == 1 ||
      (Fld.AOUT_OUT_CFG_AUTO_MUTE.get data == 1 && !s.inserted (Fld.AOUT_OUT_CFG_JD.get data)) ||
      s.bit (Reg.AOUT_OUT_STATUS o) Fld.AOUT_OUT_STATUS_MUTE_CLK) →
    Completes (.aoutCfgWrite o data) s fun t => t.outState o = (if m then 3 else 2) ∧
      (s.outState o ≠ t.outState o →
        SMap.find none t.aout.ramp o = some ⟨s.outGain o, !m, sampleAt s.hz s.now⟩) ∧
      Frame (fun a => a == Reg.AOUT_OUT_CFG o || a == Reg.AOUT_OUT_STATUS o) [.aout] s t) ∧
  (∀ (o : Fin 14) (data : Word) (s : State), s.outState o = 6 → Fld.AOUT_OUT_CFG_EN.get data = 0 →
    Completes (.aoutCfgWrite o data) s fun t => t.outState o = 0 ∧
      t.bit (Reg.AOUT_OUT_STATUS o) Fld.AOUT_OUT_STATUS_OC_LATCH = false ∧
      Frame (fun a => a == Reg.AOUT_OUT_CFG o || a == Reg.AOUT_OUT_STATUS o) [.aout] s t) ∧
  (∀ (o : Fin 14) (s : State), Completes (.aoutBiasDone o) s fun t =>
    (s.outState o = 1 → t.outState o = (if s.outMuted o then 3 else 2) ∧
      (s.outMuted o = false → SMap.find none t.aout.ramp o = some ⟨0, true, sampleAt s.hz s.now⟩)) ∧
    (s.outState o ≠ 1 → t = s) ∧
    Frame (fun a => a == Reg.AOUT_OUT_STATUS o) [.aout] s t) ∧
  (∀ (o : Fin 14) (s : State), Completes (.aoutBiasDownDone o) s fun t =>
    (s.outState o = 4 → t.outState o = if s.bit (Reg.AOUT_OUT_CFG o) Fld.AOUT_OUT_CFG_EN then 1 else 0) ∧
    (s.outState o ≠ 4 → t = s) ∧ Frame (fun a => a == Reg.AOUT_OUT_STATUS o) [.aout] s t) ∧
  (∀ (k : Fin 2) (s : State) (n : Nat), s.outState (12 + k) = 2 ∨ s.outState (12 + k) = 3 →
    n = ((SMap.find [] s.aout.trips k).filter (fun x => decide (s.now < x + secUnit))).length →
    Completes (.aoutOvercurrent k) s fun t => t.outState (12 + k) = 6 ∧
      t.bit (Reg.AOUT_OUT_STATUS (12 + k)) Fld.AOUT_OUT_STATUS_OC_LATCH = decide (2 ≤ n) ∧
      t.aout.bridgeOff.getLsbD k = true ∧ s.now ∈ SMap.find [] t.aout.trips k ∧
      (s.tally.silent = false → SMap.find 0 s.raised (limitKey 266 0) ≠ s.folio + 1 → t.shown 266) ∧
      FrameEv (fun a => a == Reg.AOUT_OUT_STATUS (12 + k)) [.aout] s t) ∧
  (∀ (k : Fin 2) (s : State), s.outState (12 + k) ≠ 2 → s.outState (12 + k) ≠ 3 →
    exec (.aoutOvercurrent k) s = .next s) ∧
  (∀ (k : Fin 2) (s : State), s.outState (12 + k) = 6 →
    s.bit (Reg.AOUT_OUT_STATUS (12 + k)) Fld.AOUT_OUT_STATUS_OC_LATCH = false → Completes (.aoutFaultRetry k) s fun t =>
      t.outState (12 + k) = (if s.outMuted (12 + k) then 3 else 2) ∧
      t.aout.bridgeOff.getLsbD k = (s.aout.pvddLow || s.aout.pvddHigh) ∧
      Frame (fun a => a == Reg.AOUT_OUT_STATUS (12 + k)) [.aout] s t) ∧
  (∀ (k : Fin 2) (s : State), s.outState (12 + k) ≠ 6 ∨
    s.bit (Reg.AOUT_OUT_STATUS (12 + k)) Fld.AOUT_OUT_STATUS_OC_LATCH = true → exec (.aoutFaultRetry k) s = .next s) ∧
  (∀ (missing : Bool) (ppm : Int) (s : State), missing = true ∨ 20000 < ppm.natAbs →
    Completes (.classdClockWindow missing ppm) s fun t =>
      t.bit Reg.AOUT_CLASSD_STATUS Fld.AOUT_CLASSD_STATUS_CLK_OK = false ∧ t.aout.okRun = 0 ∧
      (∀ o, o = 12 ∨ o = 13 → t.bit (Reg.AOUT_OUT_STATUS o) Fld.AOUT_OUT_STATUS_MUTE_CLK = true) ∧
      (∀ o, o = 12 ∨ o = 13 → s.outState o = 2 →
        s.bit (Reg.AOUT_OUT_STATUS o) Fld.AOUT_OUT_STATUS_MUTE_CLK = false → t.outState o = 3) ∧
      (missing = true → t.aout.bridgeOff = 3) ∧
      FrameEv (fun a => a == Reg.AOUT_CLASSD_STATUS || a == Reg.AOUT_OUT_STATUS 12 || a == Reg.AOUT_OUT_STATUS 13)
        [.aout] s t) ∧
  (∀ (ppm : Int) (s : State), ppm.natAbs ≤ 20000 → Completes (.classdClockWindow false ppm) s fun t =>
    t.bit Reg.AOUT_CLASSD_STATUS Fld.AOUT_CLASSD_STATUS_CLK_OK = true ∧ t.aout.okRun = s.aout.okRun + 1 ∧
    (∀ o, o = 12 ∨ o = 13 → t.bit (Reg.AOUT_OUT_STATUS o) Fld.AOUT_OUT_STATUS_MUTE_CLK =
      (decide (s.aout.okRun < 249) && s.bit (Reg.AOUT_OUT_STATUS o) Fld.AOUT_OUT_STATUS_MUTE_CLK)) ∧
    FrameEv (fun a => a == Reg.AOUT_CLASSD_STATUS || a == Reg.AOUT_OUT_STATUS 12 || a == Reg.AOUT_OUT_STATUS 13)
      [.aout] s t) ∧
  (∀ (n : Fin 4) (mv : Nat) (s : State) (pol : Bool), (s.fld Reg.AOUT_JD_CTRL Fld.AOUT_JD_CTRL_EN).testBit n = true →
    pol = (s.fld Reg.AOUT_JD_CTRL Fld.AOUT_JD_CTRL_POL).testBit n → Completes (.jdPinChange n mv) s fun t =>
      (t.fld Reg.AOUT_JD_STATUS Fld.AOUT_JD_STATUS_RAW).testBit n =
        (if mv < 900 then !pol else if 2400 < mv then pol
         else (s.fld Reg.AOUT_JD_STATUS Fld.AOUT_JD_STATUS_RAW).testBit n) ∧ t.jdLevel n = mv ∧
      (∀ i, i < 4 → i ≠ n.val → (t.fld Reg.AOUT_JD_STATUS Fld.AOUT_JD_STATUS_RAW).testBit i =
        (s.fld Reg.AOUT_JD_STATUS Fld.AOUT_JD_STATUS_RAW).testBit i) ∧ (∀ i, t.inserted i = s.inserted i) ∧
      Frame (fun a => a == Reg.AOUT_JD_STATUS) [.aout] s t) ∧
  (∀ (n : Fin 4) (s : State) (raw : Bool), (s.fld Reg.AOUT_JD_CTRL Fld.AOUT_JD_CTRL_EN).testBit n = true →
    raw = (s.fld Reg.AOUT_JD_STATUS Fld.AOUT_JD_STATUS_RAW).testBit n → raw ≠ s.inserted n →
    Completes (.jackDeclare n none) s fun t => t.inserted n = raw ∧
      (s.tally.silent = false → t.shown (if raw then 268 else 269)) ∧
      (∀ o : Fin 14, s.bit (Reg.AOUT_OUT_CFG o) Fld.AOUT_OUT_CFG_AUTO_MUTE = true →
        s.fld (Reg.AOUT_OUT_CFG o) Fld.AOUT_OUT_CFG_JD = n →
        t.bit (Reg.AOUT_OUT_STATUS o) Fld.AOUT_OUT_STATUS_MUTE_JACK = !raw) ∧
      FrameEv (fun a => a == Reg.AOUT_JD_STATUS || (List.range 14).any (fun o => a == Reg.AOUT_OUT_STATUS o))
        [.aout] s t) ∧
  (∀ (n : Fin 4) (o : Fin 14) (s : State), Completes (.jackDeclare n (some o)) s fun t =>
    t.bit (Reg.AOUT_OUT_CFG o) Fld.AOUT_OUT_CFG_MUTE = false ∧
      ((s.fld Reg.AOUT_JD_CTRL Fld.AOUT_JD_CTRL_EN).testBit n = true →
        t.inserted n = (s.fld Reg.AOUT_JD_STATUS Fld.AOUT_JD_STATUS_RAW).testBit n) ∧
      t.bit (Reg.AOUT_OUT_STATUS o) Fld.AOUT_OUT_STATUS_MUTE_JACK =
        (s.bit (Reg.AOUT_OUT_CFG o) Fld.AOUT_OUT_CFG_AUTO_MUTE && !t.inserted (s.fld (Reg.AOUT_OUT_CFG o) Fld.AOUT_OUT_CFG_JD)) ∧
      FrameEv (fun a => a == Reg.AOUT_JD_STATUS || a == Reg.AOUT_OUT_CFG o ||
        (List.range 14).any (fun o => a == Reg.AOUT_OUT_STATUS o)) [.aout] s t) ∧
  (∀ (s : State), Completes (.pvddThreshold .under) s fun t => t.aout.pvddLow = true ∧ t.aout.bridgeOff = 3 ∧
    Frame noRegs [.aout] s t) ∧
  (∀ (s : State), Completes (.pvddThreshold .over) s fun t => t.aout.pvddHigh = true ∧ t.aout.bridgeOff = 3 ∧
    Frame noRegs [.aout] s t) ∧
  (∀ (s : State), s.aout.pvddLow = true → s.aout.pvddHigh = false → Completes (.pvddThreshold .underRelease) s fun t =>
    t.aout.pvddLow = false ∧ (∀ k : Fin 2, s.outState (12 + k) = 1 ∨ s.outState (12 + k) = 2 ∨ s.outState (12 + k) = 3 →
      t.aout.bridgeOff.getLsbD k = false) ∧
    (∀ k : Fin 2, s.outState (12 + k) = 2 → SMap.find none t.aout.ramp (12 + k) = some ⟨0, true, sampleAt s.hz s.now⟩) ∧
    Frame noRegs [.aout] s t) ∧
  (∀ (s : State), s.aout.pvddHigh = false → exec (.pvddThreshold .overRelease) s = .next s)

/-- R523, R533-R543, R550: the lamps and the housekeeping ADC. A PWM period turns its lamp on for its on-time and a measured one
asks for an urgent sample 1.0 µs later, which goes ahead of the software's of that cycle; a slot takes the oldest urgent
request, else a conversion that was aborted, else the next sequence entry; a conversion leaves its result where its kind says; a
slice is swapped for the spare, which it becomes when its calibration ends; a lamp request that comes due before the end of a
conversion whose slice waits for its swap aborts it; and the load class follows PVDD and the levels. The model's readings: NEXT
after the entry taken, and an aborted conversion restarted after all urgent ones (log entry 74); the hysteresis and the limits of
the load class (log entry 72). -/
def Obligations.LampsAndHousekeeping : Prop :=
  (∀ (l : Fin 8) (j : Nat) (s : State), s.now < lampStart l j → exec (.lampPeriodStart l j) s = .next s) ∧
  (∀ (l : Fin 8) (j : Nat) (s : State), lampStart l j ≤ s.now → s.lampEn l = true → s.lampSwitch l = false →
    Completes (.lampPeriodStart l j) s fun t => t.lamp.on.getLsbD l = (s.lampOnTime l j != 0) ∧
      (s.lampOnTime l j ≠ 0 → SMap.find 0 t.lamp.offPt l = lampStart l j + s.lampOnTime l j) ∧
      t.lamp.tested.getLsbD l = (!s.lampUntested l) ∧
      (s.lampUntested l = true → t.fld (Reg.LAMP_STATUS l) Fld.LAMP_STATUS_DIAG = 0) ∧
      t.lamp.due = s.lamp.due ++ (if s.lampMeasured l j = true then [(l.val, lampStart l j + usUnit)] else []) ∧
      Frame (fun a => a == Reg.LAMP_STATUS l) [.lamp] s t) ∧
  (∀ (l : Fin 8) (j : Nat) (s : State), lampStart l j ≤ s.now → s.lampEn l = false ∨ s.lampSwitch l = true →
    Completes (.lampPeriodStart l j) s fun t => t.lamp.on.getLsbD l = s.switchOn l ∧ SMap.find 0 t.lamp.offPt l = 0 ∧
      t.lamp.tested.getLsbD l = (!s.lampUntested l) ∧
      (s.lampUntested l = true → t.fld (Reg.LAMP_STATUS l) Fld.LAMP_STATUS_DIAG = 0) ∧
      t.lamp.due = s.lamp.due ++ (if s.lampMeasured l j = true then [(l.val, lampStart l j + usUnit)] else []) ∧
      Frame (fun a => a == Reg.LAMP_STATUS l) [.lamp] s t) ∧
  (∀ (l : Fin 8) (s : State), Completes (.lampOffEdge l) s fun t =>
    (SMap.find 0 s.lamp.offPt l ≠ 0 → SMap.find 0 s.lamp.offPt l ≤ s.now → t.lamp.on.getLsbD l = false) ∧
    (SMap.find 0 s.lamp.offPt l = 0 ∨ s.now < SMap.find 0 s.lamp.offPt l → t = s) ∧
    (∀ i, i ≠ l.val → t.lamp.on.getLsbD i = s.lamp.on.getLsbD i) ∧ Frame noRegs [.lamp] s t) ∧
  (∀ (i : BitVec 6) (s : State), s.noLampDue → s.hadc.queue.length < 4 → s.hadc.swapWait = none →
    Completes (.hadcUrgent i) s fun t => t.hadc.queue = s.hadc.queue ++ [.soft i.toNat] ∧
      t.fld Reg.HADC_STATUS Fld.HADC_STATUS_QUEUE = s.hadc.queue.length + 1 ∧
      Frame (fun a => a == Reg.HADC_STATUS) [.hadc] s t) ∧
  (∀ (i : BitVec 6) (s : State) (l : Fin 8) (pt : Nat), s.lamp.due = [(l.val, pt)] → pt ≤ s.now →
    s.hadc.queue.length < 3 → s.hadc.swapWait = none → Completes (.hadcUrgent i) s fun t =>
      t.hadc.queue = s.hadc.queue ++ [.lamp l true, .soft i.toNat] ∧ t.lamp.due = [] ∧
      Frame (fun a => a == Reg.HADC_STATUS) [.hadc, .lamp] s t) ∧
  (∀ (i : BitVec 6) (s : State) (k : Nat), s.noLampDue → s.hadc.queue.length < 4 → s.hadc.swapWait = some k →
    Completes (.hadcUrgent i) s fun t => t.hadc.queue = s.hadc.queue ++ [.soft i.toNat] ∧
      (s.slicePos k ≠ none → t.hadc.swapWait = none ∧ t.hadc.cal = some k) ∧
      FrameEv (fun a => a == Reg.HADC_STATUS) [.hadc] s t) ∧
  (∀ (i : BitVec 6) (s : State), s.noLampDue → 4 ≤ s.hadc.queue.length → Completes (.hadcUrgent i) s fun t =>
    (s.tally.silent = false → t.shown 282) ∧ FrameEv noRegs [] s t) ∧
  (∀ (s : State), s.noLampDue → s.bit Reg.HADC_CTRL Fld.HADC_CTRL_EN = false → exec .hadcSlot s = .next s) ∧
  (∀ (s : State) (i : Nat) (q : List Conv), s.noLampDue → s.bit Reg.HADC_CTRL Fld.HADC_CTRL_EN = true →
    s.hadc.queue = .soft i :: q →
    Completes .hadcSlot s fun t => SMap.find none t.hadc.conv s.hadc.pos = some (.soft i) ∧ t.hadc.queue = q ∧
      t.hadc.pos = (s.hadc.pos + 1) % 8 ∧ t.hadc.restart = s.hadc.restart ∧
      Frame (fun a => a == Reg.HADC_STATUS) [.hadc] s t) ∧
  (∀ (s : State) (l : Nat) (b : Bool) (q : List Conv), s.noLampDue → s.bit Reg.HADC_CTRL Fld.HADC_CTRL_EN = true →
    s.hadc.queue = .lamp l b :: q → Completes .hadcSlot s fun t =>
      SMap.find none t.hadc.conv s.hadc.pos = some (.lamp l (s.lampInTime l)) ∧ t.hadc.queue = q ∧
      Frame (fun a => a == Reg.HADC_STATUS) [.hadc] s t) ∧
  (∀ (s : State) (c : Conv) (r : List Conv), s.noLampDue → s.bit Reg.HADC_CTRL Fld.HADC_CTRL_EN = true →
    s.hadc.queue = [] → s.hadc.restart = c :: r → Completes .hadcSlot s fun t =>
      SMap.find none t.hadc.conv s.hadc.pos = some (s.startConv c) ∧
      t.hadc.restart = r ∧ Frame noRegs [.hadc] s t) ∧
  (∀ (s : State) (n e : Nat), s.noLampDue → s.bit Reg.HADC_CTRL Fld.HADC_CTRL_EN = true → s.hadc.queue = [] →
    s.hadc.restart = [] →
    n = s.fld Reg.HADC_STATUS Fld.HADC_STATUS_NEXT → e < 32 → s.seqOn ((n + e) % 32) = true →
    (∀ d, d < e → s.seqOn ((n + d) % 32) = false) → Completes .hadcSlot s fun t =>
      SMap.find none t.hadc.conv s.hadc.pos = some (.entry ((n + e) % 32) (s.seqInput ((n + e) % 32))) ∧
      t.fld Reg.HADC_STATUS Fld.HADC_STATUS_NEXT = (n + e + 1) % 32 ∧
      Frame (fun a => a == Reg.HADC_STATUS) [.hadc] s t) ∧
  (∀ (p : Fin 8) (raw : BitVec 20) (s : State), s.noLampDue →
    SMap.find none s.hadc.conv p = none → exec (.hadcConversionDone p raw) s = .next s) ∧
  (∀ (p : Fin 8) (raw : BitVec 20) (s : State) (e i c : Nat), SMap.find none s.hadc.conv p = some (.entry e i) → e < 32 →
    c = (s.convCode (s.hadc.slices.getD p 0) raw).1 → s.hadc.swapWait = none →
    s.noLampDue → Completes (.hadcConversionDone p raw) s fun t => SMap.find none t.hadc.conv p = none ∧
      t.fld (Reg.HADC_RES e) Fld.HADC_RES_CODE = c ∧ t.bit (Reg.HADC_RES e) Fld.HADC_RES_NEW = true ∧
      (s.bit (Reg.HADC_SEQ e) Fld.HADC_SEQ_LIMIT_EN = true → s.hadc.outside.getLsbD e = false → s.tally.silent = false →
        (c < s.fld (Reg.HADC_LIM e) Fld.HADC_LIM_LOW ∨ s.fld (Reg.HADC_LIM e) Fld.HADC_LIM_HIGH < c) → t.shown 280) ∧
      (i = 9 → t.t16 = (c : Int) - 1024) ∧ (i = 10 → t.fld Reg.HADC_LOAD Fld.HADC_LOAD_PVDD = c) ∧
      (i ≠ 8 → i ≠ 9 → i ≠ 10 → FrameEv (fun a => a == Reg.HADC_RES e) [.hadc] s t)) ∧
  (∀ (p : Fin 8) (raw : BitVec 20) (s : State) (i c : Nat), SMap.find none s.hadc.conv p = some (.soft i) → i < 64 →
    c = (s.convCode (s.hadc.slices.getD p 0) raw).1 → s.hadc.swapWait = none →
    s.noLampDue → Completes (.hadcConversionDone p raw) s fun t => t.fld Reg.HADC_URG_RESULT Fld.HADC_URG_RESULT_CODE = c ∧
      t.fld Reg.HADC_URG_RESULT Fld.HADC_URG_RESULT_INPUT = i ∧
      t.bit Reg.HADC_URG_RESULT Fld.HADC_URG_RESULT_VALID = true) ∧
  (∀ (p : Fin 8) (raw : BitVec 20) (s : State) (l : Fin 8) (c d : Nat),
    SMap.find none s.hadc.conv p = some (.lamp l true) → c = (s.convCode (s.hadc.slices.getD p 0) raw).1 →
    s.hadc.swapWait = none → s.noLampDue → s.lamp.tested.getLsbD l = true →
    d = (if c < s.fld Reg.LAMP_THRESH Fld.LAMP_THRESH_OPEN_TH then 2
      else if s.fld Reg.LAMP_THRESH Fld.LAMP_THRESH_SHORT_TH < c then 3 else 1) →
    Completes (.hadcConversionDone p raw) s fun t => t.fld (Reg.LAMP_STATUS l) Fld.LAMP_STATUS_LAST = c ∧
      SMap.find 0 t.lamp.last l = d ∧ t.fld (Reg.LAMP_STATUS l) Fld.LAMP_STATUS_DIAG =
        (if SMap.find 0 s.lamp.last l = d then d else s.fld (Reg.LAMP_STATUS l) Fld.LAMP_STATUS_DIAG) ∧
      FrameEv (fun a => a == Reg.LAMP_STATUS l) [.hadc, .lamp] s t) ∧
  (∀ (p : Fin 8) (raw : BitVec 20) (s : State) (l : Nat), SMap.find none s.hadc.conv p = some (.lamp l false) →
    s.hadc.swapWait = none → s.noLampDue → Completes (.hadcConversionDone p raw) s fun t =>
      SMap.find none t.hadc.conv p = none ∧ FrameEv noRegs [.hadc] s t) ∧
  (∀ (p : Fin 8) (raw : BitVec 20) (s : State) (i : Nat), SMap.find none s.hadc.conv p = some (.soft i) →
    s.hadc.swapWait = some (s.hadc.slices.getD p 0) → s.slicePos (s.hadc.slices.getD p 0) ≠ none →
    s.noLampDue → Completes (.hadcConversionDone p raw) s fun t =>
      t.hadc.swapWait = none ∧ t.hadc.cal = some (s.hadc.slices.getD p 0)) ∧
  (∀ (p : Fin 8) (raw : BitVec 20) (s : State) (l : Fin 8) (pt k : Nat) (c : Conv), s.lamp.due = [(l.val, pt)] → pt ≤ s.now →
    s.hadc.queue.length < 4 → s.hadc.swapWait = some k → s.slicePos k = some p.val → SMap.find none s.hadc.conv p = some c →
    Completes (.hadcConversionDone p raw) s fun t => t.hadc.queue = s.hadc.queue ++ [.lamp l true] ∧
      t.hadc.restart = s.hadc.restart ++ [c] ∧ SMap.find none t.hadc.conv p = none ∧ t.hadc.cal = some k ∧
      t.hadc.swapWait = none ∧ Frame (fun a => a == Reg.HADC_STATUS) [.hadc, .lamp, .events] s t) ∧
  (∀ (s : State) (i p : Nat), s.noLampDue → s.bit Reg.HADC_CTRL Fld.HADC_CTRL_EN = true →
    s.bit Reg.HADC_CTRL Fld.HADC_CTRL_CAL_EN = true → s.hadc.cal = none → s.hadc.swapWait = none →
    s.nextSwap = some i → s.slicePos i = some p → Completes .hadcSliceSwap s fun t =>
      (SMap.find none s.hadc.conv p = none ∨ s.hadc.queue ≠ [] → t.hadc.cal = some i ∧
        t.hadc.slices = s.hadc.slices.set p s.spareSlice ∧ t.hadc.swapWait = none ∧
        t.hadc.restart = s.hadc.restart ++ (SMap.find none s.hadc.conv p).toList) ∧
      (SMap.find none s.hadc.conv p ≠ none → s.hadc.queue = [] → t.hadc.swapWait = some i ∧ t.hadc.cal = none ∧
        t.hadc.slices = s.hadc.slices) ∧ FrameEv (fun a => a == Reg.HADC_STATUS) [.hadc] s t) ∧
  (∀ (r : CalRecord) (s : State) (i : Nat), s.hadc.cal = some i → i < 9 → Completes (.hadcSliceCalDone r) s fun t =>
    t.hadc.cal = none ∧ t.spareSlice = i ∧
    (CalWithin r 1024 200 → t.sliceRec i = some (s.takeCal r) ∧ i ∉ t.staleSlices ∧
      t.reg (Reg.HADC_SLICE_CAL1 i) = r.offset ∧ t.reg (Reg.HADC_SLICE_CAL2 i) = r.gcorr) ∧
    (¬CalWithin r 1024 200 → t.hadc.recs = s.hadc.recs ∧ (s.tally.silent = false → t.shown 283)) ∧
    FrameEv (fun a => a == Reg.HADC_STATUS || inRange (Reg.HADC_SLICE_CAL0 i) (Reg.HADC_SLICE_CAL0 i + 16) a)
      [.hadc] s t) ∧
  (∀ (r : CalRecord) (s : State), s.hadc.cal = none → exec (.hadcSliceCalDone r) s = .next s) ∧
  (∀ (n m : Fin 9) (s : State), Completes (.loadClassEval n m) s fun t =>
    t.loadClass = 2 * pvddBand (s.loadClass / 2) (s.fld Reg.HADC_LOAD Fld.HADC_LOAD_PVDD) +
      s.classdLevel (s.loadClass % 2) n m ∧ t.fld Reg.HADC_LOAD Fld.HADC_LOAD_PVDD = s.fld Reg.HADC_LOAD Fld.HADC_LOAD_PVDD ∧
    (∀ (c : Nat) (r : CalRec), c < 16 → s.chanRec c = some r → r.lclass ≠ t.loadClass → t.ainCal c = 2) ∧
    FrameEv (fun a => a == Reg.HADC_LOAD || a == Reg.HADC_STATUS ||
      (List.range 16).any (fun c => a == Reg.AIN_CH_STATE c)) [] s t)

/-- R578-R581, R591, R595-R598: how the device boots. BOOT goes from HELD to DISCOVER when the clock has locked, memory is clear
and a control record qualifies, else to RECOVERY; from DISCOVER to SLOT with the first slot of the strapped order, or to
RECOVERY when the flash fails; a slot that passes is released; one that fails gives its cause, and the other slot its turn. -/
def Obligations.BootSequence : Prop :=
  (∀ (ms : Nat) (s : State), s.bootState = 0 → s.sysLocked = true → s.boot.cleared = true → s.control.1 ≠ none →
    s.fld Reg.BOOT_STRAP Fld.BOOT_STRAP_SLOT_POLICY ≠ 3 → Completes (.bootStart ms) s fun t => t.bootState = 1 ∧
      FrameEv (fun a => a == Reg.BOOT_STATUS) [] s t) ∧
  (∀ (ms : Nat) (s : State), s.bootState = 0 → s.sysLocked = true → s.boot.cleared = true →
    s.control.1 = none ∨ s.fld Reg.BOOT_STRAP Fld.BOOT_STRAP_SLOT_POLICY = 3 → Completes (.bootStart ms) s fun t =>
      t.bootState = 4 ∧ KeepsOutside s.mem t.mem ledgerLo ledgerSize ∧
      FrameEv (fun a => a == Reg.BOOT_STATUS) [.mem, .ecc] s t) ∧
  (∀ (ms : Nat) (s : State), s.bootState ≠ 0 ∨ s.sysLocked = false ∨ s.boot.cleared = false →
    exec (.bootStart ms) s = .next s) ∧
  (∀ (r : Sfdp) (ms : Nat) (s : State), s.bootState = 1 → r.timeout = false → r.valid = true → r.erase64 = true →
    32 ≤ r.capMiB → Completes (.bootDiscoverDone r ms) s fun t => t.bootState = 2 ∧
      t.fld Reg.BOOT_FLASH Fld.BOOT_FLASH_CAP = min r.capMiB 256 ∧
      (s.fld Reg.BOOT_STRAP Fld.BOOT_STRAP_SLOT_POLICY = 0 → t.bootSlot = 0) ∧
      (s.fld Reg.BOOT_STRAP Fld.BOOT_STRAP_SLOT_POLICY = 1 → t.bootSlot = 1) ∧
      (s.fld Reg.BOOT_STRAP Fld.BOOT_STRAP_SLOT_POLICY = 2 → (s.controlWord 2).testBit 1 = true →
        t.bootSlot = s.controlWord 2 % 2) ∧ t.boot.second = false ∧
      (∀ n, s.boot.sealRun = none ∨ s.boot.sealRun = some n →
        FrameEv (fun a => a == Reg.BOOT_STATUS || a == Reg.BOOT_FLASH || a == Reg.SEAL_STATUS n) [.boot] s t)) ∧
  (∀ (r : Sfdp) (ms : Nat) (s : State), s.bootState = 1 →
    r.timeout = true ∨ r.valid = false ∨ r.erase64 = false ∨ r.capMiB < 32 →
    Completes (.bootDiscoverDone r ms) s fun t => t.bootState = 4 ∧ (s.tally.silent = false → t.shown 19) ∧
      KeepsOutside s.mem t.mem ledgerLo ledgerSize ∧ FrameEv (fun a => a == Reg.BOOT_STATUS) [.mem, .ecc] s t) ∧
  (∀ (r : Sfdp) (ms : Nat) (s : State), s.bootState ≠ 1 → exec (.bootDiscoverDone r ms) s = .next s) ∧
  (∀ (e : Bool) (ms : Nat) (s : State), s.bootState ≠ 2 → exec (.bootSlotDone e ms) s = .next s) ∧
  (∀ (e : Bool) (ms : Nat) (s : State), s.bootState = 2 → headerCrcOk (s.slotHeader s.bootSlot) = false →
    Completes (.bootSlotDone e ms) s fun t => t.fld Reg.BOOT_STATUS Fld.BOOT_STATUS_CAUSE = 1 ∧
      (s.tally.silent = false → t.shown 2) ∧
      (s.boot.second = false → (List.range 4).any s.keyUsable = true → t.bootState = 2 ∧ t.bootSlot = 1 - s.bootSlot ∧
        t.boot.second = true) ∧
      (s.boot.second = true ∨ (List.range 4).any s.keyUsable = false → t.bootState = 4 ∧ t.bootSlot = s.bootSlot)) ∧
  (∀ (e : Bool) (ms : Nat) (s v : State) (h : List Byte), s.bootState = 2 → h = s.slotHeader s.bootSlot →
    v = (s.slotVerdict e).2 → Completes (.bootSlotDone e ms) s fun t =>
      match (s.slotVerdict e).1 with
      | .inl (_, c) => t.fld Reg.BOOT_STATUS Fld.BOOT_STATUS_CAUSE = c % 16 ∧ (v.tally.silent = false → t.shown 2) ∧
        (v.boot.second = false → (List.range 4).any v.keyUsable = true → t.bootState = v.bootState ∧
          t.bootSlot = 1 - v.bootSlot ∧ t.boot.second = true) ∧
        (v.boot.second = true ∨ (List.range 4).any v.keyUsable = false → t.bootState = 4 ∧ t.bootSlot = v.bootSlot)
      | .inr leaf => t.bootState = 3 ∧ t.boot.cpReset = 0 ∧ t.boot.audioSeen = false ∧ t.boot.leaf = leaf ∧
        t.regN Reg.BOOT_FW_CPA = (((ofType (slotImages h) 1).map (·.id)).headD 0) % 2 ^ 32 ∧
        t.regN Reg.BOOT_FW_CPB = (((ofType (slotImages h) 2).map (·.id)).headD 0) % 2 ^ 32 ∧
        KeepsOutside v.mem t.mem ledgerLo ledgerSize)

/-- R602-R610, R613: the flash commands and the verification of a slot. A write of BOOT_CMD is refused while a command runs,
outside RELEASED and RECOVERY, and with illegal arguments, by its code in ERR; an accepted one runs with its arguments; its end
has the effect of its kind and ends BUSY; a failed one leaves ERR; and a slot that passes its checks is VERIFIED. Not from the
manual: erased bytes read 0xFF and PROGRAM is an AND (log entry 24, PRESUMED); ERR 2 outside RELEASED and RECOVERY is log entry 56
and PROGRAM data read at FLASH_DONE log entry 57 (DEDUCED). -/
def Obligations.FlashCommands : Prop :=
  (∀ (c : Instr) (op : Nat) (m : RegMaster) (s : State),
    (c, op) ∈ [(Instr.flashErase m, 1), (.flashProgram m, 2), (.flashRead m, 3)] → bootMaster m = true →
    s.bootBusy = false → s.bootState = 3 ∨ s.bootState = 4 → s.flashArgsOk op = true →
    (op = 3 ∨ s.bootState = 4 ∨ s.touches (s.bootArg 0) (flashLen op (s.bootArg 1) (s.bootArg 2)) s.bootSlot = false) →
    Completes c s fun t => t.bootBusy = true ∧
      t.boot.job = some ⟨op, s.reg (Reg.BOOT_ARG 0), s.reg (Reg.BOOT_ARG 1), s.reg (Reg.BOOT_ARG 2)⟩ ∧
      (op ≠ 3 → ∀ slot : Fin 2, s.touches (s.bootArg 0) (flashLen op (s.bootArg 1) (s.bootArg 2)) slot = true →
        t.bit Reg.BOOT_STATUS (verifiedFld slot) = false) ∧ t.boot.flash = s.boot.flash ∧
      Frame (fun a => a == Reg.BOOT_CMD_STATUS || a == Reg.BOOT_STATUS || a == Reg.XBAR_INFLIGHT) [.boot] s t) ∧
  (∀ (c : Instr) (m : RegMaster) (ms : Nat) (s : State), c ∈ [.flashErase m, .flashProgram m, .flashRead m, .verifySlot m,
      .setPreferred m, .clearAttempts m, .keyProgram m, .keyRevoke m, .reboot m, .retry m ms, .bootConfirm m] →
    (bootMaster m = true → s.bootBusy = true → Completes c s fun t =>
      t.fld Reg.BOOT_CMD_STATUS Fld.BOOT_CMD_STATUS_ERR = 1 ∧ t.bootBusy = true ∧
      Frame (fun a => a == Reg.BOOT_CMD_STATUS || a == Reg.XBAR_INFLIGHT) [] s t) ∧
    (bootMaster m = false → Completes c s (Frame (fun a => a == Reg.XBAR_INFLIGHT) [] s))) ∧
  (∀ (c : Instr) (m : RegMaster) (s : State), c ∈ [.flashErase m, .flashProgram m, .flashRead m, .verifySlot m] →
    bootMaster m = true → s.bootBusy = false → s.bootState ≠ 3 → s.bootState ≠ 4 → Completes c s fun t =>
      t.fld Reg.BOOT_CMD_STATUS Fld.BOOT_CMD_STATUS_ERR = 2 ∧
      Frame (fun a => a == Reg.BOOT_CMD_STATUS || a == Reg.XBAR_INFLIGHT) [] s t) ∧
  (∀ (j : BootJob) (s : State), s.boot.job = some j → j.op = 1 → Completes (.flashDone .ok) s fun t =>
    (∀ x n, j.arg0.toNat ≤ x → x + n ≤ j.arg0.toNat + j.arg1.toNat * 0x10000 →
      t.flashBytes x n = List.replicate n 0xFF) ∧
    KeepsOutside s.boot.flash t.boot.flash j.arg0.toNat (j.arg1.toNat * 0x10000) ∧ t.bootBusy = false ∧
    t.boot.job = none ∧ (s.tally.silent = false → t.shown 319) ∧ FrameEv (fun a => a == Reg.BOOT_CMD_STATUS) [.boot] s t) ∧
  (∀ (j : BootJob) (s : State), s.boot.job = some j → j.op = 2 → Completes (.flashDone .ok) s fun t =>
    t.flashBytes j.arg0.toNat j.arg2.toNat = List.zipWith (fun x y => x &&& y)
      (s.flashBytes j.arg0.toNat j.arg2.toNat) (s.read j.arg1.toNat j.arg2.toNat) ∧
    KeepsOutside s.boot.flash t.boot.flash j.arg0.toNat j.arg2.toNat ∧ t.bootBusy = false ∧ t.boot.job = none ∧
    FrameEv (fun a => a == Reg.BOOT_CMD_STATUS || busRegs a) [.boot] s t) ∧
  (∀ (j : BootJob) (s : State), s.boot.job = some j → j.op = 3 → inVat j.arg1.toNat j.arg2.toNat = true →
    s.rmwBad j.arg1.toNat j.arg2.toNat = false → Completes (.flashDone .ok) s fun t =>
      t.read j.arg1.toNat j.arg2.toNat = s.flashBytes j.arg0.toNat j.arg2.toNat ∧ t.boot.flash = s.boot.flash ∧
      KeepsOutside s.mem t.mem j.arg1.toNat j.arg2.toNat ∧ t.bootBusy = false ∧
      FrameEv (fun a => a == Reg.BOOT_CMD_STATUS || busRegs a) [.boot, .mem, .ecc] s t) ∧
  (∀ (j : BootJob) (r : FlashResult) (s : State), s.boot.job = some j → j.op ≠ 4 → r ≠ .ok →
    Completes (.flashDone r) s fun t => t.fld Reg.BOOT_CMD_STATUS Fld.BOOT_CMD_STATUS_ERR = 4 ∧ t.bootBusy = false ∧
      t.boot.job = none ∧ (s.tally.silent = false → t.shown 19)) ∧
  (∀ (m : RegMaster) (s : State), bootMaster m = true → s.bootBusy = false → s.bootState = 3 ∨ s.bootState = 4 →
    Completes (.verifySlot m) s fun t => t.bootBusy = true ∧
      t.boot.job = some ⟨4, s.reg (Reg.BOOT_ARG 0), s.reg (Reg.BOOT_ARG 1), s.reg (Reg.BOOT_ARG 2)⟩) ∧
  (∀ (j : BootJob) (e : Bool) (s : State) (v : Field), s.boot.job = some j → j.op = 4 →
    v = verifiedFld (j.arg0.toNat % 2) → Completes (.slotVerified e) s fun t => t.bootBusy = false ∧ t.boot.job = none ∧
      t.mem = s.mem ∧ ((s.vetSlot (j.arg0.toNat % 2) false e).1 = none ∧ t.bit Reg.BOOT_STATUS v = true ∧
          (s.tally.silent = false → t.shown 316) ∧
          (∀ p : Fin 2, s.bootState ≠ 3 → t.idleBank p = s.idleBank p ∧ t.reg (stagedReg p) = s.reg (stagedReg p)) ∨
        (s.vetSlot (j.arg0.toNat % 2) false e).1 ≠ none ∧ t.bit Reg.BOOT_STATUS v = s.bit Reg.BOOT_STATUS v ∧
          t.fld Reg.BOOT_CMD_STATUS Fld.BOOT_CMD_STATUS_ERR = 5 ∧ (s.tally.silent = false → t.shown 318) ∧
          (∀ p : Fin 2, t.idleBank p = s.idleBank p ∧ t.reg (stagedReg p) = s.reg (stagedReg p))))

/-- R590-R592, R595, R597, R609, R613: the commands on the ledger and on the boot state. SET_PREFERRED, CLEAR_ATTEMPTS and
BOOT_CONFIRM change the control record, KEY_PROGRAM and KEY_REVOKE a key slot, where their conditions hold, and leave ERR
elsewhere; REBOOT schedules the reset, and RETRY leaves RECOVERY. That CONFIRM outside RELEASED leaves ERR 2 is the model's reading
(log entry 56). -/
def Obligations.LedgerCommands : Prop :=
  (∀ (m : RegMaster) (s : State) (slot : Nat), bootMaster m = true → s.bootBusy = false → slot = s.bootArg 0 % 2 →
    s.bit Reg.BOOT_STATUS (verifiedFld slot) = true → s.ledgerWord true 0 0x1000 = none →
    Completes (.setPreferred m) s fun t => t.controlWord 2 = slot + 2 ∧ (∀ i, i = 1 ∨ i = 3 ∨ i = 4 ∨ i = 5 →
      t.controlWord i = s.controlWord i) ∧ KeepsOutside s.mem t.mem ledgerLo 0x1000 ∧
      Frame (fun a => a == Reg.XBAR_INFLIGHT) [.mem, .ecc] s t) ∧
  (∀ (m : RegMaster) (s : State), bootMaster m = true → s.bootBusy = false →
    s.bit Reg.BOOT_STATUS (verifiedFld (s.bootArg 0 % 2)) = false → Completes (.setPreferred m) s fun t =>
      t.fld Reg.BOOT_CMD_STATUS Fld.BOOT_CMD_STATUS_ERR = 2 ∧
      Frame (fun a => a == Reg.BOOT_CMD_STATUS || a == Reg.XBAR_INFLIGHT) [] s t) ∧
  (∀ (m : RegMaster) (s : State) (c : Instr) (slot : Nat), bootMaster m = true → s.bootBusy = false →
    (c = .clearAttempts m ∧ slot = s.bootArg 0 % 2) ∨ (c = .bootConfirm m ∧ s.bootState = 3 ∧ slot = s.bootSlot) →
    s.ledgerWord true 0 0x1000 = none → Completes c s fun t => t.attempts slot = 0 ∧
      t.attempts (1 - slot) = s.attempts (1 - slot) ∧ (∀ i, i = 1 ∨ i = 2 ∨ i = 3 ∨ i = 5 →
        t.controlWord i = s.controlWord i) ∧ KeepsOutside s.mem t.mem ledgerLo 0x1000 ∧
      Frame (fun a => a == Reg.XBAR_INFLIGHT) [.mem, .ecc] s t) ∧
  (∀ (m : RegMaster) (s : State), bootMaster m = true → s.bootBusy = false → s.bootState ≠ 3 →
    Completes (.bootConfirm m) s fun t => t.fld Reg.BOOT_CMD_STATUS Fld.BOOT_CMD_STATUS_ERR = 2 ∧
      Frame (fun a => a == Reg.BOOT_CMD_STATUS || a == Reg.XBAR_INFLIGHT) [] s t) ∧
  (∀ (m : RegMaster) (s : State) (i : Nat), bootMaster m = true → s.bootBusy = false → i = s.bootArg 0 → i < 4 →
    inVat (s.bootArg 1) 96 = true → testBit (s.keyWord i) 0 = false → Completes (.keyProgram m) s fun t =>
      t.keyBytes i = s.read (s.bootArg 1) 96 ∧ t.keyWord i = s.keyWord i ||| 1 ∧
      KeepsOutside s.mem t.mem (ledgerLo + keyAt i) 0x70 ∧ FrameEv busRegs [.mem, .ecc] s t) ∧
  (∀ (m : RegMaster) (s : State) (i : Nat), bootMaster m = true → s.bootBusy = false → i = s.bootArg 0 → i < 4 →
    inVat (s.bootArg 1) 96 = true → testBit (s.keyWord i) 0 = true → Completes (.keyProgram m) s fun t =>
      t.fld Reg.BOOT_CMD_STATUS Fld.BOOT_CMD_STATUS_ERR = 6 ∧
      FrameEv (fun a => a == Reg.BOOT_CMD_STATUS || a == Reg.XBAR_INFLIGHT) [] s t) ∧
  (∀ (m : RegMaster) (s : State) (i k : Nat), bootMaster m = true → s.bootBusy = false → i = s.bootArg 0 → i < 4 → k < 4 →
    k ≠ i → s.keyUsable k = true → Completes (.keyRevoke m) s fun t => t.keyUsable i = false ∧
      t.keyWord i = s.keyWord i ||| 2 ∧ KeepsOutside s.mem t.mem (ledgerLo + keyAt i) 8 ∧
      FrameEv (fun a => a == Reg.XBAR_INFLIGHT) [.mem, .ecc] s t) ∧
  (∀ (m : RegMaster) (s : State) (i : Nat), bootMaster m = true → s.bootBusy = false → i = s.bootArg 0 → i < 4 →
    (∀ k, k < 4 → k ≠ i → s.keyUsable k = false) → Completes (.keyRevoke m) s fun t =>
      t.fld Reg.BOOT_CMD_STATUS Fld.BOOT_CMD_STATUS_ERR = 6 ∧
      FrameEv (fun a => a == Reg.BOOT_CMD_STATUS || a == Reg.XBAR_INFLIGHT) [] s t) ∧
  (∀ (m : RegMaster) (s : State) (c : Instr), bootMaster m = true → s.bootBusy = false →
    (c = .keyProgram m ∧ (4 ≤ s.bootArg 0 ∨ inVat (s.bootArg 1) 96 = false)) ∨ (c = .keyRevoke m ∧ 4 ≤ s.bootArg 0) →
    Completes c s fun t => t.fld Reg.BOOT_CMD_STATUS Fld.BOOT_CMD_STATUS_ERR = 3 ∧
      Frame (fun a => a == Reg.BOOT_CMD_STATUS || a == Reg.XBAR_INFLIGHT) [] s t) ∧
  (∀ (m : RegMaster) (s : State), bootMaster m = true → s.bootBusy = false → Completes (.reboot m) s fun t =>
    t.bit Reg.SENT_STATUS Fld.SENT_STATUS_RESET_PENDING = true ∧ t.holding = true ∧ t.mem = s.mem) ∧
  (∀ (m : RegMaster) (ms : Nat) (s : State), bootMaster m = true → s.bootBusy = false → s.bootState = 4 →
    s.control.1 ≠ none → Completes (.retry m ms) s fun t => t.bootState = 1 ∧
      (∀ x, vatLo ≤ x → x < vatHi → Memory.byte t.mem x = 0) ∧ (∀ x, vatHi ≤ x → Memory.byte t.mem x = Memory.byte s.mem x) ∧
      FrameEv (fun a => a == Reg.BOOT_STATUS || a == Reg.XBAR_INFLIGHT) [.mem, .ecc] s t) ∧
  (∀ (m : RegMaster) (ms : Nat) (s : State), bootMaster m = true → s.bootBusy = false → s.bootState ≠ 4 →
    Completes (.retry m ms) s fun t => t.fld Reg.BOOT_CMD_STATUS Fld.BOOT_CMD_STATUS_ERR = 2 ∧
      Frame (fun a => a == Reg.BOOT_CMD_STATUS || a == Reg.XBAR_INFLIGHT) [] s t)

/-- R402, R590, R591, R600, R601, R614: host jobs of the seal engine and writes of the ledger. A START runs at once on an idle
engine, waits behind a job and goes ahead of one that a later master of R600 submitted at the same PT (log entry 12), and is
ignored for a job that has not ended; the end of a job uses the registers as they stand then (the model's reading, log entry 57)
and leaves the digest and PASS, or REFUSED; a master other than BOOT writes the ledger above its first 64 KiB only, and the host is
told an ECC error there. -/
def Obligations.SealAndLedger : Prop :=
  (∀ (m : RegMaster) (n : Fin 3) (data : Word) (s : State), s.sealState n = 1 ∨ s.sealState n = 2 ∨ s.sealState n = 3 →
    Completes (.sealStart n data m) s (Frame (fun a => a == Reg.XBAR_INFLIGHT) [] s)) ∧
  (∀ (m : RegMaster) (n : Fin 3) (data : Word) (s : State), s.sealState n ≠ 1 → s.sealState n ≠ 2 → s.sealState n ≠ 3 →
    Completes (.sealStart n data m) s fun t =>
      t.bit (Reg.SEAL_STATUS n) Fld.SEAL_STATUS_PASS = false ∧
      t.bit (Reg.SEAL_CTRL n) Fld.SEAL_CTRL_OP = (Fld.SEAL_CTRL_OP.get data == 1) ∧
      t.fld (Reg.SEAL_CTRL n) Fld.SEAL_CTRL_KEY = Fld.SEAL_CTRL_KEY.get data ∧
      (s.boot.sealRun = none → s.boot.sysSeal = false → s.boot.sealSaved = none → s.boot.sealWait = [] →
        t.sealState n = 2 ∧ t.boot.sealRun = some n ∧ t.boot.sealWait = [] ∧
        Frame (fun a => a == Reg.SEAL_CTRL n || a == Reg.SEAL_STATUS n || a == Reg.XBAR_INFLIGHT) [.boot] s t) ∧
      (∀ k, s.boot.sealRun = some k → (k = 3 ∨ (s.sealSub k).1 ≠ s.now ∨ (s.sealSub k).2 ≤ submitRank m) →
        t.sealState n = 1 ∧ t.boot.sealRun = some k ∧ n.val ∈ t.boot.sealWait ∧
        ((∀ w ∈ s.boot.sealWait, (s.sealSub w).1 ≠ s.now ∨ (s.sealSub w).2 ≤ submitRank m) →
          t.boot.sealWait = s.boot.sealWait ++ [n.val]) ∧
        Frame (fun a => a == Reg.SEAL_CTRL n || a == Reg.SEAL_STATUS n || a == Reg.XBAR_INFLIGHT) [.boot] s t) ∧
      (∀ k : Fin 3, k ≠ n → s.boot.sealRun = some k.val → (s.sealSub k).1 = s.now → submitRank m < (s.sealSub k).2 →
        s.boot.sysSeal = false → s.boot.sealSaved = none → s.boot.sealWait = [] → t.sealState n = 2 ∧ t.sealState k = 1 ∧
        t.boot.sealRun = some n.val ∧ t.boot.sealWait = [k.val] ∧
        Frame (fun a => a == Reg.SEAL_CTRL n || a == Reg.SEAL_STATUS n || a == Reg.SEAL_STATUS k ||
          a == Reg.XBAR_INFLIGHT) [.boot] s t) ∧
      t.mem = s.mem) ∧
  (∀ (s : State) (n : Fin 3) (d : List Byte), s.boot.sealRun = some n.val → s.boot.sysSeal = false →
    s.boot.sealSaved = none → s.boot.sealWait = [] → s.sealRefused n = false →
    d = Config.sha384 (s.read (s.regN (Reg.SEAL_SRC n)) (s.regN (Reg.SEAL_LEN n))) →
    s.rmwBad (s.regN (Reg.SEAL_RES n)) (d.take 48).length = false → Completes .sealJobDone s fun t => t.sealState n = 4 ∧ t.boot.sealRun = none ∧
      t.read (s.regN (Reg.SEAL_RES n)) (d.take 48).length = d.take 48 ∧ KeepsOutside s.mem t.mem (s.regN (Reg.SEAL_RES n)) 48 ∧
      t.bit (Reg.SEAL_STATUS n) Fld.SEAL_STATUS_PASS = (s.bit (Reg.SEAL_CTRL n) Fld.SEAL_CTRL_OP &&
        Config.verify (s.keyBytes (s.fld (Reg.SEAL_CTRL n) Fld.SEAL_CTRL_KEY)) d (s.read (s.regN (Reg.SEAL_SIG n)) 96)) ∧
      FrameEv (fun a => a == Reg.SEAL_STATUS n || busRegs a) [.boot, .mem, .ecc] s t) ∧
  (∀ (s : State) (n : Fin 3), s.boot.sealRun = some n.val → s.sealRefused n = true → s.boot.sealSaved ≠ some n.val →
    n.val ∉ s.boot.sealWait → Completes .sealJobDone s fun t => t.sealState n = 5 ∧
      (s.tally.silent = false → t.shown 20) ∧ t.mem = s.mem) ∧
  (∀ (s : State), s.boot.sealRun = none → exec .sealJobDone s = .next s) ∧
  (∀ (m : Master) (off : BitVec 23) (data : List Byte) (s : State), reaches (Master.code m) 34 = true →
    (m = .host → s.released = true) → (m = .boot ∨ 0x10000 ≤ off.toNat) → off.toNat + data.length ≤ ledgerSize →
    Completes (.ledgerWrite m off data) s fun t =>
      ((s.ledgerRmw (ledgerEdges off.toNat data.length)).1 = true → t.read (ledgerLo + off.toNat) data.length = data ∧
        KeepsOutside s.mem t.mem (ledgerLo + off.toNat) data.length ∧
        FrameEv (fun a => a == Reg.XBAR_INFLIGHT) [.mem, .ecc] s t) ∧
      ((s.ledgerRmw (ledgerEdges off.toNat data.length)).1 = false → (s.tally.silent = false → t.shown 17) ∧
        (m = .host → t.host.cause = 7) ∧ FrameEv (fun a => a == Reg.GLOBAL_HOST_ERR ||
          a == Reg.GLOBAL_HOST_ERR_ADDR || busRegs a) [.host] s t)) ∧
  (∀ (m : Master) (off : BitVec 23) (data : List Byte) (s : State), reaches (Master.code m) 34 = true →
    (m = .host → s.released = true) → m ≠ .boot → off.toNat < 0x10000 → s.tally.silent = false →
    Completes (.ledgerWrite m off data) s fun t => t.shown 18 ∧ (m = .host → t.host.cause = 2) ∧
      FrameEv (fun a => a == Reg.GLOBAL_HOST_ERR || a == Reg.GLOBAL_HOST_ERR_ADDR || a == Reg.XBAR_INFLIGHT) [.host] s t)

/-- R12, R26, R594, R615, R617-R622, R625, R630, R631: accesses of the host, through BAR0, BAR2 or quad-SPI. A word of a
register and words of memory are read and written here; an access that breaks R621 or an address of R630, a write to a block
before the release and one to an address in no block are answered with their causes, the data of a read being all ones; one for
another device goes to the relay, a read that is refused there behind the writes to its index;
configuration space keeps what is written to it and reads other BARs as zero (the places of its bits: log entry 109); over
quad-SPI other opcodes are ignored, the mirrors answer a device that sleeps, and an access that HQ_CS_N cuts off leaves no
answer, a write no effect. The model's choices: an access over a link that is down is ignored (log entry 26), cause 8 in the
model's own field and the answer that a cut-off access leaves (log entry 27), the TAG count and the one queue of relay requests
(log entry 28). -/
def Obligations.HostAccesses : Prop :=
  (∀ (via : HostPath) (be : List (BitVec 4)) (s : State) (a : Nat), s.hostReaches via 4 1 0 a → s.wholeWords be → a % 4 = 0 →
    regionOf a = .reg → Completes (.hostRead via 1 be) s fun t =>
      t.host.data = [(s.hostRegister a).1] ∧ t.host.cause = 0 ∧ t.regs = (s.hostRegister a).2.regs ∧ t.mem = s.mem) ∧
  (∀ (via : HostPath) (be : List (BitVec 4)) (s v : State) (a : Nat), s.hostReaches via 4 2 0 a → s.quadSpi = true →
    a % 4 = 0 → regionOf a = .reg → regionOf (a + 4) = .reg → v = (s.hostRegister a).2 → Completes (.hostRead via 2 be) s fun t =>
      t.host.data = [(s.hostRegister a).1, (v.hostRegister (a + 4)).1] ∧ t.host.cause = 0 ∧
      t.regs = (v.hostRegister (a + 4)).2.regs) ∧
  (∀ (via : HostPath) (n : Nat) (be : List (BitVec 4)) (s : State) (a : Nat), s.hostReaches via 4 n 0 a → a % 4 = 0 →
    0 < n → n ≤ 64 → inVat a (4 * n) = true → s.eccBad a (4 * n) = false →
    Completes (.hostRead via n be) s fun t => t.host.data = (List.range n).map (fun i => s.word (a + 4 * i)) ∧
      t.host.cause = 0 ∧ FrameEv busRegs [.host] s t) ∧
  (∀ (via : HostPath) (data : List Word) (be : List (BitVec 4)) (s : State) (a : Nat), s.hostReaches via 8 data.length 0 a →
    s.wholeWords be → s.released = true → a % 4 = 0 → data ≠ [] → data.length ≤ 64 → inVat a (4 * data.length) = true →
    s.rmwBad a (4 * data.length) = false → Completes (.hostWrite via data be) s fun t =>
      (∀ i, i < data.length → t.word (a + 4 * i) = data.getD i 0) ∧ t.host.cause = 0 ∧
      KeepsOutside s.mem t.mem a (4 * data.length) ∧ FrameEv busRegs [.mem, .ecc, .host] s t) ∧
  (∀ (o : BitVec 26) (w : Word) (b : BitVec 4) (s : State) (a : Nat), s.linkUp = true → a = s.bar0 o.toNat →
    s.released = true → a % 4 = 0 → inVat a 4 = true → s.eccBad (a / 8 * 8) 8 = false →
    Completes (.hostWrite (.bar0 o) [w] [b]) s fun t => (∀ i, i < 4 → Memory.byte t.mem (a + i) =
        if b.getLsbD i = true then (wordBytes w).getD i 0 else Memory.byte s.mem (a + i)) ∧ t.host.cause = 0 ∧
      KeepsOutside s.mem t.mem a 4) ∧
  (∀ (via : HostPath) (w : Word) (be : List (BitVec 4)) (s : State) (a : Nat), s.hostReaches via 8 1 0 a → s.wholeWords be →
    s.released = true → a % 4 = 0 → regionOf a = .reg →
    exec (.hostWrite via [w] be) s = .next (((s.busHold a 4).writeReg .host a w).hostAnswer [] 0)) ∧
  (∀ (via : HostPath) (w : Word) (be : List (BitVec 4)) (s : State) (a : Nat), s.hostReaches via 8 1 0 a → s.wholeWords be →
    s.released = false → a % 4 = 0 → 0x100000 ≤ a → (a < 0x9000000 ∨ 0x9100000 ≤ a) → regionOf a ≠ .nothing →
    Completes (.hostWrite via [w] be) s fun t => HostRefused 2 0 true a s t ∧ t.host.data = []) ∧
  (∀ (via : HostPath) (w : Word) (be : List (BitVec 4)) (s : State) (a : Nat), s.hostReaches via 8 1 0 a → s.wholeWords be →
    a % 4 = 0 → regionOf a = .nothing → Completes (.hostWrite via [w] be) s fun t => HostTold 1 0 true a t ∧ t.host.data = [] ∧
      FrameEv (fun x => x == Reg.GLOBAL_HOST_ERR || x == Reg.GLOBAL_HOST_ERR_ADDR || busRegs x) [.host] s t) ∧
  (∀ (via : HostPath) (n : Nat) (be : List (BitVec 4)) (s : State) (a : Nat), s.hostReaches via 4 n 0 a →
    s.hostMalformed n a be → Completes (.hostRead via n be) s fun t =>
      HostRefused 3 0 false a s t ∧ t.host.data = List.replicate n 0xFFFFFFFF) ∧
  (∀ (op : BitVec 8) (addr : BitVec 40) (n k : Nat) (be : List (BitVec 4)) (s : State), s.quadSpi = true → s.power = .running →
    qspiWords 4 op = some k → mgmtOk addr = false → Completes (.hostRead (.qspi op addr) n be) s fun t =>
      HostRefused 3 (mgmtDev addr) false (mgmtLocal addr) s t ∧ t.host.data = List.replicate k 0xFFFFFFFF) ∧
  (∀ (op : BitVec 8) (addr : BitVec 40) (data : List Word) (be : List (BitVec 4)) (s : State), s.quadSpi = true →
    s.power = .running → qspiWords 8 op = some data.length → mgmtOk addr = false →
    Completes (.hostWrite (.qspi op addr) data be) s fun t => HostRefused 3 (mgmtDev addr) true (mgmtLocal addr) s t) ∧
  (∀ (via : HostPath) (n d a : Nat) (be : List (BitVec 4)) (s : State), s.hostReaches via 4 n d a → d ≠ 0 →
    (s.relayValid d = false ∨ s.hostMalformed n a be) → s.relayWriteOut d = false → Completes (.hostRead via n be) s fun t =>
      HostRefused (if s.relayValid d = false then 4 else 3) d false a s t ∧ t.host.data = List.replicate n 0xFFFFFFFF) ∧
  (∀ (via : HostPath) (n d a : Nat) (be : List (BitVec 4)) (s : State), s.hostReaches via 4 n d a → d ≠ 0 →
    (s.relayValid d = false ∨ s.hostMalformed n a be) → s.relayWriteOut d = true → Completes (.hostRead via n be) s fun t =>
      t.host = { s.host with nextGroup := s.host.nextGroup + 1, relay := s.host.relay ++ [⟨0, s.host.nextGroup, d, a, n, false,
        [], false, true, [], if s.relayValid d = false then 4 else 3, false⟩] } ∧ Frame noRegs [.host] s t) ∧
  (∀ (via : HostPath) (n d a : Nat) (be : List (BitVec 4)) (s : State), s.hostReaches via 4 n d a → d ≠ 0 →
    s.relayValid d = true → ¬s.hostMalformed n a be → 0 < n → n ≤ 16 → s.wholeWords be →
    s.host.relay = [] → Completes (.hostRead via n be) s fun t => t.host.relay = [⟨s.host.nextTag, s.host.nextGroup, d,
        a, n, false, [], true, false, [], 0, false⟩] ∧ t.host.nextTag = (s.host.nextTag + 1) % 2 ^ 8 ∧
      t.host.data = s.host.data ∧ (s.descFree = true → Frame noRegs [.host, .stream] s t)) ∧
  (∀ (n : Fin 6) (k : Nat) (be : List (BitVec 4)) (s : State), s.linkUp = true → 4 ≤ n.val →
    Completes (.hostRead (.cfg (.bar n)) k be) s fun t => t.host.data = [0] ∧ t.host.cause = 0 ∧ Frame noRegs [.host] s t) ∧
  (∀ (r : HostCfg) (w : Word) (be : List (BitVec 4)) (s : State), s.linkUp = true → Completes (.hostWrite (.cfg r) [w] be) s
    fun t => t.cfgRead r = (w &&& cfgMask r) ||| cfgFixed r ∧ (∀ q, q ≠ r → t.cfgRead q = s.cfgRead q) ∧
      (r = .msiControl → t.msiOn = w.getLsbD 0) ∧ Frame noRegs [.host] s t) ∧
  (∀ (n : Nat) (be : List (BitVec 4)) (data : List Word) (via : HostPath) (s : State), s.hostIgnores via data.length →
    exec (.hostRead via n be) s = .next s ∧ exec (.hostWrite via data be) s = .next s) ∧
  (∀ (op : BitVec 8) (addr : BitVec 40) (n : Nat) (s : State) (be : List (BitVec 4)), s.power = .dormant → s.quadSpi = true →
    qspiWords 4 op = some 1 → Completes (.hostRead (.qspi op addr) n be) s fun t =>
      t.host.data = [if mirrored addr.toNat = true then s.reg addr.toNat else 0xFFFFFFFF] ∧
      t.host.cause = (if mirrored addr.toNat = true then 0 else 8) ∧ Frame noRegs [.host] s t) ∧
  (∀ (addr : BitVec 40) (n : Nat) (s : State), exec (.qspiCsRise addr true n) s = .next s) ∧
  (∀ (addr : BitVec 40) (n : Nat) (s : State), s.quadSpi = true → Completes (.qspiCsRise addr false n) s fun t =>
    t.host.data = s.host.data ∧ t.host.cause = s.host.cause ∧
    (∀ a, n = 1 → s.power = .running → addr.toNat = a → a < 2 ^ 32 → a % 4 = 0 → regionOf a = .reg →
      t.regs = (s.hostRegister a).2.regs)) ∧
  (∀ (addr : BitVec 40) (n : Nat) (s : State), s.quadSpi = false ∨ n = 0 → exec (.qspiCsRise addr false n) s = .next s)

/-- R558, R616, R624-R629, R631, R633: the relay, the processors and the host link. A response or a timeout ends its request and
answers the host; a request of the relay master is served and answered; a SUMMARY frame, or its loss, sets the bit of its
device; a watchdog that has not been kicked, a trap, a change of the link and an acknowledged message do what those rules say; a
write of the host to another device, and the reads of a quad-SPI access that is cut off, go to the relay. The model's choices: no
message while its enable is 0 (log entry 7), requests matched by TAG and served in one queue, word by word (log entries 28 and
29), a watchdog that starts again at its expiry (log entry 30), HPLL_LOCK with the link (log entry 115), and the 2 s of R606 in
ticks (log entry 128). -/
def Obligations.RelayAndProcessors : Prop :=
  (∀ (tag : BitVec 8) (s : State) (r : RelayReq), s.host.relay = [r] → r.sent = true → r.ended = false → r.tag = tag.toNat →
    r.dev < 64 → r.lost = false → Completes (.relayTimeout tag) s fun t => t.host.relay = [] ∧
    HostRefused 5 r.dev r.write (r.addr % 2 ^ 32) s t ∧
      t.host.data = (if r.write then [] else List.replicate r.nw 0xFFFFFFFF) ∧ (s.tally.silent = false → t.shown 23)) ∧
  (∀ (tag : BitVec 8) (s : State), s.host.relay = [] → exec (.relayTimeout tag) s = .next s) ∧
  (∀ (s : State) (r : RelayReq) (p : Nat) (f : List Byte), s.host.inbox = [(p, f)] → relayType f = 3 ∨ relayType f = 4 →
    s.host.relay = [r] → r.sent = true → r.ended = false → r.tag = relayWord f 0 % 2 ^ 8 → r.fail = 0 →
    relayWord f 0 / 2 ^ 8 % 2 ^ 8 = 0 → Completes .relayResponseReceive s fun t => t.host.inbox = [] ∧ t.host.relay = [] ∧
      (r.lost = false → t.host.data = (if r.write then [] else relayData f r.nw) ∧ t.host.cause = 0) ∧
      (r.lost = true → t.host.data = s.host.data ∧ t.host.cause = s.host.cause) ∧ Frame noRegs [.host] s t) ∧
  (∀ (s : State) (r w : RelayReq) (p : Nat) (f : List Byte), s.host.inbox = [(p, f)] → relayType f = 3 →
    s.host.relay = [w, r] → w.sent = true → w.ended = false → w.write = true → r.write = false → r.dev = w.dev →
    w.group < r.group → w.tag ≠ r.tag → r.sent = true → r.ended = false → r.tag = relayWord f 0 % 2 ^ 8 →
    Completes .relayResponseReceive s fun t => t.host.inbox = [] ∧ t.host.data = s.host.data ∧
      t.host.relay.map (·.group) = [w.group, r.group] ∧ Frame noRegs [.host] s t) ∧
  (∀ (s : State) (r : RelayReq) (p : Nat) (f : List Byte), s.host.inbox = [(p, f)] → relayType f = 3 ∨ relayType f = 4 →
    s.host.relay = [r] → r.sent = true → r.ended = false → r.tag = relayWord f 0 % 2 ^ 8 → r.dev < 64 → r.lost = false →
    relayWord f 0 / 2 ^ 8 % 2 ^ 8 ≠ 0 → Completes .relayResponseReceive s fun t => t.host.inbox = [] ∧ t.host.relay = [] ∧
      HostRefused 6 r.dev r.write (r.addr % 2 ^ 32) s t) ∧
  (∀ (s : State) (p : Nat) (f : List Byte), s.host.inbox = [(p, f)] → relayType f = 3 ∨ relayType f = 4 →
    s.host.relay = [] → Completes .relayResponseReceive s fun t => t.host = { s.host with inbox := [] } ∧
      Frame noRegs [.host] s t) ∧
  (∀ (s : State) (p : Nat) (f : List Byte), s.host.inbox = [(p, f)] → relayType f = 1 ∨ relayType f = 2 →
    (s.bit Reg.HOST_RELAY_CFG Fld.HOST_RELAY_CFG_ACCEPT = false ∨ slice f 6 6 ≠ s.relayMaster) →
    Completes .relayRequestReceive s fun t => t.host = { s.host with inbox := [] } ∧ Frame noRegs [.host] s t) ∧
  (∀ (s : State) (p a : Nat) (f : List Byte) (w : Word), s.host.inbox = [(p, f)] → relayType f = 1 → relayNw f = 1 →
    s.bit Reg.HOST_RELAY_CFG Fld.HOST_RELAY_CFG_ACCEPT = true → slice f 6 6 = s.relayMaster → a = relayWord f 1 →
    a % 4 = 0 → inVat a 4 = true → s.ecc = [] → w = s.word a → s.descFree = true → Completes .relayRequestReceive s fun t =>
      t.host = { s.host with inbox := [] } ∧ Frame (fun x => x == Reg.XBAR_INFLIGHT) [.host, .stream] s t ∧
      ∃ g, g ∈ (t.egress p).bulk ∧ g.kind = .relay ∧ g.bytes = slice f 6 6 ++ List.replicate 6 0 ++
        beBytes 2 (s.fld Reg.HOST_RELAY_CFG Fld.HOST_RELAY_CFG_ETYPE) ++
        relayHeader 3 1 0 (relayWord f 0 % 2 ^ 8) a [w]) ∧
  (∀ (s : State), s.bit Reg.HOST_RELAY_CFG Fld.HOST_RELAY_CFG_ACCEPT = false ∨
    s.fld Reg.HOST_RELAY_CFG Fld.HOST_RELAY_CFG_ETYPE = 0 → exec .relaySummaryPeriodic s = .next s) ∧
  (∀ (s : State) (p : Fin 8), s.bit Reg.HOST_RELAY_CFG Fld.HOST_RELAY_CFG_ACCEPT = true →
    s.fld Reg.HOST_RELAY_CFG Fld.HOST_RELAY_CFG_ETYPE ≠ 0 → (∀ q : Fin 8, s.portUp q = (q == p)) → s.descFree = true →
    Completes .relaySummaryPeriodic s fun t => Frame noRegs [.stream, .events] s t ∧
      ∃ g, g ∈ (t.egress p).bulk ∧ g.kind = .relay ∧ g.bytes = s.relayMaster ++ List.replicate 6 0 ++
        beBytes 2 (s.fld Reg.HOST_RELAY_CFG Fld.HOST_RELAY_CFG_ETYPE) ++ (beBytes 4 (2 ^ 28 + 5 * 2 ^ 24) ++ beBytes 4 0 ++
        beBytes 4 (s.regN Reg.GLOBAL_SUMMARY % 2 ^ 12))) ∧
  (∀ (s : State) (p d : Nat) (f : List Byte), s.host.inbox = [(p, f)] → relayType f = 5 →
    s.relayIndex (slice f 6 6) = some d → Completes .relaySummaryReceive s fun t => t.host.inbox = [] ∧
      (t.reg64 Reg.GLOBAL_REMOTE_SUMMARY).testBit d = (relayWord f 2 % 2 ^ 12 != 0) ∧
      (t.reg64 Reg.HOST_RELAY_LOST).testBit d = false ∧ t.summaryInForce ∧
      (∀ i, 0 < i → i < 64 → i ≠ d → (t.reg64 Reg.GLOBAL_REMOTE_SUMMARY).testBit i =
        (s.reg64 Reg.GLOBAL_REMOTE_SUMMARY).testBit i) ∧
      FrameEv (fun a => inRange Reg.GLOBAL_REMOTE_SUMMARY 0x10 a || inRange Reg.HOST_RELAY_LOST 0xA000020 a) [.host] s t) ∧
  (∀ (d : Fin 64) (s : State), d ≠ 0 → s.bit (Reg.HOST_RELAY_DEV_HI d) Fld.HOST_RELAY_DEV_HI_VALID = true →
    Completes (.relaySummaryLost d) s fun t => (t.reg64 Reg.GLOBAL_REMOTE_SUMMARY).testBit d = true ∧
      (t.reg64 Reg.HOST_RELAY_LOST).testBit d = true ∧ (s.tally.silent = false → t.shown 23) ∧
      FrameEv (fun a => inRange Reg.GLOBAL_REMOTE_SUMMARY 0x10 a || inRange Reg.HOST_RELAY_LOST 0xA000020 a) [] s t) ∧
  (∀ (m : RegMaster) (p : Fin 2) (s : State), s.hostBarred m (Reg.HOST_CP_WDOG p) = false → Completes (.kick m p) s fun t =>
    (RegMaster.cp m = some p.val → SMap.find 0 t.host.wdogAt p = s.time.ticks) ∧
    (RegMaster.cp m ≠ some p.val → t.host = s.host) ∧
    (∀ q, q ≠ p.val → SMap.find 0 t.host.wdogAt q = SMap.find 0 s.host.wdogAt q) ∧
    Frame (fun a => a == Reg.XBAR_INFLIGHT) [.host] s t) ∧
  (∀ (m : RegMaster) (p : Fin 2) (s : State), s.hostBarred m (Reg.HOST_CP_WDOG p) = true →
    Completes (.kick m p) s (HostRefused 2 0 true (Reg.HOST_CP_WDOG p) s)) ∧
  (∀ (p : Fin 2) (b : Bool) (s : State), s.bit (Reg.HOST_CP_WDOG p) Fld.HOST_CP_WDOG_EN = true →
    s.boot.cpReset.getLsbD p = false → s.tally.silent = false → SMap.find 0 s.host.wdogAt p +
      max 1 (s.fld (Reg.HOST_CP_WDOG p) Fld.HOST_CP_WDOG_TIMEOUT_MS) * 800000 ≤ s.time.ticks →
    Completes (.cpaWdog p b) s fun t => t.shown (4 + p) ∧ SMap.find 0 t.host.wdogAt p = s.time.ticks ∧
      WdogNoted (4 + p) (!s.sticky (4 + p)) s t ∧
      FrameEv noRegs [.host, .boot] s t) ∧
  (∀ (p : Fin 2) (b : Bool) (s : State), s.bit (Reg.HOST_CP_WDOG p) Fld.HOST_CP_WDOG_EN = false ∨
    s.boot.cpReset.getLsbD p = true ∨ s.time.ticks < SMap.find 0 s.host.wdogAt p +
      max 1 (s.fld (Reg.HOST_CP_WDOG p) Fld.HOST_CP_WDOG_TIMEOUT_MS) * 800000 → exec (.cpaWdog p b) s = .next s) ∧
  (∀ (p : Fin 2) (code : BitVec 8) (addr : Word) (s : State), s.boot.cpReset.getLsbD p = false → s.tally.silent = false →
    Completes (.cpaTrap p code addr) s fun t => t.shown (6 + p) ∧ FrameEv noRegs [] s t) ∧
  (∀ (c : BitVec 3) (s : State), s.bit Reg.HOST_STATUS Fld.HOST_STATUS_LINK = true → s.quadSpi = false →
    s.tally.silent = false → Completes (.hostLinkDown c) s fun t =>
      t.bit Reg.HOST_STATUS Fld.HOST_STATUS_LINK = false ∧ t.fld Reg.HOST_STATUS Fld.HOST_STATUS_SPEED = 0 ∧
      t.fld Reg.HOST_STATUS Fld.HOST_STATUS_WIDTH = 0 ∧ t.shown 21 ∧ t.host.cfg = [] ∧
      FrameEv (fun a => a == Reg.HOST_STATUS) [.host] s t) ∧
  (∀ (c : BitVec 3) (s : State), s.linkUp = false → exec (.hostLinkDown c) s = .next s) ∧
  (∀ (speed : BitVec 3) (width : BitVec 2) (s : State), s.power = .running → s.quadSpi = false →
    Completes (.hostLinkUp speed width) s fun t => t.bit Reg.HOST_STATUS Fld.HOST_STATUS_LINK = true ∧
      t.fld Reg.HOST_STATUS Fld.HOST_STATUS_SPEED = speed.toNat ∧ t.fld Reg.HOST_STATUS Fld.HOST_STATUS_WIDTH = width.toNat ∧
      t.bit Reg.SYNTH_SYS_STATUS Fld.SYNTH_SYS_STATUS_HPLL_LOCK = true ∧
      Frame (fun a => a == Reg.HOST_STATUS || a == Reg.SYNTH_SYS_STATUS) [] s t) ∧
  (∀ (s : State), Completes .msiAck s fun t => t.host.msi = (if s.reg Reg.GLOBAL_SUMMARY ≠ 0 ∧ s.msiOn = true then
    s.host.msi + 1 else s.host.msi) ∧ t.host.data = s.host.data ∧ Frame noRegs [.events] s t) ∧
  (∀ (via : HostPath) (data : List Word) (be : List (BitVec 4)) (s : State) (d a : Nat),
    s.hostReaches via 8 data.length d a → d ≠ 0 → s.relayValid d = true → ¬s.hostMalformed data.length a be →
    data ≠ [] → data.length ≤ 16 → s.wholeWords be → s.host.relay = [] → Completes (.hostWrite via data be) s fun t =>
      t.host.relay = [⟨s.host.nextTag, s.host.nextGroup, d, a, data.length, true, data, true, false, [], 0, false⟩] ∧
      t.host.nextTag = (s.host.nextTag + 1) % 2 ^ 8 ∧ t.host.data = s.host.data ∧
      (s.descFree = true → Frame noRegs [.host, .stream] s t)) ∧
  (∀ (addr : BitVec 40) (n : Nat) (s : State), s.quadSpi = true → s.power = .running → mgmtOk addr = true →
    mgmtDev addr ≠ 0 → s.relayValid (mgmtDev addr) = true → mgmtLocal addr % 4 = 0 → 0 < n → n ≤ 16 → s.host.relay = [] →
    Completes (.qspiCsRise addr false n) s fun t =>
      t.host.relay = [⟨s.host.nextTag, s.host.nextGroup, mgmtDev addr, mgmtLocal addr, n, false, [], true, false, [], 0, true⟩] ∧
      t.host.data = s.host.data ∧ t.host.cause = s.host.cause ∧ (s.descFree = true → Frame noRegs [.host, .stream] s t))

/-- Every command answers a next state, at every state and with every operand, and leaves the queue of the commands that wait as
it is. A release of RESET_N out of reset with a level on MODE0-MODE2 alone does not: the device is then in a test mode, in which
no behaviour of the manual is guaranteed (R645). -/
def Obligations.EveryCommandCompletes : Prop :=
  ∀ (c : Instr) (s : State), (∀ (straps : BitVec 8) (mode : BitVec 3), c = .resetNRise straps mode →
  mode = 0 ∨ s.power ≠ .reset) →
    Completes c s fun t => t.pending = s.pending
end

