-- ==== Sys2Proof/Laws/Store.lean ====
section
/-! SUPPORT. The laws of sparse maps and memories: a read after a write, and every write keeps the canonical form. -/

namespace Sys2Proof.Machine

variable {α : Type}

@[simp] theorem SMap.find_nil (d : α) (i : Nat) : SMap.find d [] i = d := rfl

theorem SMap.find_put (d : α) (m : SMap α) (i j : Nat) (v : α) :
    SMap.find d (SMap.put m i v) j = if i = j then v else SMap.find d m j := by
  induction m with
  | nil => simp [SMap.put, SMap.find]
  | cons e m ih =>
    obtain ⟨k, w⟩ := e
    simp only [SMap.put]
    split
    · simp [SMap.find]
    · split
      · subst k; by_cases h : i = j <;> simp [SMap.find, h]
      · simp only [SMap.find, ih]
        by_cases h : k = j <;> by_cases h' : i = j <;> simp_all

theorem SMap.find_del (d : α) (m : SMap α) (i j : Nat) :
    SMap.find d (SMap.del m i) j = if i = j then d else SMap.find d m j := by
  induction m with
  | nil => simp [SMap.del]
  | cons e m ih =>
    obtain ⟨k, w⟩ := e
    simp only [SMap.del]
    split
    · subst k; simp only [ih, SMap.find]; by_cases h : i = j <;> simp [h]
    · simp only [SMap.find, ih]
      by_cases h : k = j <;> by_cases h' : i = j <;> simp_all

/-- A read after a write: the value at the key written, what stood there elsewhere. -/
theorem SMap.find_set [DecidableEq α] (d : α) (m : SMap α) (i j : Nat) (v : α) :
    SMap.find d (SMap.set d m i v) j = if i = j then v else SMap.find d m j := by
  simp only [SMap.set]
  split
  · subst v; exact SMap.find_del ..
  · exact SMap.find_put ..

@[simp] theorem SMap.find_set_same [DecidableEq α] (d : α) (m : SMap α) (i : Nat) (v : α) :
    SMap.find d (SMap.set d m i v) i = v := by simp [SMap.find_set]

theorem SMap.find_set_ne [DecidableEq α] (d d' : α) (m : SMap α) (i j : Nat) (v : α) (h : i ≠ j) :
    SMap.find d (SMap.set d' m i v) j = SMap.find d m j := by
  simp only [SMap.set]
  split
  · rw [SMap.find_del, if_neg h]
  · rw [SMap.find_put, if_neg h]

/-- Every key of a map is above a bound. -/
def SMap.above (b : Nat) (m : SMap α) : Prop := ∀ e ∈ m, b < e.1

theorem SMap.rising_cons (k : Nat) (w : α) (m : SMap α) :
    SMap.rising ((k, w) :: m) = true ↔ SMap.above k m ∧ SMap.rising m = true := by
  induction m generalizing k w with
  | nil => simp [SMap.rising, SMap.above]
  | cons e m ih =>
    obtain ⟨l, x⟩ := e
    simp only [SMap.rising, Bool.and_eq_true, decide_eq_true_eq]
    constructor
    · rintro ⟨h, h2⟩
      refine ⟨?_, h2⟩
      intro e he
      rcases List.mem_cons.1 he with rfl | he
      · exact h
      · exact lt_trans h (((ih l x).1 h2).1 e he)
    · rintro ⟨h, h2⟩
      exact ⟨h (l, x) (by simp), h2⟩

theorem SMap.above_put {b i : Nat} {v : α} {m : SMap α} (h : SMap.above b m) (hi : b < i) :
    SMap.above b (SMap.put m i v) := by
  induction m with
  | nil => simpa [SMap.put, SMap.above] using hi
  | cons e m ih =>
    obtain ⟨k, w⟩ := e
    have hm : SMap.above b m := fun e he => h e (List.mem_cons_of_mem _ he)
    have hk : b < k := h (k, w) (by simp)
    simp only [SMap.put]
    split
    · intro e he
      rcases List.mem_cons.1 he with rfl | he
      · exact hi
      · exact h e he
    · split
      · intro e he
        rcases List.mem_cons.1 he with rfl | he
        · exact hi
        · exact hm e he
      · intro e he
        rcases List.mem_cons.1 he with rfl | he
        · exact hk
        · exact ih hm e he

theorem SMap.above_del {b i : Nat} {m : SMap α} (h : SMap.above b m) : SMap.above b (SMap.del m i) := by
  induction m with
  | nil => simpa [SMap.del] using h
  | cons e m ih =>
    obtain ⟨k, w⟩ := e
    have hm : SMap.above b m := fun e he => h e (List.mem_cons_of_mem _ he)
    simp only [SMap.del]
    split
    · exact ih hm
    · intro e he
      rcases List.mem_cons.1 he with rfl | he
      · exact h _ (by simp)
      · exact ih hm e he

theorem SMap.rising_put {m : SMap α} (i : Nat) (v : α) (h : SMap.rising m = true) :
    SMap.rising (SMap.put m i v) = true := by
  induction m with
  | nil => simp [SMap.put, SMap.rising]
  | cons e m ih =>
    obtain ⟨k, w⟩ := e
    have ⟨ha, hr⟩ := (SMap.rising_cons k w m).1 h
    simp only [SMap.put]
    split
    · rename_i hlt
      refine (SMap.rising_cons i v _).2 ⟨?_, h⟩
      intro e he
      rcases List.mem_cons.1 he with rfl | he
      · exact hlt
      · exact lt_trans hlt (ha e he)
    · split
      · rename_i hk
        subst hk
        exact (SMap.rising_cons _ _ _).2 ⟨ha, hr⟩
      · exact (SMap.rising_cons _ _ _).2 ⟨SMap.above_put ha (by omega), ih hr⟩

theorem SMap.rising_del {m : SMap α} (i : Nat) (h : SMap.rising m = true) :
    SMap.rising (SMap.del m i) = true := by
  induction m with
  | nil => simp [SMap.del, SMap.rising]
  | cons e m ih =>
    obtain ⟨k, w⟩ := e
    have ⟨ha, hr⟩ := (SMap.rising_cons k w m).1 h
    simp only [SMap.del]
    split
    · exact ih hr
    · exact (SMap.rising_cons _ _ _).2 ⟨SMap.above_del ha, ih hr⟩

theorem SMap.all_put {p : Nat × α → Bool} {m : SMap α} (i : Nat) (v : α) (h : m.all p = true) (hv : p (i, v) = true) :
    (SMap.put m i v).all p = true := by
  induction m with
  | nil => simpa [SMap.put] using hv
  | cons e m ih =>
    obtain ⟨k, w⟩ := e
    simp only [List.all_cons, Bool.and_eq_true] at h
    simp only [SMap.put]
    split
    · simp [h, hv]
    · split
      · simp [h, hv]
      · simp [h, ih h.2]

theorem SMap.all_del {p : Nat × α → Bool} {m : SMap α} (i : Nat) (h : m.all p = true) :
    (SMap.del m i).all p = true := by
  induction m with
  | nil => simp [SMap.del]
  | cons e m ih =>
    obtain ⟨k, w⟩ := e
    simp only [List.all_cons, Bool.and_eq_true] at h
    simp only [SMap.del]
    split
    · exact ih h.2
    · simp [h, ih h.2]

/-- A write keeps the canonical form. -/
theorem SMap.canon_set [DecidableEq α] (d : Nat → α) (m : SMap α) (i : Nat) (v : α) (h : SMap.canon d m = true) :
    SMap.canon d (SMap.set (d i) m i v) = true := by
  simp only [SMap.canon, Bool.and_eq_true] at h ⊢
  simp only [SMap.set]
  split
  · exact ⟨SMap.rising_del i h.1, SMap.all_del i h.2⟩
  · rename_i hv
    exact ⟨SMap.rising_put i v h.1, SMap.all_put i v h.2 (by simpa using hv)⟩

theorem SMap.rising_filter (p : Nat × α → Bool) {m : SMap α} (h : SMap.rising m = true) :
    SMap.rising (m.filter p) = true := by
  induction m with
  | nil => simp [SMap.rising]
  | cons e m ih =>
    obtain ⟨k, w⟩ := e
    have ⟨ha, hr⟩ := (SMap.rising_cons k w m).1 h
    simp only [List.filter_cons]
    split
    · exact (SMap.rising_cons _ _ _).2 ⟨fun e he => ha e (List.mem_of_mem_filter he), ih hr⟩
    · exact ih hr

/-- Dropping entries keeps the canonical form. -/
theorem SMap.canon_filter [DecidableEq α] (d : Nat → α) (p : Nat × α → Bool) {m : SMap α} (h : SMap.canon d m = true) :
    SMap.canon d (m.filter p) = true := by
  simp only [SMap.canon, Bool.and_eq_true] at h ⊢
  refine ⟨SMap.rising_filter p h.1, ?_⟩
  rw [List.all_eq_true] at h ⊢
  exact fun e he => h.2 e (List.mem_of_mem_filter he)

@[simp] theorem SMap.canon_nil [DecidableEq α] (d : Nat → α) : SMap.canon d [] = true := by simp [SMap.canon, SMap.rising]

/-! ### Memory -/

@[simp] theorem Memory.byte_setByte (m : Memory) (a x : Nat) (b : Byte) :
    Memory.byte (Memory.setByte m a b) x = if a = x then b else Memory.byte m x := SMap.find_set ..

theorem Memory.setByte_wf (m : Memory) (a : Nat) (b : Byte) (h : Memory.wf m = true) :
    Memory.wf (Memory.setByte m a b) = true := SMap.canon_set (fun _ => 0) m a b h

theorem Memory.write_wf (m : Memory) (a : Nat) (bs : List Byte) (h : Memory.wf m = true) :
    Memory.wf (Memory.write m a bs) = true := by
  induction bs generalizing m a with
  | nil => exact h
  | cons b bs ih => exact ih _ _ (Memory.setByte_wf m a b h)

theorem Memory.writeMasked_wf (m : Memory) (a : Nat) (bs : List (Byte × Bool)) (h : Memory.wf m = true) :
    Memory.wf (Memory.writeMasked m a bs) = true := by
  induction bs generalizing m a with
  | nil => exact h
  | cons b bs ih =>
    obtain ⟨b, e⟩ := b
    refine ih _ _ ?_
    split
    · exact Memory.setByte_wf m a b h
    · exact h

theorem Memory.clear_wf (m : Memory) (lo hi : Nat) (h : Memory.wf m = true) : Memory.wf (Memory.clear m lo hi) = true :=
  SMap.canon_filter _ _ h

/-- What a byte reads as after a write of consecutive bytes. -/
theorem Memory.byte_write (m : Memory) (a x : Nat) (bs : List Byte) :
    Memory.byte (Memory.write m a bs) x =
      if a ≤ x ∧ x < a + bs.length then bs.getD (x - a) 0 else Memory.byte m x := by
  induction bs generalizing m a with
  | nil => simp [Memory.write]
  | cons b bs ih =>
    simp only [Memory.write, ih, Memory.byte_setByte, List.length_cons]
    by_cases h1 : a + 1 ≤ x ∧ x < a + 1 + bs.length
    · rw [if_pos h1, if_pos (by omega)]
      have : x - a = (x - (a + 1)) + 1 := by omega
      rw [this, List.getD_cons_succ]
    · rw [if_neg h1]
      by_cases h2 : a = x
      · subst h2
        rw [if_pos rfl, if_pos (by omega)]
        simp
      · rw [if_neg h2, if_neg (by omega)]

theorem Memory.write_keepsOutside (m : Memory) (a x : Nat) (bs : List Byte) (h : x < a ∨ a + bs.length ≤ x) :
    Memory.byte (Memory.write m a bs) x = Memory.byte m x := by
  rw [Memory.byte_write, if_neg (by omega)]

theorem Memory.length_read (m : Memory) (a n : Nat) : (Memory.read m a n).length = n := by
  induction n generalizing a with
  | zero => rfl
  | succ n ih => simp [Memory.read, ih]

theorem Memory.read_congr (m m' : Memory) (a n : Nat) (h : ∀ x, a ≤ x → x < a + n → Memory.byte m x = Memory.byte m' x) :
    Memory.read m a n = Memory.read m' a n := by
  induction n generalizing a with
  | zero => rfl
  | succ n ih =>
    simp only [Memory.read]
    rw [h a (by omega) (by omega), ih (a + 1) (fun x h1 h2 => h x (by omega) (by omega))]

/-- A read after a write of the same bytes. -/
theorem Memory.read_write_same (m : Memory) (a : Nat) (bs : List Byte) :
    Memory.read (Memory.write m a bs) a bs.length = bs := by
  induction bs generalizing m a with
  | nil => rfl
  | cons b bs ih =>
    simp only [Memory.write, List.length_cons, Memory.read, ih]
    rw [Memory.byte_write, if_neg (by omega)]
    simp

/-- A read apart from what was written. -/
theorem Memory.read_write_apart (m : Memory) (a b n : Nat) (bs : List Byte) (h : b + n ≤ a ∨ a + bs.length ≤ b) :
    Memory.read (Memory.write m a bs) b n = Memory.read m b n :=
  Memory.read_congr _ _ _ _ (fun x h1 h2 => Memory.write_keepsOutside m a x bs (by omega))

end Sys2Proof.Machine
end

