-- ==== Sys2Proof/Laws/Canon.lean ====
section
/-! SUPPORT. Every operation of a command keeps the queue of waiting commands, and the canonical form of the register words
and of the memories. -/

namespace Sys2Proof.Machine

set_option linter.unreachableTactic false
set_option linter.unusedTactic false
set_option linter.unusedVariables false
set_option linter.unusedSimpArgs false

/-- A state that a command has come to from `u`: the queue as it was, and the canonical form kept. -/
def Keeps (u s : State) : Prop := s.pending = u.pending ∧ (u.canonical = true → s.canonical = true)

variable {u : State}

theorem Keeps.rfl' {s : State} : Keeps s s := ⟨rfl, id⟩

theorem Keeps.trans {s t : State} (h : Keeps u s) (k : Keeps s t) : Keeps u t :=
  ⟨k.1.trans h.1, fun c => k.2 (h.2 c)⟩

theorem keeps_mk {s : State} {f_power : Power} {f_shadow : SMap Word} {f_fresh : List Nat} {f_staging : SMap Word}
    {f_ecc : SMap Bool} {f_raised : SMap Nat} {f_free : Nat} {f_irqN : Bool} {f_time : TimeSt} {f_synth : SynthSt}
    {f_pe : SMap PeCore} {f_seq : SeqSt} {f_mix : MixSt} {f_src : SMap SrcCh} {f_clause : ClauseSt} {f_stream :
    StreamSt} {f_xbar : XbarSt} {f_dramc : DramSt} {f_redun : RedunSt} {f_sap : SMap SapSt} {f_ain : AinSt} {f_aout :
    AoutSt} {f_lamp : LampSt} {f_hadc : HadcSt} {f_tally : TallySt} {f_sent : SentSt} {f_host : HostSt} :
    Keeps u ⟨f_power, s.regs, f_shadow, f_fresh, f_staging, s.mem, s.dram, s.spare, f_ecc, f_raised, f_free, f_irqN,
    f_time, f_synth, f_pe, f_seq, f_mix, f_src, f_clause, f_stream, f_xbar, f_dramc, f_redun, f_sap, f_ain, f_aout,
    f_lamp, f_hadc, f_tally, f_sent, s.boot, f_host, s.pending⟩ = Keeps u s := (rfl)

theorem keeps_boot {s : State} {f_power : Power} {f_shadow : SMap Word} {f_fresh : List Nat} {f_staging : SMap Word}
    {f_ecc : SMap Bool} {f_raised : SMap Nat} {f_free : Nat} {f_irqN : Bool} {f_time : TimeSt} {f_synth : SynthSt}
    {f_pe : SMap PeCore} {f_seq : SeqSt} {f_mix : MixSt} {f_src : SMap SrcCh} {f_clause : ClauseSt} {f_stream :
    StreamSt} {f_xbar : XbarSt} {f_dramc : DramSt} {f_redun : RedunSt} {f_sap : SMap SapSt} {f_ain : AinSt} {f_aout :
    AoutSt} {f_lamp : LampSt} {f_hadc : HadcSt} {f_tally : TallySt} {f_sent : SentSt} {f_host : HostSt}
    {b_cleared : Bool} {b_second : Bool} {b_svn : Word} {b_commitSvn : Bool} {b_leaf : Nat} {b_audioSeen : Bool}
    {b_job : Option BootJob} {b_prevA : Word} {b_prevB : Word} {b_revert : BitVec 2} {b_actAt : SMap Nat} {b_sealRun :
    Option Nat} {b_sealWait : List Nat} {b_sealSub : SMap (Nat × Nat)} {b_sealSaved : Option Nat} {b_sysSeal : Bool}
    {b_cpReset : BitVec 2} :
    Keeps u ⟨f_power, s.regs, f_shadow, f_fresh, f_staging, s.mem, s.dram, s.spare, f_ecc, f_raised, f_free, f_irqN,
    f_time, f_synth, f_pe, f_seq, f_mix, f_src, f_clause, f_stream, f_xbar, f_dramc, f_redun, f_sap, f_ain, f_aout,
    f_lamp, f_hadc, f_tally, f_sent, ⟨b_cleared, b_second, b_svn, b_commitSvn, b_leaf, b_audioSeen, b_job,
    s.boot.flash, s.boot.idleA, s.boot.idleB, b_prevA, b_prevB, b_revert, b_actAt, b_sealRun, b_sealWait, b_sealSub,
    b_sealSaved, b_sysSeal, b_cpReset⟩, f_host, s.pending⟩ = Keeps u s := (rfl)

theorem keeps_ite {c : Prop} [Decidable c] {s t : State} (hs : Keeps u s) (ht : Keeps u t) :
    Keeps u (if c then s else t) := by split <;> assumption

theorem keeps_ite2 {α : Type} {c : Prop} [Decidable c] {p q : α × State} (hp : Keeps u p.2) (hq : Keeps u q.2) :
    Keeps u (if c then p else q).2 := by split <;> assumption

theorem keeps_snd {α : Type} {p : α × State} {a : α} {s : State} (e : p = (a, s)) (h : Keeps u p.2) : Keeps u s := by
  subst e; exact h

theorem keeps_foldl {α : Type} {f : State → α → State} {l : List α} {s : State}
    (h : ∀ s a, Keeps u s → Keeps u (f s a)) (hs : Keeps u s) : Keeps u (l.foldl f s) := by
  induction l generalizing s with
  | nil => exact hs
  | cons a l ih => exact ih (h s a hs)

theorem keeps_foldl2 {α β : Type} {f : α × State → β → α × State} {l : List β} {p : α × State}
    (h : ∀ p b, Keeps u p.2 → Keeps u (f p b).2) (hp : Keeps u p.2) : Keeps u (l.foldl f p).2 := by
  induction l generalizing p with
  | nil => exact hp
  | cons b l ih => exact ih (h p b hp)

theorem State.canonical_iff (s : State) :
    s.canonical = true ↔ SMap.canon regReset s.regs = true ∧ Memory.wf s.mem = true ∧ Memory.wf s.dram = true ∧
      Memory.wf s.spare = true ∧ Memory.wf s.boot.flash = true ∧ Memory.wf s.boot.idleA = true ∧
      Memory.wf s.boot.idleB = true := by
  simp only [State.canonical, Bool.and_eq_true, and_assoc]

/-- The queue as it was, and each of the stores in its canonical form where all of them were. -/
theorem keeps_of {s t : State} (h : Keeps u s) (hp : t.pending = s.pending)
    (h1 : SMap.canon regReset s.regs = true → SMap.canon regReset t.regs = true)
    (h2 : Memory.wf s.mem = true → Memory.wf t.mem = true) (h3 : Memory.wf s.dram = true → Memory.wf t.dram = true)
    (h4 : Memory.wf s.spare = true → Memory.wf t.spare = true := by exact id)
    (h5 : Memory.wf s.boot.flash = true → Memory.wf t.boot.flash = true := by exact id)
    (h6 : Memory.wf s.boot.idleA = true → Memory.wf t.boot.idleA = true := by exact id)
    (h7 : Memory.wf s.boot.idleB = true → Memory.wf t.boot.idleB = true := by exact id) :
    Keeps u t := by
  refine ⟨hp.trans h.1, fun c => ?_⟩
  obtain ⟨c1, c2, c3, c4, c5, c6, c7⟩ := (State.canonical_iff s).1 (h.2 c)
  exact (State.canonical_iff t).2 ⟨h1 c1, h2 c2, h3 c3, h4 c4, h5 c5, h6 c6, h7 c7⟩

/-- A shift of the keys of a memory keeps the form where every key lies at or above the shift's origin. -/
theorem Memory.shift_rising (lo to_ : Nat) (m : Memory) (h : SMap.rising m = true) (hl : ∀ e ∈ m, lo ≤ e.1) :
    SMap.rising (m.map (fun e => (e.1 - lo + to_, e.2))) = true := by
  induction m with
  | nil => rfl
  | cons x m ih =>
    cases m with
    | nil => rfl
    | cons y m =>
      simp only [SMap.rising, Bool.and_eq_true, decide_eq_true_eq, List.map_cons] at h ih ⊢
      have hx := hl x (by simp)
      have hy := hl y (by simp)
      exact ⟨by omega, ih h.2 (fun e he => hl e (by simp [he]))⟩

theorem Memory.move_wf (m : Memory) (lo size to_ : Nat) (h : Memory.wf m = true) :
    Memory.wf (Memory.move m lo size to_) = true := by
  have hf := SMap.canon_filter (fun _ => (0 : Byte)) (fun e => decide (lo ≤ e.1) && decide (e.1 < lo + size)) h
  simp only [SMap.canon, Bool.and_eq_true, List.all_eq_true] at hf
  simp only [Memory.wf, Memory.move, SMap.canon, Bool.and_eq_true, List.all_eq_true]
  refine ⟨Memory.shift_rising lo to_ _ hf.1 (fun e he => ?_), fun e he => ?_⟩
  · simp only [List.mem_filter, Bool.and_eq_true, decide_eq_true_eq] at he
    exact he.2.1
  · obtain ⟨e', he', rfl⟩ := List.mem_map.1 he
    exact hf.2 e' he'

theorem State.setReg_keeps (s : State) (a : Nat) (w : Word) (h : Keeps u s) : Keeps u (s.setReg a w) :=
  keeps_of h rfl (SMap.canon_set regReset s.regs a w) id id

theorem State.write_keeps (s : State) (a : Nat) (bs : List Byte) (h : Keeps u s) : Keeps u (s.write a bs) :=
  keeps_of h rfl id (Memory.write_wf s.mem a bs) id

theorem State.setFld_keeps : ∀ (s : State) (a : Nat) (f : Field) (n : Nat), Keeps u s → Keeps u (s.setFld a f n) := by
  intros; unfold State.setFld; try dsimp only
  repeat' (with_reducible (first
      | assumption | apply keeps_ite | apply keeps_foldl | apply State.setReg_keeps | simp only [keeps_mk]
      | simp only [keeps_boot] | split | refine keeps_snd ‹_ = (_, _)› ?_ | (intro; intros)))

theorem State.setBit_keeps : ∀ (s : State) (a : Nat) (f : Field) (b : Bool), Keeps u s → Keeps u (s.setBit a f b) :=
    by
  intros; unfold State.setBit; try dsimp only
  repeat' (with_reducible (first
      | assumption | apply keeps_ite | apply keeps_foldl | apply State.setFld_keeps | simp only [keeps_mk]
      | simp only [keeps_boot] | split | refine keeps_snd ‹_ = (_, _)› ?_ | (intro; intros)))

theorem State.markRecord_keeps : ∀ (s : State) (src : Nat) (w3 : Word), Keeps u s → Keeps u (s.markRecord src w3) :=
    by
  intros; unfold State.markRecord; try dsimp only
  repeat' (with_reducible (first
      | assumption | apply keeps_ite | apply keeps_foldl | simp only [keeps_mk] | simp only [keeps_boot] | split
      | refine keeps_snd ‹_ = (_, _)› ?_ | (intro; intros)))

theorem State.markCause_keeps : ∀ (s : State) (src : Nat), Keeps u s → Keeps u (s.markCause src) := by
  intros; unfold State.markCause; try dsimp only
  repeat' (with_reducible (first
      | assumption | apply keeps_ite | apply keeps_foldl | apply State.setReg_keeps | simp only [keeps_mk]
      | simp only [keeps_boot] | split | refine keeps_snd ‹_ = (_, _)› ?_ | (intro; intros)))

theorem State.mark_keeps : ∀ (s : State) (src : Nat) (w3 : Word), Keeps u s → Keeps u (s.mark src w3) := by
  intros; unfold State.mark; try dsimp only
  repeat' (with_reducible (first
      | assumption | apply keeps_ite | apply keeps_foldl | apply State.markRecord_keeps
      | apply State.markCause_keeps | simp only [keeps_mk] | simp only [keeps_boot] | split
      | refine keeps_snd ‹_ = (_, _)› ?_ | (intro; intros)))

theorem State.orderAction_keeps : ∀ (s : State) (n action : Nat) (forced : Bool), Keeps u s → Keeps u (s.orderAction n
    action forced) := by
  intros; unfold State.orderAction; try dsimp only
  repeat' (with_reducible (first
      | assumption | apply keeps_ite | apply keeps_foldl | apply State.setBit_keeps | apply State.setFld_keeps
      | apply State.mark_keeps | simp only [keeps_mk] | simp only [keeps_boot] | split
      | refine keeps_snd ‹_ = (_, _)› ?_ | (intro; intros)))

theorem State.takeFree_keeps : ∀ (s : State), Keeps u s → Keeps u s.takeFree.2 := by
  intros; unfold State.takeFree; try dsimp only
  repeat' (with_reducible (first
      | assumption | apply keeps_ite | apply keeps_foldl | simp only [keeps_mk] | simp only [keeps_boot] | split
      | refine keeps_snd ‹_ = (_, _)› ?_ | (intro; intros)))

theorem State.setRegN_keeps : ∀ (s : State) (a n : Nat), Keeps u s → Keeps u (s.setRegN a n) := by
  intros; unfold State.setRegN; try dsimp only
  repeat' (with_reducible (first
      | assumption | apply keeps_ite | apply keeps_foldl | apply State.setReg_keeps | simp only [keeps_mk]
      | simp only [keeps_boot] | split | refine keeps_snd ‹_ = (_, _)› ?_ | (intro; intros)))

theorem State.syncSummary_keeps : ∀ (s : State), Keeps u s → Keeps u s.syncSummary := by
  intros; unfold State.syncSummary; try dsimp only
  repeat' (with_reducible (first
      | assumption | apply keeps_ite | apply keeps_foldl | apply State.setRegN_keeps | simp only [keeps_mk]
      | simp only [keeps_boot] | split | refine keeps_snd ‹_ = (_, _)› ?_ | (intro; intros)))

theorem State.setSticky_keeps : ∀ (s : State) (n : Nat), Keeps u s → Keeps u (s.setSticky n) := by
  intros; unfold State.setSticky; try dsimp only
  repeat' (with_reducible (first
      | assumption | apply keeps_ite | apply keeps_foldl | apply State.setReg_keeps | simp only [keeps_mk]
      | simp only [keeps_boot] | split | refine keeps_snd ‹_ = (_, _)› ?_ | (intro; intros)))

theorem State.setReg64_keeps : ∀ (s : State) (a n : Nat), Keeps u s → Keeps u (s.setReg64 a n) := by
  intros; unfold State.setReg64; try dsimp only
  repeat' (with_reducible (first
      | assumption | apply keeps_ite | apply keeps_foldl | apply State.setRegN_keeps | simp only [keeps_mk]
      | simp only [keeps_boot] | split | refine keeps_snd ‹_ = (_, _)› ?_ | (intro; intros)))

theorem State.setFirst_keeps : ∀ (s : State) (n : Nat) (forced : Bool), Keeps u s → Keeps u (s.setFirst n forced) :=
    by
  intros; unfold State.setFirst; try dsimp only
  repeat' (with_reducible (first
      | assumption | apply keeps_ite | apply keeps_foldl | apply State.setReg64_keeps | apply State.setRegN_keeps
      | simp only [keeps_mk] | simp only [keeps_boot] | split | refine keeps_snd ‹_ = (_, _)› ?_ | (intro; intros)))

theorem State.setGrace_keeps : ∀ (s : State) (n : Nat) (on : Bool), Keeps u s → Keeps u (s.setGrace n on) := by
  intros; unfold State.setGrace; try dsimp only
  repeat' (with_reducible (first
      | assumption | apply keeps_ite | apply keeps_foldl | apply State.setReg_keeps | apply State.setFld_keeps
      | simp only [keeps_mk] | simp only [keeps_boot] | split | refine keeps_snd ‹_ = (_, _)› ?_ | (intro; intros)))

theorem State.react_keeps : ∀ (s : State) (n : Nat) (forced : Bool), Keeps u s → Keeps u (s.react n forced) := by
  intros; unfold State.react; try dsimp only
  repeat' (with_reducible (first
      | assumption | apply keeps_ite | apply keeps_foldl | apply State.mark_keeps | apply State.setGrace_keeps
      | apply State.orderAction_keeps | simp only [keeps_mk] | simp only [keeps_boot] | split
      | refine keeps_snd ‹_ = (_, _)› ?_ | (intro; intros)))

theorem State.raiseSilent_keeps : ∀ (s : State) (src : Nat) (w3 : Word), Keeps u s → Keeps u (s.raiseSilent src w3) :=
    by
  intros; unfold State.raiseSilent; try dsimp only
  repeat' (with_reducible (first
      | assumption | apply keeps_ite | apply keeps_foldl | apply State.takeFree_keeps | apply State.markCause_keeps
      | apply State.markRecord_keeps | apply State.syncSummary_keeps | apply State.setSticky_keeps
      | apply State.setFirst_keeps | apply State.react_keeps | simp only [keeps_mk] | simp only [keeps_boot] | split
      | refine keeps_snd ‹_ = (_, _)› ?_ | (intro; intros)))

theorem State.tallyRaise_keeps : ∀ (s : State) (n : Nat) (forced : Bool), Keeps u s → Keeps u (s.tallyRaise n forced)
    := by
  intros; unfold State.tallyRaise; try dsimp only
  repeat' (with_reducible (first
      | assumption | apply keeps_ite | apply keeps_foldl | apply State.react_keeps | apply State.setSticky_keeps
      | apply State.setFirst_keeps | simp only [keeps_mk] | simp only [keeps_boot] | split
      | refine keeps_snd ‹_ = (_, _)› ?_ | (intro; intros)))

theorem State.raiseNow_keeps : ∀ (s : State) (src : Nat) (w3 : Word), Keeps u s → Keeps u (s.raiseNow src w3) := by
  intros; unfold State.raiseNow; try dsimp only
  repeat' (with_reducible (first
      | assumption | apply keeps_ite | apply keeps_foldl | apply State.mark_keeps | apply State.syncSummary_keeps
      | apply State.tallyRaise_keeps | simp only [keeps_mk] | simp only [keeps_boot] | split
      | refine keeps_snd ‹_ = (_, _)› ?_ | (intro; intros)))

theorem State.raise_keeps : ∀ (s : State) (src : Nat) (w3 : Word), Keeps u s → Keeps u (s.raise src w3) := by
  intros; unfold State.raise; try dsimp only
  repeat' (with_reducible (first
      | assumption | apply keeps_ite | apply keeps_foldl | apply State.raiseSilent_keeps
      | apply State.raiseNow_keeps | simp only [keeps_mk] | simp only [keeps_boot] | split
      | refine keeps_snd ‹_ = (_, _)› ?_ | (intro; intros)))

theorem State.raiseN_keeps : ∀ (s : State) (src w3 : Nat), Keeps u s → Keeps u (s.raiseN src w3) := by
  intros; unfold State.raiseN; try dsimp only
  repeat' (with_reducible (first
      | assumption | apply keeps_ite | apply keeps_foldl | apply State.raise_keeps | simp only [keeps_mk]
      | simp only [keeps_boot] | split | refine keeps_snd ‹_ = (_, _)› ?_ | (intro; intros)))

theorem State.raiseFolio_keeps : ∀ (s : State) (key src w3 : Nat), Keeps u s → Keeps u (s.raiseFolio key src w3) := by
  intros; unfold State.raiseFolio; try dsimp only
  repeat' (with_reducible (first
      | assumption | apply keeps_ite | apply keeps_foldl | apply State.raiseN_keeps | simp only [keeps_mk]
      | simp only [keeps_boot] | split | refine keeps_snd ‹_ = (_, _)› ?_ | (intro; intros)))

theorem State.raiseMs_keeps : ∀ (s : State) (key src w3 : Nat), Keeps u s → Keeps u (s.raiseMs key src w3) := by
  intros; unfold State.raiseMs; try dsimp only
  repeat' (with_reducible (first
      | assumption | apply keeps_ite | apply keeps_foldl | apply State.raiseN_keeps | simp only [keeps_mk]
      | simp only [keeps_boot] | split | refine keeps_snd ‹_ = (_, _)› ?_ | (intro; intros)))

theorem State.writeWords_keeps : ∀ (s : State) (a : Nat) (ws : List Word), Keeps u s → Keeps u (s.writeWords a ws) :=
    by
  intros; unfold State.writeWords; try dsimp only
  repeat' (with_reducible (first
      | assumption | apply keeps_ite | apply keeps_foldl | apply State.write_keeps | simp only [keeps_mk]
      | simp only [keeps_boot] | split | refine keeps_snd ‹_ = (_, _)› ?_ | (intro; intros)))

theorem State.eccClearW_keeps : ∀ (s : State) (w a n : Nat), Keeps u s → Keeps u (s.eccClearW w a n) := by
  intros; unfold State.eccClearW; try dsimp only
  repeat' (with_reducible (first
      | assumption | apply keeps_ite | apply keeps_foldl | simp only [keeps_mk] | simp only [keeps_boot] | split
      | refine keeps_snd ‹_ = (_, _)› ?_ | (intro; intros)))

theorem State.eccClear_keeps : ∀ (s : State) (a n : Nat), Keeps u s → Keeps u (s.eccClear a n) := by
  intros; unfold State.eccClear; try dsimp only
  repeat' (with_reducible (first
      | assumption | apply keeps_ite | apply keeps_foldl | apply State.eccClearW_keeps | simp only [keeps_mk]
      | simp only [keeps_boot] | split | refine keeps_snd ‹_ = (_, _)› ?_ | (intro; intros)))

theorem State.writeWord_keeps : ∀ (s : State) (a : Nat) (data : Word), Keeps u s → Keeps u (s.writeWord a data) := by
  intros; unfold State.writeWord; try dsimp only
  repeat' (with_reducible (first
      | assumption | apply keeps_ite | apply keeps_foldl | apply State.setReg_keeps | simp only [keeps_mk]
      | simp only [keeps_boot] | split | refine keeps_snd ‹_ = (_, _)› ?_ | (intro; intros)))

theorem State.writeRw_keeps : ∀ (s : State) (a : Nat) (data : Word), Keeps u s → Keeps u (s.writeRw a data) := by
  intros; unfold State.writeRw; try dsimp only
  repeat' (with_reducible (first
      | assumption | apply keeps_ite | apply keeps_foldl | apply State.writeWord_keeps | simp only [keeps_mk]
      | simp only [keeps_boot] | split | refine keeps_snd ‹_ = (_, _)› ?_ | (intro; intros)))

theorem State.countHold_keeps : ∀ (s : State) (a n : Nat), Keeps u s → Keeps u (s.countHold a n) := by
  intros; unfold State.countHold; try dsimp only
  repeat' (with_reducible (first
      | assumption | apply keeps_ite | apply keeps_foldl | apply State.setRegN_keeps | simp only [keeps_mk]
      | simp only [keeps_boot] | split | refine keeps_snd ‹_ = (_, _)› ?_ | (intro; intros)))

theorem State.vatCount_keeps : ∀ (s : State) (k addr : Nat), Keeps u s → Keeps u (s.vatCount k addr) := by
  intros; unfold State.vatCount; try dsimp only
  repeat' (with_reducible (first
      | assumption | apply keeps_ite | apply keeps_foldl | apply State.raiseMs_keeps | apply State.countHold_keeps
      | simp only [keeps_mk] | simp only [keeps_boot] | split | refine keeps_snd ‹_ = (_, _)› ?_ | (intro; intros)))

theorem State.vatCorr_keeps : ∀ (s : State) (addr n : Nat), Keeps u s → Keeps u (s.vatCorr addr n) := by
  intros; unfold State.vatCorr; try dsimp only
  repeat' (with_reducible (first
      | assumption | apply keeps_ite | apply keeps_foldl | apply State.vatCount_keeps | simp only [keeps_mk]
      | simp only [keeps_boot] | split | refine keeps_snd ‹_ = (_, _)› ?_ | (intro; intros)))

theorem State.hostErr_keeps : ∀ (s : State) (cause dev : Nat) (write : Bool) (addr : Nat), Keeps u s → Keeps u
    (s.hostErr cause dev write addr) := by
  intros; unfold State.hostErr; try dsimp only
  repeat' (with_reducible (first
      | assumption | apply keeps_ite | apply keeps_foldl | apply State.setRegN_keeps | apply State.raiseMs_keeps
      | simp only [keeps_mk] | simp only [keeps_boot] | split | refine keeps_snd ‹_ = (_, _)› ?_ | (intro; intros)))

theorem State.holdTags_keeps : ∀ (s : State) (k : Nat), Keeps u s → Keeps u (s.holdTags k) := by
  intros; unfold State.holdTags; try dsimp only
  repeat' (with_reducible (first
      | assumption | apply keeps_ite | apply keeps_foldl | apply State.setFld_keeps | simp only [keeps_mk]
      | simp only [keeps_boot] | split | refine keeps_snd ‹_ = (_, _)› ?_ | (intro; intros)))

theorem State.unlessBarred_keeps : ∀ (s : State) (m : RegMaster) (a : Nat) (t : State), Keeps u s → Keeps u t → Keeps
    u (s.unlessBarred m a t) := by
  intros; unfold State.unlessBarred; try dsimp only
  repeat' (with_reducible (first
      | assumption | apply keeps_ite | apply keeps_foldl | apply State.hostErr_keeps | apply State.holdTags_keeps
      | simp only [keeps_mk] | simp only [keeps_boot] | split | refine keeps_snd ‹_ = (_, _)› ?_ | (intro; intros)))

theorem State.setNow_keeps : ∀ (s : State) (t : Nat), Keeps u s → Keeps u (s.setNow t) := by
  intros; unfold State.setNow; try dsimp only
  repeat' (with_reducible (first
      | assumption | apply keeps_ite | apply keeps_foldl | apply State.setRegN_keeps | simp only [keeps_mk]
      | simp only [keeps_boot] | split | refine keeps_snd ‹_ = (_, _)› ?_ | (intro; intros)))

theorem State.count_keeps : ∀ (s : State) (a n : Nat), Keeps u s → Keeps u (s.count a n) := by
  intros; unfold State.count; try dsimp only
  repeat' (with_reducible (first
      | assumption | apply keeps_ite | apply keeps_foldl | apply State.setRegN_keeps | apply State.takeFree_keeps
      | simp only [keeps_mk] | simp only [keeps_boot] | split | refine keeps_snd ‹_ = (_, _)› ?_ | (intro; intros)))

theorem State.linkDrop_keeps : ∀ (s : State) (cause : Nat), Keeps u s → Keeps u (s.linkDrop cause) := by
  intros; unfold State.linkDrop; try dsimp only
  repeat' (with_reducible (first
      | assumption | apply keeps_ite | apply keeps_foldl | apply State.raiseN_keeps | apply State.setFld_keeps
      | apply State.setBit_keeps | simp only [keeps_mk] | simp only [keeps_boot] | split
      | refine keeps_snd ‹_ = (_, _)› ?_ | (intro; intros)))

theorem State.count64_keeps : ∀ (s : State) (a n : Nat), Keeps u s → Keeps u (s.count64 a n) := by
  intros; unfold State.count64; try dsimp only
  repeat' (with_reducible (first
      | assumption | apply keeps_ite | apply keeps_foldl | apply State.setReg64_keeps | simp only [keeps_mk]
      | simp only [keeps_boot] | split | refine keeps_snd ‹_ = (_, _)› ?_ | (intro; intros)))

theorem State.raiseOnce_keeps : ∀ (s : State) (key k src w3 : Nat), Keeps u s → Keeps u (s.raiseOnce key k src w3) :=
    by
  intros; unfold State.raiseOnce; try dsimp only
  repeat' (with_reducible (first
      | assumption | apply keeps_ite | apply keeps_foldl | apply State.raiseN_keeps | simp only [keeps_mk]
      | simp only [keeps_boot] | split | refine keeps_snd ‹_ = (_, _)› ?_ | (intro; intros)))

theorem State.quireDrop_keeps : ∀ (s : State) (q : Nat), Keeps u s → Keeps u (s.quireDrop q) := by
  intros; unfold State.quireDrop; try dsimp only
  repeat' (with_reducible (first
      | assumption | apply keeps_ite | apply keeps_foldl | apply State.setFld_keeps | simp only [keeps_mk]
      | simp only [keeps_boot] | split | refine keeps_snd ‹_ = (_, _)› ?_ | (intro; intros)))

theorem State.quireCond_keeps : ∀ (s : State) (q : Nat) (en : Field) (src : Nat) (happened : Bool), Keeps u s → Keeps
    u (s.quireCond q en src happened) := by
  intros; unfold State.quireCond; try dsimp only
  repeat' (with_reducible (first
      | assumption | apply keeps_ite | apply keeps_foldl | apply State.setReg_keeps | apply State.raiseN_keeps
      | simp only [keeps_mk] | simp only [keeps_boot] | split | refine keeps_snd ‹_ = (_, _)› ?_ | (intro; intros)))

theorem State.quireConds_keeps : ∀ (s : State) (q c c' : Nat) (overflow : Bool), Keeps u s → Keeps u (s.quireConds q c
    c' overflow) := by
  intros; unfold State.quireConds; try dsimp only
  repeat' (with_reducible (first
      | assumption | apply keeps_ite | apply keeps_foldl | apply State.quireCond_keeps | simp only [keeps_mk]
      | simp only [keeps_boot] | split | refine keeps_snd ‹_ = (_, _)› ?_ | (intro; intros)))

theorem State.quireCycle_keeps : ∀ (s : State) (q : Nat) (push : Option (List Byte)) (pop : Bool), Keeps u s → Keeps u
    (s.quireCycle q push pop).2 := by
  intros; unfold State.quireCycle; try dsimp only
  repeat' (with_reducible (first
      | assumption | apply keeps_ite | apply keeps_foldl | apply State.vatCorr_keeps | apply State.eccClear_keeps
      | apply State.write_keeps | apply State.setFld_keeps | apply State.quireDrop_keeps | apply State.raiseN_keeps
      | apply State.takeFree_keeps | apply State.quireConds_keeps | simp only [keeps_mk] | simp only [keeps_boot]
      | split | refine keeps_snd ‹_ = (_, _)› ?_ | (intro; intros)))

theorem State.quireServe_keeps : ∀ (s : State) (q : Nat) (push : Option (List Byte)) (pop : Bool), Keeps u s → Keeps u
    (s.quireServe q push pop).2 := by
  intros; unfold State.quireServe; try dsimp only
  repeat' (with_reducible (first
      | assumption | apply keeps_ite | apply keeps_foldl | apply State.quireCycle_keeps
      | apply State.quireDrop_keeps | simp only [keeps_mk] | simp only [keeps_boot] | split
      | refine keeps_snd ‹_ = (_, _)› ?_ | (intro; intros)))

theorem State.setRegs_keeps : ∀ (s : State) (a : Nat) (ws : List Word), Keeps u s →
    Keeps u (s.setRegs a ws) := by
  intro s a ws h
  induction ws generalizing s a with
  | nil => exact h
  | cons w ws ih => exact ih _ _ (State.setReg_keeps _ _ _ h)

theorem State.quireSw_keeps : ∀ (s : State) (n : Nat) (data : Word), Keeps u s → Keeps u (s.quireSw n data) := by
  intros; unfold State.quireSw; try dsimp only
  repeat' (with_reducible (first
      | assumption | apply keeps_ite | apply keeps_foldl | apply State.quireServe_keeps | apply State.setRegs_keeps
      | apply State.setRegN_keeps | simp only [keeps_mk] | simp only [keeps_boot] | split
      | refine keeps_snd ‹_ = (_, _)› ?_ | (intro; intros)))

theorem State.hwPop_keeps : ∀ (s : State) (q size : Nat), Keeps u s → Keeps u (s.hwPop q size).2 := by
  intros; unfold State.hwPop; try dsimp only
  repeat' (with_reducible (first
      | assumption | apply keeps_ite | apply keeps_foldl | apply State.quireServe_keeps | simp only [keeps_mk]
      | simp only [keeps_boot] | split | refine keeps_snd ‹_ = (_, _)› ?_ | (intro; intros)))

theorem State.popAnswer_keeps : ∀ (s : State) (bs : List Byte), Keeps u s → Keeps u (s.popAnswer bs) := by
  intros; unfold State.popAnswer; try dsimp only
  repeat' (with_reducible (first
      | assumption | apply keeps_ite | apply keeps_foldl | simp only [keeps_mk] | simp only [keeps_boot] | split
      | refine keeps_snd ‹_ = (_, _)› ?_ | (intro; intros)))

theorem State.hwPops_keeps : ∀ (s : State) (q : Nat) (pops : List (Nat × Nat)), Keeps u s → Keeps u (s.hwPops q pops)
    := by
  intros; unfold State.hwPops; try dsimp only
  repeat' (with_reducible (first
      | assumption | apply keeps_ite | apply keeps_foldl | apply State.hwPop_keeps | apply State.popAnswer_keeps
      | simp only [keeps_mk] | simp only [keeps_boot] | split | refine keeps_snd ‹_ = (_, _)› ?_ | (intro; intros)))

theorem State.quireCfgErr_keeps : ∀ (s : State) (a : Nat), Keeps u s → Keeps u (s.quireCfgErr a) := by
  intros; unfold State.quireCfgErr; try dsimp only
  repeat' (with_reducible (first
      | assumption | apply keeps_ite | apply keeps_foldl | apply State.raiseN_keeps | simp only [keeps_mk]
      | simp only [keeps_boot] | split | refine keeps_snd ‹_ = (_, _)› ?_ | (intro; intros)))

theorem State.quireBaseWrite_keeps : ∀ (s : State) (q : Nat) (data : Word), Keeps u s → Keeps u (s.quireBaseWrite q
    data) := by
  intros; unfold State.quireBaseWrite; try dsimp only
  repeat' (with_reducible (first
      | assumption | apply keeps_ite | apply keeps_foldl | apply State.quireCfgErr_keeps | apply State.setReg_keeps
      | simp only [keeps_mk] | simp only [keeps_boot] | split | refine keeps_snd ‹_ = (_, _)› ?_ | (intro; intros)))

theorem State.hwPush_keeps : ∀ (s : State) (q : Nat) (entry : List Byte), Keeps u s → Keeps u (s.hwPush q entry).2 :=
    by
  intros; unfold State.hwPush; try dsimp only
  repeat' (with_reducible (first
      | assumption | apply keeps_ite | apply keeps_foldl | apply State.quireDrop_keeps
      | apply State.quireServe_keeps | simp only [keeps_mk] | simp only [keeps_boot] | split
      | refine keeps_snd ‹_ = (_, _)› ?_ | (intro; intros)))

theorem State.swServe_keeps : ∀ (s : State) (q : Nat) (op : Field) (cmds : List (Fin 3 × Word)), Keeps u s → Keeps u
    (s.swServe q op cmds) := by
  intros; unfold State.swServe; try dsimp only
  repeat' (with_reducible (first
      | assumption | apply keeps_ite | apply keeps_foldl | apply State.quireSw_keeps | simp only [keeps_mk]
      | simp only [keeps_boot] | split | refine keeps_snd ‹_ = (_, _)› ?_ | (intro; intros)))

theorem State.pushPop_keeps : ∀ (s : State) (q : Nat) (entry : List Byte) (withPop : Bool), Keeps u s → Keeps u
    (s.pushPop q entry withPop) := by
  intros; unfold State.pushPop; try dsimp only
  repeat' (with_reducible (first
      | assumption | apply keeps_ite | apply keeps_foldl | apply State.quireServe_keeps
      | apply State.quireDrop_keeps | apply State.popAnswer_keeps | apply State.hwPush_keeps | simp only [keeps_mk]
      | simp only [keeps_boot] | split | refine keeps_snd ‹_ = (_, _)› ?_ | (intro; intros)))

theorem State.quireCfgWrite_keeps : ∀ (s : State) (q : Nat) (data : Word), Keeps u s → Keeps u (s.quireCfgWrite q
    data) := by
  intros; unfold State.quireCfgWrite; try dsimp only
  repeat' (with_reducible (first
      | assumption | apply keeps_ite | apply keeps_foldl | apply State.quireCfgErr_keeps | apply State.setFld_keeps
      | apply State.setBit_keeps | apply State.writeWord_keeps | simp only [keeps_mk] | simp only [keeps_boot]
      | split | refine keeps_snd ‹_ = (_, _)› ?_ | (intro; intros)))

theorem State.hwPushes_keeps : ∀ (s : State) (q : Nat) (pushes : List (Nat × List Byte)) (withPop : Bool), Keeps u s →
    Keeps u (s.hwPushes q pushes withPop) := by
  intros; unfold State.hwPushes; try dsimp only
  repeat' (with_reducible (first
      | assumption | apply keeps_ite | apply keeps_foldl | apply State.pushPop_keeps | simp only [keeps_mk]
      | simp only [keeps_boot] | split | refine keeps_snd ‹_ = (_, _)› ?_ | (intro; intros)))

theorem State.graceExpiry_keeps : ∀ (s : State) (n : Nat), Keeps u s → Keeps u (s.graceExpiry n) := by
  intros; unfold State.graceExpiry; try dsimp only
  repeat' (with_reducible (first
      | assumption | apply keeps_ite | apply keeps_foldl | apply State.syncSummary_keeps
      | apply State.orderAction_keeps | apply State.setGrace_keeps | simp only [keeps_mk] | simp only [keeps_boot]
      | split | refine keeps_snd ‹_ = (_, _)› ?_ | (intro; intros)))

theorem State.noteWdog_keeps : ∀ (s : State) (n : Nat), Keeps u s → Keeps u (s.noteWdog n) := by
  intros; unfold State.noteWdog; try dsimp only
  repeat' (with_reducible (first
      | assumption | apply keeps_ite | apply keeps_foldl | simp only [keeps_mk] | simp only [keeps_boot] | split
      | refine keeps_snd ‹_ = (_, _)› ?_ | (intro; intros)))

theorem State.stickyClear_keeps : ∀ (s : State) (n : Nat) (raised : Option Bool), Keeps u s → Keeps u (s.stickyClear n
    raised) := by
  intros; unfold State.stickyClear; try dsimp only
  repeat' (with_reducible (first
      | assumption | apply keeps_ite | apply keeps_foldl | apply State.react_keeps | apply State.setGrace_keeps
      | apply State.noteWdog_keeps | apply State.setReg_keeps | apply State.mark_keeps | simp only [keeps_mk]
      | simp only [keeps_boot] | split | refine keeps_snd ‹_ = (_, _)› ?_ | (intro; intros)))

theorem State.evgForce_keeps : ∀ (s : State) (g : Nat) (data : Word), Keeps u s → Keeps u (s.evgForce g data) := by
  intros; unfold State.evgForce; try dsimp only
  repeat' (with_reducible (first
      | assumption | apply keeps_ite | apply keeps_foldl | apply State.mark_keeps | simp only [keeps_mk]
      | simp only [keeps_boot] | split | refine keeps_snd ‹_ = (_, _)› ?_ | (intro; intros)))

theorem State.stickyWrite_keeps : ∀ (s : State) (w : Nat) (data raised forced : Word), Keeps u s → Keeps u
    (s.stickyWrite w data raised forced) := by
  intros; unfold State.stickyWrite; try dsimp only
  repeat' (with_reducible (first
      | assumption | apply keeps_ite | apply keeps_foldl | apply State.syncSummary_keeps
      | apply State.stickyClear_keeps | simp only [keeps_mk] | simp only [keeps_boot] | split
      | refine keeps_snd ‹_ = (_, _)› ?_ | (intro; intros)))

theorem State.noteRaise_keeps : ∀ (s : State) (n : Nat), Keeps u s → Keeps u (s.noteRaise n) := by
  intros; unfold State.noteRaise; try dsimp only
  repeat' (with_reducible (first
      | assumption | apply keeps_ite | apply keeps_foldl | apply State.noteWdog_keeps | simp only [keeps_mk]
      | simp only [keeps_boot] | split | refine keeps_snd ‹_ = (_, _)› ?_ | (intro; intros)))

theorem State.forceFault_keeps : ∀ (s : State) (n : Nat) (raised : Option Word), Keeps u s → Keeps u (s.forceFault n
    raised) := by
  intros; unfold State.forceFault; try dsimp only
  repeat' (with_reducible (first
      | assumption | apply keeps_ite | apply keeps_foldl | apply State.tallyRaise_keeps | apply State.mark_keeps
      | apply State.noteRaise_keeps | simp only [keeps_mk] | simp only [keeps_boot] | split
      | refine keeps_snd ‹_ = (_, _)› ?_ | (intro; intros)))

theorem State.tallyForce_keeps : ∀ (s : State) (w : Nat) (data : Word) (raised : List (Fin 32 × Word)), Keeps u s →
    Keeps u (s.tallyForce w data raised) := by
  intros; unfold State.tallyForce; try dsimp only
  repeat' (with_reducible (first
      | assumption | apply keeps_ite | apply keeps_foldl | apply State.syncSummary_keeps
      | apply State.forceFault_keeps | simp only [keeps_mk] | simp only [keeps_boot] | split
      | refine keeps_snd ‹_ = (_, _)› ?_ | (intro; intros)))

theorem State.clearRuns_keeps : ∀ (s : State), Keeps u s → Keeps u s.clearRuns := by
  intros; unfold State.clearRuns; try dsimp only
  repeat' (with_reducible (first
      | assumption | apply keeps_ite | apply keeps_foldl | simp only [keeps_mk] | simp only [keeps_boot] | split
      | refine keeps_snd ‹_ = (_, _)› ?_ | (intro; intros)))

theorem State.setServo_keeps : ∀ (s : State) (c : Nat), Keeps u s → Keeps u (s.setServo c) := by
  intros; unfold State.setServo; try dsimp only
  repeat' (with_reducible (first
      | assumption | apply keeps_ite | apply keeps_foldl | apply State.setFld_keeps | simp only [keeps_mk]
      | simp only [keeps_boot] | split | refine keeps_snd ‹_ = (_, _)› ?_ | (intro; intros)))

theorem State.toAcquire_keeps : ∀ (s : State), Keeps u s → Keeps u s.toAcquire := by
  intros; unfold State.toAcquire; try dsimp only
  repeat' (with_reducible (first
      | assumption | apply keeps_ite | apply keeps_foldl | apply State.clearRuns_keeps | apply State.setServo_keeps
      | simp only [keeps_mk] | simp only [keeps_boot] | split | refine keeps_snd ‹_ = (_, _)› ?_ | (intro; intros)))

theorem State.useSample_keeps : ∀ (s : State) (theta : Int), Keeps u s → Keeps u (s.useSample theta) := by
  intros; unfold State.useSample; try dsimp only
  repeat' (with_reducible (first
      | assumption | apply keeps_ite | apply keeps_foldl | apply State.setReg_keeps | apply State.raise_keeps
      | simp only [keeps_mk] | simp only [keeps_boot] | split | refine keeps_snd ‹_ = (_, _)› ?_ | (intro; intros)))

theorem State.servoSample_keeps : ∀ (s : State) (theta : Int), Keeps u s → Keeps u (s.servoSample theta) := by
  intros; unfold State.servoSample; try dsimp only
  repeat' (with_reducible (first
      | assumption | apply keeps_ite | apply keeps_foldl | apply State.toAcquire_keeps | apply State.useSample_keeps
      | apply State.raise_keeps | apply State.clearRuns_keeps | apply State.setServo_keeps | simp only [keeps_mk]
      | simp only [keeps_boot] | split | refine keeps_snd ‹_ = (_, _)› ?_ | (intro; intros)))

theorem State.servoOffsetWrite_keeps : ∀ (s : State) (lo hi : Word), Keeps u s → Keeps u (s.servoOffsetWrite lo hi) :=
    by
  intros; unfold State.servoOffsetWrite; try dsimp only
  repeat' (with_reducible (first
      | assumption | apply keeps_ite | apply keeps_foldl | apply State.servoSample_keeps | simp only [keeps_mk]
      | simp only [keeps_boot] | split | refine keeps_snd ‹_ = (_, _)› ?_ | (intro; intros)))

theorem State.setPulse_keeps : ∀ (s : State) (n : Nat) (p : Pulse), Keeps u s → Keeps u (s.setPulse n p) := by
  intros; unfold State.setPulse; try dsimp only
  repeat' (with_reducible (first
      | assumption | apply keeps_ite | apply keeps_foldl | apply State.setBit_keeps | simp only [keeps_mk]
      | simp only [keeps_boot] | split | refine keeps_snd ‹_ = (_, _)› ?_ | (intro; intros)))

theorem State.pulseJump_keeps : ∀ (s : State) (t : Int) (n : Nat), Keeps u s → Keeps u (s.pulseJump t n) := by
  intros; unfold State.pulseJump; try dsimp only
  repeat' (with_reducible (first
      | assumption | apply keeps_ite | apply keeps_foldl | apply State.raiseN_keeps | apply State.setPulse_keeps
      | simp only [keeps_mk] | simp only [keeps_boot] | split | refine keeps_snd ‹_ = (_, _)› ?_ | (intro; intros)))

theorem State.eventRecordPush_keeps : ∀ (s : State), Keeps u s → Keeps u s.eventRecordPush := by
  intros; unfold State.eventRecordPush; try dsimp only
  repeat' (with_reducible (first
      | assumption | apply keeps_ite | apply keeps_foldl | apply State.hwPush_keeps | simp only [keeps_mk]
      | simp only [keeps_boot] | split | refine keeps_snd ‹_ = (_, _)› ?_ | (intro; intros)))

theorem State.setInteg_keeps : ∀ (s : State) (p i : Int), Keeps u s → Keeps u (s.setInteg p i) := by
  intros; unfold State.setInteg; try dsimp only
  repeat' (with_reducible (first
      | assumption | apply keeps_ite | apply keeps_foldl | apply State.setReg_keeps | simp only [keeps_mk]
      | simp only [keeps_boot] | split | refine keeps_snd ‹_ = (_, _)› ?_ | (intro; intros)))

theorem State.syncIncr_keeps : ∀ (s : State), Keeps u s → Keeps u s.syncIncr := by
  intros; unfold State.syncIncr; try dsimp only
  repeat' (with_reducible (first
      | assumption | apply keeps_ite | apply keeps_foldl | apply State.setReg64_keeps | simp only [keeps_mk]
      | simp only [keeps_boot] | split | refine keeps_snd ‹_ = (_, _)› ?_ | (intro; intros)))

theorem State.setAdj_keeps : ∀ (s : State) (a : Int), Keeps u s → Keeps u (s.setAdj a) := by
  intros; unfold State.setAdj; try dsimp only
  repeat' (with_reducible (first
      | assumption | apply keeps_ite | apply keeps_foldl | apply State.syncIncr_keeps | apply State.setReg_keeps
      | simp only [keeps_mk] | simp only [keeps_boot] | split | refine keeps_snd ‹_ = (_, _)› ?_ | (intro; intros)))

theorem State.servoApply_keeps : ∀ (s : State), Keeps u s → Keeps u s.servoApply := by
  intros; unfold State.servoApply; try dsimp only
  repeat' (with_reducible (first
      | assumption | apply keeps_ite | apply keeps_foldl | apply State.setInteg_keeps | apply State.setAdj_keeps
      | simp only [keeps_mk] | simp only [keeps_boot] | split | refine keeps_snd ‹_ = (_, _)› ?_ | (intro; intros)))

theorem State.setNowInt_keeps : ∀ (s : State) (t : Int), Keeps u s → Keeps u (s.setNowInt t) := by
  intros; unfold State.setNowInt; try dsimp only
  repeat' (with_reducible (first
      | assumption | apply keeps_ite | apply keeps_foldl | apply State.setNow_keeps | apply State.takeFree_keeps
      | simp only [keeps_mk] | simp only [keeps_boot] | split | refine keeps_snd ‹_ = (_, _)› ?_ | (intro; intros)))

theorem State.incrNomWrite_keeps : ∀ (s : State) (lo hi : Word), Keeps u s → Keeps u (s.incrNomWrite lo hi) := by
  intros; unfold State.incrNomWrite; try dsimp only
  repeat' (with_reducible (first
      | assumption | apply keeps_ite | apply keeps_foldl | apply State.syncIncr_keeps | apply State.setRegN_keeps
      | apply State.setReg_keeps | apply State.raiseN_keeps | simp only [keeps_mk] | simp only [keeps_boot] | split
      | refine keeps_snd ‹_ = (_, _)› ?_ | (intro; intros)))

theorem State.captureTheta_keeps : ∀ (s : State), Keeps u s → Keeps u s.captureTheta.2 := by
  intro s h
  rw [State.captureTheta]
  refine keeps_ite2 ?_ (State.takeFree_keeps _ ?_) <;> exact keeps_ite (State.takeFree_keeps _ h) h

theorem State.captureEdge_keeps : ∀ (s : State) (n : Nat) (rising : Bool), Keeps u s → Keeps u (s.captureEdge n
    rising) := by
  intros; unfold State.captureEdge; try dsimp only
  repeat' (with_reducible (first
      | assumption | apply keeps_ite | apply keeps_foldl | apply State.count_keeps | apply State.raiseFolio_keeps
      | apply State.setRegN_keeps | apply State.hwPush_keeps | apply State.servoSample_keeps
      | apply State.captureTheta_keeps | simp only [keeps_mk] | simp only [keeps_boot] | split
      | refine keeps_snd ‹_ = (_, _)› ?_ | (intro; intros)))

theorem State.shiftCaps_keeps : ∀ (s : State) (d : Int), Keeps u s → Keeps u (s.shiftCaps d) := by
  intros; unfold State.shiftCaps; try dsimp only
  repeat' (with_reducible (first
      | assumption | apply keeps_ite | apply keeps_foldl | simp only [keeps_mk] | simp only [keeps_boot] | split
      | refine keeps_snd ‹_ = (_, _)› ?_ | (intro; intros)))

theorem State.stepTo_keeps : ∀ (s : State) (t : Int), Keeps u s → Keeps u (s.stepTo t) := by
  intros; unfold State.stepTo; try dsimp only
  repeat' (with_reducible (first
      | assumption | apply keeps_ite | apply keeps_foldl | apply State.setNowInt_keeps | apply State.shiftCaps_keeps
      | apply State.pulseJump_keeps | apply State.raiseN_keeps | simp only [keeps_mk] | simp only [keeps_boot]
      | split | refine keeps_snd ‹_ = (_, _)› ?_ | (intro; intros)))

theorem State.audioStop_keeps : ∀ (s : State), Keeps u s → Keeps u s.audioStop := by
  intros; unfold State.audioStop; try dsimp only
  repeat' (with_reducible (first
      | assumption | apply keeps_ite | apply keeps_foldl | apply State.setBit_keeps | simp only [keeps_mk]
      | simp only [keeps_boot] | split | refine keeps_snd ‹_ = (_, _)› ?_ | (intro; intros)))

theorem State.unsteer_keeps : ∀ (s : State) (x : Nat), Keeps u s → Keeps u (s.unsteer x) := by
  intros; unfold State.unsteer; try dsimp only
  repeat' (with_reducible (first
      | assumption | apply keeps_ite | apply keeps_foldl | apply State.setReg_keeps | simp only [keeps_mk]
      | simp only [keeps_boot] | split | refine keeps_snd ‹_ = (_, _)› ?_ | (intro; intros)))

theorem State.servoToFree_keeps : ∀ (s : State), Keeps u s → Keeps u s.servoToFree := by
  intros; unfold State.servoToFree; try dsimp only
  repeat' (with_reducible (first
      | assumption | apply keeps_ite | apply keeps_foldl | apply State.clearRuns_keeps | apply State.setInteg_keeps
      | apply State.setServo_keeps | apply State.setAdj_keeps | simp only [keeps_mk] | simp only [keeps_boot]
      | split | refine keeps_snd ‹_ = (_, _)› ?_ | (intro; intros)))

theorem State.servoCtrlWrite_keeps : ∀ (s : State) (data : Word), Keeps u s → Keeps u (s.servoCtrlWrite data) := by
  intros; unfold State.servoCtrlWrite; try dsimp only
  repeat' (with_reducible (first
      | assumption | apply keeps_ite | apply keeps_foldl | apply State.writeWord_keeps | apply State.unsteer_keeps
      | apply State.servoToFree_keeps | simp only [keeps_mk] | simp only [keeps_boot] | split
      | refine keeps_snd ‹_ = (_, _)› ?_ | (intro; intros)))

theorem State.timeStep_keeps : ∀ (s : State), Keeps u s → Keeps u s.timeStep := by
  intros; unfold State.timeStep; try dsimp only
  repeat' (with_reducible (first
      | assumption | apply keeps_ite | apply keeps_foldl | apply State.raiseN_keeps | apply State.stepTo_keeps
      | simp only [keeps_mk] | simp only [keeps_boot] | split | refine keeps_snd ‹_ = (_, _)› ?_ | (intro; intros)))

theorem State.timeSet_keeps : ∀ (s : State), Keeps u s → Keeps u s.timeSet := by
  intros; unfold State.timeSet; try dsimp only
  repeat' (with_reducible (first
      | assumption | apply keeps_ite | apply keeps_foldl | apply State.raiseN_keeps | apply State.stepTo_keeps
      | simp only [keeps_mk] | simp only [keeps_boot] | split | refine keeps_snd ‹_ = (_, _)› ?_ | (intro; intros)))

theorem State.timeEffect_keeps : ∀ (s : State) (c : TimeCmd), Keeps u s → Keeps u (s.timeEffect c) := by
  intros; unfold State.timeEffect; try dsimp only
  repeat' (with_reducible (first
      | assumption | apply keeps_ite | apply keeps_foldl | apply State.timeStep_keeps | apply State.timeSet_keeps
      | simp only [keeps_mk] | simp only [keeps_boot] | split | refine keeps_snd ‹_ = (_, _)› ?_ | (intro; intros)))

theorem State.timeEffects_keeps : ∀ (s : State), Keeps u s → Keeps u s.timeEffects := by
  intros; unfold State.timeEffects; try dsimp only
  repeat' (with_reducible (first
      | assumption | apply keeps_ite | apply keeps_foldl | apply State.timeEffect_keeps | simp only [keeps_mk]
      | simp only [keeps_boot] | split | refine keeps_snd ‹_ = (_, _)› ?_ | (intro; intros)))

theorem State.advance_keeps : ∀ (s : State), Keeps u s → Keeps u s.advance := by
  intros; unfold State.advance; try dsimp only
  repeat' (with_reducible (first
      | assumption | apply keeps_ite | apply keeps_foldl | apply State.setNow_keeps | simp only [keeps_mk]
      | simp only [keeps_boot] | split | refine keeps_snd ‹_ = (_, _)› ?_ | (intro; intros)))

theorem State.pulseOff_keeps : ∀ (s : State) (n : Nat), Keeps u s → Keeps u (s.pulseOff n) := by
  intros; unfold State.pulseOff; try dsimp only
  repeat' (with_reducible (first
      | assumption | apply keeps_ite | apply keeps_foldl | apply State.setPulse_keeps | simp only [keeps_mk]
      | simp only [keeps_boot] | split | refine keeps_snd ‹_ = (_, _)› ?_ | (intro; intros)))

theorem State.pulseCtrlWrite_keeps : ∀ (s : State) (n : Nat) (data : Word), Keeps u s → Keeps u (s.pulseCtrlWrite n
    data) := by
  intros; unfold State.pulseCtrlWrite; try dsimp only
  repeat' (with_reducible (first
      | assumption | apply keeps_ite | apply keeps_foldl | apply State.writeWord_keeps | apply State.pulseOff_keeps
      | apply State.raiseN_keeps | apply State.setFld_keeps | apply State.setPulse_keeps | simp only [keeps_mk]
      | simp only [keeps_boot] | split | refine keeps_snd ‹_ = (_, _)› ?_ | (intro; intros)))

theorem State.pulseWidthEnd_keeps : ∀ (s : State) (n : Nat), Keeps u s → Keeps u (s.pulseWidthEnd n) := by
  intros; unfold State.pulseWidthEnd; try dsimp only
  repeat' (with_reducible (first
      | assumption | apply keeps_ite | apply keeps_foldl | apply State.setPulse_keeps | simp only [keeps_mk]
      | simp only [keeps_boot] | split | refine keeps_snd ‹_ = (_, _)› ?_ | (intro; intros)))

theorem State.pulseEdge_keeps : ∀ (s : State) (n : Nat), Keeps u s → Keeps u (s.pulseEdge n) := by
  intros; unfold State.pulseEdge; try dsimp only
  repeat' (with_reducible (first
      | assumption | apply keeps_ite | apply keeps_foldl | apply State.setPulse_keeps | simp only [keeps_mk]
      | simp only [keeps_boot] | split | refine keeps_snd ‹_ = (_, _)› ?_ | (intro; intros)))

theorem State.servoHoldover_keeps : ∀ (s : State), Keeps u s → Keeps u s.servoHoldover := by
  intros; unfold State.servoHoldover; try dsimp only
  repeat' (with_reducible (first
      | assumption | apply keeps_ite | apply keeps_foldl | apply State.clearRuns_keeps | apply State.setInteg_keeps
      | apply State.setServo_keeps | apply State.raise_keeps | apply State.setAdj_keeps | simp only [keeps_mk]
      | simp only [keeps_boot] | split | refine keeps_snd ‹_ = (_, _)› ?_ | (intro; intros)))

theorem State.tick_keeps : ∀ (s : State), Keeps u s → Keeps u s.tick := by
  intros; unfold State.tick; try dsimp only
  repeat' (with_reducible (first
      | assumption | apply keeps_ite | apply keeps_foldl | apply State.timeEffects_keeps | apply State.advance_keeps
      | simp only [keeps_mk] | simp only [keeps_boot] | split | refine keeps_snd ‹_ = (_, _)› ?_ | (intro; intros)))

theorem State.audioStart_keeps : ∀ (s : State) (k : Nat), Keeps u s → Keeps u (s.audioStart k) := by
  intros; unfold State.audioStart; try dsimp only
  repeat' (with_reducible (first
      | assumption | apply keeps_ite | apply keeps_foldl | apply State.raiseN_keeps | apply State.setBit_keeps
      | simp only [keeps_mk] | simp only [keeps_boot] | split | refine keeps_snd ‹_ = (_, _)› ?_ | (intro; intros)))

theorem State.timeAwait_keeps : ∀ (s : State) (c : TimeCmd), Keeps u s → Keeps u (s.timeAwait c) := by
  intros; unfold State.timeAwait; try dsimp only
  repeat' (with_reducible (first
      | assumption | apply keeps_ite | apply keeps_foldl | simp only [keeps_mk] | simp only [keeps_boot] | split
      | refine keeps_snd ‹_ = (_, _)› ?_ | (intro; intros)))

theorem State.timeCmd_keeps : ∀ (s : State) (step set reset : Bool), Keeps u s → Keeps u (s.timeCmd step set reset) :=
    by
  intros; unfold State.timeCmd; try dsimp only
  repeat' (with_reducible (first
      | assumption | apply keeps_ite | apply keeps_foldl | apply State.servoToFree_keeps | apply State.raiseN_keeps
      | apply State.timeAwait_keeps | simp only [keeps_mk] | simp only [keeps_boot] | split
      | refine keeps_snd ‹_ = (_, _)› ?_ | (intro; intros)))

theorem State.timeCtrlWrite_keeps : ∀ (s : State) (data : Word), Keeps u s → Keeps u (s.timeCtrlWrite data) := by
  intros; unfold State.timeCtrlWrite; try dsimp only
  repeat' (with_reducible (first
      | assumption | apply keeps_ite | apply keeps_foldl | apply State.setFld_keeps | apply State.raiseN_keeps
      | simp only [keeps_mk] | simp only [keeps_boot] | split | refine keeps_snd ‹_ = (_, _)› ?_ | (intro; intros)))

theorem State.lineWrite_keeps : ∀ (s : State) (ln : Nat × Nat × Nat) (pos i : Nat) (bs : List Byte), Keeps u s →
    Keeps u (s.lineWrite ln pos i bs) := by
  intro s ln pos i bs h
  induction bs generalizing s i with
  | nil => exact h
  | cons b bs ih => exact ih _ _ (keeps_of h rfl id id (Memory.setByte_wf s.dram _ _))

theorem State.xbarErr_keeps : ∀ (s : State) (code addr : Nat) (write : Bool) (cause : Nat), Keeps u s → Keeps u
    (s.xbarErr code addr write cause) := by
  intros; unfold State.xbarErr; try dsimp only
  repeat' (with_reducible (first
      | assumption | apply keeps_ite | apply keeps_foldl | apply State.setRegN_keeps | apply State.raiseN_keeps
      | simp only [keeps_mk] | simp only [keeps_boot] | split | refine keeps_snd ‹_ = (_, _)› ?_ | (intro; intros)))

theorem State.vatUncorr_keeps : ∀ (s : State) (code addr : Nat), Keeps u s → Keeps u (s.vatUncorr code addr) := by
  intros; unfold State.vatUncorr; try dsimp only
  repeat' (with_reducible (first
      | assumption | apply keeps_ite | apply keeps_foldl | apply State.raiseN_keeps | simp only [keeps_mk]
      | simp only [keeps_boot] | split | refine keeps_snd ‹_ = (_, _)› ?_ | (intro; intros)))

theorem State.vatPut_keeps : ∀ (s : State) (code addr : Nat) (bs : List Byte), Keeps u s → Keeps u (s.vatPut code addr
    bs).2 := by
  intros; unfold State.vatPut; try dsimp only
  repeat' (with_reducible (first
      | assumption | apply keeps_ite | apply keeps_foldl | apply State.xbarErr_keeps | apply State.vatCorr_keeps
      | apply State.vatUncorr_keeps | apply State.eccClear_keeps | apply State.write_keeps | simp only [keeps_mk]
      | simp only [keeps_boot] | split | refine keeps_snd ‹_ = (_, _)› ?_ | (intro; intros)))

theorem State.vatWrite_keeps : ∀ (s : State) (code addr : Nat) (bs : List Byte), Keeps u s →
    Keeps u (s.vatWrite code addr bs).2 := fun s code addr bs h =>
  keeps_foldl2 (fun _ _ hp => State.vatPut_keeps _ _ _ _ hp) h

theorem State.updXfer_keeps : ∀ (s : State) (e tag : Nat) (f : Xfer → Xfer), Keeps u s → Keeps u (s.updXfer e tag f)
    := by
  intros; unfold State.updXfer; try dsimp only
  repeat' (with_reducible (first
      | assumption | apply keeps_ite | apply keeps_foldl | simp only [keeps_mk] | simp only [keeps_boot] | split
      | refine keeps_snd ‹_ = (_, _)› ?_ | (intro; intros)))

theorem State.vatCheck_keeps : ∀ (s : State) (code addr n : Nat), Keeps u s → Keeps u (s.vatCheck code addr n) := by
  intros; unfold State.vatCheck; try dsimp only
  repeat' (with_reducible (first
      | assumption | apply keeps_ite | apply keeps_foldl | apply State.xbarErr_keeps | apply State.vatCorr_keeps
      | apply State.vatUncorr_keeps | simp only [keeps_mk] | simp only [keeps_boot] | split
      | refine keeps_snd ‹_ = (_, _)› ?_ | (intro; intros)))

theorem State.vatRead_keeps : ∀ (s : State) (code addr n : Nat), Keeps u s → Keeps u (s.vatRead code addr n).2 := by
  intros; unfold State.vatRead; try dsimp only
  repeat' (with_reducible (first
      | assumption | apply keeps_ite | apply keeps_foldl | apply State.vatCheck_keeps | simp only [keeps_mk]
      | simp only [keeps_boot] | split | refine keeps_snd ‹_ = (_, _)› ?_ | (intro; intros)))

theorem State.answerData_keeps : ∀ (s : State) (x : Txn) (bs : List Byte), Keeps u s → Keeps u (s.answerData x bs) :=
    by
  intros; unfold State.answerData; try dsimp only
  repeat' (with_reducible (first
      | assumption | apply keeps_ite | apply keeps_foldl | apply State.updXfer_keeps | simp only [keeps_mk]
      | simp only [keeps_boot] | split | refine keeps_snd ‹_ = (_, _)› ?_ | (intro; intros)))

theorem State.vatDone_keeps : ∀ (s : State) (x : Txn), Keeps u s → Keeps u (s.vatDone x) := by
  intros; unfold State.vatDone; try dsimp only
  repeat' (with_reducible (first
      | assumption | apply keeps_ite | apply keeps_foldl | apply State.vatWrite_keeps | apply State.updXfer_keeps
      | apply State.vatRead_keeps | apply State.answerData_keeps | simp only [keeps_mk] | simp only [keeps_boot]
      | split | refine keeps_snd ‹_ = (_, _)› ?_ | (intro; intros)))

theorem State.syncInflight_keeps : ∀ (s : State), Keeps u s → Keeps u s.syncInflight := by
  intros; unfold State.syncInflight; try dsimp only
  repeat' (with_reducible (first
      | assumption | apply keeps_ite | apply keeps_foldl | apply State.setFld_keeps | simp only [keeps_mk]
      | simp only [keeps_boot] | split | refine keeps_snd ‹_ = (_, _)› ?_ | (intro; intros)))

theorem State.bwJudge_keeps : ∀ (s : State) (c : Nat), Keeps u s → Keeps u (s.bwJudge c) := by
  intros; unfold State.bwJudge; try dsimp only
  repeat' (with_reducible (first
      | assumption | apply keeps_ite | apply keeps_foldl | apply State.raiseN_keeps | apply State.setBit_keeps
      | simp only [keeps_mk] | simp only [keeps_boot] | split | refine keeps_snd ‹_ = (_, _)› ?_ | (intro; intros)))

theorem State.delivUpdate_keeps : ∀ (s : State) (c : Nat), Keeps u s → Keeps u (s.delivUpdate c) := by
  intros; unfold State.delivUpdate; try dsimp only
  repeat' (with_reducible (first
      | assumption | apply keeps_ite | apply keeps_foldl | apply State.bwJudge_keeps | apply State.raiseN_keeps
      | apply State.setRegN_keeps | simp only [keeps_mk] | simp only [keeps_boot] | split
      | refine keeps_snd ‹_ = (_, _)› ?_ | (intro; intros)))

theorem State.setDramState_keeps : ∀ (s : State) (c st : Nat), Keeps u s → Keeps u (s.setDramState c st) := by
  intros; unfold State.setDramState; try dsimp only
  repeat' (with_reducible (first
      | assumption | apply keeps_ite | apply keeps_foldl | apply State.setFld_keeps | simp only [keeps_mk]
      | simp only [keeps_boot] | split | refine keeps_snd ‹_ = (_, _)› ?_ | (intro; intros)))

theorem State.dramRetrain_keeps : ∀ (s : State) (c : Nat), Keeps u s → Keeps u (s.dramRetrain c) := by
  intros; unfold State.dramRetrain; try dsimp only
  repeat' (with_reducible (first
      | assumption | apply keeps_ite | apply keeps_foldl | apply State.delivUpdate_keeps
      | apply State.setDramState_keeps | simp only [keeps_mk] | simp only [keeps_boot] | split
      | refine keeps_snd ‹_ = (_, _)› ?_ | (intro; intros)))

theorem State.dramLeaves_keeps : ∀ (s : State) (c : Nat), Keeps u s → Keeps u (s.dramLeaves c) := by
  intros; unfold State.dramLeaves; try dsimp only
  repeat' (with_reducible (first
      | assumption | apply keeps_ite | apply keeps_foldl | apply State.dramRetrain_keeps | simp only [keeps_mk]
      | simp only [keeps_boot] | split | refine keeps_snd ‹_ = (_, _)› ?_ | (intro; intros)))

theorem State.xbarFree_keeps : ∀ (s : State) (t : Nat), Keeps u s → Keeps u (s.xbarFree t) := by
  intros; unfold State.xbarFree; try dsimp only
  repeat' (with_reducible (first
      | assumption | apply keeps_ite | apply keeps_foldl | apply State.syncInflight_keeps
      | apply State.dramLeaves_keeps | simp only [keeps_mk] | simp only [keeps_boot] | split
      | refine keeps_snd ‹_ = (_, _)› ?_ | (intro; intros)))

theorem State.answerErr_keeps : ∀ (s : State) (x : Txn) (cause : Nat), Keeps u s → Keeps u (s.answerErr x cause) := by
  intros; unfold State.answerErr; try dsimp only
  repeat' (with_reducible (first
      | assumption | apply keeps_ite | apply keeps_foldl | apply State.xbarErr_keeps | apply State.updXfer_keeps
      | simp only [keeps_mk] | simp only [keeps_boot] | split | refine keeps_snd ‹_ = (_, _)› ?_ | (intro; intros)))

theorem State.dlineErr_keeps : ∀ (s : State) (x : Txn), Keeps u s → Keeps u (s.dlineErr x) := by
  intros; unfold State.dlineErr; try dsimp only
  repeat' (with_reducible (first
      | assumption | apply keeps_ite | apply keeps_foldl | apply State.answerErr_keeps | apply State.raiseMs_keeps
      | simp only [keeps_mk] | simp only [keeps_boot] | split | refine keeps_snd ‹_ = (_, _)› ?_ | (intro; intros)))

theorem State.dramEarly_keeps : ∀ (s : State) (x : Txn), Keeps u s → Keeps u (s.dramEarly x).2 := by
  intros; unfold State.dramEarly; try dsimp only
  repeat' (with_reducible (first
      | assumption | apply keeps_ite | apply keeps_foldl | apply State.dlineErr_keeps | apply State.updXfer_keeps
      | apply State.answerData_keeps | apply State.countHold_keeps | apply State.answerErr_keeps
      | simp only [keeps_mk] | simp only [keeps_boot] | split | refine keeps_snd ‹_ = (_, _)› ?_ | (intro; intros)))

theorem State.linkError_keeps : ∀ (s : State) (c : Nat), Keeps u s → Keeps u (s.linkError c) := by
  intros; unfold State.linkError; try dsimp only
  repeat' (with_reducible (first
      | assumption | apply keeps_ite | apply keeps_foldl | apply State.dramRetrain_keeps | simp only [keeps_mk]
      | simp only [keeps_boot] | split | refine keeps_snd ‹_ = (_, _)› ?_ | (intro; intros)))

theorem State.delivBoth_keeps : ∀ (s : State), Keeps u s → Keeps u s.delivBoth := by
  intros; unfold State.delivBoth; try dsimp only
  repeat' (with_reducible (first
      | assumption | apply keeps_ite | apply keeps_foldl | apply State.delivUpdate_keeps | simp only [keeps_mk]
      | simp only [keeps_boot] | split | refine keeps_snd ‹_ = (_, _)› ?_ | (intro; intros)))

theorem State.trainFails_keeps : ∀ (s : State) (c : Nat), Keeps u s → Keeps u (s.trainFails c) := by
  intros; unfold State.trainFails; try dsimp only
  repeat' (with_reducible (first
      | assumption | apply keeps_ite | apply keeps_foldl | apply State.delivBoth_keeps | apply State.raiseN_keeps
      | apply State.setDramState_keeps | apply State.setFld_keeps | simp only [keeps_mk] | simp only [keeps_boot]
      | split | refine keeps_snd ‹_ = (_, _)› ?_ | (intro; intros)))

theorem State.dramTrainDone_keeps : ∀ (s : State) (c : Nat) (pass : Bool), Keeps u s → Keeps u (s.dramTrainDone c
    pass) := by
  intros; unfold State.dramTrainDone; try dsimp only
  repeat' (with_reducible (first
      | assumption | apply keeps_ite | apply keeps_foldl | apply State.delivUpdate_keeps
      | apply State.setDramState_keeps | apply State.trainFails_keeps | simp only [keeps_mk]
      | simp only [keeps_boot] | split | refine keeps_snd ‹_ = (_, _)› ?_ | (intro; intros)))

theorem State.setCredit_keeps : ∀ (s : State) (t m v : Nat), Keeps u s → Keeps u (s.setCredit t m v) := by
  intros; unfold State.setCredit; try dsimp only
  repeat' (with_reducible (first
      | assumption | apply keeps_ite | apply keeps_foldl | simp only [keeps_mk] | simp only [keeps_boot] | split
      | refine keeps_snd ‹_ = (_, _)› ?_ | (intro; intros)))

theorem State.bwRestore_keeps : ∀ (s : State) (c : Nat), Keeps u s → Keeps u (s.bwRestore c) := by
  intros; unfold State.bwRestore; try dsimp only
  repeat' (with_reducible (first
      | assumption | apply keeps_ite | apply keeps_foldl | apply State.raiseN_keeps | apply State.setBit_keeps
      | simp only [keeps_mk] | simp only [keeps_boot] | split | refine keeps_snd ‹_ = (_, _)› ?_ | (intro; intros)))

theorem State.setHold_keeps : ∀ (s : State) (l : Nat) (ln : Nat × Nat × Nat) (pos n : Nat), Keeps u s → Keeps u
    (s.setHold l ln pos n) := by
  intros; unfold State.setHold; try dsimp only
  repeat' (with_reducible (first
      | assumption | apply keeps_ite | apply keeps_foldl | simp only [keeps_mk] | simp only [keeps_boot] | split
      | refine keeps_snd ‹_ = (_, _)› ?_ | (intro; intros)))

theorem State.lineDone_keeps : ∀ (s : State) (x : Txn), Keeps u s → Keeps u (s.lineDone x) := by
  intros; unfold State.lineDone; try dsimp only
  repeat' (with_reducible (first
      | assumption | apply keeps_ite | apply keeps_foldl | apply State.dlineErr_keeps | apply State.lineWrite_keeps
      | apply State.setHold_keeps | apply State.answerData_keeps | simp only [keeps_mk] | simp only [keeps_boot]
      | split | refine keeps_snd ‹_ = (_, _)› ?_ | (intro; intros)))

theorem State.dramFinish_keeps : ∀ (s : State) (c : Nat), Keeps u s → Keeps u (s.dramFinish c) := by
  intros; unfold State.dramFinish; try dsimp only
  repeat' (with_reducible (first
      | assumption | apply keeps_ite | apply keeps_foldl | apply State.xbarFree_keeps | apply State.lineDone_keeps
      | simp only [keeps_mk] | simp only [keeps_boot] | split | refine keeps_snd ‹_ = (_, _)› ?_ | (intro; intros)))

theorem State.vatLook_keeps : ∀ (s : State) (code addr n : Nat), Keeps u s → Keeps u (s.vatLook code addr n) := by
  intros; unfold State.vatLook; try dsimp only
  repeat' (with_reducible (first
      | assumption | apply keeps_ite | apply keeps_foldl | apply State.vatCorr_keeps | apply State.vatUncorr_keeps
      | simp only [keeps_mk] | simp only [keeps_boot] | split | refine keeps_snd ‹_ = (_, _)› ?_ | (intro; intros)))

theorem State.vatScan_keeps : ∀ (s : State) (addr n : Nat), Keeps u s → Keeps u (s.vatScan addr n) := by
  intros; unfold State.vatScan; try dsimp only
  repeat' (with_reducible (first
      | assumption | apply keeps_ite | apply keeps_foldl | apply State.vatLook_keeps | apply State.takeFree_keeps
      | simp only [keeps_mk] | simp only [keeps_boot] | split | refine keeps_snd ‹_ = (_, _)› ?_ | (intro; intros)))

theorem State.lineLook_keeps : ∀ (s : State) (l : Nat), Keeps u s → Keeps u (s.lineLook l) := by
  intros; unfold State.lineLook; try dsimp only
  repeat' (with_reducible (first
      | assumption | apply keeps_ite | apply keeps_foldl | apply State.vatScan_keeps | simp only [keeps_mk]
      | simp only [keeps_boot] | split | refine keeps_snd ‹_ = (_, _)› ?_ | (intro; intros)))

theorem State.dramSweep_keeps : ∀ (s : State) (t : Nat), Keeps u s → Keeps u (s.dramSweep t) := by
  intros; unfold State.dramSweep; try dsimp only
  repeat' (with_reducible (first
      | assumption | apply keeps_ite | apply keeps_foldl | apply State.dramEarly_keeps | apply State.lineLook_keeps
      | simp only [keeps_mk] | simp only [keeps_boot] | split | refine keeps_snd ‹_ = (_, _)› ?_ | (intro; intros)))

theorem State.retarget_keeps : ∀ (s : State), Keeps u s → Keeps u s.retarget := by
  intros; unfold State.retarget; try dsimp only
  repeat' (with_reducible (first
      | assumption | apply keeps_ite | apply keeps_foldl | simp only [keeps_mk] | simp only [keeps_boot] | split
      | refine keeps_snd ‹_ = (_, _)› ?_ | (intro; intros)))

theorem State.xbarGrant_keeps : ∀ (s : State) (t : Nat), Keeps u s → Keeps u (s.xbarGrant t) := by
  intros; unfold State.xbarGrant; try dsimp only
  repeat' (with_reducible (first
      | assumption | apply keeps_ite | apply keeps_foldl | apply State.syncInflight_keeps
      | apply State.dramSweep_keeps | apply State.retarget_keeps | apply State.setCredit_keeps
      | apply State.lineLook_keeps | simp only [keeps_mk] | simp only [keeps_boot] | split
      | refine keeps_snd ‹_ = (_, _)› ?_ | (intro; intros)))

theorem State.xbarDone_keeps : ∀ (s : State) (t : Nat) (linkErr : Bool), Keeps u s → Keeps u (s.xbarDone t linkErr) :=
    by
  intros; unfold State.xbarDone; try dsimp only
  repeat' (with_reducible (first
      | assumption | apply keeps_ite | apply keeps_foldl | apply State.xbarFree_keeps | apply State.vatDone_keeps
      | apply State.linkError_keeps | apply State.raiseMs_keeps | apply State.answerErr_keeps
      | apply State.countHold_keeps | apply State.lineDone_keeps | simp only [keeps_mk] | simp only [keeps_boot]
      | split | refine keeps_snd ‹_ = (_, _)› ?_ | (intro; intros)))

theorem State.dramPoll_keeps : ∀ (s : State) (c mult : Nat), Keeps u s → Keeps u (s.dramPoll c mult) := by
  intros; unfold State.dramPoll; try dsimp only
  repeat' (with_reducible (first
      | assumption | apply keeps_ite | apply keeps_foldl | apply State.delivUpdate_keeps | apply State.raiseN_keeps
      | apply State.setFld_keeps | simp only [keeps_mk] | simp only [keeps_boot] | split
      | refine keeps_snd ‹_ = (_, _)› ?_ | (intro; intros)))

theorem State.holdVat_keeps : ∀ (s : State) (addr n : Nat), Keeps u s → Keeps u (s.holdVat addr n) := by
  intros; unfold State.holdVat; try dsimp only
  repeat' (with_reducible (first
      | assumption | apply keeps_ite | apply keeps_foldl | apply State.holdTags_keeps | simp only [keeps_mk]
      | simp only [keeps_boot] | split | refine keeps_snd ‹_ = (_, _)› ?_ | (intro; intros)))

theorem State.beStarve_keeps : ∀ (s : State) (t : Nat), Keeps u s → Keeps u (s.beStarve t) := by
  intros; unfold State.beStarve; try dsimp only
  repeat' (with_reducible (first
      | assumption | apply keeps_ite | apply keeps_foldl | apply State.retarget_keeps | apply State.raiseMs_keeps
      | simp only [keeps_mk] | simp only [keeps_boot] | split | refine keeps_snd ‹_ = (_, _)› ?_ | (intro; intros)))

theorem State.unitErr_keeps : ∀ (s : State) (code addr : Nat) (write : Bool), Keeps u s → Keeps u (s.unitErr code addr
    write) := by
  intros; unfold State.unitErr; try dsimp only
  repeat' (with_reducible (first
      | assumption | apply keeps_ite | apply keeps_foldl | apply State.xbarErr_keeps | apply State.holdTags_keeps
      | simp only [keeps_mk] | simp only [keeps_boot] | split | refine keeps_snd ‹_ = (_, _)› ?_ | (intro; intros)))

theorem State.unitWrite_keeps : ∀ (s : State) (code addr : Nat) (bs : List Byte), Keeps u s → Keeps u (s.unitWrite
    code addr bs).2 := by
  intros; unfold State.unitWrite; try dsimp only
  repeat' (with_reducible (first
      | assumption | apply keeps_ite | apply keeps_foldl | apply State.vatWrite_keeps | apply State.holdVat_keeps
      | apply State.unitErr_keeps | simp only [keeps_mk] | simp only [keeps_boot] | split
      | refine keeps_snd ‹_ = (_, _)› ?_ | (intro; intros)))

theorem State.dramEnWrite_keeps : ∀ (s : State) (data : Word), Keeps u s → Keeps u (s.dramEnWrite data) := by
  intro s data h
  unfold State.dramEnWrite; dsimp only
  have h1 := State.writeWord_keeps s Reg.DRAM_CTRL data h
  refine keeps_ite ?_ ?_
  · apply State.delivBoth_keeps
    apply State.setRegN_keeps
    apply State.setDramState_keeps
    apply State.setDramState_keeps
    exact keeps_of (State.dramFinish_keeps _ 1 (State.dramFinish_keeps _ 0 h1)) rfl id id (fun _ => rfl)
  · repeat' (first | exact h1 | apply keeps_ite | apply State.setDramState_keeps)

theorem State.xbarAsk_keeps : ∀ (s : State) (ts : List Txn), Keeps u s → Keeps u (s.xbarAsk ts) := by
  intros; unfold State.xbarAsk; try dsimp only
  repeat' (with_reducible (first
      | assumption | apply keeps_ite | apply keeps_foldl | apply State.syncInflight_keeps | simp only [keeps_mk]
      | simp only [keeps_boot] | split | refine keeps_snd ‹_ = (_, _)› ?_ | (intro; intros)))

theorem State.unitRead_keeps : ∀ (s : State) (code addr n : Nat), Keeps u s → Keeps u (s.unitRead code addr n).2 := by
  intros; unfold State.unitRead; try dsimp only
  repeat' (with_reducible (first
      | assumption | apply keeps_ite | apply keeps_foldl | apply State.vatRead_keeps | apply State.holdVat_keeps
      | apply State.unitErr_keeps | simp only [keeps_mk] | simp only [keeps_boot] | split
      | refine keeps_snd ‹_ = (_, _)› ?_ | (intro; intros)))

theorem State.dramRetrainAll_keeps : ∀ (s : State), Keeps u s → Keeps u s.dramRetrainAll := by
  intros; unfold State.dramRetrainAll; try dsimp only
  repeat' (with_reducible (first
      | assumption | apply keeps_ite | apply keeps_foldl | apply State.dramRetrain_keeps
      | apply State.dramFinish_keeps | simp only [keeps_mk] | simp only [keeps_boot] | split
      | refine keeps_snd ‹_ = (_, _)› ?_ | (intro; intros)))

theorem State.dramInitDone_keeps : ∀ (s : State) (g0 g1 : Nat) (x16 : Bool), Keeps u s → Keeps u (s.dramInitDone g0 g1
    x16) := by
  intros; unfold State.dramInitDone; try dsimp only
  repeat' (with_reducible (first
      | assumption | apply keeps_ite | apply keeps_foldl | apply State.delivBoth_keeps
      | apply State.setDramState_keeps | apply State.setFld_keeps | apply State.setRegN_keeps
      | apply State.raiseN_keeps | apply State.takeFree_keeps | simp only [keeps_mk] | simp only [keeps_boot]
      | split | refine keeps_snd ‹_ = (_, _)› ?_ | (intro; intros)))

theorem State.apertureLink_keeps : ∀ (s : State) (c : Nat), Keeps u s → Keeps u (s.apertureLink c).2 := by
  intros; unfold State.apertureLink; try dsimp only
  repeat' (with_reducible (first
      | assumption | apply keeps_ite | apply keeps_foldl | apply State.countHold_keeps | apply State.linkError_keeps
      | apply State.raiseMs_keeps | simp only [keeps_mk] | simp only [keeps_boot] | split
      | refine keeps_snd ‹_ = (_, _)› ?_ | (intro; intros)))

theorem State.unitPut_keeps : ∀ (s : State) (a : Nat) (bs : List Byte), Keeps u s → Keeps u (s.unitPut a bs) := by
  intros; unfold State.unitPut; try dsimp only
  repeat' (with_reducible (first
      | assumption | apply keeps_ite | apply keeps_foldl | apply State.vatCorr_keeps | apply State.vatUncorr_keeps
      | apply State.takeFree_keeps | apply State.eccClear_keeps | apply State.write_keeps | simp only [keeps_mk]
      | simp only [keeps_boot] | split | refine keeps_snd ‹_ = (_, _)› ?_ | (intro; intros)))

theorem State.noEngine_keeps : ∀ (s : State), Keeps u s → Keeps u s.noEngine := by
  intros; unfold State.noEngine; try dsimp only
  repeat' (with_reducible (first
      | assumption | apply keeps_ite | apply keeps_foldl | apply State.raiseOnce_keeps | simp only [keeps_mk]
      | simp only [keeps_boot] | split | refine keeps_snd ‹_ = (_, _)› ?_ | (intro; intros)))

theorem State.taskSub_keeps : ∀ (s : State) (p k : Nat), Keeps u s → Keeps u (s.taskSub p k) := by
  intros; unfold State.taskSub; try dsimp only
  repeat' (with_reducible (first
      | assumption | apply keeps_ite | apply keeps_foldl | apply State.raiseN_keeps | simp only [keeps_mk]
      | simp only [keeps_boot] | split | refine keeps_snd ‹_ = (_, _)› ?_ | (intro; intros)))

theorem State.seqCopyOut_keeps : ∀ (s : State) (src dst n : Nat), Keeps u s → Keeps u (s.seqCopyOut src dst n).2 := by
  intros; unfold State.seqCopyOut; try dsimp only
  repeat' (with_reducible (first
      | assumption | apply keeps_ite | apply keeps_foldl | apply State.unitRead_keeps | apply State.unitWrite_keeps
      | simp only [keeps_mk] | simp only [keeps_boot] | split | refine keeps_snd ‹_ = (_, _)› ?_ | (intro; intros)))

theorem State.updTask_keeps : ∀ (s : State) (p k : Nat) (f : Task → Task), Keeps u s → Keeps u (s.updTask p k f) := by
  intros; unfold State.updTask; try dsimp only
  repeat' (with_reducible (first
      | assumption | apply keeps_ite | apply keeps_foldl | simp only [keeps_mk] | simp only [keeps_boot] | split
      | refine keeps_snd ‹_ = (_, _)› ?_ | (intro; intros)))

theorem State.syncTasks_keeps : ∀ (s : State), Keeps u s → Keeps u s.syncTasks := by
  intros; unfold State.syncTasks; try dsimp only
  repeat' (with_reducible (first
      | assumption | apply keeps_ite | apply keeps_foldl | apply State.setBit_keeps | apply State.setFld_keeps
      | simp only [keeps_mk] | simp only [keeps_boot] | split | refine keeps_snd ‹_ = (_, _)› ?_ | (intro; intros)))

theorem State.graphErr_keeps : ∀ (s : State) (p : Nat), Keeps u s → Keeps u (s.graphErr p) := by
  intros; unfold State.graphErr; try dsimp only
  repeat' (with_reducible (first
      | assumption | apply keeps_ite | apply keeps_foldl | apply State.raiseN_keeps | simp only [keeps_mk]
      | simp only [keeps_boot] | split | refine keeps_snd ‹_ = (_, _)› ?_ | (intro; intros)))

theorem State.decTask_keeps : ∀ (s : State) (p k : Nat), Keeps u s → Keeps u (s.decTask p k) := by
  intros; unfold State.decTask; try dsimp only
  repeat' (with_reducible (first
      | assumption | apply keeps_ite | apply keeps_foldl | apply State.graphErr_keeps | apply State.updTask_keeps
      | simp only [keeps_mk] | simp only [keeps_boot] | split | refine keeps_snd ‹_ = (_, _)› ?_ | (intro; intros)))

theorem State.succCheck_keeps : ∀ (s : State) (k owner : Nat) (feed : Bool) (l : List Nat), Keeps u s → Keeps u
    (s.succCheck k owner feed l) := by
  intros; unfold State.succCheck; try dsimp only
  repeat' (with_reducible (first
      | assumption | apply keeps_ite | apply keeps_foldl | apply State.raiseOnce_keeps | simp only [keeps_mk]
      | simp only [keeps_boot] | split | refine keeps_snd ‹_ = (_, _)› ?_ | (intro; intros)))

theorem State.finTask_keeps : ∀ (s : State) (p k : Nat), Keeps u s → Keeps u (s.finTask p k) := by
  intros; unfold State.finTask; try dsimp only
  repeat' (with_reducible (first
      | assumption | apply keeps_ite | apply keeps_foldl | apply State.decTask_keeps | apply State.succCheck_keeps
      | simp only [keeps_mk] | simp only [keeps_boot] | split | refine keeps_snd ‹_ = (_, _)› ?_ | (intro; intros)))

theorem State.substitute_keeps : ∀ (s : State) (p k : Nat), Keeps u s → Keeps u (s.substitute p k) := by
  intros; unfold State.substitute; try dsimp only
  repeat' (with_reducible (first
      | assumption | apply keeps_ite | apply keeps_foldl | apply State.seqCopyOut_keeps
      | apply State.countHold_keeps | apply State.updTask_keeps | apply State.syncTasks_keeps
      | apply State.finTask_keeps | simp only [keeps_mk] | simp only [keeps_boot] | split
      | refine keeps_snd ‹_ = (_, _)› ?_ | (intro; intros)))

theorem State.failTask_keeps : ∀ (s : State) (p k : Nat) (st : TaskState), Keeps u s → Keeps u (s.failTask p k st) :=
    by
  intros; unfold State.failTask; try dsimp only
  repeat' (with_reducible (first
      | assumption | apply keeps_ite | apply keeps_foldl | apply State.noEngine_keeps | apply State.taskSub_keeps
      | apply State.substitute_keeps | simp only [keeps_mk] | simp only [keeps_boot] | split
      | refine keeps_snd ‹_ = (_, _)› ?_ | (intro; intros)))

theorem State.completeTask_keeps : ∀ (s : State) (p k : Nat) (st : TaskState) (digest : BitVec 64), Keeps u s → Keeps
    u (s.completeTask p k st digest) := by
  intros; unfold State.completeTask; try dsimp only
  repeat' (with_reducible (first
      | assumption | apply keeps_ite | apply keeps_foldl | apply State.updTask_keeps | apply State.countHold_keeps
      | apply State.noEngine_keeps | apply State.syncTasks_keeps | apply State.finTask_keeps | simp only [keeps_mk]
      | simp only [keeps_boot] | split | refine keeps_snd ‹_ = (_, _)› ?_ | (intro; intros)))

theorem State.setCore_keeps : ∀ (s : State) (e : Nat) (c : PeCore), Keeps u s → Keeps u (s.setCore e c) := by
  intros; unfold State.setCore; try dsimp only
  repeat' (with_reducible (first
      | assumption | apply keeps_ite | apply keeps_foldl | simp only [keeps_mk] | simp only [keeps_boot] | split
      | refine keeps_snd ‹_ = (_, _)› ?_ | (intro; intros)))

theorem State.setSeqState_keeps : ∀ (s : State) (n : Nat), Keeps u s → Keeps u (s.setSeqState n) := by
  intros; unfold State.setSeqState; try dsimp only
  repeat' (with_reducible (first
      | assumption | apply keeps_ite | apply keeps_foldl | apply State.setFld_keeps | simp only [keeps_mk]
      | simp only [keeps_boot] | split | refine keeps_snd ‹_ = (_, _)› ?_ | (intro; intros)))

theorem State.healthAdd_keeps : ∀ (s : State) (i : Nat), Keeps u s → Keeps u (s.healthAdd i) := by
  intros; unfold State.healthAdd; try dsimp only
  repeat' (with_reducible (first
      | assumption | apply keeps_ite | apply keeps_foldl | simp only [keeps_mk] | simp only [keeps_boot] | split
      | refine keeps_snd ‹_ = (_, _)› ?_ | (intro; intros)))

theorem State.setPeState_keeps : ∀ (s : State) (e st : Nat), Keeps u s → Keeps u (s.setPeState e st) := by
  intros; unfold State.setPeState; try dsimp only
  repeat' (with_reducible (first
      | assumption | apply keeps_ite | apply keeps_foldl | apply State.setFld_keeps | simp only [keeps_mk]
      | simp only [keeps_boot] | split | refine keeps_snd ‹_ = (_, _)› ?_ | (intro; intros)))

theorem State.peCycles_keeps : ∀ (s : State) (e n : Nat), Keeps u s → Keeps u (s.peCycles e n) := by
  intros; unfold State.peCycles; try dsimp only
  repeat' (with_reducible (first
      | assumption | apply keeps_ite | apply keeps_foldl | apply State.count64_keeps | simp only [keeps_mk]
      | simp only [keeps_boot] | split | refine keeps_snd ‹_ = (_, _)› ?_ | (intro; intros)))

theorem State.peUnstall_keeps : ∀ (s : State) (e : Nat), Keeps u s → Keeps u (s.peUnstall e) := by
  intros; unfold State.peUnstall; try dsimp only
  repeat' (with_reducible (first
      | assumption | apply keeps_ite | apply keeps_foldl | apply State.setCore_keeps | apply State.peCycles_keeps
      | apply State.takeFree_keeps | simp only [keeps_mk] | simp only [keeps_boot] | split
      | refine keeps_snd ‹_ = (_, _)› ?_ | (intro; intros)))

theorem State.peSpent_keeps : ∀ (s : State) (e : Nat), Keeps u s → Keeps u (s.peSpent e) := by
  intros; unfold State.peSpent; try dsimp only
  repeat' (with_reducible (first
      | assumption | apply keeps_ite | apply keeps_foldl | apply State.peCycles_keeps | apply State.takeFree_keeps
      | apply State.peUnstall_keeps | simp only [keeps_mk] | simp only [keeps_boot] | split
      | refine keeps_snd ‹_ = (_, _)› ?_ | (intro; intros)))

theorem State.peFaultAt_keeps : ∀ (s : State) (e pc : Nat) (f : PeFault), Keeps u s → Keeps u (s.peFaultAt e pc f) :=
    by
  intros; unfold State.peFaultAt; try dsimp only
  repeat' (with_reducible (first
      | assumption | apply keeps_ite | apply keeps_foldl | apply State.setRegN_keeps | apply State.setPeState_keeps
      | apply State.peSpent_keeps | apply State.setCore_keeps | apply State.noEngine_keeps
      | apply State.raiseN_keeps | simp only [keeps_mk] | simp only [keeps_boot] | split
      | refine keeps_snd ‹_ = (_, _)› ?_ | (intro; intros)))

theorem State.peFault_keeps : ∀ (s : State) (e : Nat) (f : PeFault), Keeps u s → Keeps u (s.peFault e f) := by
  intros; unfold State.peFault; try dsimp only
  repeat' (with_reducible (first
      | assumption | apply keeps_ite | apply keeps_foldl | apply State.peFaultAt_keeps | simp only [keeps_mk]
      | simp only [keeps_boot] | split | refine keeps_snd ‹_ = (_, _)› ?_ | (intro; intros)))

theorem State.setPc_keeps : ∀ (s : State) (e pc : Nat), Keeps u s → Keeps u (s.setPc e pc) := by
  intros; unfold State.setPc; try dsimp only
  repeat' (with_reducible (first
      | assumption | apply keeps_ite | apply keeps_foldl | apply State.setFld_keeps | simp only [keeps_mk]
      | simp only [keeps_boot] | split | refine keeps_snd ‹_ = (_, _)› ?_ | (intro; intros)))

theorem State.peComplete_keeps : ∀ (s : State) (e : Nat) (w : Writes), Keeps u s → Keeps u (s.peComplete e w) := by
  intros; unfold State.peComplete; try dsimp only
  repeat' (with_reducible (first
      | assumption | apply keeps_ite | apply keeps_foldl | apply State.takeFree_keeps | apply State.setCore_keeps
      | apply State.eccClearW_keeps | apply State.write_keeps | apply State.setReg64_keeps
      | apply State.setBit_keeps | apply State.countHold_keeps | apply State.raiseN_keeps | apply State.setFld_keeps
      | apply State.peCycles_keeps | apply State.setPc_keeps | apply State.peFault_keeps | simp only [keeps_mk]
      | simp only [keeps_boot] | split | refine keeps_snd ‹_ = (_, _)› ?_ | (intro; intros)))

theorem State.fetch_keeps : ∀ (s : State) (e : Nat), Keeps u s → Keeps u (s.fetch e) := by
  intros; unfold State.fetch; try dsimp only
  repeat' (with_reducible (first
      | assumption | apply keeps_ite | apply keeps_foldl | apply State.peCycles_keeps | apply State.raiseN_keeps
      | apply State.countHold_keeps | simp only [keeps_mk] | simp only [keeps_boot] | split
      | refine keeps_snd ‹_ = (_, _)› ?_ | (intro; intros)))

theorem State.peIssue_keeps : ∀ (s : State) (e : Nat) (f : InstrFields) (slots : Bool) (op : PeCore → PeRes), Keeps u
    s → Keeps u (s.peIssue e f slots op) := by
  intros; unfold State.peIssue; try dsimp only
  repeat' (with_reducible (first
      | assumption | apply keeps_ite | apply keeps_foldl | apply State.peFault_keeps | apply State.peCycles_keeps
      | apply State.peComplete_keeps | apply State.fetch_keeps | apply State.takeFree_keeps | simp only [keeps_mk]
      | simp only [keeps_boot] | split | refine keeps_snd ‹_ = (_, _)› ?_ | (intro; intros)))

theorem State.syncTags_keeps : ∀ (s : State) (e : Nat), Keeps u s → Keeps u (s.syncTags e) := by
  intros; unfold State.syncTags; try dsimp only
  repeat' (with_reducible (first
      | assumption | apply keeps_ite | apply keeps_foldl | apply State.setFld_keeps | simp only [keeps_mk]
      | simp only [keeps_boot] | split | refine keeps_snd ‹_ = (_, _)› ?_ | (intro; intros)))

theorem State.xferGo_keeps : ∀ (s : State) (e : Nat) (x : Xfer), Keeps u s → Keeps u (s.xferGo e x) := by
  intros; unfold State.xferGo; try dsimp only
  repeat' (with_reducible (first
      | assumption | apply keeps_ite | apply keeps_foldl | apply State.xbarAsk_keeps | apply State.syncTags_keeps
      | apply State.setCore_keeps | apply State.xbarErr_keeps | simp only [keeps_mk] | simp only [keeps_boot]
      | split | refine keeps_snd ‹_ = (_, _)› ?_ | (intro; intros)))

theorem State.peXfer_keeps : ∀ (s : State) (e : Nat) (f : InstrFields) (put inY : Bool), Keeps u s → Keeps u (s.peXfer
    e f put inY) := by
  intros; unfold State.peXfer; try dsimp only
  repeat' (with_reducible (first
      | assumption | apply keeps_ite | apply keeps_foldl | apply State.peFault_keeps | apply State.peCycles_keeps
      | apply State.fetch_keeps | apply State.takeFree_keeps | apply State.setCore_keeps
      | apply State.peUnstall_keeps | apply State.peComplete_keeps | apply State.xferGo_keeps | simp only [keeps_mk]
      | simp only [keeps_boot] | split | refine keeps_snd ‹_ = (_, _)› ?_ | (intro; intros)))

theorem State.peOnlyFault_keeps : ∀ (s : State) (e : Nat) (x : PeFault), Keeps u s → Keeps u (s.peOnlyFault e x) := by
  intros; unfold State.peOnlyFault; try dsimp only
  repeat' (with_reducible (first
      | assumption | apply keeps_ite | apply keeps_foldl | apply State.peFault_keeps | apply State.peCycles_keeps
      | apply State.fetch_keeps | simp only [keeps_mk] | simp only [keeps_boot] | split
      | refine keeps_snd ‹_ = (_, _)› ?_ | (intro; intros)))

theorem State.peWait_keeps : ∀ (s : State) (e : Nat) (f : InstrFields), Keeps u s → Keeps u (s.peWait e f) := by
  intros; unfold State.peWait; try dsimp only
  repeat' (with_reducible (first
      | assumption | apply keeps_ite | apply keeps_foldl | apply State.peFault_keeps | apply State.peCycles_keeps
      | apply State.setCore_keeps | apply State.fetch_keeps | apply State.peComplete_keeps
      | apply State.peUnstall_keeps | simp only [keeps_mk] | simp only [keeps_boot] | split
      | refine keeps_snd ‹_ = (_, _)› ?_ | (intro; intros)))

theorem State.peEnd_keeps : ∀ (s : State) (e : Nat), Keeps u s → Keeps u (s.peEnd e) := by
  intros; unfold State.peEnd; try dsimp only
  repeat' (with_reducible (first
      | assumption | apply keeps_ite | apply keeps_foldl | apply State.peCycles_keeps | apply State.peFault_keeps
      | apply State.setCore_keeps | apply State.fetch_keeps | simp only [keeps_mk] | simp only [keeps_boot] | split
      | refine keeps_snd ‹_ = (_, _)› ?_ | (intro; intros)))

theorem State.peFree_keeps : ∀ (s : State) (e : Nat), Keeps u s → Keeps u (s.peFree e) := by
  intros; unfold State.peFree; try dsimp only
  repeat' (with_reducible (first
      | assumption | apply keeps_ite | apply keeps_foldl | apply State.setCore_keeps | simp only [keeps_mk]
      | simp only [keeps_boot] | split | refine keeps_snd ‹_ = (_, _)› ?_ | (intro; intros)))

theorem State.peRest_keeps : ∀ (s : State) (e : Nat), Keeps u s → Keeps u (s.peRest e) := by
  intros; unfold State.peRest; try dsimp only
  repeat' (with_reducible (first
      | assumption | apply keeps_ite | apply keeps_foldl | apply State.setPeState_keeps | simp only [keeps_mk]
      | simp only [keeps_boot] | split | refine keeps_snd ‹_ = (_, _)› ?_ | (intro; intros)))

theorem State.peRelease_keeps : ∀ (s : State) (e : Nat), Keeps u s → Keeps u (s.peRelease e) := by
  intros; unfold State.peRelease; try dsimp only
  repeat' (with_reducible (first
      | assumption | apply keeps_ite | apply keeps_foldl | apply State.peFree_keeps | apply State.peRest_keeps
      | apply State.setBit_keeps | apply State.noEngine_keeps | apply State.failTask_keeps | simp only [keeps_mk]
      | simp only [keeps_boot] | split | refine keeps_snd ‹_ = (_, _)› ?_ | (intro; intros)))

theorem State.peClear_keeps : ∀ (s : State) (e : Nat), Keeps u s → Keeps u (s.peClear e) := by
  intros; unfold State.peClear; try dsimp only
  repeat' (with_reducible (first
      | assumption | apply keeps_ite | apply keeps_foldl | apply State.peRelease_keeps | apply State.setBit_keeps
      | simp only [keeps_mk] | simp only [keeps_boot] | split | refine keeps_snd ‹_ = (_, _)› ?_ | (intro; intros)))

theorem State.writeBe_keeps : ∀ (s : State) (a : Nat) (be : BitVec 4) (data : Word), Keeps u s →
    Keeps u (s.writeBe a be data) := fun s a be data h => keeps_of h rfl id (Memory.writeMasked_wf s.mem a _) id

theorem State.peMemWrite_keeps : ∀ (s : State) (m : RegMaster) (a : Nat) (be : BitVec 4) (data : Word), Keeps u s →
    Keeps u (s.peMemWrite m a be data) := by
  intros; unfold State.peMemWrite; try dsimp only
  repeat' (with_reducible (first
      | assumption | apply keeps_ite | apply keeps_foldl | apply State.eccClearW_keeps | apply State.writeBe_keeps
      | apply State.hostErr_keeps | simp only [keeps_mk] | simp only [keeps_boot] | split
      | refine keeps_snd ‹_ = (_, _)› ?_ | (intro; intros)))

theorem State.peAbort_keeps : ∀ (s : State) (e : Nat), Keeps u s → Keeps u (s.peAbort e) := by
  intros; unfold State.peAbort; try dsimp only
  repeat' (with_reducible (first
      | assumption | apply keeps_ite | apply keeps_foldl | apply State.setPeState_keeps
      | apply State.peUnstall_keeps | simp only [keeps_mk] | simp only [keeps_boot] | split
      | refine keeps_snd ‹_ = (_, _)› ?_ | (intro; intros)))

theorem State.xferAfter_keeps : ∀ (s : State) (e : Nat) (x : Xfer) (bad : Bool), Keeps u s → Keeps u (s.xferAfter e x
    bad) := by
  intros; unfold State.xferAfter; try dsimp only
  repeat' (with_reducible (first
      | assumption | apply keeps_ite | apply keeps_foldl | apply State.peFaultAt_keeps | apply State.peRelease_keeps
      | apply State.noEngine_keeps | apply State.peRest_keeps | apply State.setCore_keeps | simp only [keeps_mk]
      | simp only [keeps_boot] | split | refine keeps_snd ‹_ = (_, _)› ?_ | (intro; intros)))

theorem State.peDone_keeps : ∀ (s : State) (e : Nat), Keeps u s → Keeps u (s.peDone e) := by
  intros; unfold State.peDone; try dsimp only
  repeat' (with_reducible (first
      | assumption | apply keeps_ite | apply keeps_foldl | apply State.setReg64_keeps | apply State.peUnstall_keeps
      | apply State.peFree_keeps | apply State.peRest_keeps | apply State.setRegN_keeps | apply State.noEngine_keeps
      | apply State.completeTask_keeps | simp only [keeps_mk] | simp only [keeps_boot] | split
      | refine keeps_snd ‹_ = (_, _)› ?_ | (intro; intros)))

theorem State.peDrainDone_keeps : ∀ (s : State) (e : Nat), Keeps u s → Keeps u (s.peDrainDone e) := by
  intros; unfold State.peDrainDone; try dsimp only
  repeat' (with_reducible (first
      | assumption | apply keeps_ite | apply keeps_foldl | apply State.peFree_keeps | apply State.peRest_keeps
      | apply State.peCycles_keeps | apply State.takeFree_keeps | apply State.noEngine_keeps
      | apply State.failTask_keeps | simp only [keeps_mk] | simp only [keeps_boot] | split
      | refine keeps_snd ‹_ = (_, _)› ?_ | (intro; intros)))

theorem State.peFaultRelease_keeps : ∀ (s : State) (e : Nat), Keeps u s → Keeps u (s.peFaultRelease e) := by
  intros; unfold State.peFaultRelease; try dsimp only
  repeat' (with_reducible (first
      | assumption | apply keeps_ite | apply keeps_foldl | apply State.peRelease_keeps | simp only [keeps_mk]
      | simp only [keeps_boot] | split | refine keeps_snd ‹_ = (_, _)› ?_ | (intro; intros)))

theorem State.xferData_keeps : ∀ (s : State) (e : Nat) (x : Xfer) (bad : Bool), Keeps u s → Keeps u (s.xferData e x
    bad) := by
  intros; unfold State.xferData; try dsimp only
  repeat' (with_reducible (first
      | assumption | apply keeps_ite | apply keeps_foldl | apply State.eccClearW_keeps | apply State.write_keeps
      | simp only [keeps_mk] | simp only [keeps_boot] | split | refine keeps_snd ‹_ = (_, _)› ?_ | (intro; intros)))

theorem State.xferRetire_keeps : ∀ (s : State) (e tag : Nat) (err : Bool), Keeps u s → Keeps u (s.xferRetire e tag
    err) := by
  intros; unfold State.xferRetire; try dsimp only
  repeat' (with_reducible (first
      | assumption | apply keeps_ite | apply keeps_foldl | apply State.setCore_keeps | apply State.xferData_keeps
      | apply State.syncTags_keeps | apply State.setBit_keeps | apply State.xferAfter_keeps | simp only [keeps_mk]
      | simp only [keeps_boot] | split | refine keeps_snd ‹_ = (_, _)› ?_ | (intro; intros)))

theorem State.peEnable_keeps : ∀ (s : State) (e : Nat) (data : Word), Keeps u s → Keeps u (s.peEnable e data) := by
  intros; unfold State.peEnable; try dsimp only
  repeat' (with_reducible (first
      | assumption | apply keeps_ite | apply keeps_foldl | apply State.writeRw_keeps | apply State.noEngine_keeps
      | apply State.setCore_keeps | apply State.peRest_keeps | simp only [keeps_mk] | simp only [keeps_boot] | split
      | refine keeps_snd ‹_ = (_, _)› ?_ | (intro; intros)))

theorem State.feedSignal_keeps : ∀ (s : State) (f k : Nat), Keeps u s → Keeps u (s.feedSignal f k) := by
  intros; unfold State.feedSignal; try dsimp only
  repeat' (with_reducible (first
      | assumption | apply keeps_ite | apply keeps_foldl | apply State.raiseN_keeps | apply State.noEngine_keeps
      | apply State.syncTasks_keeps | apply State.decTask_keeps | apply State.succCheck_keeps | simp only [keeps_mk]
      | simp only [keeps_boot] | split | refine keeps_snd ‹_ = (_, _)› ?_ | (intro; intros)))

theorem State.lateApply_keeps : ∀ (s : State) (j : Nat) (gen : Word), Keeps u s → Keeps u (s.lateApply j gen) := by
  intros; unfold State.lateApply; try dsimp only
  repeat' (with_reducible (first
      | assumption | apply keeps_ite | apply keeps_foldl | apply State.raiseN_keeps | apply State.countHold_keeps
      | simp only [keeps_mk] | simp only [keeps_boot] | split | refine keeps_snd ‹_ = (_, _)› ?_ | (intro; intros)))

theorem State.engineStart_keeps : ∀ (s : State) (e : Nat) (t : Task) (slot : Nat), Keeps u s → Keeps u (s.engineStart
    e t slot) := by
  intros; unfold State.engineStart; try dsimp only
  repeat' (with_reducible (first
      | assumption | apply keeps_ite | apply keeps_foldl | apply State.setReg64_keeps | apply State.setCore_keeps
      | apply State.setFld_keeps | apply State.setPc_keeps | apply State.peCycles_keeps
      | apply State.setPeState_keeps | apply State.eccClearW_keeps | apply State.writeWords_keeps
      | simp only [keeps_mk] | simp only [keeps_boot] | split | refine keeps_snd ‹_ = (_, _)› ?_ | (intro; intros)))

theorem State.updInfo_keeps : ∀ (s : State) (k : Nat) (f : FolioInfo → FolioInfo), Keeps u s → Keeps u (s.updInfo k f)
    := by
  intros; unfold State.updInfo; try dsimp only
  repeat' (with_reducible (first
      | assumption | apply keeps_ite | apply keeps_foldl | simp only [keeps_mk] | simp only [keeps_boot] | split
      | refine keeps_snd ‹_ = (_, _)› ?_ | (intro; intros)))

theorem State.giveUp_keeps : ∀ (s : State) (t : Task) (counts : Bool), Keeps u s → Keeps u (s.giveUp t counts) := by
  intros; unfold State.giveUp; try dsimp only
  repeat' (with_reducible (first
      | assumption | apply keeps_ite | apply keeps_foldl | apply State.peAbort_keeps | apply State.countHold_keeps
      | simp only [keeps_mk] | simp only [keeps_boot] | split | refine keeps_snd ‹_ = (_, _)› ?_ | (intro; intros)))

theorem State.replaceTask_keeps : ∀ (s : State) (t : Task) (counts : Bool), Keeps u s → Keeps u (s.replaceTask t
    counts) := by
  intros; unfold State.replaceTask; try dsimp only
  repeat' (with_reducible (first
      | assumption | apply keeps_ite | apply keeps_foldl | apply State.substitute_keeps | apply State.giveUp_keeps
      | simp only [keeps_mk] | simp only [keeps_boot] | split | refine keeps_snd ‹_ = (_, _)› ?_ | (intro; intros)))

theorem State.closeFolio_keeps : ∀ (s : State) (k : Nat), Keeps u s → Keeps u (s.closeFolio k) := by
  intros; unfold State.closeFolio; try dsimp only
  repeat' (with_reducible (first
      | assumption | apply keeps_ite | apply keeps_foldl | apply State.updInfo_keeps | apply State.replaceTask_keeps
      | apply State.noEngine_keeps | apply State.raiseN_keeps | apply State.healthAdd_keeps
      | apply State.countHold_keeps | simp only [keeps_mk] | simp only [keeps_boot] | split
      | refine keeps_snd ‹_ = (_, _)› ?_ | (intro; intros)))

theorem State.pruneGens_keeps : ∀ (s : State) (k : Nat), Keeps u s → Keeps u (s.pruneGens k) := by
  intros; unfold State.pruneGens; try dsimp only
  repeat' (with_reducible (first
      | assumption | apply keeps_ite | apply keeps_foldl | simp only [keeps_mk] | simp only [keeps_boot] | split
      | refine keeps_snd ‹_ = (_, _)› ?_ | (intro; intros)))

theorem State.foldFlips_keeps : ∀ (s : State) (k : Nat), Keeps u s → Keeps u (s.foldFlips k) := by
  intros; unfold State.foldFlips; try dsimp only
  repeat' (with_reducible (first
      | assumption | apply keeps_ite | apply keeps_foldl | simp only [keeps_mk] | simp only [keeps_boot] | split
      | refine keeps_snd ‹_ = (_, _)› ?_ | (intro; intros)))

theorem State.dropFolio_keeps : ∀ (s : State) (k : Nat), Keeps u s → Keeps u (s.dropFolio k) := by
  intros; unfold State.dropFolio; try dsimp only
  repeat' (with_reducible (first
      | assumption | apply keeps_ite | apply keeps_foldl | apply State.pruneGens_keeps | apply State.foldFlips_keeps
      | apply State.syncTasks_keeps | simp only [keeps_mk] | simp only [keeps_boot] | split
      | refine keeps_snd ‹_ = (_, _)› ?_ | (intro; intros)))

theorem State.nextSlots_keeps : ∀ (s : State) (k : Nat), Keeps u s → Keeps u (s.nextSlots k) := by
  intros; unfold State.nextSlots; try dsimp only
  repeat' (with_reducible (first
      | assumption | apply keeps_ite | apply keeps_foldl | simp only [keeps_mk] | simp only [keeps_boot] | split
      | refine keeps_snd ‹_ = (_, _)› ?_ | (intro; intros)))

theorem State.handDigests_keeps : ∀ (s : State) (k : Nat), Keeps u s → Keeps u (s.handDigests k) := by
  intros; unfold State.handDigests; try dsimp only
  repeat' (with_reducible (first
      | assumption | apply keeps_ite | apply keeps_foldl | simp only [keeps_mk] | simp only [keeps_boot] | split
      | refine keeps_snd ‹_ = (_, _)› ?_ | (intro; intros)))

theorem State.cutCopies_keeps : ∀ (s : State) (k : Nat), Keeps u s → Keeps u (s.cutCopies k) := by
  intros; unfold State.cutCopies; try dsimp only
  repeat' (with_reducible (first
      | assumption | apply keeps_ite | apply keeps_foldl | apply State.write_keeps | apply State.raise_keeps
      | simp only [keeps_mk] | simp only [keeps_boot] | split | refine keeps_snd ‹_ = (_, _)› ?_ | (intro; intros)))

theorem State.slack_keeps : ∀ (s : State) (k : Nat), Keeps u s → Keeps u (s.slack k) := by
  intros; unfold State.slack; try dsimp only
  repeat' (with_reducible (first
      | assumption | apply keeps_ite | apply keeps_foldl | apply State.setReg_keeps | apply State.raise_keeps
      | simp only [keeps_mk] | simp only [keeps_boot] | split | refine keeps_snd ‹_ = (_, _)› ?_ | (intro; intros)))

theorem State.seqRelease_keeps : ∀ (s : State) (k : Nat), Keeps u s → Keeps u (s.seqRelease k) := by
  intros; unfold State.seqRelease; try dsimp only
  repeat' (with_reducible (first
      | assumption | apply keeps_ite | apply keeps_foldl | apply State.closeFolio_keeps
      | apply State.dropFolio_keeps | apply State.nextSlots_keeps | apply State.handDigests_keeps
      | apply State.cutCopies_keeps | apply State.slack_keeps | simp only [keeps_mk] | simp only [keeps_boot]
      | split | refine keeps_snd ‹_ = (_, _)› ?_ | (intro; intros)))

theorem State.foldAllFlips_keeps : ∀ (s : State), Keeps u s → Keeps u s.foldAllFlips := by
  intros; unfold State.foldAllFlips; try dsimp only
  repeat' (with_reducible (first
      | assumption | apply keeps_ite | apply keeps_foldl | simp only [keeps_mk] | simp only [keeps_boot] | split
      | refine keeps_snd ‹_ = (_, _)› ?_ | (intro; intros)))

theorem State.tableReads_keeps : ∀ (s : State), Keeps u s → Keeps u s.tableReads := by
  intros; unfold State.tableReads; try dsimp only
  repeat' (with_reducible (first
      | assumption | apply keeps_ite | apply keeps_foldl | apply State.unitRead_keeps | simp only [keeps_mk]
      | simp only [keeps_boot] | split | refine keeps_snd ‹_ = (_, _)› ?_ | (intro; intros)))

theorem State.startCount_keeps : ∀ (s : State) (p k : Nat), Keeps u s → Keeps u (s.startCount p k) := by
  intros; unfold State.startCount; try dsimp only
  repeat' (with_reducible (first
      | assumption | apply keeps_ite | apply keeps_foldl | apply State.graphErr_keeps | apply State.updTask_keeps
      | simp only [keeps_mk] | simp only [keeps_boot] | split | refine keeps_snd ‹_ = (_, _)› ?_ | (intro; intros)))

theorem State.createFolio_keeps : ∀ (s : State) (k : Nat), Keeps u s → Keeps u (s.createFolio k) := by
  intros; unfold State.createFolio; try dsimp only
  repeat' (with_reducible (first
      | assumption | apply keeps_ite | apply keeps_foldl | apply State.tableReads_keeps | apply State.raiseN_keeps
      | apply State.succCheck_keeps | apply State.noEngine_keeps | apply State.syncTasks_keeps
      | apply State.startCount_keeps | simp only [keeps_mk] | simp only [keeps_boot] | split
      | refine keeps_snd ‹_ = (_, _)› ?_ | (intro; intros)))

theorem State.createFolios_keeps : ∀ (s : State) (n : Nat), Keeps u s → Keeps u (s.createFolios n) := by
  intro s n h
  induction n generalizing s with
  | zero => exact h
  | succ n ih => exact ih _ (State.createFolio_keeps _ _ h)

theorem State.seqBegin_keeps : ∀ (s : State) (k0 : Nat), Keeps u s → Keeps u (s.seqBegin k0) := by
  intros; unfold State.seqBegin; try dsimp only
  repeat' (with_reducible (first
      | assumption | apply keeps_ite | apply keeps_foldl | apply State.foldAllFlips_keeps
      | apply State.setSeqState_keeps | apply State.createFolios_keeps | simp only [keeps_mk]
      | simp only [keeps_boot] | split | refine keeps_snd ‹_ = (_, _)› ?_ | (intro; intros)))

theorem State.seqCancel_keeps : ∀ (s : State) (p slot : Nat), Keeps u s → Keeps u (s.seqCancel p slot) := by
  intros; unfold State.seqCancel; try dsimp only
  repeat' (with_reducible (first
      | assumption | apply keeps_ite | apply keeps_foldl | apply State.noEngine_keeps | apply State.taskSub_keeps
      | apply State.replaceTask_keeps | simp only [keeps_mk] | simp only [keeps_boot] | split
      | refine keeps_snd ‹_ = (_, _)› ?_ | (intro; intros)))

theorem State.seqStop_keeps : ∀ (s : State), Keeps u s → Keeps u s.seqStop := by
  intros; unfold State.seqStop; try dsimp only
  repeat' (with_reducible (first
      | assumption | apply keeps_ite | apply keeps_foldl | apply State.foldAllFlips_keeps
      | apply State.setSeqState_keeps | simp only [keeps_mk] | simp only [keeps_boot] | split
      | refine keeps_snd ‹_ = (_, _)› ?_ | (intro; intros)))

theorem State.seqEnable_keeps : ∀ (s : State) (data : Word), Keeps u s → Keeps u (s.seqEnable data) := by
  intros; unfold State.seqEnable; try dsimp only
  repeat' (with_reducible (first
      | assumption | apply keeps_ite | apply keeps_foldl | apply State.writeRw_keeps | apply State.setSeqState_keeps
      | apply State.seqStop_keeps | simp only [keeps_mk] | simp only [keeps_boot] | split
      | refine keeps_snd ‹_ = (_, _)› ?_ | (intro; intros)))

theorem State.dispatchCycle_keeps : ∀ (s : State) (same : Bool), Keeps u s → Keeps u (s.dispatchCycle same) := by
  intros; unfold State.dispatchCycle; try dsimp only
  repeat' (with_reducible (first
      | assumption | apply keeps_ite | apply keeps_foldl | simp only [keeps_mk] | simp only [keeps_boot] | split
      | refine keeps_snd ‹_ = (_, _)› ?_ | (intro; intros)))

theorem State.addGen_keeps : ∀ (s : State) (flip : Nat) (gen : Word), Keeps u s → Keeps u (s.addGen flip gen) := by
  intros; unfold State.addGen; try dsimp only
  repeat' (with_reducible (first
      | assumption | apply keeps_ite | apply keeps_foldl | simp only [keeps_mk] | simp only [keeps_boot] | split
      | refine keeps_snd ‹_ = (_, _)› ?_ | (intro; intros)))

theorem State.deadline_keeps : ∀ (s : State) (k : Nat), Keeps u s → Keeps u (s.deadline k) := by
  intros; unfold State.deadline; try dsimp only
  repeat' (with_reducible (first
      | assumption | apply keeps_ite | apply keeps_foldl | apply State.closeFolio_keeps | simp only [keeps_mk]
      | simp only [keeps_boot] | split | refine keeps_snd ‹_ = (_, _)› ?_ | (intro; intros)))

theorem State.tableEcc_keeps : ∀ (s : State) (tag : Nat), Keeps u s → Keeps u (s.tableEcc tag) := by
  intros; unfold State.tableEcc; try dsimp only
  repeat' (with_reducible (first
      | assumption | apply keeps_ite | apply keeps_foldl | apply State.raiseN_keeps | apply State.noEngine_keeps
      | apply State.replaceTask_keeps | simp only [keeps_mk] | simp only [keeps_boot] | split
      | refine keeps_snd ‹_ = (_, _)› ?_ | (intro; intros)))

theorem State.addFlips_keeps : ∀ (s : State) (ps : List Nat) (flip : Nat), Keeps u s → Keeps u (s.addFlips ps flip) :=
    by
  intros; unfold State.addFlips; try dsimp only
  repeat' (with_reducible (first
      | assumption | apply keeps_ite | apply keeps_foldl | simp only [keeps_mk] | simp only [keeps_boot] | split
      | refine keeps_snd ‹_ = (_, _)› ?_ | (intro; intros)))

theorem State.discardTasks_keeps : ∀ (s : State), Keeps u s → Keeps u s.discardTasks := by
  intros; unfold State.discardTasks; try dsimp only
  repeat' (with_reducible (first
      | assumption | apply keeps_ite | apply keeps_foldl | apply State.giveUp_keeps | apply State.syncTasks_keeps
      | simp only [keeps_mk] | simp only [keeps_boot] | split | refine keeps_snd ‹_ = (_, _)› ?_ | (intro; intros)))

theorem State.restart_keeps : ∀ (s : State) (c : Nat), Keeps u s → Keeps u (s.restart c) := by
  intros; unfold State.restart; try dsimp only
  repeat' (with_reducible (first
      | assumption | apply keeps_ite | apply keeps_foldl | apply State.foldAllFlips_keeps | apply State.raiseN_keeps
      | apply State.discardTasks_keeps | apply State.createFolios_keeps | simp only [keeps_mk]
      | simp only [keeps_boot] | split | refine keeps_snd ‹_ = (_, _)› ?_ | (intro; intros)))

theorem State.flipFrom_keeps : ∀ (s : State) (ps : List Nat) (gen : Word) (est n j : Nat), Keeps u s →
    Keeps u (s.flipFrom ps gen est n j).2 := by
  intro s ps gen est n j h
  induction n generalizing s j with
  | zero => exact h
  | succ n ih => unfold State.flipFrom; split; exacts [h, ih _ _ (State.lateApply_keeps _ _ _ h)]

theorem State.squash_keeps : ∀ (s : State) (ps : List Nat) (flip : Nat) (couch : Bool), Keeps u s → Keeps u (s.squash
    ps flip couch) := by
  intros; unfold State.squash; try dsimp only
  repeat' (with_reducible (first
      | assumption | apply keeps_ite | apply keeps_foldl | apply State.giveUp_keeps | apply State.startCount_keeps
      | apply State.noEngine_keeps | apply State.raiseN_keeps | apply State.countHold_keeps
      | apply State.syncTasks_keeps | simp only [keeps_mk] | simp only [keeps_boot] | split
      | refine keeps_snd ‹_ = (_, _)› ?_ | (intro; intros)))

theorem State.seqCommit_keeps : ∀ (s : State) (t c g : Nat) (ps : List Nat) (gen : Word) (crit : Nat) (restart :
    Bool), Keeps u s → Keeps u (s.seqCommit t c g ps gen crit restart).2 := by
  intros; unfold State.seqCommit; try dsimp only
  repeat' (with_reducible (first
      | assumption | apply keeps_ite | apply keeps_foldl | apply State.addGen_keeps | apply State.foldAllFlips_keeps
      | apply State.addFlips_keeps | apply State.restart_keeps | apply State.setSeqState_keeps
      | apply State.discardTasks_keeps | apply State.flipFrom_keeps | apply State.squash_keeps
      | simp only [keeps_mk] | simp only [keeps_boot] | split | refine keeps_snd ‹_ = (_, _)› ?_ | (intro; intros)))

theorem State.seqStart_keeps : ∀ (s : State) (k : Nat), Keeps u s → Keeps u (s.seqStart k) := by
  intros; unfold State.seqStart; try dsimp only
  repeat' (with_reducible (first
      | assumption | apply keeps_ite | apply keeps_foldl | apply State.seqBegin_keeps | simp only [keeps_mk]
      | simp only [keeps_boot] | split | refine keeps_snd ‹_ = (_, _)› ?_ | (intro; intros)))

theorem State.dispatch_keeps : ∀ (s : State), Keeps u s → Keeps u s.dispatch := by
  intros; unfold State.dispatch; try dsimp only
  repeat' (with_reducible (first
      | assumption | apply keeps_ite | apply keeps_foldl | apply State.noEngine_keeps | apply State.count64_keeps
      | apply State.updTask_keeps | apply State.engineStart_keeps | simp only [keeps_mk] | simp only [keeps_boot]
      | split | refine keeps_snd ‹_ = (_, _)› ?_ | (intro; intros)))

theorem State.seqGoOn_keeps : ∀ (s : State) (k : Nat), Keeps u s → Keeps u (s.seqGoOn k) := by
  intros; unfold State.seqGoOn; try dsimp only
  repeat' (with_reducible (first
      | assumption | apply keeps_ite | apply keeps_foldl | apply State.createFolios_keeps
      | apply State.foldAllFlips_keeps | apply State.setSeqState_keeps | simp only [keeps_mk]
      | simp only [keeps_boot] | split | refine keeps_snd ‹_ = (_, _)› ?_ | (intro; intros)))

theorem State.mixRead_keeps : ∀ (s : State) (addr n : Nat), Keeps u s → Keeps u (s.mixRead addr n).2 := by
  intros; unfold State.mixRead; try dsimp only
  repeat' (with_reducible (first
      | assumption | apply keeps_ite | apply keeps_foldl | apply State.unitRead_keeps | simp only [keeps_mk]
      | simp only [keeps_boot] | split | refine keeps_snd ‹_ = (_, _)› ?_ | (intro; intros)))

theorem State.mixSource_keeps : ∀ (s : State) (x : Xp) (k : Nat), Keeps u s → Keeps u (s.mixSource x k).2 := by
  intros; unfold State.mixSource; try dsimp only
  repeat' (with_reducible (first
      | assumption | apply keeps_ite | apply keeps_foldl | apply State.unitRead_keeps | simp only [keeps_mk]
      | simp only [keeps_boot] | split | refine keeps_snd ‹_ = (_, _)› ?_ | (intro; intros)))

theorem State.mixXp_keeps : ∀ (s : State) (j : MixJob) (x : Xp) (i idlePos : Nat) (m : MixRun), Keeps u s → Keeps u
    (s.mixXp j x i idlePos m).2 := by
  intros; unfold State.mixXp; try dsimp only
  repeat' (with_reducible (first
      | assumption | apply keeps_ite | apply keeps_foldl | apply State.mixSource_keeps | simp only [keeps_mk]
      | simp only [keeps_boot] | split | refine keeps_snd ‹_ = (_, _)› ?_ | (intro; intros)))

theorem State.mixXps_keeps : ∀ (s : State) (j : MixJob) (recs : List Byte) (first idlePos : Nat) (l : List Nat) (m : MixRun),
    Keeps u s → Keeps u (s.mixXps j recs first idlePos l m).2 := by
  intro s j recs first idlePos l m h
  induction l generalizing s m with
  | nil => exact h
  | cons i l ih =>
    unfold State.mixXps; dsimp only
    exact keeps_ite2 (State.mixXp_keeps _ _ _ _ _ _ h) (ih _ _ (State.mixXp_keeps _ _ _ _ _ _ h))

theorem State.mixRow_keeps : ∀ (s : State) (j : MixJob) (r : MixRow), Keeps u s → Keeps u (s.mixRow j r).2 := by
  intros; unfold State.mixRow; try dsimp only
  repeat' (with_reducible (first
      | assumption | apply keeps_ite | apply keeps_foldl | apply State.unitWrite_keeps | apply State.raiseOnce_keeps
      | apply State.countHold_keeps | simp only [keeps_mk] | simp only [keeps_boot] | split
      | refine keeps_snd ‹_ = (_, _)› ?_ | (intro; intros)))

theorem State.mixBus_keeps : ∀ (s : State) (j : MixJob) (xo idlePos i : Nat) (m : MixRun), Keeps u s → Keeps u
    (s.mixBus j xo idlePos i m).2 := by
  intros; unfold State.mixBus; try dsimp only
  repeat' (with_reducible (first
      | assumption | apply keeps_ite | apply keeps_foldl | apply State.mixRead_keeps | apply State.mixXps_keeps
      | apply State.mixRow_keeps | simp only [keeps_mk] | simp only [keeps_boot] | split
      | refine keeps_snd ‹_ = (_, _)› ?_ | (intro; intros)))

theorem State.mixBuses_keeps : ∀ (s : State) (j : MixJob) (xo idlePos : Nat) (l : List Nat) (m : MixRun), Keeps u s →
    Keeps u (s.mixBuses j xo idlePos l m).2 := by
  intro s j xo idlePos l m h
  induction l generalizing s m with
  | nil => exact h
  | cons i l ih =>
    unfold State.mixBuses; dsimp only
    exact keeps_ite2 (State.mixBus_keeps _ _ _ _ _ _ h) (ih _ _ (State.mixBus_keeps _ _ _ _ _ _ h))

theorem State.mixRun_keeps : ∀ (s : State) (j : MixJob) (limit : Nat), Keeps u s → Keeps u (s.mixRun j limit).2 := by
  intros; unfold State.mixRun; try dsimp only
  repeat' (with_reducible (first
      | assumption | apply keeps_ite | apply keeps_foldl | apply State.mixRead_keeps | apply State.takeFree_keeps
      | apply State.mixBuses_keeps | simp only [keeps_mk] | simp only [keeps_boot] | split
      | refine keeps_snd ‹_ = (_, _)› ?_ | (intro; intros)))

theorem State.mixIdle_keeps : ∀ (s : State), Keeps u s → Keeps u s.mixIdle := by
  intros; unfold State.mixIdle; try dsimp only
  repeat' (with_reducible (first
      | assumption | apply keeps_ite | apply keeps_foldl | apply State.setBit_keeps | simp only [keeps_mk]
      | simp only [keeps_boot] | split | refine keeps_snd ‹_ = (_, _)› ?_ | (intro; intros)))

theorem State.mixFault_keeps : ∀ (s : State) (j : MixJob) (cause : Nat), Keeps u s → Keeps u (s.mixFault j cause) :=
    by
  intros; unfold State.mixFault; try dsimp only
  repeat' (with_reducible (first
      | assumption | apply keeps_ite | apply keeps_foldl | apply State.count64_keeps | apply State.takeFree_keeps
      | apply State.failTask_keeps | apply State.raiseN_keeps | apply State.mixIdle_keeps | simp only [keeps_mk]
      | simp only [keeps_boot] | split | refine keeps_snd ‹_ = (_, _)› ?_ | (intro; intros)))

theorem State.mixStop_keeps : ∀ (s : State) (j : MixJob), Keeps u s → Keeps u (s.mixStop j) := by
  intros; unfold State.mixStop; try dsimp only
  repeat' (with_reducible (first
      | assumption | apply keeps_ite | apply keeps_foldl | apply State.takeFree_keeps | apply State.mixRun_keeps
      | apply State.mixFault_keeps | apply State.failTask_keeps | apply State.mixIdle_keeps
      | apply State.count64_keeps | simp only [keeps_mk] | simp only [keeps_boot] | split
      | refine keeps_snd ‹_ = (_, _)› ?_ | (intro; intros)))

theorem State.syncRoute_keeps : ∀ (s : State) (k : Nat), Keeps u s → Keeps u (s.syncRoute k) := by
  intros; unfold State.syncRoute; try dsimp only
  repeat' (with_reducible (first
      | assumption | apply keeps_ite | apply keeps_foldl | apply State.setBit_keeps | simp only [keeps_mk]
      | simp only [keeps_boot] | split | refine keeps_snd ‹_ = (_, _)› ?_ | (intro; intros)))

theorem State.mixDropQueued_keeps : ∀ (s : State) (p slot : Nat), Keeps u s → Keeps u (s.mixDropQueued p slot) := by
  intros; unfold State.mixDropQueued; try dsimp only
  repeat' (with_reducible (first
      | assumption | apply keeps_ite | apply keeps_foldl | apply State.failTask_keeps | simp only [keeps_mk]
      | simp only [keeps_boot] | split | refine keeps_snd ‹_ = (_, _)› ?_ | (intro; intros)))

theorem State.mixAbort_keeps : ∀ (s : State) (p slot : Nat), Keeps u s → Keeps u (s.mixAbort p slot) := by
  intros; unfold State.mixAbort; try dsimp only
  repeat' (with_reducible (first
      | assumption | apply keeps_ite | apply keeps_foldl | apply State.mixStop_keeps
      | apply State.mixDropQueued_keeps | simp only [keeps_mk] | simp only [keeps_boot] | split
      | refine keeps_snd ‹_ = (_, _)› ?_ | (intro; intros)))

theorem State.sinkSamples_keeps : ∀ (s : State) (k sink : Nat), Keeps u s → Keeps u (s.sinkSamples k sink).2 := by
  intros; unfold State.sinkSamples; try dsimp only
  repeat' (with_reducible (first
      | assumption | apply keeps_ite | apply keeps_foldl | apply State.vatLook_keeps | apply State.takeFree_keeps
      | simp only [keeps_mk] | simp only [keeps_boot] | split | refine keeps_snd ‹_ = (_, _)› ?_ | (intro; intros)))

theorem State.mixRest_keeps : ∀ (s : State) (j : MixJob) (l : List Nat) (m : MixRun), Keeps u s →
    Keeps u (s.mixRest j l m).2 := by
  intro s j l m h
  induction l generalizing s m with
  | nil => exact h
  | cons i l ih =>
    unfold State.mixRest; dsimp only
    refine keeps_ite2 (ih _ _ h) ?_
    split
    · exact State.mixRead_keeps _ _ _ h
    · exact ih _ _ (State.mixRead_keeps _ _ _ h)

theorem State.mixWhole_keeps : ∀ (s : State) (j : MixJob), Keeps u s → Keeps u (s.mixWhole j).2 := by
  intros; unfold State.mixWhole; try dsimp only
  repeat' (with_reducible (first
      | assumption | apply keeps_ite | apply keeps_foldl | apply State.mixRun_keeps | apply State.mixRest_keeps
      | simp only [keeps_mk] | simp only [keeps_boot] | split | refine keeps_snd ‹_ = (_, _)› ?_ | (intro; intros)))

theorem State.mixDone_keeps : ∀ (s : State), Keeps u s → Keeps u s.mixDone := by
  intros; unfold State.mixDone; try dsimp only
  repeat' (with_reducible (first
      | assumption | apply keeps_ite | apply keeps_foldl | apply State.mixWhole_keeps | apply State.mixFault_keeps
      | apply State.unitWrite_keeps | apply State.mixIdle_keeps | apply State.count64_keeps
      | apply State.completeTask_keeps | simp only [keeps_mk] | simp only [keeps_boot] | split
      | refine keeps_snd ‹_ = (_, _)› ?_ | (intro; intros)))

theorem State.mixStart_keeps : ∀ (s : State), Keeps u s → Keeps u s.mixStart := by
  intros; unfold State.mixStart; try dsimp only
  repeat' (with_reducible (first
      | assumption | apply keeps_ite | apply keeps_foldl | apply State.setRegN_keeps | simp only [keeps_mk]
      | simp only [keeps_boot] | split | refine keeps_snd ‹_ = (_, _)› ?_ | (intro; intros)))

theorem State.sinkRead_keeps : ∀ (s : State) (k sink : Nat), Keeps u s → Keeps u (s.sinkRead k sink).2 := by
  intros; unfold State.sinkRead; try dsimp only
  repeat' (with_reducible (first
      | assumption | apply keeps_ite | apply keeps_foldl | apply State.sinkSamples_keeps
      | apply State.raiseOnce_keeps | simp only [keeps_mk] | simp only [keeps_boot] | split
      | refine keeps_snd ‹_ = (_, _)› ?_ | (intro; intros)))

theorem State.readSinks_keeps : ∀ (s : State) (k : Nat), Keeps u s → Keeps u (s.readSinks k) := by
  intros; unfold State.readSinks; try dsimp only
  repeat' (with_reducible (first
      | assumption | apply keeps_ite | apply keeps_foldl | apply State.sinkRead_keeps | simp only [keeps_mk]
      | simp only [keeps_boot] | split | refine keeps_snd ‹_ = (_, _)› ?_ | (intro; intros)))

theorem State.addRoute_keeps : ∀ (s : State) (g : Nat) (r : Route), Keeps u s → Keeps u (s.addRoute g r) := by
  intros; unfold State.addRoute; try dsimp only
  repeat' (with_reducible (first
      | assumption | apply keeps_ite | apply keeps_foldl | simp only [keeps_mk] | simp only [keeps_boot] | split
      | refine keeps_snd ‹_ = (_, _)› ?_ | (intro; intros)))

theorem State.setSrcCh_keeps : ∀ (s : State) (n : Nat) (c : SrcCh), Keeps u s → Keeps u (s.setSrcCh n c) := by
  intros; unfold State.setSrcCh; try dsimp only
  repeat' (with_reducible (first
      | assumption | apply keeps_ite | apply keeps_foldl | simp only [keeps_mk] | simp only [keeps_boot] | split
      | refine keeps_snd ‹_ = (_, _)› ?_ | (intro; intros)))

theorem State.setSrcState_keeps : ∀ (s : State) (n st : Nat), Keeps u s → Keeps u (s.setSrcState n st) := by
  intros; unfold State.setSrcState; try dsimp only
  repeat' (with_reducible (first
      | assumption | apply keeps_ite | apply keeps_foldl | apply State.setFld_keeps | apply State.setReg64_keeps
      | simp only [keeps_mk] | simp only [keeps_boot] | split | refine keeps_snd ‹_ = (_, _)› ?_ | (intro; intros)))

theorem State.srcUnlock_keeps : ∀ (s : State) (n m : Nat), Keeps u s → Keeps u (s.srcUnlock n m) := by
  intros; unfold State.srcUnlock; try dsimp only
  repeat' (with_reducible (first
      | assumption | apply keeps_ite | apply keeps_foldl | apply State.raiseN_keeps | apply State.setSrcState_keeps
      | apply State.setSrcCh_keeps | simp only [keeps_mk] | simp only [keeps_boot] | split
      | refine keeps_snd ‹_ = (_, _)› ?_ | (intro; intros)))

theorem State.srcWrite_keeps : ∀ (s : State) (n k : Nat), Keeps u s → Keeps u (s.srcWrite n k) := by
  intros; unfold State.srcWrite; try dsimp only
  repeat' (with_reducible (first
      | assumption | apply keeps_ite | apply keeps_foldl | apply State.unitPut_keeps | apply State.setSrcCh_keeps
      | simp only [keeps_mk] | simp only [keeps_boot] | split | refine keeps_snd ‹_ = (_, _)› ?_ | (intro; intros)))

theorem State.srcGroupFeed_keeps : ∀ (s : State) (g k : Nat), Keeps u s → Keeps u (s.srcGroupFeed g k) := by
  intros; unfold State.srcGroupFeed; try dsimp only
  repeat' (with_reducible (first
      | assumption | apply keeps_ite | apply keeps_foldl | apply State.feedSignal_keeps | apply State.srcWrite_keeps
      | simp only [keeps_mk] | simp only [keeps_boot] | split | refine keeps_snd ‹_ = (_, _)› ?_ | (intro; intros)))

theorem State.srcLock_keeps : ∀ (s : State) (n m : Nat), Keeps u s → Keeps u (s.srcLock n m) := by
  intros; unfold State.srcLock; try dsimp only
  repeat' (with_reducible (first
      | assumption | apply keeps_ite | apply keeps_foldl | apply State.raiseN_keeps | apply State.setSrcState_keeps
      | apply State.setSrcCh_keeps | simp only [keeps_mk] | simp only [keeps_boot] | split
      | refine keeps_snd ‹_ = (_, _)› ?_ | (intro; intros)))

theorem State.srcRecord_keeps : ∀ (s : State) (n m : Nat), Keeps u s → Keeps u (s.srcRecord n m) := by
  intros; unfold State.srcRecord; try dsimp only
  repeat' (with_reducible (first
      | assumption | apply keeps_ite | apply keeps_foldl | apply State.setSrcCh_keeps | apply State.setFld_keeps
      | apply State.setRegN_keeps | apply State.srcLock_keeps | apply State.srcUnlock_keeps | simp only [keeps_mk]
      | simp only [keeps_boot] | split | refine keeps_snd ‹_ = (_, _)› ?_ | (intro; intros)))

theorem State.srcAcquire_keeps : ∀ (s : State) (n : Nat), Keeps u s → Keeps u (s.srcAcquire n) := by
  intros; unfold State.srcAcquire; try dsimp only
  repeat' (with_reducible (first
      | assumption | apply keeps_ite | apply keeps_foldl | apply State.setFld_keeps | apply State.setSrcState_keeps
      | apply State.setSrcCh_keeps | simp only [keeps_mk] | simp only [keeps_boot] | split
      | refine keeps_snd ‹_ = (_, _)› ?_ | (intro; intros)))

theorem State.srcCfg_keeps : ∀ (s : State) (n : Nat) (data : Word), Keeps u s → Keeps u (s.srcCfg n data) := by
  intros; unfold State.srcCfg; try dsimp only
  repeat' (with_reducible (first
      | assumption | apply keeps_ite | apply keeps_foldl | apply State.setSrcState_keeps
      | apply State.setSrcCh_keeps | apply State.setBit_keeps | apply State.writeRw_keeps
      | apply State.srcAcquire_keeps | simp only [keeps_mk] | simp only [keeps_boot] | split
      | refine keeps_snd ‹_ = (_, _)› ?_ | (intro; intros)))

theorem State.srcNolock_keeps : ∀ (s : State) (n : Nat), Keeps u s → Keeps u (s.srcNolock n) := by
  intros; unfold State.srcNolock; try dsimp only
  repeat' (with_reducible (first
      | assumption | apply keeps_ite | apply keeps_foldl | apply State.raiseN_keeps | simp only [keeps_mk]
      | simp only [keeps_boot] | split | refine keeps_snd ‹_ = (_, _)› ?_ | (intro; intros)))

theorem State.srcBlock_keeps : ∀ (s : State) (n first pt : Nat) (ws : List Word), Keeps u s → Keeps u (s.srcBlock n
    first pt ws) := by
  intros; unfold State.srcBlock; try dsimp only
  repeat' (with_reducible (first
      | assumption | apply keeps_ite | apply keeps_foldl | apply State.srcAcquire_keeps | apply State.setSrcCh_keeps
      | simp only [keeps_mk] | simp only [keeps_boot] | split | refine keeps_snd ‹_ = (_, _)› ?_ | (intro; intros)))

theorem State.srcLost_keeps : ∀ (s : State) (n : Nat), Keeps u s → Keeps u (s.srcLost n) := by
  intros; unfold State.srcLost; try dsimp only
  repeat' (with_reducible (first
      | assumption | apply keeps_ite | apply keeps_foldl | apply State.setSrcCh_keeps | apply State.raiseN_keeps
      | apply State.setSrcState_keeps | simp only [keeps_mk] | simp only [keeps_boot] | split
      | refine keeps_snd ‹_ = (_, _)› ?_ | (intro; intros)))

theorem State.srcFeedOut_keeps : ∀ (s : State) (k : Nat), Keeps u s → Keeps u (s.srcFeedOut k) := by
  intros; unfold State.srcFeedOut; try dsimp only
  repeat' (with_reducible (first
      | assumption | apply keeps_ite | apply keeps_foldl | apply State.setSrcCh_keeps | simp only [keeps_mk]
      | simp only [keeps_boot] | split | refine keeps_snd ‹_ = (_, _)› ?_ | (intro; intros)))

theorem State.setEgress_keeps : ∀ (s : State) (p : Nat) (e : Egress), Keeps u s → Keeps u (s.setEgress p e) := by
  intros; unfold State.setEgress; try dsimp only
  repeat' (with_reducible (first
      | assumption | apply keeps_ite | apply keeps_foldl | simp only [keeps_mk] | simp only [keeps_boot] | split
      | refine keeps_snd ‹_ = (_, _)› ?_ | (intro; intros)))

theorem State.enqueue_keeps : ∀ (s : State) (p : Nat) (f : QFrame), Keeps u s → Keeps u (s.enqueue p f) := by
  intros; unfold State.enqueue; try dsimp only
  repeat' (with_reducible (first
      | assumption | apply keeps_ite | apply keeps_foldl | apply State.setEgress_keeps | simp only [keeps_mk]
      | simp only [keeps_boot] | split | refine keeps_snd ‹_ = (_, _)› ?_ | (intro; intros)))

theorem State.takeDesc_keeps : ∀ (s : State) (egresses : Nat), Keeps u s → Keeps u (s.takeDesc egresses).2 := by
  intros; unfold State.takeDesc; try dsimp only
  repeat' (with_reducible (first
      | assumption | apply keeps_ite | apply keeps_foldl | simp only [keeps_mk] | simp only [keeps_boot] | split
      | refine keeps_snd ‹_ = (_, _)› ?_ | (intro; intros)))

theorem State.noDesc_keeps : ∀ (s : State) (at_ : Nat), Keeps u s → Keeps u (s.noDesc at_) := by
  intros; unfold State.noDesc; try dsimp only
  repeat' (with_reducible (first
      | assumption | apply keeps_ite | apply keeps_foldl | apply State.raiseMs_keeps | apply State.countHold_keeps
      | simp only [keeps_mk] | simp only [keeps_boot] | split | refine keeps_snd ‹_ = (_, _)› ?_ | (intro; intros)))

theorem State.sendRelay_keeps : ∀ (s : State) (p : Nat) (dest h : List Byte), Keeps u s → Keeps u (s.sendRelay p dest
    h) := by
  intros; unfold State.sendRelay; try dsimp only
  repeat' (with_reducible (first
      | assumption | apply keeps_ite | apply keeps_foldl | apply State.takeDesc_keeps | apply State.enqueue_keeps
      | apply State.noDesc_keeps | simp only [keeps_mk] | simp only [keeps_boot] | split
      | refine keeps_snd ‹_ = (_, _)› ?_ | (intro; intros)))

theorem State.sendSummary_keeps : ∀ (s : State) (v : Nat), Keeps u s → Keeps u (s.sendSummary v) := by
  intros; unfold State.sendSummary; try dsimp only
  repeat' (with_reducible (first
      | assumption | apply keeps_ite | apply keeps_foldl | apply State.takeFree_keeps | apply State.sendRelay_keeps
      | simp only [keeps_mk] | simp only [keeps_boot] | split | refine keeps_snd ‹_ = (_, _)› ?_ | (intro; intros)))

theorem State.flushSummaries_keeps : ∀ (s : State), Keeps u s → Keeps u s.flushSummaries := by
  intros; unfold State.flushSummaries; try dsimp only
  repeat' (with_reducible (first
      | assumption | apply keeps_ite | apply keeps_foldl | apply State.sendSummary_keeps | simp only [keeps_mk]
      | simp only [keeps_boot] | split | refine keeps_snd ‹_ = (_, _)› ?_ | (intro; intros)))

theorem State.dropDesc_keeps : ∀ (s : State) (d : Nat), Keeps u s → Keeps u (s.dropDesc d) := by
  intros; unfold State.dropDesc; try dsimp only
  repeat' (with_reducible (first
      | assumption | apply keeps_ite | apply keeps_foldl | simp only [keeps_mk] | simp only [keeps_boot] | split
      | refine keeps_snd ‹_ = (_, _)› ?_ | (intro; intros)))

theorem State.endFrame_keeps : ∀ (s : State) (f : QFrame), Keeps u s → Keeps u (s.endFrame f) := by
  intros; unfold State.endFrame; try dsimp only
  repeat' (with_reducible (first
      | assumption | apply keeps_ite | apply keeps_foldl | apply State.dropDesc_keeps | simp only [keeps_mk]
      | simp only [keeps_boot] | split | refine keeps_snd ‹_ = (_, _)› ?_ | (intro; intros)))

theorem State.txStomp_keeps : ∀ (s : State) (p : Nat), Keeps u s → Keeps u (s.txStomp p) := by
  intros; unfold State.txStomp; try dsimp only
  repeat' (with_reducible (first
      | assumption | apply keeps_ite | apply keeps_foldl | apply State.raiseMs_keeps | apply State.count64_keeps
      | simp only [keeps_mk] | simp only [keeps_boot] | split | refine keeps_snd ‹_ = (_, _)› ?_ | (intro; intros)))

theorem State.countEntry_keeps : ∀ (s : State) (i w : Nat), Keeps u s → Keeps u (s.countEntry i w) := by
  intros; unfold State.countEntry; try dsimp only
  repeat' (with_reducible (first
      | assumption | apply keeps_ite | apply keeps_foldl | apply State.countHold_keeps | simp only [keeps_mk]
      | simp only [keeps_boot] | split | refine keeps_snd ‹_ = (_, _)› ?_ | (intro; intros)))

theorem State.countDrop_keeps : ∀ (s : State) (k : FrameKind), Keeps u s → Keeps u (s.countDrop k) := by
  intros; unfold State.countDrop; try dsimp only
  repeat' (with_reducible (first
      | assumption | apply keeps_ite | apply keeps_foldl | apply State.countEntry_keeps | simp only [keeps_mk]
      | simp only [keeps_boot] | split | refine keeps_snd ‹_ = (_, _)› ?_ | (intro; intros)))

theorem State.discardFrame_keeps : ∀ (s : State) (f : QFrame), Keeps u s → Keeps u (s.discardFrame f) := by
  intros; unfold State.discardFrame; try dsimp only
  repeat' (with_reducible (first
      | assumption | apply keeps_ite | apply keeps_foldl | apply State.dropDesc_keeps | apply State.countDrop_keeps
      | simp only [keeps_mk] | simp only [keeps_boot] | split | refine keeps_snd ‹_ = (_, _)› ?_ | (intro; intros)))

theorem State.egressDown_keeps : ∀ (s : State) (p : Nat), Keeps u s → Keeps u (s.egressDown p) := by
  intros; unfold State.egressDown; try dsimp only
  repeat' (with_reducible (first
      | assumption | apply keeps_ite | apply keeps_foldl | apply State.endFrame_keeps | apply State.txStomp_keeps
      | apply State.countHold_keeps | apply State.discardFrame_keeps | apply State.raiseMs_keeps
      | apply State.setEgress_keeps | simp only [keeps_mk] | simp only [keeps_boot] | split
      | refine keeps_snd ‹_ = (_, _)› ?_ | (intro; intros)))

theorem State.syncMacCount_keeps : ∀ (s : State), Keeps u s → Keeps u s.syncMacCount := by
  intros; unfold State.syncMacCount; try dsimp only
  repeat' (with_reducible (first
      | assumption | apply keeps_ite | apply keeps_foldl | apply State.setRegN_keeps | simp only [keeps_mk]
      | simp only [keeps_boot] | split | refine keeps_snd ‹_ = (_, _)› ?_ | (intro; intros)))

theorem State.setMacEntry_keeps : ∀ (s : State) (i : Nat) (e : MacEntry), Keeps u s → Keeps u (s.setMacEntry i e) :=
    by
  intros; unfold State.setMacEntry; try dsimp only
  repeat' (with_reducible (first
      | assumption | apply keeps_ite | apply keeps_foldl | apply State.syncMacCount_keeps | apply State.write_keeps
      | simp only [keeps_mk] | simp only [keeps_boot] | split | refine keeps_snd ‹_ = (_, _)› ?_ | (intro; intros)))

theorem State.raiseStream_keeps : ∀ (s : State) (src w3 : Nat), Keeps u s → Keeps u (s.raiseStream src w3) := by
  intros; unfold State.raiseStream; try dsimp only
  repeat' (with_reducible (first
      | assumption | apply keeps_ite | apply keeps_foldl | apply State.raiseFolio_keeps | simp only [keeps_mk]
      | simp only [keeps_boot] | split | refine keeps_snd ‹_ = (_, _)› ?_ | (intro; intros)))

theorem State.pauseLoad_keeps : ∀ (s : State) (p q : Nat), Keeps u s → Keeps u (s.pauseLoad p q) := by
  intros; unfold State.pauseLoad; try dsimp only
  repeat' (with_reducible (first
      | assumption | apply keeps_ite | apply keeps_foldl | apply State.setBit_keeps | apply State.setFld_keeps
      | simp only [keeps_mk] | simp only [keeps_boot] | split | refine keeps_snd ‹_ = (_, _)› ?_ | (intro; intros)))

theorem State.syncFelt_keeps : ∀ (s : State), Keeps u s → Keeps u s.syncFelt := by
  intros; unfold State.syncFelt; try dsimp only
  repeat' (with_reducible (first
      | assumption | apply keeps_ite | apply keeps_foldl | apply State.setFld_keeps | apply State.raiseN_keeps
      | simp only [keeps_mk] | simp only [keeps_boot] | split | refine keeps_snd ‹_ = (_, _)› ?_ | (intro; intros)))

theorem State.setLane_keeps : ∀ (s : State) (n st : Nat), Keeps u s → Keeps u (s.setLane n st) := by
  intros; unfold State.setLane; try dsimp only
  repeat' (with_reducible (first
      | assumption | apply keeps_ite | apply keeps_foldl | apply State.setFld_keeps | apply State.setBit_keeps
      | apply State.syncFelt_keeps | simp only [keeps_mk] | simp only [keeps_boot] | split
      | refine keeps_snd ‹_ = (_, _)› ?_ | (intro; intros)))

theorem State.setSignal_keeps : ∀ (s : State) (n : Nat) (b : Bool), Keeps u s → Keeps u (s.setSignal n b) := by
  intros; unfold State.setSignal; try dsimp only
  repeat' (with_reducible (first
      | assumption | apply keeps_ite | apply keeps_foldl | apply State.setBit_keeps | simp only [keeps_mk]
      | simp only [keeps_boot] | split | refine keeps_snd ‹_ = (_, _)› ?_ | (intro; intros)))

theorem State.anComplete_keeps : ∀ (s : State) (n : Nat), Keeps u s → Keeps u (s.anComplete n) := by
  intros; unfold State.anComplete; try dsimp only
  repeat' (with_reducible (first
      | assumption | apply keeps_ite | apply keeps_foldl | apply State.setLane_keeps | apply State.setSignal_keeps
      | simp only [keeps_mk] | simp only [keeps_boot] | split | refine keeps_snd ‹_ = (_, _)› ?_ | (intro; intros)))

theorem State.syncPorts_keeps : ∀ (s : State), Keeps u s → Keeps u s.syncPorts := by
  intros; unfold State.syncPorts; try dsimp only
  repeat' (with_reducible (first
      | assumption | apply keeps_ite | apply keeps_foldl | apply State.setBit_keeps | apply State.setFld_keeps
      | simp only [keeps_mk] | simp only [keeps_boot] | split | refine keeps_snd ‹_ = (_, _)› ?_ | (intro; intros)))

theorem State.wakeSent_keeps : ∀ (s : State) (n : Nat), Keeps u s → Keeps u (s.wakeSent n) := by
  intros; unfold State.wakeSent; try dsimp only
  repeat' (with_reducible (first
      | assumption | apply keeps_ite | apply keeps_foldl | apply State.raiseN_keeps | apply State.setLane_keeps
      | simp only [keeps_mk] | simp only [keeps_boot] | split | refine keeps_snd ‹_ = (_, _)› ?_ | (intro; intros)))

theorem State.laneTrain_keeps : ∀ (s : State) (n : Nat), Keeps u s → Keeps u (s.laneTrain n) := by
  intros; unfold State.laneTrain; try dsimp only
  repeat' (with_reducible (first
      | assumption | apply keeps_ite | apply keeps_foldl | apply State.setLane_keeps | apply State.setBit_keeps
      | simp only [keeps_mk] | simp only [keeps_boot] | split | refine keeps_snd ‹_ = (_, _)› ?_ | (intro; intros)))

theorem State.laneStart_keeps : ∀ (s : State) (n : Nat), Keeps u s → Keeps u (s.laneStart n) := by
  intros; unfold State.laneStart; try dsimp only
  repeat' (with_reducible (first
      | assumption | apply keeps_ite | apply keeps_foldl | apply State.laneTrain_keeps | simp only [keeps_mk]
      | simp only [keeps_boot] | split | refine keeps_snd ‹_ = (_, _)› ?_ | (intro; intros)))

theorem State.spllUnlock_keeps : ∀ (s : State) (p : Nat), Keeps u s → Keeps u (s.spllUnlock p) := by
  intros; unfold State.spllUnlock; try dsimp only
  repeat' (with_reducible (first
      | assumption | apply keeps_ite | apply keeps_foldl | apply State.raiseN_keeps | apply State.setReg_keeps
      | simp only [keeps_mk] | simp only [keeps_boot] | split | refine keeps_snd ‹_ = (_, _)› ?_ | (intro; intros)))

theorem State.setPortUp_keeps : ∀ (s : State) (m : Nat) (up : Bool), Keeps u s → Keeps u (s.setPortUp m up) := by
  intros; unfold State.setPortUp; try dsimp only
  repeat' (with_reducible (first
      | assumption | apply keeps_ite | apply keeps_foldl | apply State.setReg_keeps | apply State.setBit_keeps
      | simp only [keeps_mk] | simp only [keeps_boot] | split | refine keeps_snd ‹_ = (_, _)› ?_ | (intro; intros)))

theorem State.portDown_keeps : ∀ (s : State) (m : Nat), Keeps u s → Keeps u (s.portDown m) := by
  intros; unfold State.portDown; try dsimp only
  repeat' (with_reducible (first
      | assumption | apply keeps_ite | apply keeps_foldl | apply State.raiseN_keeps | apply State.egressDown_keeps
      | apply State.setPortUp_keeps | simp only [keeps_mk] | simp only [keeps_boot] | split
      | refine keeps_snd ‹_ = (_, _)› ?_ | (intro; intros)))

theorem State.laneLeft_keeps : ∀ (s : State) (n cause : Nat), Keeps u s → Keeps u (s.laneLeft n cause) := by
  intros; unfold State.laneLeft; try dsimp only
  repeat' (with_reducible (first
      | assumption | apply keeps_ite | apply keeps_foldl | apply State.raiseN_keeps | apply State.countHold_keeps
      | apply State.portDown_keeps | simp only [keeps_mk] | simp only [keeps_boot] | split
      | refine keeps_snd ‹_ = (_, _)› ?_ | (intro; intros)))

theorem State.laneGo_keeps : ∀ (s : State) (n st cause : Nat) (always : Bool), Keeps u s → Keeps u (s.laneGo n st
    cause always) := by
  intros; unfold State.laneGo; try dsimp only
  repeat' (with_reducible (first
      | assumption | apply keeps_ite | apply keeps_foldl | apply State.setLane_keeps | apply State.laneLeft_keeps
      | apply State.raiseN_keeps | simp only [keeps_mk] | simp only [keeps_boot] | split
      | refine keeps_snd ‹_ = (_, _)› ?_ | (intro; intros)))

theorem State.laneEnWrite_keeps : ∀ (s : State) (n : Nat) (data : Word), Keeps u s → Keeps u (s.laneEnWrite n data) :=
    by
  intros; unfold State.laneEnWrite; try dsimp only
  repeat' (with_reducible (first
      | assumption | apply keeps_ite | apply keeps_foldl | apply State.setReg_keeps | apply State.laneStart_keeps
      | apply State.laneGo_keeps | simp only [keeps_mk] | simp only [keeps_boot] | split
      | refine keeps_snd ‹_ = (_, _)› ?_ | (intro; intros)))

theorem State.trainReady_keeps : ∀ (s : State) (n : Nat) (precode : Bool), Keeps u s → Keeps u (s.trainReady n
    precode) := by
  intros; unfold State.trainReady; try dsimp only
  repeat' (with_reducible (first
      | assumption | apply keeps_ite | apply keeps_foldl | apply State.setLane_keeps | apply State.setSignal_keeps
      | apply State.setBit_keeps | simp only [keeps_mk] | simp only [keeps_boot] | split
      | refine keeps_snd ‹_ = (_, _)› ?_ | (intro; intros)))

theorem State.fabConfigErr_keeps : ∀ (s : State) (a : Nat), Keeps u s → Keeps u (s.fabConfigErr a) := by
  intros; unfold State.fabConfigErr; try dsimp only
  repeat' (with_reducible (first
      | assumption | apply keeps_ite | apply keeps_foldl | apply State.raiseN_keeps | simp only [keeps_mk]
      | simp only [keeps_boot] | split | refine keeps_snd ‹_ = (_, _)› ?_ | (intro; intros)))

theorem State.dormantEnter_keeps : ∀ (s : State), Keeps u s → Keeps u s.dormantEnter := by
  intros; unfold State.dormantEnter; try dsimp only
  repeat' (with_reducible (first
      | assumption | apply keeps_ite | apply keeps_foldl | apply State.laneGo_keeps | apply State.linkDrop_keeps
      | apply State.takeFree_keeps | apply State.fabConfigErr_keeps | simp only [keeps_mk] | simp only [keeps_boot]
      | split | refine keeps_snd ‹_ = (_, _)› ?_ | (intro; intros)))

theorem State.laneUp_keeps : ∀ (s : State) (n : Nat), Keeps u s → Keeps u (s.laneUp n) := by
  intros; unfold State.laneUp; try dsimp only
  repeat' (with_reducible (first
      | assumption | apply keeps_ite | apply keeps_foldl | apply State.raiseN_keeps | apply State.setLane_keeps
      | apply State.setPortUp_keeps | simp only [keeps_mk] | simp only [keeps_boot] | split
      | refine keeps_snd ‹_ = (_, _)› ?_ | (intro; intros)))

theorem State.laneAgain_keeps : ∀ (s : State) (n cause : Nat), Keeps u s → Keeps u (s.laneAgain n cause) := by
  intros; unfold State.laneAgain; try dsimp only
  repeat' (with_reducible (first
      | assumption | apply keeps_ite | apply keeps_foldl | apply State.laneLeft_keeps | apply State.laneTrain_keeps
      | apply State.laneGo_keeps | simp only [keeps_mk] | simp only [keeps_boot] | split
      | refine keeps_snd ‹_ = (_, _)› ?_ | (intro; intros)))

theorem State.laneDown_keeps : ∀ (s : State) (n : Nat) (cause : DownCause), Keeps u s → Keeps u (s.laneDown n cause)
    := by
  intros; unfold State.laneDown; try dsimp only
  repeat' (with_reducible (first
      | assumption | apply keeps_ite | apply keeps_foldl | apply State.laneAgain_keeps | apply State.setSignal_keeps
      | simp only [keeps_mk] | simp only [keeps_boot] | split | refine keeps_snd ‹_ = (_, _)› ?_ | (intro; intros)))

theorem State.laneLoopWrite_keeps : ∀ (s : State) (n : Nat) (data : Word), Keeps u s → Keeps u (s.laneLoopWrite n
    data) := by
  intros; unfold State.laneLoopWrite; try dsimp only
  repeat' (with_reducible (first
      | assumption | apply keeps_ite | apply keeps_foldl | apply State.setFld_keeps | apply State.laneGo_keeps
      | apply State.laneTrain_keeps | simp only [keeps_mk] | simp only [keeps_boot] | split
      | refine keeps_snd ‹_ = (_, _)› ?_ | (intro; intros)))

theorem State.spllLock_keeps : ∀ (s : State) (p : Nat), Keeps u s → Keeps u (s.spllLock p) := by
  intros; unfold State.spllLock; try dsimp only
  repeat' (with_reducible (first
      | assumption | apply keeps_ite | apply keeps_foldl | apply State.laneStart_keeps | apply State.setReg_keeps
      | simp only [keeps_mk] | simp only [keeps_boot] | split | refine keeps_snd ‹_ = (_, _)› ?_ | (intro; intros)))

theorem State.backoffExpiry_keeps : ∀ (s : State) (n : Nat), Keeps u s → Keeps u (s.backoffExpiry n) := by
  intros; unfold State.backoffExpiry; try dsimp only
  repeat' (with_reducible (first
      | assumption | apply keeps_ite | apply keeps_foldl | apply State.laneTrain_keeps | simp only [keeps_mk]
      | simp only [keeps_boot] | split | refine keeps_snd ‹_ = (_, _)› ?_ | (intro; intros)))

theorem State.pauseSend_keeps : ∀ (s : State) (p : Nat) (data : Word), Keeps u s → Keeps u (s.pauseSend p data) := by
  intros; unfold State.pauseSend; try dsimp only
  repeat' (with_reducible (first
      | assumption | apply keeps_ite | apply keeps_foldl | apply State.writeWord_keeps | apply State.setBit_keeps
      | simp only [keeps_mk] | simp only [keeps_boot] | split | refine keeps_snd ‹_ = (_, _)› ?_ | (intro; intros)))

theorem State.laneWindow_keeps : ∀ (s : State) (n prbs : Nat) (signal : Bool), Keeps u s → Keeps u (s.laneWindow n
    prbs signal) := by
  intros; unfold State.laneWindow; try dsimp only
  repeat' (with_reducible (first
      | assumption | apply keeps_ite | apply keeps_foldl | apply State.setSignal_keeps | apply State.count64_keeps
      | simp only [keeps_mk] | simp only [keeps_boot] | split | refine keeps_snd ‹_ = (_, _)› ?_ | (intro; intros)))

theorem State.wakeCtrl_keeps : ∀ (s : State) (data : Word), Keeps u s → Keeps u (s.wakeCtrl data) := by
  intros; unfold State.wakeCtrl; try dsimp only
  repeat' (with_reducible (first
      | assumption | apply keeps_ite | apply keeps_foldl | apply State.writeWord_keeps | simp only [keeps_mk]
      | simp only [keeps_boot] | split | refine keeps_snd ‹_ = (_, _)› ?_ | (intro; intros)))

theorem State.laneRetrain_keeps : ∀ (s : State) (n : Nat), Keeps u s → Keeps u (s.laneRetrain n) := by
  intros; unfold State.laneRetrain; try dsimp only
  repeat' (with_reducible (first
      | assumption | apply keeps_ite | apply keeps_foldl | apply State.laneAgain_keeps | simp only [keeps_mk]
      | simp only [keeps_boot] | split | refine keeps_snd ‹_ = (_, _)› ?_ | (intro; intros)))

theorem State.laneFail_keeps : ∀ (s : State) (n reason : Nat), Keeps u s → Keeps u (s.laneFail n reason) := by
  intros; unfold State.laneFail; try dsimp only
  repeat' (with_reducible (first
      | assumption | apply keeps_ite | apply keeps_foldl | apply State.raiseN_keeps | apply State.setLane_keeps
      | apply State.setFld_keeps | simp only [keeps_mk] | simp only [keeps_boot] | split
      | refine keeps_snd ‹_ = (_, _)› ?_ | (intro; intros)))

theorem State.trainFail_keeps : ∀ (s : State) (n : Nat), Keeps u s → Keeps u (s.trainFail n) := by
  intros; unfold State.trainFail; try dsimp only
  repeat' (with_reducible (first
      | assumption | apply keeps_ite | apply keeps_foldl | apply State.laneFail_keeps | simp only [keeps_mk]
      | simp only [keeps_boot] | split | refine keeps_snd ‹_ = (_, _)› ?_ | (intro; intros)))

theorem State.wakeSend_keeps : ∀ (s : State) (data : Word), Keeps u s → Keeps u (s.wakeSend data) := by
  intros; unfold State.wakeSend; try dsimp only
  repeat' (with_reducible (first
      | assumption | apply keeps_ite | apply keeps_foldl | apply State.wakeCtrl_keeps
      | apply State.fabConfigErr_keeps | apply State.setLane_keeps | simp only [keeps_mk] | simp only [keeps_boot]
      | split | refine keeps_snd ‹_ = (_, _)› ?_ | (intro; intros)))

theorem State.portmapWrite_keeps : ∀ (s : State) (data : Word), Keeps u s → Keeps u (s.portmapWrite data) := by
  intros; unfold State.portmapWrite; try dsimp only
  repeat' (with_reducible (first
      | assumption | apply keeps_ite | apply keeps_foldl | apply State.syncPorts_keeps | apply State.setReg_keeps
      | apply State.fabConfigErr_keeps | simp only [keeps_mk] | simp only [keeps_boot] | split
      | refine keeps_snd ‹_ = (_, _)› ?_ | (intro; intros)))

theorem State.alignTimeout_keeps : ∀ (s : State) (n : Nat) (skew : Bool), Keeps u s → Keeps u (s.alignTimeout n skew)
    := by
  intros; unfold State.alignTimeout; try dsimp only
  repeat' (with_reducible (first
      | assumption | apply keeps_ite | apply keeps_foldl | apply State.laneFail_keeps | simp only [keeps_mk]
      | simp only [keeps_boot] | split | refine keeps_snd ‹_ = (_, _)› ?_ | (intro; intros)))

theorem State.serdesWrite_keeps : ∀ (s : State) (data : Word), Keeps u s → Keeps u (s.serdesWrite data) := by
  intros; unfold State.serdesWrite; try dsimp only
  repeat' (with_reducible (first
      | assumption | apply keeps_ite | apply keeps_foldl | apply State.setReg_keeps | apply State.syncPorts_keeps
      | simp only [keeps_mk] | simp only [keeps_boot] | split | refine keeps_snd ‹_ = (_, _)› ?_ | (intro; intros)))

theorem State.fecWindow_keeps : ∀ (s0 : State) (n corr uncorr sym prbs : Nat) (signal : Bool), Keeps u s0 → Keeps u
    (s0.fecWindow n corr uncorr sym prbs signal) := by
  intros; unfold State.fecWindow; try dsimp only
  repeat' (with_reducible (first
      | assumption | apply keeps_ite | apply keeps_foldl | apply State.laneWindow_keeps | apply State.count64_keeps
      | apply State.raiseN_keeps | apply State.setBit_keeps | apply State.raiseMs_keeps | simp only [keeps_mk]
      | simp only [keeps_boot] | split | refine keeps_snd ‹_ = (_, _)› ?_ | (intro; intros)))

theorem State.startFrame_keeps : ∀ (s : State) (p : Nat) (f : QFrame) (stomped : Bool), Keeps u s → Keeps u
    (s.startFrame p f stomped) := by
  intros; unfold State.startFrame; try dsimp only
  repeat' (with_reducible (first
      | assumption | apply keeps_ite | apply keeps_foldl | apply State.setEgress_keeps | simp only [keeps_mk]
      | simp only [keeps_boot] | split | refine keeps_snd ‹_ = (_, _)› ?_ | (intro; intros)))

theorem State.startCut_keeps : ∀ (s : State) (p : Nat) (f : QFrame) (stomped : Bool), Keeps u s → Keeps u (s.startCut
    p f stomped) := by
  intros; unfold State.startCut; try dsimp only
  repeat' (with_reducible (first
      | assumption | apply keeps_ite | apply keeps_foldl | apply State.startFrame_keeps | apply State.takeFree_keeps
      | simp only [keeps_mk] | simp only [keeps_boot] | split | refine keeps_snd ‹_ = (_, _)› ?_ | (intro; intros)))

theorem State.stompCut_keeps : ∀ (s : State) (p : Nat) (g : RxInfo) (arrival : Int), Keeps u s → Keeps u (s.stompCut p
    g arrival) := by
  intros; unfold State.stompCut; try dsimp only
  repeat' (with_reducible (first
      | assumption | apply keeps_ite | apply keeps_foldl | apply State.takeDesc_keeps | apply State.txStomp_keeps
      | apply State.startCut_keeps | simp only [keeps_mk] | simp only [keeps_boot] | split
      | refine keeps_snd ‹_ = (_, _)› ?_ | (intro; intros)))

theorem State.skipAaf_keeps : ∀ (s : State) (l : List QFrame), Keeps u s → Keeps u (s.skipAaf l).2 := by
  intro s l h
  induction l generalizing s with
  | nil => exact h
  | cons f l ih =>
    unfold State.skipAaf
    split
    · exact keeps_ite2 h (ih _ (State.dropDesc_keeps _ _ h))
    · exact h

theorem State.tsRecord_keeps : ∀ (s : State) (p : Nat) (f : QFrame), Keeps u s → Keeps u (s.tsRecord p f) := by
  intros; unfold State.tsRecord; try dsimp only
  repeat' (with_reducible (first
      | assumption | apply keeps_ite | apply keeps_foldl | apply State.hwPush_keeps | simp only [keeps_mk]
      | simp only [keeps_boot] | split | refine keeps_snd ‹_ = (_, _)› ?_ | (intro; intros)))

theorem State.startNext_keeps : ∀ (s : State) (p : Nat), Keeps u s → Keeps u (s.startNext p) := by
  intros; unfold State.startNext; try dsimp only
  repeat' (with_reducible (first
      | assumption | apply keeps_ite | apply keeps_foldl | apply State.setBit_keeps | apply State.setEgress_keeps
      | apply State.skipAaf_keeps | apply State.tsRecord_keeps | apply State.startFrame_keeps | simp only [keeps_mk]
      | simp only [keeps_boot] | split | refine keeps_snd ‹_ = (_, _)› ?_ | (intro; intros)))

theorem State.frameTransmit_keeps : ∀ (s : State) (p : Nat), Keeps u s → Keeps u (s.frameTransmit p) := by
  intros; unfold State.frameTransmit; try dsimp only
  repeat' (with_reducible (first
      | assumption | apply keeps_ite | apply keeps_foldl | apply State.startNext_keeps
      | apply State.flushSummaries_keeps | simp only [keeps_mk] | simp only [keeps_boot] | split
      | refine keeps_snd ‹_ = (_, _)› ?_ | (intro; intros)))

theorem State.countSent_keeps : ∀ (s : State) (k : FrameKind), Keeps u s → Keeps u (s.countSent k) := by
  intros; unfold State.countSent; try dsimp only
  repeat' (with_reducible (first
      | assumption | apply keeps_ite | apply keeps_foldl | apply State.countEntry_keeps | simp only [keeps_mk]
      | simp only [keeps_boot] | split | refine keeps_snd ‹_ = (_, _)› ?_ | (intro; intros)))

theorem State.txSamples_keeps : ∀ (s : State) (k first n : Nat), Keeps u s →
    Keeps u (s.txSamples k first n).2 := by
  intro s k first n h
  induction n generalizing s first with
  | zero => exact h
  | succ n ih => exact ih _ _ (State.sinkRead_keeps _ _ _ h)

theorem State.cpuDeliver_keeps : ∀ (s : State) (p q : Nat) (g : RxInfo) (arrival : Int), Keeps u s → Keeps u
    (s.cpuDeliver p q g arrival) := by
  intros; unfold State.cpuDeliver; try dsimp only
  repeat' (with_reducible (first
      | assumption | apply keeps_ite | apply keeps_foldl | apply State.raiseMs_keeps | apply State.countHold_keeps
      | apply State.hwPop_keeps | apply State.unitWrite_keeps | apply State.hwPush_keeps | simp only [keeps_mk]
      | simp only [keeps_boot] | split | refine keeps_snd ‹_ = (_, _)› ?_ | (intro; intros)))

theorem State.raiseSec_keeps : ∀ (s : State) (src w3 : Nat), Keeps u s → Keeps u (s.raiseSec src w3) := by
  intros; unfold State.raiseSec; try dsimp only
  repeat' (with_reducible (first
      | assumption | apply keeps_ite | apply keeps_foldl | apply State.raiseN_keeps | simp only [keeps_mk]
      | simp only [keeps_boot] | split | refine keeps_snd ‹_ = (_, _)› ?_ | (intro; intros)))

theorem State.learn_keeps : ∀ (s : State) (p : Nat) (g : RxInfo), Keeps u s → Keeps u (s.learn p g) := by
  intros; unfold State.learn; try dsimp only
  repeat' (with_reducible (first
      | assumption | apply keeps_ite | apply keeps_foldl | apply State.setMacEntry_keeps | apply State.raiseMs_keeps
      | apply State.countHold_keeps | apply State.raiseSec_keeps | simp only [keeps_mk] | simp only [keeps_boot]
      | split | refine keeps_snd ‹_ = (_, _)› ?_ | (intro; intros)))

theorem State.forward_keeps : ∀ (s : State) (p : Nat) (g : RxInfo) (f : Fwd) (arrival : Int), Keeps u s → Keeps u
    (s.forward p g f arrival) := by
  intros; unfold State.forward; try dsimp only
  repeat' (with_reducible (first
      | assumption | apply keeps_ite | apply keeps_foldl | apply State.takeDesc_keeps | apply State.startCut_keeps
      | apply State.enqueue_keeps | simp only [keeps_mk] | simp only [keeps_boot] | split
      | refine keeps_snd ‹_ = (_, _)› ?_ | (intro; intros)))

theorem State.aafPt_keeps : ∀ (s : State) (stamp offset : Nat) (arrival : Int), Keeps u s → Keeps u (s.aafPt stamp
    offset arrival).2 := by
  intros; unfold State.aafPt; try dsimp only
  repeat' (with_reducible (first
      | assumption | apply keeps_ite | apply keeps_foldl | apply State.takeFree_keeps | simp only [keeps_mk]
      | simp only [keeps_boot] | split | refine keeps_snd ‹_ = (_, _)› ?_ | (intro; intros)))

theorem State.glossCheck_keeps : ∀ (s : State) (e : StreamEntry) (h : List Byte) (arrival : Int), Keeps u s → Keeps u
    (s.glossCheck e h arrival).2 := by
  intros; unfold State.glossCheck; try dsimp only
  repeat' (with_reducible (first
      | assumption | apply keeps_ite | apply keeps_foldl | apply State.aafPt_keeps | simp only [keeps_mk]
      | simp only [keeps_boot] | split | refine keeps_snd ‹_ = (_, _)› ?_ | (intro; intros)))

theorem State.setRxSt_keeps : ∀ (s : State) (i : Nat) (e : RxEntry), Keeps u s → Keeps u (s.setRxSt i e) := by
  intros; unfold State.setRxSt; try dsimp only
  repeat' (with_reducible (first
      | assumption | apply keeps_ite | apply keeps_foldl | simp only [keeps_mk] | simp only [keeps_boot] | split
      | refine keeps_snd ‹_ = (_, _)› ?_ | (intro; intros)))

theorem State.candidate_keeps : ∀ (s : State) (i : Nat) (e : StreamEntry) (m : Nat) (claim gen : Word) (slot : List
    Byte), Keeps u s → Keeps u (s.candidate i e m claim gen slot) := by
  intros; unfold State.candidate; try dsimp only
  repeat' (with_reducible (first
      | assumption | apply keeps_ite | apply keeps_foldl | apply State.countEntry_keeps | apply State.setRxSt_keeps
      | apply State.unitWrite_keeps | simp only [keeps_mk] | simp only [keeps_boot] | split
      | refine keeps_snd ‹_ = (_, _)› ?_ | (intro; intros)))

theorem State.classify_keeps : ∀ (s : State) (p : Nat) (aaf : Bool) (h : List Byte) (arrival : Int), Keeps u s → Keeps
    u (s.classify p aaf h arrival) := by
  intros; unfold State.classify; try dsimp only
  repeat' (with_reducible (first
      | assumption | apply keeps_ite | apply keeps_foldl | apply State.raiseStream_keeps
      | apply State.countHold_keeps | apply State.glossCheck_keeps | apply State.countEntry_keeps
      | apply State.takeFree_keeps | apply State.candidate_keeps | simp only [keeps_mk] | simp only [keeps_boot]
      | split | refine keeps_snd ‹_ = (_, _)› ?_ | (intro; intros)))

theorem State.refereeDeliver_keeps : ∀ (s : State) (h : List Byte), Keeps u s → Keeps u (s.refereeDeliver h) := by
  intros; unfold State.refereeDeliver; try dsimp only
  repeat' (with_reducible (first
      | assumption | apply keeps_ite | apply keeps_foldl | apply State.countHold_keeps | simp only [keeps_mk]
      | simp only [keeps_boot] | split | refine keeps_snd ‹_ = (_, _)› ?_ | (intro; intros)))

theorem State.deliver_keeps : ∀ (s : State) (p : Nat) (g : RxInfo) (arrival : Int), Keeps u s → Keeps u (s.deliver p g
    arrival) := by
  intros; unfold State.deliver; try dsimp only
  repeat' (with_reducible (first
      | assumption | apply keeps_ite | apply keeps_foldl | apply State.classify_keeps | apply State.cpuDeliver_keeps
      | apply State.refereeDeliver_keeps | simp only [keeps_mk] | simp only [keeps_boot] | split
      | refine keeps_snd ‹_ = (_, _)› ?_ | (intro; intros)))

theorem State.framePasses_keeps : ∀ (s : State) (p : Nat) (f : RxFrame) (g : RxInfo), Keeps u s → Keeps u
    (s.framePasses p f g) := by
  intros; unfold State.framePasses; try dsimp only
  repeat' (with_reducible (first
      | assumption | apply keeps_ite | apply keeps_foldl | apply State.count64_keeps | apply State.learn_keeps
      | apply State.forward_keeps | apply State.deliver_keeps | simp only [keeps_mk] | simp only [keeps_boot]
      | split | refine keeps_snd ‹_ = (_, _)› ?_ | (intro; intros)))

theorem State.txStale_keeps : ∀ (s : State) (p : Nat) (timed : Bool), Keeps u s → Keeps u (s.txStale p timed) := by
  intros; unfold State.txStale; try dsimp only
  repeat' (with_reducible (first
      | assumption | apply keeps_ite | apply keeps_foldl | apply State.raiseMs_keeps | apply State.countHold_keeps
      | apply State.discardFrame_keeps | apply State.setEgress_keeps | simp only [keeps_mk] | simp only [keeps_boot]
      | split | refine keeps_snd ‹_ = (_, _)› ?_ | (intro; intros)))

theorem State.macControl_keeps : ∀ (s : State) (p : Nat) (bs : List Byte) (held : Bool), Keeps u s → Keeps u
    (s.macControl p bs held) := by
  intros; unfold State.macControl; try dsimp only
  repeat' (with_reducible (first
      | assumption | apply keeps_ite | apply keeps_foldl | apply State.count64_keeps | apply State.raiseMs_keeps
      | apply State.pauseLoad_keeps | simp only [keeps_mk] | simp only [keeps_boot] | split
      | refine keeps_snd ‹_ = (_, _)› ?_ | (intro; intros)))

theorem State.packOne_keeps : ∀ (s : State) (k i : Nat) (e : StreamEntry) (bs : List Byte) (p : Nat), Keeps u s →
    Keeps u (s.packOne k i e bs p) := by
  intros; unfold State.packOne; try dsimp only
  repeat' (with_reducible (first
      | assumption | apply keeps_ite | apply keeps_foldl | apply State.countEntry_keeps | apply State.noDesc_keeps
      | apply State.takeDesc_keeps | apply State.enqueue_keeps | simp only [keeps_mk] | simp only [keeps_boot]
      | split | refine keeps_snd ‹_ = (_, _)› ?_ | (intro; intros)))

theorem State.frameFails_keeps : ∀ (s : State) (p c : Nat) (f : RxFrame) (g : RxInfo), Keeps u s → Keeps u
    (s.frameFails p c f g) := by
  intros; unfold State.frameFails; try dsimp only
  repeat' (with_reducible (first
      | assumption | apply keeps_ite | apply keeps_foldl | apply State.raiseMs_keeps | apply State.count64_keeps
      | apply State.takeFree_keeps | apply State.stompCut_keeps | simp only [keeps_mk] | simp only [keeps_boot]
      | split | refine keeps_snd ‹_ = (_, _)› ?_ | (intro; intros)))

theorem State.packEntry_keeps : ∀ (s : State) (k i : Nat), Keeps u s → Keeps u (s.packEntry k i) := by
  intros; unfold State.packEntry; try dsimp only
  repeat' (with_reducible (first
      | assumption | apply keeps_ite | apply keeps_foldl | apply State.countEntry_keeps
      | apply State.txSamples_keeps | apply State.packOne_keeps | simp only [keeps_mk] | simp only [keeps_boot]
      | split | refine keeps_snd ‹_ = (_, _)› ?_ | (intro; intros)))

theorem State.packEnqueue_keeps : ∀ (s : State) (k : Nat), Keeps u s → Keeps u (s.packEnqueue k) := by
  intros; unfold State.packEnqueue; try dsimp only
  repeat' (with_reducible (first
      | assumption | apply keeps_ite | apply keeps_foldl | apply State.packEntry_keeps | simp only [keeps_mk]
      | simp only [keeps_boot] | split | refine keeps_snd ‹_ = (_, _)› ?_ | (intro; intros)))

theorem State.freeRetired_keeps : ∀ (s : State), Keeps u s → Keeps u s.freeRetired := by
  intros; unfold State.freeRetired; try dsimp only
  repeat' (with_reducible (first
      | assumption | apply keeps_ite | apply keeps_foldl | simp only [keeps_mk] | simp only [keeps_boot] | split
      | refine keeps_snd ‹_ = (_, _)› ?_ | (intro; intros)))

theorem State.drainPort_keeps : ∀ (s : State) (rs : List (Bool × Nat × Nat × Nat)) (p : Nat), Keeps u s → Keeps u
    (s.drainPort rs p).2 := by
  intros; unfold State.drainPort; try dsimp only
  repeat' (with_reducible (first
      | assumption | apply keeps_ite | apply keeps_foldl | apply State.dropDesc_keeps | apply State.setEgress_keeps
      | simp only [keeps_mk] | simp only [keeps_boot] | split | refine keeps_snd ‹_ = (_, _)› ?_ | (intro; intros)))

theorem State.drainTimeout_keeps : ∀ (s : State) (mac : Bool), Keeps u s → Keeps u (s.drainTimeout mac) := by
  intro s mac h
  have h0 := State.freeRetired_keeps s h
  unfold State.drainTimeout
  dsimp only
  split
  · exact h0
  · exact State.raiseN_keeps _ _ _ (State.countHold_keeps _ _ _ (keeps_foldl2
      (fun _ _ hp => State.drainPort_keeps _ _ _ hp) (keeps_mk.mpr h0)))

theorem State.fillMissed_keeps : ∀ (s : State) (i : Nat) (e : StreamEntry) (m : Nat), Keeps u s → Keeps u
    (s.fillMissed i e m) := by
  intros; unfold State.fillMissed; try dsimp only
  repeat' (with_reducible (first
      | assumption | apply keeps_ite | apply keeps_foldl | apply State.setRxSt_keeps | apply State.raiseStream_keeps
      | apply State.countEntry_keeps | apply State.unitRead_keeps | apply State.unitWrite_keeps
      | simp only [keeps_mk] | simp only [keeps_boot] | split | refine keeps_snd ‹_ = (_, _)› ?_ | (intro; intros)))

theorem State.selectClaim_keeps : ∀ (s : State) (i m : Nat) (h : Held), Keeps u s → Keeps u (s.selectClaim i m h) :=
    by
  intros; unfold State.selectClaim; try dsimp only
  repeat' (with_reducible (first
      | assumption | apply keeps_ite | apply keeps_foldl | apply State.setRxSt_keeps | apply State.countEntry_keeps
      | apply State.setReg_keeps | apply State.raiseStream_keeps | simp only [keeps_mk] | simp only [keeps_boot]
      | split | refine keeps_snd ‹_ = (_, _)› ?_ | (intro; intros)))

theorem State.rxWindowClose_keeps : ∀ (s : State) (i m : Nat), Keeps u s → Keeps u (s.rxWindowClose i m) := by
  intros; unfold State.rxWindowClose; try dsimp only
  repeat' (with_reducible (first
      | assumption | apply keeps_ite | apply keeps_foldl | apply State.fillMissed_keeps
      | apply State.selectClaim_keeps | apply State.feedSignal_keeps | simp only [keeps_mk] | simp only [keeps_boot]
      | split | refine keeps_snd ‹_ = (_, _)› ?_ | (intro; intros)))

theorem State.controlTx_keeps : ∀ (s : State), Keeps u s → Keeps u s.controlTx := by
  intros; unfold State.controlTx; try dsimp only
  repeat' (with_reducible (first
      | assumption | apply keeps_ite | apply keeps_foldl | apply State.hwPop_keeps | apply State.raiseMs_keeps
      | apply State.countHold_keeps | apply State.unitRead_keeps | apply State.takeDesc_keeps
      | apply State.enqueue_keeps | simp only [keeps_mk] | simp only [keeps_boot] | split
      | refine keeps_snd ‹_ = (_, _)› ?_ | (intro; intros)))

theorem State.agingSweep_keeps : ∀ (s : State) (i : Nat) (hit : Bool), Keeps u s → Keeps u (s.agingSweep i hit) := by
  intros; unfold State.agingSweep; try dsimp only
  repeat' (with_reducible (first
      | assumption | apply keeps_ite | apply keeps_foldl | apply State.setMacEntry_keeps
      | apply State.takeFree_keeps | apply State.raiseSec_keeps | apply State.countHold_keeps | simp only [keeps_mk]
      | simp only [keeps_boot] | split | refine keeps_snd ‹_ = (_, _)› ?_ | (intro; intros)))

theorem State.frameReceive_keeps : ∀ (s : State) (p : Nat) (f : RxFrame), Keeps u s → Keeps u (s.frameReceive p f) :=
    by
  intros; unfold State.frameReceive; try dsimp only
  repeat' (with_reducible (first
      | assumption | apply keeps_ite | apply keeps_foldl | apply State.noDesc_keeps | apply State.frameFails_keeps
      | apply State.learn_keeps | apply State.macControl_keeps | apply State.framePasses_keeps
      | simp only [keeps_mk] | simp only [keeps_boot] | split | refine keeps_snd ‹_ = (_, _)› ?_ | (intro; intros)))

theorem State.frameTransmitEnd_keeps : ∀ (s : State) (p : Nat), Keeps u s → Keeps u (s.frameTransmitEnd p) := by
  intros; unfold State.frameTransmitEnd; try dsimp only
  repeat' (with_reducible (first
      | assumption | apply keeps_ite | apply keeps_foldl | apply State.count64_keeps | apply State.countSent_keeps
      | apply State.setEgress_keeps | apply State.endFrame_keeps | simp only [keeps_mk] | simp only [keeps_boot]
      | split | refine keeps_snd ‹_ = (_, _)› ?_ | (intro; intros)))

theorem State.syncUsage_keeps : ∀ (s : State), Keeps u s → Keeps u s.syncUsage := by
  intros; unfold State.syncUsage; try dsimp only
  repeat' (with_reducible (first
      | assumption | apply keeps_ite | apply keeps_foldl | apply State.setRegN_keeps | simp only [keeps_mk]
      | simp only [keeps_boot] | split | refine keeps_snd ‹_ = (_, _)› ?_ | (intro; intros)))

theorem State.endRequest_keeps : ∀ (s : State), Keeps u s → Keeps u s.endRequest := by
  intros; unfold State.endRequest; try dsimp only
  repeat' (with_reducible (first
      | assumption | apply keeps_ite | apply keeps_foldl | apply State.setBit_keeps | simp only [keeps_mk]
      | simp only [keeps_boot] | split | refine keeps_snd ‹_ = (_, _)› ?_ | (intro; intros)))

theorem State.swapTimeout_keeps : ∀ (s : State), Keeps u s → Keeps u s.swapTimeout := by
  intros; unfold State.swapTimeout; try dsimp only
  repeat' (with_reducible (first
      | assumption | apply keeps_ite | apply keeps_foldl | apply State.raiseN_keeps | apply State.endRequest_keeps
      | simp only [keeps_mk] | simp only [keeps_boot] | split | refine keeps_snd ‹_ = (_, _)› ?_ | (intro; intros)))

theorem State.takeReferee_keeps : ∀ (s : State) (type : Nat), Keeps u s → Keeps u (s.takeReferee type).2 := by
  intros; unfold State.takeReferee; try dsimp only
  repeat' (with_reducible (first
      | assumption | apply keeps_ite | apply keeps_foldl | simp only [keeps_mk] | simp only [keeps_boot] | split
      | refine keeps_snd ‹_ = (_, _)› ?_ | (intro; intros)))

theorem State.setRef_keeps : ∀ (s : State) (r : Nat), Keeps u s → Keeps u (s.setRef r) := by
  intros; unfold State.setRef; try dsimp only
  repeat' (with_reducible (first
      | assumption | apply keeps_ite | apply keeps_foldl | apply State.setFld_keeps | simp only [keeps_mk]
      | simp only [keeps_boot] | split | refine keeps_snd ‹_ = (_, _)› ?_ | (intro; intros)))

theorem State.watchHeard_keeps : ∀ (s : State), Keeps u s → Keeps u s.watchHeard := by
  intros; unfold State.watchHeard; try dsimp only
  repeat' (with_reducible (first
      | assumption | apply keeps_ite | apply keeps_foldl | apply State.raiseN_keeps | apply State.setRef_keeps
      | simp only [keeps_mk] | simp only [keeps_boot] | split | refine keeps_snd ‹_ = (_, _)› ?_ | (intro; intros)))

theorem State.setAdopt_keeps : ∀ (s : State) (a : Option Adoption), Keeps u s → Keeps u (s.setAdopt a) := by
  intros; unfold State.setAdopt; try dsimp only
  repeat' (with_reducible (first
      | assumption | apply keeps_ite | apply keeps_foldl | apply State.setBit_keeps | simp only [keeps_mk]
      | simp only [keeps_boot] | split | refine keeps_snd ‹_ = (_, _)› ?_ | (intro; intros)))

theorem State.syncClaim_keeps : ∀ (s : State), Keeps u s → Keeps u s.syncClaim := by
  intros; unfold State.syncClaim; try dsimp only
  repeat' (with_reducible (first
      | assumption | apply keeps_ite | apply keeps_foldl | apply State.setFld_keeps | apply State.setRegN_keeps
      | simp only [keeps_mk] | simp only [keeps_boot] | split | refine keeps_snd ‹_ = (_, _)› ?_ | (intro; intros)))

theorem State.adoptNow_keeps : ∀ (s : State) (a : Adoption) (late : Bool), Keeps u s → Keeps u (s.adoptNow a late) :=
    by
  intros; unfold State.adoptNow; try dsimp only
  repeat' (with_reducible (first
      | assumption | apply keeps_ite | apply keeps_foldl | apply State.setAdopt_keeps | apply State.setBit_keeps
      | apply State.raiseN_keeps | apply State.syncClaim_keeps | simp only [keeps_mk] | simp only [keeps_boot]
      | split | refine keeps_snd ‹_ = (_, _)› ?_ | (intro; intros)))

theorem State.epochFrame_keeps : ∀ (s : State) (h : List Byte), Keeps u s → Keeps u (s.epochFrame h) := by
  intros; unfold State.epochFrame; try dsimp only
  repeat' (with_reducible (first
      | assumption | apply keeps_ite | apply keeps_foldl | apply State.endRequest_keeps
      | apply State.countHold_keeps | apply State.watchHeard_keeps | apply State.adoptNow_keeps
      | apply State.setAdopt_keeps | simp only [keeps_mk] | simp only [keeps_boot] | split
      | refine keeps_snd ‹_ = (_, _)› ?_ | (intro; intros)))

theorem State.trackBlock_keeps : ∀ (s : State) (n m : Nat) (payload : List Byte), Keeps u s → Keeps u (s.trackBlock n
    m payload) := by
  intros; unfold State.trackBlock; try dsimp only
  repeat' (with_reducible (first
      | assumption | apply keeps_ite | apply keeps_foldl | simp only [keeps_mk] | simp only [keeps_boot] | split
      | refine keeps_snd ‹_ = (_, _)› ?_ | (intro; intros)))

theorem State.setSheet_keeps : ∀ (s : State) (x : Sheet), Keeps u s → Keeps u (s.setSheet x) := by
  intros; unfold State.setSheet; try dsimp only
  repeat' (with_reducible (first
      | assumption | apply keeps_ite | apply keeps_foldl | simp only [keeps_mk] | simp only [keeps_boot] | split
      | refine keeps_snd ‹_ = (_, _)› ?_ | (intro; intros)))

theorem State.couch_keeps : ∀ (s : State) (x : Sheet) (p : Nat), Keeps u s → Keeps u (s.couch x p) := by
  intros; unfold State.couch; try dsimp only
  repeat' (with_reducible (first
      | assumption | apply keeps_ite | apply keeps_foldl | apply State.unitWrite_keeps | apply State.healthAdd_keeps
      | apply State.countHold_keeps | apply State.squash_keeps | apply State.raiseFolio_keeps | simp only [keeps_mk]
      | simp only [keeps_boot] | split | refine keeps_snd ‹_ = (_, _)› ?_ | (intro; intros)))

theorem State.comparePhrase_keeps : ∀ (s : State) (x : Sheet) (p : Nat), Keeps u s → Keeps u (s.comparePhrase x p) :=
    by
  intros; unfold State.comparePhrase; try dsimp only
  repeat' (with_reducible (first
      | assumption | apply keeps_ite | apply keeps_foldl | apply State.healthAdd_keeps | apply State.countHold_keeps
      | apply State.raiseFolio_keeps | apply State.setRegN_keeps | apply State.couch_keeps | simp only [keeps_mk]
      | simp only [keeps_boot] | split | refine keeps_snd ‹_ = (_, _)› ?_ | (intro; intros)))

theorem State.sheetCheck_keeps : ∀ (s : State) (x : Sheet) (head : List Byte), Keeps u s → Keeps u (s.sheetCheck x
    head) := by
  intros; unfold State.sheetCheck; try dsimp only
  repeat' (with_reducible (first
      | assumption | apply keeps_ite | apply keeps_foldl | apply State.takeFree_keeps | apply State.raiseFolio_keeps
      | apply State.healthAdd_keeps | apply State.countHold_keeps | apply State.comparePhrase_keeps
      | simp only [keeps_mk] | simp only [keeps_boot] | split | refine keeps_snd ‹_ = (_, _)› ?_ | (intro; intros)))

theorem State.sheetBlock_keeps : ∀ (s : State) (k type phrase offset : Nat) (payload : List Byte), Keeps u s → Keeps u
    (s.sheetBlock k type phrase offset payload) := by
  intros; unfold State.sheetBlock; try dsimp only
  repeat' (with_reducible (first
      | assumption | apply keeps_ite | apply keeps_foldl | apply State.raiseN_keeps | apply State.setSheet_keeps
      | apply State.sheetCheck_keeps | simp only [keeps_mk] | simp only [keeps_boot] | split
      | refine keeps_snd ‹_ = (_, _)› ?_ | (intro; intros)))

theorem State.feltBlockReceive_keeps : ∀ (s : State) (lane : Nat) (bs : List Byte), Keeps u s → Keeps u
    (s.feltBlockReceive lane bs) := by
  intros; unfold State.feltBlockReceive; try dsimp only
  repeat' (with_reducible (first
      | assumption | apply keeps_ite | apply keeps_foldl | apply State.trackBlock_keeps
      | apply State.sheetBlock_keeps | simp only [keeps_mk] | simp only [keeps_boot] | split
      | refine keeps_snd ‹_ = (_, _)› ?_ | (intro; intros)))

theorem State.claimDrop_keeps : ∀ (s : State) (by_ : Nat), Keeps u s → Keeps u (s.claimDrop by_) := by
  intros; unfold State.claimDrop; try dsimp only
  repeat' (with_reducible (first
      | assumption | apply keeps_ite | apply keeps_foldl | apply State.raiseN_keeps | apply State.syncClaim_keeps
      | apply State.setBit_keeps | simp only [keeps_mk] | simp only [keeps_boot] | split
      | refine keeps_snd ‹_ = (_, _)› ?_ | (intro; intros)))

theorem State.swap_keeps : ∀ (s : State), Keeps u s → Keeps u s.swap := by
  intros; unfold State.swap; try dsimp only
  repeat' (with_reducible (first
      | assumption | apply keeps_ite | apply keeps_foldl | apply State.setBit_keeps | apply State.setFld_keeps
      | apply State.raiseN_keeps | simp only [keeps_mk] | simp only [keeps_boot] | split
      | refine keeps_snd ‹_ = (_, _)› ?_ | (intro; intros)))

theorem State.sendReferee_keeps : ∀ (s : State) (type : Nat) (body : List Byte), Keeps u s → Keeps u (s.sendReferee
    type body) := by
  intros; unfold State.sendReferee; try dsimp only
  repeat' (with_reducible (first
      | assumption | apply keeps_ite | apply keeps_foldl | apply State.noDesc_keeps | apply State.enqueue_keeps
      | apply State.takeDesc_keeps | simp only [keeps_mk] | simp only [keeps_boot] | split
      | refine keeps_snd ‹_ = (_, _)› ?_ | (intro; intros)))

theorem State.swapReq_keeps : ∀ (s : State), Keeps u s → Keeps u s.swapReq := by
  intros; unfold State.swapReq; try dsimp only
  repeat' (with_reducible (first
      | assumption | apply keeps_ite | apply keeps_foldl | apply State.sendReferee_keeps | simp only [keeps_mk]
      | simp only [keeps_boot] | split | refine keeps_snd ‹_ = (_, _)› ?_ | (intro; intros)))

theorem State.stateBlocks_keeps : ∀ (s : State) (k p : Nat), Keeps u s → Keeps u (s.stateBlocks k p).2 := by
  intros; unfold State.stateBlocks; try dsimp only
  repeat' (with_reducible (first
      | assumption | apply keeps_ite | apply keeps_foldl | apply State.unitRead_keeps | simp only [keeps_mk]
      | simp only [keeps_boot] | split | refine keeps_snd ‹_ = (_, _)› ?_ | (intro; intros)))

theorem State.allStates_keeps : ∀ (s : State) (k : Nat) (l : List Nat), Keeps u s →
    Keeps u (s.allStates k l).2 := by
  intro s k l h
  induction l generalizing s with
  | nil => exact h
  | cons p l ih => exact ih _ (State.stateBlocks_keeps _ _ _ h)

theorem State.reclaim_keeps : ∀ (s : State), Keeps u s → Keeps u s.reclaim := by
  intros; unfold State.reclaim; try dsimp only
  repeat' (with_reducible (first
      | assumption | apply keeps_ite | apply keeps_foldl | apply State.syncClaim_keeps | apply State.setBit_keeps
      | simp only [keeps_mk] | simp only [keeps_boot] | split | refine keeps_snd ‹_ = (_, _)› ?_ | (intro; intros)))

theorem State.soloInbox_keeps : ∀ (s : State), Keeps u s → Keeps u s.soloInbox := by
  intros; unfold State.soloInbox; try dsimp only
  repeat' (with_reducible (first
      | assumption | apply keeps_ite | apply keeps_foldl | simp only [keeps_mk] | simp only [keeps_boot] | split
      | refine keeps_snd ‹_ = (_, _)› ?_ | (intro; intros)))

theorem State.epochTake_keeps : ∀ (s : State), Keeps u s → Keeps u s.epochTake := by
  intros; unfold State.epochTake; try dsimp only
  repeat' (with_reducible (first
      | assumption | apply keeps_ite | apply keeps_foldl | apply State.adoptNow_keeps | simp only [keeps_mk]
      | simp only [keeps_boot] | split | refine keeps_snd ‹_ = (_, _)› ?_ | (intro; intros)))

theorem State.epochAdopt_keeps : ∀ (s : State) (drop : Option (Fin 3)), Keeps u s → Keeps u (s.epochAdopt drop) := by
  intros; unfold State.epochAdopt; try dsimp only
  repeat' (with_reducible (first
      | assumption | apply keeps_ite | apply keeps_foldl | apply State.epochTake_keeps | apply State.claimDrop_keeps
      | simp only [keeps_mk] | simp only [keeps_boot] | split | refine keeps_snd ‹_ = (_, _)› ?_ | (intro; intros)))

theorem State.loseSheet_keeps : ∀ (s : State) (k : Nat), Keeps u s → Keeps u (s.loseSheet k) := by
  intros; unfold State.loseSheet; try dsimp only
  repeat' (with_reducible (first
      | assumption | apply keeps_ite | apply keeps_foldl | apply State.raiseFolio_keeps
      | apply State.healthAdd_keeps | apply State.countHold_keeps | simp only [keeps_mk] | simp only [keeps_boot]
      | split | refine keeps_snd ‹_ = (_, _)› ?_ | (intro; intros)))

theorem State.deckle_keeps : ∀ (s : State) (p : Nat) (partner : Option (BitVec 5)) (ack : Bool), Keeps u s → Keeps u
    (s.deckle p partner ack) := by
  intros; unfold State.deckle; try dsimp only
  repeat' (with_reducible (first
      | assumption | apply keeps_ite | apply keeps_foldl | apply State.setReg_keeps | apply State.raiseMs_keeps
      | apply State.countHold_keeps | simp only [keeps_mk] | simp only [keeps_boot] | split
      | refine keeps_snd ‹_ = (_, _)› ?_ | (intro; intros)))

theorem State.swapRefused_keeps : ∀ (s : State), Keeps u s → Keeps u s.swapRefused := by
  intros; unfold State.swapRefused; try dsimp only
  repeat' (with_reducible (first
      | assumption | apply keeps_ite | apply keeps_foldl | apply State.takeReferee_keeps | apply State.setFld_keeps
      | apply State.endRequest_keeps | apply State.raiseN_keeps | simp only [keeps_mk] | simp only [keeps_boot]
      | split | refine keeps_snd ‹_ = (_, _)› ?_ | (intro; intros)))

theorem State.refLost_keeps : ∀ (s : State), Keeps u s → Keeps u s.refLost := by
  intros; unfold State.refLost; try dsimp only
  repeat' (with_reducible (first
      | assumption | apply keeps_ite | apply keeps_foldl | apply State.raiseN_keeps | apply State.setRef_keeps
      | simp only [keeps_mk] | simp only [keeps_boot] | split | refine keeps_snd ‹_ = (_, _)› ?_ | (intro; intros)))

theorem State.heartbeat_keeps : ∀ (s : State) (k : Nat), Keeps u s → Keeps u (s.heartbeat k) := by
  intros; unfold State.heartbeat; try dsimp only
  repeat' (with_reducible (first
      | assumption | apply keeps_ite | apply keeps_foldl | apply State.sendReferee_keeps | simp only [keeps_mk]
      | simp only [keeps_boot] | split | refine keeps_snd ‹_ = (_, _)› ?_ | (intro; intros)))

theorem State.sheetsFrom_keeps : ∀ (s : State) (r : Nat), Keeps u s → Keeps u (s.sheetsFrom r) := by
  intros; unfold State.sheetsFrom; try dsimp only
  repeat' (with_reducible (first
      | assumption | apply keeps_ite | apply keeps_foldl | simp only [keeps_mk] | simp only [keeps_boot] | split
      | refine keeps_snd ‹_ = (_, _)› ?_ | (intro; intros)))

theorem State.feltLanes_keeps : ∀ (s : State), Keeps u s → Keeps u s.feltLanes := by
  intros; unfold State.feltLanes; try dsimp only
  repeat' (with_reducible (first
      | assumption | apply keeps_ite | apply keeps_foldl | apply State.laneStart_keeps | apply State.laneGo_keeps
      | simp only [keeps_mk] | simp only [keeps_boot] | split | refine keeps_snd ‹_ = (_, _)› ?_ | (intro; intros)))

theorem State.setFeltOut_keeps : ∀ (s : State) (blocks : List (List Byte)), Keeps u s → Keeps u (s.setFeltOut blocks)
    := by
  intros; unfold State.setFeltOut; try dsimp only
  repeat' (with_reducible (first
      | assumption | apply keeps_ite | apply keeps_foldl | simp only [keeps_mk] | simp only [keeps_boot] | split
      | refine keeps_snd ‹_ = (_, _)› ?_ | (intro; intros)))

theorem State.feltTrackSend_keeps : ∀ (s : State) (n m : Nat), Keeps u s → Keeps u (s.feltTrackSend n m) := by
  intros; unfold State.feltTrackSend; try dsimp only
  repeat' (with_reducible (first
      | assumption | apply keeps_ite | apply keeps_foldl | apply State.setFeltOut_keeps | simp only [keeps_mk]
      | simp only [keeps_boot] | split | refine keeps_snd ‹_ = (_, _)› ?_ | (intro; intros)))

theorem State.epochReceive_keeps : ∀ (s : State), Keeps u s → Keeps u s.epochReceive := by
  intros; unfold State.epochReceive; try dsimp only
  repeat' (with_reducible (first
      | assumption | apply keeps_ite | apply keeps_foldl | apply State.takeReferee_keeps
      | apply State.epochFrame_keeps | simp only [keeps_mk] | simp only [keeps_boot] | split
      | refine keeps_snd ‹_ = (_, _)› ?_ | (intro; intros)))

theorem State.sheetLoss_keeps : ∀ (s : State) (r : Nat), Keeps u s → Keeps u (s.sheetLoss r) := by
  intros; unfold State.sheetLoss; try dsimp only
  repeat' (with_reducible (first
      | assumption | apply keeps_ite | apply keeps_foldl | apply State.sheetsFrom_keeps
      | apply State.loseSheet_keeps | simp only [keeps_mk] | simp only [keeps_boot] | split
      | refine keeps_snd ‹_ = (_, _)› ?_ | (intro; intros)))

theorem State.holdoffExpiry_keeps : ∀ (s : State), Keeps u s → Keeps u s.holdoffExpiry := by
  intros; unfold State.holdoffExpiry; try dsimp only
  repeat' (with_reducible (first
      | assumption | apply keeps_ite | apply keeps_foldl | apply State.setFld_keeps | simp only [keeps_mk]
      | simp only [keeps_boot] | split | refine keeps_snd ‹_ = (_, _)› ?_ | (intro; intros)))

theorem State.healthFrame_keeps : ∀ (s : State) (k : Nat), Keeps u s → Keeps u (s.healthFrame k) := by
  intros; unfold State.healthFrame; try dsimp only
  repeat' (with_reducible (first
      | assumption | apply keeps_ite | apply keeps_foldl | apply State.sendReferee_keeps | simp only [keeps_mk]
      | simp only [keeps_boot] | split | refine keeps_snd ‹_ = (_, _)› ?_ | (intro; intros)))

theorem State.redunBoundary_keeps : ∀ (s : State) (k : Nat), Keeps u s → Keeps u (s.redunBoundary k) := by
  intros; unfold State.redunBoundary; try dsimp only
  repeat' (with_reducible (first
      | assumption | apply keeps_ite | apply keeps_foldl | apply State.setFld_keeps | apply State.swapReq_keeps
      | apply State.heartbeat_keeps | apply State.healthFrame_keeps | simp only [keeps_mk] | simp only [keeps_boot]
      | split | refine keeps_snd ‹_ = (_, _)› ?_ | (intro; intros)))

theorem State.feltSheetSend_keeps : ∀ (s : State) (k : Nat), Keeps u s → Keeps u (s.feltSheetSend k) := by
  intros; unfold State.feltSheetSend; try dsimp only
  repeat' (with_reducible (first
      | assumption | apply keeps_ite | apply keeps_foldl | apply State.allStates_keeps
      | apply State.setFeltOut_keeps | simp only [keeps_mk] | simp only [keeps_boot] | split
      | refine keeps_snd ‹_ = (_, _)› ?_ | (intro; intros)))

theorem State.claimForm_keeps : ∀ (s : State), Keeps u s → Keeps u s.claimForm := by
  intros; unfold State.claimForm; try dsimp only
  repeat' (with_reducible (first
      | assumption | apply keeps_ite | apply keeps_foldl | apply State.setAdopt_keeps | apply State.setRef_keeps
      | apply State.feltLanes_keeps | apply State.soloInbox_keeps | apply State.syncClaim_keeps
      | simp only [keeps_mk] | simp only [keeps_boot] | split | refine keeps_snd ‹_ = (_, _)› ?_ | (intro; intros)))

theorem State.sapPut_keeps : ∀ (s : State) (p m j : Nat) (l r : Word), Keeps u s → Keeps u (s.sapPut p m j l r) := by
  intros; unfold State.sapPut; try dsimp only
  repeat' (with_reducible (first
      | assumption | apply keeps_ite | apply keeps_foldl | apply State.unitPut_keeps | simp only [keeps_mk]
      | simp only [keeps_boot] | split | refine keeps_snd ‹_ = (_, _)› ?_ | (intro; intros)))

theorem State.setSapSt_keeps : ∀ (s : State) (p : Nat) (c : SapSt), Keeps u s → Keeps u (s.setSapSt p c) := by
  intros; unfold State.setSapSt; try dsimp only
  repeat' (with_reducible (first
      | assumption | apply keeps_ite | apply keeps_foldl | simp only [keeps_mk] | simp only [keeps_boot] | split
      | refine keeps_snd ‹_ = (_, _)› ?_ | (intro; intros)))

theorem State.sapFeed_keeps : ∀ (s : State) (p m : Nat), Keeps u s → Keeps u (s.sapFeed p m) := by
  intros; unfold State.sapFeed; try dsimp only
  repeat' (with_reducible (first
      | assumption | apply keeps_ite | apply keeps_foldl | apply State.feedSignal_keeps | apply State.setSapSt_keeps
      | simp only [keeps_mk] | simp only [keeps_boot] | split | refine keeps_snd ‹_ = (_, _)› ?_ | (intro; intros)))

theorem State.sapGrid_keeps : ∀ (s : State) (p n : Nat) (l r : Word), Keeps u s → Keeps u (s.sapGrid p n l r) := by
  intros; unfold State.sapGrid; try dsimp only
  repeat' (with_reducible (first
      | assumption | apply keeps_ite | apply keeps_foldl | apply State.sapPut_keeps | apply State.setSapSt_keeps
      | apply State.sapFeed_keeps | simp only [keeps_mk] | simp only [keeps_boot] | split
      | refine keeps_snd ‹_ = (_, _)› ?_ | (intro; intros)))

theorem State.setSapState_keeps : ∀ (s : State) (p st : Nat), Keeps u s → Keeps u (s.setSapState p st) := by
  intros; unfold State.setSapState; try dsimp only
  repeat' (with_reducible (first
      | assumption | apply keeps_ite | apply keeps_foldl | apply State.setFld_keeps | simp only [keeps_mk]
      | simp only [keeps_boot] | split | refine keeps_snd ‹_ = (_, _)› ?_ | (intro; intros)))

theorem State.sapSeek_keeps : ∀ (s : State) (p : Nat), Keeps u s → Keeps u (s.sapSeek p) := by
  intros; unfold State.sapSeek; try dsimp only
  repeat' (with_reducible (first
      | assumption | apply keeps_ite | apply keeps_foldl | apply State.setSapState_keeps
      | apply State.setSapSt_keeps | simp only [keeps_mk] | simp only [keeps_boot] | split
      | refine keeps_snd ‹_ = (_, _)› ?_ | (intro; intros)))

theorem State.sapRaise_keeps : ∀ (s : State) (p src w3 : Nat), Keeps u s → Keeps u (s.sapRaise p src w3) := by
  intros; unfold State.sapRaise; try dsimp only
  repeat' (with_reducible (first
      | assumption | apply keeps_ite | apply keeps_foldl | apply State.raiseFolio_keeps | simp only [keeps_mk]
      | simp only [keeps_boot] | split | refine keeps_snd ‹_ = (_, _)› ?_ | (intro; intros)))

theorem State.sapRxMiss_keeps : ∀ (s : State) (p k : Nat), Keeps u s → Keeps u (s.sapRxMiss p k) := by
  intros; unfold State.sapRxMiss; try dsimp only
  repeat' (with_reducible (first
      | assumption | apply keeps_ite | apply keeps_foldl | apply State.sapPut_keeps | apply State.sapFeed_keeps
      | apply State.sapRaise_keeps | apply State.countHold_keeps | simp only [keeps_mk] | simp only [keeps_boot]
      | split | refine keeps_snd ‹_ = (_, _)› ?_ | (intro; intros)))

theorem State.sapMeasure_keeps : ∀ (s : State) (p : Nat) (f : SapFrame), Keeps u s → Keeps u (s.sapMeasure p f) := by
  intros; unfold State.sapMeasure; try dsimp only
  repeat' (with_reducible (first
      | assumption | apply keeps_ite | apply keeps_foldl | apply State.setFld_keeps | simp only [keeps_mk]
      | simp only [keeps_boot] | split | refine keeps_snd ‹_ = (_, _)› ?_ | (intro; intros)))

theorem State.sapRun_keeps : ∀ (s : State) (p : Nat), Keeps u s → Keeps u (s.sapRun p) := by
  intros; unfold State.sapRun; try dsimp only
  repeat' (with_reducible (first
      | assumption | apply keeps_ite | apply keeps_foldl | apply State.setSapState_keeps
      | apply State.setSapSt_keeps | apply State.setReg64_keeps | apply State.sapRaise_keeps | simp only [keeps_mk]
      | simp only [keeps_boot] | split | refine keeps_snd ‹_ = (_, _)› ?_ | (intro; intros)))

theorem State.sapInSeek_keeps : ∀ (s : State) (p cause : Nat), Keeps u s → Keeps u (s.sapInSeek p cause) := by
  intros; unfold State.sapInSeek; try dsimp only
  repeat' (with_reducible (first
      | assumption | apply keeps_ite | apply keeps_foldl | apply State.setSapSt_keeps | apply State.sapRun_keeps
      | simp only [keeps_mk] | simp only [keeps_boot] | split | refine keeps_snd ‹_ = (_, _)› ?_ | (intro; intros)))

theorem State.sapBlock_keeps : ∀ (s : State) (p i start : Nat) (l r : Word), Keeps u s → Keeps u (s.sapBlock p i start
    l r) := by
  intros; unfold State.sapBlock; try dsimp only
  repeat' (with_reducible (first
      | assumption | apply keeps_ite | apply keeps_foldl | apply State.setSapSt_keeps | apply State.srcBlock_keeps
      | simp only [keeps_mk] | simp only [keeps_boot] | split | refine keeps_snd ‹_ = (_, _)› ?_ | (intro; intros)))

theorem State.sapData_keeps : ∀ (s : State) (p start : Nat) (l r : Word), Keeps u s → Keeps u (s.sapData p start l r)
    := by
  intros; unfold State.sapData; try dsimp only
  repeat' (with_reducible (first
      | assumption | apply keeps_ite | apply keeps_foldl | apply State.sapBlock_keeps | apply State.setReg64_keeps
      | apply State.sapGrid_keeps | simp only [keeps_mk] | simp only [keeps_boot] | split
      | refine keeps_snd ‹_ = (_, _)› ?_ | (intro; intros)))

theorem State.sapInRun_keeps : ∀ (s : State) (p cause : Nat) (f : SapFrame), Keeps u s → Keeps u (s.sapInRun p cause
    f) := by
  intros; unfold State.sapInRun; try dsimp only
  repeat' (with_reducible (first
      | assumption | apply keeps_ite | apply keeps_foldl | apply State.sapData_keeps | apply State.setSapSt_keeps
      | apply State.sapRaise_keeps | apply State.countHold_keeps | apply State.sapSeek_keeps | simp only [keeps_mk]
      | simp only [keeps_boot] | split | refine keeps_snd ‹_ = (_, _)› ?_ | (intro; intros)))

theorem State.sapHeld_keeps : ∀ (s : State) (p : Nat), Keeps u s → Keeps u (s.sapHeld p) := by
  intros; unfold State.sapHeld; try dsimp only
  repeat' (with_reducible (first
      | assumption | apply keeps_ite | apply keeps_foldl | apply State.setSapSt_keeps | simp only [keeps_mk]
      | simp only [keeps_boot] | split | refine keeps_snd ‹_ = (_, _)› ?_ | (intro; intros)))

theorem State.srcOut_keeps : ∀ (s : State) (p side i n : Nat), Keeps u s → Keeps u (s.srcOut p side i n).2 := by
  intros; unfold State.srcOut; try dsimp only
  repeat' (with_reducible (first
      | assumption | apply keeps_ite | apply keeps_foldl | apply State.setSrcCh_keeps | simp only [keeps_mk]
      | simp only [keeps_boot] | split | refine keeps_snd ‹_ = (_, _)› ?_ | (intro; intros)))

theorem State.sapSamples_keeps : ∀ (s : State) (p start : Nat), Keeps u s → Keeps u (s.sapSamples p start).2.2 := by
  intros; unfold State.sapSamples; try dsimp only
  repeat' (with_reducible (first
      | assumption | apply keeps_ite | apply keeps_foldl | apply State.srcOut_keeps | simp only [keeps_mk]
      | simp only [keeps_boot] | split | refine keeps_snd ‹_ = (_, _)› ?_ | (intro; intros)))

theorem State.sapStart_keeps : ∀ (s : State) (p start : Nat), Keeps u s → Keeps u (s.sapStart p start) := by
  intros; unfold State.sapStart; try dsimp only
  repeat' (with_reducible (first
      | assumption | apply keeps_ite | apply keeps_foldl | apply State.setSapSt_keeps | apply State.sapHeld_keeps
      | apply State.sapSamples_keeps | simp only [keeps_mk] | simp only [keeps_boot] | split
      | refine keeps_snd ‹_ = (_, _)› ?_ | (intro; intros)))

theorem State.sapFrame_keeps : ∀ (s : State) (p : Nat) (f : SapFrame), Keeps u s → Keeps u (s.sapFrame p f) := by
  intros; unfold State.sapFrame; try dsimp only
  repeat' (with_reducible (first
      | assumption | apply keeps_ite | apply keeps_foldl | apply State.sapMeasure_keeps | apply State.sapSeek_keeps
      | apply State.sapInSeek_keeps | apply State.sapInRun_keeps | apply State.sapStart_keeps | simp only [keeps_mk]
      | simp only [keeps_boot] | split | refine keeps_snd ‹_ = (_, _)› ?_ | (intro; intros)))

theorem State.sapLost_keeps : ∀ (s : State) (p : Nat) (edge : Bool), Keeps u s → Keeps u (s.sapLost p edge) := by
  intros; unfold State.sapLost; try dsimp only
  repeat' (with_reducible (first
      | assumption | apply keeps_ite | apply keeps_foldl | apply State.setSapState_keeps
      | apply State.setSapSt_keeps | apply State.srcLost_keeps | apply State.sapRaise_keeps | simp only [keeps_mk]
      | simp only [keeps_boot] | split | refine keeps_snd ‹_ = (_, _)› ?_ | (intro; intros)))

theorem State.sapCtrlWrite_keeps : ∀ (s : State) (p : Nat) (data : Word), Keeps u s → Keeps u (s.sapCtrlWrite p data)
    := by
  intros; unfold State.sapCtrlWrite; try dsimp only
  repeat' (with_reducible (first
      | assumption | apply keeps_ite | apply keeps_foldl | apply State.raiseFolio_keeps | apply State.writeRw_keeps
      | apply State.sapSeek_keeps | apply State.setSapState_keeps | apply State.setSapSt_keeps
      | simp only [keeps_mk] | simp only [keeps_boot] | split | refine keeps_snd ‹_ = (_, _)› ?_ | (intro; intros)))

theorem State.lockV_keeps : ∀ (s : State) (x : Nat) (v : BitVec 8), Keeps u s → Keeps u (s.lockV x v) := by
  intros; unfold State.lockV; try dsimp only
  repeat' (with_reducible (first
      | assumption | apply keeps_ite | apply keeps_foldl | apply State.setFld_keeps | simp only [keeps_mk]
      | simp only [keeps_boot] | split | refine keeps_snd ‹_ = (_, _)› ?_ | (intro; intros)))

theorem State.resyncAin_keeps : ∀ (s : State) (cause : Nat), Keeps u s → Keeps u (s.resyncAin cause) := by
  intros; unfold State.resyncAin; try dsimp only
  repeat' (with_reducible (first
      | assumption | apply keeps_ite | apply keeps_foldl | simp only [keeps_mk] | simp only [keeps_boot] | split
      | refine keeps_snd ‹_ = (_, _)› ?_ | (intro; intros)))

theorem State.resyncAout_keeps : ∀ (s : State), Keeps u s → Keeps u s.resyncAout := by
  intros; unfold State.resyncAout; try dsimp only
  repeat' (with_reducible (first
      | assumption | apply keeps_ite | apply keeps_foldl | simp only [keeps_mk] | simp only [keeps_boot] | split
      | refine keeps_snd ‹_ = (_, _)› ?_ | (intro; intros)))

theorem State.resync_keeps : ∀ (s : State) (x cause : Nat), Keeps u s → Keeps u (s.resync x cause) := by
  intros; unfold State.resync; try dsimp only
  repeat' (with_reducible (first
      | assumption | apply keeps_ite | apply keeps_foldl | apply State.resyncAin_keeps
      | apply State.resyncAout_keeps | simp only [keeps_mk] | simp only [keeps_boot] | split
      | refine keeps_snd ‹_ = (_, _)› ?_ | (intro; intros)))

theorem State.synthLock_keeps : ∀ (s : State) (x : Nat) (v : BitVec 8), Keeps u s → Keeps u (s.synthLock x v) := by
  intros; unfold State.synthLock; try dsimp only
  repeat' (with_reducible (first
      | assumption | apply keeps_ite | apply keeps_foldl | apply State.lockV_keeps | apply State.setBit_keeps
      | apply State.resync_keeps | apply State.raiseN_keeps | simp only [keeps_mk] | simp only [keeps_boot] | split
      | refine keeps_snd ‹_ = (_, _)› ?_ | (intro; intros)))

theorem State.lockFalls_keeps : ∀ (s : State) (x : Nat) (v : BitVec 8), Keeps u s → Keeps u (s.lockFalls x v) := by
  intros; unfold State.lockFalls; try dsimp only
  repeat' (with_reducible (first
      | assumption | apply keeps_ite | apply keeps_foldl | apply State.raiseN_keeps | apply State.setBit_keeps
      | simp only [keeps_mk] | simp only [keeps_boot] | split | refine keeps_snd ‹_ = (_, _)› ?_ | (intro; intros)))

theorem State.synthUnlock_keeps : ∀ (s : State) (x : Nat) (v : BitVec 8), Keeps u s → Keeps u (s.synthUnlock x v) :=
    by
  intros; unfold State.synthUnlock; try dsimp only
  repeat' (with_reducible (first
      | assumption | apply keeps_ite | apply keeps_foldl | apply State.lockV_keeps | apply State.lockFalls_keeps
      | simp only [keeps_mk] | simp only [keeps_boot] | split | refine keeps_snd ‹_ = (_, _)› ?_ | (intro; intros)))

theorem State.synthFilterErr_keeps : ∀ (s : State) (x : Nat) (v : BitVec 8), Keeps u s → Keeps u (s.synthFilterErr x
    v) := by
  intros; unfold State.synthFilterErr; try dsimp only
  repeat' (with_reducible (first
      | assumption | apply keeps_ite | apply keeps_foldl | apply State.lockV_keeps | apply State.raiseN_keeps
      | apply State.setBit_keeps | simp only [keeps_mk] | simp only [keeps_boot] | split
      | refine keeps_snd ‹_ = (_, _)› ?_ | (intro; intros)))

theorem State.updateCode_keeps : ∀ (s : State) (x : Nat), Keeps u s → Keeps u (s.updateCode x).2 := by
  intros; unfold State.updateCode; try dsimp only
  repeat' (with_reducible (first
      | assumption | apply keeps_ite | apply keeps_foldl | apply State.takeFree_keeps | simp only [keeps_mk]
      | simp only [keeps_boot] | split | refine keeps_snd ‹_ = (_, _)› ?_ | (intro; intros)))

theorem State.synthRefuse_keeps : ∀ (s : State) (x code : Nat), Keeps u s → Keeps u (s.synthRefuse x code) := by
  intros; unfold State.synthRefuse; try dsimp only
  repeat' (with_reducible (first
      | assumption | apply keeps_ite | apply keeps_foldl | apply State.raiseN_keeps | apply State.setBit_keeps
      | apply State.setFld_keeps | simp only [keeps_mk] | simp only [keeps_boot] | split
      | refine keeps_snd ‹_ = (_, _)› ?_ | (intro; intros)))

theorem State.synthApply_keeps : ∀ (s : State) (x : Nat), Keeps u s → Keeps u (s.synthApply x) := by
  intros; unfold State.synthApply; try dsimp only
  repeat' (with_reducible (first
      | assumption | apply keeps_ite | apply keeps_foldl | apply State.setReg_keeps | simp only [keeps_mk]
      | simp only [keeps_boot] | split | refine keeps_snd ‹_ = (_, _)› ?_ | (intro; intros)))

theorem State.resyncUpdate_keeps : ∀ (s t : State) (x : Nat), Keeps u s → Keeps u t → Keeps u (s.resyncUpdate t x) :=
    by
  intros; unfold State.resyncUpdate; try dsimp only
  repeat' (with_reducible (first
      | assumption | apply keeps_ite | apply keeps_foldl | apply State.resyncAin_keeps
      | apply State.resyncAout_keeps | simp only [keeps_mk] | simp only [keeps_boot] | split
      | refine keeps_snd ‹_ = (_, _)› ?_ | (intro; intros)))

theorem State.synthUpdate_keeps : ∀ (s : State) (x : Nat), Keeps u s → Keeps u (s.synthUpdate x) := by
  intros; unfold State.synthUpdate; try dsimp only
  repeat' (with_reducible (first
      | assumption | apply keeps_ite | apply keeps_foldl | apply State.updateCode_keeps
      | apply State.synthRefuse_keeps | apply State.synthApply_keeps | apply State.setBit_keeps
      | apply State.resyncUpdate_keeps | apply State.setReg_keeps | simp only [keeps_mk] | simp only [keeps_boot]
      | split | refine keeps_snd ‹_ = (_, _)› ?_ | (intro; intros)))

theorem State.synthEnable_keeps : ∀ (s : State) (x : Nat) (data : Word), Keeps u s → Keeps u (s.synthEnable x data) :=
    by
  intros; unfold State.synthEnable; try dsimp only
  repeat' (with_reducible (first
      | assumption | apply keeps_ite | apply keeps_foldl | apply State.setBit_keeps | simp only [keeps_mk]
      | simp only [keeps_boot] | split | refine keeps_snd ‹_ = (_, _)› ?_ | (intro; intros)))

theorem State.synthStage_keeps : ∀ (s : State) (a : Nat) (w : Word), Keeps u s → Keeps u (s.synthStage a w) := by
  intros; unfold State.synthStage; try dsimp only
  repeat' (with_reducible (first
      | assumption | apply keeps_ite | apply keeps_foldl | simp only [keeps_mk] | simp only [keeps_boot] | split
      | refine keeps_snd ‹_ = (_, _)› ?_ | (intro; intros)))

theorem State.synthSched_keeps : ∀ (s : State) (x : Nat), Keeps u s → Keeps u (s.synthSched x) := by
  intros; unfold State.synthSched; try dsimp only
  repeat' (with_reducible (first
      | assumption | apply keeps_ite | apply keeps_foldl | apply State.synthRefuse_keeps | apply State.setBit_keeps
      | simp only [keeps_mk] | simp only [keeps_boot] | split | refine keeps_snd ‹_ = (_, _)› ?_ | (intro; intros)))

theorem State.synthFastLoss_keeps : ∀ (s : State) (x : Nat) (v : BitVec 8), Keeps u s → Keeps u (s.synthFastLoss x v)
    := by
  intros; unfold State.synthFastLoss; try dsimp only
  repeat' (with_reducible (first
      | assumption | apply keeps_ite | apply keeps_foldl | apply State.lockV_keeps | apply State.lockFalls_keeps
      | simp only [keeps_mk] | simp only [keeps_boot] | split | refine keeps_snd ‹_ = (_, _)› ?_ | (intro; intros)))

theorem State.steerFolio_keeps : ∀ (s : State) (x : Nat) (err : Int), Keeps u s → Keeps u (s.steerFolio x err) := by
  intros; unfold State.steerFolio; try dsimp only
  repeat' (with_reducible (first
      | assumption | apply keeps_ite | apply keeps_foldl | apply State.setReg_keeps | simp only [keeps_mk]
      | simp only [keeps_boot] | split | refine keeps_snd ‹_ = (_, _)› ?_ | (intro; intros)))

theorem State.setAinCal_keeps : ∀ (s : State) (c st : Nat), Keeps u s → Keeps u (s.setAinCal c st) := by
  intros; unfold State.setAinCal; try dsimp only
  repeat' (with_reducible (first
      | assumption | apply keeps_ite | apply keeps_foldl | apply State.setFld_keeps | simp only [keeps_mk]
      | simp only [keeps_boot] | split | refine keeps_snd ‹_ = (_, _)› ?_ | (intro; intros)))

theorem State.ainStale_keeps : ∀ (s : State) (c : Nat) (r : CalRec), Keeps u s → Keeps u (s.ainStale c r) := by
  intros; unfold State.ainStale; try dsimp only
  repeat' (with_reducible (first
      | assumption | apply keeps_ite | apply keeps_foldl | apply State.takeFree_keeps | apply State.raiseN_keeps
      | apply State.setAinCal_keeps | simp only [keeps_mk] | simp only [keeps_boot] | split
      | refine keeps_snd ‹_ = (_, _)› ?_ | (intro; intros)))

theorem State.recheckCh_keeps : ∀ (s : State) (c : Nat), Keeps u s → Keeps u (s.recheckCh c) := by
  intros; unfold State.recheckCh; try dsimp only
  repeat' (with_reducible (first
      | assumption | apply keeps_ite | apply keeps_foldl | apply State.setAinCal_keeps | apply State.ainStale_keeps
      | simp only [keeps_mk] | simp only [keeps_boot] | split | refine keeps_snd ‹_ = (_, _)› ?_ | (intro; intros)))

theorem State.recheckAin_keeps : ∀ (s : State), Keeps u s → Keeps u s.recheckAin := by
  intros; unfold State.recheckAin; try dsimp only
  repeat' (with_reducible (first
      | assumption | apply keeps_ite | apply keeps_foldl | apply State.recheckCh_keeps | simp only [keeps_mk]
      | simp only [keeps_boot] | split | refine keeps_snd ‹_ = (_, _)› ?_ | (intro; intros)))

theorem State.ainSettled_keeps : ∀ (s : State) (k : Nat), Keeps u s → Keeps u (s.ainSettled k) := by
  intros; unfold State.ainSettled; try dsimp only
  repeat' (with_reducible (first
      | assumption | apply keeps_ite | apply keeps_foldl | apply State.setBit_keeps | apply State.setFld_keeps
      | simp only [keeps_mk] | simp only [keeps_boot] | split | refine keeps_snd ‹_ = (_, _)› ?_ | (intro; intros)))

theorem State.setPhantom_keeps : ∀ (s : State) (c : Nat) (p : Phantom), Keeps u s → Keeps u (s.setPhantom c p) := by
  intros; unfold State.setPhantom; try dsimp only
  repeat' (with_reducible (first
      | assumption | apply keeps_ite | apply keeps_foldl | apply State.setBit_keeps | simp only [keeps_mk]
      | simp only [keeps_boot] | split | refine keeps_snd ‹_ = (_, _)› ?_ | (intro; intros)))

theorem State.ainChannel_keeps : ∀ (s : State) (k c : Nat) (clip : Bool) (xs : List Word), Keeps u s → Keeps u
    (s.ainChannel k c clip xs) := by
  intros; unfold State.ainChannel; try dsimp only
  repeat' (with_reducible (first
      | assumption | apply keeps_ite | apply keeps_foldl | apply State.setPhantom_keeps | apply State.unitPut_keeps
      | simp only [keeps_mk] | simp only [keeps_boot] | split | refine keeps_snd ‹_ = (_, _)› ?_ | (intro; intros)))

theorem State.ainBlock_keeps : ∀ (s : State) (k : Nat) (samples : List (List Word)) (overload : BitVec 16), Keeps u s
    → Keeps u (s.ainBlock k samples overload) := by
  intros; unfold State.ainBlock; try dsimp only
  repeat' (with_reducible (first
      | assumption | apply keeps_ite | apply keeps_foldl | apply State.ainSettled_keeps
      | apply State.ainChannel_keeps | apply State.raiseFolio_keeps | apply State.countHold_keeps
      | apply State.feedSignal_keeps | simp only [keeps_mk] | simp only [keeps_boot] | split
      | refine keeps_snd ‹_ = (_, _)› ?_ | (intro; intros)))

theorem State.showCal_keeps : ∀ (s : State) (a : Nat) (r : CalRec), Keeps u s → Keeps u (s.showCal a r) := by
  intros; unfold State.showCal; try dsimp only
  repeat' (with_reducible (first
      | assumption | apply keeps_ite | apply keeps_foldl | apply State.setRegN_keeps | apply State.setReg_keeps
      | simp only [keeps_mk] | simp only [keeps_boot] | split | refine keeps_snd ‹_ = (_, _)› ?_ | (intro; intros)))

theorem State.ainServe_keeps : ∀ (s : State) (c m : Nat), Keeps u s → Keeps u (s.ainServe c m) := by
  intros; unfold State.ainServe; try dsimp only
  repeat' (with_reducible (first
      | assumption | apply keeps_ite | apply keeps_foldl | apply State.setFld_keeps | apply State.setReg_keeps
      | apply State.showCal_keeps | apply State.setAinCal_keeps | apply State.ainStale_keeps | simp only [keeps_mk]
      | simp only [keeps_boot] | split | refine keeps_snd ‹_ = (_, _)› ?_ | (intro; intros)))

theorem State.ainTake_keeps : ∀ (s : State) (st : CalStep) (k : Nat), Keeps u s → Keeps u (s.ainTake st k) := by
  intros; unfold State.ainTake; try dsimp only
  repeat' (with_reducible (first
      | assumption | apply keeps_ite | apply keeps_foldl | apply State.ainServe_keeps | simp only [keeps_mk]
      | simp only [keeps_boot] | split | refine keeps_snd ‹_ = (_, _)› ?_ | (intro; intros)))

theorem State.ainBoundary_keeps : ∀ (s : State) (k : Nat), Keeps u s → Keeps u (s.ainBoundary k) := by
  intros; unfold State.ainBoundary; try dsimp only
  repeat' (with_reducible (first
      | assumption | apply keeps_ite | apply keeps_foldl | apply State.ainTake_keeps | simp only [keeps_mk]
      | simp only [keeps_boot] | split | refine keeps_snd ‹_ = (_, _)› ?_ | (intro; intros)))

theorem State.spareCal_keeps : ∀ (s : State) (m : Nat), Keeps u s → Keeps u (s.spareCal m) := by
  intros; unfold State.spareCal; try dsimp only
  repeat' (with_reducible (first
      | assumption | apply keeps_ite | apply keeps_foldl | simp only [keeps_mk] | simp only [keeps_boot] | split
      | refine keeps_snd ‹_ = (_, _)› ?_ | (intro; intros)))

theorem State.ainGain_keeps : ∀ (s : State) (c : Nat), Keeps u s → Keeps u (s.ainGain c) := by
  intros; unfold State.ainGain; try dsimp only
  repeat' (with_reducible (first
      | assumption | apply keeps_ite | apply keeps_foldl | simp only [keeps_mk] | simp only [keeps_boot] | split
      | refine keeps_snd ‹_ = (_, _)› ?_ | (intro; intros)))

theorem State.ainCalDone_keeps : ∀ (s : State) (r : CalRecord), Keeps u s → Keeps u (s.ainCalDone r) := by
  intros; unfold State.ainCalDone; try dsimp only
  repeat' (with_reducible (first
      | assumption | apply keeps_ite | apply keeps_foldl | apply State.ainTake_keeps | apply State.raiseN_keeps
      | apply State.setBit_keeps | apply State.setFld_keeps | simp only [keeps_mk] | simp only [keeps_boot] | split
      | refine keeps_snd ‹_ = (_, _)› ?_ | (intro; intros)))

theorem State.phantomEnd_keeps : ∀ (s : State) (c : Nat), Keeps u s → Keeps u (s.phantomEnd c) := by
  intros; unfold State.phantomEnd; try dsimp only
  repeat' (with_reducible (first
      | assumption | apply keeps_ite | apply keeps_foldl | apply State.setPhantom_keeps | simp only [keeps_mk]
      | simp only [keeps_boot] | split | refine keeps_snd ‹_ = (_, _)› ?_ | (intro; intros)))

theorem State.ainEnable_keeps : ∀ (s : State) (data : Word), Keeps u s → Keeps u (s.ainEnable data) := by
  intros; unfold State.ainEnable; try dsimp only
  repeat' (with_reducible (first
      | assumption | apply keeps_ite | apply keeps_foldl | apply State.writeRw_keeps | apply State.setAinCal_keeps
      | apply State.spareCal_keeps | apply State.setBit_keeps | apply State.setFld_keeps
      | apply State.resyncAin_keeps | simp only [keeps_mk] | simp only [keeps_boot] | split
      | refine keeps_snd ‹_ = (_, _)› ?_ | (intro; intros)))

theorem State.ainCalStep_keeps : ∀ (s : State), Keeps u s → Keeps u s.ainCalStep := by
  intros; unfold State.ainCalStep; try dsimp only
  repeat' (with_reducible (first
      | assumption | apply keeps_ite | apply keeps_foldl | apply State.setFld_keeps | simp only [keeps_mk]
      | simp only [keeps_boot] | split | refine keeps_snd ‹_ = (_, _)› ?_ | (intro; intros)))

theorem State.phantomChange_keeps : ∀ (s : State) (l : Nat), Keeps u s → Keeps u (s.phantomChange l) := by
  intros; unfold State.phantomChange; try dsimp only
  repeat' (with_reducible (first
      | assumption | apply keeps_ite | apply keeps_foldl | apply State.setPhantom_keeps | simp only [keeps_mk]
      | simp only [keeps_boot] | split | refine keeps_snd ‹_ = (_, _)› ?_ | (intro; intros)))

theorem State.ainSync_keeps : ∀ (s : State), Keeps u s → Keeps u s.ainSync := by
  intros; unfold State.ainSync; try dsimp only
  repeat' (with_reducible (first
      | assumption | apply keeps_ite | apply keeps_foldl | apply State.takeFree_keeps | apply State.setBit_keeps
      | apply State.setFld_keeps | apply State.raiseN_keeps | apply State.countHold_keeps | simp only [keeps_mk]
      | simp only [keeps_boot] | split | refine keeps_snd ‹_ = (_, _)› ?_ | (intro; intros)))

theorem State.readJd_keeps : ∀ (s : State) (n : Nat), Keeps u s → Keeps u (s.readJd n) := by
  intros; unfold State.readJd; try dsimp only
  repeat' (with_reducible (first
      | assumption | apply keeps_ite | apply keeps_foldl | apply State.setFld_keeps | simp only [keeps_mk]
      | simp only [keeps_boot] | split | refine keeps_snd ‹_ = (_, _)› ?_ | (intro; intros)))

theorem State.jdCtrl_keeps : ∀ (s : State) (data : Word), Keeps u s → Keeps u (s.jdCtrl data) := by
  intros; unfold State.jdCtrl; try dsimp only
  repeat' (with_reducible (first
      | assumption | apply keeps_ite | apply keeps_foldl | apply State.readJd_keeps | apply State.writeRw_keeps
      | simp only [keeps_mk] | simp only [keeps_boot] | split | refine keeps_snd ‹_ = (_, _)› ?_ | (intro; intros)))

theorem State.bridge_keeps : ∀ (s : State) (o : Nat) (on : Bool), Keeps u s → Keeps u (s.bridge o on) := by
  intros; unfold State.bridge; try dsimp only
  repeat' (with_reducible (first
      | assumption | apply keeps_ite | apply keeps_foldl | simp only [keeps_mk] | simp only [keeps_boot] | split
      | refine keeps_snd ‹_ = (_, _)› ?_ | (intro; intros)))

theorem State.rampFrom_keeps : ∀ (s : State) (o gain : Nat) (up : Bool), Keeps u s → Keeps u (s.rampFrom o gain up) :=
    by
  intros; unfold State.rampFrom; try dsimp only
  repeat' (with_reducible (first
      | assumption | apply keeps_ite | apply keeps_foldl | simp only [keeps_mk] | simp only [keeps_boot] | split
      | refine keeps_snd ‹_ = (_, _)› ?_ | (intro; intros)))

theorem State.pvddSync_keeps : ∀ (s : State), Keeps u s → Keeps u s.pvddSync := by
  intros; unfold State.pvddSync; try dsimp only
  repeat' (with_reducible (first
      | assumption | apply keeps_ite | apply keeps_foldl | apply State.bridge_keeps | apply State.rampFrom_keeps
      | simp only [keeps_mk] | simp only [keeps_boot] | split | refine keeps_snd ‹_ = (_, _)› ?_ | (intro; intros)))

theorem State.pvdd_keeps : ∀ (s : State) (ev : PvddEvent), Keeps u s → Keeps u (s.pvdd ev) := by
  intros; unfold State.pvdd; try dsimp only
  repeat' (with_reducible (first
      | assumption | apply keeps_ite | apply keeps_foldl | apply State.pvddSync_keeps | simp only [keeps_mk]
      | simp only [keeps_boot] | split | refine keeps_snd ‹_ = (_, _)› ?_ | (intro; intros)))

theorem State.setOutState_keeps : ∀ (s : State) (o st : Nat), Keeps u s → Keeps u (s.setOutState o st) := by
  intros; unfold State.setOutState; try dsimp only
  repeat' (with_reducible (first
      | assumption | apply keeps_ite | apply keeps_foldl | apply State.setFld_keeps | simp only [keeps_mk]
      | simp only [keeps_boot] | split | refine keeps_snd ‹_ = (_, _)› ?_ | (intro; intros)))

theorem State.outRamp_keeps : ∀ (s : State) (o : Nat) (up : Bool), Keeps u s → Keeps u (s.outRamp o up) := by
  intros; unfold State.outRamp; try dsimp only
  repeat' (with_reducible (first
      | assumption | apply keeps_ite | apply keeps_foldl | apply State.rampFrom_keeps | simp only [keeps_mk]
      | simp only [keeps_boot] | split | refine keeps_snd ‹_ = (_, _)› ?_ | (intro; intros)))

theorem State.settleOut_keeps : ∀ (s : State) (o : Nat), Keeps u s → Keeps u (s.settleOut o) := by
  intros; unfold State.settleOut; try dsimp only
  repeat' (with_reducible (first
      | assumption | apply keeps_ite | apply keeps_foldl | apply State.setOutState_keeps | apply State.outRamp_keeps
      | simp only [keeps_mk] | simp only [keeps_boot] | split | refine keeps_snd ‹_ = (_, _)› ?_ | (intro; intros)))

theorem State.syncMutes_keeps : ∀ (s : State) (o : Nat), Keeps u s → Keeps u (s.syncMutes o) := by
  intros; unfold State.syncMutes; try dsimp only
  repeat' (with_reducible (first
      | assumption | apply keeps_ite | apply keeps_foldl | apply State.setBit_keeps | simp only [keeps_mk]
      | simp only [keeps_boot] | split | refine keeps_snd ‹_ = (_, _)› ?_ | (intro; intros)))

theorem State.syncOut_keeps : ∀ (s : State) (o : Nat), Keeps u s → Keeps u (s.syncOut o) := by
  intros; unfold State.syncOut; try dsimp only
  repeat' (with_reducible (first
      | assumption | apply keeps_ite | apply keeps_foldl | apply State.settleOut_keeps | apply State.syncMutes_keeps
      | simp only [keeps_mk] | simp only [keeps_boot] | split | refine keeps_snd ‹_ = (_, _)› ?_ | (intro; intros)))

theorem State.syncOuts_keeps : ∀ (s : State), Keeps u s → Keeps u s.syncOuts := by
  intros; unfold State.syncOuts; try dsimp only
  repeat' (with_reducible (first
      | assumption | apply keeps_ite | apply keeps_foldl | apply State.syncOut_keeps | simp only [keeps_mk]
      | simp only [keeps_boot] | split | refine keeps_snd ‹_ = (_, _)› ?_ | (intro; intros)))

theorem State.jackDeclare_keeps : ∀ (s : State) (n : Nat) (unmute : Option (Fin 14)), Keeps u s → Keeps u
    (s.jackDeclare n unmute) := by
  intros; unfold State.jackDeclare; try dsimp only
  repeat' (with_reducible (first
      | assumption | apply keeps_ite | apply keeps_foldl | apply State.setBit_keeps | apply State.raiseN_keeps
      | apply State.syncOuts_keeps | apply State.setFld_keeps | simp only [keeps_mk] | simp only [keeps_boot]
      | split | refine keeps_snd ‹_ = (_, _)› ?_ | (intro; intros)))

theorem State.overcurrent_keeps : ∀ (s : State) (k : Nat), Keeps u s → Keeps u (s.overcurrent k) := by
  intros; unfold State.overcurrent; try dsimp only
  repeat' (with_reducible (first
      | assumption | apply keeps_ite | apply keeps_foldl | apply State.setBit_keeps | apply State.bridge_keeps
      | apply State.setOutState_keeps | apply State.raiseFolio_keeps | simp only [keeps_mk] | simp only [keeps_boot]
      | split | refine keeps_snd ‹_ = (_, _)› ?_ | (intro; intros)))

theorem State.setHeld_keeps : ∀ (s : State) (o : Nat) (h : OutHold), Keeps u s → Keeps u (s.setHeld o h) := by
  intros; unfold State.setHeld; try dsimp only
  repeat' (with_reducible (first
      | assumption | apply keeps_ite | apply keeps_foldl | simp only [keeps_mk] | simp only [keeps_boot] | split
      | refine keeps_snd ‹_ = (_, _)› ?_ | (intro; intros)))

theorem State.clkMute_keeps : ∀ (s : State) (missing : Bool) (k : Nat), Keeps u s → Keeps u (s.clkMute missing k) :=
    by
  intros; unfold State.clkMute; try dsimp only
  repeat' (with_reducible (first
      | assumption | apply keeps_ite | apply keeps_foldl | apply State.bridge_keeps | apply State.raiseFolio_keeps
      | apply State.settleOut_keeps | apply State.setBit_keeps | simp only [keeps_mk] | simp only [keeps_boot]
      | split | refine keeps_snd ‹_ = (_, _)› ?_ | (intro; intros)))

theorem State.aoutHold_keeps : ∀ (s : State), Keeps u s → Keeps u s.aoutHold := by
  intros; unfold State.aoutHold; try dsimp only
  repeat' (with_reducible (first
      | assumption | apply keeps_ite | apply keeps_foldl | apply State.setOutState_keeps | apply State.setHeld_keeps
      | simp only [keeps_mk] | simp only [keeps_boot] | split | refine keeps_snd ‹_ = (_, _)› ?_ | (intro; intros)))

theorem State.jdPin_keeps : ∀ (s : State) (n mv : Nat), Keeps u s → Keeps u (s.jdPin n mv) := by
  intros; unfold State.jdPin; try dsimp only
  repeat' (with_reducible (first
      | assumption | apply keeps_ite | apply keeps_foldl | apply State.readJd_keeps | simp only [keeps_mk]
      | simp only [keeps_boot] | split | refine keeps_snd ‹_ = (_, _)› ?_ | (intro; intros)))

theorem State.biasUp_keeps : ∀ (s : State) (o : Nat), Keeps u s → Keeps u (s.biasUp o) := by
  intros; unfold State.biasUp; try dsimp only
  repeat' (with_reducible (first
      | assumption | apply keeps_ite | apply keeps_foldl | apply State.bridge_keeps | apply State.setOutState_keeps
      | simp only [keeps_mk] | simp only [keeps_boot] | split | refine keeps_snd ‹_ = (_, _)› ?_ | (intro; intros)))

theorem State.outCfg_keeps : ∀ (s : State) (o : Nat) (data : Word), Keeps u s → Keeps u (s.outCfg o data) := by
  intros; unfold State.outCfg; try dsimp only
  repeat' (with_reducible (first
      | assumption | apply keeps_ite | apply keeps_foldl | apply State.writeRw_keeps | apply State.biasUp_keeps
      | apply State.setOutState_keeps | apply State.outRamp_keeps | apply State.setBit_keeps
      | apply State.syncOut_keeps | simp only [keeps_mk] | simp only [keeps_boot] | split
      | refine keeps_snd ‹_ = (_, _)› ?_ | (intro; intros)))

theorem State.biasDownDone_keeps : ∀ (s : State) (o : Nat), Keeps u s → Keeps u (s.biasDownDone o) := by
  intros; unfold State.biasDownDone; try dsimp only
  repeat' (with_reducible (first
      | assumption | apply keeps_ite | apply keeps_foldl | apply State.bridge_keeps | apply State.setOutState_keeps
      | apply State.biasUp_keeps | simp only [keeps_mk] | simp only [keeps_boot] | split
      | refine keeps_snd ‹_ = (_, _)› ?_ | (intro; intros)))

theorem State.holdRampOut_keeps : ∀ (s : State) (o : Nat), Keeps u s → Keeps u (s.holdRampOut o) := by
  intros; unfold State.holdRampOut; try dsimp only
  repeat' (with_reducible (first
      | assumption | apply keeps_ite | apply keeps_foldl | apply State.setHeld_keeps | apply State.bridge_keeps
      | simp only [keeps_mk] | simp only [keeps_boot] | split | refine keeps_snd ‹_ = (_, _)› ?_ | (intro; intros)))

theorem State.aoutHoldEnd_keeps : ∀ (s : State), Keeps u s → Keeps u s.aoutHoldEnd := by
  intros; unfold State.aoutHoldEnd; try dsimp only
  repeat' (with_reducible (first
      | assumption | apply keeps_ite | apply keeps_foldl | apply State.raiseN_keeps | apply State.holdRampOut_keeps
      | simp only [keeps_mk] | simp only [keeps_boot] | split | refine keeps_snd ‹_ = (_, _)› ?_ | (intro; intros)))

theorem State.devField_keeps : ∀ (s : State) (ppm : Int), Keeps u s → Keeps u (s.devField ppm).2 := by
  intros; unfold State.devField; try dsimp only
  repeat' (with_reducible (first
      | assumption | apply keeps_ite | apply keeps_foldl | apply State.takeFree_keeps | simp only [keeps_mk]
      | simp only [keeps_boot] | split | refine keeps_snd ‹_ = (_, _)› ?_ | (intro; intros)))

theorem State.clkUnmute_keeps : ∀ (s : State) (k : Nat), Keeps u s → Keeps u (s.clkUnmute k) := by
  intros; unfold State.clkUnmute; try dsimp only
  repeat' (with_reducible (first
      | assumption | apply keeps_ite | apply keeps_foldl | apply State.setBit_keeps | apply State.bridge_keeps
      | apply State.raiseFolio_keeps | apply State.settleOut_keeps | simp only [keeps_mk] | simp only [keeps_boot]
      | split | refine keeps_snd ‹_ = (_, _)› ?_ | (intro; intros)))

theorem State.clockWindow_keeps : ∀ (s : State) (missing : Bool) (ppm : Int), Keeps u s → Keeps u (s.clockWindow
    missing ppm) := by
  intros; unfold State.clockWindow; try dsimp only
  repeat' (with_reducible (first
      | assumption | apply keeps_ite | apply keeps_foldl | apply State.devField_keeps | apply State.setBit_keeps
      | apply State.setFld_keeps | apply State.clkMute_keeps | apply State.clkUnmute_keeps | simp only [keeps_mk]
      | simp only [keeps_boot] | split | refine keeps_snd ‹_ = (_, _)› ?_ | (intro; intros)))

theorem State.faultRetry_keeps : ∀ (s : State) (k : Nat), Keeps u s → Keeps u (s.faultRetry k) := by
  intros; unfold State.faultRetry; try dsimp only
  repeat' (with_reducible (first
      | assumption | apply keeps_ite | apply keeps_foldl | apply State.settleOut_keeps | apply State.bridge_keeps
      | apply State.setOutState_keeps | simp only [keeps_mk] | simp only [keeps_boot] | split
      | refine keeps_snd ‹_ = (_, _)› ?_ | (intro; intros)))

theorem State.biasDone_keeps : ∀ (s : State) (o : Nat), Keeps u s → Keeps u (s.biasDone o) := by
  intros; unfold State.biasDone; try dsimp only
  repeat' (with_reducible (first
      | assumption | apply keeps_ite | apply keeps_foldl | apply State.setOutState_keeps
      | apply State.rampFrom_keeps | simp only [keeps_mk] | simp only [keeps_boot] | split
      | refine keeps_snd ‹_ = (_, _)› ?_ | (intro; intros)))

theorem State.classdPower_keeps : ∀ (s : State), Keeps u s → Keeps u s.classdPower := by
  intros; unfold State.classdPower; try dsimp only
  repeat' (with_reducible (first
      | assumption | apply keeps_ite | apply keeps_foldl | simp only [keeps_mk] | simp only [keeps_boot] | split
      | refine keeps_snd ‹_ = (_, _)› ?_ | (intro; intros)))

theorem State.aoutBoundary_keeps : ∀ (s : State), Keeps u s → Keeps u s.aoutBoundary := by
  intros; unfold State.aoutBoundary; try dsimp only
  repeat' (with_reducible (first
      | assumption | apply keeps_ite | apply keeps_foldl | apply State.outRamp_keeps | simp only [keeps_mk]
      | simp only [keeps_boot] | split | refine keeps_snd ‹_ = (_, _)› ?_ | (intro; intros)))

theorem State.classdCtrl_keeps : ∀ (s : State) (data : Word), Keeps u s → Keeps u (s.classdCtrl data) := by
  intros; unfold State.classdCtrl; try dsimp only
  repeat' (with_reducible (first
      | assumption | apply keeps_ite | apply keeps_foldl | apply State.writeRw_keeps | simp only [keeps_mk]
      | simp only [keeps_boot] | split | refine keeps_snd ‹_ = (_, _)› ?_ | (intro; intros)))

theorem State.setStale_keeps : ∀ (s : State) (i : Nat) (b : Bool), Keeps u s → Keeps u (s.setStale i b) := by
  intros; unfold State.setStale; try dsimp only
  repeat' (with_reducible (first
      | assumption | apply keeps_ite | apply keeps_foldl | apply State.setFld_keeps | simp only [keeps_mk]
      | simp only [keeps_boot] | split | refine keeps_snd ‹_ = (_, _)› ?_ | (intro; intros)))

theorem State.recheckSlices_keeps : ∀ (s : State), Keeps u s → Keeps u s.recheckSlices := by
  intros; unfold State.recheckSlices; try dsimp only
  repeat' (with_reducible (first
      | assumption | apply keeps_ite | apply keeps_foldl | apply State.setStale_keeps | apply State.raiseN_keeps
      | simp only [keeps_mk] | simp only [keeps_boot] | split | refine keeps_snd ‹_ = (_, _)› ?_ | (intro; intros)))

theorem State.setQueue_keeps : ∀ (s : State) (q : List Conv), Keeps u s → Keeps u (s.setQueue q) := by
  intros; unfold State.setQueue; try dsimp only
  repeat' (with_reducible (first
      | assumption | apply keeps_ite | apply keeps_foldl | apply State.setFld_keeps | simp only [keeps_mk]
      | simp only [keeps_boot] | split | refine keeps_snd ‹_ = (_, _)› ?_ | (intro; intros)))

theorem State.setConv_keeps : ∀ (s : State) (p : Nat) (c : Option Conv), Keeps u s → Keeps u (s.setConv p c) := by
  intros; unfold State.setConv; try dsimp only
  repeat' (with_reducible (first
      | assumption | apply keeps_ite | apply keeps_foldl | simp only [keeps_mk] | simp only [keeps_boot] | split
      | refine keeps_snd ‹_ = (_, _)› ?_ | (intro; intros)))

theorem State.doSwap_keeps : ∀ (s : State) (i : Nat), Keeps u s → Keeps u (s.doSwap i) := by
  intros; unfold State.doSwap; try dsimp only
  repeat' (with_reducible (first
      | assumption | apply keeps_ite | apply keeps_foldl | apply State.setConv_keeps | apply State.setFld_keeps
      | apply State.takeFree_keeps | simp only [keeps_mk] | simp only [keeps_boot] | split
      | refine keeps_snd ‹_ = (_, _)› ?_ | (intro; intros)))

theorem State.urgent_keeps : ∀ (s : State) (c : Conv) (w3 : Nat), Keeps u s → Keeps u (s.urgent c w3) := by
  intros; unfold State.urgent; try dsimp only
  repeat' (with_reducible (first
      | assumption | apply keeps_ite | apply keeps_foldl | apply State.setQueue_keeps | apply State.doSwap_keeps
      | apply State.raiseN_keeps | simp only [keeps_mk] | simp only [keeps_boot] | split
      | refine keeps_snd ‹_ = (_, _)› ?_ | (intro; intros)))

theorem State.lampRequests_keeps : ∀ (s : State), Keeps u s → Keeps u s.lampRequests := by
  intros; unfold State.lampRequests; try dsimp only
  repeat' (with_reducible (first
      | assumption | apply keeps_ite | apply keeps_foldl | apply State.urgent_keeps | simp only [keeps_mk]
      | simp only [keeps_boot] | split | refine keeps_snd ‹_ = (_, _)› ?_ | (intro; intros)))

theorem State.softRequest_keeps : ∀ (s : State) (input : Nat), Keeps u s → Keeps u (s.softRequest input) := by
  intros; unfold State.softRequest; try dsimp only
  repeat' (with_reducible (first
      | assumption | apply keeps_ite | apply keeps_foldl | apply State.urgent_keeps | apply State.lampRequests_keeps
      | simp only [keeps_mk] | simp only [keeps_boot] | split | refine keeps_snd ‹_ = (_, _)› ?_ | (intro; intros)))

theorem State.convCode_keeps : ∀ (s : State) (slice : Nat) (raw : BitVec 20), Keeps u s → Keeps u (s.convCode slice
    raw).2 := by
  intros; unfold State.convCode; try dsimp only
  repeat' (with_reducible (first
      | assumption | apply keeps_ite | apply keeps_foldl | apply State.takeFree_keeps | simp only [keeps_mk]
      | simp only [keeps_boot] | split | refine keeps_snd ‹_ = (_, _)› ?_ | (intro; intros)))

theorem State.entryResult_keeps : ∀ (s : State) (e code : Nat), Keeps u s → Keeps u (s.entryResult e code) := by
  intros; unfold State.entryResult; try dsimp only
  repeat' (with_reducible (first
      | assumption | apply keeps_ite | apply keeps_foldl | apply State.setRegN_keeps | apply State.raiseN_keeps
      | simp only [keeps_mk] | simp only [keeps_boot] | split | refine keeps_snd ‹_ = (_, _)› ?_ | (intro; intros)))

theorem State.lampDiag_keeps : ∀ (s : State) (l code : Nat), Keeps u s → Keeps u (s.lampDiag l code) := by
  intros; unfold State.lampDiag; try dsimp only
  repeat' (with_reducible (first
      | assumption | apply keeps_ite | apply keeps_foldl | apply State.setFld_keeps | apply State.raiseN_keeps
      | simp only [keeps_mk] | simp only [keeps_boot] | split | refine keeps_snd ‹_ = (_, _)› ?_ | (intro; intros)))

theorem State.inputResult_keeps : ∀ (s : State) (input code : Nat), Keeps u s → Keeps u (s.inputResult input code) :=
    by
  intros; unfold State.inputResult; try dsimp only
  repeat' (with_reducible (first
      | assumption | apply keeps_ite | apply keeps_foldl | apply State.recheckSlices_keeps
      | apply State.recheckAin_keeps | apply State.setFld_keeps | simp only [keeps_mk] | simp only [keeps_boot]
      | split | refine keeps_snd ‹_ = (_, _)› ?_ | (intro; intros)))

theorem State.convEnd_keeps : ∀ (s : State) (p : Nat) (raw : BitVec 20), Keeps u s → Keeps u (s.convEnd p raw) := by
  intros; unfold State.convEnd; try dsimp only
  repeat' (with_reducible (first
      | assumption | apply keeps_ite | apply keeps_foldl | apply State.convCode_keeps | apply State.setConv_keeps
      | apply State.entryResult_keeps | apply State.setRegN_keeps | apply State.lampDiag_keeps
      | apply State.inputResult_keeps | apply State.doSwap_keeps | simp only [keeps_mk] | simp only [keeps_boot]
      | split | refine keeps_snd ‹_ = (_, _)› ?_ | (intro; intros)))

theorem State.convDone_keeps : ∀ (s : State) (p : Nat) (raw : BitVec 20), Keeps u s → Keeps u (s.convDone p raw) := by
  intros; unfold State.convDone; try dsimp only
  repeat' (with_reducible (first
      | assumption | apply keeps_ite | apply keeps_foldl | apply State.convEnd_keeps
      | apply State.lampRequests_keeps | simp only [keeps_mk] | simp only [keeps_boot] | split
      | refine keeps_snd ‹_ = (_, _)› ?_ | (intro; intros)))

theorem State.sliceCalDone_keeps : ∀ (s : State) (r : CalRecord), Keeps u s → Keeps u (s.sliceCalDone r) := by
  intros; unfold State.sliceCalDone; try dsimp only
  repeat' (with_reducible (first
      | assumption | apply keeps_ite | apply keeps_foldl | apply State.setFld_keeps | apply State.raiseN_keeps
      | apply State.setStale_keeps | apply State.showCal_keeps | simp only [keeps_mk] | simp only [keeps_boot]
      | split | refine keeps_snd ‹_ = (_, _)› ?_ | (intro; intros)))

theorem State.setLamp_keeps : ∀ (s : State) (l : Nat) (on : Bool) (offPt : Nat), Keeps u s → Keeps u (s.setLamp l on
    offPt) := by
  intros; unfold State.setLamp; try dsimp only
  repeat' (with_reducible (first
      | assumption | apply keeps_ite | apply keeps_foldl | simp only [keeps_mk] | simp only [keeps_boot] | split
      | refine keeps_snd ‹_ = (_, _)› ?_ | (intro; intros)))

theorem State.lampPeriod_keeps : ∀ (s : State) (l j : Nat), Keeps u s → Keeps u (s.lampPeriod l j) := by
  intros; unfold State.lampPeriod; try dsimp only
  repeat' (with_reducible (first
      | assumption | apply keeps_ite | apply keeps_foldl | apply State.setFld_keeps | apply State.setLamp_keeps
      | simp only [keeps_mk] | simp only [keeps_boot] | split | refine keeps_snd ‹_ = (_, _)› ?_ | (intro; intros)))

theorem State.lampCtrlWrite_keeps : ∀ (s : State) (l : Nat) (data : Word), Keeps u s → Keeps u (s.lampCtrlWrite l
    data) := by
  intros; unfold State.lampCtrlWrite; try dsimp only
  repeat' (with_reducible (first
      | assumption | apply keeps_ite | apply keeps_foldl | apply State.writeRw_keeps | apply State.setLamp_keeps
      | apply State.phantomChange_keeps | simp only [keeps_mk] | simp only [keeps_boot] | split
      | refine keeps_snd ‹_ = (_, _)› ?_ | (intro; intros)))

theorem State.nextConv_keeps : ∀ (s : State), Keeps u s → Keeps u s.nextConv.2 := by
  intros; unfold State.nextConv; try dsimp only
  repeat' (with_reducible (first
      | assumption | apply keeps_ite | apply keeps_foldl | apply State.setQueue_keeps | apply State.setFld_keeps
      | simp only [keeps_mk] | simp only [keeps_boot] | split | refine keeps_snd ‹_ = (_, _)› ?_ | (intro; intros)))

theorem State.openSlot_keeps : ∀ (s : State), Keeps u s → Keeps u s.openSlot := by
  intros; unfold State.openSlot; try dsimp only
  repeat' (with_reducible (first
      | assumption | apply keeps_ite | apply keeps_foldl | apply State.nextConv_keeps | apply State.setConv_keeps
      | simp only [keeps_mk] | simp only [keeps_boot] | split | refine keeps_snd ‹_ = (_, _)› ?_ | (intro; intros)))

theorem State.hadcSlot_keeps : ∀ (s : State), Keeps u s → Keeps u s.hadcSlot := by
  intros; unfold State.hadcSlot; try dsimp only
  repeat' (with_reducible (first
      | assumption | apply keeps_ite | apply keeps_foldl | apply State.openSlot_keeps
      | apply State.lampRequests_keeps | simp only [keeps_mk] | simp only [keeps_boot] | split
      | refine keeps_snd ‹_ = (_, _)› ?_ | (intro; intros)))

theorem State.loadEval_keeps : ∀ (s : State) (taken0 taken1 : Nat), Keeps u s → Keeps u (s.loadEval taken0 taken1) :=
    by
  intros; unfold State.loadEval; try dsimp only
  repeat' (with_reducible (first
      | assumption | apply keeps_ite | apply keeps_foldl | apply State.recheckSlices_keeps
      | apply State.recheckAin_keeps | apply State.setFld_keeps | simp only [keeps_mk] | simp only [keeps_boot]
      | split | refine keeps_snd ‹_ = (_, _)› ?_ | (intro; intros)))

theorem State.sliceSwapNow_keeps : ∀ (s : State), Keeps u s → Keeps u s.sliceSwapNow := by
  intros; unfold State.sliceSwapNow; try dsimp only
  repeat' (with_reducible (first
      | assumption | apply keeps_ite | apply keeps_foldl | apply State.doSwap_keeps | simp only [keeps_mk]
      | simp only [keeps_boot] | split | refine keeps_snd ‹_ = (_, _)› ?_ | (intro; intros)))

theorem State.lampOff_keeps : ∀ (s : State) (l : Nat), Keeps u s → Keeps u (s.lampOff l) := by
  intros; unfold State.lampOff; try dsimp only
  repeat' (with_reducible (first
      | assumption | apply keeps_ite | apply keeps_foldl | apply State.setLamp_keeps | simp only [keeps_mk]
      | simp only [keeps_boot] | split | refine keeps_snd ‹_ = (_, _)› ?_ | (intro; intros)))

theorem State.sliceSwap_keeps : ∀ (s : State), Keeps u s → Keeps u s.sliceSwap := by
  intros; unfold State.sliceSwap; try dsimp only
  repeat' (with_reducible (first
      | assumption | apply keeps_ite | apply keeps_foldl | apply State.sliceSwapNow_keeps
      | apply State.lampRequests_keeps | simp only [keeps_mk] | simp only [keeps_boot] | split
      | refine keeps_snd ‹_ = (_, _)› ?_ | (intro; intros)))

theorem State.activatedNow_keeps : ∀ (s : State) (p : Nat), Keeps u s → Keeps u (s.activatedNow p) := by
  intros; unfold State.activatedNow; try dsimp only
  repeat' (with_reducible (first
      | assumption | apply keeps_ite | apply keeps_foldl | simp only [keeps_mk] | simp only [keeps_boot] | split
      | refine keeps_snd ‹_ = (_, _)› ?_ | (intro; intros)))

theorem State.wdogRestart_keeps : ∀ (s : State) (p : Nat), Keeps u s → Keeps u (s.wdogRestart p) := by
  intros; unfold State.wdogRestart; try dsimp only
  repeat' (with_reducible (first
      | assumption | apply keeps_ite | apply keeps_foldl | simp only [keeps_mk] | simp only [keeps_boot] | split
      | refine keeps_snd ‹_ = (_, _)› ?_ | (intro; intros)))

theorem State.setPrev_keeps : ∀ (s : State) (p : Nat) (w : Word), Keeps u s → Keeps u (s.setPrev p w) := by
  intros; unfold State.setPrev; try dsimp only
  repeat' (with_reducible (first
      | assumption | apply keeps_ite | apply keeps_foldl | simp only [keeps_mk] | simp only [keeps_boot] | split
      | refine keeps_snd ‹_ = (_, _)› ?_ | (intro; intros)))

theorem State.setIdle_keeps (s : State) (p : Nat) (m : Memory) (h : Keeps u s)
    (hm : Memory.wf s.boot.idleA = true → Memory.wf s.boot.idleB = true → Memory.wf m = true) : Keeps u (s.setIdle p m) := by
  refine ⟨by unfold State.setIdle; split <;> exact h.1, fun c => ?_⟩
  obtain ⟨c1, c2, c3, c4, c5, c6, c7⟩ := (State.canonical_iff s).1 (h.2 c)
  unfold State.setIdle
  split
  · exact (State.canonical_iff _).2 ⟨c1, c2, c3, c4, c5, hm c6 c7, c7⟩
  · exact (State.canonical_iff _).2 ⟨c1, c2, c3, c4, c5, c6, hm c6 c7⟩

theorem State.swapBanks_keeps : ∀ (s : State) (p : Nat), Keeps u s → Keeps u (s.swapBanks p) := by
  intro s p h
  have hw : ∀ (l m : Memory), Memory.wf m = true → Memory.wf (l.foldl (fun m e => Memory.setByte m e.1 e.2) m) = true := by
    intro l
    induction l with
    | nil => intro m hm; exact hm
    | cons x l ih => intro m hm; exact ih _ (Memory.setByte_wf _ _ _ hm)
  refine ⟨by unfold State.swapBanks State.setIdle; split <;> exact h.1, fun c => ?_⟩
  obtain ⟨c1, c2, c3, c4, c5, c6, c7⟩ := (State.canonical_iff s).1 (h.2 c)
  have cm := Memory.move_wf s.mem (codeLo p) codeSize 0 c2
  have cn := fun l => hw l _ (Memory.clear_wf s.mem (codeLo p) (codeLo p + codeSize) c2)
  unfold State.swapBanks State.setIdle
  split
  · exact (State.canonical_iff _).2 ⟨c1, cn _, c3, c4, c5, cm, c7⟩
  · exact (State.canonical_iff _).2 ⟨c1, cn _, c3, c4, c5, c6, cm⟩

theorem State.activate_keeps : ∀ (s : State) (p : Nat), Keeps u s → Keeps u (s.activate p) := by
  intros; unfold State.activate; try dsimp only
  repeat' (with_reducible (first
      | assumption | apply keeps_ite | apply keeps_foldl | apply State.raiseN_keeps | apply State.activatedNow_keeps
      | apply State.wdogRestart_keeps | apply State.setPrev_keeps | apply State.setReg_keeps
      | apply State.swapBanks_keeps | simp only [keeps_mk] | simp only [keeps_boot] | split
      | refine keeps_snd ‹_ = (_, _)› ?_ | (intro; intros)))

theorem State.writeErr_keeps : ∀ (s : State) (m : Master) (addr cause : Nat), Keeps u s → Keeps u (s.writeErr m addr
    cause) := by
  intros; unfold State.writeErr; try dsimp only
  repeat' (with_reducible (first
      | assumption | apply keeps_ite | apply keeps_foldl | apply State.xbarErr_keeps | apply State.hostErr_keeps
      | simp only [keeps_mk] | simp only [keeps_boot] | split | refine keeps_snd ‹_ = (_, _)› ?_ | (intro; intros)))

theorem State.ledgerRead_keeps : ∀ (s : State) (off n : Nat), Keeps u s → Keeps u (s.ledgerRead off n).2 := by
  intros; unfold State.ledgerRead; try dsimp only
  repeat' (with_reducible (first
      | assumption | apply keeps_ite | apply keeps_foldl | apply State.raiseN_keeps | simp only [keeps_mk]
      | simp only [keeps_boot] | split | refine keeps_snd ‹_ = (_, _)› ?_ | (intro; intros)))

theorem State.controlCopy_keeps : ∀ (s : State) (off : Nat), Keeps u s → Keeps u (s.controlCopy off).2 := by
  intros; unfold State.controlCopy; try dsimp only
  repeat' (with_reducible (first
      | assumption | apply keeps_ite | apply keeps_foldl | apply State.ledgerRead_keeps | simp only [keeps_mk]
      | simp only [keeps_boot] | split | refine keeps_snd ‹_ = (_, _)› ?_ | (intro; intros)))

theorem State.ledgerRefuse_keeps : ∀ (s : State) (m : Master) (off : Nat), Keeps u s → Keeps u (s.ledgerRefuse m off)
    := by
  intros; unfold State.ledgerRefuse; try dsimp only
  repeat' (with_reducible (first
      | assumption | apply keeps_ite | apply keeps_foldl | apply State.raiseN_keeps | apply State.hostErr_keeps
      | simp only [keeps_mk] | simp only [keeps_boot] | split | refine keeps_snd ‹_ = (_, _)› ?_ | (intro; intros)))

theorem State.ledgerRmw_keeps : ∀ (s : State) (l : List (Nat × Nat)), Keeps u s → Keeps u (s.ledgerRmw l).2 := by
  intro s l h
  induction l generalizing s with
  | nil => exact h
  | cons e l ih =>
    unfold State.ledgerRmw; dsimp only
    exact keeps_ite2 (State.ledgerRead_keeps _ _ _ h) (ih _ (State.ledgerRead_keeps _ _ _ h))

theorem State.ledgerPut_keeps : ∀ (s : State) (off : Nat) (bs : List Byte), Keeps u s → Keeps u (s.ledgerPut off bs)
    := by
  intros; unfold State.ledgerPut; try dsimp only
  repeat' (with_reducible (first
      | assumption | apply keeps_ite | apply keeps_foldl | apply State.eccClear_keeps | apply State.write_keeps
      | simp only [keeps_mk] | simp only [keeps_boot] | split | refine keeps_snd ‹_ = (_, _)› ?_ | (intro; intros)))

theorem State.ledgerRmwErr_keeps : ∀ (s : State) (m : Master) (off : Nat), Keeps u s → Keeps u (s.ledgerRmwErr m off)
    := by
  intros; unfold State.ledgerRmwErr; try dsimp only
  repeat' (with_reducible (first
      | assumption | apply keeps_ite | apply keeps_foldl | apply State.xbarErr_keeps | apply State.hostErr_keeps
      | simp only [keeps_mk] | simp only [keeps_boot] | split | refine keeps_snd ‹_ = (_, _)› ?_ | (intro; intros)))

theorem State.ledgerWrite_keeps : ∀ (s : State) (m : Master) (off : Nat) (bs : List Byte), Keeps u s → Keeps u
    (s.ledgerWrite m off bs) := by
  intros; unfold State.ledgerWrite; try dsimp only
  repeat' (with_reducible (first
      | assumption | apply keeps_ite | apply keeps_foldl | apply State.writeErr_keeps | apply State.hostErr_keeps
      | apply State.ledgerRefuse_keeps | apply State.ledgerRmw_keeps | apply State.ledgerPut_keeps
      | apply State.ledgerRmwErr_keeps | simp only [keeps_mk] | simp only [keeps_boot] | split
      | refine keeps_snd ‹_ = (_, _)› ?_ | (intro; intros)))

theorem State.control_keeps : ∀ (s : State), Keeps u s → Keeps u s.control.2 := by
  intros; unfold State.control; try dsimp only
  repeat' (with_reducible (first
      | assumption | apply keeps_ite | apply keeps_foldl | apply State.controlCopy_keeps | simp only [keeps_mk]
      | simp only [keeps_boot] | split | refine keeps_snd ‹_ = (_, _)› ?_ | (intro; intros)))

theorem State.setControl_keeps : ∀ (s : State) (f : List Word → List Word), Keeps u s → Keeps u (s.setControl f) := by
  intros; unfold State.setControl; try dsimp only
  repeat' (with_reducible (first
      | assumption | apply keeps_ite | apply keeps_foldl | apply State.control_keeps | apply State.ledgerPut_keeps
      | simp only [keeps_mk] | simp only [keeps_boot] | split | refine keeps_snd ‹_ = (_, _)› ?_ | (intro; intros)))

theorem State.ledgerLeaf_keeps : ∀ (s : State) (leaf : Nat), Keeps u s → Keeps u (s.ledgerLeaf leaf) := by
  intros; unfold State.ledgerLeaf; try dsimp only
  repeat' (with_reducible (first
      | assumption | apply keeps_ite | apply keeps_foldl | apply State.setControl_keeps | simp only [keeps_mk]
      | simp only [keeps_boot] | split | refine keeps_snd ‹_ = (_, _)› ?_ | (intro; intros)))

theorem State.bootRecord_keeps : ∀ (s : State) (slot outcome cause ms leaf : Nat), Keeps u s → Keeps u (s.bootRecord
    slot outcome cause ms leaf) := by
  intros; unfold State.bootRecord; try dsimp only
  repeat' (with_reducible (first
      | assumption | apply keeps_ite | apply keeps_foldl | apply State.control_keeps | apply State.takeFree_keeps
      | apply State.ledgerPut_keeps | apply State.setControl_keeps | simp only [keeps_mk] | simp only [keeps_boot]
      | split | refine keeps_snd ‹_ = (_, _)› ?_ | (intro; intros)))

theorem State.setAttempts_keeps : ∀ (s : State) (slot n : Nat), Keeps u s → Keeps u (s.setAttempts slot n) := by
  intros; unfold State.setAttempts; try dsimp only
  repeat' (with_reducible (first
      | assumption | apply keeps_ite | apply keeps_foldl | apply State.setControl_keeps | simp only [keeps_mk]
      | simp only [keeps_boot] | split | refine keeps_snd ‹_ = (_, _)› ?_ | (intro; intros)))

theorem State.setSlot_keeps : ∀ (s : State) (n : Nat) (c : ClauseSlot), Keeps u s → Keeps u (s.setSlot n c) := by
  intros; unfold State.setSlot; try dsimp only
  repeat' (with_reducible (first
      | assumption | apply keeps_ite | apply keeps_foldl | simp only [keeps_mk] | simp only [keeps_boot] | split
      | refine keeps_snd ‹_ = (_, _)› ?_ | (intro; intros)))

theorem State.bankRec_keeps : ∀ (s : State) (tab : Nat) (b : Bool) (r : Rec), Keeps u s → Keeps u (s.bankRec tab b r)
    := by
  intros; unfold State.bankRec; try dsimp only
  repeat' (with_reducible (first
      | assumption | apply keeps_ite | apply keeps_foldl | apply State.unitPut_keeps | simp only [keeps_mk]
      | simp only [keeps_boot] | split | refine keeps_snd ‹_ = (_, _)› ?_ | (intro; intros)))

theorem State.regRec_keeps : ∀ (s : State) (r : Rec), Keeps u s → Keeps u (s.regRec r) := by
  intros; unfold State.regRec; try dsimp only
  repeat' (with_reducible (first
      | assumption | apply keeps_ite | apply keeps_foldl | apply State.setReg_keeps | simp only [keeps_mk]
      | simp only [keeps_boot] | split | refine keeps_snd ‹_ = (_, _)› ?_ | (intro; intros)))

theorem State.projectRegs_keeps : ∀ (s : State) (recs : List Rec), Keeps u s → Keeps u (s.projectRegs recs) := by
  intros; unfold State.projectRegs; try dsimp only
  repeat' (with_reducible (first
      | assumption | apply keeps_ite | apply keeps_foldl | apply State.regRec_keeps | simp only [keeps_mk]
      | simp only [keeps_boot] | split | refine keeps_snd ‹_ = (_, _)› ?_ | (intro; intros)))

theorem State.routeRec_keeps : ∀ (s : State) (base : Nat) (r : Rec), Keeps u s → Keeps u (s.routeRec base r) := by
  intros; unfold State.routeRec; try dsimp only
  repeat' (with_reducible (first
      | assumption | apply keeps_ite | apply keeps_foldl | apply State.unitPut_keeps | simp only [keeps_mk]
      | simp only [keeps_boot] | split | refine keeps_snd ‹_ = (_, _)› ?_ | (intro; intros)))

theorem State.project_keeps : ∀ (s : State) (tab : Nat) (recs : List Rec), Keeps u s → Keeps u (s.project tab recs) :=
    by
  intros; unfold State.project; try dsimp only
  repeat' (with_reducible (first
      | assumption | apply keeps_ite | apply keeps_foldl | apply State.bankRec_keeps | apply State.routeRec_keeps
      | apply State.write_keeps | apply State.projectRegs_keeps | simp only [keeps_mk] | simp only [keeps_boot]
      | split | refine keeps_snd ‹_ = (_, _)› ?_ | (intro; intros)))

theorem State.syncRatePending_keeps : ∀ (s : State), Keeps u s → Keeps u s.syncRatePending := by
  intros; unfold State.syncRatePending; try dsimp only
  repeat' (with_reducible (first
      | assumption | apply keeps_ite | apply keeps_foldl | apply State.setBit_keeps | apply State.projectRegs_keeps
      | simp only [keeps_mk] | simp only [keeps_boot] | split | refine keeps_snd ‹_ = (_, _)› ?_ | (intro; intros)))

theorem State.syncClause_keeps : ∀ (s : State), Keeps u s → Keeps u s.syncClause := by
  intros; unfold State.syncClause; try dsimp only
  repeat' (with_reducible (first
      | assumption | apply keeps_ite | apply keeps_foldl | apply State.setBit_keeps | apply State.setFld_keeps
      | simp only [keeps_mk] | simp only [keeps_boot] | split | refine keeps_snd ‹_ = (_, _)› ?_ | (intro; intros)))

theorem State.setSlotState_keeps : ∀ (s : State) (n st : Nat), Keeps u s → Keeps u (s.setSlotState n st) := by
  intros; unfold State.setSlotState; try dsimp only
  repeat' (with_reducible (first
      | assumption | apply keeps_ite | apply keeps_foldl | apply State.syncRatePending_keeps
      | apply State.syncClause_keeps | apply State.setFld_keeps | simp only [keeps_mk] | simp only [keeps_boot]
      | split | refine keeps_snd ‹_ = (_, _)› ?_ | (intro; intros)))

theorem State.slotRefused_keeps : ∀ (s : State) (n code rec : Nat), Keeps u s → Keeps u (s.slotRefused n code rec) :=
    by
  intros; unfold State.slotRefused; try dsimp only
  repeat' (with_reducible (first
      | assumption | apply keeps_ite | apply keeps_foldl | apply State.raiseN_keeps | apply State.countHold_keeps
      | apply State.setSlotState_keeps | apply State.setFld_keeps | simp only [keeps_mk] | simp only [keeps_boot]
      | split | refine keeps_snd ‹_ = (_, _)› ?_ | (intro; intros)))

theorem State.clauseUnwound_keeps : ∀ (s : State) (n : Nat), Keeps u s → Keeps u (s.clauseUnwound n) := by
  intros; unfold State.clauseUnwound; try dsimp only
  repeat' (with_reducible (first
      | assumption | apply keeps_ite | apply keeps_foldl | apply State.setSlot_keeps | apply State.slotRefused_keeps
      | apply State.raiseN_keeps | apply State.setSlotState_keeps | simp only [keeps_mk] | simp only [keeps_boot]
      | split | refine keeps_snd ‹_ = (_, _)› ?_ | (intro; intros)))

theorem State.clauseFreeze_keeps : ∀ (s : State) (n : Nat), Keeps u s → Keeps u (s.clauseFreeze n) := by
  intros; unfold State.clauseFreeze; try dsimp only
  repeat' (with_reducible (first
      | assumption | apply keeps_ite | apply keeps_foldl | apply State.setSlotState_keeps | simp only [keeps_mk]
      | simp only [keeps_boot] | split | refine keeps_snd ‹_ = (_, _)› ?_ | (intro; intros)))

theorem State.unfillRec_keeps : ∀ (s : State) (tab : Nat) (r : Rec), Keeps u s → Keeps u (s.unfillRec tab r) := by
  intro s tab r h
  unfold State.unfillRec; dsimp only
  split
  · exact State.unitPut_keeps _ _ _ h
  · exact State.unitPut_keeps _ _ _ h
  · exact State.unitPut_keeps _ _ _ h
  · exact keeps_of h rfl id id id (Memory.write_wf s.spare _ _)
  · exact h

theorem State.imgScan_keeps : ∀ (s : State) (n : Nat), Keeps u s → Keeps u (s.imgScan n) := by
  intros; unfold State.imgScan; try dsimp only
  repeat' (with_reducible (first
      | assumption | apply keeps_ite | apply keeps_foldl | apply State.vatScan_keeps | simp only [keeps_mk]
      | simp only [keeps_boot] | split | refine keeps_snd ‹_ = (_, _)› ?_ | (intro; intros)))

theorem State.slotUnwind_keeps : ∀ (s : State) (n end_ : Nat) (filled : Bool), Keeps u s → Keeps u (s.slotUnwind n
    end_ filled) := by
  intros; unfold State.slotUnwind; try dsimp only
  repeat' (with_reducible (first
      | assumption | apply keeps_ite | apply keeps_foldl | apply State.unfillRec_keeps | apply State.imgScan_keeps
      | apply State.setSlotState_keeps | apply State.setSlot_keeps | simp only [keeps_mk] | simp only [keeps_boot]
      | split | refine keeps_snd ‹_ = (_, _)› ?_ | (intro; intros)))

theorem State.clauseDeadline_keeps : ∀ (s : State) (n : Nat), Keeps u s → Keeps u (s.clauseDeadline n) := by
  intros; unfold State.clauseDeadline; try dsimp only
  repeat' (with_reducible (first
      | assumption | apply keeps_ite | apply keeps_foldl | apply State.slotUnwind_keeps | simp only [keeps_mk]
      | simp only [keeps_boot] | split | refine keeps_snd ‹_ = (_, _)› ?_ | (intro; intros)))

theorem State.fillRec_keeps : ∀ (s : State) (tab : Nat) (r : Rec), Keeps u s → Keeps u (s.fillRec tab r) := by
  intro s tab r h
  unfold State.fillRec
  split
  · exact State.bankRec_keeps _ _ _ _ h
  · exact State.bankRec_keeps _ _ _ _ (State.vatScan_keeps _ _ _ h)
  · exact State.routeRec_keeps _ _ _ h
  · exact keeps_of (keeps_ite h (State.vatScan_keeps s r.w2 (entrySize r.mac) h)) rfl id id id (Memory.write_wf _ _ _)
  · exact h

theorem State.mirrorObject_keeps : ∀ (s : State) (n o : Nat), Keeps u s → Keeps u (s.mirrorObject n o) := by
  intros; unfold State.mirrorObject; try dsimp only
  repeat' (with_reducible (first
      | assumption | apply keeps_ite | apply keeps_foldl | apply State.fillRec_keeps | simp only [keeps_mk]
      | simp only [keeps_boot] | split | refine keeps_snd ‹_ = (_, _)› ?_ | (intro; intros)))

theorem State.mirrorStart_keeps : ∀ (s : State) (n : Nat), Keeps u s → Keeps u (s.mirrorStart n) := by
  intros; unfold State.mirrorStart; try dsimp only
  repeat' (with_reducible (first
      | assumption | apply keeps_ite | apply keeps_foldl | apply State.setSlot_keeps
      | apply State.mirrorObject_keeps | simp only [keeps_mk] | simp only [keeps_boot] | split
      | refine keeps_snd ‹_ = (_, _)› ?_ | (intro; intros)))

theorem State.slotCommitted_keeps : ∀ (s : State) (flip n : Nat), Keeps u s → Keeps u (s.slotCommitted flip n) := by
  intros; unfold State.slotCommitted; try dsimp only
  repeat' (with_reducible (first
      | assumption | apply keeps_ite | apply keeps_foldl | apply State.setRegN_keeps | apply State.setSlot_keeps
      | apply State.raiseN_keeps | apply State.countHold_keeps | apply State.setSlotState_keeps
      | simp only [keeps_mk] | simp only [keeps_boot] | split | refine keeps_snd ‹_ = (_, _)› ?_ | (intro; intros)))

theorem State.cmdRefused_keeps : ∀ (s : State) (n code : Nat), Keeps u s → Keeps u (s.cmdRefused n code) := by
  intros; unfold State.cmdRefused; try dsimp only
  repeat' (with_reducible (first
      | assumption | apply keeps_ite | apply keeps_foldl | apply State.raiseN_keeps | apply State.countHold_keeps
      | apply State.setFld_keeps | simp only [keeps_mk] | simp only [keeps_boot] | split
      | refine keeps_snd ‹_ = (_, _)› ?_ | (intro; intros)))

theorem State.clauseAbort_keeps : ∀ (s : State) (n : Nat), Keeps u s → Keeps u (s.clauseAbort n) := by
  intros; unfold State.clauseAbort; try dsimp only
  repeat' (with_reducible (first
      | assumption | apply keeps_ite | apply keeps_foldl | apply State.slotUnwind_keeps
      | apply State.cmdRefused_keeps | simp only [keeps_mk] | simp only [keeps_boot] | split
      | refine keeps_snd ‹_ = (_, _)› ?_ | (intro; intros)))

theorem State.clauseBankFree_keeps : ∀ (s : State) (n : Nat), Keeps u s → Keeps u (s.clauseBankFree n) := by
  intros; unfold State.clauseBankFree; try dsimp only
  repeat' (with_reducible (first
      | assumption | apply keeps_ite | apply keeps_foldl | apply State.setSlotState_keeps | simp only [keeps_mk]
      | simp only [keeps_boot] | split | refine keeps_snd ‹_ = (_, _)› ?_ | (intro; intros)))

theorem State.commitFollow_keeps : ∀ (s : State) (recs : List Rec), Keeps u s → Keeps u (s.commitFollow recs) := by
  intros; unfold State.commitFollow; try dsimp only
  repeat' (with_reducible (first
      | assumption | apply keeps_ite | apply keeps_foldl | apply State.claimForm_keeps | apply State.setFld_keeps
      | apply State.setReg64_keeps | apply State.syncSummary_keeps | apply State.syncFelt_keeps
      | simp only [keeps_mk] | simp only [keeps_boot] | split | refine keeps_snd ‹_ = (_, _)› ?_ | (intro; intros)))

theorem State.commitRegs_keeps : ∀ (s : State) (recs : List Rec), Keeps u s → Keeps u (s.commitRegs recs) := by
  intros; unfold State.commitRegs; try dsimp only
  repeat' (with_reducible (first
      | assumption | apply keeps_ite | apply keeps_foldl | apply State.regRec_keeps | apply State.synthStage_keeps
      | apply State.synthUpdate_keeps | simp only [keeps_mk] | simp only [keeps_boot] | split
      | refine keeps_snd ‹_ = (_, _)› ?_ | (intro; intros)))

theorem State.addGuarantee_keeps : ∀ (s : State) (t m : Nat) (change : Int), Keeps u s → Keeps u (s.addGuarantee t m
    change) := by
  intros; unfold State.addGuarantee; try dsimp only
  repeat' (with_reducible (first
      | assumption | apply keeps_ite | apply keeps_foldl | apply State.setCredit_keeps | apply State.setRegN_keeps
      | simp only [keeps_mk] | simp only [keeps_boot] | split | refine keeps_snd ‹_ = (_, _)› ?_ | (intro; intros)))

theorem State.syncSums_keeps : ∀ (s : State) (t : Nat), Keeps u s → Keeps u (s.syncSums t) := by
  intros; unfold State.syncSums; try dsimp only
  repeat' (with_reducible (first
      | assumption | apply keeps_ite | apply keeps_foldl | apply State.setRegN_keeps | apply State.bwJudge_keeps
      | simp only [keeps_mk] | simp only [keeps_boot] | split | refine keeps_snd ‹_ = (_, _)› ?_ | (intro; intros)))

theorem State.commitGuarantees_keeps : ∀ (s : State) (recs : List Rec), Keeps u s → Keeps u (s.commitGuarantees recs)
    := by
  intros; unfold State.commitGuarantees; try dsimp only
  repeat' (with_reducible (first
      | assumption | apply keeps_ite | apply keeps_foldl | apply State.addGuarantee_keeps
      | apply State.syncSums_keeps | simp only [keeps_mk] | simp only [keeps_boot] | split
      | refine keeps_snd ‹_ = (_, _)› ?_ | (intro; intros)))

theorem State.switchEntry_keeps : ∀ (s : State) (mac : Bool) (i : Nat), Keeps u s → Keeps u (s.switchEntry mac i) :=
  fun s mac i h => keeps_of (State.write_keeps s (entryAt mac i) (Memory.read s.spare (entryAt mac i) (entrySize mac)) h)
    rfl id id id (Memory.write_wf s.spare _ _)

theorem State.clearEntryCounts_keeps : ∀ (s : State) (i : Nat), Keeps u s → Keeps u (s.clearEntryCounts i) := by
  intros; unfold State.clearEntryCounts; try dsimp only
  repeat' (with_reducible (first
      | assumption | apply keeps_ite | apply keeps_foldl | apply State.setReg_keeps | simp only [keeps_mk]
      | simp only [keeps_boot] | split | refine keeps_snd ‹_ = (_, _)› ?_ | (intro; intros)))

theorem State.commitEntries_keeps : ∀ (s : State) (t : Nat) (recs : List Rec), Keeps u s → Keeps u (s.commitEntries t
    recs) := by
  intros; unfold State.commitEntries; try dsimp only
  repeat' (with_reducible (first
      | assumption | apply keeps_ite | apply keeps_foldl | apply State.switchEntry_keeps
      | apply State.clearEntryCounts_keeps | apply State.setFld_keeps | apply State.syncMacCount_keeps
      | apply State.syncUsage_keeps | simp only [keeps_mk] | simp only [keeps_boot] | split
      | refine keeps_snd ‹_ = (_, _)› ?_ | (intro; intros)))

theorem State.commitRoute_keeps : ∀ (t s : State) (g : Nat) (recs : List Rec) (staged : Option (SMap Nat)), Keeps u t
    → Keeps u s → Keeps u (t.commitRoute s g recs staged) := by
  intros; unfold State.commitRoute; try dsimp only
  repeat' (with_reducible (first
      | assumption | apply keeps_ite | apply keeps_foldl | apply State.setFld_keeps | apply State.addRoute_keeps
      | simp only [keeps_mk] | simp only [keeps_boot] | split | refine keeps_snd ‹_ = (_, _)› ?_ | (intro; intros)))

theorem State.syncMixUsage_keeps : ∀ (s : State), Keeps u s → Keeps u s.syncMixUsage := by
  intros; unfold State.syncMixUsage; try dsimp only
  repeat' (with_reducible (first
      | assumption | apply keeps_ite | apply keeps_foldl | apply State.setFld_keeps | simp only [keeps_mk]
      | simp only [keeps_boot] | split | refine keeps_snd ‹_ = (_, _)› ?_ | (intro; intros)))

theorem State.rateFollow_keeps : ∀ (s : State), Keeps u s → Keeps u s.rateFollow := by
  intros; unfold State.rateFollow; try dsimp only
  repeat' (with_reducible (first
      | assumption | apply keeps_ite | apply keeps_foldl | apply State.resyncAout_keeps
      | apply State.resyncAin_keeps | apply State.raiseN_keeps | simp only [keeps_mk] | simp only [keeps_boot]
      | split | refine keeps_snd ‹_ = (_, _)› ?_ | (intro; intros)))

theorem State.syncForce_keeps : ∀ (s : State), Keeps u s → Keeps u s.syncForce := by
  intros; unfold State.syncForce; try dsimp only
  repeat' (with_reducible (first
      | assumption | apply keeps_ite | apply keeps_foldl | apply State.setBit_keeps | apply State.setReg_keeps
      | simp only [keeps_mk] | simp only [keeps_boot] | split | refine keeps_snd ‹_ = (_, _)› ?_ | (intro; intros)))

theorem State.mirrorStarts_keeps : ∀ (s : State), Keeps u s → Keeps u s.mirrorStarts := by
  intros; unfold State.mirrorStarts; try dsimp only
  repeat' (with_reducible (first
      | assumption | apply keeps_ite | apply keeps_foldl | apply State.mirrorStart_keeps | simp only [keeps_mk]
      | simp only [keeps_boot] | split | refine keeps_snd ‹_ = (_, _)› ?_ | (intro; intros)))

theorem State.commitSlots_keeps : ∀ (s : State) (t c : Nat) (ns : List Nat), Keeps u s → Keeps u (s.commitSlots t c
    ns) := by
  intros; unfold State.commitSlots; try dsimp only
  repeat' (with_reducible (first
      | assumption | apply keeps_ite | apply keeps_foldl | apply State.setReg_keeps | apply State.commitRegs_keeps
      | apply State.commitGuarantees_keeps | apply State.commitEntries_keeps | apply State.commitRoute_keeps
      | apply State.seqCommit_keeps | apply State.syncMixUsage_keeps | apply State.commitFollow_keeps
      | apply State.rateFollow_keeps | apply State.activate_keeps | apply State.ledgerLeaf_keeps
      | apply State.syncForce_keeps | apply State.mirrorStarts_keeps | apply State.slotCommitted_keeps
      | simp only [keeps_mk] | simp only [keeps_boot] | split | refine keeps_snd ‹_ = (_, _)› ?_ | (intro; intros)))

theorem State.commitDue_keeps : ∀ (s : State) (n : Nat), Keeps u s → Keeps u (s.commitDue n) := by
  intro s n h
  induction n generalizing s with
  | zero => exact h
  | succ n ih => unfold State.commitDue; split; exacts [h, ih _ (State.commitSlots_keeps _ _ _ _ h)]

theorem State.clauseCommit_keeps : ∀ (s : State) (n : Nat), Keeps u s → Keeps u (s.clauseCommit n) := by
  intros; unfold State.clauseCommit; try dsimp only
  repeat' (with_reducible (first
      | assumption | apply keeps_ite | apply keeps_foldl | apply State.commitDue_keeps | simp only [keeps_mk]
      | simp only [keeps_boot] | split | refine keeps_snd ‹_ = (_, _)› ?_ | (intro; intros)))

theorem State.fillSlot_keeps : ∀ (s : State) (n : Nat), Keeps u s → Keeps u (s.fillSlot n) := by
  intros; unfold State.fillSlot; try dsimp only
  repeat' (with_reducible (first
      | assumption | apply keeps_ite | apply keeps_foldl | apply State.fillRec_keeps | apply State.imgScan_keeps
      | simp only [keeps_mk] | simp only [keeps_boot] | split | refine keeps_snd ‹_ = (_, _)› ?_ | (intro; intros)))

theorem State.clauseConfirm_keeps : ∀ (s : State) (n : Nat), Keeps u s → Keeps u (s.clauseConfirm n) := by
  intros; unfold State.clauseConfirm; try dsimp only
  repeat' (with_reducible (first
      | assumption | apply keeps_ite | apply keeps_foldl | apply State.setSlotState_keeps
      | apply State.cmdRefused_keeps | simp only [keeps_mk] | simp only [keeps_boot] | split
      | refine keeps_snd ‹_ = (_, _)› ?_ | (intro; intros)))

theorem State.clauseTake_keeps : ∀ (s : State) (m : RegMaster) (n img : Nat), Keeps u s → Keeps u (s.clauseTake m n
    img) := by
  intros; unfold State.clauseTake; try dsimp only
  repeat' (with_reducible (first
      | assumption | apply keeps_ite | apply keeps_foldl | apply State.takeFree_keeps | apply State.setSlot_keeps
      | apply State.setSlotState_keeps | apply State.setFld_keeps | apply State.setRegN_keeps | simp only [keeps_mk]
      | simp only [keeps_boot] | split | refine keeps_snd ‹_ = (_, _)› ?_ | (intro; intros)))

theorem State.clauseSubmit_keeps : ∀ (s : State) (m : RegMaster) (n img : Nat), Keeps u s → Keeps u (s.clauseSubmit m
    n img) := by
  intros; unfold State.clauseSubmit; try dsimp only
  repeat' (with_reducible (first
      | assumption | apply keeps_ite | apply keeps_foldl | apply State.hostErr_keeps | apply State.cmdRefused_keeps
      | apply State.clauseTake_keeps | simp only [keeps_mk] | simp only [keeps_boot] | split
      | refine keeps_snd ‹_ = (_, _)› ?_ | (intro; intros)))

theorem State.synthScheduled_keeps : ∀ (s : State) (x : Nat), Keeps u s → Keeps u (s.synthScheduled x) := by
  intros; unfold State.synthScheduled; try dsimp only
  repeat' (with_reducible (first
      | assumption | apply keeps_ite | apply keeps_foldl | apply State.synthUpdate_keeps | simp only [keeps_mk]
      | simp only [keeps_boot] | split | refine keeps_snd ‹_ = (_, _)› ?_ | (intro; intros)))

theorem State.clauseMirrored_keeps : ∀ (s : State) (n : Nat), Keeps u s → Keeps u (s.clauseMirrored n) := by
  intros; unfold State.clauseMirrored; try dsimp only
  repeat' (with_reducible (first
      | assumption | apply keeps_ite | apply keeps_foldl | apply State.mirrorStart_keeps
      | apply State.setSlotState_keeps | simp only [keeps_mk] | simp only [keeps_boot] | split
      | refine keeps_snd ‹_ = (_, _)› ?_ | (intro; intros)))

theorem State.stageDelays_keeps : ∀ (s : State) (n : Nat), Keeps u s → Keeps u (s.stageDelays n) := by
  intros; unfold State.stageDelays; try dsimp only
  repeat' (with_reducible (first
      | assumption | apply keeps_ite | apply keeps_foldl | apply State.project_keeps | apply State.setSlot_keeps
      | simp only [keeps_mk] | simp only [keeps_boot] | split | refine keeps_snd ‹_ = (_, _)› ?_ | (intro; intros)))

theorem State.clauseReset_keeps : ∀ (s : State), Keeps u s → Keeps u s.clauseReset := by
  intros; unfold State.clauseReset; try dsimp only
  repeat' (with_reducible (first
      | assumption | apply keeps_ite | apply keeps_foldl | apply State.slotUnwind_keeps | simp only [keeps_mk]
      | simp only [keeps_boot] | split | refine keeps_snd ‹_ = (_, _)› ?_ | (intro; intros)))

theorem State.clauseAdmit_keeps : ∀ (s : State) (n : Nat), Keeps u s → Keeps u (s.clauseAdmit n) := by
  intros; unfold State.clauseAdmit; try dsimp only
  repeat' (with_reducible (first
      | assumption | apply keeps_ite | apply keeps_foldl | apply State.slotRefused_keeps | apply State.imgScan_keeps
      | apply State.stageDelays_keeps | apply State.setSlot_keeps | apply State.setSlotState_keeps
      | simp only [keeps_mk] | simp only [keeps_boot] | split | refine keeps_snd ‹_ = (_, _)› ?_ | (intro; intros)))

theorem State.clauseFilled_keeps : ∀ (s : State) (n : Nat), Keeps u s → Keeps u (s.clauseFilled n) := by
  intros; unfold State.clauseFilled; try dsimp only
  repeat' (with_reducible (first
      | assumption | apply keeps_ite | apply keeps_foldl | apply State.raiseN_keeps | apply State.fillSlot_keeps
      | apply State.commitSlots_keeps | apply State.setSlotState_keeps | simp only [keeps_mk]
      | simp only [keeps_boot] | split | refine keeps_snd ‹_ = (_, _)› ?_ | (intro; intros)))

theorem State.lockTimeout_keeps : ∀ (s : State), Keeps u s → Keeps u s.lockTimeout := by
  intros; unfold State.lockTimeout; try dsimp only
  repeat' (with_reducible (first
      | assumption | apply keeps_ite | apply keeps_foldl | apply State.syncSummary_keeps | apply State.setFld_keeps
      | apply State.setBit_keeps | simp only [keeps_mk] | simp only [keeps_boot] | split
      | refine keeps_snd ‹_ = (_, _)› ?_ | (intro; intros)))

theorem State.settleRevert_keeps : ∀ (s : State), Keeps u s → Keeps u s.settleRevert := by
  intros; unfold State.settleRevert; try dsimp only
  repeat' (with_reducible (first
      | assumption | apply keeps_ite | apply keeps_foldl | simp only [keeps_mk] | simp only [keeps_boot] | split
      | refine keeps_snd ‹_ = (_, _)› ?_ | (intro; intros)))

theorem State.cold_keeps (s : State) (power : Power) (regs : SMap Word) (h : Keeps u s)
    (hr : SMap.canon regReset s.regs = true → SMap.canon regReset regs = true) : Keeps u (s.cold power regs) :=
  keeps_of h rfl hr (Memory.clear_wf _ _ _) id id

theorem State.allReset_keeps : ∀ (s : State), Keeps u s → Keeps u s.allReset := by
  intro s h
  unfold State.allReset
  exact keeps_ite h (State.cold_keeps _ _ _ h (fun _ => rfl))

theorem State.sapRampStart_keeps : ∀ (s : State) (p : Nat), Keeps u s → Keeps u (s.sapRampStart p) := by
  intros; unfold State.sapRampStart; try dsimp only
  repeat' (with_reducible (first
      | assumption | apply keeps_ite | apply keeps_foldl | apply State.setSapSt_keeps | simp only [keeps_mk]
      | simp only [keeps_boot] | split | refine keeps_snd ‹_ = (_, _)› ?_ | (intro; intros)))

theorem State.holdEnd_keeps : ∀ (s : State), Keeps u s → Keeps u s.holdEnd := by
  intros; unfold State.holdEnd; try dsimp only
  repeat' (with_reducible (first
      | assumption | apply keeps_ite | apply keeps_foldl | apply State.sapRampStart_keeps
      | apply State.aoutHoldEnd_keeps | simp only [keeps_mk] | simp only [keeps_boot] | split
      | refine keeps_snd ‹_ = (_, _)› ?_ | (intro; intros)))

theorem State.clearMemories_keeps : ∀ (s : State), Keeps u s → Keeps u s.clearMemories := fun s h =>
  keeps_of h rfl id (fun hm => Memory.clear_wf _ _ _ (Memory.clear_wf _ _ _ hm)) id

theorem State.memCleared_keeps : ∀ (s : State), Keeps u s → Keeps u s.memCleared := by
  intros; unfold State.memCleared; try dsimp only
  repeat' (with_reducible (first
      | assumption | apply keeps_ite | apply keeps_foldl | apply State.clearMemories_keeps | simp only [keeps_mk]
      | simp only [keeps_boot] | split | refine keeps_snd ‹_ = (_, _)› ?_ | (intro; intros)))

theorem State.keepAlert_keeps : ∀ (s : State), Keeps u s → Keeps u s.keepAlert := by
  intros; unfold State.keepAlert; try dsimp only
  repeat' (with_reducible (first
      | assumption | apply keeps_ite | apply keeps_foldl | apply State.setBit_keeps | simp only [keeps_mk]
      | simp only [keeps_boot] | split | refine keeps_snd ‹_ = (_, _)› ?_ | (intro; intros)))

theorem State.strapHost_keeps : ∀ (s : State), Keeps u s → Keeps u s.strapHost := by
  intros; unfold State.strapHost; try dsimp only
  repeat' (with_reducible (first
      | assumption | apply keeps_ite | apply keeps_foldl | apply State.setBit_keeps | simp only [keeps_mk]
      | simp only [keeps_boot] | split | refine keeps_snd ‹_ = (_, _)› ?_ | (intro; intros)))

theorem State.powerUp_keeps : ∀ (s : State), Keeps u s → Keeps u s.powerUp := by
  intro s h
  unfold State.powerUp
  apply State.keepAlert_keeps
  apply State.strapHost_keeps
  exact State.cold_keeps _ _ _ h (SMap.canon_filter regReset _)

theorem State.resetRegs_keeps : ∀ (s : State) (lo hi : Nat), Keeps u s → Keeps u (s.resetRegs lo hi) := fun s lo hi h =>
  keeps_of h rfl (SMap.canon_filter regReset _) id id

theorem State.sysUnlock_keeps : ∀ (s : State), Keeps u s → Keeps u s.sysUnlock := by
  intros; unfold State.sysUnlock; try dsimp only
  repeat' (with_reducible (first
      | assumption | apply keeps_ite | apply keeps_foldl | apply State.raiseN_keeps | apply State.setBit_keeps
      | simp only [keeps_mk] | simp only [keeps_boot] | split | refine keeps_snd ‹_ = (_, _)› ?_ | (intro; intros)))

theorem State.deviceReset_keeps : ∀ (s : State), Keeps u s → Keeps u s.deviceReset := by
  intros; unfold State.deviceReset; try dsimp only
  repeat' (with_reducible (first
      | assumption | apply keeps_ite | apply keeps_foldl | apply State.setFld_keeps | apply State.setBit_keeps
      | apply State.powerUp_keeps | simp only [keeps_mk] | simp only [keeps_boot] | split
      | refine keeps_snd ‹_ = (_, _)› ?_ | (intro; intros)))

theorem State.outputHold_keeps : ∀ (s : State), Keeps u s → Keeps u s.outputHold := by
  intros; unfold State.outputHold; try dsimp only
  repeat' (with_reducible (first
      | assumption | apply keeps_ite | apply keeps_foldl | apply State.syncClaim_keeps | apply State.setBit_keeps
      | apply State.aoutHold_keeps | simp only [keeps_mk] | simp only [keeps_boot] | split
      | refine keeps_snd ‹_ = (_, _)› ?_ | (intro; intros)))

theorem State.sentDrop_keeps : ∀ (s : State) (by_ : Nat), Keeps u s → Keeps u (s.sentDrop by_) := by
  intros; unfold State.sentDrop; try dsimp only
  repeat' (with_reducible (first
      | assumption | apply keeps_ite | apply keeps_foldl | apply State.claimDrop_keeps | simp only [keeps_mk]
      | simp only [keeps_boot] | split | refine keeps_snd ‹_ = (_, _)› ?_ | (intro; intros)))

theorem State.scheduleReset_keeps : ∀ (s : State) (cause : Nat), Keeps u s → Keeps u (s.scheduleReset cause) := by
  intros; unfold State.scheduleReset; try dsimp only
  repeat' (with_reducible (first
      | assumption | apply keeps_ite | apply keeps_foldl | apply State.setBit_keeps | apply State.setFld_keeps
      | apply State.syncSummary_keeps | simp only [keeps_mk] | simp only [keeps_boot] | split
      | refine keeps_snd ‹_ = (_, _)› ?_ | (intro; intros)))

theorem State.tallySilent_keeps : ∀ (s : State), Keeps u s → Keeps u s.tallySilent := by
  intros; unfold State.tallySilent; try dsimp only
  repeat' (with_reducible (first
      | assumption | apply keeps_ite | apply keeps_foldl | apply State.outputHold_keeps | apply State.sentDrop_keeps
      | apply State.scheduleReset_keeps | simp only [keeps_mk] | simp only [keeps_boot] | split
      | refine keeps_snd ‹_ = (_, _)› ?_ | (intro; intros)))

theorem State.resetFall_keeps : ∀ (s : State) (ns : Nat), Keeps u s → Keeps u (s.resetFall ns) := by
  intros; unfold State.resetFall; try dsimp only
  repeat' (with_reducible (first
      | assumption | apply keeps_ite | apply keeps_foldl | apply State.allReset_keeps | apply State.takeFree_keeps
      | simp only [keeps_mk] | simp only [keeps_boot] | split | refine keeps_snd ‹_ = (_, _)› ?_ | (intro; intros)))

theorem State.wakeDetect_keeps : ∀ (s : State) (n : Nat), Keeps u s → Keeps u (s.wakeDetect n) := by
  intros; unfold State.wakeDetect; try dsimp only
  repeat' (with_reducible (first
      | assumption | apply keeps_ite | apply keeps_foldl | apply State.powerUp_keeps | apply State.setFld_keeps
      | apply State.setBit_keeps | simp only [keeps_mk] | simp only [keeps_boot] | split
      | refine keeps_snd ‹_ = (_, _)› ?_ | (intro; intros)))

theorem State.hostPll_keeps : ∀ (s : State), Keeps u s → Keeps u s.hostPll := by
  intros; unfold State.hostPll; try dsimp only
  repeat' (with_reducible (first
      | assumption | apply keeps_ite | apply keeps_foldl | apply State.setBit_keeps | simp only [keeps_mk]
      | simp only [keeps_boot] | split | refine keeps_snd ‹_ = (_, _)› ?_ | (intro; intros)))

theorem State.sysLock_keeps : ∀ (s : State), Keeps u s → Keeps u s.sysLock := by
  intros; unfold State.sysLock; try dsimp only
  repeat' (with_reducible (first
      | assumption | apply keeps_ite | apply keeps_foldl | apply State.hostPll_keeps | apply State.setBit_keeps
      | simp only [keeps_mk] | simp only [keeps_boot] | split | refine keeps_snd ‹_ = (_, _)› ?_ | (intro; intros)))

theorem State.seqCounters_keeps : ∀ (s : State), Keeps u s → Keeps u s.seqCounters := by
  intros; unfold State.seqCounters; try dsimp only
  repeat' (with_reducible (first
      | assumption | apply keeps_ite | apply keeps_foldl | apply State.resetRegs_keeps | simp only [keeps_mk]
      | simp only [keeps_boot] | split | refine keeps_snd ‹_ = (_, _)› ?_ | (intro; intros)))

theorem State.cpRestart_keeps : ∀ (s : State) (p : Nat) (back : Bool), Keeps u s → Keeps u (s.cpRestart p back) := by
  intros; unfold State.cpRestart; try dsimp only
  repeat' (with_reducible (first
      | assumption | apply keeps_ite | apply keeps_foldl | apply State.wdogRestart_keeps | apply State.setPrev_keeps
      | apply State.setReg_keeps | apply State.swapBanks_keeps | apply State.raiseN_keeps | simp only [keeps_mk]
      | simp only [keeps_boot] | split | refine keeps_snd ‹_ = (_, _)› ?_ | (intro; intros)))

theorem State.arrayReset_keeps : ∀ (s : State), Keeps u s → Keeps u s.arrayReset := by
  intros; unfold State.arrayReset; try dsimp only
  repeat' (with_reducible (first
      | assumption | apply keeps_ite | apply keeps_foldl | apply State.resetRegs_keeps | simp only [keeps_mk]
      | simp only [keeps_boot] | split | refine keeps_snd ‹_ = (_, _)› ?_ | (intro; intros)))

theorem State.seqReset_keeps : ∀ (s : State), Keeps u s → Keeps u s.seqReset := by
  intros; unfold State.seqReset; try dsimp only
  repeat' (with_reducible (first
      | assumption | apply keeps_ite | apply keeps_foldl | apply State.foldAllFlips_keeps
      | apply State.setSeqState_keeps | apply State.discardTasks_keeps | apply State.seqCounters_keeps
      | simp only [keeps_mk] | simp only [keeps_boot] | split | refine keeps_snd ‹_ = (_, _)› ?_ | (intro; intros)))

theorem State.analogueReset_keeps : ∀ (s : State), Keeps u s → Keeps u s.analogueReset := by
  intros; unfold State.analogueReset; try dsimp only
  repeat' (with_reducible (first
      | assumption | apply keeps_ite | apply keeps_foldl | apply State.resetRegs_keeps | simp only [keeps_mk]
      | simp only [keeps_boot] | split | refine keeps_snd ‹_ = (_, _)› ?_ | (intro; intros)))

theorem State.resetSubsystem_keeps : ∀ (s : State) (back : Nat → Bool) (x : Subsystem), Keeps u s → Keeps u
    (s.resetSubsystem back x) := by
  intros; unfold State.resetSubsystem; try dsimp only
  repeat' (with_reducible (first
      | assumption | apply keeps_ite | apply keeps_foldl | apply State.cpRestart_keeps
      | apply State.servoToFree_keeps | apply State.arrayReset_keeps | apply State.seqReset_keeps
      | apply State.analogueReset_keeps | apply State.clauseReset_keeps | simp only [keeps_mk]
      | simp only [keeps_boot] | split | refine keeps_snd ‹_ = (_, _)› ?_ | (intro; intros)))

theorem State.escalate_keeps : ∀ (s : State), Keeps u s → Keeps u s.escalate := by
  intros; unfold State.escalate; try dsimp only
  repeat' (with_reducible (first
      | assumption | apply keeps_ite | apply keeps_foldl | apply State.sentDrop_keeps
      | apply State.settleRevert_keeps | apply State.outputHold_keeps | apply State.resetSubsystem_keeps
      | apply State.scheduleReset_keeps | simp only [keeps_mk] | simp only [keeps_boot] | split
      | refine keeps_snd ‹_ = (_, _)› ?_ | (intro; intros)))

theorem State.resetRise_keeps : ∀ (s : State) (straps : BitVec 8), Keeps u s → Keeps u (s.resetRise straps) := by
  intros; unfold State.resetRise; try dsimp only
  repeat' (with_reducible (first
      | assumption | apply keeps_ite | apply keeps_foldl | apply State.strapHost_keeps | apply State.setRegN_keeps
      | simp only [keeps_mk] | simp only [keeps_boot] | split | refine keeps_snd ‹_ = (_, _)› ?_ | (intro; intros)))

theorem State.setSealState_keeps : ∀ (s : State) (n st : Nat), Keeps u s → Keeps u (s.setSealState n st) := by
  intros; unfold State.setSealState; try dsimp only
  repeat' (with_reducible (first
      | assumption | apply keeps_ite | apply keeps_foldl | apply State.setFld_keeps | simp only [keeps_mk]
      | simp only [keeps_boot] | split | refine keeps_snd ‹_ = (_, _)› ?_ | (intro; intros)))

theorem State.sealNext_keeps : ∀ (s : State), Keeps u s → Keeps u s.sealNext := by
  intros; unfold State.sealNext; try dsimp only
  repeat' (with_reducible (first
      | assumption | apply keeps_ite | apply keeps_foldl | apply State.setSealState_keeps | simp only [keeps_mk]
      | simp only [keeps_boot] | split | refine keeps_snd ‹_ = (_, _)› ?_ | (intro; intros)))

theorem State.sysSealEnd_keeps : ∀ (s : State), Keeps u s → Keeps u s.sysSealEnd := by
  intros; unfold State.sysSealEnd; try dsimp only
  repeat' (with_reducible (first
      | assumption | apply keeps_ite | apply keeps_foldl | apply State.sealNext_keeps | simp only [keeps_mk]
      | simp only [keeps_boot] | split | refine keeps_snd ‹_ = (_, _)› ?_ | (intro; intros)))

theorem State.bootEnd_keeps : ∀ (s : State), Keeps u s → Keeps u s.bootEnd := by
  intros; unfold State.bootEnd; try dsimp only
  repeat' (with_reducible (first
      | assumption | apply keeps_ite | apply keeps_foldl | apply State.setBit_keeps | simp only [keeps_mk]
      | simp only [keeps_boot] | split | refine keeps_snd ‹_ = (_, _)› ?_ | (intro; intros)))

theorem State.bootErr_keeps : ∀ (s : State) (code : Nat), Keeps u s → Keeps u (s.bootErr code) := by
  intros; unfold State.bootErr; try dsimp only
  repeat' (with_reducible (first
      | assumption | apply keeps_ite | apply keeps_foldl | apply State.setFld_keeps | simp only [keeps_mk]
      | simp only [keeps_boot] | split | refine keeps_snd ‹_ = (_, _)› ?_ | (intro; intros)))

theorem State.stageFw_keeps : ∀ (s : State) (slot : Nat) (l : List SlotImage) (p : Nat), Keeps u s →
    Keeps u (s.stageFw slot l p) := by
  intro s slot l p h
  unfold State.stageFw
  refine keeps_ite (keeps_foldl (fun s m hs => State.setPrev_keeps _ _ _ (State.setRegN_keeps _ _ _
    (State.setIdle_keeps _ _ _ hs (fun ha hb => Memory.write_wf _ _ _ ?_)))) h) h
  unfold State.idleBank; split; exacts [ha, hb]

theorem verifyEnd_keeps : ∀ (slot : Nat) (l : List SlotImage) (r : Option (Nat × Nat) × State), Keeps u r.2 →
    Keeps u (verifyEnd slot l r) := by
  intro slot l r h
  have h1 : Keeps u r.2.bootEnd.sysSealEnd := State.sysSealEnd_keeps _ (State.bootEnd_keeps _ h)
  rw [verifyEnd]
  split
  · exact State.raiseN_keeps _ _ _ (State.bootErr_keeps _ _ h1)
  · exact State.raiseN_keeps _ _ _ (State.stageFw_keeps _ _ _ _ (State.stageFw_keeps _ _ _ _
      (State.setBit_keeps _ _ _ _ h1)))

theorem State.sealReads_keeps : ∀ (s : State) (n : Nat), Keeps u s → Keeps u (s.sealReads n) := by
  intros; unfold State.sealReads; try dsimp only
  repeat' (with_reducible (first
      | assumption | apply keeps_ite | apply keeps_foldl | apply State.vatScan_keeps | apply State.ledgerRead_keeps
      | simp only [keeps_mk] | simp only [keeps_boot] | split | refine keeps_snd ‹_ = (_, _)› ?_ | (intro; intros)))

theorem State.bootRun_keeps : ∀ (s : State) (op : Nat), Keeps u s → Keeps u (s.bootRun op) := by
  intros; unfold State.bootRun; try dsimp only
  repeat' (with_reducible (first
      | assumption | apply keeps_ite | apply keeps_foldl | apply State.setBit_keeps | simp only [keeps_mk]
      | simp only [keeps_boot] | split | refine keeps_snd ‹_ = (_, _)› ?_ | (intro; intros)))

theorem State.bootDone_keeps : ∀ (s : State) (ms : Nat), Keeps u s → Keeps u (s.bootDone ms) := by
  intros; unfold State.bootDone; try dsimp only
  repeat' (with_reducible (first
      | assumption | apply keeps_ite | apply keeps_foldl | apply State.bootRecord_keeps | apply State.raiseN_keeps
      | apply State.setAttempts_keeps | apply State.setControl_keeps | simp only [keeps_mk] | simp only [keeps_boot]
      | split | refine keeps_snd ‹_ = (_, _)› ?_ | (intro; intros)))

theorem State.keysRead_keeps : ∀ (s : State) (ks : List Nat), Keeps u s → Keeps u (s.keysRead ks) := by
  intros; unfold State.keysRead; try dsimp only
  repeat' (with_reducible (first
      | assumption | apply keeps_ite | apply keeps_foldl | apply State.ledgerRead_keeps | simp only [keeps_mk]
      | simp only [keeps_boot] | split | refine keeps_snd ‹_ = (_, _)› ?_ | (intro; intros)))

theorem State.setBootState_keeps : ∀ (s : State) (st : Nat), Keeps u s → Keeps u (s.setBootState st) := by
  intros; unfold State.setBootState; try dsimp only
  repeat' (with_reducible (first
      | assumption | apply keeps_ite | apply keeps_foldl | apply State.setFld_keeps | simp only [keeps_mk]
      | simp only [keeps_boot] | split | refine keeps_snd ‹_ = (_, _)› ?_ | (intro; intros)))

theorem State.recovery_keeps : ∀ (s : State) (cause ms : Nat), Keeps u s → Keeps u (s.recovery cause ms) := by
  intros; unfold State.recovery; try dsimp only
  repeat' (with_reducible (first
      | assumption | apply keeps_ite | apply keeps_foldl | apply State.bootRecord_keeps
      | apply State.setBootState_keeps | simp only [keeps_mk] | simp only [keeps_boot] | split
      | refine keeps_snd ‹_ = (_, _)› ?_ | (intro; intros)))

theorem State.slotRejected_keeps : ∀ (s : State) (idx cause ms : Nat), Keeps u s → Keeps u (s.slotRejected idx cause
    ms) := by
  intros; unfold State.slotRejected; try dsimp only
  repeat' (with_reducible (first
      | assumption | apply keeps_ite | apply keeps_foldl | apply State.raiseN_keeps | apply State.setFld_keeps
      | apply State.keysRead_keeps | apply State.recovery_keeps | apply State.sysSealEnd_keeps
      | apply State.clearMemories_keeps | simp only [keeps_mk] | simp only [keeps_boot] | split
      | refine keeps_snd ‹_ = (_, _)› ?_ | (intro; intros)))

theorem State.bootAccept_keeps : ∀ (s : State) (m : RegMaster) (f : State → State), Keeps u s →
    (∀ s, Keeps u s → Keeps u (f s)) → Keeps u (s.bootAccept m f) := by
  intro s m f h hf
  unfold State.bootAccept
  exact keeps_ite h (keeps_ite (State.bootErr_keeps _ _ h) (hf _ h))

theorem State.clearAttemptsCmd_keeps : ∀ (s : State), Keeps u s → Keeps u s.clearAttemptsCmd := by
  intros; unfold State.clearAttemptsCmd; try dsimp only
  repeat' (with_reducible (first
      | assumption | apply keeps_ite | apply keeps_foldl | apply State.setAttempts_keeps | simp only [keeps_mk]
      | simp only [keeps_boot] | split | refine keeps_snd ‹_ = (_, _)› ?_ | (intro; intros)))

theorem State.sealYield_keeps : ∀ (s : State) (n : Nat), Keeps u s → Keeps u (s.sealYield n) := by
  intros; unfold State.sealYield; try dsimp only
  repeat' (with_reducible (first
      | assumption | apply keeps_ite | apply keeps_foldl | apply State.setSealState_keeps | simp only [keeps_mk]
      | simp only [keeps_boot] | split | refine keeps_snd ‹_ = (_, _)› ?_ | (intro; intros)))

theorem State.bootStart_keeps : ∀ (s : State) (ms : Nat), Keeps u s → Keeps u (s.bootStart ms) := by
  intros; unfold State.bootStart; try dsimp only
  repeat' (with_reducible (first
      | assumption | apply keeps_ite | apply keeps_foldl | apply State.control_keeps | apply State.recovery_keeps
      | apply State.setBootState_keeps | simp only [keeps_mk] | simp only [keeps_boot] | split
      | refine keeps_snd ‹_ = (_, _)› ?_ | (intro; intros)))

theorem imagesVerdict_keeps : ∀ (r : (Nat ⊕ Nat) × State), Keeps u r.2 →
    Keeps u (imagesVerdict r).2 := by
  intro r h
  unfold imagesVerdict
  split <;> exact h

theorem State.sysSealStart_keeps : ∀ (s : State), Keeps u s → Keeps u s.sysSealStart := by
  intros; unfold State.sysSealStart; try dsimp only
  repeat' (with_reducible (first
      | assumption | apply keeps_ite | apply keeps_foldl | apply State.sealNext_keeps | apply State.takeFree_keeps
      | apply State.setSealState_keeps | simp only [keeps_mk] | simp only [keeps_boot] | split
      | refine keeps_snd ‹_ = (_, _)› ?_ | (intro; intros)))

theorem State.bootPut_keeps : ∀ (s : State) (a : Nat) (bs : List Byte), Keeps u s → Keeps u (s.bootPut a bs) := by
  intros; unfold State.bootPut; try dsimp only
  repeat' (with_reducible (first
      | assumption | apply keeps_ite | apply keeps_foldl | apply State.unitWrite_keeps | simp only [keeps_mk]
      | simp only [keeps_boot] | split | refine keeps_snd ‹_ = (_, _)› ?_ | (intro; intros)))

theorem State.bootClause_keeps : ∀ (s : State) (img : Nat), Keeps u s → Keeps u (s.bootClause img).2 := by
  intros; unfold State.bootClause; try dsimp only
  repeat' (with_reducible (first
      | assumption | apply keeps_ite | apply keeps_foldl | apply State.clauseAdmit_keeps
      | apply State.clauseSubmit_keeps | apply State.clauseMirrored_keeps | apply State.clauseFilled_keeps
      | apply State.clauseBankFree_keeps | simp only [keeps_mk] | simp only [keeps_boot] | split
      | refine keeps_snd ‹_ = (_, _)› ?_ | (intro; intros)))

theorem State.applySection_keeps : ∀ (s : State) (typ a b : Nat) (d : List Byte), Keeps u s → Keeps u (s.applySection
    typ a b d).2 := by
  intros; unfold State.applySection; try dsimp only
  repeat' (with_reducible (first
      | assumption | apply keeps_ite | apply keeps_foldl | apply State.bootPut_keeps | apply State.bootClause_keeps
      | simp only [keeps_mk] | simp only [keeps_boot] | split | refine keeps_snd ‹_ = (_, _)› ?_ | (intro; intros)))

theorem State.firstSlot_keeps : ∀ (s : State), Keeps u s → Keeps u s.firstSlot.2 := by
  intros; unfold State.firstSlot; try dsimp only
  repeat' (with_reducible (first
      | assumption | apply keeps_ite | apply keeps_foldl | apply State.takeFree_keeps | simp only [keeps_mk]
      | simp only [keeps_boot] | split | refine keeps_snd ‹_ = (_, _)› ?_ | (intro; intros)))

theorem State.discovered_keeps : ∀ (s : State) (r : Sfdp) (ms : Nat), Keeps u s → Keeps u (s.discovered r ms) := by
  intros; unfold State.discovered; try dsimp only
  repeat' (with_reducible (first
      | assumption | apply keeps_ite | apply keeps_foldl | apply State.setFld_keeps | apply State.firstSlot_keeps
      | apply State.setBootState_keeps | apply State.sysSealStart_keeps | apply State.recovery_keeps
      | apply State.raiseN_keeps | simp only [keeps_mk] | simp only [keeps_boot] | split
      | refine keeps_snd ‹_ = (_, _)› ?_ | (intro; intros)))

theorem State.loadBlock_keeps : ∀ (s : State) (m : SlotImage) (leaf j : Nat) (bs : List Byte), Keeps u s → Keeps u
    (s.loadBlock m leaf j bs) := by
  intros; unfold State.loadBlock; try dsimp only
  repeat' (with_reducible (first
      | assumption | apply keeps_ite | apply keeps_foldl | apply State.write_keeps | apply State.eccClear_keeps
      | apply State.bootPut_keeps | simp only [keeps_mk] | simp only [keeps_boot] | split
      | refine keeps_snd ‹_ = (_, _)› ?_ | (intro; intros)))

theorem State.vetBlocks_keeps : ∀ (s : State) (slot : Nat) (boot : Bool) (m : SlotImage) (leaf n j : Nat),
    Keeps u s → Keeps u (s.vetBlocks slot boot m leaf n j).2 := by
  intro s slot boot m leaf n j h
  induction n generalizing s j with
  | zero => exact h
  | succ n ih =>
    unfold State.vetBlocks; dsimp only
    split
    · exact ih _ _ (keeps_ite (State.loadBlock_keeps _ _ _ _ _ h) h)
    · exact h

theorem State.vetImages_keeps : ∀ (s : State) (slot : Nat) (boot : Bool) (leaf : Nat) (l : List SlotImage) (i : Nat),
    Keeps u s → Keeps u (s.vetImages slot boot leaf l i).2 := by
  intro s slot boot leaf l i h
  induction l generalizing s i with
  | nil => exact h
  | cons m l ih =>
    unfold State.vetImages; dsimp only
    have h1 := State.vetBlocks_keeps s slot boot m leaf ((m.length + 4095) / 4096) 0 h
    split
    · exact h1
    · split; exacts [ih _ _ h1, h1]

theorem State.vetSlot_keeps : ∀ (s : State) (slot : Nat) (boot readErr : Bool), Keeps u s →
    Keeps u (s.vetSlot slot boot readErr).2 := by
  intro s slot boot readErr h
  rw [State.vetSlot]
  dsimp only
  have h1 := State.ledgerRead_keeps s (keyAt (headerKey (s.slotHeader slot))) 0x70 h
  generalize (s.ledgerRead (keyAt (headerKey (s.slotHeader slot))) 0x70).2 = s1 at h1 ⊢
  have h2 := State.vetImages_keeps s1 slot boot (s1.chosenLeaf slot (slotImages (s.slotHeader slot))).1
    (slotImages (s.slotHeader slot)) 0 h1
  generalize s1.vetImages slot boot (s1.chosenLeaf slot (slotImages (s.slotHeader slot))).1
    (slotImages (s.slotHeader slot)) 0 = r at h2 ⊢
  refine keeps_ite2 h (keeps_ite2 h (keeps_ite2 h1 (keeps_ite2 h1 (keeps_ite2 h1 (keeps_ite2 h1
    (keeps_ite2 ?_ h2))))))
  exact State.takeFree_keeps _ h2

theorem State.flashPut_keeps : ∀ (s : State) (a : Nat) (bs : List Byte), Keeps u s → Keeps u (s.flashPut a bs) :=
  fun s a _ h => keeps_of h rfl id id id id (Memory.write_wf s.boot.flash a _)

theorem State.bootRead_keeps : ∀ (s : State) (a n : Nat), Keeps u s → Keeps u (s.bootRead a n) := by
  intros; unfold State.bootRead; try dsimp only
  repeat' (with_reducible (first
      | assumption | apply keeps_ite | apply keeps_foldl | apply State.unitRead_keeps | simp only [keeps_mk]
      | simp only [keeps_boot] | split | refine keeps_snd ‹_ = (_, _)› ?_ | (intro; intros)))

theorem State.flashApply_keeps : ∀ (s : State) (j : BootJob), Keeps u s → Keeps u (s.flashApply j) := by
  intro s j h
  unfold State.flashApply; dsimp only
  split
  · exact keeps_of h rfl id id id id (Memory.clear_wf s.boot.flash _ _)
  · exact State.flashPut_keeps _ _ _ (State.bootRead_keeps _ _ _ h)
  · exact State.bootPut_keeps _ _ _ h

theorem State.bootCommand_keeps : ∀ (s : State) (m : RegMaster) (f : State → State), Keeps u s → (∀ (a : State), Keeps
    u a → Keeps u (f a)) → Keeps u (s.bootCommand m f) := by
  intros; unfold State.bootCommand; try dsimp only
  repeat' (with_reducible (first
      | assumption | apply keeps_ite | apply keeps_foldl | apply State.holdTags_keeps | apply State.bootAccept_keeps
      | simp only [keeps_mk] | simp only [keeps_boot] | split | refine keeps_snd ‹_ = (_, _)› ?_ | (intro; intros)))

theorem State.flashCmd_keeps : ∀ (s : State) (op : Nat), Keeps u s → Keeps u (s.flashCmd op) := by
  intros; unfold State.flashCmd; try dsimp only
  repeat' (with_reducible (first
      | assumption | apply keeps_ite | apply keeps_foldl | apply State.bootErr_keeps | apply State.setBit_keeps
      | apply State.bootRun_keeps | simp only [keeps_mk] | simp only [keeps_boot] | split
      | refine keeps_snd ‹_ = (_, _)› ?_ | (intro; intros)))

theorem State.sealDone_keeps : ∀ (s : State), Keeps u s → Keeps u s.sealDone := by
  intros; unfold State.sealDone; try dsimp only
  repeat' (with_reducible (first
      | assumption | apply keeps_ite | apply keeps_foldl | apply State.sealReads_keeps | apply State.sealNext_keeps
      | apply State.raiseN_keeps | apply State.setSealState_keeps | apply State.setBit_keeps
      | apply State.unitPut_keeps | simp only [keeps_mk] | simp only [keeps_boot] | split
      | refine keeps_snd ‹_ = (_, _)› ?_ | (intro; intros)))

theorem State.slotReleased_keeps : ∀ (s : State) (l : List SlotImage) (leaf : Nat), Keeps u s → Keeps u
    (s.slotReleased l leaf) := by
  intros; unfold State.slotReleased; try dsimp only
  repeat' (with_reducible (first
      | assumption | apply keeps_ite | apply keeps_foldl | apply State.setAttempts_keeps | apply State.setRegN_keeps
      | apply State.setBootState_keeps | apply State.sysSealEnd_keeps | apply State.wdogRestart_keeps
      | apply State.raiseN_keeps | simp only [keeps_mk] | simp only [keeps_boot] | split
      | refine keeps_snd ‹_ = (_, _)› ?_ | (intro; intros)))

theorem slotEnd_keeps : ∀ (l : List SlotImage) (ms : Nat) (r : ((Nat × Nat) ⊕ Nat) × State), Keeps u r.2 →
    Keeps u (slotEnd l ms r) := by
  intro l ms r h
  obtain ⟨a, v⟩ := r
  cases a with
  | inl f => rw [slotEnd]; exact State.slotRejected_keeps _ _ _ _ h
  | inr f => rw [slotEnd]; exact State.slotReleased_keeps _ _ _ h

theorem State.applySections_keeps : ∀ (s : State) (r : List Byte) (n i : Nat), Keeps u s →
    Keeps u (s.applySections r n i).2 := by
  intro s r n i h
  induction n generalizing s i with
  | zero => exact h
  | succ n ih =>
    unfold State.applySections; dsimp only
    split
    · split; exacts [ih _ _ (State.applySection_keeps _ _ _ _ _ h), State.applySection_keeps _ _ _ _ _ h]
    · exact h

theorem State.applyReam_keeps : ∀ (s : State) (r : List Byte), Keeps u s → Keeps u (s.applyReam r).2 := by
  intros; unfold State.applyReam; try dsimp only
  repeat' (with_reducible (first
      | assumption | apply keeps_ite | apply keeps_foldl | apply State.applySections_keeps | simp only [keeps_mk]
      | simp only [keeps_boot] | split | refine keeps_snd ‹_ = (_, _)› ?_ | (intro; intros)))

theorem State.applyLeaf_keeps : ∀ (s : State) (slot : Nat) (l : List SlotImage) (leaf : Nat), Keeps u s → Keeps u
    (s.applyLeaf slot l leaf).2 := by
  intros; unfold State.applyLeaf; try dsimp only
  repeat' (with_reducible (first
      | assumption | apply keeps_ite | apply keeps_foldl | apply State.bootPut_keeps | apply State.bootClause_keeps
      | simp only [keeps_mk] | simp only [keeps_boot] | split | refine keeps_snd ‹_ = (_, _)› ?_ | (intro; intros)))

theorem State.applyFirstLeaf_keeps : ∀ (s : State) (slot : Nat) (l : List SlotImage), Keeps u s → Keeps u
    (s.applyFirstLeaf slot l).2 := by
  intros; unfold State.applyFirstLeaf; try dsimp only
  repeat' (with_reducible (first
      | assumption | apply keeps_ite | apply keeps_foldl | apply State.applyLeaf_keeps | apply State.raiseN_keeps
      | simp only [keeps_mk] | simp only [keeps_boot] | split | refine keeps_snd ‹_ = (_, _)› ?_ | (intro; intros)))

theorem State.applyImages_keeps : ∀ (s : State) (slot : Nat) (l : List SlotImage), Keeps u s → Keeps u (s.applyImages
    slot l).2 := by
  intros; unfold State.applyImages; try dsimp only
  repeat' (with_reducible (first
      | assumption | apply keeps_ite | apply keeps_foldl | apply State.applyReam_keeps
      | apply State.applyFirstLeaf_keeps | simp only [keeps_mk] | simp only [keeps_boot] | split
      | refine keeps_snd ‹_ = (_, _)› ?_ | (intro; intros)))

theorem headerVerdict_keeps : ∀ (slot : Nat) (hd : List Byte) (r : Option (Nat × Nat) × State), Keeps u r.2 →
    Keeps u (headerVerdict slot hd r).2 := by
  intro slot hd r h
  obtain ⟨a, v⟩ := r
  cases a with
  | some f => exact h
  | none =>
    rw [headerVerdict]
    exact imagesVerdict_keeps _ (State.applyImages_keeps _ _ _ h)

theorem State.trying_keeps : ∀ (s : State) (hd : List Byte), Keeps u s → Keeps u (s.trying hd) :=
  fun _ _ h => keeps_boot.mpr h

theorem State.slotVerdict_keeps : ∀ (s : State) (readErr : Bool), Keeps u s →
    Keeps u (s.slotVerdict readErr).2 := by
  intro s readErr h
  rw [State.slotVerdict]
  exact headerVerdict_keeps _ _ _ (State.vetSlot_keeps _ _ _ _ (State.trying_keeps _ _ h))

theorem State.slotDone_keeps : ∀ (s : State) (readErr : Bool) (ms : Nat), Keeps u s →
    Keeps u (s.slotDone readErr ms) := by
  intro s readErr ms h
  rw [State.slotDone]
  exact keeps_ite (slotEnd_keeps _ _ _ (State.slotVerdict_keeps _ _ h)) h

theorem State.keyRevokeCmd_keeps : ∀ (s : State), Keeps u s → Keeps u s.keyRevokeCmd := by
  intros; unfold State.keyRevokeCmd; try dsimp only
  repeat' (with_reducible (first
      | assumption | apply keeps_ite | apply keeps_foldl | apply State.bootErr_keeps | apply State.keysRead_keeps
      | apply State.ledgerPut_keeps | simp only [keeps_mk] | simp only [keeps_boot] | split
      | refine keeps_snd ‹_ = (_, _)› ?_ | (intro; intros)))

theorem State.preferCmd_keeps : ∀ (s : State), Keeps u s → Keeps u s.preferCmd := by
  intros; unfold State.preferCmd; try dsimp only
  repeat' (with_reducible (first
      | assumption | apply keeps_ite | apply keeps_foldl | apply State.setControl_keeps | apply State.bootErr_keeps
      | simp only [keeps_mk] | simp only [keeps_boot] | split | refine keeps_snd ‹_ = (_, _)› ?_ | (intro; intros)))

theorem State.sealSubmit_keeps : ∀ (s : State) (m : RegMaster) (n : Nat), Keeps u s → Keeps u (s.sealSubmit m n) := by
  intros; unfold State.sealSubmit; try dsimp only
  repeat' (with_reducible (first
      | assumption | apply keeps_ite | apply keeps_foldl | apply State.sealYield_keeps | apply State.sealNext_keeps
      | apply State.setSealState_keeps | simp only [keeps_mk] | simp only [keeps_boot] | split
      | refine keeps_snd ‹_ = (_, _)› ?_ | (intro; intros)))

theorem State.sealCtrl_keeps : ∀ (s : State) (m : RegMaster) (n : Nat) (data : Word), Keeps u s → Keeps u (s.sealCtrl
    m n data) := by
  intros; unfold State.sealCtrl; try dsimp only
  repeat' (with_reducible (first
      | assumption | apply keeps_ite | apply keeps_foldl | apply State.sealSubmit_keeps | apply State.setBit_keeps
      | apply State.writeRw_keeps | simp only [keeps_mk] | simp only [keeps_boot] | split
      | refine keeps_snd ‹_ = (_, _)› ?_ | (intro; intros)))

theorem State.retryCmd_keeps : ∀ (s : State) (ms : Nat), Keeps u s → Keeps u (s.retryCmd ms) := by
  intros; unfold State.retryCmd; try dsimp only
  repeat' (with_reducible (first
      | assumption | apply keeps_ite | apply keeps_foldl | apply State.control_keeps
      | apply State.clearMemories_keeps | apply State.recovery_keeps | apply State.setBootState_keeps
      | apply State.bootErr_keeps | simp only [keeps_mk] | simp only [keeps_boot] | split
      | refine keeps_snd ‹_ = (_, _)› ?_ | (intro; intros)))

theorem State.flashSpoil_keeps : ∀ (s : State) (j : BootJob), Keeps u s → Keeps u (s.flashSpoil j) := by
  intros; unfold State.flashSpoil; try dsimp only
  repeat' (with_reducible (first
      | assumption | apply keeps_ite | apply keeps_foldl | apply State.takeFree_keeps | apply State.bootPut_keeps
      | apply State.flashPut_keeps | simp only [keeps_mk] | simp only [keeps_boot] | split
      | refine keeps_snd ‹_ = (_, _)› ?_ | (intro; intros)))

theorem State.flashDone_keeps : ∀ (s : State) (r : FlashResult), Keeps u s → Keeps u (s.flashDone r) := by
  intros; unfold State.flashDone; try dsimp only
  repeat' (with_reducible (first
      | assumption | apply keeps_ite | apply keeps_foldl | apply State.raiseN_keeps | apply State.bootEnd_keeps
      | apply State.flashApply_keeps | apply State.bootErr_keeps | apply State.flashSpoil_keeps
      | simp only [keeps_mk] | simp only [keeps_boot] | split | refine keeps_snd ‹_ = (_, _)› ?_ | (intro; intros)))

theorem State.keyProgramCmd_keeps : ∀ (s : State), Keeps u s → Keeps u s.keyProgramCmd := by
  intros; unfold State.keyProgramCmd; try dsimp only
  repeat' (with_reducible (first
      | assumption | apply keeps_ite | apply keeps_foldl | apply State.bootErr_keeps | apply State.keysRead_keeps
      | apply State.ledgerPut_keeps | apply State.bootRead_keeps | simp only [keeps_mk] | simp only [keeps_boot]
      | split | refine keeps_snd ‹_ = (_, _)› ?_ | (intro; intros)))

theorem State.slotVerified_keeps : ∀ (s : State) (readErr : Bool), Keeps u s →
    Keeps u (s.slotVerified readErr) := by
  intro s readErr h
  rw [State.slotVerified]
  split
  · exact h
  · exact keeps_ite (verifyEnd_keeps _ _ _ (State.vetSlot_keeps _ _ _ _ h)) h

theorem State.verifyCmd_keeps : ∀ (s : State), Keeps u s → Keeps u s.verifyCmd := by
  intros; unfold State.verifyCmd; try dsimp only
  repeat' (with_reducible (first
      | assumption | apply keeps_ite | apply keeps_foldl | apply State.bootErr_keeps
      | apply State.sysSealStart_keeps | apply State.bootRun_keeps | simp only [keeps_mk] | simp only [keeps_boot]
      | split | refine keeps_snd ‹_ = (_, _)› ?_ | (intro; intros)))

theorem State.rebootCmd_keeps : ∀ (s : State), Keeps u s → Keeps u s.rebootCmd := by
  intros; unfold State.rebootCmd; try dsimp only
  repeat' (with_reducible (first
      | assumption | apply keeps_ite | apply keeps_foldl | apply State.setBit_keeps | apply State.outputHold_keeps
      | apply State.claimDrop_keeps | simp only [keeps_mk] | simp only [keeps_boot] | split
      | refine keeps_snd ‹_ = (_, _)› ?_ | (intro; intros)))

theorem State.confirmCmd_keeps : ∀ (s : State), Keeps u s → Keeps u s.confirmCmd := by
  intros; unfold State.confirmCmd; try dsimp only
  repeat' (with_reducible (first
      | assumption | apply keeps_ite | apply keeps_foldl | apply State.setAttempts_keeps | apply State.bootErr_keeps
      | simp only [keeps_mk] | simp only [keeps_boot] | split | refine keeps_snd ‹_ = (_, _)› ?_ | (intro; intros)))

theorem State.bootCmd_keeps : ∀ (s : State) (m : RegMaster) (op ms : Nat), Keeps u s → Keeps u (s.bootCmd m op ms) :=
    by
  intros; unfold State.bootCmd; try dsimp only
  repeat' (with_reducible (first
      | assumption | apply keeps_ite | apply keeps_foldl | apply State.bootAccept_keeps | apply State.flashCmd_keeps
      | apply State.verifyCmd_keeps | apply State.preferCmd_keeps | apply State.clearAttemptsCmd_keeps
      | apply State.keyProgramCmd_keeps | apply State.keyRevokeCmd_keeps | apply State.rebootCmd_keeps
      | apply State.retryCmd_keeps | apply State.confirmCmd_keeps | apply State.bootErr_keeps | simp only [keeps_mk]
      | simp only [keeps_boot] | split | refine keeps_snd ‹_ = (_, _)› ?_ | (intro; intros)))

theorem State.kick_keeps : ∀ (s : State) (m : RegMaster) (p : Nat), Keeps u s → Keeps u (s.kick m p) := by
  intros; unfold State.kick; try dsimp only
  repeat' (with_reducible (first
      | assumption | apply keeps_ite | apply keeps_foldl | apply State.wdogRestart_keeps | simp only [keeps_mk]
      | simp only [keeps_boot] | split | refine keeps_snd ‹_ = (_, _)› ?_ | (intro; intros)))

theorem State.msiAck_keeps : ∀ (s : State), Keeps u s → Keeps u s.msiAck := by
  intros; unfold State.msiAck; try dsimp only
  repeat' (with_reducible (first
      | assumption | apply keeps_ite | apply keeps_foldl | simp only [keeps_mk] | simp only [keeps_boot] | split
      | refine keeps_snd ‹_ = (_, _)› ?_ | (intro; intros)))

theorem State.wideLatch_keeps : ∀ (s : State) (m : RegMaster) (a n : Nat), Keeps u s → Keeps u (s.wideLatch m a n) :=
    by
  intros; unfold State.wideLatch; try dsimp only
  repeat' (with_reducible (first
      | assumption | apply keeps_ite | apply keeps_foldl | simp only [keeps_mk] | simp only [keeps_boot] | split
      | refine keeps_snd ‹_ = (_, _)› ?_ | (intro; intros)))

theorem State.answerTo_keeps : ∀ (s : State) (m : RegMaster) (write : Bool) (a : Nat) (cause : Option Nat), Keeps u s
    → Keeps u (s.answerTo m write a cause) := by
  intros; unfold State.answerTo; try dsimp only
  repeat' (with_reducible (first
      | assumption | apply keeps_ite | apply keeps_foldl | apply State.hostErr_keeps | simp only [keeps_mk]
      | simp only [keeps_boot] | split | refine keeps_snd ‹_ = (_, _)› ?_ | (intro; intros)))

theorem State.answer_keeps : ∀ (s : State) (w : Word), Keeps u s → Keeps u (s.answer w) := by
  intros; unfold State.answer; try dsimp only
  repeat' (with_reducible (first
      | assumption | apply keeps_ite | apply keeps_foldl | simp only [keeps_mk] | simp only [keeps_boot] | split
      | refine keeps_snd ‹_ = (_, _)› ?_ | (intro; intros)))

theorem State.wdogWrite_keeps : ∀ (s : State) (m : RegMaster) (p : Nat) (data : Word), Keeps u s → Keeps u
    (s.wdogWrite m p data) := by
  intros; unfold State.wdogWrite; try dsimp only
  repeat' (with_reducible (first
      | assumption | apply keeps_ite | apply keeps_foldl | apply State.writeRw_keeps | apply State.wdogRestart_keeps
      | apply State.kick_keeps | simp only [keeps_mk] | simp only [keeps_boot] | split
      | refine keeps_snd ‹_ = (_, _)› ?_ | (intro; intros)))

theorem State.portWrite_keeps : ∀ (s : State) (m : RegMaster) (base i a : Nat) (data : Word), Keeps u s → Keeps u
    (s.portWrite m base i a data) := by
  intros; unfold State.portWrite; try dsimp only
  repeat' (with_reducible (first
      | assumption | apply keeps_ite | apply keeps_foldl | apply State.sapCtrlWrite_keeps
      | apply State.ainEnable_keeps | apply State.outCfg_keeps | apply State.classdCtrl_keeps
      | apply State.jdCtrl_keeps | apply State.lampCtrlWrite_keeps | apply State.softRequest_keeps
      | apply State.bootCmd_keeps | apply State.takeFree_keeps | apply State.sealCtrl_keeps
      | apply State.msiAck_keeps | apply State.wdogWrite_keeps | apply State.writeWord_keeps | simp only [keeps_mk]
      | simp only [keeps_boot] | split | refine keeps_snd ‹_ = (_, _)› ?_ | (intro; intros)))

theorem State.busRefuse_keeps : ∀ (s : State) (code a : Nat) (write : Bool) (cause : Nat), Keeps u s → Keeps u
    (s.busRefuse code a write cause).2 := by
  intros; unfold State.busRefuse; try dsimp only
  repeat' (with_reducible (first
      | assumption | apply keeps_ite | apply keeps_foldl | apply State.xbarErr_keeps | apply State.takeFree_keeps
      | simp only [keeps_mk] | simp only [keeps_boot] | split | refine keeps_snd ‹_ = (_, _)› ?_ | (intro; intros)))

theorem State.writeRefuse_keeps : ∀ (s : State) (code a cause : Nat), Keeps u s → Keeps u (s.writeRefuse code a
    cause).2 := by
  intros; unfold State.writeRefuse; try dsimp only
  repeat' (with_reducible (first
      | assumption | apply keeps_ite | apply keeps_foldl | apply State.busRefuse_keeps | simp only [keeps_mk]
      | simp only [keeps_boot] | split | refine keeps_snd ‹_ = (_, _)› ?_ | (intro; intros)))

theorem State.vatPartWrite_keeps : ∀ (s : State) (code a : Nat) (bs : List Byte) (be : List (BitVec 4)), Keeps u s →
    Keeps u (s.vatPartWrite code a bs be).2 := by
  intros; unfold State.vatPartWrite; try dsimp only
  repeat' (with_reducible (first
      | assumption | apply keeps_ite | apply keeps_foldl | apply State.vatCorr_keeps | apply State.writeRefuse_keeps
      | apply State.xbarErr_keeps | apply State.vatUncorr_keeps | apply State.eccClear_keeps
      | apply State.write_keeps | simp only [keeps_mk] | simp only [keeps_boot] | split
      | refine keeps_snd ‹_ = (_, _)› ?_ | (intro; intros)))

theorem State.vatPartsWrite_keeps : ∀ (s : State) (code a : Nat) (bs : List Byte) (be : List (BitVec 4)), Keeps u s →
    Keeps u (s.vatPartsWrite code a bs be).2 := fun s code a bs be h =>
  keeps_foldl2 (fun _ _ hp => State.vatPartWrite_keeps _ _ _ _ _ hp) h

theorem State.ledgerTarget_keeps : ∀ (s : State) (m : RegMaster) (a off : Nat) (bs : List Byte) (be : List (BitVec
    4)), Keeps u s → Keeps u (s.ledgerTarget m a off bs be).2 := by
  intros; unfold State.ledgerTarget; try dsimp only
  repeat' (with_reducible (first
      | assumption | apply keeps_ite | apply keeps_foldl | apply State.raiseN_keeps | apply State.writeRefuse_keeps
      | apply State.ledgerRmw_keeps | apply State.ledgerPut_keeps | apply State.xbarErr_keeps | simp only [keeps_mk]
      | simp only [keeps_boot] | split | refine keeps_snd ‹_ = (_, _)› ?_ | (intro; intros)))

theorem State.apertureLinks_keeps : ∀ (s : State) (d n : Nat), Keeps u s → Keeps u (s.apertureLinks d n).2 :=
  fun s d n h => keeps_foldl2 (fun _ _ hp => State.apertureLink_keeps _ _ hp) h

theorem State.apertureWrite_keeps : ∀ (s : State) (d : Nat) (bs : List Byte), Keeps u s → Keeps u (s.apertureWrite d bs) :=
  fun s d bs h => keeps_of h rfl id id (Memory.write_wf s.dram d bs)

theorem State.tallyWrite_keeps : ∀ (s : State) (base i a : Nat) (data : Word), Keeps u s → Keeps u (s.tallyWrite base
    i a data) := by
  intros; unfold State.tallyWrite; try dsimp only
  repeat' (with_reducible (first
      | assumption | apply keeps_ite | apply keeps_foldl | apply State.syncSummary_keeps
      | apply State.evgForce_keeps | apply State.tallyForce_keeps | apply State.stickyWrite_keeps
      | apply State.writeWord_keeps | simp only [keeps_mk] | simp only [keeps_boot] | split
      | refine keeps_snd ‹_ = (_, _)› ?_ | (intro; intros)))

theorem State.synthCtrl_keeps : ∀ (s : State) (x : Nat) (data : Word), Keeps u s → Keeps u (s.synthCtrl x data) := by
  intros; unfold State.synthCtrl; try dsimp only
  repeat' (with_reducible (first
      | assumption | apply keeps_ite | apply keeps_foldl | apply State.synthEnable_keeps
      | apply State.synthSched_keeps | apply State.setBit_keeps | apply State.synthUpdate_keeps
      | simp only [keeps_mk] | simp only [keeps_boot] | split | refine keeps_snd ‹_ = (_, _)› ?_ | (intro; intros)))

theorem State.synthDirect_keeps : ∀ (s : State) (a : Nat) (data : Word), Keeps u s → Keeps u (s.synthDirect a data) :=
    by
  intros; unfold State.synthDirect; try dsimp only
  repeat' (with_reducible (first
      | assumption | apply keeps_ite | apply keeps_foldl | apply State.synthStage_keeps | simp only [keeps_mk]
      | simp only [keeps_boot] | split | refine keeps_snd ‹_ = (_, _)› ?_ | (intro; intros)))

theorem State.timeWrite_keeps : ∀ (s : State) (base i a : Nat) (data : Word), Keeps u s → Keeps u (s.timeWrite base i
    a data) := by
  intros; unfold State.timeWrite; try dsimp only
  repeat' (with_reducible (first
      | assumption | apply keeps_ite | apply keeps_foldl | apply State.timeCtrlWrite_keeps
      | apply State.timeCmd_keeps | apply State.servoCtrlWrite_keeps | apply State.pulseCtrlWrite_keeps
      | apply State.serdesWrite_keeps | apply State.synthCtrl_keeps | apply State.synthDirect_keeps
      | apply State.writeWord_keeps | simp only [keeps_mk] | simp only [keeps_boot] | split
      | refine keeps_snd ‹_ = (_, _)› ?_ | (intro; intros)))

theorem State.laneCtrl_keeps : ∀ (s : State) (n : Nat) (data : Word), Keeps u s → Keeps u (s.laneCtrl n data) := by
  intros; unfold State.laneCtrl; try dsimp only
  repeat' (with_reducible (first
      | assumption | apply keeps_ite | apply keeps_foldl | apply State.laneLoopWrite_keeps
      | apply State.laneEnWrite_keeps | apply State.laneRetrain_keeps | simp only [keeps_mk]
      | simp only [keeps_boot] | split | refine keeps_snd ‹_ = (_, _)› ?_ | (intro; intros)))

theorem State.wakeCtrlWrite_keeps : ∀ (s : State) (data : Word), Keeps u s → Keeps u (s.wakeCtrlWrite data) := by
  intros; unfold State.wakeCtrlWrite; try dsimp only
  repeat' (with_reducible (first
      | assumption | apply keeps_ite | apply keeps_foldl | apply State.wakeSend_keeps | apply State.wakeCtrl_keeps
      | apply State.dormantEnter_keeps | simp only [keeps_mk] | simp only [keeps_boot] | split
      | refine keeps_snd ‹_ = (_, _)› ?_ | (intro; intros)))

theorem State.dramCtrl_keeps : ∀ (s : State) (data : Word), Keeps u s → Keeps u (s.dramCtrl data) := by
  intros; unfold State.dramCtrl; try dsimp only
  repeat' (with_reducible (first
      | assumption | apply keeps_ite | apply keeps_foldl | apply State.dramEnWrite_keeps
      | apply State.dramRetrainAll_keeps | simp only [keeps_mk] | simp only [keeps_boot] | split
      | refine keeps_snd ‹_ = (_, _)› ?_ | (intro; intros)))

theorem State.netWrite_keeps : ∀ (s : State) (base i a : Nat) (data : Word), Keeps u s → Keeps u (s.netWrite base i a
    data) := by
  intros; unfold State.netWrite; try dsimp only
  repeat' (with_reducible (first
      | assumption | apply keeps_ite | apply keeps_foldl | apply State.laneCtrl_keeps
      | apply State.portmapWrite_keeps | apply State.wakeCtrlWrite_keeps | apply State.pauseSend_keeps
      | apply State.dramCtrl_keeps | apply State.quireCfgWrite_keeps | apply State.quireBaseWrite_keeps
      | apply State.quireSw_keeps | apply State.writeWord_keeps | simp only [keeps_mk] | simp only [keeps_boot]
      | split | refine keeps_snd ‹_ = (_, _)› ?_ | (intro; intros)))

theorem State.peCtrl_keeps : ∀ (s : State) (e : Nat) (data : Word), Keeps u s → Keeps u (s.peCtrl e data) := by
  intros; unfold State.peCtrl; try dsimp only
  repeat' (with_reducible (first
      | assumption | apply keeps_ite | apply keeps_foldl | apply State.peEnable_keeps | apply State.peAbort_keeps
      | apply State.peClear_keeps | simp only [keeps_mk] | simp only [keeps_boot] | split
      | refine keeps_snd ‹_ = (_, _)› ?_ | (intro; intros)))

theorem State.syncLat_keeps : ∀ (s : State), Keeps u s → Keeps u s.syncLat := by
  intros; unfold State.syncLat; try dsimp only
  repeat' (with_reducible (first
      | assumption | apply keeps_ite | apply keeps_foldl | apply State.setReg_keeps | simp only [keeps_mk]
      | simp only [keeps_boot] | split | refine keeps_snd ‹_ = (_, _)› ?_ | (intro; intros)))

theorem State.clauseCmd_keeps : ∀ (s : State) (m : RegMaster) (data : Word), Keeps u s → Keeps u (s.clauseCmd m data)
    := by
  intros; unfold State.clauseCmd; try dsimp only
  repeat' (with_reducible (first
      | assumption | apply keeps_ite | apply keeps_foldl | apply State.clauseSubmit_keeps
      | apply State.clauseConfirm_keeps | apply State.clauseAbort_keeps | simp only [keeps_mk]
      | simp only [keeps_boot] | split | refine keeps_snd ‹_ = (_, _)› ?_ | (intro; intros)))

theorem State.redunCmd_keeps : ∀ (s : State) (data : Word), Keeps u s → Keeps u (s.redunCmd data) := by
  intros; unfold State.redunCmd; try dsimp only
  repeat' (with_reducible (first
      | assumption | apply keeps_ite | apply keeps_foldl | apply State.swap_keeps | apply State.reclaim_keeps
      | apply State.claimDrop_keeps | simp only [keeps_mk] | simp only [keeps_boot] | split
      | refine keeps_snd ‹_ = (_, _)› ?_ | (intro; intros)))

theorem State.audioWrite_keeps : ∀ (s : State) (m : RegMaster) (base i a : Nat) (data : Word), Keeps u s → Keeps u
    (s.audioWrite m base i a data) := by
  intros; unfold State.audioWrite; try dsimp only
  repeat' (with_reducible (first
      | assumption | apply keeps_ite | apply keeps_foldl | apply State.peCtrl_keeps | apply State.seqEnable_keeps
      | apply State.seqCancel_keeps | apply State.syncLat_keeps | apply State.writeWord_keeps
      | apply State.srcCfg_keeps | apply State.clauseCmd_keeps | apply State.redunCmd_keeps | simp only [keeps_mk]
      | simp only [keeps_boot] | split | refine keeps_snd ‹_ = (_, _)› ?_ | (intro; intros)))

theorem State.narrowWrite_keeps : ∀ (s : State) (m : RegMaster) (a : Nat) (r : RegRow) (data : Word), Keeps u s →
    Keeps u (s.narrowWrite m a r data) := by
  intros; unfold State.narrowWrite; try dsimp only
  repeat' (with_reducible (first
      | assumption | apply keeps_ite | apply keeps_foldl | apply State.writeWord_keeps
      | apply State.tallyWrite_keeps | apply State.timeWrite_keeps | apply State.netWrite_keeps
      | apply State.audioWrite_keeps | apply State.portWrite_keeps | simp only [keeps_mk] | simp only [keeps_boot]
      | split | refine keeps_snd ‹_ = (_, _)› ?_ | (intro; intros)))

theorem State.wideWrite_keeps : ∀ (s : State) (m : RegMaster) (a n : Nat) (data : Word), Keeps u s → Keeps u
    (s.wideWrite m a n data) := by
  intros; unfold State.wideWrite; try dsimp only
  repeat' (with_reducible (first
      | assumption | apply keeps_ite | apply keeps_foldl | apply State.incrNomWrite_keeps
      | apply State.servoOffsetWrite_keeps | apply State.synthDirect_keeps | apply State.writeRw_keeps
      | simp only [keeps_mk] | simp only [keeps_boot] | split | refine keeps_snd ‹_ = (_, _)› ?_ | (intro; intros)))

theorem State.wideStage_keeps : ∀ (s : State) (m : RegMaster) (a : Nat) (data : Word), Keeps u s → Keeps u
    (s.wideStage m a data) := by
  intros; unfold State.wideStage; try dsimp only
  repeat' (with_reducible (first
      | assumption | apply keeps_ite | apply keeps_foldl | simp only [keeps_mk] | simp only [keeps_boot] | split
      | refine keeps_snd ‹_ = (_, _)› ?_ | (intro; intros)))

theorem State.writeReg_keeps : ∀ (s : State) (m : RegMaster) (a : Nat) (data : Word), Keeps u s → Keeps u (s.writeReg
    m a data) := by
  intros; unfold State.writeReg; try dsimp only
  repeat' (with_reducible (first
      | assumption | apply keeps_ite | apply keeps_foldl | apply State.narrowWrite_keeps
      | apply State.wideWrite_keeps | apply State.wideStage_keeps | simp only [keeps_mk] | simp only [keeps_boot]
      | split | refine keeps_snd ‹_ = (_, _)› ?_ | (intro; intros)))

theorem State.targetWrite_keeps : ∀ (s : State) (m : RegMaster) (a : Nat) (bs : List Byte) (be : List (BitVec 4)),
    Keeps u s → Keeps u (s.targetWrite m a bs be).2 := by
  intros; unfold State.targetWrite; try dsimp only
  repeat' (with_reducible (first
      | assumption | apply keeps_ite | apply keeps_foldl | apply State.writeRefuse_keeps
      | apply State.vatPartsWrite_keeps | apply State.vatWrite_keeps | apply State.ledgerTarget_keeps
      | apply State.apertureLinks_keeps | apply State.apertureWrite_keeps | apply State.eccClearW_keeps
      | apply State.write_keeps | apply State.writeReg_keeps | simp only [keeps_mk] | simp only [keeps_boot] | split
      | refine keeps_snd ‹_ = (_, _)› ?_ | (intro; intros)))

theorem State.busHold_keeps : ∀ (s : State) (a n : Nat), Keeps u s → Keeps u (s.busHold a n) := by
  intros; unfold State.busHold; try dsimp only
  repeat' (with_reducible (first
      | assumption | apply keeps_ite | apply keeps_foldl | apply State.holdVat_keeps | apply State.holdTags_keeps
      | simp only [keeps_mk] | simp only [keeps_boot] | split | refine keeps_snd ‹_ = (_, _)› ?_ | (intro; intros)))

theorem State.busWrite_keeps : ∀ (s : State) (m : RegMaster) (a : Nat) (bs : List Byte) (be : List (BitVec 4)), Keeps u s →
    Keeps u (s.busWrite m a bs be).2 := by
  intro s m a bs be h
  unfold State.busWrite
  exact keeps_ite2 h (State.targetWrite_keeps _ _ _ _ _ (State.busHold_keeps _ _ _ h))

theorem State.readClear_keeps : ∀ (s : State) (a : Nat), Keeps u s → Keeps u (s.readClear a) := by
  intros; unfold State.readClear; try dsimp only
  repeat' (with_reducible (first
      | assumption | apply keeps_ite | apply keeps_foldl | apply State.setFld_keeps | apply State.setReg_keeps
      | simp only [keeps_mk] | simp only [keeps_boot] | split | refine keeps_snd ‹_ = (_, _)› ?_ | (intro; intros)))

theorem State.refresh_keeps : ∀ (s : State) (a : Nat), Keeps u s → Keeps u (s.refresh a) := by
  intros; unfold State.refresh; try dsimp only
  repeat' (with_reducible (first
      | assumption | apply keeps_ite | apply keeps_foldl | apply State.syncForce_keeps | apply State.setReg64_keeps
      | apply State.syncLat_keeps | apply State.lampRequests_keeps | simp only [keeps_mk] | simp only [keeps_boot]
      | split | refine keeps_snd ‹_ = (_, _)› ?_ | (intro; intros)))

theorem State.engineCorr_keeps : ∀ (s : State) (w a n : Nat), Keeps u s → Keeps u (s.engineCorr w a n) := by
  intros; unfold State.engineCorr; try dsimp only
  repeat' (with_reducible (first
      | assumption | apply keeps_ite | apply keeps_foldl | apply State.raiseN_keeps | apply State.countHold_keeps
      | simp only [keeps_mk] | simp only [keeps_boot] | split | refine keeps_snd ‹_ = (_, _)› ?_ | (intro; intros)))

theorem State.wideHigh_keeps : ∀ (s : State) (m : RegMaster) (a : Nat), Keeps u s → Keeps u (s.wideHigh m a).2 := by
  intros; unfold State.wideHigh; try dsimp only
  repeat' (with_reducible (first
      | assumption | apply keeps_ite | apply keeps_foldl | apply State.setRegN_keeps | simp only [keeps_mk]
      | simp only [keeps_boot] | split | refine keeps_snd ‹_ = (_, _)› ?_ | (intro; intros)))

theorem State.readReg_keeps : ∀ (s : State) (m : RegMaster) (a : Nat), Keeps u s → Keeps u (s.readReg m a).2 := by
  intros; unfold State.readReg; try dsimp only
  repeat' (with_reducible (first
      | assumption | apply keeps_ite | apply keeps_foldl | apply State.refresh_keeps | apply State.readClear_keeps
      | apply State.wideLatch_keeps | apply State.wideHigh_keeps | simp only [keeps_mk] | simp only [keeps_boot]
      | split | refine keeps_snd ‹_ = (_, _)› ?_ | (intro; intros)))

theorem State.targetRead_keeps : ∀ (s : State) (m : RegMaster) (a n : Nat), Keeps u s → Keeps u (s.targetRead m a n).2
    := by
  intros; unfold State.targetRead; try dsimp only
  repeat' (with_reducible (first
      | assumption | apply keeps_ite | apply keeps_foldl | apply State.busRefuse_keeps | apply State.vatRead_keeps
      | apply State.ledgerRead_keeps | apply State.xbarErr_keeps | apply State.apertureLinks_keeps
      | apply State.engineCorr_keeps | apply State.readReg_keeps | simp only [keeps_mk] | simp only [keeps_boot]
      | split | refine keeps_snd ‹_ = (_, _)› ?_ | (intro; intros)))

theorem State.busWriteWord_keeps : ∀ (s : State) (m : RegMaster) (a : Nat) (data : Word), Keeps u s → Keeps u
    (s.busWriteWord m a data) := by
  intros; unfold State.busWriteWord; try dsimp only
  repeat' (with_reducible (first
      | assumption | apply keeps_ite | apply keeps_foldl | apply State.busWrite_keeps | apply State.answerTo_keeps
      | simp only [keeps_mk] | simp only [keeps_boot] | split | refine keeps_snd ‹_ = (_, _)› ?_ | (intro; intros)))

theorem State.busRead_keeps : ∀ (s : State) (m : RegMaster) (a n : Nat), Keeps u s → Keeps u (s.busRead m a n).2 := by
  intros; unfold State.busRead; try dsimp only
  repeat' (with_reducible (first
      | assumption | apply keeps_ite | apply keeps_foldl | apply State.targetRead_keeps | apply State.busHold_keeps
      | simp only [keeps_mk] | simp only [keeps_boot] | split | refine keeps_snd ‹_ = (_, _)› ?_ | (intro; intros)))

theorem State.hostLinkDown_keeps : ∀ (s : State) (cause : BitVec 3), Keeps u s → Keeps u (s.hostLinkDown cause) := by
  intros; unfold State.hostLinkDown; try dsimp only
  repeat' (with_reducible (first
      | assumption | apply keeps_ite | apply keeps_foldl | apply State.linkDrop_keeps | simp only [keeps_mk]
      | simp only [keeps_boot] | split | refine keeps_snd ‹_ = (_, _)› ?_ | (intro; intros)))

theorem State.cfgWrite_keeps : ∀ (s : State) (r : HostCfg) (w : Word), Keeps u s → Keeps u (s.cfgWrite r w) := by
  intros; unfold State.cfgWrite; try dsimp only
  repeat' (with_reducible (first
      | assumption | apply keeps_ite | apply keeps_foldl | simp only [keeps_mk] | simp only [keeps_boot] | split
      | refine keeps_snd ‹_ = (_, _)› ?_ | (intro; intros)))

theorem State.setBit64_keeps : ∀ (s : State) (a i : Nat) (b : Bool), Keeps u s → Keeps u (s.setBit64 a i b) := by
  intros; unfold State.setBit64; try dsimp only
  repeat' (with_reducible (first
      | assumption | apply keeps_ite | apply keeps_foldl | apply State.setReg64_keeps | simp only [keeps_mk]
      | simp only [keeps_boot] | split | refine keeps_snd ‹_ = (_, _)› ?_ | (intro; intros)))

theorem State.summaryLost_keeps : ∀ (s : State) (d : Nat), Keeps u s → Keeps u (s.summaryLost d) := by
  intros; unfold State.summaryLost; try dsimp only
  repeat' (with_reducible (first
      | assumption | apply keeps_ite | apply keeps_foldl | apply State.raiseN_keeps | apply State.setBit64_keeps
      | simp only [keeps_mk] | simp only [keeps_boot] | split | refine keeps_snd ‹_ = (_, _)› ?_ | (intro; intros)))

theorem State.hostWriteEach_keeps : ∀ (s : State) (a : Nat) (l : List Word), Keeps u s → Keeps u (s.hostWriteEach a l).2 := by
  intro s a l h
  induction l generalizing s a with
  | nil => exact h
  | cons w l ih =>
    unfold State.hostWriteEach; dsimp only
    split; exacts [State.busWrite_keeps _ _ _ _ _ h, ih _ _ (State.busWrite_keeps _ _ _ _ _ h)]

theorem State.hostServeWrite_keeps : ∀ (s : State) (a : Nat) (data : List Word) (be : List (BitVec 4)) (words : Bool),
    Keeps u s → Keeps u (s.hostServeWrite a data be words).2 := by
  intros; unfold State.hostServeWrite; try dsimp only
  repeat' (with_reducible (first
      | assumption | apply keeps_ite | apply keeps_foldl | apply State.hostWriteEach_keeps
      | apply State.busWrite_keeps | simp only [keeps_mk] | simp only [keeps_boot] | split
      | refine keeps_snd ‹_ = (_, _)› ?_ | (intro; intros)))

theorem State.hostAnswer_keeps : ∀ (s : State) (ws : List Word) (cause : Nat), Keeps u s → Keeps u (s.hostAnswer ws
    cause) := by
  intros; unfold State.hostAnswer; try dsimp only
  repeat' (with_reducible (first
      | assumption | apply keeps_ite | apply keeps_foldl | simp only [keeps_mk] | simp only [keeps_boot] | split
      | refine keeps_snd ‹_ = (_, _)› ?_ | (intro; intros)))

theorem State.hostWriteHere_keeps : ∀ (s : State) (a : Nat) (data : List Word) (be : List (BitVec 4)), Keeps u s →
    Keeps u (s.hostWriteHere a data be) := by
  intros; unfold State.hostWriteHere; try dsimp only
  repeat' (with_reducible (first
      | assumption | apply keeps_ite | apply keeps_foldl | apply State.hostServeWrite_keeps
      | apply State.hostAnswer_keeps | apply State.hostErr_keeps | simp only [keeps_mk] | simp only [keeps_boot]
      | split | refine keeps_snd ‹_ = (_, _)› ?_ | (intro; intros)))

theorem State.relayRefuse_keeps : ∀ (s : State) (d a nw c : Nat) (write lost : Bool), Keeps u s → Keeps u
    (s.relayRefuse d a nw c write lost) := by
  intros; unfold State.relayRefuse; try dsimp only
  repeat' (with_reducible (first
      | assumption | apply keeps_ite | apply keeps_foldl | apply State.hostAnswer_keeps | apply State.hostErr_keeps
      | simp only [keeps_mk] | simp only [keeps_boot] | split | refine keeps_snd ‹_ = (_, _)› ?_ | (intro; intros)))

theorem State.relayWords_keeps : ∀ (s : State) (data : List Word) (be : List (BitVec 4)), Keeps u s → Keeps u
    (s.relayWords data be).2 := by
  intros; unfold State.relayWords; try dsimp only
  repeat' (with_reducible (first
      | assumption | apply keeps_ite | apply keeps_foldl | apply State.takeFree_keeps | simp only [keeps_mk]
      | simp only [keeps_boot] | split | refine keeps_snd ‹_ = (_, _)› ?_ | (intro; intros)))

theorem State.relayFinish_keeps : ∀ (s : State) (g : Nat), Keeps u s → Keeps u (s.relayFinish g) := by
  intros; unfold State.relayFinish; try dsimp only
  repeat' (with_reducible (first
      | assumption | apply keeps_ite | apply keeps_foldl | apply State.hostErr_keeps | apply State.hostAnswer_keeps
      | simp only [keeps_mk] | simp only [keeps_boot] | split | refine keeps_snd ‹_ = (_, _)› ?_ | (intro; intros)))

theorem State.relayFinishAll_keeps : ∀ (s : State), Keeps u s → Keeps u s.relayFinishAll := by
  intros; unfold State.relayFinishAll; try dsimp only
  repeat' (with_reducible (first
      | assumption | apply keeps_ite | apply keeps_foldl | apply State.relayFinish_keeps | simp only [keeps_mk]
      | simp only [keeps_boot] | split | refine keeps_snd ‹_ = (_, _)› ?_ | (intro; intros)))

theorem State.relaySend_keeps : ∀ (s : State) (before : List RelayReq) (r : RelayReq) (rest : List RelayReq), Keeps u
    s → Keeps u (s.relaySend before r rest) := by
  intros; unfold State.relaySend; try dsimp only
  repeat' (with_reducible (first
      | assumption | apply keeps_ite | apply keeps_foldl | apply State.sendRelay_keeps | simp only [keeps_mk]
      | simp only [keeps_boot] | split | refine keeps_snd ‹_ = (_, _)› ?_ | (intro; intros)))

theorem State.relayPump_keeps : ∀ (s : State) (n : Nat), Keeps u s → Keeps u (s.relayPump n) := by
  intro s n h
  induction n generalizing s with
  | zero => exact h
  | succ n ih =>
    unfold State.relayPump
    refine keeps_ite h ?_
    split; exacts [h, ih _ (State.relaySend_keeps _ _ _ _ h)]

theorem State.relayGo_keeps : ∀ (s : State), Keeps u s → Keeps u s.relayGo := by
  intros; unfold State.relayGo; try dsimp only
  repeat' (with_reducible (first
      | assumption | apply keeps_ite | apply keeps_foldl | apply State.relayFinishAll_keeps
      | apply State.relayPump_keeps | simp only [keeps_mk] | simp only [keeps_boot] | split
      | refine keeps_snd ‹_ = (_, _)› ?_ | (intro; intros)))

theorem State.relayRequest_keeps : ∀ (s : State) (d a nw : Nat) (write lost : Bool) (data : List Word) (be : List
    (BitVec 4)), Keeps u s → Keeps u (s.relayRequest d a nw write lost data be) := by
  intros; unfold State.relayRequest; try dsimp only
  repeat' (with_reducible (first
      | assumption | apply keeps_ite | apply keeps_foldl | apply State.relayRefuse_keeps
      | apply State.relayWords_keeps | apply State.relayGo_keeps | simp only [keeps_mk] | simp only [keeps_boot]
      | split | refine keeps_snd ‹_ = (_, _)› ?_ | (intro; intros)))

theorem State.hostWriteAt_keeps : ∀ (s : State) (d a : Nat) (data : List Word) (be : List (BitVec 4)), Keeps u s →
    Keeps u (s.hostWriteAt d a data be) := by
  intros; unfold State.hostWriteAt; try dsimp only
  repeat' (with_reducible (first
      | assumption | apply keeps_ite | apply keeps_foldl | apply State.hostWriteHere_keeps
      | apply State.relayRequest_keeps | simp only [keeps_mk] | simp only [keeps_boot] | split
      | refine keeps_snd ‹_ = (_, _)› ?_ | (intro; intros)))

theorem State.hostWriteAsleep_keeps : ∀ (s : State), Keeps u s → Keeps u s.hostWriteAsleep := by
  intros; unfold State.hostWriteAsleep; try dsimp only
  repeat' (with_reducible (first
      | assumption | apply keeps_ite | apply keeps_foldl | apply State.hostAnswer_keeps | simp only [keeps_mk]
      | simp only [keeps_boot] | split | refine keeps_snd ‹_ = (_, _)› ?_ | (intro; intros)))

theorem State.qspiWrite_keeps : ∀ (s : State) (addr : BitVec 40) (data : List Word), Keeps u s → Keeps u (s.qspiWrite
    addr data) := by
  intros; unfold State.qspiWrite; try dsimp only
  repeat' (with_reducible (first
      | assumption | apply keeps_ite | apply keeps_foldl | apply State.hostAnswer_keeps | apply State.hostErr_keeps
      | apply State.hostWriteAt_keeps | apply State.hostWriteAsleep_keeps | simp only [keeps_mk]
      | simp only [keeps_boot] | split | refine keeps_snd ‹_ = (_, _)› ?_ | (intro; intros)))

theorem State.hostWrite_keeps : ∀ (s : State) (via : HostPath) (data : List Word) (be : List (BitVec 4)), Keeps u s →
    Keeps u (s.hostWrite via data be) := by
  intros; unfold State.hostWrite; try dsimp only
  repeat' (with_reducible (first
      | assumption | apply keeps_ite | apply keeps_foldl | apply State.hostWriteAt_keeps
      | apply State.hostAnswer_keeps | apply State.cfgWrite_keeps | apply State.qspiWrite_keeps
      | simp only [keeps_mk] | simp only [keeps_boot] | split | refine keeps_snd ‹_ = (_, _)› ?_ | (intro; intros)))

theorem State.cpTrap_keeps : ∀ (s : State) (p : Nat) (code : BitVec 8) (addr : Word), Keeps u s → Keeps u (s.cpTrap p
    code addr) := by
  intros; unfold State.cpTrap; try dsimp only
  repeat' (with_reducible (first
      | assumption | apply keeps_ite | apply keeps_foldl | apply State.raiseN_keeps | simp only [keeps_mk]
      | simp only [keeps_boot] | split | refine keeps_snd ‹_ = (_, _)› ?_ | (intro; intros)))

theorem State.setInbox_keeps : ∀ (s : State) (l : List (Nat × List Byte)), Keeps u s → Keeps u (s.setInbox l) := by
  intros; unfold State.setInbox; try dsimp only
  repeat' (with_reducible (first
      | assumption | apply keeps_ite | apply keeps_foldl | simp only [keeps_mk] | simp only [keeps_boot] | split
      | refine keeps_snd ‹_ = (_, _)› ?_ | (intro; intros)))

theorem State.hostReadEach_keeps : ∀ (s : State) (a n : Nat), Keeps u s →
    Keeps u (s.hostReadEach a n).2 := by
  intro s a n h
  induction n generalizing s a with
  | zero => exact h
  | succ n ih =>
    unfold State.hostReadEach; dsimp only
    split; exacts [State.busRead_keeps _ _ _ _ h, ih _ _ (State.busRead_keeps _ _ _ _ h)]

theorem State.hostServeRead_keeps : ∀ (s : State) (a nw : Nat) (be : List (BitVec 4)) (words : Bool), Keeps u s →
    Keeps u (s.hostServeRead a nw be words).2 := by
  intros; unfold State.hostServeRead; try dsimp only
  repeat' (with_reducible (first
      | assumption | apply keeps_ite | apply keeps_foldl | apply State.hostReadEach_keeps
      | apply State.busRead_keeps | simp only [keeps_mk] | simp only [keeps_boot] | split
      | refine keeps_snd ‹_ = (_, _)› ?_ | (intro; intros)))

theorem State.relayServe_keeps : ∀ (s : State), Keeps u s → Keeps u s.relayServe := by
  intros; unfold State.relayServe; try dsimp only
  repeat' (with_reducible (first
      | assumption | apply keeps_ite | apply keeps_foldl | apply State.setInbox_keeps
      | apply State.hostServeRead_keeps | apply State.hostServeWrite_keeps | apply State.hostErr_keeps
      | apply State.hostAnswer_keeps | apply State.sendRelay_keeps | simp only [keeps_mk] | simp only [keeps_boot]
      | split | refine keeps_snd ‹_ = (_, _)› ?_ | (intro; intros)))

theorem State.hostLinkUp_keeps : ∀ (s : State) (speed : BitVec 3) (width : BitVec 2), Keeps u s → Keeps u
    (s.hostLinkUp speed width) := by
  intros; unfold State.hostLinkUp; try dsimp only
  repeat' (with_reducible (first
      | assumption | apply keeps_ite | apply keeps_foldl | apply State.setBit_keeps | apply State.setFld_keeps
      | simp only [keeps_mk] | simp only [keeps_boot] | split | refine keeps_snd ‹_ = (_, _)› ?_ | (intro; intros)))

theorem State.hostReadHere_keeps : ∀ (s : State) (a nw : Nat) (be : List (BitVec 4)), Keeps u s → Keeps u
    (s.hostReadHere a nw be) := by
  intros; unfold State.hostReadHere; try dsimp only
  repeat' (with_reducible (first
      | assumption | apply keeps_ite | apply keeps_foldl | apply State.hostServeRead_keeps
      | apply State.hostAnswer_keeps | apply State.hostErr_keeps | simp only [keeps_mk] | simp only [keeps_boot]
      | split | refine keeps_snd ‹_ = (_, _)› ?_ | (intro; intros)))

theorem State.hostReadAt_keeps : ∀ (s : State) (d a nw : Nat) (be : List (BitVec 4)) (lost : Bool), Keeps u s → Keeps
    u (s.hostReadAt d a nw be lost) := by
  intros; unfold State.hostReadAt; try dsimp only
  repeat' (with_reducible (first
      | assumption | apply keeps_ite | apply keeps_foldl | apply State.hostReadHere_keeps
      | apply State.relayRequest_keeps | simp only [keeps_mk] | simp only [keeps_boot] | split
      | refine keeps_snd ‹_ = (_, _)› ?_ | (intro; intros)))

theorem State.hostReadAsleep_keeps : ∀ (s : State) (addr nw : Nat), Keeps u s → Keeps u (s.hostReadAsleep addr nw) :=
    by
  intros; unfold State.hostReadAsleep; try dsimp only
  repeat' (with_reducible (first
      | assumption | apply keeps_ite | apply keeps_foldl | apply State.hostAnswer_keeps | simp only [keeps_mk]
      | simp only [keeps_boot] | split | refine keeps_snd ‹_ = (_, _)› ?_ | (intro; intros)))

theorem State.qspiRead_keeps : ∀ (s : State) (addr : BitVec 40) (n : Nat) (lost : Bool), Keeps u s → Keeps u
    (s.qspiRead addr n lost) := by
  intros; unfold State.qspiRead; try dsimp only
  repeat' (with_reducible (first
      | assumption | apply keeps_ite | apply keeps_foldl | apply State.hostAnswer_keeps | apply State.hostErr_keeps
      | apply State.hostReadAt_keeps | apply State.hostReadAsleep_keeps | simp only [keeps_mk]
      | simp only [keeps_boot] | split | refine keeps_snd ‹_ = (_, _)› ?_ | (intro; intros)))

theorem State.hostRead_keeps : ∀ (s : State) (via : HostPath) (nw : Nat) (be : List (BitVec 4)), Keeps u s → Keeps u
    (s.hostRead via nw be) := by
  intros; unfold State.hostRead; try dsimp only
  repeat' (with_reducible (first
      | assumption | apply keeps_ite | apply keeps_foldl | apply State.hostReadAt_keeps
      | apply State.hostAnswer_keeps | apply State.qspiRead_keeps | simp only [keeps_mk] | simp only [keeps_boot]
      | split | refine keeps_snd ‹_ = (_, _)› ?_ | (intro; intros)))

theorem State.relayEnd_keeps : ∀ (s : State) (tag fail : Nat) (got : List Word), Keeps u s → Keeps u (s.relayEnd tag
    fail got) := by
  intros; unfold State.relayEnd; try dsimp only
  repeat' (with_reducible (first
      | assumption | apply keeps_ite | apply keeps_foldl | apply State.relayGo_keeps | simp only [keeps_mk]
      | simp only [keeps_boot] | split | refine keeps_snd ‹_ = (_, _)› ?_ | (intro; intros)))

theorem State.qspiCsRise_keeps : ∀ (s : State) (addr : BitVec 40) (write : Bool) (issued : Nat), Keeps u s → Keeps u
    (s.qspiCsRise addr write issued) := by
  intros; unfold State.qspiCsRise; try dsimp only
  repeat' (with_reducible (first
      | assumption | apply keeps_ite | apply keeps_foldl | apply State.hostAnswer_keeps | apply State.qspiRead_keeps
      | simp only [keeps_mk] | simp only [keeps_boot] | split | refine keeps_snd ‹_ = (_, _)› ?_ | (intro; intros)))

theorem State.relayTimeout_keeps : ∀ (s : State) (tag : Nat), Keeps u s → Keeps u (s.relayTimeout tag) := by
  intros; unfold State.relayTimeout; try dsimp only
  repeat' (with_reducible (first
      | assumption | apply keeps_ite | apply keeps_foldl | apply State.relayEnd_keeps | apply State.raiseN_keeps
      | simp only [keeps_mk] | simp only [keeps_boot] | split | refine keeps_snd ‹_ = (_, _)› ?_ | (intro; intros)))

theorem State.relayResponse_keeps : ∀ (s : State), Keeps u s → Keeps u s.relayResponse := by
  intros; unfold State.relayResponse; try dsimp only
  repeat' (with_reducible (first
      | assumption | apply keeps_ite | apply keeps_foldl | apply State.setInbox_keeps | apply State.relayEnd_keeps
      | simp only [keeps_mk] | simp only [keeps_boot] | split | refine keeps_snd ‹_ = (_, _)› ?_ | (intro; intros)))

theorem State.summaryReceive_keeps : ∀ (s : State), Keeps u s → Keeps u s.summaryReceive := by
  intros; unfold State.summaryReceive; try dsimp only
  repeat' (with_reducible (first
      | assumption | apply keeps_ite | apply keeps_foldl | apply State.setInbox_keeps
      | apply State.syncSummary_keeps | apply State.setBit64_keeps | simp only [keeps_mk] | simp only [keeps_boot]
      | split | refine keeps_snd ‹_ = (_, _)› ?_ | (intro; intros)))

theorem State.cpWdog_keeps : ∀ (s : State) (p : Nat), Keeps u s → Keeps u (s.cpWdog p) := by
  intros; unfold State.cpWdog; try dsimp only
  repeat' (with_reducible (first
      | assumption | apply keeps_ite | apply keeps_foldl | apply State.raiseN_keeps | apply State.wdogRestart_keeps
      | apply State.noteRaise_keeps | simp only [keeps_mk] | simp only [keeps_boot] | split
      | refine keeps_snd ‹_ = (_, _)› ?_ | (intro; intros)))

theorem State.releaseOthers_keeps : ∀ (s : State) (k : Nat), Keeps u s → Keeps u (s.releaseOthers k) := by
  intros; unfold State.releaseOthers; try dsimp only
  repeat' (with_reducible (first
      | assumption | apply keeps_ite | apply keeps_foldl | apply State.mirrorStarts_keeps
      | apply State.syncForce_keeps | apply State.sheetLoss_keeps | apply State.feltSheetSend_keeps
      | apply State.packEnqueue_keeps | apply State.syncRoute_keeps | apply State.srcFeedOut_keeps
      | apply State.classdPower_keeps | apply State.readSinks_keeps | simp only [keeps_mk] | simp only [keeps_boot]
      | split | refine keeps_snd ‹_ = (_, _)› ?_ | (intro; intros)))

theorem State.folioRelease_keeps : ∀ (s : State) (k : Nat), Keeps u s → Keeps u (s.folioRelease k) := by
  intros; unfold State.folioRelease; try dsimp only
  repeat' (with_reducible (first
      | assumption | apply keeps_ite | apply keeps_foldl | apply State.seqGoOn_keeps
      | apply State.releaseOthers_keeps | apply State.seqRelease_keeps | simp only [keeps_mk]
      | simp only [keeps_boot] | split | refine keeps_snd ‹_ = (_, _)› ?_ | (intro; intros)))

theorem State.trackTake_keeps : ∀ (s : State) (m n : Nat), Keeps u s → Keeps u (s.trackTake m n) := by
  intros; unfold State.trackTake; try dsimp only
  repeat' (with_reducible (first
      | assumption | apply keeps_ite | apply keeps_foldl | apply State.setSrcCh_keeps | apply State.raiseN_keeps
      | simp only [keeps_mk] | simp only [keeps_boot] | split | refine keeps_snd ‹_ = (_, _)› ?_ | (intro; intros)))

theorem State.trackBoundary_keeps : ∀ (s : State) (k : Nat), Keeps u s → Keeps u (s.trackBoundary k) := by
  intros; unfold State.trackBoundary; try dsimp only
  repeat' (with_reducible (first
      | assumption | apply keeps_ite | apply keeps_foldl | apply State.trackTake_keeps
      | apply State.feltTrackSend_keeps | apply State.srcRecord_keeps | simp only [keeps_mk]
      | simp only [keeps_boot] | split | refine keeps_snd ‹_ = (_, _)› ?_ | (intro; intros)))

theorem State.edgeCompare_keeps : ∀ (s : State) (x : Nat) (err : Word), Keeps u s → Keeps u (s.edgeCompare x err) :=
    by
  intros; unfold State.edgeCompare; try dsimp only
  repeat' (with_reducible (first
      | assumption | apply keeps_ite | apply keeps_foldl | apply State.steerFolio_keeps | apply State.resync_keeps
      | apply State.raise_keeps | simp only [keeps_mk] | simp only [keeps_boot] | split
      | refine keeps_snd ‹_ = (_, _)› ?_ | (intro; intros)))

theorem State.folioBoundary_keeps : ∀ (s : State) (k : Nat) (errA errB : Word), Keeps u s → Keeps u (s.folioBoundary k
    errA errB) := by
  intros; unfold State.folioBoundary; try dsimp only
  repeat' (with_reducible (first
      | assumption | apply keeps_ite | apply keeps_foldl | apply State.syncForce_keeps
      | apply State.ainBoundary_keeps | apply State.aoutBoundary_keeps | apply State.redunBoundary_keeps
      | apply State.trackBoundary_keeps | apply State.edgeCompare_keeps | simp only [keeps_mk]
      | simp only [keeps_boot] | split | refine keeps_snd ‹_ = (_, _)› ?_ | (intro; intros)))

theorem State.hostRegister_keeps : ∀ (s : State) (a : Nat), Keeps u s → Keeps u (s.hostRegister a).2 := by
  intros; unfold State.hostRegister; try dsimp only
  repeat' (with_reducible (first
      | assumption | apply keeps_ite | apply keeps_foldl | apply State.readReg_keeps | apply State.busHold_keeps
      | simp only [keeps_mk] | simp only [keeps_boot] | split | refine keeps_snd ‹_ = (_, _)› ?_ | (intro; intros)))

end Sys2Proof.Machine
end

