-- ==== Sys2Proof/Laws/State.lean ====
section
/-! SUPPORT. The laws of the updates of State: one lemma per update and field, true by unfolding, and the laws of
register words and of their fields. -/

namespace Sys2Proof.Machine

/-! ### Register words -/

@[simp] theorem State.reg_setReg (s : State) (a b : Nat) (w : Word) :
    (s.setReg a w).reg b = if a = b then w else s.reg b := by
  by_cases h : a = b
  · subst h; simp [State.reg, State.setReg]
  · simp [State.reg, State.setReg, SMap.find_set_ne, h]

theorem State.reg_setReg_ne (s : State) (a b : Nat) (w : Word) (h : a ≠ b) : (s.setReg a w).reg b = s.reg b := by
  simp [h]

@[simp] theorem State.reg_setFld (s : State) (a b : Nat) (f : Field) (n : Nat) :
    (s.setFld a f n).reg b = if a = b then f.put (s.reg a) n else s.reg b := State.reg_setReg ..

@[simp] theorem State.reg_setBit (s : State) (a b : Nat) (f : Field) (x : Bool) :
    (s.setBit a f x).reg b = if a = b then f.put (s.reg a) (bitOf x) else s.reg b := State.reg_setReg ..

@[simp] theorem State.reg_setRegN (s : State) (a b n : Nat) :
    (s.setRegN a n).reg b = if a = b then BitVec.ofNat 32 n else s.reg b := State.reg_setReg ..

theorem State.reg_setReg64 (s : State) (a b n : Nat) :
    (s.setReg64 a n).reg b = if a + 4 = b then BitVec.ofNat 32 (n / 2 ^ 32) else if a = b then BitVec.ofNat 32 n
      else s.reg b := by simp [State.setReg64]

/-- A register word of a state written out, and back. -/
@[simp] theorem State.reg_mk (power : Power) (regs shadow : SMap Word) (fresh : List Nat) (staging : SMap Word)
    (mem dram spare : Memory) (ecc : SMap Bool) (raised : SMap Nat) (free : Nat) (irqN : Bool) (time : TimeSt)
    (synth : SynthSt) (pe : SMap PeCore) (seq : SeqSt) (mix : MixSt) (src : SMap SrcCh) (clause : ClauseSt)
    (stream : StreamSt) (xbar : XbarSt) (dramc : DramSt) (redun : RedunSt) (sap : SMap SapSt) (ain : AinSt)
    (aout : AoutSt) (lamp : LampSt) (hadc : HadcSt) (tally : TallySt) (sent : SentSt) (boot : BootSt) (host : HostSt)
    (pending : List Instr) (a : Nat) :
    State.reg ⟨power, regs, shadow, fresh, staging, mem, dram, spare, ecc, raised, free, irqN, time, synth, pe, seq, mix,
      src, clause, stream, xbar, dramc, redun, sap, ain, aout, lamp, hadc, tally, sent, boot, host, pending⟩ a =
      SMap.find (regReset a) regs a := (rfl)

@[simp] theorem State.find_regs (s : State) (a : Nat) : SMap.find (regReset a) s.regs a = s.reg a := (rfl)

@[simp] theorem State.reg_takeFree (s : State) (a : Nat) : s.takeFree.2.reg a = s.reg a := (rfl)

@[simp] theorem State.reg_writeMem (s : State) (a b : Nat) (bs : List Byte) : (s.write a bs).reg b = s.reg b := (rfl)

/-- Two states with the same register words read the same. -/
theorem State.reg_congr (s t : State) (h : t.regs = s.regs) (a : Nat) : t.reg a = s.reg a := by
  unfold State.reg; rw [h]

/-! ### Fields -/

theorem Field.toNat_mask (f : Field) (h : f.lo + f.width ≤ 32) : f.mask.toNat = (2 ^ f.width - 1) <<< f.lo := by
  simp only [Field.mask, BitVec.toNat_ofNat]
  apply Nat.mod_eq_of_lt
  rw [Nat.shiftLeft_eq]
  calc (2 ^ f.width - 1) * 2 ^ f.lo < 2 ^ f.width * 2 ^ f.lo :=
        Nat.mul_lt_mul_of_pos_right (Nat.sub_lt (Nat.two_pow_pos _) (by decide)) (Nat.two_pow_pos _)
    _ = 2 ^ (f.lo + f.width) := by rw [Nat.pow_add, Nat.mul_comm]
    _ ≤ 2 ^ 32 := Nat.pow_le_pow_right (by decide) h

theorem Field.getLsb_mask (f : Field) (h : f.lo + f.width ≤ 32) (i : Nat) :
    f.mask.getLsbD i = (decide (f.lo ≤ i) && decide (i < f.lo + f.width)) := by
  rw [BitVec.getLsbD, Field.toNat_mask f h]
  simp only [Nat.testBit_shiftLeft, Nat.testBit_two_pow_sub_one, ge_iff_le]
  by_cases h1 : f.lo ≤ i <;> by_cases h2 : i < f.lo + f.width <;> simp [h1, h2] <;> omega

theorem Field.testBit_get (f : Field) (w : Word) (i : Nat) :
    (f.get w).testBit i = (decide (i < f.width) && w.getLsbD (f.lo + i)) := by
  simp [Field.get, Nat.testBit_mod_two_pow, Nat.testBit_shiftRight, BitVec.getLsbD]

/-- A field reads as it was written, modulo its width. -/
theorem Field.get_put (f : Field) (w : Word) (n : Nat) (h : f.lo + f.width ≤ 32) :
    f.get (f.put w n) = n % 2 ^ f.width := by
  apply Nat.eq_of_testBit_eq
  intro i
  rw [Field.testBit_get, Nat.testBit_mod_two_pow]
  by_cases hi : i < f.width
  · have h32 : f.lo + i < 32 := by omega
    have hlt : f.lo + i < f.lo + f.width := by omega
    simp only [Field.put, BitVec.getLsbD_or, BitVec.getLsbD_and, BitVec.getLsbD_not, Field.getLsb_mask f h,
      BitVec.getLsbD_ofNat, Nat.testBit_shiftLeft]
    simp [hi, h32]
  · simp [hi]

/-- A field keeps its value when another one of its word is written. -/
theorem Field.get_put_other (f g : Field) (w : Word) (n : Nat) (h : f.lo + f.width ≤ 32)
    (hd : f.lo + f.width ≤ g.lo ∨ g.lo + g.width ≤ f.lo) : g.get (f.put w n) = g.get w := by
  apply Nat.eq_of_testBit_eq
  intro i
  rw [Field.testBit_get, Field.testBit_get]
  by_cases hi : i < g.width
  · have hn : (decide (f.lo ≤ g.lo + i) && decide (g.lo + i < f.lo + f.width)) = false := by
      simp only [Bool.and_eq_false_iff, decide_eq_false_iff_not]
      omega
    by_cases h32 : g.lo + i < 32
    · simp only [Field.put, BitVec.getLsbD_or, BitVec.getLsbD_and, BitVec.getLsbD_not, Field.getLsb_mask f h, hn]
      simp [h32]
    · simp [BitVec.getLsbD_of_ge _ _ (Nat.le_of_not_lt h32)]
  · simp [hi]

theorem State.fld_setFld_same (s : State) (a : Nat) (f : Field) (n : Nat) (h : f.lo + f.width ≤ 32) :
    (s.setFld a f n).fld a f = n % 2 ^ f.width := by simp [State.fld, Field.get_put f _ n h]

theorem State.fld_setFld_other (s : State) (a b : Nat) (f g : Field) (n : Nat) (h : f.lo + f.width ≤ 32)
    (hd : f.lo + f.width ≤ g.lo ∨ g.lo + g.width ≤ f.lo ∨ a ≠ b) : (s.setFld a f n).fld b g = s.fld b g := by
  simp only [State.fld, State.reg_setFld]
  split
  · rename_i hab
    subst hab
    exact Field.get_put_other f g _ n h (by simpa using hd)
  · rfl

theorem State.fld_setReg_ne (s : State) (a b : Nat) (w : Word) (g : Field) (h : a ≠ b) :
    (s.setReg a w).fld b g = s.fld b g := by simp [State.fld, h]

theorem State.bit_setBit_same (s : State) (a : Nat) (f : Field) (b : Bool) (h : f.lo + f.width ≤ 32) (hw : f.width = 1) :
    (s.setBit a f b).bit a f = b := by
  simp only [State.bit, State.setBit, State.fld_setFld_same s a f _ h, hw]
  cases b <;> simp [bitOf]

theorem State.bit_setBit_other (s : State) (a b : Nat) (f g : Field) (x : Bool) (h : f.lo + f.width ≤ 32)
    (hd : f.lo + f.width ≤ g.lo ∨ g.lo + g.width ≤ f.lo ∨ a ≠ b) : (s.setBit a f x).bit b g = s.bit b g := by
  simp only [State.bit, State.setBit, State.fld_setFld_other s a b f g _ h hd]

/-- Bit 0 of a word as a one-bit field. -/
theorem testBit_eq_get (w : Word) (i : Nat) : testBit w i = (Field.get ⟨i, 1⟩ w == 1) := by
  simp only [testBit, Field.get, Nat.testBit, Nat.one_and_eq_mod_two, pow_one, bne, Nat.shiftRight_eq_div_pow]
  rcases Nat.mod_two_eq_zero_or_one (w.toNat / 2 ^ i) with h | h <;> simp [h]

theorem testBit_or_bitMask (w : Word) (i : Nat) (h : i < 32) : testBit (w ||| bitMask i) i = true := by
  have h1 : (1 <<< i) % 2 ^ 32 = 1 <<< i := by
    apply Nat.mod_eq_of_lt
    rw [Nat.shiftLeft_eq, one_mul]
    exact Nat.pow_lt_pow_right (by decide) h
  have h2 : (bitMask i).toNat.testBit i = true := by
    rw [bitMask, BitVec.toNat_ofNat, h1, Nat.testBit_shiftLeft]
    simp
  rw [testBit, BitVec.toNat_or, Nat.testBit_or, h2, Bool.or_true]

theorem testBit_or_mono (w v : Word) (i : Nat) (h : testBit w i = true) : testBit (w ||| v) i = true := by
  simp only [testBit] at h ⊢
  simp [Nat.testBit_or, h]

/-! ### Register writes by access codes -/

theorem State.writeWord_reg (s : State) (a b : Nat) (w : Word) (r : RegRow) (hr : regRow a = some r) :
    (s.writeWord a w).reg b = if a = b then
      ((s.reg a &&& ~~~BitVec.ofNat 32 r.rw) ||| (w &&& BitVec.ofNat 32 r.rw)) &&& ~~~(w &&& BitVec.ofNat 32 r.w1c)
      else s.reg b := by
  unfold State.writeWord
  rw [hr]
  simp

theorem Field.get_congr (f : Field) (w v : Word) (h : ∀ i, i < f.width → w.getLsbD (f.lo + i) = v.getLsbD (f.lo + i)) :
    f.get w = f.get v := by
  apply Nat.eq_of_testBit_eq
  intro i
  rw [Field.testBit_get, Field.testBit_get]
  by_cases hi : i < f.width
  · rw [h i hi]
  · simp [hi]

/-- A write takes a field whose bits are RW. -/
theorem Field.get_written (f : Field) (w d rw w1c : Word) (h : f.lo + f.width ≤ 32) (h1 : rw &&& f.mask = f.mask)
    (h2 : w1c &&& f.mask = 0) : f.get (((w &&& ~~~rw) ||| (d &&& rw)) &&& ~~~(d &&& w1c)) = f.get d := by
  apply Field.get_congr
  intro i hi
  have hm : f.mask.getLsbD (f.lo + i) = true := by rw [Field.getLsb_mask f h]; simp [hi]
  have e1 := congrArg (fun x => BitVec.getLsbD x (f.lo + i)) h1
  have e2 := congrArg (fun x => BitVec.getLsbD x (f.lo + i)) h2
  simp only [BitVec.getLsbD_and, hm, Bool.and_true] at e1 e2
  have e3 : w1c.getLsbD (f.lo + i) = false := by rw [e2]; simp
  have h32 : f.lo + i < 32 := by omega
  simp only [BitVec.getLsbD_and, BitVec.getLsbD_or, BitVec.getLsbD_not, e1, e3]
  simp [h32]

/-- A write keeps a field whose bits are neither RW nor cleared. -/
theorem Field.get_kept (f : Field) (w d rw w1c : Word) (h : f.lo + f.width ≤ 32) (h1 : rw &&& f.mask = 0)
    (h2 : w1c &&& f.mask = 0) : f.get (((w &&& ~~~rw) ||| (d &&& rw)) &&& ~~~(d &&& w1c)) = f.get w := by
  apply Field.get_congr
  intro i hi
  have hm : f.mask.getLsbD (f.lo + i) = true := by rw [Field.getLsb_mask f h]; simp [hi]
  have e1 := congrArg (fun x => BitVec.getLsbD x (f.lo + i)) h1
  have e2 := congrArg (fun x => BitVec.getLsbD x (f.lo + i)) h2
  simp only [BitVec.getLsbD_and, hm, Bool.and_true] at e1 e2
  have e3 : w1c.getLsbD (f.lo + i) = false := by rw [e2]; simp
  have e4 : rw.getLsbD (f.lo + i) = false := by rw [e1]; simp
  have h32 : f.lo + i < 32 := by omega
  simp only [BitVec.getLsbD_and, BitVec.getLsbD_or, BitVec.getLsbD_not, e4, e3]
  simp [h32]

theorem State.fld_writeWord (s : State) (a : Nat) (w : Word) (r : RegRow) (f : Field) (hr : regRow a = some r)
    (h : f.lo + f.width ≤ 32) (h1 : BitVec.ofNat 32 r.rw &&& f.mask = f.mask) (h2 : BitVec.ofNat 32 r.w1c &&& f.mask = 0) :
    (s.writeWord a w).fld a f = f.get w := by
  rw [State.fld, State.writeWord_reg s a a w r hr, if_pos rfl]
  exact Field.get_written f _ _ _ _ h h1 h2

theorem State.fld_writeWord_kept (s : State) (a : Nat) (w : Word) (r : RegRow) (f : Field) (hr : regRow a = some r)
    (h : f.lo + f.width ≤ 32) (h1 : BitVec.ofNat 32 r.rw &&& f.mask = 0) (h2 : BitVec.ofNat 32 r.w1c &&& f.mask = 0) :
    (s.writeWord a w).fld a f = s.fld a f := by
  rw [State.fld, State.writeWord_reg s a a w r hr, if_pos rfl]
  exact Field.get_kept f _ _ _ _ h h1 h2

theorem State.reg_writeWord_ne (s : State) (a b : Nat) (w : Word) (h : a ≠ b) : (s.writeWord a w).reg b = s.reg b := by
  unfold State.writeWord
  split
  · rfl
  · simp [h]

/-! ### One lemma per update and field -/

@[simp] theorem State.setReg_power (s : State) (a : Nat) (w : Word) : (s.setReg a w).power = s.power := (rfl)
@[simp] theorem State.setReg_shadow (s : State) (a : Nat) (w : Word) : (s.setReg a w).shadow = s.shadow := (rfl)
@[simp] theorem State.setReg_fresh (s : State) (a : Nat) (w : Word) : (s.setReg a w).fresh = s.fresh := (rfl)
@[simp] theorem State.setReg_staging (s : State) (a : Nat) (w : Word) : (s.setReg a w).staging = s.staging := (rfl)
@[simp] theorem State.setReg_mem (s : State) (a : Nat) (w : Word) : (s.setReg a w).mem = s.mem := (rfl)
@[simp] theorem State.setReg_dram (s : State) (a : Nat) (w : Word) : (s.setReg a w).dram = s.dram := (rfl)
@[simp] theorem State.setReg_spare (s : State) (a : Nat) (w : Word) : (s.setReg a w).spare = s.spare := (rfl)
@[simp] theorem State.setReg_ecc (s : State) (a : Nat) (w : Word) : (s.setReg a w).ecc = s.ecc := (rfl)
@[simp] theorem State.setReg_raised (s : State) (a : Nat) (w : Word) : (s.setReg a w).raised = s.raised := (rfl)
@[simp] theorem State.setReg_free (s : State) (a : Nat) (w : Word) : (s.setReg a w).free = s.free := (rfl)
@[simp] theorem State.setReg_irqN (s : State) (a : Nat) (w : Word) : (s.setReg a w).irqN = s.irqN := (rfl)
@[simp] theorem State.setReg_time (s : State) (a : Nat) (w : Word) : (s.setReg a w).time = s.time := (rfl)
@[simp] theorem State.setReg_synth (s : State) (a : Nat) (w : Word) : (s.setReg a w).synth = s.synth := (rfl)
@[simp] theorem State.setReg_pe (s : State) (a : Nat) (w : Word) : (s.setReg a w).pe = s.pe := (rfl)
@[simp] theorem State.setReg_seq (s : State) (a : Nat) (w : Word) : (s.setReg a w).seq = s.seq := (rfl)
@[simp] theorem State.setReg_mix (s : State) (a : Nat) (w : Word) : (s.setReg a w).mix = s.mix := (rfl)
@[simp] theorem State.setReg_src (s : State) (a : Nat) (w : Word) : (s.setReg a w).src = s.src := (rfl)
@[simp] theorem State.setReg_clause (s : State) (a : Nat) (w : Word) : (s.setReg a w).clause = s.clause := (rfl)
@[simp] theorem State.setReg_stream (s : State) (a : Nat) (w : Word) : (s.setReg a w).stream = s.stream := (rfl)
@[simp] theorem State.setReg_xbar (s : State) (a : Nat) (w : Word) : (s.setReg a w).xbar = s.xbar := (rfl)
@[simp] theorem State.setReg_dramc (s : State) (a : Nat) (w : Word) : (s.setReg a w).dramc = s.dramc := (rfl)
@[simp] theorem State.setReg_redun (s : State) (a : Nat) (w : Word) : (s.setReg a w).redun = s.redun := (rfl)
@[simp] theorem State.setReg_sap (s : State) (a : Nat) (w : Word) : (s.setReg a w).sap = s.sap := (rfl)
@[simp] theorem State.setReg_ain (s : State) (a : Nat) (w : Word) : (s.setReg a w).ain = s.ain := (rfl)
@[simp] theorem State.setReg_aout (s : State) (a : Nat) (w : Word) : (s.setReg a w).aout = s.aout := (rfl)
@[simp] theorem State.setReg_lamp (s : State) (a : Nat) (w : Word) : (s.setReg a w).lamp = s.lamp := (rfl)
@[simp] theorem State.setReg_hadc (s : State) (a : Nat) (w : Word) : (s.setReg a w).hadc = s.hadc := (rfl)
@[simp] theorem State.setReg_tally (s : State) (a : Nat) (w : Word) : (s.setReg a w).tally = s.tally := (rfl)
@[simp] theorem State.setReg_sent (s : State) (a : Nat) (w : Word) : (s.setReg a w).sent = s.sent := (rfl)
@[simp] theorem State.setReg_boot (s : State) (a : Nat) (w : Word) : (s.setReg a w).boot = s.boot := (rfl)
@[simp] theorem State.setReg_host (s : State) (a : Nat) (w : Word) : (s.setReg a w).host = s.host := (rfl)
@[simp] theorem State.setReg_pending (s : State) (a : Nat) (w : Word) : (s.setReg a w).pending = s.pending := (rfl)

@[simp] theorem State.setFld_power (s : State) (a : Nat) (f : Field) (n : Nat) : (s.setFld a f n).power = s.power := (rfl)
@[simp] theorem State.setFld_shadow (s : State) (a : Nat) (f : Field) (n : Nat) : (s.setFld a f n).shadow = s.shadow := (rfl)
@[simp] theorem State.setFld_fresh (s : State) (a : Nat) (f : Field) (n : Nat) : (s.setFld a f n).fresh = s.fresh := (rfl)
@[simp] theorem State.setFld_staging (s : State) (a : Nat) (f : Field) (n : Nat) : (s.setFld a f n).staging = s.staging := (rfl)
@[simp] theorem State.setFld_mem (s : State) (a : Nat) (f : Field) (n : Nat) : (s.setFld a f n).mem = s.mem := (rfl)
@[simp] theorem State.setFld_dram (s : State) (a : Nat) (f : Field) (n : Nat) : (s.setFld a f n).dram = s.dram := (rfl)
@[simp] theorem State.setFld_spare (s : State) (a : Nat) (f : Field) (n : Nat) : (s.setFld a f n).spare = s.spare := (rfl)
@[simp] theorem State.setFld_ecc (s : State) (a : Nat) (f : Field) (n : Nat) : (s.setFld a f n).ecc = s.ecc := (rfl)
@[simp] theorem State.setFld_raised (s : State) (a : Nat) (f : Field) (n : Nat) : (s.setFld a f n).raised = s.raised := (rfl)
@[simp] theorem State.setFld_free (s : State) (a : Nat) (f : Field) (n : Nat) : (s.setFld a f n).free = s.free := (rfl)
@[simp] theorem State.setFld_irqN (s : State) (a : Nat) (f : Field) (n : Nat) : (s.setFld a f n).irqN = s.irqN := (rfl)
@[simp] theorem State.setFld_time (s : State) (a : Nat) (f : Field) (n : Nat) : (s.setFld a f n).time = s.time := (rfl)
@[simp] theorem State.setFld_synth (s : State) (a : Nat) (f : Field) (n : Nat) : (s.setFld a f n).synth = s.synth := (rfl)
@[simp] theorem State.setFld_pe (s : State) (a : Nat) (f : Field) (n : Nat) : (s.setFld a f n).pe = s.pe := (rfl)
@[simp] theorem State.setFld_seq (s : State) (a : Nat) (f : Field) (n : Nat) : (s.setFld a f n).seq = s.seq := (rfl)
@[simp] theorem State.setFld_mix (s : State) (a : Nat) (f : Field) (n : Nat) : (s.setFld a f n).mix = s.mix := (rfl)
@[simp] theorem State.setFld_src (s : State) (a : Nat) (f : Field) (n : Nat) : (s.setFld a f n).src = s.src := (rfl)
@[simp] theorem State.setFld_clause (s : State) (a : Nat) (f : Field) (n : Nat) : (s.setFld a f n).clause = s.clause := (rfl)
@[simp] theorem State.setFld_stream (s : State) (a : Nat) (f : Field) (n : Nat) : (s.setFld a f n).stream = s.stream := (rfl)
@[simp] theorem State.setFld_xbar (s : State) (a : Nat) (f : Field) (n : Nat) : (s.setFld a f n).xbar = s.xbar := (rfl)
@[simp] theorem State.setFld_dramc (s : State) (a : Nat) (f : Field) (n : Nat) : (s.setFld a f n).dramc = s.dramc := (rfl)
@[simp] theorem State.setFld_redun (s : State) (a : Nat) (f : Field) (n : Nat) : (s.setFld a f n).redun = s.redun := (rfl)
@[simp] theorem State.setFld_sap (s : State) (a : Nat) (f : Field) (n : Nat) : (s.setFld a f n).sap = s.sap := (rfl)
@[simp] theorem State.setFld_ain (s : State) (a : Nat) (f : Field) (n : Nat) : (s.setFld a f n).ain = s.ain := (rfl)
@[simp] theorem State.setFld_aout (s : State) (a : Nat) (f : Field) (n : Nat) : (s.setFld a f n).aout = s.aout := (rfl)
@[simp] theorem State.setFld_lamp (s : State) (a : Nat) (f : Field) (n : Nat) : (s.setFld a f n).lamp = s.lamp := (rfl)
@[simp] theorem State.setFld_hadc (s : State) (a : Nat) (f : Field) (n : Nat) : (s.setFld a f n).hadc = s.hadc := (rfl)
@[simp] theorem State.setFld_tally (s : State) (a : Nat) (f : Field) (n : Nat) : (s.setFld a f n).tally = s.tally := (rfl)
@[simp] theorem State.setFld_sent (s : State) (a : Nat) (f : Field) (n : Nat) : (s.setFld a f n).sent = s.sent := (rfl)
@[simp] theorem State.setFld_boot (s : State) (a : Nat) (f : Field) (n : Nat) : (s.setFld a f n).boot = s.boot := (rfl)
@[simp] theorem State.setFld_host (s : State) (a : Nat) (f : Field) (n : Nat) : (s.setFld a f n).host = s.host := (rfl)
@[simp] theorem State.setFld_pending (s : State) (a : Nat) (f : Field) (n : Nat) : (s.setFld a f n).pending = s.pending := (rfl)

@[simp] theorem State.setBit_power (s : State) (a : Nat) (f : Field) (b : Bool) : (s.setBit a f b).power = s.power := (rfl)
@[simp] theorem State.setBit_shadow (s : State) (a : Nat) (f : Field) (b : Bool) : (s.setBit a f b).shadow = s.shadow := (rfl)
@[simp] theorem State.setBit_fresh (s : State) (a : Nat) (f : Field) (b : Bool) : (s.setBit a f b).fresh = s.fresh := (rfl)
@[simp] theorem State.setBit_staging (s : State) (a : Nat) (f : Field) (b : Bool) : (s.setBit a f b).staging = s.staging := (rfl)
@[simp] theorem State.setBit_mem (s : State) (a : Nat) (f : Field) (b : Bool) : (s.setBit a f b).mem = s.mem := (rfl)
@[simp] theorem State.setBit_dram (s : State) (a : Nat) (f : Field) (b : Bool) : (s.setBit a f b).dram = s.dram := (rfl)
@[simp] theorem State.setBit_spare (s : State) (a : Nat) (f : Field) (b : Bool) : (s.setBit a f b).spare = s.spare := (rfl)
@[simp] theorem State.setBit_ecc (s : State) (a : Nat) (f : Field) (b : Bool) : (s.setBit a f b).ecc = s.ecc := (rfl)
@[simp] theorem State.setBit_raised (s : State) (a : Nat) (f : Field) (b : Bool) : (s.setBit a f b).raised = s.raised := (rfl)
@[simp] theorem State.setBit_free (s : State) (a : Nat) (f : Field) (b : Bool) : (s.setBit a f b).free = s.free := (rfl)
@[simp] theorem State.setBit_irqN (s : State) (a : Nat) (f : Field) (b : Bool) : (s.setBit a f b).irqN = s.irqN := (rfl)
@[simp] theorem State.setBit_time (s : State) (a : Nat) (f : Field) (b : Bool) : (s.setBit a f b).time = s.time := (rfl)
@[simp] theorem State.setBit_synth (s : State) (a : Nat) (f : Field) (b : Bool) : (s.setBit a f b).synth = s.synth := (rfl)
@[simp] theorem State.setBit_pe (s : State) (a : Nat) (f : Field) (b : Bool) : (s.setBit a f b).pe = s.pe := (rfl)
@[simp] theorem State.setBit_seq (s : State) (a : Nat) (f : Field) (b : Bool) : (s.setBit a f b).seq = s.seq := (rfl)
@[simp] theorem State.setBit_mix (s : State) (a : Nat) (f : Field) (b : Bool) : (s.setBit a f b).mix = s.mix := (rfl)
@[simp] theorem State.setBit_src (s : State) (a : Nat) (f : Field) (b : Bool) : (s.setBit a f b).src = s.src := (rfl)
@[simp] theorem State.setBit_clause (s : State) (a : Nat) (f : Field) (b : Bool) : (s.setBit a f b).clause = s.clause := (rfl)
@[simp] theorem State.setBit_stream (s : State) (a : Nat) (f : Field) (b : Bool) : (s.setBit a f b).stream = s.stream := (rfl)
@[simp] theorem State.setBit_xbar (s : State) (a : Nat) (f : Field) (b : Bool) : (s.setBit a f b).xbar = s.xbar := (rfl)
@[simp] theorem State.setBit_dramc (s : State) (a : Nat) (f : Field) (b : Bool) : (s.setBit a f b).dramc = s.dramc := (rfl)
@[simp] theorem State.setBit_redun (s : State) (a : Nat) (f : Field) (b : Bool) : (s.setBit a f b).redun = s.redun := (rfl)
@[simp] theorem State.setBit_sap (s : State) (a : Nat) (f : Field) (b : Bool) : (s.setBit a f b).sap = s.sap := (rfl)
@[simp] theorem State.setBit_ain (s : State) (a : Nat) (f : Field) (b : Bool) : (s.setBit a f b).ain = s.ain := (rfl)
@[simp] theorem State.setBit_aout (s : State) (a : Nat) (f : Field) (b : Bool) : (s.setBit a f b).aout = s.aout := (rfl)
@[simp] theorem State.setBit_lamp (s : State) (a : Nat) (f : Field) (b : Bool) : (s.setBit a f b).lamp = s.lamp := (rfl)
@[simp] theorem State.setBit_hadc (s : State) (a : Nat) (f : Field) (b : Bool) : (s.setBit a f b).hadc = s.hadc := (rfl)
@[simp] theorem State.setBit_tally (s : State) (a : Nat) (f : Field) (b : Bool) : (s.setBit a f b).tally = s.tally := (rfl)
@[simp] theorem State.setBit_sent (s : State) (a : Nat) (f : Field) (b : Bool) : (s.setBit a f b).sent = s.sent := (rfl)
@[simp] theorem State.setBit_boot (s : State) (a : Nat) (f : Field) (b : Bool) : (s.setBit a f b).boot = s.boot := (rfl)
@[simp] theorem State.setBit_host (s : State) (a : Nat) (f : Field) (b : Bool) : (s.setBit a f b).host = s.host := (rfl)
@[simp] theorem State.setBit_pending (s : State) (a : Nat) (f : Field) (b : Bool) : (s.setBit a f b).pending = s.pending := (rfl)

@[simp] theorem State.setRegN_power (s : State) (a n : Nat) : (s.setRegN a n).power = s.power := (rfl)
@[simp] theorem State.setRegN_shadow (s : State) (a n : Nat) : (s.setRegN a n).shadow = s.shadow := (rfl)
@[simp] theorem State.setRegN_fresh (s : State) (a n : Nat) : (s.setRegN a n).fresh = s.fresh := (rfl)
@[simp] theorem State.setRegN_staging (s : State) (a n : Nat) : (s.setRegN a n).staging = s.staging := (rfl)
@[simp] theorem State.setRegN_mem (s : State) (a n : Nat) : (s.setRegN a n).mem = s.mem := (rfl)
@[simp] theorem State.setRegN_dram (s : State) (a n : Nat) : (s.setRegN a n).dram = s.dram := (rfl)
@[simp] theorem State.setRegN_spare (s : State) (a n : Nat) : (s.setRegN a n).spare = s.spare := (rfl)
@[simp] theorem State.setRegN_ecc (s : State) (a n : Nat) : (s.setRegN a n).ecc = s.ecc := (rfl)
@[simp] theorem State.setRegN_raised (s : State) (a n : Nat) : (s.setRegN a n).raised = s.raised := (rfl)
@[simp] theorem State.setRegN_free (s : State) (a n : Nat) : (s.setRegN a n).free = s.free := (rfl)
@[simp] theorem State.setRegN_irqN (s : State) (a n : Nat) : (s.setRegN a n).irqN = s.irqN := (rfl)
@[simp] theorem State.setRegN_time (s : State) (a n : Nat) : (s.setRegN a n).time = s.time := (rfl)
@[simp] theorem State.setRegN_synth (s : State) (a n : Nat) : (s.setRegN a n).synth = s.synth := (rfl)
@[simp] theorem State.setRegN_pe (s : State) (a n : Nat) : (s.setRegN a n).pe = s.pe := (rfl)
@[simp] theorem State.setRegN_seq (s : State) (a n : Nat) : (s.setRegN a n).seq = s.seq := (rfl)
@[simp] theorem State.setRegN_mix (s : State) (a n : Nat) : (s.setRegN a n).mix = s.mix := (rfl)
@[simp] theorem State.setRegN_src (s : State) (a n : Nat) : (s.setRegN a n).src = s.src := (rfl)
@[simp] theorem State.setRegN_clause (s : State) (a n : Nat) : (s.setRegN a n).clause = s.clause := (rfl)
@[simp] theorem State.setRegN_stream (s : State) (a n : Nat) : (s.setRegN a n).stream = s.stream := (rfl)
@[simp] theorem State.setRegN_xbar (s : State) (a n : Nat) : (s.setRegN a n).xbar = s.xbar := (rfl)
@[simp] theorem State.setRegN_dramc (s : State) (a n : Nat) : (s.setRegN a n).dramc = s.dramc := (rfl)
@[simp] theorem State.setRegN_redun (s : State) (a n : Nat) : (s.setRegN a n).redun = s.redun := (rfl)
@[simp] theorem State.setRegN_sap (s : State) (a n : Nat) : (s.setRegN a n).sap = s.sap := (rfl)
@[simp] theorem State.setRegN_ain (s : State) (a n : Nat) : (s.setRegN a n).ain = s.ain := (rfl)
@[simp] theorem State.setRegN_aout (s : State) (a n : Nat) : (s.setRegN a n).aout = s.aout := (rfl)
@[simp] theorem State.setRegN_lamp (s : State) (a n : Nat) : (s.setRegN a n).lamp = s.lamp := (rfl)
@[simp] theorem State.setRegN_hadc (s : State) (a n : Nat) : (s.setRegN a n).hadc = s.hadc := (rfl)
@[simp] theorem State.setRegN_tally (s : State) (a n : Nat) : (s.setRegN a n).tally = s.tally := (rfl)
@[simp] theorem State.setRegN_sent (s : State) (a n : Nat) : (s.setRegN a n).sent = s.sent := (rfl)
@[simp] theorem State.setRegN_boot (s : State) (a n : Nat) : (s.setRegN a n).boot = s.boot := (rfl)
@[simp] theorem State.setRegN_host (s : State) (a n : Nat) : (s.setRegN a n).host = s.host := (rfl)
@[simp] theorem State.setRegN_pending (s : State) (a n : Nat) : (s.setRegN a n).pending = s.pending := (rfl)

@[simp] theorem State.setReg64_power (s : State) (a n : Nat) : (s.setReg64 a n).power = s.power := (rfl)
@[simp] theorem State.setReg64_shadow (s : State) (a n : Nat) : (s.setReg64 a n).shadow = s.shadow := (rfl)
@[simp] theorem State.setReg64_fresh (s : State) (a n : Nat) : (s.setReg64 a n).fresh = s.fresh := (rfl)
@[simp] theorem State.setReg64_staging (s : State) (a n : Nat) : (s.setReg64 a n).staging = s.staging := (rfl)
@[simp] theorem State.setReg64_mem (s : State) (a n : Nat) : (s.setReg64 a n).mem = s.mem := (rfl)
@[simp] theorem State.setReg64_dram (s : State) (a n : Nat) : (s.setReg64 a n).dram = s.dram := (rfl)
@[simp] theorem State.setReg64_spare (s : State) (a n : Nat) : (s.setReg64 a n).spare = s.spare := (rfl)
@[simp] theorem State.setReg64_ecc (s : State) (a n : Nat) : (s.setReg64 a n).ecc = s.ecc := (rfl)
@[simp] theorem State.setReg64_raised (s : State) (a n : Nat) : (s.setReg64 a n).raised = s.raised := (rfl)
@[simp] theorem State.setReg64_free (s : State) (a n : Nat) : (s.setReg64 a n).free = s.free := (rfl)
@[simp] theorem State.setReg64_irqN (s : State) (a n : Nat) : (s.setReg64 a n).irqN = s.irqN := (rfl)
@[simp] theorem State.setReg64_time (s : State) (a n : Nat) : (s.setReg64 a n).time = s.time := (rfl)
@[simp] theorem State.setReg64_synth (s : State) (a n : Nat) : (s.setReg64 a n).synth = s.synth := (rfl)
@[simp] theorem State.setReg64_pe (s : State) (a n : Nat) : (s.setReg64 a n).pe = s.pe := (rfl)
@[simp] theorem State.setReg64_seq (s : State) (a n : Nat) : (s.setReg64 a n).seq = s.seq := (rfl)
@[simp] theorem State.setReg64_mix (s : State) (a n : Nat) : (s.setReg64 a n).mix = s.mix := (rfl)
@[simp] theorem State.setReg64_src (s : State) (a n : Nat) : (s.setReg64 a n).src = s.src := (rfl)
@[simp] theorem State.setReg64_clause (s : State) (a n : Nat) : (s.setReg64 a n).clause = s.clause := (rfl)
@[simp] theorem State.setReg64_stream (s : State) (a n : Nat) : (s.setReg64 a n).stream = s.stream := (rfl)
@[simp] theorem State.setReg64_xbar (s : State) (a n : Nat) : (s.setReg64 a n).xbar = s.xbar := (rfl)
@[simp] theorem State.setReg64_dramc (s : State) (a n : Nat) : (s.setReg64 a n).dramc = s.dramc := (rfl)
@[simp] theorem State.setReg64_redun (s : State) (a n : Nat) : (s.setReg64 a n).redun = s.redun := (rfl)
@[simp] theorem State.setReg64_sap (s : State) (a n : Nat) : (s.setReg64 a n).sap = s.sap := (rfl)
@[simp] theorem State.setReg64_ain (s : State) (a n : Nat) : (s.setReg64 a n).ain = s.ain := (rfl)
@[simp] theorem State.setReg64_aout (s : State) (a n : Nat) : (s.setReg64 a n).aout = s.aout := (rfl)
@[simp] theorem State.setReg64_lamp (s : State) (a n : Nat) : (s.setReg64 a n).lamp = s.lamp := (rfl)
@[simp] theorem State.setReg64_hadc (s : State) (a n : Nat) : (s.setReg64 a n).hadc = s.hadc := (rfl)
@[simp] theorem State.setReg64_tally (s : State) (a n : Nat) : (s.setReg64 a n).tally = s.tally := (rfl)
@[simp] theorem State.setReg64_sent (s : State) (a n : Nat) : (s.setReg64 a n).sent = s.sent := (rfl)
@[simp] theorem State.setReg64_boot (s : State) (a n : Nat) : (s.setReg64 a n).boot = s.boot := (rfl)
@[simp] theorem State.setReg64_host (s : State) (a n : Nat) : (s.setReg64 a n).host = s.host := (rfl)
@[simp] theorem State.setReg64_pending (s : State) (a n : Nat) : (s.setReg64 a n).pending = s.pending := (rfl)

@[simp] theorem State.setNow_power (s : State) (n : Nat) : (s.setNow n).power = s.power := (rfl)
@[simp] theorem State.setNow_shadow (s : State) (n : Nat) : (s.setNow n).shadow = s.shadow := (rfl)
@[simp] theorem State.setNow_fresh (s : State) (n : Nat) : (s.setNow n).fresh = s.fresh := (rfl)
@[simp] theorem State.setNow_staging (s : State) (n : Nat) : (s.setNow n).staging = s.staging := (rfl)
@[simp] theorem State.setNow_mem (s : State) (n : Nat) : (s.setNow n).mem = s.mem := (rfl)
@[simp] theorem State.setNow_dram (s : State) (n : Nat) : (s.setNow n).dram = s.dram := (rfl)
@[simp] theorem State.setNow_spare (s : State) (n : Nat) : (s.setNow n).spare = s.spare := (rfl)
@[simp] theorem State.setNow_ecc (s : State) (n : Nat) : (s.setNow n).ecc = s.ecc := (rfl)
@[simp] theorem State.setNow_raised (s : State) (n : Nat) : (s.setNow n).raised = s.raised := (rfl)
@[simp] theorem State.setNow_free (s : State) (n : Nat) : (s.setNow n).free = s.free := (rfl)
@[simp] theorem State.setNow_irqN (s : State) (n : Nat) : (s.setNow n).irqN = s.irqN := (rfl)
@[simp] theorem State.setNow_time (s : State) (n : Nat) : (s.setNow n).time = s.time := (rfl)
@[simp] theorem State.setNow_synth (s : State) (n : Nat) : (s.setNow n).synth = s.synth := (rfl)
@[simp] theorem State.setNow_pe (s : State) (n : Nat) : (s.setNow n).pe = s.pe := (rfl)
@[simp] theorem State.setNow_seq (s : State) (n : Nat) : (s.setNow n).seq = s.seq := (rfl)
@[simp] theorem State.setNow_mix (s : State) (n : Nat) : (s.setNow n).mix = s.mix := (rfl)
@[simp] theorem State.setNow_src (s : State) (n : Nat) : (s.setNow n).src = s.src := (rfl)
@[simp] theorem State.setNow_clause (s : State) (n : Nat) : (s.setNow n).clause = s.clause := (rfl)
@[simp] theorem State.setNow_stream (s : State) (n : Nat) : (s.setNow n).stream = s.stream := (rfl)
@[simp] theorem State.setNow_xbar (s : State) (n : Nat) : (s.setNow n).xbar = s.xbar := (rfl)
@[simp] theorem State.setNow_dramc (s : State) (n : Nat) : (s.setNow n).dramc = s.dramc := (rfl)
@[simp] theorem State.setNow_redun (s : State) (n : Nat) : (s.setNow n).redun = s.redun := (rfl)
@[simp] theorem State.setNow_sap (s : State) (n : Nat) : (s.setNow n).sap = s.sap := (rfl)
@[simp] theorem State.setNow_ain (s : State) (n : Nat) : (s.setNow n).ain = s.ain := (rfl)
@[simp] theorem State.setNow_aout (s : State) (n : Nat) : (s.setNow n).aout = s.aout := (rfl)
@[simp] theorem State.setNow_lamp (s : State) (n : Nat) : (s.setNow n).lamp = s.lamp := (rfl)
@[simp] theorem State.setNow_hadc (s : State) (n : Nat) : (s.setNow n).hadc = s.hadc := (rfl)
@[simp] theorem State.setNow_tally (s : State) (n : Nat) : (s.setNow n).tally = s.tally := (rfl)
@[simp] theorem State.setNow_sent (s : State) (n : Nat) : (s.setNow n).sent = s.sent := (rfl)
@[simp] theorem State.setNow_boot (s : State) (n : Nat) : (s.setNow n).boot = s.boot := (rfl)
@[simp] theorem State.setNow_host (s : State) (n : Nat) : (s.setNow n).host = s.host := (rfl)
@[simp] theorem State.setNow_pending (s : State) (n : Nat) : (s.setNow n).pending = s.pending := (rfl)

@[simp] theorem State.write_power (s : State) (a : Nat) (bs : List Byte) : (s.write a bs).power = s.power := (rfl)
@[simp] theorem State.write_regs (s : State) (a : Nat) (bs : List Byte) : (s.write a bs).regs = s.regs := (rfl)
@[simp] theorem State.write_shadow (s : State) (a : Nat) (bs : List Byte) : (s.write a bs).shadow = s.shadow := (rfl)
@[simp] theorem State.write_fresh (s : State) (a : Nat) (bs : List Byte) : (s.write a bs).fresh = s.fresh := (rfl)
@[simp] theorem State.write_staging (s : State) (a : Nat) (bs : List Byte) : (s.write a bs).staging = s.staging := (rfl)
@[simp] theorem State.write_dram (s : State) (a : Nat) (bs : List Byte) : (s.write a bs).dram = s.dram := (rfl)
@[simp] theorem State.write_spare (s : State) (a : Nat) (bs : List Byte) : (s.write a bs).spare = s.spare := (rfl)
@[simp] theorem State.write_ecc (s : State) (a : Nat) (bs : List Byte) : (s.write a bs).ecc = s.ecc := (rfl)
@[simp] theorem State.write_raised (s : State) (a : Nat) (bs : List Byte) : (s.write a bs).raised = s.raised := (rfl)
@[simp] theorem State.write_free (s : State) (a : Nat) (bs : List Byte) : (s.write a bs).free = s.free := (rfl)
@[simp] theorem State.write_irqN (s : State) (a : Nat) (bs : List Byte) : (s.write a bs).irqN = s.irqN := (rfl)
@[simp] theorem State.write_time (s : State) (a : Nat) (bs : List Byte) : (s.write a bs).time = s.time := (rfl)
@[simp] theorem State.write_synth (s : State) (a : Nat) (bs : List Byte) : (s.write a bs).synth = s.synth := (rfl)
@[simp] theorem State.write_pe (s : State) (a : Nat) (bs : List Byte) : (s.write a bs).pe = s.pe := (rfl)
@[simp] theorem State.write_seq (s : State) (a : Nat) (bs : List Byte) : (s.write a bs).seq = s.seq := (rfl)
@[simp] theorem State.write_mix (s : State) (a : Nat) (bs : List Byte) : (s.write a bs).mix = s.mix := (rfl)
@[simp] theorem State.write_src (s : State) (a : Nat) (bs : List Byte) : (s.write a bs).src = s.src := (rfl)
@[simp] theorem State.write_clause (s : State) (a : Nat) (bs : List Byte) : (s.write a bs).clause = s.clause := (rfl)
@[simp] theorem State.write_stream (s : State) (a : Nat) (bs : List Byte) : (s.write a bs).stream = s.stream := (rfl)
@[simp] theorem State.write_xbar (s : State) (a : Nat) (bs : List Byte) : (s.write a bs).xbar = s.xbar := (rfl)
@[simp] theorem State.write_dramc (s : State) (a : Nat) (bs : List Byte) : (s.write a bs).dramc = s.dramc := (rfl)
@[simp] theorem State.write_redun (s : State) (a : Nat) (bs : List Byte) : (s.write a bs).redun = s.redun := (rfl)
@[simp] theorem State.write_sap (s : State) (a : Nat) (bs : List Byte) : (s.write a bs).sap = s.sap := (rfl)
@[simp] theorem State.write_ain (s : State) (a : Nat) (bs : List Byte) : (s.write a bs).ain = s.ain := (rfl)
@[simp] theorem State.write_aout (s : State) (a : Nat) (bs : List Byte) : (s.write a bs).aout = s.aout := (rfl)
@[simp] theorem State.write_lamp (s : State) (a : Nat) (bs : List Byte) : (s.write a bs).lamp = s.lamp := (rfl)
@[simp] theorem State.write_hadc (s : State) (a : Nat) (bs : List Byte) : (s.write a bs).hadc = s.hadc := (rfl)
@[simp] theorem State.write_tally (s : State) (a : Nat) (bs : List Byte) : (s.write a bs).tally = s.tally := (rfl)
@[simp] theorem State.write_sent (s : State) (a : Nat) (bs : List Byte) : (s.write a bs).sent = s.sent := (rfl)
@[simp] theorem State.write_boot (s : State) (a : Nat) (bs : List Byte) : (s.write a bs).boot = s.boot := (rfl)
@[simp] theorem State.write_host (s : State) (a : Nat) (bs : List Byte) : (s.write a bs).host = s.host := (rfl)
@[simp] theorem State.write_pending (s : State) (a : Nat) (bs : List Byte) : (s.write a bs).pending = s.pending := (rfl)

@[simp] theorem State.writeWords_power (s : State) (a : Nat) (ws : List Word) : (s.writeWords a ws).power = s.power := (rfl)
@[simp] theorem State.writeWords_regs (s : State) (a : Nat) (ws : List Word) : (s.writeWords a ws).regs = s.regs := (rfl)
@[simp] theorem State.writeWords_shadow (s : State) (a : Nat) (ws : List Word) : (s.writeWords a ws).shadow = s.shadow := (rfl)
@[simp] theorem State.writeWords_fresh (s : State) (a : Nat) (ws : List Word) : (s.writeWords a ws).fresh = s.fresh := (rfl)
@[simp] theorem State.writeWords_staging (s : State) (a : Nat) (ws : List Word) : (s.writeWords a ws).staging = s.staging := (rfl)
@[simp] theorem State.writeWords_dram (s : State) (a : Nat) (ws : List Word) : (s.writeWords a ws).dram = s.dram := (rfl)
@[simp] theorem State.writeWords_spare (s : State) (a : Nat) (ws : List Word) : (s.writeWords a ws).spare = s.spare := (rfl)
@[simp] theorem State.writeWords_ecc (s : State) (a : Nat) (ws : List Word) : (s.writeWords a ws).ecc = s.ecc := (rfl)
@[simp] theorem State.writeWords_raised (s : State) (a : Nat) (ws : List Word) : (s.writeWords a ws).raised = s.raised := (rfl)
@[simp] theorem State.writeWords_free (s : State) (a : Nat) (ws : List Word) : (s.writeWords a ws).free = s.free := (rfl)
@[simp] theorem State.writeWords_irqN (s : State) (a : Nat) (ws : List Word) : (s.writeWords a ws).irqN = s.irqN := (rfl)
@[simp] theorem State.writeWords_time (s : State) (a : Nat) (ws : List Word) : (s.writeWords a ws).time = s.time := (rfl)
@[simp] theorem State.writeWords_synth (s : State) (a : Nat) (ws : List Word) : (s.writeWords a ws).synth = s.synth := (rfl)
@[simp] theorem State.writeWords_pe (s : State) (a : Nat) (ws : List Word) : (s.writeWords a ws).pe = s.pe := (rfl)
@[simp] theorem State.writeWords_seq (s : State) (a : Nat) (ws : List Word) : (s.writeWords a ws).seq = s.seq := (rfl)
@[simp] theorem State.writeWords_mix (s : State) (a : Nat) (ws : List Word) : (s.writeWords a ws).mix = s.mix := (rfl)
@[simp] theorem State.writeWords_src (s : State) (a : Nat) (ws : List Word) : (s.writeWords a ws).src = s.src := (rfl)
@[simp] theorem State.writeWords_clause (s : State) (a : Nat) (ws : List Word) : (s.writeWords a ws).clause = s.clause := (rfl)
@[simp] theorem State.writeWords_stream (s : State) (a : Nat) (ws : List Word) : (s.writeWords a ws).stream = s.stream := (rfl)
@[simp] theorem State.writeWords_xbar (s : State) (a : Nat) (ws : List Word) : (s.writeWords a ws).xbar = s.xbar := (rfl)
@[simp] theorem State.writeWords_dramc (s : State) (a : Nat) (ws : List Word) : (s.writeWords a ws).dramc = s.dramc := (rfl)
@[simp] theorem State.writeWords_redun (s : State) (a : Nat) (ws : List Word) : (s.writeWords a ws).redun = s.redun := (rfl)
@[simp] theorem State.writeWords_sap (s : State) (a : Nat) (ws : List Word) : (s.writeWords a ws).sap = s.sap := (rfl)
@[simp] theorem State.writeWords_ain (s : State) (a : Nat) (ws : List Word) : (s.writeWords a ws).ain = s.ain := (rfl)
@[simp] theorem State.writeWords_aout (s : State) (a : Nat) (ws : List Word) : (s.writeWords a ws).aout = s.aout := (rfl)
@[simp] theorem State.writeWords_lamp (s : State) (a : Nat) (ws : List Word) : (s.writeWords a ws).lamp = s.lamp := (rfl)
@[simp] theorem State.writeWords_hadc (s : State) (a : Nat) (ws : List Word) : (s.writeWords a ws).hadc = s.hadc := (rfl)
@[simp] theorem State.writeWords_tally (s : State) (a : Nat) (ws : List Word) : (s.writeWords a ws).tally = s.tally := (rfl)
@[simp] theorem State.writeWords_sent (s : State) (a : Nat) (ws : List Word) : (s.writeWords a ws).sent = s.sent := (rfl)
@[simp] theorem State.writeWords_boot (s : State) (a : Nat) (ws : List Word) : (s.writeWords a ws).boot = s.boot := (rfl)
@[simp] theorem State.writeWords_host (s : State) (a : Nat) (ws : List Word) : (s.writeWords a ws).host = s.host := (rfl)
@[simp] theorem State.writeWords_pending (s : State) (a : Nat) (ws : List Word) : (s.writeWords a ws).pending = s.pending := (rfl)

@[simp] theorem State.eccClearW_power (s : State) (w a n : Nat) : (s.eccClearW w a n).power = s.power := (rfl)
@[simp] theorem State.eccClearW_regs (s : State) (w a n : Nat) : (s.eccClearW w a n).regs = s.regs := (rfl)
@[simp] theorem State.eccClearW_shadow (s : State) (w a n : Nat) : (s.eccClearW w a n).shadow = s.shadow := (rfl)
@[simp] theorem State.eccClearW_fresh (s : State) (w a n : Nat) : (s.eccClearW w a n).fresh = s.fresh := (rfl)
@[simp] theorem State.eccClearW_staging (s : State) (w a n : Nat) : (s.eccClearW w a n).staging = s.staging := (rfl)
@[simp] theorem State.eccClearW_mem (s : State) (w a n : Nat) : (s.eccClearW w a n).mem = s.mem := (rfl)
@[simp] theorem State.eccClearW_dram (s : State) (w a n : Nat) : (s.eccClearW w a n).dram = s.dram := (rfl)
@[simp] theorem State.eccClearW_spare (s : State) (w a n : Nat) : (s.eccClearW w a n).spare = s.spare := (rfl)
@[simp] theorem State.eccClearW_raised (s : State) (w a n : Nat) : (s.eccClearW w a n).raised = s.raised := (rfl)
@[simp] theorem State.eccClearW_free (s : State) (w a n : Nat) : (s.eccClearW w a n).free = s.free := (rfl)
@[simp] theorem State.eccClearW_irqN (s : State) (w a n : Nat) : (s.eccClearW w a n).irqN = s.irqN := (rfl)
@[simp] theorem State.eccClearW_time (s : State) (w a n : Nat) : (s.eccClearW w a n).time = s.time := (rfl)
@[simp] theorem State.eccClearW_synth (s : State) (w a n : Nat) : (s.eccClearW w a n).synth = s.synth := (rfl)
@[simp] theorem State.eccClearW_pe (s : State) (w a n : Nat) : (s.eccClearW w a n).pe = s.pe := (rfl)
@[simp] theorem State.eccClearW_seq (s : State) (w a n : Nat) : (s.eccClearW w a n).seq = s.seq := (rfl)
@[simp] theorem State.eccClearW_mix (s : State) (w a n : Nat) : (s.eccClearW w a n).mix = s.mix := (rfl)
@[simp] theorem State.eccClearW_src (s : State) (w a n : Nat) : (s.eccClearW w a n).src = s.src := (rfl)
@[simp] theorem State.eccClearW_clause (s : State) (w a n : Nat) : (s.eccClearW w a n).clause = s.clause := (rfl)
@[simp] theorem State.eccClearW_stream (s : State) (w a n : Nat) : (s.eccClearW w a n).stream = s.stream := (rfl)
@[simp] theorem State.eccClearW_xbar (s : State) (w a n : Nat) : (s.eccClearW w a n).xbar = s.xbar := (rfl)
@[simp] theorem State.eccClearW_dramc (s : State) (w a n : Nat) : (s.eccClearW w a n).dramc = s.dramc := (rfl)
@[simp] theorem State.eccClearW_redun (s : State) (w a n : Nat) : (s.eccClearW w a n).redun = s.redun := (rfl)
@[simp] theorem State.eccClearW_sap (s : State) (w a n : Nat) : (s.eccClearW w a n).sap = s.sap := (rfl)
@[simp] theorem State.eccClearW_ain (s : State) (w a n : Nat) : (s.eccClearW w a n).ain = s.ain := (rfl)
@[simp] theorem State.eccClearW_aout (s : State) (w a n : Nat) : (s.eccClearW w a n).aout = s.aout := (rfl)
@[simp] theorem State.eccClearW_lamp (s : State) (w a n : Nat) : (s.eccClearW w a n).lamp = s.lamp := (rfl)
@[simp] theorem State.eccClearW_hadc (s : State) (w a n : Nat) : (s.eccClearW w a n).hadc = s.hadc := (rfl)
@[simp] theorem State.eccClearW_tally (s : State) (w a n : Nat) : (s.eccClearW w a n).tally = s.tally := (rfl)
@[simp] theorem State.eccClearW_sent (s : State) (w a n : Nat) : (s.eccClearW w a n).sent = s.sent := (rfl)
@[simp] theorem State.eccClearW_boot (s : State) (w a n : Nat) : (s.eccClearW w a n).boot = s.boot := (rfl)
@[simp] theorem State.eccClearW_host (s : State) (w a n : Nat) : (s.eccClearW w a n).host = s.host := (rfl)
@[simp] theorem State.eccClearW_pending (s : State) (w a n : Nat) : (s.eccClearW w a n).pending = s.pending := (rfl)

@[simp] theorem State.eccClear_power (s : State) (a n : Nat) : (s.eccClear a n).power = s.power := (rfl)
@[simp] theorem State.eccClear_regs (s : State) (a n : Nat) : (s.eccClear a n).regs = s.regs := (rfl)
@[simp] theorem State.eccClear_shadow (s : State) (a n : Nat) : (s.eccClear a n).shadow = s.shadow := (rfl)
@[simp] theorem State.eccClear_fresh (s : State) (a n : Nat) : (s.eccClear a n).fresh = s.fresh := (rfl)
@[simp] theorem State.eccClear_staging (s : State) (a n : Nat) : (s.eccClear a n).staging = s.staging := (rfl)
@[simp] theorem State.eccClear_mem (s : State) (a n : Nat) : (s.eccClear a n).mem = s.mem := (rfl)
@[simp] theorem State.eccClear_dram (s : State) (a n : Nat) : (s.eccClear a n).dram = s.dram := (rfl)
@[simp] theorem State.eccClear_spare (s : State) (a n : Nat) : (s.eccClear a n).spare = s.spare := (rfl)
@[simp] theorem State.eccClear_raised (s : State) (a n : Nat) : (s.eccClear a n).raised = s.raised := (rfl)
@[simp] theorem State.eccClear_free (s : State) (a n : Nat) : (s.eccClear a n).free = s.free := (rfl)
@[simp] theorem State.eccClear_irqN (s : State) (a n : Nat) : (s.eccClear a n).irqN = s.irqN := (rfl)
@[simp] theorem State.eccClear_time (s : State) (a n : Nat) : (s.eccClear a n).time = s.time := (rfl)
@[simp] theorem State.eccClear_synth (s : State) (a n : Nat) : (s.eccClear a n).synth = s.synth := (rfl)
@[simp] theorem State.eccClear_pe (s : State) (a n : Nat) : (s.eccClear a n).pe = s.pe := (rfl)
@[simp] theorem State.eccClear_seq (s : State) (a n : Nat) : (s.eccClear a n).seq = s.seq := (rfl)
@[simp] theorem State.eccClear_mix (s : State) (a n : Nat) : (s.eccClear a n).mix = s.mix := (rfl)
@[simp] theorem State.eccClear_src (s : State) (a n : Nat) : (s.eccClear a n).src = s.src := (rfl)
@[simp] theorem State.eccClear_clause (s : State) (a n : Nat) : (s.eccClear a n).clause = s.clause := (rfl)
@[simp] theorem State.eccClear_stream (s : State) (a n : Nat) : (s.eccClear a n).stream = s.stream := (rfl)
@[simp] theorem State.eccClear_xbar (s : State) (a n : Nat) : (s.eccClear a n).xbar = s.xbar := (rfl)
@[simp] theorem State.eccClear_dramc (s : State) (a n : Nat) : (s.eccClear a n).dramc = s.dramc := (rfl)
@[simp] theorem State.eccClear_redun (s : State) (a n : Nat) : (s.eccClear a n).redun = s.redun := (rfl)
@[simp] theorem State.eccClear_sap (s : State) (a n : Nat) : (s.eccClear a n).sap = s.sap := (rfl)
@[simp] theorem State.eccClear_ain (s : State) (a n : Nat) : (s.eccClear a n).ain = s.ain := (rfl)
@[simp] theorem State.eccClear_aout (s : State) (a n : Nat) : (s.eccClear a n).aout = s.aout := (rfl)
@[simp] theorem State.eccClear_lamp (s : State) (a n : Nat) : (s.eccClear a n).lamp = s.lamp := (rfl)
@[simp] theorem State.eccClear_hadc (s : State) (a n : Nat) : (s.eccClear a n).hadc = s.hadc := (rfl)
@[simp] theorem State.eccClear_tally (s : State) (a n : Nat) : (s.eccClear a n).tally = s.tally := (rfl)
@[simp] theorem State.eccClear_sent (s : State) (a n : Nat) : (s.eccClear a n).sent = s.sent := (rfl)
@[simp] theorem State.eccClear_boot (s : State) (a n : Nat) : (s.eccClear a n).boot = s.boot := (rfl)
@[simp] theorem State.eccClear_host (s : State) (a n : Nat) : (s.eccClear a n).host = s.host := (rfl)
@[simp] theorem State.eccClear_pending (s : State) (a n : Nat) : (s.eccClear a n).pending = s.pending := (rfl)

@[simp] theorem State.takeFree_power (s : State) : s.takeFree.2.power = s.power := (rfl)
@[simp] theorem State.takeFree_regs (s : State) : s.takeFree.2.regs = s.regs := (rfl)
@[simp] theorem State.takeFree_shadow (s : State) : s.takeFree.2.shadow = s.shadow := (rfl)
@[simp] theorem State.takeFree_fresh (s : State) : s.takeFree.2.fresh = s.fresh := (rfl)
@[simp] theorem State.takeFree_staging (s : State) : s.takeFree.2.staging = s.staging := (rfl)
@[simp] theorem State.takeFree_mem (s : State) : s.takeFree.2.mem = s.mem := (rfl)
@[simp] theorem State.takeFree_dram (s : State) : s.takeFree.2.dram = s.dram := (rfl)
@[simp] theorem State.takeFree_spare (s : State) : s.takeFree.2.spare = s.spare := (rfl)
@[simp] theorem State.takeFree_ecc (s : State) : s.takeFree.2.ecc = s.ecc := (rfl)
@[simp] theorem State.takeFree_raised (s : State) : s.takeFree.2.raised = s.raised := (rfl)
@[simp] theorem State.takeFree_irqN (s : State) : s.takeFree.2.irqN = s.irqN := (rfl)
@[simp] theorem State.takeFree_time (s : State) : s.takeFree.2.time = s.time := (rfl)
@[simp] theorem State.takeFree_synth (s : State) : s.takeFree.2.synth = s.synth := (rfl)
@[simp] theorem State.takeFree_pe (s : State) : s.takeFree.2.pe = s.pe := (rfl)
@[simp] theorem State.takeFree_seq (s : State) : s.takeFree.2.seq = s.seq := (rfl)
@[simp] theorem State.takeFree_mix (s : State) : s.takeFree.2.mix = s.mix := (rfl)
@[simp] theorem State.takeFree_src (s : State) : s.takeFree.2.src = s.src := (rfl)
@[simp] theorem State.takeFree_clause (s : State) : s.takeFree.2.clause = s.clause := (rfl)
@[simp] theorem State.takeFree_stream (s : State) : s.takeFree.2.stream = s.stream := (rfl)
@[simp] theorem State.takeFree_xbar (s : State) : s.takeFree.2.xbar = s.xbar := (rfl)
@[simp] theorem State.takeFree_dramc (s : State) : s.takeFree.2.dramc = s.dramc := (rfl)
@[simp] theorem State.takeFree_redun (s : State) : s.takeFree.2.redun = s.redun := (rfl)
@[simp] theorem State.takeFree_sap (s : State) : s.takeFree.2.sap = s.sap := (rfl)
@[simp] theorem State.takeFree_ain (s : State) : s.takeFree.2.ain = s.ain := (rfl)
@[simp] theorem State.takeFree_aout (s : State) : s.takeFree.2.aout = s.aout := (rfl)
@[simp] theorem State.takeFree_lamp (s : State) : s.takeFree.2.lamp = s.lamp := (rfl)
@[simp] theorem State.takeFree_hadc (s : State) : s.takeFree.2.hadc = s.hadc := (rfl)
@[simp] theorem State.takeFree_tally (s : State) : s.takeFree.2.tally = s.tally := (rfl)
@[simp] theorem State.takeFree_sent (s : State) : s.takeFree.2.sent = s.sent := (rfl)
@[simp] theorem State.takeFree_boot (s : State) : s.takeFree.2.boot = s.boot := (rfl)
@[simp] theorem State.takeFree_host (s : State) : s.takeFree.2.host = s.host := (rfl)
@[simp] theorem State.takeFree_pending (s : State) : s.takeFree.2.pending = s.pending := (rfl)
@[simp] theorem State.writeWord_power (s : State) (a : Nat) (w : Word) : (s.writeWord a w).power = s.power := by
  unfold State.writeWord; split <;> rfl
@[simp] theorem State.writeWord_shadow (s : State) (a : Nat) (w : Word) : (s.writeWord a w).shadow = s.shadow := by
  unfold State.writeWord; split <;> rfl
@[simp] theorem State.writeWord_fresh (s : State) (a : Nat) (w : Word) : (s.writeWord a w).fresh = s.fresh := by
  unfold State.writeWord; split <;> rfl
@[simp] theorem State.writeWord_staging (s : State) (a : Nat) (w : Word) : (s.writeWord a w).staging = s.staging := by
  unfold State.writeWord; split <;> rfl
@[simp] theorem State.writeWord_mem (s : State) (a : Nat) (w : Word) : (s.writeWord a w).mem = s.mem := by
  unfold State.writeWord; split <;> rfl
@[simp] theorem State.writeWord_dram (s : State) (a : Nat) (w : Word) : (s.writeWord a w).dram = s.dram := by
  unfold State.writeWord; split <;> rfl
@[simp] theorem State.writeWord_spare (s : State) (a : Nat) (w : Word) : (s.writeWord a w).spare = s.spare := by
  unfold State.writeWord; split <;> rfl
@[simp] theorem State.writeWord_ecc (s : State) (a : Nat) (w : Word) : (s.writeWord a w).ecc = s.ecc := by
  unfold State.writeWord; split <;> rfl
@[simp] theorem State.writeWord_raised (s : State) (a : Nat) (w : Word) : (s.writeWord a w).raised = s.raised := by
  unfold State.writeWord; split <;> rfl
@[simp] theorem State.writeWord_free (s : State) (a : Nat) (w : Word) : (s.writeWord a w).free = s.free := by
  unfold State.writeWord; split <;> rfl
@[simp] theorem State.writeWord_irqN (s : State) (a : Nat) (w : Word) : (s.writeWord a w).irqN = s.irqN := by
  unfold State.writeWord; split <;> rfl
@[simp] theorem State.writeWord_time (s : State) (a : Nat) (w : Word) : (s.writeWord a w).time = s.time := by
  unfold State.writeWord; split <;> rfl
@[simp] theorem State.writeWord_synth (s : State) (a : Nat) (w : Word) : (s.writeWord a w).synth = s.synth := by
  unfold State.writeWord; split <;> rfl
@[simp] theorem State.writeWord_pe (s : State) (a : Nat) (w : Word) : (s.writeWord a w).pe = s.pe := by
  unfold State.writeWord; split <;> rfl
@[simp] theorem State.writeWord_seq (s : State) (a : Nat) (w : Word) : (s.writeWord a w).seq = s.seq := by
  unfold State.writeWord; split <;> rfl
@[simp] theorem State.writeWord_mix (s : State) (a : Nat) (w : Word) : (s.writeWord a w).mix = s.mix := by
  unfold State.writeWord; split <;> rfl
@[simp] theorem State.writeWord_src (s : State) (a : Nat) (w : Word) : (s.writeWord a w).src = s.src := by
  unfold State.writeWord; split <;> rfl
@[simp] theorem State.writeWord_clause (s : State) (a : Nat) (w : Word) : (s.writeWord a w).clause = s.clause := by
  unfold State.writeWord; split <;> rfl
@[simp] theorem State.writeWord_stream (s : State) (a : Nat) (w : Word) : (s.writeWord a w).stream = s.stream := by
  unfold State.writeWord; split <;> rfl
@[simp] theorem State.writeWord_xbar (s : State) (a : Nat) (w : Word) : (s.writeWord a w).xbar = s.xbar := by
  unfold State.writeWord; split <;> rfl
@[simp] theorem State.writeWord_dramc (s : State) (a : Nat) (w : Word) : (s.writeWord a w).dramc = s.dramc := by
  unfold State.writeWord; split <;> rfl
@[simp] theorem State.writeWord_redun (s : State) (a : Nat) (w : Word) : (s.writeWord a w).redun = s.redun := by
  unfold State.writeWord; split <;> rfl
@[simp] theorem State.writeWord_sap (s : State) (a : Nat) (w : Word) : (s.writeWord a w).sap = s.sap := by
  unfold State.writeWord; split <;> rfl
@[simp] theorem State.writeWord_ain (s : State) (a : Nat) (w : Word) : (s.writeWord a w).ain = s.ain := by
  unfold State.writeWord; split <;> rfl
@[simp] theorem State.writeWord_aout (s : State) (a : Nat) (w : Word) : (s.writeWord a w).aout = s.aout := by
  unfold State.writeWord; split <;> rfl
@[simp] theorem State.writeWord_lamp (s : State) (a : Nat) (w : Word) : (s.writeWord a w).lamp = s.lamp := by
  unfold State.writeWord; split <;> rfl
@[simp] theorem State.writeWord_hadc (s : State) (a : Nat) (w : Word) : (s.writeWord a w).hadc = s.hadc := by
  unfold State.writeWord; split <;> rfl
@[simp] theorem State.writeWord_tally (s : State) (a : Nat) (w : Word) : (s.writeWord a w).tally = s.tally := by
  unfold State.writeWord; split <;> rfl
@[simp] theorem State.writeWord_sent (s : State) (a : Nat) (w : Word) : (s.writeWord a w).sent = s.sent := by
  unfold State.writeWord; split <;> rfl
@[simp] theorem State.writeWord_boot (s : State) (a : Nat) (w : Word) : (s.writeWord a w).boot = s.boot := by
  unfold State.writeWord; split <;> rfl
@[simp] theorem State.writeWord_host (s : State) (a : Nat) (w : Word) : (s.writeWord a w).host = s.host := by
  unfold State.writeWord; split <;> rfl
@[simp] theorem State.writeWord_pending (s : State) (a : Nat) (w : Word) : (s.writeWord a w).pending = s.pending := by
  unfold State.writeWord; split <;> rfl

end Sys2Proof.Machine
end

