-- ==== Sys2Proof/Laws/Frame.lean ====
section
/-! SUPPORT. The laws of frames: they compose, and every shared operation has one; raising an event changes only what
`events` and `eventReg` name. -/

namespace Sys2Proof.Machine

variable {R : Nat → Bool} {P : List Part} {s t u : State}

theorem Part.same_refl (p : Part) (s : State) : p.same s s := by cases p <;> simp [Part.same]

theorem Part.same_trans {p : Part} (h : p.same s t) (h' : p.same t u) : p.same s u := by
  cases p <;> simp only [Part.same] at h h' ⊢
  all_goals first
    | exact h'.trans h
    | (rw [h', h])
    | (obtain ⟨h1, h2, h3, h4, h5, h6, h7, h8⟩ := h
       obtain ⟨k1, k2, k3, k4, k5, k6, k7, k8⟩ := h'
       exact ⟨k1.trans h1, k2.trans h2, k3.trans h3, k4.trans h4, k5.trans h5, k6.trans h6, k7.trans h7, k8.trans h8⟩)

theorem Frame.refl : Frame R P s s := ⟨fun _ _ => rfl, fun p _ => p.same_refl s⟩

theorem Frame.trans (h : Frame R P s t) (h' : Frame R P t u) : Frame R P s u :=
  ⟨fun a ha => (h'.1 a ha).trans (h.1 a ha), fun p hp => Part.same_trans (h.2 p hp) (h'.2 p hp)⟩

theorem Frame.mono {R' : Nat → Bool} {P' : List Part} (h : Frame R P s t) (hR : ∀ a, R a = true → R' a = true)
    (hP : ∀ p, p ∈ P → p ∈ P') : Frame R' P' s t :=
  ⟨fun a ha => h.1 a (by rcases hx : R a with _ | _ <;> simp_all), fun p hp => h.2 p (fun h' => hp (hP p h'))⟩

theorem Frame.ite {c : Prop} [Decidable c] (h1 : Frame R P s t) (h2 : Frame R P s u) :
    Frame R P s (if c then t else u) := by
  split
  · exact h1
  · exact h2

theorem Frame.foldl {α : Type} (f : State → α → State) (l : List α) (h : Frame R P s t)
    (hf : ∀ u x, x ∈ l → Frame R P s u → Frame R P s (f u x)) : Frame R P s (l.foldl f t) := by
  induction l generalizing t with
  | nil => exact h
  | cons x l ih => exact ih (hf t x (by simp) h) (fun u y hy => hf u y (List.mem_cons_of_mem _ hy))

/-- A frame without events is a frame with them. -/
theorem Frame.toEv (h : Frame R P s t) : FrameEv R P s t :=
  h.mono (fun a ha => by simp [ha]) (fun p hp => List.mem_cons_of_mem _ hp)

/-- A register write keeps a frame that names the register. -/
theorem Frame.setReg (h : Frame R P s t) (a : Nat) (w : Word) (ha : R a = true) : Frame R P s (t.setReg a w) := by
  refine h.trans ⟨fun b hb => ?_, fun p _ => by cases p <;> simp [Part.same]⟩
  rw [State.reg_setReg, if_neg]
  rintro rfl
  simp [ha] at hb

theorem Frame.setFld (h : Frame R P s t) (a : Nat) (f : Field) (n : Nat) (ha : R a = true) :
    Frame R P s (t.setFld a f n) := h.setReg a _ ha

theorem Frame.setBit (h : Frame R P s t) (a : Nat) (f : Field) (b : Bool) (ha : R a = true) :
    Frame R P s (t.setBit a f b) := h.setReg a _ ha

theorem Frame.setRegN (h : Frame R P s t) (a n : Nat) (ha : R a = true) : Frame R P s (t.setRegN a n) := h.setReg a _ ha

theorem Frame.setReg64 (h : Frame R P s t) (a n : Nat) (ha : R a = true) (hb : R (a + 4) = true) :
    Frame R P s (t.setReg64 a n) := (h.setReg a _ ha).setReg (a + 4) _ hb

theorem Frame.countHold (h : Frame R P s t) (a n : Nat) (ha : R a = true) : Frame R P s (t.countHold a n) :=
  h.setReg a _ ha

theorem Frame.count64 (h : Frame R P s t) (a n : Nat) (ha : R a = true) (hb : R (a + 4) = true) :
    Frame R P s (t.count64 a n) := h.setReg64 a _ ha hb

/-- A state that differs from another only in parts that the frame names. -/
theorem Frame.of_same (h : Frame R P s t) (hr : u.regs = t.regs) (hp : ∀ p, p ∉ P → p.same t u) : Frame R P s u :=
  h.trans ⟨fun a _ => State.reg_congr t u hr a, hp⟩

/-- The events of a frame may change. -/
theorem Frame.free (h : Frame R P s t) (hP : Part.events ∈ P) (n : Nat) : Frame R P s { t with free := n } :=
  h.of_same rfl (fun p hp => by cases p <;> first | exact absurd hP hp | simp [Part.same])

theorem Frame.raised (h : Frame R P s t) (hP : Part.events ∈ P) (m : SMap Nat) : Frame R P s { t with raised := m } :=
  h.of_same rfl (fun p hp => by cases p <;> first | exact absurd hP hp | simp [Part.same])

theorem Frame.takeFree (h : Frame R P s t) (hP : Part.events ∈ P) : Frame R P s t.takeFree.2 := h.free hP _

theorem Frame.count (h : Frame R P s t) (a n : Nat) (ha : R a = true) (hP : Part.events ∈ P) :
    Frame R P s (t.count a n) := by
  unfold State.count
  split
  · exact h.setRegN a _ ha
  · exact (h.takeFree hP).setRegN a _ ha

theorem Frame.power (h : Frame R P s t) (hP : Part.power ∈ P) (x : Power) : Frame R P s { t with power := x } :=
  h.of_same rfl (fun p hp => by cases p <;> first | exact absurd hP hp | simp [Part.same])

theorem Frame.shadow (h : Frame R P s t) (hP : Part.shadow ∈ P) (x : SMap Word) : Frame R P s { t with shadow := x } :=
  h.of_same rfl (fun p hp => by cases p <;> first | exact absurd hP hp | simp [Part.same])

theorem Frame.fresh (h : Frame R P s t) (hP : Part.fresh ∈ P) (x : List Nat) : Frame R P s { t with fresh := x } :=
  h.of_same rfl (fun p hp => by cases p <;> first | exact absurd hP hp | simp [Part.same])

theorem Frame.staging (h : Frame R P s t) (hP : Part.staging ∈ P) (x : SMap Word) : Frame R P s { t with staging := x } :=
  h.of_same rfl (fun p hp => by cases p <;> first | exact absurd hP hp | simp [Part.same])

theorem Frame.mem (h : Frame R P s t) (hP : Part.mem ∈ P) (x : Memory) : Frame R P s { t with mem := x } :=
  h.of_same rfl (fun p hp => by cases p <;> first | exact absurd hP hp | simp [Part.same])

theorem Frame.dram (h : Frame R P s t) (hP : Part.dram ∈ P) (x : Memory) : Frame R P s { t with dram := x } :=
  h.of_same rfl (fun p hp => by cases p <;> first | exact absurd hP hp | simp [Part.same])

theorem Frame.spare (h : Frame R P s t) (hP : Part.spare ∈ P) (x : Memory) : Frame R P s { t with spare := x } :=
  h.of_same rfl (fun p hp => by cases p <;> first | exact absurd hP hp | simp [Part.same])

theorem Frame.ecc (h : Frame R P s t) (hP : Part.ecc ∈ P) (x : SMap Bool) : Frame R P s { t with ecc := x } :=
  h.of_same rfl (fun p hp => by cases p <;> first | exact absurd hP hp | simp [Part.same])

theorem Frame.synth (h : Frame R P s t) (hP : Part.synth ∈ P) (x : SynthSt) : Frame R P s { t with synth := x } :=
  h.of_same rfl (fun p hp => by cases p <;> first | exact absurd hP hp | simp [Part.same])

theorem Frame.pe (h : Frame R P s t) (hP : Part.pe ∈ P) (x : SMap PeCore) : Frame R P s { t with pe := x } :=
  h.of_same rfl (fun p hp => by cases p <;> first | exact absurd hP hp | simp [Part.same])

theorem Frame.seq (h : Frame R P s t) (hP : Part.seq ∈ P) (x : SeqSt) : Frame R P s { t with seq := x } :=
  h.of_same rfl (fun p hp => by cases p <;> first | exact absurd hP hp | simp [Part.same])

theorem Frame.mix (h : Frame R P s t) (hP : Part.mix ∈ P) (x : MixSt) : Frame R P s { t with mix := x } :=
  h.of_same rfl (fun p hp => by cases p <;> first | exact absurd hP hp | simp [Part.same])

theorem Frame.src (h : Frame R P s t) (hP : Part.src ∈ P) (x : SMap SrcCh) : Frame R P s { t with src := x } :=
  h.of_same rfl (fun p hp => by cases p <;> first | exact absurd hP hp | simp [Part.same])

theorem Frame.clause (h : Frame R P s t) (hP : Part.clause ∈ P) (x : ClauseSt) : Frame R P s { t with clause := x } :=
  h.of_same rfl (fun p hp => by cases p <;> first | exact absurd hP hp | simp [Part.same])

theorem Frame.stream (h : Frame R P s t) (hP : Part.stream ∈ P) (x : StreamSt) : Frame R P s { t with stream := x } :=
  h.of_same rfl (fun p hp => by cases p <;> first | exact absurd hP hp | simp [Part.same])

theorem Frame.xbar (h : Frame R P s t) (hP : Part.xbar ∈ P) (x : XbarSt) : Frame R P s { t with xbar := x } :=
  h.of_same rfl (fun p hp => by cases p <;> first | exact absurd hP hp | simp [Part.same])

theorem Frame.dramc (h : Frame R P s t) (hP : Part.dramc ∈ P) (x : DramSt) : Frame R P s { t with dramc := x } :=
  h.of_same rfl (fun p hp => by cases p <;> first | exact absurd hP hp | simp [Part.same])

theorem Frame.redun (h : Frame R P s t) (hP : Part.redun ∈ P) (x : RedunSt) : Frame R P s { t with redun := x } :=
  h.of_same rfl (fun p hp => by cases p <;> first | exact absurd hP hp | simp [Part.same])

theorem Frame.sap (h : Frame R P s t) (hP : Part.sap ∈ P) (x : SMap SapSt) : Frame R P s { t with sap := x } :=
  h.of_same rfl (fun p hp => by cases p <;> first | exact absurd hP hp | simp [Part.same])

theorem Frame.ain (h : Frame R P s t) (hP : Part.ain ∈ P) (x : AinSt) : Frame R P s { t with ain := x } :=
  h.of_same rfl (fun p hp => by cases p <;> first | exact absurd hP hp | simp [Part.same])

theorem Frame.aout (h : Frame R P s t) (hP : Part.aout ∈ P) (x : AoutSt) : Frame R P s { t with aout := x } :=
  h.of_same rfl (fun p hp => by cases p <;> first | exact absurd hP hp | simp [Part.same])

theorem Frame.lamp (h : Frame R P s t) (hP : Part.lamp ∈ P) (x : LampSt) : Frame R P s { t with lamp := x } :=
  h.of_same rfl (fun p hp => by cases p <;> first | exact absurd hP hp | simp [Part.same])

theorem Frame.hadc (h : Frame R P s t) (hP : Part.hadc ∈ P) (x : HadcSt) : Frame R P s { t with hadc := x } :=
  h.of_same rfl (fun p hp => by cases p <;> first | exact absurd hP hp | simp [Part.same])

theorem Frame.boot (h : Frame R P s t) (hP : Part.boot ∈ P) (x : BootSt) : Frame R P s { t with boot := x } :=
  h.of_same rfl (fun p hp => by cases p <;> first | exact absurd hP hp | simp [Part.same])

theorem Frame.pending (h : Frame R P s t) (hP : Part.pending ∈ P) (x : List Instr) : Frame R P s { t with pending := x } :=
  h.of_same rfl (fun p hp => by cases p <;> first | exact absurd hP hp | simp [Part.same])

theorem Frame.time (h : Frame R P s t) (hP : Part.time ∈ P) (x : TimeSt) (hx : x.records = t.time.records) :
    Frame R P s { t with time := x } :=
  h.of_same rfl (fun p hp => by cases p <;> first | exact absurd hP hp | simp [Part.same, hx])

theorem Frame.sent (h : Frame R P s t) (hP : Part.sent ∈ P) (x : SentSt) (hx : x.ordered = t.sent.ordered) :
    Frame R P s { t with sent := x } :=
  h.of_same rfl (fun p hp => by cases p <;> first | exact absurd hP hp | simp [Part.same, hx])

theorem Frame.host (h : Frame R P s t) (hP : Part.host ∈ P) (x : HostSt) (h1 : x.msi = t.host.msi)
    (h2 : x.sumDue = t.host.sumDue) : Frame R P s { t with host := x } :=
  h.of_same rfl (fun p hp => by cases p <;> first | exact absurd hP hp | simp [Part.same, h1, h2])

theorem Frame.write (h : Frame R P s t) (hP : Part.mem ∈ P) (a : Nat) (bs : List Byte) : Frame R P s (t.write a bs) :=
  h.mem hP _

theorem Frame.eccClearW (h : Frame R P s t) (hP : Part.ecc ∈ P) (w a n : Nat) : Frame R P s (t.eccClearW w a n) :=
  h.ecc hP _

/-! ### Raising an event -/

/-- The frames that allow an event: they name its registers and `events`. -/
def AllowsEvents (R : Nat → Bool) (P : List Part) : Prop :=
  (∀ a, eventReg a = true → R a = true) ∧ Part.events ∈ P

theorem AllowsEvents.ev (R : Nat → Bool) (P : List Part) :
    AllowsEvents (fun a => eventReg a || R a) (.events :: P) := ⟨fun a ha => by simp [ha], by simp⟩

theorem eventReg_cause (g : Nat) (h : g < 10) : eventReg (Reg.EVG_CAUSE g) = true := by
  unfold Reg.EVG_CAUSE; interval_cases g <;> decide

theorem eventReg_sticky (g : Nat) (h : g < 6) : eventReg (Reg.TALLY_STICKY g) = true := by
  unfold Reg.TALLY_STICKY; interval_cases g <;> decide

theorem eventReg_ingrace (g : Nat) (h : g < 6) : eventReg (Reg.TALLY_INGRACE g) = true := by
  unfold Reg.TALLY_INGRACE; interval_cases g <;> decide

theorem faultOf_lt (src n : Nat) (h : faultOf src = some n) : n < 192 := by
  have hb : ∀ b, faultBase (src / 32) = some b → b ≤ 160 := by
    intro b hb
    unfold faultBase at hb
    split at hb <;> simp at hb <;> omega
  unfold faultOf at h
  cases hc : faultBase (src / 32) with
  | none => simp [hc] at h
  | some b =>
    have := hb b hc
    simp [hc] at h
    omega

theorem sourceOf_lt (n : Nat) : sourceOf n < 320 := by
  unfold sourceOf
  have : n % 32 < 32 := Nat.mod_lt _ (by decide)
  split <;> omega

/-- Only records that wait for their push change with a record. -/
theorem Frame.records (h : Frame R P s t) (hP : Part.events ∈ P) (l : List EventRec) :
    Frame R P s { t with time := { t.time with records := l } } :=
  h.of_same rfl (fun p hp => by cases p <;> first | exact absurd hP hp | simp [Part.same])

theorem Frame.tally (h : Frame R P s t) (hP : Part.events ∈ P) (x : TallySt)
    (hx : x.silent = t.tally.silent) : Frame R P s { t with tally := x } :=
  h.of_same rfl (fun p hp => by cases p <;> first | exact absurd hP hp | simp [Part.same, hx])

/-- Whether the tally is silent stays in a frame that does not name it. -/
theorem Frame.silent_eq (h : Frame R P s t) (hP : Part.silent ∉ P) : t.tally.silent = s.tally.silent := h.2 _ hP

/-- An address outside the registers of events and of the frame reads as before. -/
theorem FrameEv.reg_eq (h : FrameEv R P s t) (a : Nat) (h1 : eventReg a = false) (h2 : R a = false) :
    t.reg a = s.reg a := h.1 a (by simp [h1, h2])

theorem Frame.markCause (h : Frame R P s t) (hA : AllowsEvents R P) (src : Nat) (hs : src < 320) :
    Frame R P s (t.markCause src) := h.setReg _ _ (hA.1 _ (eventReg_cause _ (by omega)))

theorem Frame.markRecord (h : Frame R P s t) (hA : AllowsEvents R P) (src : Nat) (w3 : Word) :
    Frame R P s (t.markRecord src w3) := by
  unfold State.markRecord
  split
  · exact h.records hA.2 _
  · exact h

theorem Frame.mark (h : Frame R P s t) (hA : AllowsEvents R P) (src : Nat) (w3 : Word) (hs : src < 320) :
    Frame R P s (t.mark src w3) := (h.markCause hA src hs).markRecord hA src w3

theorem Frame.setGrace (h : Frame R P s t) (hA : AllowsEvents R P) (n : Nat) (on : Bool) (hn : n < 192) :
    Frame R P s (t.setGrace n on) :=
  (h.setReg _ _ (hA.1 _ (eventReg_ingrace _ (by omega)))).setFld _ _ _ (hA.1 _ (by decide))

theorem Frame.orderAction (h : Frame R P s t) (hA : AllowsEvents R P) (n action : Nat) (forced : Bool) :
    Frame R P s (t.orderAction n action forced) := by
  have ha : R Reg.TALLY_STATUS = true := hA.1 _ (by decide)
  have h1 : Frame R P s { t with
      sent := { t.sent with ordered := t.sent.ordered ++ [(n, action)] }
      tally := { t.tally with acted := n :: t.tally.acted.filter (· != n) } } :=
    h.of_same rfl (fun p hp => by cases p <;> first | exact absurd hA.2 hp | simp [Part.same])
  exact ((h1.setFld _ _ _ ha).setBit _ _ _ ha).mark hA 34 _ (by decide)

theorem Frame.setFirst (h : Frame R P s t) (hA : AllowsEvents R P) (n : Nat) (forced : Bool) :
    Frame R P s (t.setFirst n forced) := by
  unfold State.setFirst
  split
  · exact (h.setRegN _ _ (hA.1 _ (by decide))).setReg64 _ _ (hA.1 _ (by decide)) (hA.1 _ (by decide))
  · exact h

theorem Frame.setSticky (h : Frame R P s t) (hA : AllowsEvents R P) (n : Nat) (hn : n < 192) :
    Frame R P s (t.setSticky n) := h.setReg _ _ (hA.1 _ (eventReg_sticky _ (by omega)))

theorem Frame.react (h : Frame R P s t) (hA : AllowsEvents R P) (n : Nat) (forced : Bool) (hn : n < 192) :
    Frame R P s (t.react n forced) := by
  unfold State.react
  dsimp only
  split
  · exact h.tally hA.2 _ (by rfl)
  · exact ((h.tally hA.2 _ (by rfl)).setGrace hA n true hn).mark hA 32 _ (by decide)
  · exact (h.tally hA.2 _ (by rfl)).orderAction hA _ _ _

theorem Frame.tallyRaise (h : Frame R P s t) (hA : AllowsEvents R P) (n : Nat) (forced : Bool) (hn : n < 192) :
    Frame R P s (t.tallyRaise n forced) := by
  unfold State.tallyRaise
  split
  · exact h
  · exact ((h.setFirst hA n forced).setSticky hA n hn).react hA n forced hn

theorem Frame.syncSummary (h : Frame R P s t) (hA : AllowsEvents R P) : Frame R P s t.syncSummary := by
  refine Frame.of_same (Frame.setRegN (h.setRegN Reg.GLOBAL_SUMMARY t.summary (hA.1 _ (by decide)))
    Reg.GLOBAL_REMOTE_SUMMARY (t.regN Reg.GLOBAL_REMOTE_SUMMARY / 2 * 2 + bitOf (t.summary != 0))
    (hA.1 _ (by decide))) rfl ?_
  exact fun p hp => by cases p <;> first | exact absurd hA.2 hp | simp [Part.same, State.syncSummary]

theorem Frame.raise (h : Frame R P s t) (hA : AllowsEvents R P) (src : Nat) (w3 : Word) (hs : src < 320) :
    Frame R P s (t.raise src w3) := by
  unfold State.raise
  split
  · unfold State.raiseSilent
    have h1 : ∀ (b : Bool) (u : State), Frame R P s u → Frame R P s (if b then u.markCause src else u) :=
      fun b u hu => by cases b <;> [exact hu; exact hu.markCause hA src hs]
    have h2 : ∀ (b : Bool) (u : State), Frame R P s u → Frame R P s (if b then u.markRecord src w3 else u) :=
      fun b u hu => by cases b <;> [exact hu; exact hu.markRecord hA src w3]
    refine Frame.syncSummary ?_ hA
    have h3 := h2 (t.takeFree.1.testBit 1) _ (h1 (t.takeFree.1.testBit 0) _ (h.takeFree hA.2))
    dsimp only at h3 ⊢
    generalize (if t.takeFree.1.testBit 1 = true then
      (if t.takeFree.1.testBit 0 = true then t.takeFree.2.markCause src else t.takeFree.2).markRecord src w3
      else if t.takeFree.1.testBit 0 = true then t.takeFree.2.markCause src else t.takeFree.2) = q at h3 ⊢
    cases hf : faultOf src with
    | none => exact h3
    | some n =>
      have hlt := faultOf_lt src n hf
      have h4 : Frame R P s (if t.takeFree.1.testBit 2 = true then (q.setFirst n false).setSticky n else q) := by
        split
        · exact (h3.setFirst hA n false).setSticky hA n hlt
        · exact h3
      dsimp only
      generalize (if t.takeFree.1.testBit 2 = true then (q.setFirst n false).setSticky n else q) = q' at h4 ⊢
      by_cases hst : q.sticky n = true
      · rw [if_pos hst]; exact h3
      · rw [if_neg hst]
        cases t.takeFree.1.testBit 3
        · exact h4
        · exact h4.react hA n false hlt
  · unfold State.raiseNow
    refine Frame.syncSummary ?_ hA
    have h1 := h.mark hA src w3 hs
    cases hf : faultOf src with
    | none => exact h1
    | some n => exact h1.tallyRaise hA n false (faultOf_lt src n hf)

theorem Frame.raiseN (h : Frame R P s t) (hA : AllowsEvents R P) (src w3 : Nat) (hs : src < 320) :
    Frame R P s (t.raiseN src w3) := h.raise hA src _ hs

theorem Frame.raiseFolio (h : Frame R P s t) (hA : AllowsEvents R P) (key src w3 : Nat) (hs : src < 320) :
    Frame R P s (t.raiseFolio key src w3) := by
  unfold State.raiseFolio
  dsimp only
  split
  · exact h
  · exact (h.raised hA.2 _).raiseN hA src w3 hs

theorem Frame.raiseMs (h : Frame R P s t) (hA : AllowsEvents R P) (key src w3 : Nat) (hs : src < 320) :
    Frame R P s (t.raiseMs key src w3) := by
  unfold State.raiseMs
  dsimp only
  split
  · exact h
  · exact (h.raised hA.2 _).raiseN hA src w3 hs

theorem Frame.raiseOnce (h : Frame R P s t) (hA : AllowsEvents R P) (key k src w3 : Nat) (hs : src < 320) :
    Frame R P s (t.raiseOnce key k src w3) := by
  unfold State.raiseOnce
  split
  · exact h
  · exact (h.raised hA.2 _).raiseN hA src w3 hs

theorem Frame.hostErr (h : Frame R P s t) (hA : AllowsEvents R P) (cause dev : Nat) (write : Bool) (addr : Nat)
    (hP : Part.host ∈ P) (h1 : R Reg.GLOBAL_HOST_ERR = true) (h2 : R Reg.GLOBAL_HOST_ERR_ADDR = true) :
    Frame R P s (t.hostErr cause dev write addr) := by
  unfold State.hostErr
  have h3 := (h.setRegN Reg.GLOBAL_HOST_ERR (cause + dev * 2 ^ 4 + bitOf write * 2 ^ 10 + 2 ^ 11) h1).setRegN
    Reg.GLOBAL_HOST_ERR_ADDR addr h2
  dsimp only
  generalize ((t.setRegN Reg.GLOBAL_HOST_ERR (cause + dev * 2 ^ 4 + bitOf write * 2 ^ 10 + 2 ^ 11)).setRegN
    Reg.GLOBAL_HOST_ERR_ADDR addr) = q at h3 ⊢
  have h4 := h3.host hP { q.host with cause := cause } rfl rfl
  exact h4.raiseMs hA _ _ _ (by decide)

/-- Raising an event changes nothing but what every event may change. -/
theorem State.raise_frame (s : State) (src : Nat) (w3 : Word) (hs : src < 320) : FrameEv noRegs [] s (s.raise src w3) :=
  Frame.raise Frame.refl (AllowsEvents.ev _ _) src w3 hs

end Sys2Proof.Machine
end

