-- ==== Sys2Proof/Laws/Raise.lean ====
section
/-! SUPPORT. What raising an event does: its cause bit is set, no cause bit is cleared, and whether the tally is silent
stays. -/

namespace Sys2Proof.Machine

variable {s t u : State}

/-- No cause bit is cleared from s to t, and the tally is silent in both or in none. -/
def CauseLe (s t : State) : Prop :=
  (∀ g i, g < 10 → testBit (s.reg (Reg.EVG_CAUSE g)) i = true → testBit (t.reg (Reg.EVG_CAUSE g)) i = true) ∧
    t.tally.silent = s.tally.silent

theorem CauseLe.refl : CauseLe s s := ⟨fun _ _ _ h => h, rfl⟩

theorem CauseLe.trans (h : CauseLe s t) (h' : CauseLe t u) : CauseLe s u :=
  ⟨fun g i hg hb => h'.1 g i hg (h.1 g i hg hb), h'.2.trans h.2⟩

theorem CauseLe.of_regs (h : CauseLe s t) (hr : u.regs = t.regs) (ht : u.tally.silent = t.tally.silent) : CauseLe s u :=
  h.trans ⟨fun g i _ hb => by rw [State.reg_congr t u hr]; exact hb, ht⟩

/-- Whether an address is that of a cause word. -/
def isCause (a : Nat) : Bool := (List.range 10).any (fun g => a == Reg.EVG_CAUSE g)

theorem isCause_ne {a g : Nat} (h : isCause a = false) (hg : g < 10) : a ≠ Reg.EVG_CAUSE g := by
  rintro rfl
  simp only [isCause, List.any_eq_false, beq_iff_eq] at h
  exact h g (List.mem_range.2 hg) rfl

theorem CauseLe.setReg (h : CauseLe s t) (a : Nat) (w : Word) (ha : isCause a = false) : CauseLe s (t.setReg a w) :=
  h.trans ⟨fun g i hg hb => by rw [State.reg_setReg_ne _ _ _ _ (isCause_ne ha hg)]; exact hb, rfl⟩

theorem CauseLe.setFld (h : CauseLe s t) (a : Nat) (f : Field) (n : Nat) (ha : isCause a = false) :
    CauseLe s (t.setFld a f n) := h.setReg a _ ha

theorem CauseLe.setBit (h : CauseLe s t) (a : Nat) (f : Field) (b : Bool) (ha : isCause a = false) :
    CauseLe s (t.setBit a f b) := h.setReg a _ ha

theorem CauseLe.setRegN (h : CauseLe s t) (a n : Nat) (ha : isCause a = false) : CauseLe s (t.setRegN a n) :=
  h.setReg a _ ha

theorem CauseLe.setReg64 (h : CauseLe s t) (a n : Nat) (ha : isCause a = false) (hb : isCause (a + 4) = false) :
    CauseLe s (t.setReg64 a n) := (h.setReg a _ ha).setReg (a + 4) _ hb

theorem CauseLe.takeFree (h : CauseLe s t) : CauseLe s t.takeFree.2 := h.of_regs rfl rfl

theorem CauseLe.markCause (h : CauseLe s t) (src : Nat) : CauseLe s (t.markCause src) := by
  refine h.trans ⟨fun g i _ hb => ?_, rfl⟩
  rw [State.markCause, State.reg_setReg]
  split
  · rename_i ha
    rw [ha]
    exact testBit_or_mono _ _ _ hb
  · exact hb

theorem CauseLe.markRecord (h : CauseLe s t) (src : Nat) (w3 : Word) : CauseLe s (t.markRecord src w3) := by
  unfold State.markRecord
  split
  · exact h.of_regs rfl rfl
  · exact h

theorem CauseLe.mark (h : CauseLe s t) (src : Nat) (w3 : Word) : CauseLe s (t.mark src w3) :=
  (h.markCause src).markRecord src w3

theorem isCause_sticky {n : Nat} (hn : n < 192) : isCause (Reg.TALLY_STICKY (n / 32)) = false := by
  have : n / 32 < 6 := by omega
  generalize n / 32 = g at this
  interval_cases g <;> decide

theorem isCause_ingrace {n : Nat} (hn : n < 192) : isCause (Reg.TALLY_INGRACE (n / 32)) = false := by
  have : n / 32 < 6 := by omega
  generalize n / 32 = g at this
  interval_cases g <;> decide

theorem CauseLe.setGrace (h : CauseLe s t) (n : Nat) (on : Bool) (hn : n < 192) : CauseLe s (t.setGrace n on) :=
  (h.setReg _ _ (isCause_ingrace hn)).setFld _ _ _ (by decide)

theorem CauseLe.orderAction (h : CauseLe s t) (n action : Nat) (forced : Bool) :
    CauseLe s (t.orderAction n action forced) := by
  unfold State.orderAction
  have ha : isCause Reg.TALLY_STATUS = false := by decide
  have h1 : CauseLe s { t with
      sent := { t.sent with ordered := t.sent.ordered ++ [(n, action)] }
      tally := { t.tally with acted := n :: t.tally.acted.filter (· != n) } } := h.of_regs rfl rfl
  exact ((h1.setFld _ _ _ ha).setBit _ _ _ ha).mark 34 _

theorem CauseLe.setFirst (h : CauseLe s t) (n : Nat) (forced : Bool) : CauseLe s (t.setFirst n forced) := by
  unfold State.setFirst
  split
  · exact (h.setRegN _ _ (by decide)).setReg64 _ _ (by decide) (by decide)
  · exact h

theorem CauseLe.setSticky (h : CauseLe s t) (n : Nat) (hn : n < 192) : CauseLe s (t.setSticky n) :=
  h.setReg _ _ (isCause_sticky hn)

theorem CauseLe.react (h : CauseLe s t) (n : Nat) (forced : Bool) (hn : n < 192) : CauseLe s (t.react n forced) := by
  unfold State.react
  have h1 : CauseLe s { t with tally := { t.tally with
      taken := SMap.set 0 t.tally.taken n (t.reg (Reg.TALLY_CLASS n) ||| BitVec.ofNat 32 (bitOf forced * 2 ^ 31)) } } :=
    h.of_regs rfl rfl
  dsimp only
  split
  · exact h1
  · exact (h1.setGrace n true hn).mark 32 _
  · exact h1.orderAction _ _ _

theorem CauseLe.tallyRaise (h : CauseLe s t) (n : Nat) (forced : Bool) (hn : n < 192) :
    CauseLe s (t.tallyRaise n forced) := by
  unfold State.tallyRaise
  split
  · exact h
  · exact ((h.setFirst n forced).setSticky n hn).react n forced hn

theorem CauseLe.syncSummary (h : CauseLe s t) : CauseLe s t.syncSummary :=
  CauseLe.of_regs (CauseLe.setRegN (h.setRegN Reg.GLOBAL_SUMMARY t.summary (by decide)) Reg.GLOBAL_REMOTE_SUMMARY
    (t.regN Reg.GLOBAL_REMOTE_SUMMARY / 2 * 2 + bitOf (t.summary != 0)) (by decide)) rfl rfl

theorem CauseLe.raise (h : CauseLe s t) (src : Nat) (w3 : Word) : CauseLe s (t.raise src w3) := by
  unfold State.raise
  split
  · unfold State.raiseSilent
    have h1 : ∀ (b : Bool) (u : State), CauseLe s u → CauseLe s (if b then u.markCause src else u) :=
      fun b u hu => by cases b <;> [exact hu; exact hu.markCause src]
    have h2 : ∀ (b : Bool) (u : State), CauseLe s u → CauseLe s (if b then u.markRecord src w3 else u) :=
      fun b u hu => by cases b <;> [exact hu; exact hu.markRecord src w3]
    refine CauseLe.syncSummary ?_
    have h3 := h2 (t.takeFree.1.testBit 1) _ (h1 (t.takeFree.1.testBit 0) _ h.takeFree)
    dsimp only at h3 ⊢
    generalize (if t.takeFree.1.testBit 1 = true then
      (if t.takeFree.1.testBit 0 = true then t.takeFree.2.markCause src else t.takeFree.2).markRecord src w3
      else if t.takeFree.1.testBit 0 = true then t.takeFree.2.markCause src else t.takeFree.2) = q at h3 ⊢
    cases hf : faultOf src with
    | none => exact h3
    | some n =>
      have hlt := faultOf_lt src n hf
      have h4 : CauseLe s (if t.takeFree.1.testBit 2 = true then (q.setFirst n false).setSticky n else q) := by
        split
        · exact (h3.setFirst n false).setSticky n hlt
        · exact h3
      dsimp only
      generalize (if t.takeFree.1.testBit 2 = true then (q.setFirst n false).setSticky n else q) = q' at h4 ⊢
      by_cases hst : q.sticky n = true
      · rw [if_pos hst]; exact h3
      · rw [if_neg hst]
        cases t.takeFree.1.testBit 3
        · exact h4
        · exact h4.react n false hlt
  · unfold State.raiseNow
    refine CauseLe.syncSummary ?_
    have h1 := h.mark src w3
    cases hf : faultOf src with
    | none => exact h1
    | some n => exact h1.tallyRaise n false (faultOf_lt src n hf)

theorem CauseLe.raiseN (h : CauseLe s t) (src w3 : Nat) : CauseLe s (t.raiseN src w3) := h.raise src _

theorem State.markCause_shown (s : State) (src : Nat) : (s.markCause src).shown src := by
  simp only [State.shown, State.markCause, State.reg_setReg, if_pos]
  exact testBit_or_bitMask _ _ (Nat.mod_lt _ (by decide))

theorem CauseLe.shown (h : CauseLe s t) (src : Nat) (hs : src < 320) (hsh : s.shown src) : t.shown src :=
  h.1 _ _ (by omega) hsh

/-- A raise while the tally works sets the cause bit of its source (R554). -/
theorem State.raise_shown (s : State) (src : Nat) (w3 : Word) (hs : src < 320) (hq : s.tally.silent = false) :
    (s.raise src w3).shown src := by
  unfold State.raise
  rw [hq]
  simp only [Bool.false_eq_true, if_false]
  unfold State.raiseNow
  have h0 : CauseLe (s.markCause src) (s.mark src w3) := CauseLe.refl.markRecord src w3
  refine CauseLe.shown ?_ src hs (s.markCause_shown src)
  refine CauseLe.syncSummary ?_
  cases hf : faultOf src with
  | none => exact h0
  | some n => exact h0.tallyRaise n false (faultOf_lt src n hf)

theorem State.raiseN_shown (s : State) (src w3 : Nat) (hs : src < 320) (hq : s.tally.silent = false) :
    (s.raiseN src w3).shown src := s.raise_shown src _ hs hq

end Sys2Proof.Machine
end

