-- ==== Sys2Proof/Laws/Pe.lean ====
section
/-! SUPPORT. The laws of issuing an instruction on a phrase engine. -/

namespace Sys2Proof.Machine

variable {R : Nat → Bool} {P : List Part} {s t u : State}

@[simp] theorem State.core_setCore (s : State) (e d : Nat) (c : PeCore) :
    (s.setCore e c).core d = if e = d then c else s.core d := by
  simp [State.setCore, State.core, SMap.find_set]

theorem State.core_congr (h : t.pe = s.pe) (e : Nat) : t.core e = s.core e := by simp [State.core, h]

theorem Frame.core_eq (h : Frame R P s t) (hP : Part.pe ∉ P) (e : Nat) : t.core e = s.core e :=
  State.core_congr (h.2 _ hP) e

theorem Frame.setCore (h : Frame R P s t) (hP : Part.pe ∈ P) (e : Nat) (c : PeCore) : Frame R P s (t.setCore e c) :=
  h.pe hP _

/-- Writes of a list under other keys leave a key. -/
theorem SMap.find_writes_ne {α : Type} [DecidableEq α] (d : α) (l : List (Nat × α)) (m : SMap α) (k : Nat)
    (h : ∀ x ∈ l, x.1 ≠ k) : SMap.find d (l.foldl (fun m p => SMap.set d m p.1 p.2) m) k = SMap.find d m k := by
  induction l generalizing m with
  | nil => rfl
  | cons x l ih =>
    rw [List.foldl_cons, ih _ (fun y hy => h y (List.mem_cons_of_mem _ hy)), SMap.find_set,
      if_neg (h x (by simp))]

/-- Writes of distinct keys leave each value. -/
theorem SMap.find_writes_map {α : Type} [DecidableEq α] (d : α) (ls : List Nat) (key : Nat → Nat) (val : Nat → α)
    (m : SMap α) (i : Nat) (hi : i ∈ ls) (hk : ∀ j ∈ ls, key j = key i → j = i) :
    SMap.find d ((ls.map (fun l => (key l, val l))).foldl (fun m p => SMap.set d m p.1 p.2) m) (key i) = val i := by
  induction ls generalizing m with
  | nil => simp at hi
  | cons j ls ih =>
    rw [List.map_cons, List.foldl_cons]
    by_cases h : i ∈ ls
    · exact ih _ h (fun j' hj' => hk j' (List.mem_cons_of_mem _ hj'))
    · rcases List.mem_cons.1 hi with rfl | hi
      · rw [SMap.find_writes_ne]
        · simp
        · intro x hx
          obtain ⟨l, hl, rfl⟩ := List.mem_map.1 hx
          intro hkey
          exact h (hk l (List.mem_cons_of_mem _ hl) hkey ▸ hl)
      · exact absurd hi h

theorem mem_lanes (lm : BitVec 4) (l : Nat) : l ∈ lanes lm ↔ l < 4 ∧ lm.toNat.testBit l = true := by
  simp only [lanes, List.mem_filter]
  constructor
  · rintro ⟨h, h2⟩
    refine ⟨?_, h2⟩
    fin_cases h <;> decide
  · rintro ⟨h, h2⟩
    refine ⟨?_, h2⟩
    interval_cases l <;> simp

/-! ### What an engine-wide write keeps -/

theorem PeCore.setEngs_keep (l : List (PeFile × Nat × Nat)) (c : PeCore) :
    (l.foldl PeCore.setEng c).v = c.v ∧ (l.foldl PeCore.setEng c).acc = c.acc ∧ (l.foldl PeCore.setEng c).cf = c.cf ∧
      (l.foldl PeCore.setEng c).xfers = c.xfers ∧ (l.foldl PeCore.setEng c).crc = c.crc ∧
      (l.foldl PeCore.setEng c).loops = c.loops ∧ (l.foldl PeCore.setEng c).ended = c.ended := by
  induction l generalizing c with
  | nil => simp
  | cons x l ih =>
    obtain ⟨f, n, w⟩ := x
    have := ih (c.setEng (f, n, w))
    rw [List.foldl_cons]
    cases f <;> simpa [PeCore.setEng] using this

theorem PeCore.apply_keep (c : PeCore) (w : Writes) :
    (c.apply w).v = w.v.foldl (fun m p => SMap.set 0 m p.1 p.2) c.v ∧
    (c.apply w).acc = w.acc.foldl (fun m p => SMap.set 0 m p.1 p.2) c.acc ∧ (c.apply w).cf = w.cf.getD c.cf ∧
    (c.apply w).xfers = c.xfers ∧ (c.apply w).crc = c.crc ∧ (c.apply w).loops = c.loops ∧
    (c.apply w).ended = c.ended := by
  unfold PeCore.apply
  exact PeCore.setEngs_keep _ _

/-- Control moves PC, repeat levels and loop counters, and nothing else of an engine. -/
theorem flowRun_keep (c : PeCore) (pc : Nat) (fl : Flow) :
    let u := (flowRun c pc fl).2.1
    u.v = c.v ∧ u.acc = c.acc ∧ u.cf = c.cf ∧ u.a = c.a ∧ u.m = c.m ∧ u.o = c.o ∧ u.xfers = c.xfers ∧ u.crc = c.crc ∧
      u.ended = c.ended ∧ u.task = c.task := by
  unfold flowRun
  dsimp only
  split <;> (try split) <;> (try split) <;> simp

/-! ### Completion -/

/-- Two cores that agree on the register files and transfers. -/
def PeCore.sameData (c u : PeCore) : Prop :=
  u.v = c.v ∧ u.acc = c.acc ∧ u.cf = c.cf ∧ u.a = c.a ∧ u.m = c.m ∧ u.o = c.o ∧ u.xfers = c.xfers ∧ u.crc = c.crc ∧
    u.ended = c.ended ∧ u.task = c.task ∧ u.lc = c.lc ∧ u.loops = c.loops

theorem PeCore.sameData.rfl' (c : PeCore) : c.sameData c := ⟨rfl, rfl, rfl, rfl, rfl, rfl, rfl, rfl, rfl, rfl, rfl, rfl⟩

theorem Frame.noEngine (h : Frame R P s t) (hA : AllowsEvents R P) : Frame R P s t.noEngine := by
  unfold State.noEngine
  refine Frame.foldl _ _ h (fun u x _ hu => ?_)
  split
  · exact hu.raiseOnce hA _ _ _ _ (by decide)
  · exact hu

/-- The register words of an engine's block. -/
def peReg (e a : Nat) : Bool := inRange (Reg.PE_CTRL e) (Reg.PE_CTRL e + 0x100) a

theorem peReg_of (e a : Nat) (h : Reg.PE_CTRL e ≤ a ∧ a < Reg.PE_CTRL e + 0x100) : peReg e a = true := by
  simpa [peReg, inRange] using h

theorem peReg_cycles (e : Nat) : peReg e (Reg.PE_CYCLES e) = true ∧ peReg e (Reg.PE_CYCLES e + 4) = true := by
  constructor <;> apply peReg_of <;> simp only [Reg.PE_CTRL, Reg.PE_CYCLES] <;> omega

theorem peReg_at (e k : Nat) (h : k < 0x100) : peReg e (Reg.PE_CTRL e + k) = true := by
  simp [peReg, inRange, Reg.PE_CTRL]
  omega

theorem Frame.peCycles (h : Frame R P s t) (e n : Nat) (hR : ∀ a, peReg e a = true → R a = true) :
    Frame R P s (t.peCycles e n) :=
  h.count64 _ _ (hR _ (peReg_cycles e).1) (hR _ (peReg_cycles e).2)

theorem Frame.peUnstall (h : Frame R P s t) (e : Nat) (hE : Part.events ∈ P) (hP : Part.pe ∈ P)
    (hR : ∀ a, peReg e a = true → R a = true) : Frame R P s (t.peUnstall e) := by
  unfold State.peUnstall
  dsimp only
  split
  · exact ((h.takeFree hE).peCycles e _ hR).setCore hP _ _
  · exact h

theorem Frame.peSpent (h : Frame R P s t) (e : Nat) (hE : Part.events ∈ P) (hP : Part.pe ∈ P)
    (hR : ∀ a, peReg e a = true → R a = true) : Frame R P s (t.peSpent e) := by
  unfold State.peSpent
  split
  · exact (h.takeFree hE).peCycles e _ hR
  · exact h.peUnstall e hE hP hR

theorem Frame.fetch (h : Frame R P s t) (hA : AllowsEvents R P) (e : Nat)
    (hR : ∀ a, peReg e a = true → R a = true) : Frame R P s (t.fetch e) := by
  unfold State.fetch
  split
  · refine Frame.peCycles (Frame.raiseN (h.countHold _ _ (hR _ ?_)) hA _ _ (by decide)) e _ hR
    apply peReg_of
    simp only [Reg.PE_CTRL, Reg.PE_ECC_COUNT]
    omega
  · exact h

theorem Frame.peFaultAt (h : Frame R P s t) (hA : AllowsEvents R P) (e pc : Nat) (x : PeFault) (hc : x.code < 10)
    (hP : Part.pe ∈ P) (hR : ∀ a, peReg e a = true → R a = true) : Frame R P s (t.peFaultAt e pc x) := by
  have r1 := hR _ (peReg_at e 0x4 (by decide))
  have r2 := hR _ (peReg_at e 0x8 (by decide))
  have r3 := hR _ (peReg_at e 0xc (by decide))
  unfold State.peFaultAt
  refine Frame.noEngine (Frame.raiseN ?_ hA _ _ (by omega)) hA
  refine Frame.setCore (Frame.setRegN (Frame.setRegN (Frame.setFld (h.peSpent e hA.2 hP hR) _ _ _ ?_) _ _ ?_) _ _ ?_) hP _ _
  · simpa [Reg.PE_STATUS, Reg.PE_CTRL, Nat.add_right_comm] using r1
  · simpa [Reg.PE_FAULT, Reg.PE_CTRL, Nat.add_right_comm] using r2
  · simpa [Reg.PE_FAULT_ADDR, Reg.PE_CTRL, Nat.add_right_comm] using r3

theorem Frame.peFault (h : Frame R P s t) (hA : AllowsEvents R P) (e : Nat) (x : PeFault) (hc : x.code < 10)
    (hP : Part.pe ∈ P) (hR : ∀ a, peReg e a = true → R a = true) : Frame R P s (t.peFault e x) :=
  h.peFaultAt hA e _ x hc hP hR

/-- What ends the stall of an engine leaves the files and transfers of every engine. -/
theorem State.core_peSpent (s : State) (e d : Nat) : (s.core d).sameData ((s.peSpent e).core d) := by
  have hc : ∀ (q : State) (n : Nat), (q.peCycles e n).core d = q.core d := fun q n => rfl
  unfold State.peSpent State.peUnstall
  dsimp only
  split
  · exact PeCore.sameData.rfl' _
  · split
    · rw [State.core_setCore]
      split
      · rename_i he
        subst he
        exact PeCore.sameData.rfl' _
      · exact PeCore.sameData.rfl' _
    · exact PeCore.sameData.rfl' _

theorem PeCore.sameData.trans {c u v : PeCore} (h : c.sameData u) (h' : u.sameData v) : c.sameData v := by
  obtain ⟨a1, a2, a3, a4, a5, a6, a7, a8, a9, a10, a11, a12⟩ := h
  obtain ⟨b1, b2, b3, b4, b5, b6, b7, b8, b9, b10, b11, b12⟩ := h'
  exact ⟨b1.trans a1, b2.trans a2, b3.trans a3, b4.trans a4, b5.trans a5, b6.trans a6, b7.trans a7, b8.trans a8,
    b9.trans a9, b10.trans a10, b11.trans a11, b12.trans a12⟩

theorem State.core_peFault (s : State) (e d : Nat) (x : PeFault) (hc : x.code < 10) :
    (s.core d).sameData ((s.peFault e x).core d) := by
  have key : ∀ (q : State) (n w : Nat), n < 320 → ((q.raiseN n w).noEngine).core d = q.core d := by
    intro q n w hn
    have h1 : FrameEv noRegs [] q ((q.raiseN n w).noEngine) :=
      Frame.noEngine (Frame.raiseN Frame.refl (AllowsEvents.ev _ _) n w hn) (AllowsEvents.ev _ _)
    exact Frame.core_eq h1 (by simp) d
  refine (s.core_peSpent e d).trans ?_
  unfold State.peFault State.peFaultAt
  rw [key _ _ _ (by omega), State.core_setCore]
  split
  · rename_i he
    subst he
    exact PeCore.sameData.rfl' _
  · exact PeCore.sameData.rfl' _

/-- The stores of an instruction. -/
theorem Frame.stores (h : Frame R P s t) (l : List (Nat × List Byte)) (h1 : Part.mem ∈ P) (h2 : Part.ecc ∈ P) :
    Frame R P s (l.foldl (fun s p => (s.write p.1 p.2).eccClearW 4 p.1 p.2.length) t) :=
  Frame.foldl _ _ h (fun _ _ _ hu => (hu.write h1 _ _).eccClearW h2 _ _ _)

/-- An instruction that completes changes its engine, the bytes it stores to and its engine's block. -/
theorem Frame.peComplete (s : State) (e : Nat) (w : Writes) :
    FrameEv (peReg e) [.pe, .mem, .ecc] s (s.peComplete e w) := by
  have hA : AllowsEvents (fun a => eventReg a || peReg e a) (.events :: [.pe, .mem, .ecc]) := AllowsEvents.ev _ _
  have hR : ∀ a, Reg.PE_CTRL e ≤ a ∧ a < Reg.PE_CTRL e + 0x100 →
      (fun a => eventReg a || peReg e a) a = true := fun a h => by simp [peReg_of e a h]
  have hst : Reg.PE_CTRL e ≤ Reg.PE_STATUS e ∧ Reg.PE_STATUS e < Reg.PE_CTRL e + 0x100 := by
    simp [Reg.PE_CTRL, Reg.PE_STATUS]; omega
  have r1 := hR _ hst
  have r2 := hR (Reg.PE_SAT_COUNT e) (by simp [Reg.PE_CTRL, Reg.PE_SAT_COUNT]; omega)
  have r3 := hR (Reg.PE_ECC_COUNT e) (by simp [Reg.PE_CTRL, Reg.PE_ECC_COUNT]; omega)
  have r6 := hR (Reg.PE_TRACE e) (by simp [Reg.PE_CTRL, Reg.PE_TRACE]; omega)
  have r7 := hR (Reg.PE_TRACE e + 4) (by simp [Reg.PE_CTRL, Reg.PE_TRACE]; omega)
  unfold State.peComplete FrameEv
  extract_lets c pc hits use stall s0 r c0 c' s1 s2 s3 s4 s5 s6 s7
  have f0 : Frame (fun a => eventReg a || peReg e a) (.events :: [.pe, .mem, .ecc]) s s0 :=
    Frame.ite (Frame.refl.takeFree (by simp)) Frame.refl
  have f1 := f0.setCore (by simp) e c'
  have f2 := f1.stores w.bytes (by simp) (by simp)
  have f3 : Frame (fun a => eventReg a || peReg e a) (.events :: [.pe, .mem, .ecc]) s s3 := by
    show Frame _ _ s (match w.trace with | none => s2 | some t => s2.setReg64 (Reg.PE_TRACE e) t.toNat)
    split
    · exact f2
    · exact f2.setReg64 _ _ r6 r7
  have f4 : Frame (fun a => eventReg a || peReg e a) (.events :: [.pe, .mem, .ecc]) s s4 :=
    Frame.ite (f3.setBit _ _ _ r1) f3
  have f5 : Frame (fun a => eventReg a || peReg e a) (.events :: [.pe, .mem, .ecc]) s s5 :=
    Frame.ite ((f4.setBit _ _ _ r1).countHold _ _ r2) f4
  have f6 : Frame (fun a => eventReg a || peReg e a) (.events :: [.pe, .mem, .ecc]) s s6 :=
    Frame.foldl _ _ f5 (fun _ _ _ hu => (hu.countHold _ _ r3).raiseN hA _ _ (by decide))
  have f7 : Frame (fun a => eventReg a || peReg e a) (.events :: [.pe, .mem, .ecc]) s s7 :=
    (f6.peCycles e _ (fun a ha => by simp [ha])).setFld _ _ _ r1
  split
  · exact f7.setFld _ _ _ r1
  · exact f7.peFault hA e _ (by decide) (by simp) (fun a ha => by simp [ha])

/-- The files and transfers of a core, without its loop state. -/
def PeCore.sameFiles (c u : PeCore) : Prop :=
  u.v = c.v ∧ u.acc = c.acc ∧ u.cf = c.cf ∧ u.a = c.a ∧ u.m = c.m ∧ u.o = c.o ∧ u.xfers = c.xfers ∧ u.crc = c.crc ∧
    u.ended = c.ended ∧ u.task = c.task

theorem PeCore.sameData.files {c u : PeCore} (h : c.sameData u) : c.sameFiles u :=
  ⟨h.1, h.2.1, h.2.2.1, h.2.2.2.1, h.2.2.2.2.1, h.2.2.2.2.2.1, h.2.2.2.2.2.2.1, h.2.2.2.2.2.2.2.1,
    h.2.2.2.2.2.2.2.2.1, h.2.2.2.2.2.2.2.2.2.1⟩

theorem PeCore.sameFiles.trans {c u v : PeCore} (h : c.sameFiles u) (h' : u.sameFiles v) : c.sameFiles v := by
  obtain ⟨a1, a2, a3, a4, a5, a6, a7, a8, a9, a10⟩ := h
  obtain ⟨b1, b2, b3, b4, b5, b6, b7, b8, b9, b10⟩ := h'
  exact ⟨b1.trans a1, b2.trans a2, b3.trans a3, b4.trans a4, b5.trans a5, b6.trans a6, b7.trans a7, b8.trans a8,
    b9.trans a9, b10.trans a10⟩

/-- The engine after an instruction that completes holds what the instruction wrote; the other engines keep what they
hold (R123). -/
theorem State.core_peComplete (s : State) (e d : Nat) (w : Writes) :
    PeCore.sameFiles (if e = d then (s.core e).apply w else s.core d) ((s.peComplete e w).core d) := by
  unfold State.peComplete
  extract_lets c pc hits use stall s0 r c0 c' s1 s2 s3 s4 s5 s6 s7
  have h1 : PeCore.sameFiles (if e = d then (s.core e).apply w else s.core d) (s1.core d) := by
    rw [State.core_setCore]
    split
    · rename_i he
      subst he
      obtain ⟨a1, a2, a3, a4, a5, a6, a7, a8, a9, a10⟩ := flowRun_keep (c.apply w) pc w.flow
      exact ⟨a1, a2, a3, a4, a5, a6, a7, a8, a9, a10⟩
    · have h0 : s0.pe = s.pe := by
        by_cases hh : hits = true
        · simp [s0, hh]
        · simp [s0, hh]
      rw [State.core_congr h0]
      exact (PeCore.sameData.rfl' _).files
  have hF : FrameEv (fun _ => true) [.mem, .ecc] s1 s7 := by
    have hA : AllowsEvents (fun a => eventReg a || true) (.events :: [.mem, .ecc]) := AllowsEvents.ev _ _
    have f2 : FrameEv (fun _ => true) [.mem, .ecc] s1 s2 := Frame.stores Frame.refl w.bytes (by simp) (by simp)
    have f3 : FrameEv (fun _ => true) [.mem, .ecc] s1 s3 := by
      show FrameEv _ _ s1 (match w.trace with | none => s2 | some t => s2.setReg64 (Reg.PE_TRACE e) t.toNat)
      split
      · exact f2
      · exact Frame.setReg64 f2 _ _ (by simp) (by simp)
    have f4 : FrameEv (fun _ => true) [.mem, .ecc] s1 s4 := Frame.ite (Frame.setBit f3 _ _ _ (by simp)) f3
    have f5 : FrameEv (fun _ => true) [.mem, .ecc] s1 s5 :=
      Frame.ite (Frame.countHold (Frame.setBit f4 _ _ _ (by simp)) _ _ (by simp)) f4
    have f6 : FrameEv (fun _ => true) [.mem, .ecc] s1 s6 :=
      Frame.foldl _ _ f5 (fun _ _ _ hu => (hu.countHold _ _ (by simp)).raiseN hA _ _ (by decide))
    exact Frame.setFld (f6.peCycles e _ (by simp)) _ _ _ (by simp)
  have h7 : s7.core d = s1.core d := Frame.core_eq hF (by simp) d
  rw [← h7] at h1
  refine h1.trans ?_
  split
  · exact (PeCore.sameData.rfl' _).files
  · exact (s7.core_peFault e d ⟨5, 0, 0⟩ (by decide)).files

/-- An instruction without a fault completes with its writes, once it has been fetched. -/
theorem State.peIssue_eq (s : State) (e : Nat) (f : InstrFields) (slots : Bool) (op : PeCore → PeRes) (w : Writes)
    (hi : s.peIssues e = true) (hf : s.fetchBad e = false) (hw : op (s.core e) = .ok w)
    (hs : ∀ r ∈ s.slotResults e f slots, r.faults = [])
    (hd : hasRepeat (w.dests ++ (if slots then slotDests (s.core e) f.lmask (xSlot f) ++
      slotDests (s.core e) f.lmask (ySlot f) else [])) = false) :
    s.peIssue e f slots op = (s.fetch e).peComplete e (s.peWrites e f slots (.ok w)) := by
  have h1 : s.peFaults e f slots (.ok w) = [] := by
    simp only [State.peFaults, State.writesTwice, PeRes.faults, PeRes.writes, List.nil_append, hd]
    rw [List.flatMap_eq_nil_iff.2 hs]
    rfl
  unfold State.peIssue
  rw [if_pos hi, hf, hw]
  simp only [Bool.false_eq_true, if_false]
  rw [h1]

end Sys2Proof.Machine
end

