-- ==== Sys2Proof/Laws/Time.lean ====
section
/-! SUPPORT. The laws of the time unit's shared operations. -/

namespace Sys2Proof.Machine

variable {R : Nat → Bool} {P : List Part} {s t u : State}

theorem ptWrap_pos : 0 < ptWrap := by decide

/-- TIME_NOW reads as it was written. -/
theorem State.now_setNow (s : State) (n : Nat) (h : n < ptWrap) : (s.setNow n).now = n := by
  have hr : (s.setNow n).regN Reg.TIME_NOW = n % 2 ^ 32 ∧
      (s.setNow n).regN (Reg.TIME_NOW + 4) = n / nsUnit % 1000000000 % 2 ^ 32 ∧
      (s.setNow n).regN (Reg.TIME_NOW + 8) = n / secUnit % 2 ^ 32 ∧
      (s.setNow n).regN (Reg.TIME_NOW + 12) = n / secUnit / 2 ^ 32 % 2 ^ 16 % 2 ^ 32 := by
    simp [State.regN, State.setNow, Reg.TIME_NOW]
  obtain ⟨h0, h1, h2, h3⟩ := hr
  simp only [State.now, h0, h1, h2, h3, nsUnit, secUnit, ptWrap] at *
  omega

theorem State.now_congr (s t : State) (h : ∀ a, inRange 0x200010 0x200020 a = true → t.reg a = s.reg a) :
    t.now = s.now := by
  simp only [State.now, State.regN]
  rw [h _ (by decide), h _ (by decide), h _ (by decide), h _ (by decide)]

/-- A frame that does not name TIME_NOW keeps PT. -/
theorem Frame.now_eq (h : Frame R P s t) (hR : ∀ a, inRange 0x200010 0x200020 a = true → R a = false) : t.now = s.now :=
  State.now_congr _ _ (fun a ha => h.1 a (hR a ha))

theorem FrameEv.now_eq (h : FrameEv R P s t) (hR : ∀ a, inRange 0x200010 0x200020 a = true → R a = false) :
    t.now = s.now :=
  Frame.now_eq h (fun a ha => by
    have := hR a ha
    simp only [inRange, eventReg, Bool.and_eq_true, decide_eq_true_eq] at *
    simp [this]
    omega)

theorem Frame.setNow (h : Frame R P s t) (n : Nat) (hR : ∀ a, inRange 0x200010 0x200020 a = true → R a = true) :
    Frame R P s (t.setNow n) :=
  (((h.setRegN _ _ (hR _ (by decide))).setRegN _ _ (hR _ (by decide))).setRegN _ _ (hR _ (by decide))).setRegN _ _
    (hR _ (by decide))

theorem State.setNowInt_eq (s : State) (n : Nat) (h : n < ptWrap) : s.setNowInt (n : Int) = s.setNow n := by
  unfold State.setNowInt
  rw [if_pos (by omega)]
  simp

theorem Frame.setPulse (h : Frame R P s t) (n : Nat) (p : Pulse) (hP : Part.time ∈ P)
    (hR : R (Reg.TIME_PULSE_CTRL n) = true) : Frame R P s (t.setPulse n p) :=
  Frame.setBit (h.time hP _ (by rfl)) _ _ _ hR

theorem Frame.pulseJump (h : Frame R P s t) (hA : AllowsEvents R P) (pt : Int) (n : Nat) (hn : n < 4)
    (hP : Part.time ∈ P) (hR : R (Reg.TIME_PULSE_CTRL n) = true) : Frame R P s (t.pulseJump pt n) := by
  unfold State.pulseJump
  dsimp only
  split
  · split
    · exact Frame.raiseN (h.setPulse _ _ hP hR) hA _ _ (by omega)
    · exact Frame.raiseN (h.setPulse _ _ hP hR) hA _ _ (by omega)
  · exact h

theorem Frame.pulseJumps (h : Frame R P s t) (hA : AllowsEvents R P) (b : Bool) (pt : Int) (hP : Part.time ∈ P)
    (hR : ∀ a, inRange 0x200080 0x200100 a = true → R a = true) :
    Frame R P s (if b then [0, 1, 2, 3].foldl (fun s n => s.pulseJump pt n) t else t) := by
  cases b
  · exact h
  · simp only [List.foldl, if_true]
    have h0 := Frame.pulseJump h hA pt 0 (by decide) hP (hR _ (by decide))
    have h1 := Frame.pulseJump h0 hA pt 1 (by decide) hP (hR _ (by decide))
    have h2 := Frame.pulseJump h1 hA pt 2 (by decide) hP (hR _ (by decide))
    exact Frame.pulseJump h2 hA pt 3 (by decide) hP (hR _ (by decide))

theorem Frame.shiftCaps (h : Frame R P s t) (d : Int) (hP : Part.time ∈ P) : Frame R P s (t.shiftCaps d) :=
  h.time hP _ (by rfl)

/-- A step to a PT writes TIME_NOW, raises STEP_DONE, and touches nothing else but pulses (R31, R32). -/
theorem State.stepTo_spec (s : State) (x : Nat) (hx : x < ptWrap) :
    (s.stepTo x).now = x ∧ (s.tally.silent = false → (s.stepTo x).shown 70) ∧
      FrameEv (fun a => inRange 0x200010 0x200020 a || inRange 0x200080 0x200100 a) [.time] s (s.stepTo x) := by
  unfold State.stepTo
  rw [s.setNowInt_eq x hx]
  extract_lets fwd s0 s1 q
  have hP : FrameEv (inRange 0x200080 0x200100) [.time] (s.setNow x) q :=
    Frame.pulseJumps (Frame.shiftCaps Frame.refl _ (by simp)) (AllowsEvents.ev _ _) _ _ (by simp) (fun a h => by simp [h])
  clear_value q
  have hN : FrameEv (fun a => inRange 0x200010 0x200020 a || inRange 0x200080 0x200100 a) [.time] s (s.setNow x) :=
    Frame.setNow Frame.refl x (fun a h => by simp [h])
  refine ⟨?_, fun hq => State.raiseN_shown _ _ _ (by decide) ?_, ?_⟩
  · have h2 : FrameEv (inRange 0x200080 0x200100) [.time] (s.setNow x) (q.raiseN 70 0) :=
      Frame.raiseN hP (AllowsEvents.ev _ _) _ _ (by decide)
    rw [h2.now_eq (fun a ha => by simp [inRange] at *; omega), s.now_setNow x hx]
  · rw [Frame.silent_eq hP (by simp), Frame.silent_eq hN (by simp), hq]
  · refine Frame.raiseN (hN.trans (hP.mono ?_ ?_)) (AllowsEvents.ev _ _) _ _ (by decide)
    · intro a ha
      simp at ha ⊢
      tauto
    · simp

theorem Frame.setInteg (h : Frame R P s t) (p i : Int) (hP : Part.time ∈ P) (hR : R Reg.TIME_SERVO_INTEG = true) :
    Frame R P s (t.setInteg p i) := Frame.time (h.setReg _ _ hR) hP _ (by rfl)

theorem Frame.clearRuns (h : Frame R P s t) (hP : Part.time ∈ P) : Frame R P s t.clearRuns := h.time hP _ (by rfl)

theorem Frame.setServo (h : Frame R P s t) (c : Nat) (hR : R Reg.TIME_STATUS = true) : Frame R P s (t.setServo c) :=
  h.setFld _ _ _ hR

theorem Frame.syncIncr (h : Frame R P s t) (h1 : R Reg.TIME_INCR_EFF = true) (h2 : R (Reg.TIME_INCR_EFF + 4) = true) :
    Frame R P s t.syncIncr := h.setReg64 _ _ h1 h2

theorem Frame.setAdj (h : Frame R P s t) (a : Int) (h0 : R Reg.TIME_SERVO_ADJ = true) (h1 : R Reg.TIME_INCR_EFF = true)
    (h2 : R (Reg.TIME_INCR_EFF + 4) = true) : Frame R P s (t.setAdj a) := Frame.syncIncr (h.setReg _ _ h0) h1 h2

theorem Frame.toAcquire (h : Frame R P s t) (hP : Part.time ∈ P) (hR : R Reg.TIME_STATUS = true) :
    Frame R P s t.toAcquire := Frame.clearRuns (h.setServo 1 hR) hP

/-- A sample that is used changes TIME_SERVO_THETA and what is in flight. -/
theorem Frame.useSample (h : Frame R P s t) (hA : AllowsEvents R P) (theta : Int) (hP : Part.time ∈ P)
    (hR : R Reg.TIME_SERVO_THETA = true) : Frame R P s (t.useSample theta) := by
  unfold State.useSample
  refine Frame.ite (Frame.raise ?_ hA 69 _ (by decide)) ?_
  · exact Frame.time (h.setReg _ _ hR) hP _ (by rfl)
  · exact Frame.time (h.setReg _ _ hR) hP _ (by rfl)

theorem Frame.pulseOff (h : Frame R P s t) (n : Nat) (hP : Part.time ∈ P) (hR : R (Reg.TIME_PULSE_CTRL n) = true) :
    Frame R P s (t.pulseOff n) := h.setPulse n _ hP hR

theorem Frame.writeWord (h : Frame R P s t) (a : Nat) (w : Word) (ha : R a = true) : Frame R P s (t.writeWord a w) := by
  unfold State.writeWord
  split
  · exact h
  · exact h.setReg _ _ ha

@[simp] theorem State.pulse_setPulse (s : State) (n : Nat) (p : Pulse) : (s.setPulse n p).pulse n = p := by
  simp [State.setPulse, State.pulse]

theorem State.reg_setAdj (s : State) (a : Int) (b : Nat) :
    (s.setAdj a).reg b = if Reg.TIME_INCR_EFF + 4 = b then
        BitVec.ofNat 32 (lowInt 40 ((s.reg64 Reg.TIME_INCR_NOM : Nat) + (wordOfInt a).toInt) / 2 ^ 32)
      else if Reg.TIME_INCR_EFF = b then BitVec.ofNat 32 (lowInt 40 ((s.reg64 Reg.TIME_INCR_NOM : Nat) + (wordOfInt a).toInt))
      else if Reg.TIME_SERVO_ADJ = b then wordOfInt a else s.reg b := by
  unfold State.setAdj State.syncIncr
  have e1 : (s.setReg Reg.TIME_SERVO_ADJ (wordOfInt a)).adj = (wordOfInt a).toInt := by simp [State.adj]
  have e2 : (s.setReg Reg.TIME_SERVO_ADJ (wordOfInt a)).reg64 Reg.TIME_INCR_NOM = s.reg64 Reg.TIME_INCR_NOM := by
    simp [State.reg64, State.regN, Reg.TIME_SERVO_ADJ, Reg.TIME_INCR_NOM]
  rw [e1, e2, State.reg_setReg64]
  simp

end Sys2Proof.Machine
end

