-- ==== Sys2Proof/Tests/Slice0.lean ====
section
/-! SUPPORT. Tests: the refusals of WellFormed, and single commands against the worked examples and rules of the manual. -/

namespace Sys2Proof.Tests

open Sys2Proof.Machine

set_option Elab.async false

/-- The state after a command. -/
def after (c : Instr) (s : State) : State :=
  match exec c s with
  | .next t => t
  | _ => s

/-- Engine 0 runs a task with the given core. -/
def engine (c : PeCore) : State := { ({} : State).setFld (Reg.PE_STATUS 0) Fld.PE_STATUS_STATE 2 with pe := [(0, c)] }

/-- The core of engine 0 after a command. -/
def coreAfter (c : Instr) (k : PeCore) : PeCore := (after c (engine k)).core 0

/-- Quire 5 with two 8-byte entries and n entries in it. -/
def quire5 (n : Nat) : State :=
  ((((({} : State).setBit (Reg.QUIRE_CFG 5) Fld.QUIRE_CFG_EN true).setFld (Reg.QUIRE_CFG 5) Fld.QUIRE_CFG_DEPTH 2).setReg
    (Reg.QUIRE_BASE 5) 0x10000000).setFld (Reg.QUIRE_COUNT 5) Fld.QUIRE_COUNT_COUNT n)

/-! ### WellFormed -/

/-- A register access off its word is refused (R7), in each of the five rows. -/
theorem test_ill_formed_registers : Instr.wellFormed (.registerWrite .host 2 0) = false ∧
    Instr.wellFormed (.wideReadWord0 .host 1) = false ∧ Instr.wellFormed (.wideReadHigh .host 6) = false ∧
    Instr.wellFormed (.wideWriteHigh .host 7 0) = false ∧ Instr.wellFormed (.wideWriteWord0 .host 9 0) = false := by decide

/-- An engine memory write off its word, below and above the engines' windows is refused (R108). -/
theorem test_ill_formed_engine_memory : Instr.wellFormed (.peMemoryWrite .cpa 0x04000002 0xF 0) = false ∧
    Instr.wellFormed (.peMemoryWrite .cpa 0x03FFFFFC 0xF 0) = false ∧
    Instr.wellFormed (.peMemoryWrite .cpa 0x05000000 0xF 0) = false := by decide

/-- An entry of no size of R447 is refused, pushed and popped. -/
theorem test_ill_formed_quire : Instr.wellFormed (.quirePush 0 [] false) = false ∧
    Instr.wellFormed (.quirePush 0 [(13, List.replicate 24 0)] false) = false ∧ Instr.wellFormed (.quirePop 0 []) = false ∧
    Instr.wellFormed (.quirePop 0 [(13, 128)]) = false := by decide

/-- A felt block without a header is refused (R466); a frame of any length is not, but counts as a runt (R321). -/
theorem test_ill_formed_frames : Instr.wellFormed (.frameReceive 0 ⟨[], true, false⟩) = true ∧
    Instr.wellFormed (.feltBlockReceive 0 (List.replicate 15 0)) = false := by decide

/-- An input block of 15 channels, and one with a channel of 7 samples, are refused (R512). -/
theorem test_ill_formed_block : Instr.wellFormed (.ainBlock 0 (List.replicate 15 (List.replicate 8 0)) 0) = false ∧
    Instr.wellFormed (.ainBlock 0 (List.replicate 15 (List.replicate 8 0) ++ [List.replicate 7 0]) 0) = false := by decide

/-- A ledger write of no bytes or more than 4 096, and a host access of 0 or 65 words, are refused (R401, R621). -/
theorem test_ill_formed_lengths : Instr.wellFormed (.ledgerWrite .boot 0 []) = false ∧
    Instr.wellFormed (.ledgerWrite .boot 0 (List.replicate 4097 0)) = false ∧
    Instr.wellFormed (.hostRead (.bar0 0) 0 []) = false ∧ Instr.wellFormed (.hostRead (.bar0 0) 65 []) = false ∧
    Instr.wellFormed (.hostWrite (.bar0 0) [] []) = false ∧
    Instr.wellFormed (.hostWrite (.bar0 0) (List.replicate 65 0) []) = false := by
  decide +kernel

/-- Codes outside their ranges are refused: 17 issued words, link causes 0 and 4, link speeds 0 and 5, link widths 0 and 3, and
the refresh multiplier 3 (R636, R641, R445). -/
theorem test_ill_formed_codes : Instr.wellFormed (.qspiCsRise 0 false 17) = false ∧
    Instr.wellFormed (.hostLinkDown 0) = false ∧ Instr.wellFormed (.hostLinkDown 4) = false ∧
    Instr.wellFormed (.hostLinkUp 0 1) = false ∧ Instr.wellFormed (.hostLinkUp 5 1) = false ∧
    Instr.wellFormed (.hostLinkUp 1 0) = false ∧ Instr.wellFormed (.hostLinkUp 1 3) = false ∧
    Instr.wellFormed (.dramRefreshPoll 0 3) = false := by decide

/-! ### Addresses and instants -/

/-- The worked example of chapter 1: offset 0x40 of the QUIRE block of device 5. -/
theorem test_management_address : mgmtOk 0x1403100040 = true ∧ mgmtDev 0x1403100040 = 5 ∧
    mgmtLocal 0x1403100040 = 0x03100040 := by decide

/-- The worked example of chapter 3: the first folio boundary at or after 1 750 000 000 s + 500 000 100 ns at 96 kHz. -/
theorem test_folio_boundary : edgePt 96000 168000000048008 =
    0x684EE180 * secUnit + 0x1DCEAA85 * nsUnit + 0x55555555 ∧
    sampleAt 96000 (1750000000 * secUnit + 500000100 * nsUnit) / 8 = 21000000006000 := by decide

/-- The worked example of chapter 3 at 44.1 kHz: in an odd second the first boundary is sample 4 of that second. -/
theorem test_boundary_odd_second : 1750000001 * 44100 % 8 = 4 ∧
    (edgePt 44100 (1750000001 * 44100 + 4) - 1750000001 * secUnit) / nsUnit = 90702 := by decide

/-! ### Presentation time and clocks -/

/-- The servo of the worked example: LOCKED, the integral part at +40.0 LSB. -/
def servoState : State :=
  { ({} : State).setFld Reg.TIME_STATUS Fld.TIME_STATUS_SERVO_STATE 2 with time := { i := 40 * 256 } }

/-- A sample of +300 ns (worked example of chapter 3): the integral part 115.0 LSB and adj −1 727 LSB. -/
theorem test_servo_update : (after (.servoOffsetSample .cpa 19660800) servoState).time.out.map (fun o => (o.i, o.adj)) =
    [(115 * 256, -1727)] := by decide +kernel

/-- The same example: once the result is applied, TIME_INCR_EFF is 0x01_3FFF_F941. -/
theorem test_servo_increment : (after .servoAdjApply (after (.servoOffsetSample .cpa 19660800) servoState)).reg64
    Reg.TIME_INCR_EFF = 0x013FFFF941 := by decide +kernel

/-- TIME_NOW advances by the nominal increment 1.25 ns at a tick (R28). -/
theorem test_tick : (after .tuClkTick {}).now = 5 * 2 ^ 30 := by decide +kernel

/-- A step back by 1 ns from 2 ns, at the next tick with its increment of 1.25 ns: 2.25 ns (R28, R30). -/
theorem test_step_back : (after .tuClkTick (after (.step false) (((({} : State).setNow (2 * nsUnit)).setReg
    (Reg.TIME_ADJ + 4) 1).setReg (Reg.TIME_ADJ + 12) 0x80000000))).now = 9 * 2 ^ 30 := by decide +kernel

/-- The OUT5 value of the worked example of chapter 4: EN 1, DELAY 0x14, DIV 400. -/
theorem test_out_cfg : Fld.SYNTH_OUT_CFG_EN.get 0x01140190 = 1 ∧ Fld.SYNTH_OUT_CFG_DELAY.get 0x01140190 = 20 ∧
    Fld.SYNTH_OUT_CFG_DIV.get 0x01140190 = 400 := by decide

/-! ### Engines -/

/-- The square of the most negative word is +1.0, without loss (R109). -/
theorem test_mpy : (coreAfter (.mpy 0 ⟨1, 2, 0, 1, 0, 0x01C001C0⟩) { v := [(0, 0x80000000), (1, 0x80000000)] }).ac 0 2 =
    2 ^ 63 := by decide +kernel

/-- MSU takes twice the product of the words from the accumulator: 3 − 4 (R109, R110). -/
theorem test_msu : (coreAfter (.msu 0 ⟨1, 0, 0, 1, 0, 0x01C001C0⟩) { v := [(0, 1), (1, 2)], acc := [(0, 3)] }).ac 0 0 = -1 := by
  decide +kernel

/-- ADDS limits at the largest word (R113). -/
theorem test_adds : (coreAfter (.adds 0 ⟨1, 2, 0, 1, 0, 0x01C001C0⟩) { v := [(0, 0x7FFFFFFF), (1, 1)] }).vr 0 2 = 0x7FFFFFFF ∧
    (after (.adds 0 ⟨1, 2, 0, 1, 0, 0x01C001C0⟩) (engine { v := [(0, 0x7FFFFFFF), (1, 1)] })).reg64 (Reg.PE_SAT_COUNT 0) =
      1 := by decide +kernel

/-- ADD wraps (R112). -/
theorem test_add : (coreAfter (.add 0 ⟨1, 2, 0, 1, 0, 0x01C001C0⟩) { v := [(0, 0x7FFFFFFF), (1, 1)] }).vr 0 2 = 0x80000000 := by
  decide +kernel

/-- The compares are signed and write CF of the enabled lanes alone (R119). -/
theorem test_cmplt : (coreAfter (.cmplt 0 ⟨2, 0, 0, 1, 0, 0x01C001C0⟩) { v := [(16, 0x80000000)], cf := 1 }).cf = 3 := by
  decide +kernel

/-- Metrics and branch metrics of the worked example of chapter 5, lane 0. -/
def butterflies : PeCore :=
  { v := [(4, 1000), (5, 1100), (6, 0xFFFFFF38), (7, 0xFFFFFF4C), (8, 0xFFD80096)] }

/-- The two butterflies of lane 0 in the worked example of chapter 5. -/
theorem test_acs_lane0 : [12, 13, 14, 15].map ((coreAfter (.acsMax 0 ⟨1, 12, 4, 8, 0, 0x01C001C0⟩) butterflies).vr 0) =
    [0x47E, 0xFFFFFF74, 0x4E2, 0xFFFFFF60] := by decide +kernel

/-- The larger metric wins across the wrap (lane 1 of the same example). -/
theorem test_acs_wrap : (coreAfter (.acsMax 0 ⟨2, 12, 4, 8, 0, 0x01C001C0⟩)
    { v := [(20, 0x7FFF00), (21, 0x7FFE00), (24, 512)] }).vr 1 12 = 0xFF800100 := by decide +kernel

/-- The addresses of the worked example of bit-reversed addressing. -/
theorem test_bit_reversed : (List.range 9).map (fun n => (List.range n).foldl (fun a _ => revStep a 2 0x10) 0x2000) =
    [0x2000, 0x2010, 0x2008, 0x2018, 0x2004, 0x2014, 0x200C, 0x201C, 0x2000] := by decide +kernel

/-- An engine that faults keeps its registers (R155): MPY into an accumulator beyond 3. -/
theorem test_fault : (after (.mpy 0 ⟨1, 4, 0, 1, 0, 0x01C001C0⟩) (engine {})).peState 0 = 4 := by decide +kernel

/-! ### Mixing, clauses, streams, redundancy -/

/-- Scales of a POWER bus in the worked example of chapter 7, for 3 and for 4 contributors. -/
theorem test_power_scale : targetScale 2 3 0 = 1239850262 ∧ targetScale 2 4 0 = 0x40000000 := by decide +kernel

/-- The mixed lane map of the worked example of chapter 9 is legal; a wide port on an odd lane is not (R306). -/
theorem test_port_map : mapValid 0x5203 = true ∧ mapValid 0x8 = false := by decide

/-- The pairs of claims of the worked example of chapter 12. -/
theorem test_claims : claimHigher 0x07C00012 0x07400013 = true ∧ claimHigher 0x08400012 0x07C00013 = true ∧
    claimHigher 0x00C00013 0xFFC00012 = true ∧ claimHigher 0x88400013 0x08C00012 = false := by decide

/-- The deckle codes before the swap in the worked example of chapter 12. -/
theorem test_deckle_codes : (({} : State).setReg Reg.REDUN_CLAIM 0x07C00012 |>.setFld Reg.REDUN_UNIT
    Fld.REDUN_UNIT_UNIT_ID 0x12).deckleCode = 0b11110 ∧ deckleWins 0b11110 (some 0b01111) = true ∧
    deckleWins 0b01111 (some 0b11110) = false := by decide +kernel

/-- The second entry of a quire at depth 2 goes behind the first, and a third is refused and counted (R431, R432). -/
theorem test_quire_push : ((after (.quirePush 5 [(13, [1, 2, 3, 4, 5, 6, 7, 8])] false) (quire5 1)).read 0x10000008 8 =
    [1, 2, 3, 4, 5, 6, 7, 8]) ∧ (after (.quirePush 5 [(13, [1, 2, 3, 4, 5, 6, 7, 8])] false) (quire5 2)).quireCount 5 = 2 := by
  decide +kernel

/-- A pop takes the head away (R433). -/
theorem test_quire_pop : (after (.quirePop 5 [(13, 8)]) (quire5 2)).quireCount 5 = 1 ∧
    (after (.quirePop 5 [(13, 8)]) (quire5 0)).quireCount 5 = 0 := by decide +kernel

/-! ### Analogue, tally, host -/

/-- The record of the worked example of chapter 14: OFF and G at a temperature difference of 95. -/
theorem test_calibration : CalRec.off ⟨832, 5, 0xFFFFB000, 0x80060000, 96, 0xFFD8, 0⟩ 95 = -19910 ∧
    CalRec.g ⟨832, 5, 0xFFFFB000, 0x80060000, 96, 0xFFD8, 0⟩ 95 = 2147873064 := by decide

/-- A cause bit raised in the cycle of its clear stays set; another one clears (R556). -/
theorem test_cause_clear : (after (.evggCauseClear 2 0xFF 0x0F) (({} : State).setReg (Reg.EVG_CAUSE 2) 0xF3)).reg
    (Reg.EVG_CAUSE 2) = 0x03 := by decide +kernel

/-- RESET_N high with MODE not 0 is the one stop of the model (R645); with MODE 0 the device starts. -/
theorem test_test_mode : exec (.resetNRise 0 1) {} = .fault .testMode ∧ (∃ t, exec (.resetNRise 0 0) {} = .next t ∧
    t.power = .held) := ⟨rfl, _, rfl, by decide +kernel⟩

/-- A device that runs, with the quad-SPI link in use. -/
def hostSpi : State := { ({} : State).setBit Reg.HOST_STATUS Fld.HOST_STATUS_IF true with power := .running }

/-- A host write of the TIME block before the release changes nothing and is answered with cause 2 (R594). -/
theorem test_host_barred : (after (.hostWrite (.qspi 0x80 0x200020) [5] []) hostSpi).host.cause = 2 ∧
    (after (.hostWrite (.qspi 0x80 0x200020) [5] []) hostSpi).reg 0x200020 = regReset 0x200020 := by decide +kernel

/-- An empty queue idles, and the queue serves its oldest command (log entry 10). -/
theorem test_queue : step {} = .next {} ∧ (∃ t, step { pending := [.tuClkTick, .step false] } = .next t ∧
    t.pending = [.step false]) := ⟨rfl, _, rfl, rfl⟩

end Sys2Proof.Tests
end

