-- ==== Sys2Proof/Tests/Witness.lean ====
section
/-! SUPPORT. Witnesses: for every clause of an obligation that has hypotheses, a concrete state and operands that meet
them all together, mostly at a boundary of their range. -/

namespace Sys2Proof.Tests

set_option linter.unusedVariables false
set_option Elab.async false

open Sys2Proof.Machine

/-- The state right after reset; the base of the witnesses. -/
def w0 : State := {}

/-- A device that runs. -/
def wRun : State := { power := .running }

/-- A device that runs with the quad-SPI link. -/
def wSpi : State := wRun.setBit Reg.HOST_STATUS Fld.HOST_STATUS_IF true

/-- A device whose PCI Express link is up. -/
def wLink : State := w0.setBit Reg.HOST_STATUS Fld.HOST_STATUS_LINK true

/-- BOOT in a state. -/
def wSt (n : Nat) : State := w0.setFld Reg.BOOT_STATUS Fld.BOOT_STATUS_STATE n

/-- BOOT held, with the clock locked and the memories cleared. -/
def wBoot : State :=
  { w0 with boot := { cleared := true } }.setBit Reg.SYNTH_SYS_STATUS Fld.SYNTH_SYS_STATUS_SYS_LOCK true

/-- Engine 0 runs a task. -/
def wPe : State := w0.setFld (Reg.PE_STATUS 0) Fld.PE_STATUS_STATE 2

/-- An instruction on lane 0 whose slots do nothing. -/
def fNop : InstrFields := ⟨1, 0, 0, 0, 0, 0x01C001C0⟩

/-- A lane in a state. -/
def wLane (l n : Nat) : State := w0.setFld (Reg.FAB_LANE_STATUS l) Fld.FAB_LANE_STATUS_STATE n

/-- Port 7 up and receiving. -/
def wMac : State :=
  (w0.setBit (Reg.MAC_STATUS 7) Fld.MAC_STATUS_LINK true).setBit (Reg.MAC_CTRL 7) Fld.MAC_CTRL_RX_EN true

/-- A frame of a queue. -/
def fr : QFrame := ⟨[], false, 0, 0, 0, .pause, true, 0, 0, 0, []⟩

/-- A transaction of engine 0. -/
def tx (b : Nat) : Txn := ⟨.pc 0, b, 0x10000000, 16, false, 0, 0, 7, 0, none⟩

/-- A unit of a pair. -/
def wPair : State := w0.setBit Reg.REDUN_CTRL Fld.REDUN_CTRL_PAIR true

/-- A standby of a pair whose first felt lane is up. -/
def wFelt : State :=
  (wPair.setFld Reg.REDUN_STATUS Fld.REDUN_STATUS_FELT 1).setFld (Reg.FAB_LANE_STATUS 8) Fld.FAB_LANE_STATUS_STATE 4

/-- An EPOCH frame of epoch 1, in force at second 1. -/
def hEp : List Byte :=
  [3] ++ List.replicate 15 0 ++ [1] ++ List.replicate 6 0 ++ [1] ++ List.replicate 7 0 ++ [1] ++ List.replicate 4 0

/-- A quire of two 8-byte entries with n entries in it. -/
def wQ (q n : Nat) : State :=
  (((w0.setBit (Reg.QUIRE_CFG q) Fld.QUIRE_CFG_EN true).setFld (Reg.QUIRE_CFG q) Fld.QUIRE_CFG_DEPTH 2).setReg
    (Reg.QUIRE_BASE q) 0x10000000).setFld (Reg.QUIRE_COUNT q) Fld.QUIRE_COUNT_COUNT n

/-- A control descriptor of a 60-byte buffer that waits in quire 0. -/
def wTx : State :=
  { ((((w0.setBit (Reg.QUIRE_CFG 0) Fld.QUIRE_CFG_EN true).setFld (Reg.QUIRE_CFG 0) Fld.QUIRE_CFG_DEPTH 2).setFld
    (Reg.QUIRE_CFG 0) Fld.QUIRE_CFG_ESIZE 1).setReg (Reg.QUIRE_BASE 0) 0x10000000).setFld (Reg.QUIRE_COUNT 0)
    Fld.QUIRE_COUNT_COUNT 1 with mem := [(0x10000001, 16), (0x10000003, 16), (0x10000004, 60)] }

/-- A serial port in a state. -/
def wSap (n : Nat) : State := w0.setFld (Reg.SAP_STATUS 31) Fld.SAP_STATUS_STATE n

/-- An analogue output in a state. -/
def wOut (o n : Nat) : State := w0.setFld (Reg.AOUT_OUT_STATUS o) Fld.AOUT_OUT_STATUS_STATE n

/-- The housekeeping ADC enabled. -/
def wHadc : State := w0.setBit Reg.HADC_CTRL Fld.HADC_CTRL_EN true

/-- Memory without ECC errors holds no word in error. -/
theorem rmwBad_noEcc (s : State) (a n : Nat) (h : s.ecc = []) : s.rmwBad a n = false := by
  simp [State.rmwBad, State.eccBad, State.eccWords, h]

/-- A relayed request that waits for its response. -/
def rq (tag : Nat) : RelayReq := ⟨tag, 0, 63, 0, 1, false, [], true, false, [], 0, false⟩

/-- A relay frame with the given words. -/
def rf (bs : List Byte) : List Byte := List.replicate 14 0 ++ bs

/-- The hypotheses of StepRunsFront can be met. -/
theorem witness_StepRunsFront :
    (∃ (c : Instr) (rest : List Instr) (s : State), s.pending = c :: rest) ∧
    (∃ (s : State), s.pending = []) :=
  ⟨⟨.step false, [], {w0 with pending := [.step false]}, rfl⟩,
   ⟨w0, by decide +kernel⟩⟩

/-- The hypotheses of ResetState can be met. -/
theorem witness_ResetState :
    (∃ (r : Nat × Nat × Nat × Nat × Nat) (i : Nat), r ∈ resetTable ∧ i < r.2.1) ∧
    (∃ (a : Nat), a ≠ Reg.GLOBAL_ID ∧ ∀ r ∈ resetTable, ∀ i < r.2.1, a ≠ r.1 + r.2.2.1 * i) :=
  ⟨⟨_, 0, ⟨List.mem_cons_self, by decide⟩⟩,
   ⟨1, by decide +kernel⟩⟩

/-- The hypotheses of CanonicalKept can be met. -/
theorem witness_CanonicalKept :
    ∃ (s : State) (t : State), s.canonical = true ∧ step s = .next t :=
  ⟨{w0 with pending := [.tuClkTick]}, _, ⟨by decide +kernel, rfl⟩⟩

/-- The hypotheses of CounterAndTimeControl can be met. -/
theorem witness_CounterAndTimeControl :
    (∃ (s : State), s.time.cmds = []) ∧
    (∃ (m : RegMaster) (data : Word) (s : State), s.hostBarred m Reg.TIME_INCR_NOM = true) ∧
    (∃ (m : RegMaster) (data : Word) (s : State), s.hostBarred m Reg.TIME_INCR_NOM = false ∧ s.servo = 0) ∧
    (∃ (m : RegMaster) (data : Word) (s : State), s.hostBarred m Reg.TIME_INCR_NOM = false ∧ s.servo ≠ 0 ∧ s.tally.silent =
      false) :=
  ⟨⟨w0, by decide +kernel⟩,
   ⟨.host, 0, w0, by decide +kernel⟩,
   ⟨.cpa, 0, w0, by decide +kernel⟩,
   ⟨.cpa, 0, w0.setFld Reg.TIME_STATUS Fld.TIME_STATUS_SERVO_STATE 1, by decide +kernel⟩⟩

/-- The hypotheses of StepAndSet can be met. -/
theorem witness_StepAndSet :
    (∃ (s : State) (c : Instr), (c = Instr.step true ∨ c = Instr.set true) ∧ s.tally.silent = false) ∧
    (∃ (s : State), s.time.cmds = [TimeCmd.set] ∧ s.audio = false ∧ s.regN (Reg.TIME_ADJ + 4) < 1000000000 ∧ s.tally.silent =
      false) ∧
    (∃ (s : State) (c : TimeCmd), s.time.cmds = [c] ∧ s.tally.silent = false ∧ (s.audio = true ∨ 1000000000 ≤ s.regN
      (Reg.TIME_ADJ + 4))) :=
  ⟨⟨w0, _, ⟨.inl rfl, rfl⟩⟩,
   ⟨{w0 with time := {cmds := [.set]}}, by decide +kernel⟩,
   ⟨{w0 with time := {cmds := [.step]}}.setBit Reg.TIME_STATUS Fld.TIME_STATUS_AUDIO_ACTIVE true, .step, by decide +kernel⟩⟩

/-- The hypotheses of ServoStates can be met. -/
theorem witness_ServoStates :
    (∃ (m : RegMaster) (data : Word) (s : State), s.hostBarred m Reg.TIME_SERVO_OFFSET = false ∧ s.fld Reg.TIME_SERVO_CTRL
      Fld.TIME_SERVO_CTRL_SOURCE = 0 ∧ s.tally.silent = false) ∧
    (∃ (m : RegMaster) (data : Word) (s : State), s.hostBarred m Reg.TIME_SERVO_OFFSET = false ∧ s.fld Reg.TIME_SERVO_CTRL
      Fld.TIME_SERVO_CTRL_SOURCE ≠ 0) ∧
    (∃ (m : RegMaster) (data : Word) (s : State), s.hostBarred m Reg.TIME_SERVO_OFFSET = true) ∧
    (∃ (s : State) (o : ServoOut) (l : List ServoOut), s.time.out = o :: l ∧ -2 ^ 31 ≤ o.adj ∧ o.adj < 2 ^ 31) ∧
    (∃ (s : State), s.time.out = []) ∧
    (∃ (s : State), (s.servo = 1 ∨ s.servo = 2) ∧ s.tally.silent = false ∧ -2 ^ 31 < truncDiv s.integLast 256 ∧ truncDiv
      s.integLast 256 < 2 ^ 31) ∧
    (∃ (s : State), s.servo ≠ 1 ∧ s.servo ≠ 2) :=
  ⟨⟨.cpa, 0, w0, by decide +kernel⟩,
   ⟨.cpa, 0, w0.setFld Reg.TIME_SERVO_CTRL Fld.TIME_SERVO_CTRL_SOURCE 1, by decide +kernel⟩,
   ⟨.host, 0, w0, by decide +kernel⟩,
   ⟨{w0 with time := {out := [⟨0, 0, -2147483648⟩]}}, _, _, ⟨rfl, by decide +kernel, by decide +kernel⟩⟩,
   ⟨w0, by decide +kernel⟩,
   ⟨w0.setFld Reg.TIME_STATUS Fld.TIME_STATUS_SERVO_STATE 2, by decide +kernel⟩,
   ⟨w0, by decide +kernel⟩⟩

/-- The hypotheses of PulsesAndCaptures can be met. -/
theorem witness_PulsesAndCaptures :
    (∃ (n : Fin 4) (data : Word) (s : State), s.tally.silent = false ∧ (Fld.TIME_PULSE_CTRL_MODE.get data = 1 ∨
      Fld.TIME_PULSE_CTRL_MODE.get data = 2)) ∧
    (∃ (n : Fin 4) (s : State), (s.pulse (↑n : Nat)).armed = true ∧ (s.pulse (↑n : Nat)).high = false ∧ (s.pulse (↑n :
      Nat)).instant (s.pulse (↑n : Nat)).next ≤ (↑s.now : Int)) ∧
    (∃ (n : Fin 4) (s : State), (s.pulse (↑n : Nat)).high = true) ∧
    (∃ (n : Fin 4) (rising : Bool) (s : State), Fld.TIME_CAP_CTRL_ENABLE.get (s.reg (Reg.TIME_CAP_CTRL (↑n : Nat))) = 1 ∧
      (Fld.TIME_CAP_CTRL_EDGE.get (s.reg (Reg.TIME_CAP_CTRL (↑n : Nat))) = 3 ∨ Fld.TIME_CAP_CTRL_EDGE.get (s.reg
      (Reg.TIME_CAP_CTRL (↑n : Nat))) = if rising = true then 1 else 2) ∧ s.capTooSoon (↑n : Nat) = false ∧ s.fld
      Reg.TIME_SERVO_CTRL Fld.TIME_SERVO_CTRL_SOURCE ≠ (↑n : Nat) + 1) ∧
    (∃ (n : Fin 4) (rising : Bool) (s : State), Fld.TIME_CAP_CTRL_ENABLE.get (s.reg (Reg.TIME_CAP_CTRL (↑n : Nat))) = 1 ∧
      (Fld.TIME_CAP_CTRL_EDGE.get (s.reg (Reg.TIME_CAP_CTRL (↑n : Nat))) = 3 ∨ Fld.TIME_CAP_CTRL_EDGE.get (s.reg
      (Reg.TIME_CAP_CTRL (↑n : Nat))) = if rising = true then 1 else 2) ∧ s.capTooSoon (↑n : Nat) = true) ∧
    (∃ (n : Fin 4) (rising : Bool) (s : State), Fld.TIME_CAP_CTRL_ENABLE.get (s.reg (Reg.TIME_CAP_CTRL (↑n : Nat))) = 0 ∨
      Fld.TIME_CAP_CTRL_EDGE.get (s.reg (Reg.TIME_CAP_CTRL (↑n : Nat))) = 0 ∨ Fld.TIME_CAP_CTRL_EDGE.get (s.reg
      (Reg.TIME_CAP_CTRL (↑n : Nat))) = if rising = true then 2 else 1) :=
  ⟨⟨0, 1, w0, by decide +kernel⟩,
   ⟨3, {w0 with time := {pulses := [(3, {armed := true})]}}, by decide +kernel⟩,
   ⟨3, {w0 with time := {pulses := [(3, {high := true})]}}, by decide +kernel⟩,
   ⟨0, true, (w0.setFld (Reg.TIME_CAP_CTRL 0) Fld.TIME_CAP_CTRL_ENABLE 1).setFld (Reg.TIME_CAP_CTRL 0) Fld.TIME_CAP_CTRL_EDGE
     1, by decide +kernel⟩,
   ⟨0, true, ({w0 with time := {capSeen := [(0, some 0)]}}.setFld (Reg.TIME_CAP_CTRL 0) Fld.TIME_CAP_CTRL_ENABLE 1).setFld
     (Reg.TIME_CAP_CTRL 0) Fld.TIME_CAP_CTRL_EDGE 3 |>.setNow (10 * nsUnit - 1), by decide +kernel⟩,
   ⟨0, false, w0, by decide +kernel⟩⟩

/-- The hypotheses of FolioInstants can be met. -/
theorem witness_FolioInstants :
    (∃ (k : Nat) (errA : Word) (errB : Word) (s : State), s.folio = k ∧ s.tally.silent = false) ∧
    (∃ (k : Nat) (errA : Word) (errB : Word) (s : State), s.folio ≠ k) ∧
    (∃ (k : Nat) (s : State), s.releases k = true) ∧
    (∃ (k : Nat) (s : State), s.releases k = false) ∧
    (∃ (k : Nat) (held : Nat) (ms : Nat) (s : State), s.audioStarts k held = true ∧ s.tally.silent = false) ∧
    (∃ (k : Nat) (held : Nat) (ms : Nat) (s : State), s.audioStarts k held = false) ∧
    (∃ (s : State), s.audio = true ∧ s.time.stopAsked = true) ∧
    (∃ (s : State) (r : EventRec) (l : List EventRec), sortBy recordBefore s.time.records = r :: l ∧ s.recordDue r = true) ∧
    (∃ (s : State) (r : EventRec) (l : List EventRec), sortBy recordBefore s.time.records = r :: l ∧ s.recordDue r = false) :=
  ⟨⟨0, 0, 0, w0, by decide +kernel⟩,
   ⟨1, 0, 0, w0, by decide +kernel⟩,
   ⟨0, ({w0 with seq := {info := [⟨0, none, false, false⟩]}}.setFld Reg.SEQ_STATUS Fld.SEQ_STATUS_STATE 2).setNow secUnit,
     by decide +kernel⟩,
   ⟨0, w0, by decide +kernel⟩,
   ⟨0, 1, 0, (w0.setFld Reg.TIME_CTRL Fld.TIME_CTRL_AUDIO_RUN 1).setFld Reg.TIME_STATUS Fld.TIME_STATUS_SERVO_STATE 2,
     by decide +kernel⟩,
   ⟨0, 0, 0, w0, by decide +kernel⟩,
   ⟨{w0 with time := {stopAsked := true}}.setBit Reg.TIME_STATUS Fld.TIME_STATUS_AUDIO_ACTIVE true, by decide +kernel⟩,
   ⟨{w0 with time := {records := [⟨0, 0, 0, 0, 0⟩]}}.setNow (2 * usUnit), ⟨0, 0, 0, 0, 0⟩, [], by decide +kernel⟩,
   ⟨{w0 with time := {records := [⟨0, 0, 0, 0, 0⟩]}}.setNow (2 * usUnit - 1), ⟨0, 0, 0, 0, 0⟩, [], by decide +kernel⟩⟩

/-- The hypotheses of SynthUpdates can be met. -/
theorem witness_SynthUpdates :
    (∃ (x : Fin 2) (s : State) (c : Instr), (s.updateCode (↑x : Nat)).1 = 0 ∧ s.synth.staged.rising = true ∧ (c = Instr.update
      x ∨ c = Instr.synthScheduledUpdate x ∧ s.bit (Reg.SYNTH_CTRL (↑x : Nat)) Fld.SYNTH_CTRL_SCHED = true ∧ s.updatePt (↑x :
      Nat) ≤ (↑s.now : Int) ∧ s.commitUpdates (↑x : Nat) = false)) ∧
    (∃ (x : Fin 2) (s : State), s.commitUpdates (↑x : Nat) = true) ∧
    (∃ (x : Fin 2) (s : State), (s.updateCode (↑x : Nat)).1 ≠ 0 ∧ s.tally.silent = false) ∧
    (∃ (x : Fin 2) (s : State), s.updatePt (↑x : Nat) < (↑(s.now + usUnit) : Int) ∧ s.tally.silent = false) ∧
    (∃ (x : Fin 2) (s : State), (↑(s.now + usUnit) : Int) ≤ s.updatePt (↑x : Nat)) :=
  ⟨⟨0, ((w0.setReg (Reg.SYNTH_RATIO 0 + 4) 20).setReg (Reg.SYNTH_RATIO 0) 0), _, ⟨by decide +kernel, by decide +kernel, .inl
     rfl⟩⟩,
   ⟨1, {w0 with clause := {slots := [(15, {recs := [(1, BitVec.ofNat 32 (Reg.SYNTH_RATIO 1), 0, 0xFFFFFFFF)]})]}}.setFld
     (Reg.CLAUSE_SLOT_STATE 15) Fld.CLAUSE_SLOT_STATE_STATE 5, by decide +kernel⟩,
   ⟨0, w0.setReg (Reg.SYNTH_RATIO 0 + 4) 18, by decide +kernel⟩,
   ⟨0, w0, by decide +kernel⟩,
   ⟨0, w0.setReg (Reg.SYNTH_UPDATE_PT 0 + 4) 1000, by decide +kernel⟩⟩

/-- The hypotheses of SynthLockDecision can be met. -/
theorem witness_SynthLockDecision :
    (∃ (x : Fin 2) (v : BitVec 8) (s : State) (c : Instr), c ∈ [Instr.synthLock x v, Instr.synthUnlock x v,
      Instr.synthFastLoss x v, Instr.synthFilterErr x v]) ∧
    (∃ (x : Fin 2) (v : BitVec 8) (s : State), s.bit (Reg.SYNTH_STATUS (↑x : Nat)) Fld.SYNTH_STATUS_LOCK = false ∧ (s.bit
      (Reg.SYNTH_STATUS (↑x : Nat)) Fld.SYNTH_STATUS_FILTER_ERR = true ∨ s.synth.fastLoss.toNat.testBit (↑x : Nat) = true)) ∧
    (∃ (x : Fin 2) (v : BitVec 8) (s : State), 1500 ≤ 16 * v.toNat ∧ s.bit (Reg.SYNTH_STATUS (↑x : Nat)) Fld.SYNTH_STATUS_LOCK
      = false ∧ s.bit (Reg.SYNTH_STATUS (↑x : Nat)) Fld.SYNTH_STATUS_FILTER_ERR = false ∧ s.synth.fastLoss.toNat.testBit (↑x :
      Nat) = false ∧ s.tally.silent = false) ∧
    (∃ (x : Fin 2) (v : BitVec 8) (s : State), 16 * v.toNat ≤ 500 ∧ s.bit (Reg.SYNTH_STATUS (↑x : Nat)) Fld.SYNTH_STATUS_LOCK
      = true ∧ s.tally.silent = false) ∧
    (∃ (x : Fin 2) (v : BitVec 8) (s : State), s.bit (Reg.SYNTH_STATUS (↑x : Nat)) Fld.SYNTH_STATUS_LOCK = true ∧
      s.tally.silent = false) ∧
    (∃ (x : Fin 2) (v : BitVec 8) (s : State), 3000 ≤ 16 * v.toNat ∧ s.bit (Reg.SYNTH_STATUS (↑x : Nat))
      Fld.SYNTH_STATUS_FILTER_ERR = false ∧ s.tally.silent = false) :=
  ⟨⟨0, 0, w0, _, List.mem_cons_self⟩,
   ⟨0, 0, w0.setBit (Reg.SYNTH_STATUS 0) Fld.SYNTH_STATUS_FILTER_ERR true, by decide +kernel⟩,
   ⟨0, 100, w0, by decide +kernel⟩,
   ⟨0, 31, w0.setBit (Reg.SYNTH_STATUS 0) Fld.SYNTH_STATUS_LOCK true, by decide +kernel⟩,
   ⟨0, 0, w0.setBit (Reg.SYNTH_STATUS 0) Fld.SYNTH_STATUS_LOCK true, by decide +kernel⟩,
   ⟨0, 188, w0, by decide +kernel⟩⟩

/-- The hypotheses of MultiplyAccumulate can be met. -/
theorem witness_MultiplyAccumulate :
    ∃ (e : Fin 64) (f : InstrFields) (s : State) (c : Instr) (g : Int → Int → Int), (c, g) ∈ [(Instr.mpy e f, fun (x p : Int)
      => p), (Instr.mac e f, fun (a p : Int) => a + p), (Instr.msu e f, fun (a p : Int) => a - p)] ∧ f.dst.toNat < 4 ∧ f.aux =
      0 ∧ PeClear e f true (destAcc f.lmask f.dst.toNat) s :=
  ⟨0, fNop, wPe, _, _, ⟨List.mem_cons_self, by decide +kernel, by decide +kernel, by unfold PeClear; decide +kernel⟩⟩

/-- The hypotheses of LogicAndCompares can be met. -/
theorem witness_LogicAndCompares :
    ∃ (e : Fin 64) (f : InstrFields) (s : State) (c : Instr) (g : Word → Word → Bool), (c, g) ∈ [(Instr.cmpeq e f, fun (a b :
      Word) => decide (a = b)), (Instr.cmplt e f, fun (a b : Word) => decide (BitVec.toInt a < BitVec.toInt b)), (Instr.cmple
      e f, fun (a b : Word) => decide (BitVec.toInt a ≤ BitVec.toInt b))] ∧ PeClear e f true [] s :=
  ⟨0, fNop, wPe, _, _, ⟨List.mem_cons_self, by unfold PeClear; decide +kernel⟩⟩

/-- The hypotheses of AluWithSaturation can be met. -/
theorem witness_AluWithSaturation :
    ∃ (e : Fin 64) (f : InstrFields) (rc : Bool) (s : State) (c : Instr) (g : Int → Int → Nat → Int), (c, g) ∈ [(Instr.adds e
      f, fun (a b : Int) (x : Nat) => a + b), (Instr.subs e f, fun (a b : Int) (x : Nat) => a - b), (Instr.negs e f, fun (a x
      : Int) (x_1 : Nat) => -a), (Instr.abss e f, fun (a x : Int) (x_1 : Nat) => (↑a.natAbs : Int)), (Instr.shls e f rc, fun
      (a x : Int) (k : Nat) => a * 2 ^ k)] ∧ PeClear e f true (destV f.lmask f.dst.toNat) s :=
  ⟨0, fNop, false, wPe, _, _, ⟨List.mem_cons_self, by unfold PeClear; decide +kernel⟩⟩

/-- The hypotheses of AccumulatorOperations can be met. -/
theorem witness_AccumulatorOperations :
    (∃ (e : Fin 64) (f : InstrFields) (s : State) (c : Instr) (g : Int → Int → Int → Int), (c, g) ∈ [(Instr.clr e f, fun (x
      x_1 x_2 : Int) => 0), (Instr.lda e f, fun (x x_1 v : Int) => v * 2 ^ 32), (Instr.adda e f, fun (d a x : Int) => d + a),
      (Instr.suba e f, fun (d a x : Int) => d - a), (Instr.mova e f, fun (x a x_1 : Int) => a), (Instr.nega e f, fun (x a x_1
      : Int) => -a), (Instr.shla e f, fun (x a x_1 : Int) => a * 2 ^ f.aux.toNat), (Instr.shra e f, fun (x a x_1 : Int) => a /
      2 ^ f.aux.toNat)] ∧ PeClear e f true (destAcc f.lmask (f.dst.toNat % 4)) s) ∧
    (∃ (e : Fin 64) (f : InstrFields) (s : State) (c : Instr) (g : BitVec 72 → Word), (c, g) ∈ [(Instr.rdl e f, fun (a :
      BitVec 72) => BitVec.extractLsb' 0 32 a), (Instr.rdm e f, fun (a : BitVec 72) => BitVec.extractLsb' 32 32 a), (Instr.rdh
      e f, fun (a : BitVec 72) => BitVec.signExtend 32 (BitVec.extractLsb' 64 8 a))] ∧ PeClear e f true (destV f.lmask
      f.dst.toNat) s) ∧
    (∃ (e : Fin 64) (f : InstrFields) (s : State) (c : Instr) (lo : Nat) (n : Nat), (c, lo, n) ∈ [(Instr.wrl e f, 0, 32),
      (Instr.wrm e f, 32, 32), (Instr.wrh e f, 64, 8)] ∧ PeClear e f true (destAcc f.lmask (f.dst.toNat % 4)) s) ∧
    (∃ (e : Fin 64) (f : InstrFields) (s : State), f.aux.toNat ≤ 8 ∧ PeClear e f true (destV f.lmask f.dst.toNat) s) :=
  ⟨⟨0, fNop, wPe, _, _, ⟨List.mem_cons_self, by unfold PeClear; decide +kernel⟩⟩,
   ⟨0, fNop, wPe, _, _, ⟨List.mem_cons_self, by unfold PeClear; decide +kernel⟩⟩,
   ⟨0, fNop, wPe, _, _, _, ⟨List.mem_cons_self, by unfold PeClear; decide +kernel⟩⟩,
   ⟨0, ⟨1, 0, 0, 0, 8, 0x01C001C0⟩, wPe, by unfold PeClear; decide +kernel⟩⟩

/-- The hypotheses of AddCompareSelect can be met. -/
theorem witness_AddCompareSelect :
    ∃ (e : Fin 64) (f : InstrFields) (s : State) (c : Instr) (better : Int → Bool), (c, better) ∈ [(Instr.acsMax e f, fun (d :
      Int) => decide (0 < d)), (Instr.acsMin e f, fun (d : Int) => decide (d < 0))] ∧ f.srca.toNat % 4 = 0 ∧ f.dst.toNat % 4 =
      0 ∧ PeClear e f true (List.flatMap (fun (i : Nat) => destV f.lmask (f.dst.toNat + i)) [0, 1, 2, 3]) s :=
  ⟨0, fNop, wPe, _, _, ⟨List.mem_cons_self, by decide +kernel, by decide +kernel, by unfold PeClear; decide +kernel⟩⟩

/-- The hypotheses of MovesAndImmediates can be met. -/
theorem witness_MovesAndImmediates :
    (∃ (e : Fin 64) (f : InstrFields) (s : State) (df : PeFile), fileOk (↑e : Nat) f.aux.toNat f.dst.toNat true = some df ∧
      PeClear e f false (if df = PeFile.v then destV f.lmask f.dst.toNat else [(df, f.dst.toNat)]) s) ∧
    (∃ (e : Fin 64) (f : InstrFields) (s : State) (df : PeFile) (sf : PeFile), fileOk (↑e : Nat) f.aux.toNat f.dst.toNat true
      = some df ∧ fileOk (↑e : Nat) f.srcb.toNat f.srca.toNat false = some sf ∧ PeClear e f true (if df = PeFile.v then destV
      f.lmask f.dst.toNat else [(df, f.dst.toNat)]) s) :=
  ⟨⟨0, fNop, wPe, .v, by unfold PeClear; decide +kernel⟩,
   ⟨0, fNop, wPe, .v, .v, by unfold PeClear; decide +kernel⟩⟩

/-- The hypotheses of MemorySlots can be met. -/
theorem witness_MemorySlots :
    (∃ (e : Fin 64) (f : InstrFields) (s : State), PeClear e f true [] s) ∧
    (∃ (e : Fin 64) (f : InstrFields) (s : State) (inY : Bool) (sl : Slot) (ea : Nat), PeClear e f true [] s ∧ Slot.of (if inY
      = true then ySlot f else xSlot f) = sl ∧ sl.am ≠ 7 ∧ SlotAddress e sl s ea) :=
  ⟨⟨0, fNop, wPe, by unfold PeClear; decide +kernel⟩,
   ⟨0, ⟨1, 0, 0, 0, 0, 0x000001C0⟩, wPe, false, _, 0, ⟨by unfold PeClear; decide +kernel, rfl, by decide +kernel, fun _ =>
     by decide +kernel, fun h => absurd h (by decide +kernel), fun h => absurd h (by decide +kernel)⟩⟩⟩

/-- The hypotheses of ControlFlow can be met. -/
theorem witness_ControlFlow :
    (∃ (e : Fin 64) (f : InstrFields) (s : State), PeClear e f false [] s ∧ (∀ l ∈ (s.core (↑e : Nat)).loops, l.last ≠ s.pePc
      (↑e : Nat)) ∧ s.pePc (↑e : Nat) + 1 < 4096) ∧
    (∃ (e : Fin 64) (f : InstrFields) (s : State), PeClear e f false [] s ∧ 0 ≤ branchTarget (s.pePc (↑e : Nat)) f ∧
      branchTarget (s.pePc (↑e : Nat)) f < 4096) ∧
    (∃ (e : Fin 64) (f : InstrFields) (s : State), PeClear e f false [] s ∧ f.aux.toNat % 4 < 3 ∧ (∀ l ∈ (s.core (↑e :
      Nat)).loops, l.last ≠ s.pePc (↑e : Nat)) ∧ s.pePc (↑e : Nat) + 1 < 4096 ∧ 0 ≤ branchTarget (s.pePc (↑e : Nat)) f ∧
      branchTarget (s.pePc (↑e : Nat)) f < 4096) ∧
    (∃ (e : Fin 64) (f : InstrFields) (s : State) (c : Instr) (n : Nat), (c, n) ∈ [(Instr.rep e f, f.imm.toNat / 2 ^ 16),
      (Instr.repv e f, BitVec.toNat ((s.core (↑e : Nat)).vr (lowLane f.lmask) f.srca.toNat) % 2 ^ 16)] ∧ PeClear e f false []
      s ∧ f.imm.toNat % 2 ^ 12 ≠ 0 ∧ (s.core (↑e : Nat)).loops.length < 3 ∧ (∀ l ∈ (s.core (↑e : Nat)).loops, l.first ≤ s.pePc
      (↑e : Nat) → s.pePc (↑e : Nat) ≤ l.last → s.pePc (↑e : Nat) + f.imm.toNat % 2 ^ 12 ≤ l.last) ∧ n ≠ 0 ∧ s.pePc (↑e : Nat)
      + 1 < 4096) ∧
    (∃ (e : Fin 64) (f : InstrFields) (s : State) (c : Instr) (n : Nat), (c, n) ∈ [(Instr.rep e f, f.imm.toNat / 2 ^ 16),
      (Instr.repv e f, BitVec.toNat ((s.core (↑e : Nat)).vr (lowLane f.lmask) f.srca.toNat) % 2 ^ 16)] ∧ PeClear e f false []
      s ∧ f.imm.toNat % 2 ^ 12 ≠ 0 ∧ n = 0 ∧ (∀ l ∈ (s.core (↑e : Nat)).loops, l.first ≤ s.pePc (↑e : Nat) → s.pePc (↑e : Nat)
      ≤ l.last → s.pePc (↑e : Nat) + f.imm.toNat % 2 ^ 12 ≤ l.last) ∧ (∀ l ∈ (s.core (↑e : Nat)).loops, l.last ≠ s.pePc (↑e :
      Nat) + f.imm.toNat % 2 ^ 12) ∧ s.pePc (↑e : Nat) + f.imm.toNat % 2 ^ 12 + 1 < 4096) :=
  ⟨⟨0, fNop, wPe.setFld (Reg.PE_STATUS 0) Fld.PE_STATUS_PC 4094, by unfold PeClear; decide +kernel⟩,
   ⟨0, ⟨1, 0, 0, 0, 0, 0x00000000⟩, wPe.setFld (Reg.PE_STATUS 0) Fld.PE_STATUS_PC 4094, by unfold PeClear; decide +kernel⟩,
   ⟨0, ⟨1, 0, 0, 0, 2, 0xFFFF0000⟩, wPe, by unfold PeClear; decide +kernel⟩,
   ⟨0, ⟨1, 0, 0, 0, 0, 0x00010001⟩, wPe, _, _, ⟨List.mem_cons_self, by unfold PeClear; decide +kernel, by decide +kernel⟩⟩,
   ⟨0, ⟨1, 0, 0, 0, 0, 0x00000001⟩, wPe, _, _, ⟨List.mem_cons_self, by unfold PeClear; decide +kernel, by decide +kernel⟩⟩⟩

/-- The hypotheses of WaitEndTrap can be met. -/
theorem witness_WaitEndTrap :
    (∃ (e : Fin 64) (f : InstrFields) (s : State), PeClear e f false [] s ∧ (∀ x ∈ (s.core (↑e : Nat)).xfers,
      f.imm.toNat.testBit x.tag = false) ∧ (∀ l ∈ (s.core (↑e : Nat)).loops, l.last ≠ s.pePc (↑e : Nat)) ∧ s.pePc (↑e : Nat) +
      1 < 4096) ∧
    (∃ (e : Fin 64) (f : InstrFields) (s : State), PeClear e f false [] s ∧ ∃ x ∈ (s.core (↑e : Nat)).xfers,
      f.imm.toNat.testBit x.tag = true) ∧
    (∃ (e : Fin 64) (f : InstrFields) (s : State), s.peIssues (↑e : Nat) = true ∧ s.fetchBad (↑e : Nat) = false) ∧
    (∃ (e : Fin 64) (f : InstrFields) (s : State) (c : Instr) (code : Nat) (addr : Nat), (c, code, addr) ∈ [(Instr.trap e f,
      9, f.imm.toNat % 2 ^ 16), (Instr.illegalInstruction e f, 1, 0)] ∧ s.peIssues (↑e : Nat) = true ∧ s.fetchBad (↑e : Nat) =
      false) ∧
    (∃ (e : Fin 64) (s : State), s.peState (↑e : Nat) = 2 ∧ s.fld (Reg.PE_TASK_LIMIT (↑e : Nat)) (⟨0, 24⟩ : Field) ≠ 0) :=
  ⟨⟨0, ⟨1, 0, 0, 0, 0, 0xFF⟩, wPe, by unfold PeClear; decide +kernel⟩,
   ⟨0, ⟨1, 0, 0, 0, 0, 0x80⟩, {wPe with pe := [(0, {xfers := [⟨7, false, false, 0, 0, 16, 0, [], false, false, false⟩]})]},
     by unfold PeClear; decide +kernel⟩,
   ⟨0, fNop, wPe, by decide +kernel⟩,
   ⟨0, fNop, wPe, _, _, _, ⟨List.mem_cons_self, by decide +kernel⟩⟩,
   ⟨0, wPe.setFld (Reg.PE_TASK_LIMIT 0) ⟨0, 24⟩ 1, by decide +kernel⟩⟩

/-- The hypotheses of FaultSuppressesWrites can be met. -/
theorem witness_FaultSuppressesWrites :
    (∃ (e : Fin 64) (f : InstrFields) (rc : Bool) (s : State), ∃ x ∈ issueOps e f rc s, s.peIssues (↑e : Nat) = true ∧
      s.fetchBad (↑e : Nat) = false ∧ s.peFaults (↑e : Nat) f x.2.1 (x.2.2 (s.core (↑e : Nat))) ≠ []) ∧
    (∃ (e : Fin 64) (f : InstrFields) (rc : Bool) (s : State), ∃ c ∈ engineInstrs e f rc s, s.peIssues (↑e : Nat) = true ∧
      s.fetchBad (↑e : Nat) = true) ∧
    (∃ (e : Fin 64) (f : InstrFields) (s : State) (c : Instr) (put : Bool) (inY : Bool), (c, put, inY) ∈ [(Instr.getx e f,
      false, false), (Instr.gety e f, false, true), (Instr.putx e f, true, false), (Instr.puty e f, true, true)]) ∧
    (∃ (e : Fin 64) (f : InstrFields) (s : State) (c : Instr) (slots : Bool) (code : Nat), s.peIssues (↑e : Nat) = true ∧
      s.fetchBad (↑e : Nat) = false ∧ s.peFaults (↑e : Nat) f slots (Except.error { code := code, slot := 0, addr := 0 }) =
      [{ code := code, slot := 0, addr := 0 }] ∧ (c ∈ [Instr.mpy e f, Instr.mac e f, Instr.msu e f] ∧ slots = true ∧ code = 1
      ∧ (4 ≤ f.dst.toNat ∨ f.aux ≠ 0) ∨ c = Instr.sts e f ∧ slots = true ∧ code = 1 ∧ 8 < f.aux.toNat ∨ c ∈ [Instr.acsMax e f,
      Instr.acsMin e f] ∧ slots = true ∧ code = 1 ∧ (f.srca.toNat % 4 ≠ 0 ∨ f.dst.toNat % 4 ≠ 0) ∨ c = Instr.move e f ∧ slots
      = true ∧ code = 1 ∧ (fileOk (↑e : Nat) f.aux.toNat f.dst.toNat true = none ∨ fileOk (↑e : Nat) f.srcb.toNat f.srca.toNat
      false = none) ∨ c = Instr.ldi e f ∧ slots = false ∧ code = 1 ∧ fileOk (↑e : Nat) f.aux.toNat f.dst.toNat true = none ∨ c
      = Instr.brc e f ∧ slots = false ∧ code = 1 ∧ f.aux.toNat % 4 = 3 ∨ c ∈ [Instr.rep e f, Instr.repv e f] ∧ slots = false ∧
      code = 2 ∧ (f.imm.toNat % 2 ^ 12 = 0 ∨ ∃ l ∈ (s.core (↑e : Nat)).loops, l.first ≤ s.pePc (↑e : Nat) ∧ s.pePc (↑e : Nat)
      ≤ l.last ∧ l.last < s.pePc (↑e : Nat) + f.imm.toNat % 2 ^ 12))) :=
  ⟨⟨0, ⟨1, 4, 0, 0, 0, 0x01C001C0⟩, false, wPe, _, ⟨List.mem_cons_self, by decide +kernel⟩⟩,
   ⟨0, fNop, false, {wPe with ecc := [(0x04020000, true)]}, _, ⟨List.mem_cons_self, by decide +kernel⟩⟩,
   ⟨0, fNop, w0, _, _, _, List.mem_cons_self⟩,
   ⟨0, ⟨1, 4, 0, 0, 0, 0x01C001C0⟩, wPe, _, true, 1, ⟨by decide +kernel, by decide +kernel, by decide +kernel, .inl
     ⟨List.mem_cons_self, rfl, rfl, by decide +kernel⟩⟩⟩⟩

/-- The hypotheses of FarTransfers can be met. -/
theorem witness_FarTransfers :
    (∃ (e : Fin 64) (f : InstrFields) (s : State) (c : Instr) (put : Bool) (inY : Bool), (c, put, inY) ∈ [(Instr.getx e f,
      false, false), (Instr.gety e f, false, true), (Instr.putx e f, true, false), (Instr.puty e f, true, true)]) ∧
    (∃ (e : Fin 64) (tag : Fin 8) (s : State) (x : Xfer), List.find? (fun (y : Xfer) => y.tag == (↑tag : Nat)) (s.core (↑e :
      Nat)).xfers = some x ∧ s.xferBusy (↑e : Nat) (↑tag : Nat) = false ∧ x.err = false ∧ x.drop = false ∧ s.peState (↑e :
      Nat) = 2) :=
  ⟨⟨0, fNop, wPe, _, _, _, List.mem_cons_self⟩,
   ⟨0, 7, {wPe with pe := [(0, {xfers := [⟨7, false, false, 0, 0, 16, 0, [], false, false, false⟩]})]}, ⟨7, false, false, 0,
     0, 16, 0, [], false, false, false⟩, by decide +kernel⟩⟩

/-- The hypotheses of EngineStates can be met. -/
theorem witness_EngineStates :
    (∃ (e : Fin 64) (s : State), s.peState (↑e : Nat) = 2 ∧ (s.core (↑e : Nat)).ended = true ∧ (s.core (↑e : Nat)).xfers = []) ∧
    (∃ (e : Fin 64) (s : State) (c : Instr), (s.core (↑e : Nat)).xfers = [] ∧ (c = Instr.peDrainDone e ∧ s.peState (↑e : Nat)
      = 3 ∨ c = Instr.peFaultRelease e ∧ s.peState (↑e : Nat) = 4 ∧ s.bit (Reg.PE_CTRL (↑e : Nat)) Fld.PE_CTRL_FAULT_HOLD =
      false ∨ c = Instr.clearFault e ∧ s.peState (↑e : Nat) = 4)) ∧
    (∃ (e : Fin 64) (s : State), s.peState (↑e : Nat) = 4 ∧ (s.core (↑e : Nat)).xfers ≠ []) ∧
    (∃ (e : Fin 64) (data : Word) (s : State), s.peState (↑e : Nat) < 2 ∧ (s.core (↑e : Nat)).xfers = []) ∧
    (∃ (e : Fin 64) (s : State), s.peState (↑e : Nat) = 2) ∧
    (∃ (e : Fin 64) (s : State), s.peState (↑e : Nat) ≠ 2) ∧
    (∃ (m : RegMaster) (e : Fin 64) (off : Nat) (be : BitVec 4) (data : Word) (s : State), off < 163840 ∧ s.hostBarred m
      (peBase (↑e : Nat) + off) = false ∧ s.peState (↑e : Nat) = 0) ∧
    (∃ (e : Fin 64) (off : Nat) (be : BitVec 4) (data : Word) (s : State), off < 163840 ∧ (s.peState (↑e : Nat) ≠ 0 ∨
      s.hostBarred RegMaster.host (peBase (↑e : Nat) + off) = true)) ∧
    (∃ (m : RegMaster) (e : Fin 64) (off : Nat) (be : BitVec 4) (data : Word) (s : State), off < 163840 ∧ m ≠ RegMaster.host ∧
      s.peState (↑e : Nat) ≠ 0) :=
  ⟨⟨0, {wPe with pe := [(0, {ended := true})]}, by decide +kernel⟩,
   ⟨63, w0.setFld (Reg.PE_STATUS 63) Fld.PE_STATUS_STATE 3, _, ⟨by decide +kernel, .inl ⟨rfl, by decide +kernel⟩⟩⟩,
   ⟨0,
     {w0.setFld (Reg.PE_STATUS 0) Fld.PE_STATUS_STATE 4 with pe := [(0, {xfers := [⟨7, false, false, 0, 0, 16, 0, [], false, false, false⟩]})]},
     by decide +kernel⟩,
   ⟨0, 0, w0, by decide +kernel⟩,
   ⟨0, wPe, by decide +kernel⟩,
   ⟨0, w0, by decide +kernel⟩,
   ⟨.cpa, 0, 163839, 0xF, 0, w0, by decide +kernel⟩,
   ⟨0, 0, 0, 0, w0, by decide +kernel⟩,
   ⟨.cpa, 0, 163839, 0xF, 0, wPe, by decide +kernel⟩⟩

/-- The hypotheses of SequencerStates can be met. -/
theorem witness_SequencerStates :
    (∃ (data : Word) (s : State), Fld.SEQ_CTRL_ENABLE.get data = 1 ∧ s.seqState = 0) ∧
    (∃ (data : Word) (s : State), Fld.SEQ_CTRL_ENABLE.get data = 0) ∧
    (∃ (k : Nat) (s : State), s.seqState = 1 ∧ s.seq.startArmed = some k ∧ s.audio = true ∧ s.folio = k) :=
  ⟨⟨1, w0, by decide +kernel⟩,
   ⟨0, w0, by decide +kernel⟩,
   ⟨0, ({w0 with seq := {startArmed := some 0}}.setFld Reg.SEQ_STATUS Fld.SEQ_STATUS_STATE 1).setBit Reg.TIME_STATUS
     Fld.TIME_STATUS_AUDIO_ACTIVE true, by decide +kernel⟩⟩

/-- The hypotheses of DispatchAndFeeds can be met. -/
theorem witness_DispatchAndFeeds :
    (∃ (same : Bool) (s : State) (t : Machine.Task) (e : Fin 64), (s.seqState = 2 ∨ s.seqState = 3) ∧ (s.dispatchCycle
      same).nextDispatch = some (t, (↑e : Nat))) ∧
    (∃ (same : Bool) (s : State) (t : Machine.Task), (s.seqState = 2 ∨ s.seqState = 3) ∧ (s.dispatchCycle same).nextDispatch =
      some (t, 64)) ∧
    (∃ (f : Fin 2048) (k : Nat) (s : State), s.feedPresent (↑f : Nat) k = false) ∧
    (∃ (f : Fin 2048) (k : Nat) (s : State), s.feedPresent (↑f : Nat) k = true ∧ s.tally.silent = false) :=
  ⟨⟨false, ({w0 with seq := {tasks := [⟨0, 0, 0, .ready, false, false, none, 0⟩]}, mem := [(0x10000001, 1)]}.setFld
     Reg.SEQ_STATUS Fld.SEQ_STATUS_STATE 2 |>.setFld (Reg.PE_STATUS 0) Fld.PE_STATUS_STATE 1).setReg Reg.SEQ_PTAB 0x10000000,
     ⟨0, 0, 0, .ready, false, false, none, 0⟩, 0, by decide +kernel⟩,
   ⟨true, ({w0 with seq := {tasks := [⟨0, 0, 0, .ready, false, false, none, 0⟩]}, mem := [(0x10000000, 4)]}.setFld
     Reg.SEQ_STATUS Fld.SEQ_STATUS_STATE 3).setReg Reg.SEQ_PTAB 0x10000000, ⟨0, 0, 0, .ready, false, false, none, 0⟩,
     by decide +kernel⟩,
   ⟨0, 0, w0, by decide +kernel⟩,
   ⟨2047, 3, {w0 with seq := {present := [(8191, 4)]}}, by decide +kernel⟩⟩

/-- The hypotheses of TasksGivenUp can be met. -/
theorem witness_TasksGivenUp :
    (∃ (k : Nat) (s : State), (s.seq.info.any fun (i : FolioInfo) => i.folio == k && !i.closed) = true ∧ s.deadlinePt k ≤
      s.now ∧ s.tally.silent = false) ∧
    (∃ (p : Fin 4096) (slot : Fin 4) (s : State) (u : Machine.Task), List.find? (fun (v : Machine.Task) => v.phrase == (↑p :
      Nat) && v.folio % 4 == (↑slot : Nat) && !v.complete) s.seq.tasks = some u ∧ s.tally.silent = false) ∧
    (∃ (tag : Fin 16384) (s : State), s.tally.silent = false) :=
  ⟨⟨0, {w0 with seq := {info := [⟨0, none, false, false⟩]}}.setNow secUnit, by decide +kernel⟩,
   ⟨4095, 3, {w0 with seq := {tasks := [⟨4095, 7, 0, .ready, false, false, none, 0⟩]}}, ⟨4095, 7, 0, .ready, false, false,
     none, 0⟩, by decide +kernel⟩,
   ⟨0, w0, by decide +kernel⟩⟩

/-- The hypotheses of MixTasks can be met. -/
theorem witness_MixTasks :
    (∃ (s : State) (j : MixJob) (q : List MixJob), s.mix.running = none ∧ s.mix.queue = j :: q) ∧
    (∃ (s : State), s.mix.running ≠ none ∨ s.mix.queue = []) ∧
    (∃ (s : State) (j : MixJob), s.mix.running = some j ∧ s.mix.aborting = false ∧ (s.mixWhole j).1.err = none ∧ ((s.mixWhole
      j).2.unitWrite mixCode j.stateOut (s.mixWhole j).1.st).1 = true) ∧
    (∃ (s : State) (j : MixJob), s.mix.running = some j ∧ s.mix.aborting = false ∧ (s.mixWhole j).1.err ≠ none ∧
      s.tally.silent = false) ∧
    (∃ (s : State), s.mix.running = none ∨ s.mix.aborting = true) ∧
    (∃ (s : State) (j : MixJob) (p : Fin 4096) (slot : Fin 4), s.mix.running = some j ∧ j.phrase = (↑p : Nat) ∧ j.folio % 4 =
      (↑slot : Nat)) ∧
    (∃ (s : State) (j : MixJob) (p : Fin 4096) (slot : Fin 4), s.mix.running = none ∧ List.find? (fun (j : MixJob) => j.phrase
      == (↑p : Nat) && j.folio % 4 == (↑slot : Nat)) s.mix.queue = some j) :=
  ⟨⟨{w0 with mix := {queue := [⟨4095, 7, 0, 0, 0, 0⟩]}}, ⟨4095, 7, 0, 0, 0, 0⟩, [], by decide +kernel⟩,
   ⟨w0, by decide +kernel⟩,
   ⟨{w0 with mix := {running := some ⟨0, 0, 0x10000000, 0x10001000, 0x10002000, 0x10003000⟩}, mem := [(0x10000000, 1)]}, ⟨0,
     0, 0x10000000, 0x10001000, 0x10002000, 0x10003000⟩, by decide +kernel⟩,
   ⟨{w0 with mix := {running := some ⟨4095, 7, 0, 0, 0, 0⟩}}, ⟨4095, 7, 0, 0, 0, 0⟩, by decide +kernel⟩,
   ⟨w0, by decide +kernel⟩,
   ⟨{w0 with mix := {running := some ⟨4095, 7, 0, 0, 0, 0⟩}}, ⟨4095, 7, 0, 0, 0, 0⟩, 4095, 3, by decide +kernel⟩,
   ⟨{w0 with mix := {queue := [⟨4095, 7, 0, 0, 0, 0⟩]}}, ⟨4095, 7, 0, 0, 0, 0⟩, 4095, 3, by decide +kernel⟩⟩

/-- The hypotheses of ConverterChannels can be met. -/
theorem witness_ConverterChannels :
    (∃ (n : Fin 64) (data : Word) (s : State), s.bit (Reg.SRC_CH_CFG (↑n : Nat)) Fld.SRC_CH_CFG_EN = false ∧
      Fld.SRC_CH_CFG_EN.get data = 1) ∧
    (∃ (n : Fin 64) (data : Word) (s : State), s.bit (Reg.SRC_CH_CFG (↑n : Nat)) Fld.SRC_CH_CFG_EN = true ∧
      Fld.SRC_CH_CFG_EN.get data = 0) ∧
    (∃ (n : Fin 64) (data : Word) (s : State), s.bit (Reg.SRC_CH_CFG (↑n : Nat)) Fld.SRC_CH_CFG_EN = true ∧
      Fld.SRC_CH_CFG_EN.get data = 1) ∧
    (∃ (n : Fin 64) (s : State), s.srcState (↑n : Nat) = 1 ∧ s.tally.silent = false) ∧
    (∃ (n : Fin 64) (s : State), s.srcState (↑n : Nat) ≠ 1) ∧
    (∃ (g : Fin 8) (k : Nat) (n : Nat) (s : State), s.srcGroup (↑g : Nat) = [n] ∧ inVat (s.regN (Reg.SRC_CH_BASE n) + 32 * (k
      % 4)) 32 = true ∧ s.regN (Reg.SRC_CH_BASE n) % 8 = 0) ∧
    (∃ (g : Fin 8) (k : Nat) (s : State), s.srcGroup (↑g : Nat) ≠ []) ∧
    (∃ (g : Fin 8) (k : Nat) (s : State), s.srcGroup (↑g : Nat) = []) :=
  ⟨⟨0, 1, w0, by decide +kernel⟩,
   ⟨63, 0, w0.setBit (Reg.SRC_CH_CFG 63) Fld.SRC_CH_CFG_EN true, by decide +kernel⟩,
   ⟨63, Fld.SRC_CH_CFG_EN.put 0 1, w0.setBit (Reg.SRC_CH_CFG 63) Fld.SRC_CH_CFG_EN true, by decide +kernel⟩,
   ⟨63, w0.setFld (Reg.SRC_CH_STATE 63) Fld.SRC_CH_STATE_STATE 1, by decide +kernel⟩,
   ⟨0, w0, by decide +kernel⟩,
   ⟨0, 3, 0, (w0.setFld (Reg.SRC_CH_STATE 0) Fld.SRC_CH_STATE_STATE 2).setReg (Reg.SRC_CH_BASE 0) 0x12FFFF80,
     by decide +kernel⟩,
   ⟨0, 0, w0.setFld (Reg.SRC_CH_STATE 0) Fld.SRC_CH_STATE_STATE 2, by decide +kernel⟩,
   ⟨0, 0, w0, by decide +kernel⟩⟩

/-- The hypotheses of ClauseUpToArming can be met. -/
theorem witness_ClauseUpToArming :
    (∃ (m : RegMaster) (n : Fin 16) (s : State), (s.released = true ∨ m = RegMaster.boot) ∧ slotFree (s.slotState (↑n : Nat))
      = true ∧ inVat (s.regN Reg.CLAUSE_IMAGE) 32 = true) ∧
    (∃ (m : RegMaster) (n : Fin 16) (s : State), (s.released = true ∨ m = RegMaster.boot) ∧ slotFree (s.slotState (↑n : Nat))
      = false ∧ s.tally.silent = false) ∧
    (∃ (n : Fin 16) (s : State), s.slotState (↑n : Nat) = 1 ∧ (∀ (i : Fin 16), s.slotState (↑i : Nat) = 1 → (s.slot (↑i :
      Nat)).submittedBefore (s.slot (↑n : Nat)) = false) ∧ s.tally.silent = false) ∧
    (∃ (n : Fin 16) (s : State), s.slotState (↑n : Nat) = 3 ∧ s.banksBusy (↑n : Nat) false = false) ∧
    (∃ (n : Fin 16) (s : State), s.slotState (↑n : Nat) = 2 ∧ (s.slot (↑n : Nat)).immediate = false ∧ s.tally.silent = false) ∧
    (∃ (n : Fin 16) (s : State), s.slotState (↑n : Nat) = 2 ∧ (s.slot (↑n : Nat)).immediate = true ∧ s.tally.silent = false ∧
      EntriesExist (s.slot (↑n : Nat)).recs) ∧
    (∃ (n : Fin 16) (s : State), s.slotState (↑n : Nat) = 4 ∧ s.now < s.armDeadline (↑n : Nat)) ∧
    (∃ (n : Fin 16) (s : State), (s.slotState (↑n : Nat) ≠ 4 ∨ s.armDeadline (↑n : Nat) ≤ s.now) ∧ s.tally.silent = false) ∧
    (∃ (n : Fin 16) (s : State), 1 ≤ s.slotState (↑n : Nat) ∧ s.slotState (↑n : Nat) ≤ 5 ∧ s.beforeFreeze (↑n : Nat) = true) ∧
    (∃ (n : Fin 16) (s : State), (s.slotState (↑n : Nat) = 0 ∨ 6 ≤ s.slotState (↑n : Nat) ∨ s.beforeFreeze (↑n : Nat) = false)
      ∧ s.tally.silent = false) :=
  ⟨⟨.boot, 15, w0.setReg Reg.CLAUSE_IMAGE 0x12FFFFE0, by decide +kernel⟩,
   ⟨.boot, 15, w0.setFld (Reg.CLAUSE_SLOT_STATE 15) Fld.CLAUSE_SLOT_STATE_STATE 1, by decide +kernel⟩,
   ⟨15, w0.setFld (Reg.CLAUSE_SLOT_STATE 15) Fld.CLAUSE_SLOT_STATE_STATE 1, by decide +kernel⟩,
   ⟨15, w0.setFld (Reg.CLAUSE_SLOT_STATE 15) Fld.CLAUSE_SLOT_STATE_STATE 3, by decide +kernel⟩,
   ⟨15, w0.setFld (Reg.CLAUSE_SLOT_STATE 15) Fld.CLAUSE_SLOT_STATE_STATE 2, by decide +kernel⟩,
   ⟨15, {w0 with clause := {slots := [(15, {immediate := true})]}}.setFld (Reg.CLAUSE_SLOT_STATE 15)
     Fld.CLAUSE_SLOT_STATE_STATE 2, ⟨by decide +kernel, by decide +kernel, by decide +kernel, fun r h => absurd h
     List.not_mem_nil⟩⟩,
   ⟨15, {w0 with clause := {slots := [(15, {c := 1})]}}.setFld (Reg.CLAUSE_SLOT_STATE 15) Fld.CLAUSE_SLOT_STATE_STATE 4,
     by decide +kernel⟩,
   ⟨0, w0, by decide +kernel⟩,
   ⟨15, {w0 with clause := {slots := [(15, {c := 2 * usUnit + 1})]}}.setFld (Reg.CLAUSE_SLOT_STATE 15)
     Fld.CLAUSE_SLOT_STATE_STATE 5, by decide +kernel⟩,
   ⟨0, w0, by decide +kernel⟩⟩

/-- The hypotheses of ClauseAdmission can be met. -/
theorem witness_ClauseAdmission :
    ∃ (n : Fin 16) (s : State), s.slotState (↑n : Nat) = 1 ∧ (∀ (i : Fin 16), s.slotState (↑i : Nat) = 1 → (s.slot (↑i :
      Nat)).submittedBefore (s.slot (↑n : Nat)) = false) ∧ s.tally.silent = false :=
  ⟨15, w0.setFld (Reg.CLAUSE_SLOT_STATE 15) Fld.CLAUSE_SLOT_STATE_STATE 1, by decide +kernel⟩

/-- The hypotheses of ClauseFromDeadline can be met. -/
theorem witness_ClauseFromDeadline :
    (∃ (n : Fin 16) (s : State), s.armDeadline (↑n : Nat) ≤ s.now ∧ (s.slot (↑n : Nat)).immediate = false ∧ 1 ≤ s.slotState
      (↑n : Nat) ∧ s.slotState (↑n : Nat) ≤ 4) ∧
    (∃ (n : Fin 16) (s : State), s.now < s.armDeadline (↑n : Nat) ∨ (s.slot (↑n : Nat)).immediate = true ∨ 5 ≤ s.slotState (↑n
      : Nat)) ∧
    (∃ (n : Fin 16) (s : State), s.slotState (↑n : Nat) = 5 ∧ s.beforeFreeze (↑n : Nat) = false) ∧
    (∃ (n : Fin 16) (s : State), s.dueSlots = [(↑n : Nat)] ∧ s.tally.silent = false ∧ EntriesExist (s.slot (↑n : Nat)).recs) ∧
    (∃ (n : Fin 16) (s : State), (↑n : Nat) ∉ s.dueSlots) ∧
    (∃ (n : Fin 16) (s : State), s.slotState (↑n : Nat) = 9 ∧ s.tally.silent = false) ∧
    (∃ (n : Fin 16) (s : State), s.slotState (↑n : Nat) = 7 ∧ ∀ o ∈ (s.slot (↑n : Nat)).mirror, s.mirrorReady (s.slot (↑n :
      Nat)) o = true) ∧
    (∃ (mac : Bool) (s : State) (c : Bool × Nat × Nat × Nat), List.find? (fun (r : Bool × Nat × Nat × Nat) => r.1 == mac &&
      decide (r.2.2.2 + 2 * usUnit ≤ s.now)) s.freeRetired.clause.retiring = some c ∧ s.tally.silent = false) ∧
    (∃ (mac : Bool) (s : State), List.find? (fun (r : Bool × Nat × Nat × Nat) => r.1 == mac && decide (r.2.2.2 + 2 * usUnit ≤
      s.now)) s.freeRetired.clause.retiring = none) :=
  ⟨⟨15, w0.setFld (Reg.CLAUSE_SLOT_STATE 15) Fld.CLAUSE_SLOT_STATE_STATE 4, by decide +kernel⟩,
   ⟨15, w0.setFld (Reg.CLAUSE_SLOT_STATE 15) Fld.CLAUSE_SLOT_STATE_STATE 5, by decide +kernel⟩,
   ⟨15, {w0 with clause := {slots := [(15, {c := 2 * usUnit})]}}.setFld (Reg.CLAUSE_SLOT_STATE 15) Fld.CLAUSE_SLOT_STATE_STATE
     5, by decide +kernel⟩,
   ⟨15, w0.setFld (Reg.CLAUSE_SLOT_STATE 15) Fld.CLAUSE_SLOT_STATE_STATE 6, ⟨by decide +kernel, by decide +kernel,
     fun r h => absurd h List.not_mem_nil⟩⟩,
   ⟨0, w0, by decide +kernel⟩,
   ⟨15, w0.setFld (Reg.CLAUSE_SLOT_STATE 15) Fld.CLAUSE_SLOT_STATE_STATE 9, by decide +kernel⟩,
   ⟨15, {w0 with clause := {slots := [(15, {mirror := [0]})]}}.setFld (Reg.CLAUSE_SLOT_STATE 15) Fld.CLAUSE_SLOT_STATE_STATE
     7, by decide +kernel⟩,
   ⟨false,
     {w0 with clause := {retiring := [(false, 0, 0, 0)]}, stream := {egress := [(7, {bulk := [{fr with hold := [(false, 0, 0)]}]})]}}.setNow
     (2 * usUnit), (false, 0, 0, 0), by decide +kernel⟩,
   ⟨false, w0, by decide +kernel⟩⟩

/-- The hypotheses of LaneStates can be met. -/
theorem witness_LaneStates :
    (∃ (n : Fin 10) (data : Word) (s : State), Fld.FAB_LANE_CTRL_EN.get data = 1 ∧ s.lane (↑n : Nat) = 0 ∧ s.pllLocked
      (lanePll (↑n : Nat)) = true ∧ s.laneDead (↑n : Nat) = false) ∧
    (∃ (n : Fin 10) (s : State), s.lane (↑n : Nat) = 1) ∧
    (∃ (n : Fin 10) (precode : Bool) (s : State), s.lane (↑n : Nat) = 2) ∧
    (∃ (n : Fin 10) (s : State), s.lane (↑n : Nat) = 3 ∧ (∀ l ∈ s.partners (↑n : Nat), s.lane l = 3 ∨ s.lane l = 4) ∧
      s.tally.silent = false) ∧
    (∃ (n : Fin 10) (s : State), (s.lane (↑n : Nat) = 1 ∨ s.lane (↑n : Nat) = 2) ∧ s.tally.silent = false) ∧
    (∃ (n : Fin 10) (skew : Bool) (s : State), s.lane (↑n : Nat) = 3 ∧ (∀ l ∈ s.partners (↑n : Nat), s.lane l ≠ 1 ∧ s.lane l ≠
      2 ∧ s.lane l ≠ 5 ∧ s.lane l ≠ 7) ∧ s.tally.silent = false) ∧
    (∃ (n : Fin 10) (s : State), s.lane (↑n : Nat) = 5) ∧
    (∃ (n : Fin 10) (data : Word) (s : State), s.laneDead (↑n : Nat) = true ∧ s.lane (↑n : Nat) = 0 ∧ Fld.FAB_LANE_CTRL_EN.get
      data = 1) ∧
    (∃ (n : Fin 10) (b : Bool) (s : State), s.lane (↑n : Nat) ≠ 1) ∧
    (∃ (n : Fin 10) (b : Bool) (s : State), s.lane (↑n : Nat) ≠ 2) ∧
    (∃ (n : Fin 10) (b : Bool) (s : State), s.lane (↑n : Nat) ≠ 3) ∧
    (∃ (n : Fin 10) (b : Bool) (s : State), s.lane (↑n : Nat) ≠ 5) ∧
    (∃ (n : Fin 10) (s : State) (c : Instr), s.lane (↑n : Nat) = 4 ∧ s.tally.silent = false ∧ (c = Instr.laneRetrain n ∨ c =
      Instr.laneDown n DownCause.signal ∨ c = Instr.laneDown n DownCause.blockLock ∨ c = Instr.laneDown n DownCause.degrade ∧
      s.bit (Reg.FAB_LANE_STATUS (↑n : Nat)) Fld.FAB_LANE_STATUS_DEGRADED = true ∧ s.bit (Reg.FAB_FEC_DEGRADE (↑n : Nat))
      Fld.FAB_FEC_DEGRADE_DOWN_ON_DEGRADE = true)) ∧
    (∃ (n : Fin 10) (data : Word) (s : State), s.lane (↑n : Nat) = 4 ∧ s.tally.silent = false ∧ Fld.FAB_LANE_CTRL_EN.get data
      = 0) ∧
    (∃ (n : Fin 10) (data : Word) (s : State), s.lane (↑n : Nat) = 4 ∧ s.tally.silent = false ∧ Fld.FAB_LANE_CTRL_LOOP.get
      data ≠ 0) ∧
    (∃ (n : Fin 10) (data : Word) (s : State), s.lane (↑n : Nat) = 6 ∧ Fld.FAB_LANE_CTRL_LOOP.get data = 0) ∧
    (∃ (n : Fin 10) (cause : DownCause) (s : State), s.lane (↑n : Nat) ≠ 4 ∧ cause ≠ DownCause.signal) :=
  ⟨⟨9, Fld.FAB_LANE_CTRL_EN.put 0 1, wPair.setReg Reg.SYNTH_SYS_STATUS 8, by decide +kernel⟩,
   ⟨9, wLane 9 1, by decide +kernel⟩,
   ⟨9, true, wLane 9 2, by decide +kernel⟩,
   ⟨9, wLane 9 3, by decide +kernel⟩,
   ⟨9, wLane 9 2, by decide +kernel⟩,
   ⟨9, true, wLane 9 3, by decide +kernel⟩,
   ⟨9, wLane 9 5, by decide +kernel⟩,
   ⟨9, Fld.FAB_LANE_CTRL_EN.put 0 1, w0, by decide +kernel⟩,
   ⟨0, false, w0, by decide +kernel⟩,
   ⟨0, false, w0, by decide +kernel⟩,
   ⟨0, false, w0, by decide +kernel⟩,
   ⟨0, false, w0, by decide +kernel⟩,
   ⟨9, wLane 9 4, _, ⟨by decide +kernel, by decide +kernel, .inl rfl⟩⟩,
   ⟨9, 0, wLane 9 4, by decide +kernel⟩,
   ⟨9, Fld.FAB_LANE_CTRL_LOOP.put 0 3, wLane 9 4, by decide +kernel⟩,
   ⟨9, 0, wLane 9 6, by decide +kernel⟩,
   ⟨9, .blockLock, w0, by decide +kernel⟩⟩

/-- The hypotheses of FabricControl can be met. -/
theorem witness_FabricControl :
    (∃ (data : Word) (s : State), mapValid (data &&& 16777215#32) = true ∧ ∀ l < 11, s.laneOn l = false) ∧
    (∃ (data : Word) (s : State), mapValid (data &&& 16777215#32) = false ∧ s.tally.silent = false) ∧
    (∃ (p : Fin 3) (s : State), s.pllOn (↑p : Nat) = true) ∧
    (∃ (p : Fin 3) (s : State), s.pllOn (↑p : Nat) = true ∧ s.pllLocked (↑p : Nat) = true ∧ s.tally.silent = false) ∧
    (∃ (n : Fin 10) (corr : Nat) (uncorr : Nat) (sym : Nat) (prbs : Nat) (signal : Bool) (s : State), (s.lane (↑n : Nat) = 3 ∨
      s.lane (↑n : Nat) = 4) ∧ s.tally.silent = false) ∧
    (∃ (n : Fin 10) (corr : Nat) (uncorr : Nat) (sym : Nat) (prbs : Nat) (signal : Bool) (s : State), s.lane (↑n : Nat) = 6 ∧
      s.laneLoop (↑n : Nat) = 3) ∧
    (∃ (data : Word) (s : State) (n : Fin 10), Fld.FAB_WAKE_CTRL_SEND.get data = 1 ∧ s.laneDead (↑n : Nat) = true ∧
      Fld.FAB_WAKE_CTRL_SEND_LANE.get data = (↑n : Nat) ∧ s.tally.silent = false) ∧
    (∃ (data : Word) (s : State) (n : Fin 10), Fld.FAB_WAKE_CTRL_SEND.get data = 1 ∧ s.laneDead (↑n : Nat) = false ∧
      Fld.FAB_WAKE_CTRL_SEND_LANE.get data = (↑n : Nat) ∧ s.lane (↑n : Nat) ≠ 4 ∧ s.lane (↑n : Nat) ≠ 6 ∧ s.lane (↑n : Nat) ≠
      7) ∧
    (∃ (n : Fin 10) (s : State), s.lane (↑n : Nat) = 7 ∧ s.tally.silent = false) :=
  ⟨⟨0, w0, by decide +kernel⟩,
   ⟨100, w0, by decide +kernel⟩,
   ⟨2, w0.setReg Reg.SYNTH_SERDES_CTRL 0x10, by decide +kernel⟩,
   ⟨2, (w0.setReg Reg.SYNTH_SERDES_CTRL 0x10).setReg Reg.SYNTH_SYS_STATUS 8, by decide +kernel⟩,
   ⟨9, 0, 0, 0, 0, true, wLane 9 3, by decide +kernel⟩,
   ⟨9, 0, 0, 0, 1, true, (wLane 9 6).setFld (Reg.FAB_LANE_CTRL 9) Fld.FAB_LANE_CTRL_LOOP 3, by decide +kernel⟩,
   ⟨Fld.FAB_WAKE_CTRL_SEND.put (Fld.FAB_WAKE_CTRL_SEND_LANE.put 0 9) 1, w0, 9, by decide +kernel⟩,
   ⟨Fld.FAB_WAKE_CTRL_SEND.put (Fld.FAB_WAKE_CTRL_SEND_LANE.put 0 9) 1, wPair, 9, by decide +kernel⟩,
   ⟨9, wLane 9 7, by decide +kernel⟩⟩

/-- The hypotheses of FramesReceived can be met. -/
theorem witness_FramesReceived :
    (∃ (p : Fin 8) (f : RxFrame) (s : State), s.portUp (↑p : Nat) = false ∨ s.bit (Reg.MAC_CTRL (↑p : Nat)) Fld.MAC_CTRL_RX_EN
      = false) ∧
    (∃ (p : Fin 8) (f : RxFrame) (s : State), s.portUp (↑p : Nat) = true ∧ s.bit (Reg.MAC_CTRL (↑p : Nat)) Fld.MAC_CTRL_RX_EN
      = true ∧ s.rxClass (↑p : Nat) f (s.untag (↑p : Nat) f.bytes) ≠ 0) ∧
    (∃ (p : Fin 8) (f : RxFrame) (s : State) (b : List Byte), s.portUp (↑p : Nat) = true ∧ s.bit (Reg.MAC_CTRL (↑p : Nat))
      Fld.MAC_CTRL_RX_EN = true ∧ s.rxClass (↑p : Nat) f (s.untag (↑p : Nat) f.bytes) = 0 ∧ b = (s.untag (↑p : Nat)
      f.bytes).bytes ∧ etherAt b 12 = 34824 ∧ etherAt b 14 = 1 ∧ List.take 6 b = [1, 128, 194, 0, 0, 1] ∧ s.bit (Reg.MAC_CTRL
      (↑p : Nat)) Fld.MAC_CTRL_PAUSE_RX_EN = true ∧ s.descFree = true) ∧
    (∃ (p : Fin 8) (f : RxFrame) (s : State), s.portUp (↑p : Nat) = true ∧ s.bit (Reg.MAC_CTRL (↑p : Nat)) Fld.MAC_CTRL_RX_EN
      = true ∧ s.rxClass (↑p : Nat) f (s.untag (↑p : Nat) f.bytes) = 0 ∧ s.descFree = false ∧ s.tally.silent = false ∧
      SMap.find 0 s.raised (limitKey 136 0) = 0) ∧
    (∃ (p : Fin 8) (f : RxFrame) (s : State) (g : RxInfo), s.portUp (↑p : Nat) = true ∧ s.bit (Reg.MAC_CTRL (↑p : Nat))
      Fld.MAC_CTRL_RX_EN = true ∧ s.rxClass (↑p : Nat) f (s.untag (↑p : Nat) f.bytes) = 0 ∧ g = s.untag (↑p : Nat) f.bytes ∧
      etherAt g.bytes 12 ≠ 34824 ∧ s.descFree = true) ∧
    (∃ (i : Fin 16384) (hit : Bool) (s : State), s.fld Reg.STREAM_AGE Fld.STREAM_AGE_PERIOD ≠ 0 ∧ (s.macEntry (↑i :
      Nat)).valid = true ∧ (s.macEntry (↑i : Nat)).static = false) ∧
    (∃ (i : Fin 8192) (m : Nat) (s : State), (s.entry (↑i : Nat)).valid = true ∧ (s.entry (↑i : Nat)).tx = false ∧ s.hasClosed
      (↑i : Nat) m = false ∧ ((s.entry (↑i : Nat)).phase = 0 ∨ 0 < m) ∧ s.windowClose (s.entry (↑i : Nat)) m ≤ s.now) :=
  ⟨⟨7, ⟨[], true, false⟩, w0, by decide +kernel⟩,
   ⟨7, ⟨List.replicate 59 0, true, false⟩, wMac, by decide +kernel⟩,
   ⟨7, ⟨[1, 128, 194, 0, 0, 1] ++ List.replicate 6 0 ++ [0x88, 8, 0, 1] ++ List.replicate 44 0, true, false⟩, wMac.setBit
     (Reg.MAC_CTRL 7) Fld.MAC_CTRL_PAUSE_RX_EN true, _, ⟨by decide +kernel, by decide +kernel, by decide +kernel, rfl,
     by decide +kernel⟩⟩,
   ⟨7, ⟨List.replicate 60 0, true, false⟩, { wMac with stream := {desc := List.replicate 32768 (0, 1)} }, ⟨by decide +kernel,
     by decide +kernel, by decide +kernel, by simp only [State.descFree, List.length_replicate]; decide, by decide +kernel⟩⟩,
   ⟨7, ⟨List.replicate 60 0, true, false⟩, wMac, _, ⟨by decide +kernel, by decide +kernel, by decide +kernel, rfl,
     by decide +kernel⟩⟩,
   ⟨16383, true, {w0 with mem := [(macAt 16383 + 9, 4)]}.setFld Reg.STREAM_AGE Fld.STREAM_AGE_PERIOD 1, by decide +kernel⟩,
   ⟨8191, 0, {w0 with mem := [(streamAt 8191, 1)]}, by decide +kernel⟩⟩

/-- The hypotheses of FramesSent can be met. -/
theorem witness_FramesSent :
    (∃ (p : Fin 8) (s : State), s.portUp (↑p : Nat) = true ∧ s.bit (Reg.MAC_CTRL (↑p : Nat)) Fld.MAC_CTRL_TX_EN = true ∧
      s.host.sumDue = [] ∧ (s.egress (↑p : Nat)).current = none ∧ s.bit (Reg.MAC_PAUSE_TX (↑p : Nat)) Fld.MAC_PAUSE_TX_PENDING
      = true) ∧
    (∃ (p : Fin 8) (s : State) (f : QFrame) (e : Egress), s.portUp (↑p : Nat) = true ∧ s.bit (Reg.MAC_CTRL (↑p : Nat))
      Fld.MAC_CTRL_TX_EN = true ∧ s.host.sumDue = [] ∧ (s.egress (↑p : Nat)).current = none ∧ s.bit (Reg.MAC_PAUSE_TX (↑p :
      Nat)) Fld.MAC_PAUSE_TX_PENDING = false ∧ s.bit (Reg.MAC_STATUS (↑p : Nat)) Fld.MAC_STATUS_PAUSED = false ∧ (∀ g ∈
      (s.egress (↑p : Nat)).timed, ∀ (i : Nat), g.kind = FrameKind.aaf i → s.sendsAaf = true) ∧ (s.egress (↑p : Nat)).next =
      some (f, e)) ∧
    (∃ (p : Fin 8) (s : State), s.host.sumDue = [] ∧ (s.egress (↑p : Nat)).current = none ∧ s.sendsAaf = false ∧ ∀ g ∈
      (s.egress (↑p : Nat)).bulk, ∀ (i : Nat), g.kind ≠ FrameKind.aaf i) ∧
    (∃ (p : Fin 8) (s : State), s.host.sumDue = [] ∧ (s.portUp (↑p : Nat) = false ∨ (s.egress (↑p : Nat)).current ≠ none)) ∧
    (∃ (p : Fin 8) (s : State) (f : QFrame), (s.egress (↑p : Nat)).current = some f) ∧
    (∃ (p : Fin 8) (s : State) (f : QFrame) (r : List QFrame), (s.egress (↑p : Nat)).timed = f :: r ∧ f.enqPt + max 1000
      (s.fld Reg.STREAM_STALE Fld.STREAM_STALE_STALE_NS) * nsUnit ≤ s.now) ∧
    (∃ (p : Fin 8) (s : State) (f : QFrame) (r : List QFrame), (s.egress (↑p : Nat)).bulk = f :: r ∧ f.enqPt + max 1000 (s.fld
      Reg.STREAM_STALE Fld.STREAM_STALE_STALE_NS) * nsUnit ≤ s.now) ∧
    (∃ (p : Fin 8) (s : State) (f : QFrame) (r : List QFrame), (s.egress (↑p : Nat)).timed = f :: r ∧ s.now < f.enqPt + max
      1000 (s.fld Reg.STREAM_STALE Fld.STREAM_STALE_STALE_NS) * nsUnit) ∧
    (∃ (s : State), s.descFree = false) ∧
    (∃ (s : State) (u : State) (d : List Byte), s.descFree = true ∧ s.hwPop (s.fld Reg.STREAM_TXQ Fld.STREAM_TXQ_CPU) 16 =
      (some d, u) ∧ (leNat (slice d 4 4) % 2 ^ 14 < 60 ∨ 9212 < leNat (slice d 4 4) % 2 ^ 14)) ∧
    (∃ (s : State) (u : State) (v : State) (d : List Byte) (bs : List Byte), s.descFree = true ∧ s.hwPop (s.fld Reg.STREAM_TXQ
      Fld.STREAM_TXQ_CPU) 16 = (some d, u) ∧ 60 ≤ leNat (slice d 4 4) % 2 ^ 14 ∧ leNat (slice d 4 4) % 2 ^ 14 ≤ 9212 ∧
      u.unitRead 11 (leNat (List.take 4 d)) (leNat (slice d 4 4) % 2 ^ 14) = (some bs, v)) :=
  ⟨⟨7, ((w0.setBit (Reg.MAC_STATUS 7) Fld.MAC_STATUS_LINK true).setBit (Reg.MAC_CTRL 7) Fld.MAC_CTRL_TX_EN true).setBit
     (Reg.MAC_PAUSE_TX 7) Fld.MAC_PAUSE_TX_PENDING true, by decide +kernel⟩,
   ⟨7, ({w0 with stream := {egress := [(7, {timed := [fr]})]}}.setBit (Reg.MAC_STATUS 7) Fld.MAC_STATUS_LINK true).setBit
     (Reg.MAC_CTRL 7) Fld.MAC_CTRL_TX_EN true, fr, {}, ⟨by decide +kernel, by decide +kernel, by decide +kernel,
     by decide +kernel, by decide +kernel, by decide +kernel,
     fun g hg i h => absurd h (by have e : g = fr := List.mem_singleton.mp hg; rw [e]; exact nofun), by decide +kernel⟩⟩,
   ⟨7, {w0 with stream := {egress := [(7, {bulk := [fr]})]}}, ⟨by decide +kernel, by decide +kernel, by decide +kernel,
     fun g hg i h => absurd h (by have e : g = fr := List.mem_singleton.mp hg; rw [e]; exact nofun)⟩⟩,
   ⟨0, w0, by decide +kernel⟩,
   ⟨7, {w0 with stream := {egress := [(7, {current := some fr})]}}, fr, by decide +kernel⟩,
   ⟨7, {w0 with stream := {egress := [(7, {timed := [fr]})]}}.setNow secUnit, fr, [], by decide +kernel⟩,
   ⟨7, {w0 with stream := {egress := [(7, {bulk := [fr]})]}}.setNow secUnit, fr, [], by decide +kernel⟩,
   ⟨7, {w0 with stream := {egress := [(7, {timed := [fr]})]}}, fr, [], by decide +kernel⟩,
   ⟨{w0 with stream := {desc := List.replicate 32768 (0, 1)}}, by simp only [State.descFree, List.length_replicate]; decide⟩,
   ⟨{wTx with mem := [(0x10000001, 16), (0x10000003, 16), (0x10000004, 59)]}, _, _, ⟨by decide +kernel, rfl,
     by decide +kernel⟩⟩,
   ⟨wTx, (wTx.hwPop 0 16).2, ((wTx.hwPop 0 16).2.unitRead 11 0x10001000 60).2, [0, 16, 0, 16, 60, 0, 0, 0, 0, 0, 0, 0, 0, 0,
     0, 0], List.replicate 60 0, by decide +kernel⟩⟩

/-- The hypotheses of CrossbarAndDram can be met. -/
theorem witness_CrossbarAndDram :
    (∃ (b : Fin 36) (s : State) (x : Txn) (r : List Txn), (↑b : Nat) < 32 ∧ (List.any s.xbar.active fun (e : Nat × Txn) => e.1
      == (↑b : Nat)) = false ∧ sortBy s.grantBefore (List.filter (fun (y : Txn) => y.target == (↑b : Nat))
      s.retarget.xbar.waiting) = x :: r) ∧
    (∃ (c : Fin 2) (s : State) (x : Txn), s.xbar.waiting = [x] ∧ 2147483648 ≤ x.addr ∧ s.refChannel x.addr = (↑c : Nat) ∧
      (s.dramEarly
      { master := x.master, target := 32 + (↑c : Nat), addr := x.addr, len := x.len, write := x.write, qos := x.qos, engine := x.engine, tag := x.tag, order := x.order, line := x.line }).1
      = false ∧ (List.any s.xbar.active fun (e : Nat × Txn) => e.1 == 32 + (↑c : Nat)) = false) ∧
    (∃ (b : Fin 36) (e : Bool) (s : State) (x : Txn) (f : Xfer), (↑b : Nat) < 32 ∧ x.addr < 2147483648 ∧ List.find? (fun (y :
      Nat × Txn) => y.1 == (↑b : Nat)) s.xbar.active = some ((↑b : Nat), x) ∧ s.xferOf x = some f ∧ x.addr + x.len ≤ vatHi) ∧
    (∃ (c : Fin 2) (s : State) (x : Txn), List.find? (fun (y : Nat × Txn) => y.1 == 32 + (↑c : Nat)) s.xbar.active = some (32
      + (↑c : Nat), x) ∧ s.dramc.retried.toNat.testBit (↑c : Nat) = false) ∧
    (∃ (c : Fin 2) (s : State) (x : Txn), List.find? (fun (y : Nat × Txn) => y.1 == 32 + (↑c : Nat)) s.xbar.active = some (32
      + (↑c : Nat), x) ∧ s.dramc.retried.toNat.testBit (↑c : Nat) = true ∧ s.tally.silent = false ∧ SMap.find 0 s.raised
      (limitKey 169 0) = 0) ∧
    (∃ (c : Fin 2) (s : State), List.find? (fun (y : Nat × Txn) => y.1 == 32 + (↑c : Nat)) s.xbar.active = none) ∧
    (∃ (b : Fin 36) (s : State), List.find? (fun (y : Nat × Txn) => y.1 == (↑b : Nat)) s.xbar.active = none) ∧
    (∃ (b : Fin 36) (s : State), (∃ x ∈ s.retarget.xbar.waiting, x.target = (↑b : Nat) ∧ s.tier x = 3) ∧ s.tally.silent =
      false ∧ SMap.find 0 s.raised (limitKey 163 (↑b : Nat)) = 0) ∧
    (∃ (c : Fin 2) (s : State), s.bit Reg.DRAM_STATUS (dramDeg (↑c : Nat)) = true ∧ s.regN (Reg.XBAR_GSUM (32 + (↑c : Nat))) ≤
      s.regN (Reg.XBAR_DELIV (32 + (↑c : Nat))) ∧ s.tally.silent = false) ∧
    (∃ (data : Word) (s : State), Fld.DRAM_CTRL_EN.get data = 0) ∧
    (∃ (data : Word) (s : State), Fld.DRAM_CTRL_EN.get data = 1) ∧
    (∃ (g0 : BitVec 8) (g1 : BitVec 8) (x16 : Bool) (s : State), s.dramState 0 = 1 ∧ s.dramState 1 = 1 ∧ s.tally.silent =
      false) ∧
    (∃ (c : Fin 2) (pass : Bool) (s : State), (s.dramState (↑c : Nat) = 2 ∨ s.dramState (↑c : Nat) = 4) ∧ s.tally.silent =
      false) ∧
    (∃ (c : Fin 2) (mult : BitVec 2) (s : State), s.dramState (↑c : Nat) = 3 ∧ mult.toNat < 3 ∧ s.tally.silent = false ∧ s.fld
      Reg.DRAM_STATUS (if c = 0 then Fld.DRAM_STATUS_REFRESH0 else Fld.DRAM_STATUS_REFRESH1) ≠ mult.toNat) :=
  ⟨⟨31, {w0 with xbar := {waiting := [tx 31]}}, tx 31, [], by decide +kernel⟩,
   ⟨0,
     {((((w0.setFld Reg.DRAM_LCOUNT ⟨0, 13⟩ 1).setFld Reg.DRAM_CAP ⟨0, 5⟩ 1).setDramState 0 3).setDramState 1 3) with xbar := {waiting := [⟨.pc 0, 32, 0x80000000, 16, false, 0, 0, 7, 0, none⟩]}, mem := [(0x10000000, 0x41)]}.setReg
     Reg.DRAM_LTAB 0x10000000, ⟨.pc 0, 32, 0x80000000, 16, false, 0, 0, 7, 0, none⟩, by decide +kernel⟩,
   ⟨31, false,
     {w0 with xbar := {active := [(31, tx 31)]}, pe := [(0, {xfers := [⟨7, false, false, 0, 0, 16, 0, [], false, false, false⟩]})]},
     tx 31, ⟨7, false, false, 0, 0, 16, 0, [], false, false, false⟩, by decide +kernel⟩,
   ⟨1, {w0 with xbar := {active := [(33, tx 33)]}}, tx 33, by decide +kernel⟩,
   ⟨1, {w0 with xbar := {active := [(33, tx 33)]}, dramc := {retried := 2}}, tx 33, by decide +kernel⟩,
   ⟨0, w0, by decide +kernel⟩,
   ⟨0, w0, by decide +kernel⟩,
   ⟨31, {w0 with xbar := {waiting := [tx 31]}}, by decide +kernel⟩,
   ⟨1, w0.setBit Reg.DRAM_STATUS (dramDeg 1) true, by decide +kernel⟩,
   ⟨0, w0, by decide +kernel⟩,
   ⟨1, w0, by decide +kernel⟩,
   ⟨0, 0, false, (w0.setFld Reg.DRAM_STATUS Fld.DRAM_STATUS_STATE0 1).setFld Reg.DRAM_STATUS Fld.DRAM_STATUS_STATE1 1,
     by decide +kernel⟩,
   ⟨1, true, w0.setFld Reg.DRAM_STATUS Fld.DRAM_STATUS_STATE1 4, by decide +kernel⟩,
   ⟨1, 2, w0.setFld Reg.DRAM_STATUS Fld.DRAM_STATUS_STATE1 3, by decide +kernel⟩⟩

/-- The hypotheses of ClaimAndReferee can be met. -/
theorem witness_ClaimAndReferee :
    (∃ (s : State), s.tally.silent = false) ∧
    (∃ (s : State), s.pair = false ∧ s.holding = false) ∧
    (∃ (s : State), s.pair = false ∧ s.holding = true) ∧
    (∃ (s : State), s.pair = true) ∧
    (∃ (s : State) (a : Adoption) (drop : Option (Fin 3)), s.redun.adopt = some a ∧ a.eff ≤ (↑s.now : Int) ∧ s.tally.silent =
      false) ∧
    (∃ (s : State) (u : State) (h : List Byte), s.takeReferee 3 = (some h, u) ∧ etherAt h 20 ≠ etherAt h 22 ∧ s.redun.adopt =
      none ∧ epochAhead (BitVec.toNat (h.getD 16 0)) s.redun.epoch = true ∧ (↑s.now : Int) < s.absPt (beNat (slice h 28 4))
      (beNat (slice h 32 4)) 0) ∧
    (∃ (s : State) (u : State) (h : List Byte), s.takeReferee 4 = (some h, u) ∧ s.swapWaits = true ∧ etherAt h 18 = s.reqSeq ∧
      s.tally.silent = false) ∧
    (∃ (s : State), s.refState = 1 ∧ 3 ≤ s.redun.silent ∧ s.tally.silent = false) ∧
    (∃ (s : State), s.refState ≠ 1 ∨ s.redun.silent < 3) ∧
    (∃ (s : State), s.pair = true ∧ s.refState = 1 ∧ s.swapWaits = false ∧ s.holdoff = 0) ∧
    (∃ (s : State), (s.pair = false ∨ s.refState ≠ 1 ∨ s.swapWaits = true ∨ s.holdoff ≠ 0) ∧ s.tally.silent = false) ∧
    (∃ (s : State) (n : Nat), s.redun.reqFolios = some n ∧ 8 ≤ n ∧ s.swapWaits = true ∧ s.tally.silent = false) ∧
    (∃ (s : State), s.holdoff ≠ 0 ∧ 5 ≤ s.redun.holdPast) :=
  ⟨⟨w0, by decide +kernel⟩,
   ⟨w0, by decide +kernel⟩,
   ⟨w0.setBit Reg.SENT_STATUS Fld.SENT_STATUS_HOLDING true, by decide +kernel⟩,
   ⟨wPair, by decide +kernel⟩,
   ⟨{w0 with redun := {adopt := some ⟨1, 0, 0, 0⟩}}, ⟨1, 0, 0, 0⟩, none, by decide +kernel⟩,
   ⟨{w0 with redun := {inbox := [hEp]}}, _, hEp, ⟨rfl, by decide +kernel⟩⟩,
   ⟨{w0 with redun := {inbox := [4 :: List.replicate 63 0]}}.setBit Reg.REDUN_SWAP Fld.REDUN_SWAP_OUTSTANDING true, _, 4 ::
     List.replicate 63 0, ⟨rfl, by decide +kernel⟩⟩,
   ⟨{w0 with redun := {silent := 3}}.setFld Reg.REDUN_STATUS Fld.REDUN_STATUS_REF 1, by decide +kernel⟩,
   ⟨w0, by decide +kernel⟩,
   ⟨wPair.setFld Reg.REDUN_STATUS Fld.REDUN_STATUS_REF 1, by decide +kernel⟩,
   ⟨w0, by decide +kernel⟩,
   ⟨{w0 with redun := {reqFolios := some 8}}.setBit Reg.REDUN_SWAP Fld.REDUN_SWAP_OUTSTANDING true, 8, by decide +kernel⟩,
   ⟨{w0 with redun := {holdPast := 5}}.setFld Reg.REDUN_SWAP Fld.REDUN_SWAP_HOLDOFF 1, by decide +kernel⟩⟩

/-- The hypotheses of FeltAndDeckle can be met. -/
theorem witness_FeltAndDeckle :
    (∃ (lane : Fin 2) (bs : List Byte) (s : State), s.pair = false ∨ s.role = 192 ∨ s.felt = 0 ∨ s.lane (8 + (↑lane : Nat)) ≠
      4 ∨ beNat (slice bs 12 4) ≠ (crc32c (List.take 12 bs ++ List.drop 16 bs)).toNat) ∧
    (∃ (lane : Fin 2) (f : Nat) (n : Nat) (payload : List Byte) (s : State), s.pair = true ∧ s.role ≠ 192 ∧ s.felt ≠ 0 ∧
      s.lane (8 + (↑lane : Nat)) = 4 ∧ f < 2 ^ 32 ∧ n < 64 ∧ payload.length = 16 ∧ s.now < s.boundary (s.folioNear f)) ∧
    (∃ (lane : Fin 2) (f : Nat) (p : Nat) (o : Nat) (payload : List Byte) (s : State), s.pair = true ∧ s.role ≠ 192 ∧ s.felt ≠
      0 ∧ s.lane (8 + (↑lane : Nat)) = 4 ∧ f < 2 ^ 32 ∧ p < 2 ^ 12 ∧ o < 2 ^ 20 ∧ payload.length ≤ 4096 ∧ s.sheetOf
      (s.folioNear f) = { folio := s.folioNear f } ∧ s.now < s.releasePt (s.folioNear f + 1)) ∧
    (∃ (p : Fin 32) (c : Option (BitVec 5)) (ack : Bool) (s : State), s.takesPart (↑p : Nat) = true) ∧
    (∃ (p : Fin 32) (c : Option (BitVec 5)) (ack : Bool) (s : State), s.takesPart (↑p : Nat) = false) :=
  ⟨⟨0, [], w0, by decide +kernel⟩,
   ⟨0, 1, 63, List.replicate 16 0, wFelt, by decide +kernel⟩,
   ⟨0, 0, 4095, 1048575, [], wFelt, by decide +kernel⟩,
   ⟨31, none, false, ((wPair.setReg Reg.REDUN_DECKLE 0x80000000).setFld (Reg.SAP_STATUS 31) Fld.SAP_STATUS_STATE 2).setReg
     Reg.REDUN_CLAIM 0x80000, by decide +kernel⟩,
   ⟨31, none, false, w0, by decide +kernel⟩⟩

/-- The hypotheses of QuireConfiguration can be met. -/
theorem witness_QuireConfiguration :
    (∃ (q : Fin 16384) (data : Word) (s : State), s.quireOn (↑q : Nat) = false ∧ Fld.QUIRE_CFG_EN.get data = 1 ∧ s.regN
      (Reg.QUIRE_BASE (↑q : Nat)) % (8 * 2 ^ Fld.QUIRE_CFG_ESIZE.get data) = 0 ∧ quireDepth data ≠ 1 ∧ inVat (s.regN
      (Reg.QUIRE_BASE (↑q : Nat))) (quireDepth data * (8 * 2 ^ Fld.QUIRE_CFG_ESIZE.get data)) = true) ∧
    (∃ (q : Fin 16384) (data : Word) (s : State), s.quireOn (↑q : Nat) = false ∧ Fld.QUIRE_CFG_EN.get data = 1 ∧
      s.tally.silent = false ∧ (s.regN (Reg.QUIRE_BASE (↑q : Nat)) % (8 * 2 ^ Fld.QUIRE_CFG_ESIZE.get data) ≠ 0 ∨ quireDepth
      data = 1 ∨ inVat (s.regN (Reg.QUIRE_BASE (↑q : Nat))) (quireDepth data * (8 * 2 ^ Fld.QUIRE_CFG_ESIZE.get data)) =
      false)) ∧
    (∃ (q : Fin 16384) (data : Word) (s : State), Fld.QUIRE_CFG_EN.get data = 0) ∧
    (∃ (q : Fin 16384) (data : Word) (s : State), s.quireOn (↑q : Nat) = true ∧ Fld.QUIRE_CFG_EN.get data = 1 ∧ s.tally.silent
      = false) ∧
    (∃ (q : Fin 16384) (data : Word) (s : State), s.quireOn (↑q : Nat) = false) ∧
    (∃ (q : Fin 16384) (data : Word) (s : State), s.quireOn (↑q : Nat) = true ∧ s.tally.silent = false) :=
  ⟨⟨16383, Fld.QUIRE_CFG_EN.put (Fld.QUIRE_CFG_DEPTH.put 0 2) 1, w0.setReg (Reg.QUIRE_BASE 16383) 0x12FFFFF0, by decide +kernel⟩,
   ⟨0, 1, w0, by decide +kernel⟩,
   ⟨0, 0, w0, by decide +kernel⟩,
   ⟨16383, Fld.QUIRE_CFG_EN.put 0 1, w0.setBit (Reg.QUIRE_CFG 16383) Fld.QUIRE_CFG_EN true, by decide +kernel⟩,
   ⟨0, 0, w0, by decide +kernel⟩,
   ⟨16383, 0, w0.setBit (Reg.QUIRE_CFG 16383) Fld.QUIRE_CFG_EN true, by decide +kernel⟩⟩

/-- The hypotheses of QuireTransfers can be met. -/
theorem witness_QuireTransfers :
    (∃ (q : Fin 16384) (a : Nat) (e : List Byte) (s : State), s.quireOn (↑q : Nat) = true ∧ e.length = s.quireSize (↑q : Nat)
      ∧ s.quireCount (↑q : Nat) < quireDepth (s.reg (Reg.QUIRE_CFG (↑q : Nat)))) ∧
    (∃ (q : Fin 16384) (a : Nat) (e : List Byte) (s : State), s.quireOn (↑q : Nat) = true ∧ e.length = s.quireSize (↑q : Nat)
      ∧ s.quireCount (↑q : Nat) = quireDepth (s.reg (Reg.QUIRE_CFG (↑q : Nat)))) ∧
    (∃ (q : Fin 16384) (a : Nat) (e : List Byte) (s : State), s.quireOn (↑q : Nat) = true ∧ e.length = s.quireSize (↑q : Nat)
      ∧ 0 < s.quireCount (↑q : Nat) ∧ s.eccBad (s.quireAddr (↑q : Nat) 0) (s.quireSize (↑q : Nat)) = false) ∧
    (∃ (q : Fin 16384) (a : Nat) (s : State), s.quireOn (↑q : Nat) = true ∧ 0 < s.quireCount (↑q : Nat) ∧ s.eccBad
      (s.quireAddr (↑q : Nat) 0) (s.quireSize (↑q : Nat)) = false) ∧
    (∃ (q : Fin 16384) (a : Nat) (n : Nat) (s : State), s.quireOn (↑q : Nat) = false ∨ s.quireSize (↑q : Nat) ≠ n) ∧
    (∃ (q : Fin 16384) (a : Nat) (e : List Byte) (s : State), s.quireOn (↑q : Nat) = false ∨ e.length ≠ s.quireSize (↑q :
      Nat)) ∧
    (∃ (n : Fin 3) (data : Word) (s : State) (q : Nat), q = Fld.QUIRE_SW_CMD_QUIRE.get data ∧ Fld.QUIRE_SW_CMD_PUSH.get data =
      1 ∧ Fld.QUIRE_SW_CMD_POP.get data = 0 ∧ s.bit (Reg.QUIRE_SW_STATUS (↑n : Nat)) Fld.QUIRE_SW_STATUS_BUSY = false ∧
      s.quireOn q = true ∧ s.quireCount q < quireDepth (s.reg (Reg.QUIRE_CFG q))) ∧
    (∃ (n : Fin 3) (data : Word) (s : State) (q : Nat), q = Fld.QUIRE_SW_CMD_QUIRE.get data ∧ Fld.QUIRE_SW_CMD_PUSH.get data =
      0 ∧ Fld.QUIRE_SW_CMD_POP.get data = 1 ∧ s.bit (Reg.QUIRE_SW_STATUS (↑n : Nat)) Fld.QUIRE_SW_STATUS_BUSY = false ∧
      s.quireOn q = true ∧ 0 < s.quireCount q ∧ s.eccBad (s.quireAddr q 0) (s.quireSize q) = false) ∧
    (∃ (q : Fin 16384) (a₁ : Nat) (a₂ : Nat) (e₁ : List Byte) (e₂ : List Byte) (s : State), s.quireOn (↑q : Nat) = true ∧
      e₁.length = s.quireSize (↑q : Nat) ∧ e₂.length = s.quireSize (↑q : Nat) ∧ s.quireCount (↑q : Nat) + 1 < quireDepth
      (s.reg (Reg.QUIRE_CFG (↑q : Nat))) ∧ a₁ < a₂) ∧
    (∃ (q : Fin 16384) (a₁ : Nat) (a₂ : Nat) (s : State), s.quireOn (↑q : Nat) = true ∧ 1 < s.quireCount (↑q : Nat) ∧ a₁ < a₂
      ∧ s.eccBad (s.quireAddr (↑q : Nat) 0) (s.quireSize (↑q : Nat)) = false ∧ s.eccBad (s.quireAddr (↑q : Nat) 1)
      (s.quireSize (↑q : Nat)) = false) ∧
    (∃ (q : Fin 16384) (a : Nat) (s : State), s.quireOn (↑q : Nat) = true ∧ s.quireCount (↑q : Nat) = 0) ∧
    (∃ (n : Fin 3) (data : Word) (s : State) (q : Nat), q = Fld.QUIRE_SW_CMD_QUIRE.get data ∧ Fld.QUIRE_SW_CMD_PUSH.get data =
      1 ∧ Fld.QUIRE_SW_CMD_POP.get data = 0 ∧ s.bit (Reg.QUIRE_SW_STATUS (↑n : Nat)) Fld.QUIRE_SW_STATUS_BUSY = false ∧
      (s.quireOn q = false ∨ s.quireCount q = quireDepth (s.reg (Reg.QUIRE_CFG q)))) ∧
    (∃ (n : Fin 3) (data : Word) (s : State) (q : Nat), q = Fld.QUIRE_SW_CMD_QUIRE.get data ∧ Fld.QUIRE_SW_CMD_PUSH.get data =
      0 ∧ Fld.QUIRE_SW_CMD_POP.get data = 1 ∧ s.bit (Reg.QUIRE_SW_STATUS (↑n : Nat)) Fld.QUIRE_SW_STATUS_BUSY = false ∧
      (s.quireOn q = false ∨ s.quireCount q = 0)) ∧
    (∃ (n : Fin 3) (data : Word) (s : State), s.bit (Reg.QUIRE_SW_STATUS (↑n : Nat)) Fld.QUIRE_SW_STATUS_BUSY = true) ∧
    (∃ (q : Fin 16384) (pushes : List (Nat × List Byte)) (withPop : Bool) (n : Fin 3) (m : Fin 3) (d₁ : Word) (d₂ : Word) (s :
      State), n < m ∧ Fld.QUIRE_SW_CMD_QUIRE.get d₁ = (↑q : Nat) ∧ Fld.QUIRE_SW_CMD_QUIRE.get d₂ = (↑q : Nat) ∧
      Fld.QUIRE_SW_CMD_PUSH.get d₁ = 1 ∧ Fld.QUIRE_SW_CMD_PUSH.get d₂ = 1) ∧
    (∃ (q : Fin 16384) (pops : List (Nat × Nat)) (n : Fin 3) (m : Fin 3) (d₁ : Word) (d₂ : Word) (s : State), n < m ∧
      Fld.QUIRE_SW_CMD_QUIRE.get d₁ = (↑q : Nat) ∧ Fld.QUIRE_SW_CMD_QUIRE.get d₂ = (↑q : Nat) ∧ Fld.QUIRE_SW_CMD_POP.get d₁ =
      1 ∧ Fld.QUIRE_SW_CMD_POP.get d₂ = 1) :=
  ⟨⟨5, 13, List.replicate 8 0, wQ 5 0, by decide +kernel⟩,
   ⟨5, 13, List.replicate 8 0, wQ 5 2, by decide +kernel⟩,
   ⟨5, 13, List.replicate 8 0, wQ 5 1, by decide +kernel⟩,
   ⟨5, 13, wQ 5 2, by decide +kernel⟩,
   ⟨0, 0, 0, w0, by decide +kernel⟩,
   ⟨0, 0, [], w0, by decide +kernel⟩,
   ⟨2, Fld.QUIRE_SW_CMD_PUSH.put (Fld.QUIRE_SW_CMD_QUIRE.put 0 5) 1, wQ 5 1, 5, by decide +kernel⟩,
   ⟨2, Fld.QUIRE_SW_CMD_POP.put (Fld.QUIRE_SW_CMD_QUIRE.put 0 5) 1, wQ 5 1, 5, by decide +kernel⟩,
   ⟨5, 1, 2, List.replicate 8 0, List.replicate 8 1, wQ 5 0, by decide +kernel⟩,
   ⟨5, 1, 2, wQ 5 2, by decide +kernel⟩,
   ⟨5, 13, wQ 5 0, by decide +kernel⟩,
   ⟨0, Fld.QUIRE_SW_CMD_PUSH.put (Fld.QUIRE_SW_CMD_QUIRE.put 0 5) 1, wQ 5 2, 5, by decide +kernel⟩,
   ⟨2, Fld.QUIRE_SW_CMD_POP.put (Fld.QUIRE_SW_CMD_QUIRE.put 0 5) 1, wQ 5 0, 5, by decide +kernel⟩,
   ⟨0, 0, w0.setBit (Reg.QUIRE_SW_STATUS 0) Fld.QUIRE_SW_STATUS_BUSY true, by decide +kernel⟩,
   ⟨16383, [], false, 1, 2, Fld.QUIRE_SW_CMD_QUIRE.put (Fld.QUIRE_SW_CMD_PUSH.put 0 1) 16383, Fld.QUIRE_SW_CMD_QUIRE.put
     (Fld.QUIRE_SW_CMD_PUSH.put 0 1) 16383, w0, by decide +kernel⟩,
   ⟨16383, [], 0, 2, Fld.QUIRE_SW_CMD_QUIRE.put (Fld.QUIRE_SW_CMD_POP.put 0 1) 16383, Fld.QUIRE_SW_CMD_QUIRE.put
     (Fld.QUIRE_SW_CMD_POP.put 0 1) 16383, w0, by decide +kernel⟩⟩

/-- The hypotheses of LostEntry can be met. -/
theorem witness_LostEntry :
    (∃ (q : Fin 16384) (a : Nat) (s : State) (c : Nat), c = s.quireCount (↑q : Nat) ∧ s.quireOn (↑q : Nat) = true ∧ 0 < c ∧
      s.tally.silent = false ∧ s.eccBad (s.quireAddr (↑q : Nat) 0) (s.quireSize (↑q : Nat)) = true) ∧
    (∃ (q : Fin 16384) (a : Nat) (s : State) (c : Nat) (n : Fin 3) (data : Word), c = s.quireCount (↑q : Nat) ∧ s.quireOn (↑q
      : Nat) = true ∧ 0 < c ∧ s.tally.silent = false ∧ s.eccBad (s.quireAddr (↑q : Nat) 0) (s.quireSize (↑q : Nat)) = true ∧
      Fld.QUIRE_SW_CMD_QUIRE.get data = (↑q : Nat) ∧ Fld.QUIRE_SW_CMD_PUSH.get data = 0 ∧ Fld.QUIRE_SW_CMD_POP.get data = 1 ∧
      s.bit (Reg.QUIRE_SW_STATUS (↑n : Nat)) Fld.QUIRE_SW_STATUS_BUSY = false) :=
  ⟨⟨5, 13, {wQ 5 1 with ecc := [(0x10000000, true)]}, 1, by decide +kernel⟩,
   ⟨5, 13, {wQ 5 1 with ecc := [(0x10000000, true)]}, 1, 2, Fld.QUIRE_SW_CMD_POP.put (Fld.QUIRE_SW_CMD_QUIRE.put 0 5) 1,
     by decide +kernel⟩⟩

/-- The hypotheses of RaisedEvents can be met. -/
theorem witness_RaisedEvents :
    (∃ (src : Nat) (w3 : Word) (s : State), src < 320 ∧ s.tally.silent = false) ∧
    (∃ (src : Nat) (w3 : Word) (s : State), src < 320 ∧ s.tally.silent = false ∧ testBit (s.reg (Reg.EVG_ENABLE (src / 32)))
      (src % 32) = true ∧ s.bit Reg.TALLY_EVQ Fld.TALLY_EVQ_EN = true) ∧
    (∃ (src : Nat) (w3 : Word) (s : State) (n : Nat), src < 320 ∧ s.tally.silent = false ∧ faultOf src = some n) ∧
    (∃ (src : Nat) (w3 : Word) (s : State) (n : Nat), src < 320 ∧ s.tally.silent = false ∧ faultOf src = some n ∧ s.sticky n =
      false ∧ Fld.TALLY_CLASS_CLASS.get (s.reg (Reg.TALLY_CLASS n)) = 1) ∧
    (∃ (src : Nat) (w3 : Word) (s : State) (n : Nat), src < 320 ∧ s.tally.silent = false ∧ faultOf src = some n ∧ s.sticky n =
      false ∧ Fld.TALLY_CLASS_CLASS.get (s.reg (Reg.TALLY_CLASS n)) = 2) ∧
    (∃ (src : Nat) (w3 : Word) (s : State) (n : Nat), src < 320 ∧ s.tally.silent = false ∧ faultOf src = some n ∧ s.noSticky =
      true) :=
  ⟨⟨0, 0, w0, by decide +kernel⟩,
   ⟨319, 0, (w0.setReg (Reg.EVG_ENABLE 9) 0x80000000).setBit Reg.TALLY_EVQ Fld.TALLY_EVQ_EN true, by decide +kernel⟩,
   ⟨0, 0, w0, 0, by decide +kernel⟩,
   ⟨0, 0, w0.setFld (Reg.TALLY_CLASS 0) Fld.TALLY_CLASS_CLASS 1, 0, by decide +kernel⟩,
   ⟨0, 0, w0.setFld (Reg.TALLY_CLASS 0) Fld.TALLY_CLASS_CLASS 2, 0, by decide +kernel⟩,
   ⟨0, 0, w0, 0, by decide +kernel⟩⟩

/-- The hypotheses of ForcesAndClears can be met. -/
theorem witness_ForcesAndClears :
    (∃ (w : Fin 6) (i : Nat) (s : State), i < 32 ∧ sourceAssigned (sourceOf (32 * (↑w : Nat) + i)) = true) ∧
    (∃ (w : Fin 6) (i : Fin 32) (w3 : Word) (s : State), sourceAssigned (sourceOf (32 * (↑w : Nat) + (↑i : Nat))) = true) ∧
    (∃ (w : Fin 6) (i : Nat) (s : State), i < 32) ∧
    (∃ (w : Fin 6) (i : Nat) (s : State), i < 32 ∧ s.sticky (32 * (↑w : Nat) + i) = true) ∧
    (∃ (n : Fin 192) (c : Bool) (s : State), s.inGrace (↑n : Nat) = true) ∧
    (∃ (n : Fin 192) (c : Bool) (s : State), s.inGrace (↑n : Nat) = false) :=
  ⟨⟨0, 0, w0, by decide +kernel⟩,
   ⟨0, 0, 0, w0, by decide +kernel⟩,
   ⟨0, 0, w0, by decide +kernel⟩,
   ⟨5, 31, w0.setReg (Reg.TALLY_STICKY 5) 0x80000000, by decide +kernel⟩,
   ⟨191, false, w0.setReg (Reg.TALLY_INGRACE 5) 0x80000000, by decide +kernel⟩,
   ⟨0, false, w0, by decide +kernel⟩⟩

/-- The hypotheses of ResetPins can be met. -/
theorem witness_ResetPins :
    (∃ (straps : BitVec 8) (s : State), s.power = Power.reset) ∧
    (∃ (straps : BitVec 8) (mode : BitVec 3) (s : State), s.power = Power.reset ∧ mode ≠ 0) ∧
    (∃ (straps : BitVec 8) (mode : BitVec 3) (s : State), s.power ≠ Power.reset) ∧
    (∃ (s : State) (ns : Nat), ns < 1000) ∧
    (∃ (s : State) (ns : Nat), 1000 ≤ ns ∧ ns < 10000) ∧
    (∃ (s : State), s.power = Power.reset) ∧
    (∃ (s : State) (straps : BitVec 8) (mode : BitVec 3), s.power = Power.reset) ∧
    (∃ (s : State) (ns : Nat), s.power = Power.reset ∧ 10000 ≤ ns) ∧
    (∃ (s : State) (c : Instr), s.power ≠ Power.reset ∧ (c = Instr.pwrgoodFall ∨ (∃ (straps : BitVec 8) (mode : BitVec 3), c =
      Instr.resetNRise straps mode false) ∨ ∃ (ns : Nat), 10000 ≤ ns ∧ c = Instr.resetNFall ns)) :=
  ⟨⟨0, w0, by decide +kernel⟩,
   ⟨0, 1, w0, by decide +kernel⟩,
   ⟨0, 0, wRun, by decide +kernel⟩,
   ⟨w0, 0, by decide +kernel⟩,
   ⟨w0, 9999, by decide +kernel⟩,
   ⟨w0, by decide +kernel⟩,
   ⟨w0, 0, 0, by decide +kernel⟩,
   ⟨w0, 10000, by decide +kernel⟩,
   ⟨wRun, _, ⟨by decide +kernel, .inr (.inl ⟨0xFF, 7, rfl⟩)⟩⟩⟩

/-- The hypotheses of PowerStates can be met. -/
theorem witness_PowerStates :
    (∃ (s : State), s.power = Power.held ∧ s.fld Reg.SENT_STATUS Fld.SENT_STATUS_CAUSE ≠ 3) ∧
    (∃ (s : State), s.power = Power.held) ∧
    (∃ (s : State), s.sysLocked = true ∧ s.tally.silent = false) ∧
    (∃ (s : State), s.power = Power.running ∧ s.boot.cleared = false) ∧
    (∃ (s : State), s.resetPending = true) ∧
    (∃ (n : Fin 10) (s : State), s.power = Power.dormant ∧ (s.fld Reg.FAB_WAKE_CTRL Fld.FAB_WAKE_CTRL_ARM).testBit (↑n : Nat)
      = true) ∧
    (∃ (s : State), s.audio = false ∧ s.seqState = 0 ∧ s.bit Reg.FAB_WAKE_CTRL Fld.FAB_WAKE_CTRL_SENDING = false) ∧
    (∃ (s : State), (s.audio = true ∨ s.seqState ≠ 0 ∨ s.bit Reg.FAB_WAKE_CTRL Fld.FAB_WAKE_CTRL_SENDING = true) ∧
      s.tally.silent = false) :=
  ⟨⟨{w0 with power := .held}, by decide +kernel⟩,
   ⟨{w0 with power := .held}, by decide +kernel⟩,
   ⟨w0.setBit Reg.SYNTH_SYS_STATUS Fld.SYNTH_SYS_STATUS_SYS_LOCK true, by decide +kernel⟩,
   ⟨wRun, by decide +kernel⟩,
   ⟨w0.setBit Reg.SENT_STATUS Fld.SENT_STATUS_RESET_PENDING true, by decide +kernel⟩,
   ⟨9, {w0 with power := .dormant}.setFld Reg.FAB_WAKE_CTRL Fld.FAB_WAKE_CTRL_ARM 512, by decide +kernel⟩,
   ⟨w0, by decide +kernel⟩,
   ⟨w0.setFld Reg.SEQ_STATUS Fld.SEQ_STATUS_STATE 1, by decide +kernel⟩⟩

/-- The hypotheses of SentinelActs can be met. -/
theorem witness_SentinelActs :
    (∃ (s : State), s.sent.ordered ≠ []) ∧
    (∃ (n : Nat) (s : State), n < 192 ∧ s.sent.ordered = [(n, 2)]) ∧
    (∃ (s : State), s.sent.ordered = []) ∧
    (∃ (s : State), s.sent.beating = true ∧ s.tally.silent = false ∧ s.resetPending = false) ∧
    (∃ (s : State), s.holding = true ∧ s.sent.holdOver = false ∧ s.tally.silent = false) ∧
    (∃ (s : State), s.holding = false ∨ s.sent.holdOver = true) :=
  ⟨⟨{w0 with sent := {ordered := [(1, 0)]}}, by decide +kernel⟩,
   ⟨191, {w0 with sent := {ordered := [(191, 2)]}}, by decide +kernel⟩,
   ⟨w0, by decide +kernel⟩,
   ⟨{w0 with sent := {beating := true}}, by decide +kernel⟩,
   ⟨w0.setBit Reg.SENT_STATUS Fld.SENT_STATUS_HOLDING true, by decide +kernel⟩,
   ⟨w0, by decide +kernel⟩⟩

/-- The hypotheses of RegisterWrites can be met. -/
theorem witness_RegisterWrites :
    (∃ (m : RegMaster) (addr : BitVec 32) (data : Word) (s : State) (r : RegRow), regionOf addr.toNat = Region.reg ∧ regRow
      addr.toNat = some r ∧ r.words ≤ 1 ∧ r.base ∉ ownRules ∧ s.hostBarred m addr.toNat = false) ∧
    (∃ (m : RegMaster) (g : Fin 10) (data : Word) (s : State), s.hostBarred m (Reg.EVG_ENABLE (↑g : Nat)) = false) ∧
    (∃ (m : RegMaster) (addr : BitVec 32) (data : Word) (s : State), inVat addr.toNat 4 = true ∧ s.rmwBad addr.toNat 4 = false
      ∧ s.hostBarred m addr.toNat = false) ∧
    (∃ (addr : BitVec 32) (data : Word) (s : State), s.released = false ∧ 1048576 ≤ addr.toNat ∧ (addr.toNat < 150994944 ∨
      152043520 ≤ addr.toNat) ∧ regionOf addr.toNat ≠ Region.nothing) ∧
    (∃ (addr : BitVec 32) (data : Word) (s : State), regionOf addr.toNat = Region.nothing) :=
  ⟨⟨.cpa, 0x200050, 0xFFFFFFFF, w0, ⟨0x200050, 1, 0x4, 1, 0x4, 0xa080064, 0x0, 0xffffffff, 0x0, 0x0, 0x0, 0, 1⟩,
     by decide +kernel⟩,
   ⟨.cpa, 0, 0, w0, by decide +kernel⟩,
   ⟨.cpa, 0x12FFFFFC, 0, w0, by decide +kernel⟩,
   ⟨0x08000000, 0, w0, by decide +kernel⟩,
   ⟨0x08FFFFFC, 0, w0, by decide +kernel⟩⟩

/-- The hypotheses of WideRegisters can be met. -/
theorem witness_WideRegisters :
    (∃ (m : RegMaster) (addr : BitVec 32) (s : State) (r : RegRow), regRow addr.toNat = some r ∧ 1 < r.words ∧ r.idx = 0) ∧
    (∃ (m : RegMaster) (addr : BitVec 32) (s : State) (r : RegRow), regRow addr.toNat = some r ∧ 0 < r.idx ∧ wideKey m
      addr.toNat ∈ s.fresh) ∧
    (∃ (m : RegMaster) (addr : BitVec 32) (s : State) (r : RegRow), regRow addr.toNat = some r ∧ 0 < r.idx ∧ wideKey m
      addr.toNat ∉ s.fresh) ∧
    (∃ (m : RegMaster) (addr : BitVec 32) (data : Word) (s : State) (r : RegRow), regRow addr.toNat = some r ∧ 0 < r.idx ∧
      wideWritable (wideBase addr.toNat r) r.words = true ∧ s.hostBarred m addr.toNat = false) ∧
    (∃ (m : RegMaster) (addr : BitVec 32) (data : Word) (s : State) (r : RegRow), regRow addr.toNat = some r ∧ s.hostBarred m
      addr.toNat = true) ∧
    (∃ (m : RegMaster) (addr : BitVec 32) (data : Word) (s : State) (r : RegRow) (x : Nat), regRow addr.toNat = some r ∧ (x =
      Reg.TIME_ADJ ∨ ∃ (n : Fin 4), x = Reg.TIME_PULSE_START (↑n : Nat) ∨ x = Reg.TIME_PULSE_PERIOD (↑n : Nat)) ∧ addr.toNat =
      x ∧ s.hostBarred m addr.toNat = false) ∧
    (∃ (m : RegMaster) (n : Fin 2) (data : Word) (s : State), s.hostBarred m (Reg.SYNTH_RATIO (↑n : Nat)) = false ∧ (↑n : Nat)
      ∉ s.heldPlls) :=
  ⟨⟨.host, 0x8, w0, ⟨0x8, 1, 0x4, 1, 0x4, 0x0, 0x0, 0x0, 0x0, 0x0, 0x0, 0, 2⟩, by decide +kernel⟩,
   ⟨.host, 0xC, {w0 with fresh := [wideKey .host 0xC]}, ⟨0xc, 1, 0x4, 1, 0x4, 0x0, 0x0, 0x0, 0x0, 0x0, 0x0, 1, 2⟩,
     by decide +kernel⟩,
   ⟨.host, 0xC, w0, ⟨0xc, 1, 0x4, 1, 0x4, 0x0, 0x0, 0x0, 0x0, 0x0, 0x0, 1, 2⟩, by decide +kernel⟩,
   ⟨.cpa, BitVec.ofNat 32 (Reg.TIME_ADJ + 4), 0, w0, (regRow (Reg.TIME_ADJ + 4)).getD ⟨0,0,0,0,0,0,0,0,0,0,0,0,0⟩,
     by decide +kernel⟩,
   ⟨.host, BitVec.ofNat 32 (Reg.TIME_ADJ + 4), 0, w0, (regRow (Reg.TIME_ADJ + 4)).getD ⟨0,0,0,0,0,0,0,0,0,0,0,0,0⟩,
     by decide +kernel⟩,
   ⟨.cpa, BitVec.ofNat 32 Reg.TIME_ADJ, 0, w0, (regRow Reg.TIME_ADJ).getD ⟨0,0,0,0,0,0,0,0,0,0,0,0,0⟩, Reg.TIME_ADJ,
     ⟨by decide +kernel, .inl rfl, by decide +kernel, by decide +kernel⟩⟩,
   ⟨.cpa, 0, 0, w0, by decide +kernel⟩⟩

/-- The hypotheses of ReservedOffsets can be met. -/
theorem witness_ReservedOffsets :
    (∃ (m : RegMaster) (addr : BitVec 32) (data : Word) (s : State), regionOf addr.toNat = Region.reg ∧ regRow addr.toNat =
      none ∧ s.hostBarred m addr.toNat = false) ∧
    (∃ (via : HostPath) (be : List (BitVec 4)) (s : State) (a : Nat), s.hostReaches via 4 1 0 a ∧ s.wholeWords be ∧ a % 4 = 0
      ∧ regionOf a = Region.reg ∧ regRow a = none ∧ (a < 33554432 ∨ 37748736 ≤ a) ∧ (a < srcCoefAt ∨ srcCoefAt + 4 * 131073 ≤
      a)) :=
  ⟨⟨.host, 1, 0, w0, by decide +kernel⟩,
   ⟨.qspi 0x40 0x500, [], wSpi, 0x500, ⟨⟨by decide +kernel, rfl, by decide +kernel, by decide +kernel, by decide +kernel,
     by decide +kernel⟩, .inr (by decide), by decide +kernel⟩⟩⟩

/-- The hypotheses of SerialPorts can be met. -/
theorem witness_SerialPorts :
    (∃ (p : Fin 32) (data : Word) (s : State), s.bit (Reg.SAP_CTRL (↑p : Nat)) Fld.SAP_CTRL_EN = false) ∧
    (∃ (p : Fin 32) (data : Word) (s : State), s.bit (Reg.SAP_CTRL (↑p : Nat)) Fld.SAP_CTRL_EN = true ∧ s.fld (Reg.SAP_CTRL
      (↑p : Nat)) (⟨1, 6⟩ : Field) = (⟨1, 6⟩ : Field).get data ∧ Fld.SAP_CTRL_EN.get data = 0) ∧
    (∃ (p : Fin 32) (data : Word) (s : State), s.bit (Reg.SAP_CTRL (↑p : Nat)) Fld.SAP_CTRL_EN = true ∧ s.fld (Reg.SAP_CTRL
      (↑p : Nat)) (⟨1, 6⟩ : Field) ≠ (⟨1, 6⟩ : Field).get data) ∧
    (∃ (p : Fin 32) (f : SapFrame) (s : State), s.sapState (↑p : Nat) = 0) ∧
    (∃ (p : Fin 32) (f : SapFrame) (s : State), s.sapState (↑p : Nat) = 1) ∧
    (∃ (p : Fin 32) (f : SapFrame) (s : State), s.sapState (↑p : Nat) = 3) ∧
    (∃ (p : Fin 32) (f : SapFrame) (s : State), s.sapState (↑p : Nat) = 2 ∧ s.sapCause (↑p : Nat) f ≠ 0) ∧
    (∃ (p : Fin 32) (f : SapFrame) (s : State) (n : Nat) (b : Nat), s.sapState (↑p : Nat) = 2 ∧ s.sapSrc (↑p : Nat) = false ∧
      s.sapCause (↑p : Nat) f = 0 ∧ s.sapCtl (↑p : Nat) Fld.SAP_CTRL_RX_EN = 1 ∧ n = sampleAt s.hz (s.sapEdge (↑p : Nat) f) ∧
      b = s.regN (Reg.SAP_RXBASE (↑p : Nat)) + 64 * (n / 8 % 4) + 4 * (n % 8) ∧ inVat b 36 = true ∧ s.rmwBad b 4 = false ∧
      s.rmwBad (b + 32) 4 = false) ∧
    (∃ (p : Fin 32) (k : Nat) (s : State), s.sapSrc (↑p : Nat) = false ∧ s.sapFed (↑p : Nat) k = false ∧ edgePt s.hz (8 * k +
      8) + secUnit / (2 * s.hz) + 400 * nsUnit ≤ s.now ∧ inVat (s.regN (Reg.SAP_RXBASE (↑p : Nat)) + 64 * (k % 4)) 64 = true ∧
      (s.seq.tasks.any fun (x : Machine.Task) => x.folio == k) = false ∧ ∀ j < 16, s.rmwBad (s.regN (Reg.SAP_RXBASE (↑p :
      Nat)) + 64 * (k % 4) + 4 * j) 4 = false) ∧
    (∃ (p : Fin 32) (k : Nat) (s : State), s.sapSrc (↑p : Nat) = true ∨ s.sapFed (↑p : Nat) k = true ∨ s.now < edgePt s.hz (8
      * k + 8) + secUnit / (2 * s.hz) + 400 * nsUnit) ∧
    (∃ (p : Fin 32) (s : State), s.sapState (↑p : Nat) = 1 ∨ s.sapState (↑p : Nat) = 2) :=
  ⟨⟨0, 0, w0, by decide +kernel⟩,
   ⟨31, w0.reg (Reg.SAP_CTRL 31) &&& 0xFFFFFFFE, w0.setBit (Reg.SAP_CTRL 31) Fld.SAP_CTRL_EN true, by decide +kernel⟩,
   ⟨31, 2, w0.setBit (Reg.SAP_CTRL 31) Fld.SAP_CTRL_EN true, by decide +kernel⟩,
   ⟨31, ⟨64, 0, 0, 0, 0, 0, 0⟩, w0, by decide +kernel⟩,
   ⟨31, ⟨64, 0, 0, 0, 0, 0, 0⟩, wSap 1, by decide +kernel⟩,
   ⟨31, ⟨64, 0, 0, 0, 0, 0, 0⟩, wSap 3, by decide +kernel⟩,
   ⟨31, ⟨63, 0, 0, 0, 0, 0, 0⟩, wSap 2, by decide +kernel⟩,
   ⟨31, ⟨64, 200 * nsUnit, 0, 0, 2666667, 0, 0⟩, ((wSap 2).setFld (Reg.SAP_CTRL 31) Fld.SAP_CTRL_RX_EN 1).setReg
     (Reg.SAP_RXBASE 31) 0x10000000, _, _, ⟨by decide +kernel, by decide +kernel, by decide +kernel, by decide +kernel, rfl,
     rfl, by decide +kernel, by decide +kernel, by decide +kernel⟩⟩,
   ⟨31, 0, ((wSap 2).setReg (Reg.SAP_RXBASE 31) 0x12FFFFC0).setNow secUnit, by decide +kernel⟩,
   ⟨0, 0, w0, by decide +kernel⟩,
   ⟨31, wSap 2, by decide +kernel⟩⟩

/-- The hypotheses of AnalogueInputs can be met. -/
theorem witness_AnalogueInputs :
    (∃ (data : Word) (s : State), Fld.AIN_CTRL_EN.get data = 1) ∧
    (∃ (data : Word) (s : State), Fld.AIN_CTRL_EN.get data = 0) ∧
    (∃ (s : State), s.ain.sync = [] ∨ s.folio = s.ain.syncFolio) ∧
    (∃ (s : State), s.ain.sync ≠ [] ∧ s.folio ≠ s.ain.syncFolio) ∧
    (∃ (k : Nat) (samples : List (List Word)) (overload : BitVec 16) (s : State), s.bit Reg.AIN_CTRL Fld.AIN_CTRL_EN = false ∨
      s.now < edgePt s.hz (8 * k + 7)) ∧
    (∃ (k : Nat) (samples : List (List Word)) (overload : BitVec 16) (s : State), s.bit Reg.AIN_CTRL Fld.AIN_CTRL_EN = true ∧
      edgePt s.hz (8 * k + 7) ≤ s.now ∧ inVat (s.regN Reg.AIN_RXBASE + 512 * (k % 4)) 512 = true ∧ (s.seq.tasks.any fun (x :
      Machine.Task) => x.folio == k) = false ∧ ∀ c < 16, s.rmwBad (s.regN Reg.AIN_RXBASE + 512 * (k % 4) + 32 * c) 32 = false) ∧
    (∃ (s : State) (c : Nat) (rot : Bool), s.bit Reg.AIN_CTRL Fld.AIN_CTRL_EN = true ∧ s.ain.step = none ∧ s.fld
      Reg.AIN_STATUS Fld.AIN_STATUS_SPARE ≠ 31 ∧ s.bit Reg.AIN_STATUS Fld.AIN_STATUS_CAL_STOPPED = false ∧ s.calNext = some
      (c, rot)) ∧
    (∃ (s : State), s.bit Reg.AIN_CTRL Fld.AIN_CTRL_EN = false ∨ s.ain.step ≠ none ∨ s.bit Reg.AIN_STATUS
      Fld.AIN_STATUS_CAL_STOPPED = true ∨ s.fld Reg.AIN_STATUS Fld.AIN_STATUS_SPARE = 31 ∨ s.calNext = none) ∧
    (∃ (r : CalRecord) (s : State), s.ain.step = none) ∧
    (∃ (r : CalRecord) (s : State) (st : CalStep), s.ain.step = some st ∧ st.left ≠ 0 ∧ st.ch < 16 ∧ st.spare < 17 ∧ CalWithin
      r (2 ^ 23) 100) ∧
    (∃ (r : CalRecord) (s : State) (st : CalStep), s.ain.step = some st ∧ st.left = 0 ∧ st.freed < 17 ∧ CalWithin r (2 ^ 23)
      100) ∧
    (∃ (r : CalRecord) (s : State) (st : CalStep), s.ain.step = some st ∧ st.left = 0 ∧ ¬CalWithin r (2 ^ 23) 100) ∧
    (∃ (r : CalRecord) (s : State) (st : CalStep), s.ain.step = some st ∧ st.left ≠ 0 ∧ st.ch < 16 ∧ st.spare < 17 ∧
      ¬CalWithin r (2 ^ 23) 100) :=
  ⟨⟨1, w0, by decide +kernel⟩,
   ⟨0, w0, by decide +kernel⟩,
   ⟨w0, by decide +kernel⟩,
   ⟨{w0 with ain := {sync := [0]}}.setNow secUnit, by decide +kernel⟩,
   ⟨0, [], 0, w0, by decide +kernel⟩,
   ⟨0, [], 0, ((w0.setBit Reg.AIN_CTRL Fld.AIN_CTRL_EN true).setReg Reg.AIN_RXBASE 0x12FFFE00).setNow secUnit,
     by decide +kernel⟩,
   ⟨{w0 with ain := {pass := [15]}}.setBit Reg.AIN_CTRL Fld.AIN_CTRL_EN true |>.setFld Reg.AIN_STATUS Fld.AIN_STATUS_SPARE 16,
     15, false, by decide +kernel⟩,
   ⟨w0, by decide +kernel⟩,
   ⟨⟨0, 0, 0, 0⟩, w0, by decide +kernel⟩,
   ⟨⟨0x800000, 0x80000000, 0, 0⟩, {w0 with ain := {step := some {ch := 15, spare := 16, left := 7}}},
     {ch := 15, spare := 16, left := 7}, by unfold CalWithin; decide +kernel⟩,
   ⟨⟨0x800000, 0x80000000, 0, 0⟩, {w0 with ain := {step := some {ch := 15, spare := 16, left := 0, freed := 16}}},
     {ch := 15, spare := 16, left := 0, freed := 16}, by unfold CalWithin; decide +kernel⟩,
   ⟨⟨0x800001, 0x80000000, 0, 0⟩, {w0 with ain := {step := some {ch := 15, spare := 16, left := 0}}},
     {ch := 15, spare := 16, left := 0}, by unfold CalWithin; decide +kernel⟩,
   ⟨⟨0, 0, 0, 0⟩, {w0 with ain := {step := some {ch := 15, spare := 16, left := 7}}}, {ch := 15, spare := 16, left := 7},
     by unfold CalWithin; decide +kernel⟩⟩

/-- The hypotheses of AnalogueOutputs can be met. -/
theorem witness_AnalogueOutputs :
    (∃ (o : Fin 14) (data : Word) (s : State), s.outState (↑o : Nat) = 0 ∧ Fld.AOUT_OUT_CFG_EN.get data = 1) ∧
    (∃ (o : Fin 14) (data : Word) (s : State), s.outState (↑o : Nat) = 2 ∧ Fld.AOUT_OUT_CFG_EN.get data = 0) ∧
    (∃ (o : Fin 14) (data : Word) (s : State) (m : Bool), (s.outState (↑o : Nat) = 2 ∨ s.outState (↑o : Nat) = 3) ∧
      Fld.AOUT_OUT_CFG_EN.get data = 1 ∧ m = (Fld.AOUT_OUT_CFG_MUTE.get data == 1 || Fld.AOUT_OUT_CFG_AUTO_MUTE.get data == 1
      && !s.inserted (Fld.AOUT_OUT_CFG_JD.get data) || s.bit (Reg.AOUT_OUT_STATUS (↑o : Nat)) Fld.AOUT_OUT_STATUS_MUTE_CLK)) ∧
    (∃ (o : Fin 14) (data : Word) (s : State), s.outState (↑o : Nat) = 6 ∧ Fld.AOUT_OUT_CFG_EN.get data = 0) ∧
    (∃ (k : Fin 2) (s : State) (n : Nat), (s.outState (12 + (↑k : Nat)) = 2 ∨ s.outState (12 + (↑k : Nat)) = 3) ∧ n =
      (List.filter (fun (x : Nat) => decide (s.now < x + secUnit)) (SMap.find [] s.aout.trips (↑k : Nat))).length) ∧
    (∃ (k : Fin 2) (s : State), s.outState (12 + (↑k : Nat)) ≠ 2 ∧ s.outState (12 + (↑k : Nat)) ≠ 3) ∧
    (∃ (k : Fin 2) (s : State), s.outState (12 + (↑k : Nat)) = 6 ∧ s.bit (Reg.AOUT_OUT_STATUS (12 + (↑k : Nat)))
      Fld.AOUT_OUT_STATUS_OC_LATCH = false) ∧
    (∃ (k : Fin 2) (s : State), s.outState (12 + (↑k : Nat)) ≠ 6 ∨ s.bit (Reg.AOUT_OUT_STATUS (12 + (↑k : Nat)))
      Fld.AOUT_OUT_STATUS_OC_LATCH = true) ∧
    (∃ (missing : Bool) (ppm : Int) (s : State), missing = true ∨ 20000 < ppm.natAbs) ∧
    (∃ (ppm : Int) (s : State), ppm.natAbs ≤ 20000) ∧
    (∃ (n : Fin 4) (mv : Nat) (s : State) (pol : Bool), (s.fld Reg.AOUT_JD_CTRL Fld.AOUT_JD_CTRL_EN).testBit (↑n : Nat) = true
      ∧ pol = (s.fld Reg.AOUT_JD_CTRL Fld.AOUT_JD_CTRL_POL).testBit (↑n : Nat)) ∧
    (∃ (n : Fin 4) (s : State) (raw : Bool), (s.fld Reg.AOUT_JD_CTRL Fld.AOUT_JD_CTRL_EN).testBit (↑n : Nat) = true ∧ raw =
      (s.fld Reg.AOUT_JD_STATUS Fld.AOUT_JD_STATUS_RAW).testBit (↑n : Nat) ∧ raw ≠ s.inserted (↑n : Nat)) ∧
    (∃ (s : State), s.aout.pvddLow = true ∧ s.aout.pvddHigh = false) ∧
    (∃ (s : State), s.aout.pvddHigh = false) :=
  ⟨⟨0, 1, w0, by decide +kernel⟩,
   ⟨13, 0, wOut 13 2, by decide +kernel⟩,
   ⟨13, Fld.AOUT_OUT_CFG_EN.put 0 1, wOut 13 3, _, ⟨by decide +kernel, by decide +kernel, rfl⟩⟩,
   ⟨13, 0, wOut 13 6, by decide +kernel⟩,
   ⟨1, wOut 13 2, _, ⟨by decide +kernel, rfl⟩⟩,
   ⟨0, w0, by decide +kernel⟩,
   ⟨1, wOut 13 6, by decide +kernel⟩,
   ⟨0, w0, by decide +kernel⟩,
   ⟨true, 0, w0, by decide +kernel⟩,
   ⟨0, w0, by decide +kernel⟩,
   ⟨3, 0, w0.setFld Reg.AOUT_JD_CTRL Fld.AOUT_JD_CTRL_EN 8, _, ⟨by decide +kernel, rfl⟩⟩,
   ⟨3, (w0.setFld Reg.AOUT_JD_CTRL Fld.AOUT_JD_CTRL_EN 8).setFld Reg.AOUT_JD_STATUS Fld.AOUT_JD_STATUS_RAW 8, true,
     by decide +kernel⟩,
   ⟨w0, by decide +kernel⟩,
   ⟨w0, by decide +kernel⟩⟩

/-- The hypotheses of LampsAndHousekeeping can be met. -/
theorem witness_LampsAndHousekeeping :
    (∃ (l : Fin 8) (j : Nat) (s : State), s.now < lampStart (↑l : Nat) j) ∧
    (∃ (l : Fin 8) (j : Nat) (s : State), lampStart (↑l : Nat) j ≤ s.now ∧ s.lampEn (↑l : Nat) = true ∧ s.lampSwitch (↑l :
      Nat) = false) ∧
    (∃ (l : Fin 8) (j : Nat) (s : State), lampStart (↑l : Nat) j ≤ s.now ∧ (s.lampEn (↑l : Nat) = false ∨ s.lampSwitch (↑l :
      Nat) = true)) ∧
    (∃ (i : BitVec 6) (s : State), s.noLampDue ∧ s.hadc.queue.length < 4 ∧ s.hadc.swapWait = none) ∧
    (∃ (i : BitVec 6) (s : State) (l : Fin 8) (pt : Nat), s.lamp.due = [((↑l : Nat), pt)] ∧ pt ≤ s.now ∧ s.hadc.queue.length <
      3 ∧ s.hadc.swapWait = none) ∧
    (∃ (i : BitVec 6) (s : State) (k : Nat), s.noLampDue ∧ s.hadc.queue.length < 4 ∧ s.hadc.swapWait = some k) ∧
    (∃ (i : BitVec 6) (s : State), s.noLampDue ∧ 4 ≤ s.hadc.queue.length) ∧
    (∃ (s : State), s.noLampDue ∧ s.bit Reg.HADC_CTRL Fld.HADC_CTRL_EN = false) ∧
    (∃ (s : State) (i : Nat) (q : List Conv), s.noLampDue ∧ s.bit Reg.HADC_CTRL Fld.HADC_CTRL_EN = true ∧ s.hadc.queue =
      Conv.soft i :: q) ∧
    (∃ (s : State) (l : Nat) (b : Bool) (q : List Conv), s.noLampDue ∧ s.bit Reg.HADC_CTRL Fld.HADC_CTRL_EN = true ∧
      s.hadc.queue = Conv.lamp l b :: q) ∧
    (∃ (s : State) (c : Conv) (r : List Conv), s.noLampDue ∧ s.bit Reg.HADC_CTRL Fld.HADC_CTRL_EN = true ∧ s.hadc.queue = [] ∧
      s.hadc.restart = c :: r) ∧
    (∃ (s : State) (n : Nat) (e : Nat), s.noLampDue ∧ s.bit Reg.HADC_CTRL Fld.HADC_CTRL_EN = true ∧ s.hadc.queue = [] ∧
      s.hadc.restart = [] ∧ n = s.fld Reg.HADC_STATUS Fld.HADC_STATUS_NEXT ∧ e < 32 ∧ s.seqOn ((n + e) % 32) = true ∧ ∀ d < e,
      s.seqOn ((n + d) % 32) = false) ∧
    (∃ (p : Fin 8) (raw : BitVec 20) (s : State), s.noLampDue ∧ SMap.find none s.hadc.conv (↑p : Nat) = none) ∧
    (∃ (p : Fin 8) (raw : BitVec 20) (s : State) (e : Nat) (i : Nat) (c : Nat), SMap.find none s.hadc.conv (↑p : Nat) = some
      (Conv.entry e i) ∧ e < 32 ∧ c = (s.convCode (s.hadc.slices.getD (↑p : Nat) 0) raw).1 ∧ s.hadc.swapWait = none ∧
      s.noLampDue) ∧
    (∃ (p : Fin 8) (raw : BitVec 20) (s : State) (i : Nat) (c : Nat), SMap.find none s.hadc.conv (↑p : Nat) = some (Conv.soft
      i) ∧ i < 64 ∧ c = (s.convCode (s.hadc.slices.getD (↑p : Nat) 0) raw).1 ∧ s.hadc.swapWait = none ∧ s.noLampDue) ∧
    (∃ (p : Fin 8) (raw : BitVec 20) (s : State) (l : Fin 8) (c : Nat) (d : Nat), SMap.find none s.hadc.conv (↑p : Nat) = some
      (Conv.lamp (↑l : Nat) true) ∧ c = (s.convCode (s.hadc.slices.getD (↑p : Nat) 0) raw).1 ∧ s.hadc.swapWait = none ∧
      s.noLampDue ∧ s.lamp.tested.getLsbD (↑l : Nat) = true ∧ d = if c < s.fld Reg.LAMP_THRESH Fld.LAMP_THRESH_OPEN_TH then 2
      else if s.fld Reg.LAMP_THRESH Fld.LAMP_THRESH_SHORT_TH < c then 3 else 1) ∧
    (∃ (p : Fin 8) (raw : BitVec 20) (s : State) (l : Nat), SMap.find none s.hadc.conv (↑p : Nat) = some (Conv.lamp l false) ∧
      s.hadc.swapWait = none ∧ s.noLampDue) ∧
    (∃ (p : Fin 8) (raw : BitVec 20) (s : State) (i : Nat), SMap.find none s.hadc.conv (↑p : Nat) = some (Conv.soft i) ∧
      s.hadc.swapWait = some (s.hadc.slices.getD (↑p : Nat) 0) ∧ s.slicePos (s.hadc.slices.getD (↑p : Nat) 0) ≠ none ∧
      s.noLampDue) ∧
    (∃ (p : Fin 8) (raw : BitVec 20) (s : State) (l : Fin 8) (pt : Nat) (k : Nat) (c : Conv), s.lamp.due = [((↑l : Nat), pt)]
      ∧ pt ≤ s.now ∧ s.hadc.queue.length < 4 ∧ s.hadc.swapWait = some k ∧ s.slicePos k = some (↑p : Nat) ∧ SMap.find none
      s.hadc.conv (↑p : Nat) = some c) ∧
    (∃ (s : State) (i : Nat) (p : Nat), s.noLampDue ∧ s.bit Reg.HADC_CTRL Fld.HADC_CTRL_EN = true ∧ s.bit Reg.HADC_CTRL
      Fld.HADC_CTRL_CAL_EN = true ∧ s.hadc.cal = none ∧ s.hadc.swapWait = none ∧ s.nextSwap = some i ∧ s.slicePos i = some p) ∧
    (∃ (r : CalRecord) (s : State) (i : Nat), s.hadc.cal = some i ∧ i < 9) ∧
    (∃ (r : CalRecord) (s : State), s.hadc.cal = none) :=
  ⟨⟨0, 1, w0, by decide +kernel⟩,
   ⟨0, 0, w0.setBit (Reg.LAMP_CTRL 0) Fld.LAMP_CTRL_EN true, by decide +kernel⟩,
   ⟨0, 0, w0, by decide +kernel⟩,
   ⟨63, w0, by unfold State.noLampDue; decide +kernel⟩,
   ⟨63, {w0 with lamp := {due := [(7, 0)]}}, 7, 0, by decide +kernel⟩,
   ⟨63, {w0 with hadc := {swapWait := some 8}}, 8, by unfold State.noLampDue; decide +kernel⟩,
   ⟨63, {w0 with hadc := {queue := [.soft 0, .soft 1, .soft 2, .soft 3]}}, by unfold State.noLampDue; decide +kernel⟩,
   ⟨{w0 with lamp := {due := [(7, 1)]}}, by unfold State.noLampDue; decide +kernel⟩,
   ⟨{wHadc with hadc := {queue := [.soft 63]}}, 63, [], by unfold State.noLampDue; decide +kernel⟩,
   ⟨{wHadc with hadc := {queue := [.lamp 7 true]}}, 7, true, [], by unfold State.noLampDue; decide +kernel⟩,
   ⟨{wHadc with hadc := {restart := [.soft 63]}}, .soft 63, [], by unfold State.noLampDue; decide +kernel⟩,
   ⟨wHadc, _, 30, ⟨by unfold State.noLampDue; decide +kernel, by decide +kernel, by decide +kernel, by decide +kernel, rfl,
     by decide +kernel⟩⟩,
   ⟨7, 0, w0, by unfold State.noLampDue; decide +kernel⟩,
   ⟨7, 0, {w0 with hadc := {conv := [(7, some (.entry 31 0))]}}, 31, 0, _, ⟨by decide +kernel, by decide +kernel, rfl,
     by decide +kernel, by unfold State.noLampDue; decide +kernel⟩⟩,
   ⟨7, 0, {w0 with hadc := {conv := [(7, some (.soft 63))]}}, 63, _, ⟨by decide +kernel, by decide +kernel, rfl,
     by decide +kernel, by unfold State.noLampDue; decide +kernel⟩⟩,
   ⟨7, 0, {w0 with hadc := {conv := [(7, some (.lamp 7 true))]}, lamp := {tested := 0x80}}, 7, _, _, ⟨by decide +kernel, rfl,
     by decide +kernel, by unfold State.noLampDue; decide +kernel, by decide +kernel, rfl⟩⟩,
   ⟨7, 0, {w0 with hadc := {conv := [(7, some (.lamp 7 false))]}}, 7, by unfold State.noLampDue; decide +kernel⟩,
   ⟨7, 0, {w0 with hadc := {conv := [(7, some (.soft 63))], swapWait := some 7}}, 63,
     by unfold State.noLampDue; decide +kernel⟩,
   ⟨7, 0, {w0 with hadc := {conv := [(7, some (.soft 63))], swapWait := some 7}, lamp := {due := [(7, 0)]}}, 7, 0, 7, .soft
     63, by decide +kernel⟩,
   ⟨wHadc.setBit Reg.HADC_CTRL Fld.HADC_CTRL_CAL_EN true |>.setFld Reg.HADC_STATUS Fld.HADC_STATUS_SPARE 8, 0, 0,
     by unfold State.noLampDue; decide +kernel⟩,
   ⟨⟨0, 0, 0, 0⟩, {w0 with hadc := {cal := some 8}}, 8, by decide +kernel⟩,
   ⟨⟨0, 0, 0, 0⟩, w0, by decide +kernel⟩⟩

/-- The hypotheses of BootSequence can be met. -/
theorem witness_BootSequence :
    (∃ (ms : Nat) (s : State), s.bootState = 0 ∧ s.sysLocked = true ∧ s.boot.cleared = true ∧ s.control.1 ≠ none ∧ s.fld
      Reg.BOOT_STRAP Fld.BOOT_STRAP_SLOT_POLICY ≠ 3) ∧
    (∃ (ms : Nat) (s : State), s.bootState = 0 ∧ s.sysLocked = true ∧ s.boot.cleared = true ∧ (s.control.1 = none ∨ s.fld
      Reg.BOOT_STRAP Fld.BOOT_STRAP_SLOT_POLICY = 3)) ∧
    (∃ (ms : Nat) (s : State), s.bootState ≠ 0 ∨ s.sysLocked = false ∨ s.boot.cleared = false) ∧
    (∃ (r : Sfdp) (ms : Nat) (s : State), s.bootState = 1 ∧ r.timeout = false ∧ r.valid = true ∧ r.erase64 = true ∧ 32 ≤
      r.capMiB) ∧
    (∃ (r : Sfdp) (ms : Nat) (s : State), s.bootState = 1 ∧ (r.timeout = true ∨ r.valid = false ∨ r.erase64 = false ∨ r.capMiB
      < 32)) ∧
    (∃ (r : Sfdp) (ms : Nat) (s : State), s.bootState ≠ 1) ∧
    (∃ (e : Bool) (ms : Nat) (s : State), s.bootState ≠ 2) ∧
    (∃ (e : Bool) (ms : Nat) (s : State) (v : State) (h : List Byte), s.bootState = 2 ∧ h = s.slotHeader s.bootSlot ∧ v =
      (s.slotVerdict e).2) :=
  ⟨⟨0, wBoot.setControl (fun ws => ws), by decide +kernel⟩,
   ⟨0, wBoot, by decide +kernel⟩,
   ⟨0, w0, by decide +kernel⟩,
   ⟨⟨true, true, false, 32⟩, 0, wSt 1, by decide +kernel⟩,
   ⟨⟨true, true, false, 31⟩, 0, wSt 1, by decide +kernel⟩,
   ⟨⟨true, true, false, 31⟩, 0, wSt 0, by decide +kernel⟩,
   ⟨false, 0, w0, by decide +kernel⟩,
   ⟨true, 0, wSt 2, _, _, ⟨by decide +kernel, rfl, rfl⟩⟩⟩

/-- The hypotheses of FlashCommands can be met. -/
theorem witness_FlashCommands :
    (∃ (c : Instr) (op : Nat) (m : RegMaster) (s : State), (c, op) ∈ [(Instr.flashErase m, 1), (Instr.flashProgram m, 2),
      (Instr.flashRead m, 3)] ∧ bootMaster m = true ∧ s.bootBusy = false ∧ (s.bootState = 3 ∨ s.bootState = 4) ∧ s.flashArgsOk
      op = true ∧ (op = 3 ∨ s.bootState = 4 ∨ s.touches (s.bootArg 0) (flashLen op (s.bootArg 1) (s.bootArg 2)) s.bootSlot =
      false)) ∧
    (∃ (c : Instr) (m : RegMaster) (ms : Nat) (s : State), c ∈ [Instr.flashErase m, Instr.flashProgram m, Instr.flashRead m,
      Instr.verifySlot m, Instr.setPreferred m, Instr.clearAttempts m, Instr.keyProgram m, Instr.keyRevoke m, Instr.reboot m,
      Instr.retry m ms, Instr.bootConfirm m] ∧ bootMaster m = true ∧ s.bootBusy = true) ∧
    (∃ (c : Instr) (m : RegMaster) (ms : Nat) (s : State), c ∈ [Instr.flashErase m, Instr.flashProgram m, Instr.flashRead m,
      Instr.verifySlot m, Instr.setPreferred m, Instr.clearAttempts m, Instr.keyProgram m, Instr.keyRevoke m, Instr.reboot m,
      Instr.retry m ms, Instr.bootConfirm m] ∧ bootMaster m = false) ∧
    (∃ (c : Instr) (m : RegMaster) (s : State), c ∈ [Instr.flashErase m, Instr.flashProgram m, Instr.flashRead m,
      Instr.verifySlot m] ∧ bootMaster m = true ∧ s.bootBusy = false ∧ s.bootState ≠ 3 ∧ s.bootState ≠ 4) ∧
    (∃ (j : BootJob) (s : State), s.boot.job = some j ∧ j.op = 1) ∧
    (∃ (j : BootJob) (s : State), s.boot.job = some j ∧ j.op = 2) ∧
    (∃ (j : BootJob) (s : State), s.boot.job = some j ∧ j.op = 3 ∧ inVat (BitVec.toNat j.arg1) (BitVec.toNat j.arg2) = true ∧
      s.rmwBad (BitVec.toNat j.arg1) (BitVec.toNat j.arg2) = false) ∧
    (∃ (j : BootJob) (r : FlashResult) (s : State), s.boot.job = some j ∧ j.op ≠ 4 ∧ r ≠ FlashResult.ok) ∧
    (∃ (m : RegMaster) (s : State), bootMaster m = true ∧ s.bootBusy = false ∧ (s.bootState = 3 ∨ s.bootState = 4)) ∧
    (∃ (j : BootJob) (e : Bool) (s : State) (v : Field), s.boot.job = some j ∧ j.op = 4 ∧ v = verifiedFld (BitVec.toNat j.arg0
      % 2)) :=
  ⟨⟨_, _, .host, (wSt 3).setReg (Reg.BOOT_ARG 1) 0x10000000, ⟨List.mem_cons_of_mem _ (List.mem_cons_of_mem _ List.mem_cons_self),
     by decide +kernel⟩⟩,
   ⟨_, .host, 0, w0.setBit Reg.BOOT_CMD_STATUS Fld.BOOT_CMD_STATUS_BUSY true, ⟨List.mem_cons_self, by decide +kernel⟩⟩,
   ⟨_, .boot, 0, w0, ⟨List.mem_cons_self, by decide +kernel⟩⟩,
   ⟨_, .host, w0, ⟨List.mem_cons_self, by decide +kernel⟩⟩,
   ⟨⟨1, 0, 0, 0⟩, {w0 with boot := {job := some ⟨1, 0, 0, 0⟩}}, by decide +kernel⟩,
   ⟨⟨2, 0, 0, 0⟩, {w0 with boot := {job := some ⟨2, 0, 0, 0⟩}}, by decide +kernel⟩,
   ⟨⟨3, 0, 0x12FF0000, 0x10000⟩, {w0 with boot := {job := some ⟨3, 0, 0x12FF0000, 0x10000⟩}}, by decide +kernel⟩,
   ⟨⟨1, 0, 0, 0⟩, .failed, {w0 with boot := {job := some ⟨1, 0, 0, 0⟩}}, by decide +kernel⟩,
   ⟨.host, wSt 4, by decide +kernel⟩,
   ⟨⟨4, 1, 0, 0⟩, true, {w0 with boot := {job := some ⟨4, 1, 0, 0⟩}}, _, ⟨rfl, rfl, rfl⟩⟩⟩

/-- The hypotheses of LedgerCommands can be met. -/
theorem witness_LedgerCommands :
    (∃ (m : RegMaster) (s : State) (slot : Nat), bootMaster m = true ∧ s.bootBusy = false ∧ slot = s.bootArg 0 % 2 ∧ s.bit
      Reg.BOOT_STATUS (verifiedFld slot) = true ∧ s.ledgerWord true 0 4096 = none) ∧
    (∃ (m : RegMaster) (s : State), bootMaster m = true ∧ s.bootBusy = false ∧ s.bit Reg.BOOT_STATUS (verifiedFld (s.bootArg 0
      % 2)) = false) ∧
    (∃ (m : RegMaster) (s : State) (c : Instr) (slot : Nat), bootMaster m = true ∧ s.bootBusy = false ∧ (c =
      Instr.clearAttempts m ∧ slot = s.bootArg 0 % 2 ∨ c = Instr.bootConfirm m ∧ s.bootState = 3 ∧ slot = s.bootSlot) ∧
      s.ledgerWord true 0 4096 = none) ∧
    (∃ (m : RegMaster) (s : State), bootMaster m = true ∧ s.bootBusy = false ∧ s.bootState ≠ 3) ∧
    (∃ (m : RegMaster) (s : State) (i : Nat), bootMaster m = true ∧ s.bootBusy = false ∧ i = s.bootArg 0 ∧ i < 4 ∧ inVat
      (s.bootArg 1) 96 = true ∧ testBit (s.keyWord i) 0 = false) ∧
    (∃ (m : RegMaster) (s : State) (i : Nat), bootMaster m = true ∧ s.bootBusy = false ∧ i = s.bootArg 0 ∧ i < 4 ∧ inVat
      (s.bootArg 1) 96 = true ∧ testBit (s.keyWord i) 0 = true) ∧
    (∃ (m : RegMaster) (s : State) (i : Nat) (k : Nat), bootMaster m = true ∧ s.bootBusy = false ∧ i = s.bootArg 0 ∧ i < 4 ∧ k
      < 4 ∧ k ≠ i ∧ s.keyUsable k = true) ∧
    (∃ (m : RegMaster) (s : State) (i : Nat), bootMaster m = true ∧ s.bootBusy = false ∧ i = s.bootArg 0 ∧ i < 4 ∧ ∀ k < 4, k
      ≠ i → s.keyUsable k = false) ∧
    (∃ (m : RegMaster) (s : State) (c : Instr), bootMaster m = true ∧ s.bootBusy = false ∧ (c = Instr.keyProgram m ∧ (4 ≤
      s.bootArg 0 ∨ inVat (s.bootArg 1) 96 = false) ∨ c = Instr.keyRevoke m ∧ 4 ≤ s.bootArg 0)) ∧
    (∃ (m : RegMaster) (s : State), bootMaster m = true ∧ s.bootBusy = false) ∧
    (∃ (m : RegMaster) (ms : Nat) (s : State), bootMaster m = true ∧ s.bootBusy = false ∧ s.bootState = 4 ∧ s.control.1 ≠
      none) ∧
    (∃ (m : RegMaster) (ms : Nat) (s : State), bootMaster m = true ∧ s.bootBusy = false ∧ s.bootState ≠ 4) :=
  ⟨⟨.host, w0.setBit Reg.BOOT_STATUS Fld.BOOT_STATUS_VERIFIED_A true, 0, by decide +kernel⟩,
   ⟨.host, w0, by decide +kernel⟩,
   ⟨.host, wSt 3, _, _, ⟨by decide +kernel, by decide +kernel, .inl ⟨rfl, rfl⟩, by decide +kernel⟩⟩,
   ⟨.host, w0, by decide +kernel⟩,
   ⟨.host, (w0.setReg (Reg.BOOT_ARG 0) 3).setReg (Reg.BOOT_ARG 1) 0x12FFFFA0, 3, by decide +kernel⟩,
   ⟨.host, {(w0.setReg (Reg.BOOT_ARG 0) 3).setReg (Reg.BOOT_ARG 1) 0x12FFFFA0 with mem := [(ledgerLo + keyAt 3, 1)]}, 3,
     by decide +kernel⟩,
   ⟨.host, {w0.setReg (Reg.BOOT_ARG 0) 3 with mem := [(ledgerLo + keyAt 0, 1)]}, 3, 0, by decide +kernel⟩,
   ⟨.host, w0, 0, by decide +kernel⟩,
   ⟨.cpa, w0.setReg (Reg.BOOT_ARG 0) 4, _, ⟨by decide +kernel, by decide +kernel, .inr ⟨rfl, by decide +kernel⟩⟩⟩,
   ⟨.host, w0, by decide +kernel⟩,
   ⟨.host, 0, (wSt 4).setControl (fun ws => ws), by decide +kernel⟩,
   ⟨.host, 0, w0, by decide +kernel⟩⟩

/-- The hypotheses of SealAndLedger can be met. -/
theorem witness_SealAndLedger :
    (∃ (m : RegMaster) (n : Fin 3) (data : Word) (s : State), s.sealState (↑n : Nat) = 1 ∨ s.sealState (↑n : Nat) = 2 ∨
      s.sealState (↑n : Nat) = 3) ∧
    (∃ (m : RegMaster) (n : Fin 3) (data : Word) (s : State), s.sealState (↑n : Nat) ≠ 1 ∧ s.sealState (↑n : Nat) ≠ 2 ∧
      s.sealState (↑n : Nat) ≠ 3) ∧
    (∃ (s : State) (n : Fin 3) (d : List Byte), s.boot.sealRun = some (↑n : Nat) ∧ s.boot.sysSeal = false ∧ s.boot.sealSaved =
      none ∧ s.boot.sealWait = [] ∧ s.sealRefused (↑n : Nat) = false ∧ d = Config.sha384 (s.read (s.regN (Reg.SEAL_SRC (↑n :
      Nat))) (s.regN (Reg.SEAL_LEN (↑n : Nat)))) ∧ s.rmwBad (s.regN (Reg.SEAL_RES (↑n : Nat))) (List.take 48 d).length =
      false) ∧
    (∃ (s : State) (n : Fin 3), s.boot.sealRun = some (↑n : Nat) ∧ s.sealRefused (↑n : Nat) = true ∧ s.boot.sealSaved ≠ some
      (↑n : Nat) ∧ (↑n : Nat) ∉ s.boot.sealWait) ∧
    (∃ (s : State), s.boot.sealRun = none) ∧
    (∃ (m : Master) (off : BitVec 23) (data : List Byte) (s : State), reaches (Master.code m) 34 = true ∧ (m = Master.host →
      s.released = true) ∧ (m = Master.boot ∨ 65536 ≤ off.toNat) ∧ off.toNat + data.length ≤ ledgerSize) ∧
    (∃ (m : Master) (off : BitVec 23) (data : List Byte) (s : State), reaches (Master.code m) 34 = true ∧ (m = Master.host →
      s.released = true) ∧ m ≠ Master.boot ∧ off.toNat < 65536 ∧ s.tally.silent = false) :=
  ⟨⟨.host, 2, 0, w0.setFld (Reg.SEAL_STATUS 2) Fld.SEAL_STATUS_STATE 3, by decide +kernel⟩,
   ⟨.host, 0, 0, w0, by decide +kernel⟩,
   ⟨({w0 with boot := {sealRun := some 2}}.setReg (Reg.SEAL_SRC 2) 0x10000000).setReg (Reg.SEAL_RES 2) 0x12FFFFD0, 2, _, ⟨rfl,
     rfl, rfl, rfl, by decide +kernel, rfl, rmwBad_noEcc _ _ _ (by decide +kernel)⟩⟩,
   ⟨{w0 with boot := {sealRun := some 2}}, 2, by decide +kernel⟩,
   ⟨w0, by decide +kernel⟩,
   ⟨.cpa, 0x10000, [1], w0, by decide +kernel⟩,
   ⟨.cpa, 0xFFFF, [1], w0, by decide +kernel⟩⟩

/-- The hypotheses of HostAccesses can be met. -/
theorem witness_HostAccesses :
    (∃ (via : HostPath) (be : List (BitVec 4)) (s : State) (a : Nat), s.hostReaches via 4 1 0 a ∧ s.wholeWords be ∧ a % 4 = 0
      ∧ regionOf a = Region.reg) ∧
    (∃ (via : HostPath) (be : List (BitVec 4)) (s : State) (v : State) (a : Nat), s.hostReaches via 4 2 0 a ∧ s.quadSpi = true
      ∧ a % 4 = 0 ∧ regionOf a = Region.reg ∧ regionOf (a + 4) = Region.reg ∧ v = (s.hostRegister a).2) ∧
    (∃ (via : HostPath) (n : Nat) (be : List (BitVec 4)) (s : State) (a : Nat), s.hostReaches via 4 n 0 a ∧ a % 4 = 0 ∧ 0 < n
      ∧ n ≤ 64 ∧ inVat a (4 * n) = true ∧ s.eccBad a (4 * n) = false) ∧
    (∃ (via : HostPath) (data : List Word) (be : List (BitVec 4)) (s : State) (a : Nat), s.hostReaches via 8 data.length 0 a ∧
      s.wholeWords be ∧ s.released = true ∧ a % 4 = 0 ∧ data ≠ [] ∧ data.length ≤ 64 ∧ inVat a (4 * data.length) = true ∧
      s.rmwBad a (4 * data.length) = false) ∧
    (∃ (o : BitVec 26) (w : Word) (b : BitVec 4) (s : State) (a : Nat), s.linkUp = true ∧ a = s.bar0 o.toNat ∧ s.released =
      true ∧ a % 4 = 0 ∧ inVat a 4 = true ∧ s.eccBad (a / 8 * 8) 8 = false) ∧
    (∃ (via : HostPath) (w : Word) (be : List (BitVec 4)) (s : State) (a : Nat), s.hostReaches via 8 1 0 a ∧ s.wholeWords be ∧
      s.released = true ∧ a % 4 = 0 ∧ regionOf a = Region.reg) ∧
    (∃ (via : HostPath) (w : Word) (be : List (BitVec 4)) (s : State) (a : Nat), s.hostReaches via 8 1 0 a ∧ s.wholeWords be ∧
      s.released = false ∧ a % 4 = 0 ∧ 1048576 ≤ a ∧ (a < 150994944 ∨ 152043520 ≤ a) ∧ regionOf a ≠ Region.nothing) ∧
    (∃ (via : HostPath) (w : Word) (be : List (BitVec 4)) (s : State) (a : Nat), s.hostReaches via 8 1 0 a ∧ s.wholeWords be ∧
      a % 4 = 0 ∧ regionOf a = Region.nothing) ∧
    (∃ (via : HostPath) (n : Nat) (be : List (BitVec 4)) (s : State) (a : Nat), s.hostReaches via 4 n 0 a ∧ s.hostMalformed n
      a be) ∧
    (∃ (op : BitVec 8) (addr : BitVec 40) (n : Nat) (k : Nat) (be : List (BitVec 4)) (s : State), s.quadSpi = true ∧ s.power =
      Power.running ∧ qspiWords 4 op = some k ∧ mgmtOk addr = false) ∧
    (∃ (op : BitVec 8) (addr : BitVec 40) (data : List Word) (be : List (BitVec 4)) (s : State), s.quadSpi = true ∧ s.power =
      Power.running ∧ qspiWords 8 op = some data.length ∧ mgmtOk addr = false) ∧
    (∃ (via : HostPath) (n : Nat) (d : Nat) (a : Nat) (be : List (BitVec 4)) (s : State), s.hostReaches via 4 n d a ∧ d ≠ 0 ∧
      (s.relayValid d = false ∨ s.hostMalformed n a be) ∧ s.relayWriteOut d = false) ∧
    (∃ (via : HostPath) (n : Nat) (d : Nat) (a : Nat) (be : List (BitVec 4)) (s : State), s.hostReaches via 4 n d a ∧ d ≠ 0 ∧
      (s.relayValid d = false ∨ s.hostMalformed n a be) ∧ s.relayWriteOut d = true) ∧
    (∃ (via : HostPath) (n : Nat) (d : Nat) (a : Nat) (be : List (BitVec 4)) (s : State), s.hostReaches via 4 n d a ∧ d ≠ 0 ∧
      s.relayValid d = true ∧ ¬s.hostMalformed n a be ∧ 0 < n ∧ n ≤ 16 ∧ s.wholeWords be ∧ s.host.relay = []) ∧
    (∃ (n : Fin 6) (k : Nat) (be : List (BitVec 4)) (s : State), s.linkUp = true ∧ 4 ≤ (↑n : Nat)) ∧
    (∃ (r : HostCfg) (w : Word) (be : List (BitVec 4)) (s : State), s.linkUp = true) ∧
    (∃ (n : Nat) (be : List (BitVec 4)) (data : List Word) (via : HostPath) (s : State), s.hostIgnores via data.length) ∧
    (∃ (op : BitVec 8) (addr : BitVec 40) (n : Nat) (s : State) (be : List (BitVec 4)), s.power = Power.dormant ∧ s.quadSpi =
      true ∧ qspiWords 4 op = some 1) ∧
    (∃ (addr : BitVec 40) (n : Nat) (s : State), s.quadSpi = true) ∧
    (∃ (addr : BitVec 40) (n : Nat) (s : State), s.quadSpi = false ∨ n = 0) :=
  ⟨⟨.bar0 0, [], wLink, 0, ⟨⟨by decide +kernel, rfl, by decide +kernel⟩, .inr (by decide), by decide, by decide⟩⟩,
   ⟨.qspi 0x41 0x200010, [], wSpi, _, 0x200010, ⟨⟨by decide +kernel, rfl, by decide +kernel, by decide +kernel,
     by decide +kernel, by decide +kernel⟩, by decide +kernel, by decide, by decide, by decide, rfl⟩⟩,
   ⟨.qspi 0x4F 0x12FFFFC0, 16, [], wSpi, 0x12FFFFC0, ⟨⟨by decide +kernel, rfl, by decide +kernel, by decide +kernel,
     by decide +kernel, by decide +kernel⟩, by decide +kernel⟩⟩,
   ⟨.qspi 0x80 0x12FFFFFC, [1], [], { (wSt 3).setBit Reg.HOST_STATUS Fld.HOST_STATUS_IF true with power := .running },
     0x12FFFFFC, ⟨⟨by decide +kernel, rfl, by decide +kernel, by decide +kernel, by decide +kernel, by decide +kernel⟩, .inr
     (by decide), by decide +kernel⟩⟩,
   ⟨0x2FFFFFC, 1, 5, (wSt 3).setBit Reg.HOST_STATUS Fld.HOST_STATUS_LINK true, _, ⟨by decide +kernel, rfl, by decide +kernel⟩⟩,
   ⟨.bar0 0x200020, 1, [], (wSt 3).setBit Reg.HOST_STATUS Fld.HOST_STATUS_LINK true, 0x200020, ⟨⟨by decide +kernel, rfl,
     by decide +kernel⟩, .inr (by decide), by decide +kernel⟩⟩,
   ⟨.bar0 0x100000, 1, [], wLink, 0x100000, ⟨⟨by decide +kernel, rfl, by decide +kernel⟩, .inr (by decide),
     by decide +kernel⟩⟩,
   ⟨.bar0 0x400000, 1, [], wLink, 0x400000, ⟨⟨by decide +kernel, rfl, by decide +kernel⟩, .inr (by decide),
     by decide +kernel⟩⟩,
   ⟨.bar0 1, 1, [], wLink, 1, ⟨⟨by decide +kernel, rfl, by decide +kernel⟩, .inl (by decide)⟩⟩,
   ⟨0x40, 0x100000000, 0, 1, [], wSpi, by decide +kernel⟩,
   ⟨0x80, 0x100000000, [1], [], wSpi, by decide +kernel⟩,
   ⟨.qspi 0x40 0x400000000, 1, 1, 0, [], wSpi, ⟨⟨by decide +kernel, by decide +kernel, by decide +kernel, by decide +kernel,
     by decide +kernel, by decide +kernel⟩, by decide, .inl (by decide +kernel), by decide +kernel⟩⟩,
   ⟨.qspi 0x40 0x400000000, 1, 1, 0, [],
     {wSpi with host := {relay := [⟨0, 0, 1, 0, 1, true, [0], true, false, [], 0, false⟩]}}, ⟨⟨by decide +kernel,
     by decide +kernel, by decide +kernel, by decide +kernel, by decide +kernel, by decide +kernel⟩, by decide, .inl
     (by decide +kernel), by decide +kernel⟩⟩,
   ⟨.qspi 0x4F 0xFC00000000, 16, 63, 0, [], (wSpi.setBit Reg.HOST_RELAY_CTRL Fld.HOST_RELAY_CTRL_EN true).setBit
     (Reg.HOST_RELAY_DEV_HI 63) Fld.HOST_RELAY_DEV_HI_VALID true, ⟨⟨by decide +kernel, by decide +kernel, by decide +kernel,
     by decide +kernel, by decide +kernel, by decide +kernel⟩, by decide, by decide +kernel,
     by unfold State.hostMalformed; decide +kernel, by decide, by decide, .inr (by decide), by decide +kernel⟩⟩,
   ⟨5, 1, [], wLink, by decide +kernel⟩,
   ⟨.msiControl, 1, [], wLink, by decide +kernel⟩,
   ⟨1, [], [1], .qspi 0 0, wSpi, .inr (.inr ⟨by decide, fun k h => by simp [qspiWords] at h⟩)⟩,
   ⟨0x40, BitVec.ofNat 40 Reg.SENT_STATUS, 1, {w0 with power := .dormant}.setBit Reg.HOST_STATUS Fld.HOST_STATUS_IF true, [],
     by decide +kernel⟩,
   ⟨0, 1, w0.setBit Reg.HOST_STATUS Fld.HOST_STATUS_IF true, by decide +kernel⟩,
   ⟨0, 0, w0, by decide +kernel⟩⟩

/-- The hypotheses of RelayAndProcessors can be met. -/
theorem witness_RelayAndProcessors :
    (∃ (tag : BitVec 8) (s : State) (r : RelayReq), s.host.relay = [r] ∧ r.sent = true ∧ r.ended = false ∧ r.tag = tag.toNat ∧
      r.dev < 64 ∧ r.lost = false) ∧
    (∃ (tag : BitVec 8) (s : State), s.host.relay = []) ∧
    (∃ (s : State) (r : RelayReq) (p : Nat) (f : List Byte), s.host.inbox = [(p, f)] ∧ (relayType f = 3 ∨ relayType f = 4) ∧
      s.host.relay = [r] ∧ r.sent = true ∧ r.ended = false ∧ r.tag = relayWord f 0 % 2 ^ 8 ∧ r.fail = 0 ∧ relayWord f 0 / 2 ^
      8 % 2 ^ 8 = 0) ∧
    (∃ (s : State) (r : RelayReq) (w : RelayReq) (p : Nat) (f : List Byte), s.host.inbox = [(p, f)] ∧ relayType f = 3 ∧
      s.host.relay = [w, r] ∧ w.sent = true ∧ w.ended = false ∧ w.write = true ∧ r.write = false ∧ r.dev = w.dev ∧ w.group <
      r.group ∧ w.tag ≠ r.tag ∧ r.sent = true ∧ r.ended = false ∧ r.tag = relayWord f 0 % 2 ^ 8) ∧
    (∃ (s : State) (r : RelayReq) (p : Nat) (f : List Byte), s.host.inbox = [(p, f)] ∧ (relayType f = 3 ∨ relayType f = 4) ∧
      s.host.relay = [r] ∧ r.sent = true ∧ r.ended = false ∧ r.tag = relayWord f 0 % 2 ^ 8 ∧ r.dev < 64 ∧ r.lost = false ∧
      relayWord f 0 / 2 ^ 8 % 2 ^ 8 ≠ 0) ∧
    (∃ (s : State) (p : Nat) (f : List Byte), s.host.inbox = [(p, f)] ∧ (relayType f = 3 ∨ relayType f = 4) ∧ s.host.relay =
      []) ∧
    (∃ (s : State) (p : Nat) (f : List Byte), s.host.inbox = [(p, f)] ∧ (relayType f = 1 ∨ relayType f = 2) ∧ (s.bit
      Reg.HOST_RELAY_CFG Fld.HOST_RELAY_CFG_ACCEPT = false ∨ slice f 6 6 ≠ s.relayMaster)) ∧
    (∃ (s : State) (p : Nat) (a : Nat) (f : List Byte) (w : Word), s.host.inbox = [(p, f)] ∧ relayType f = 1 ∧ relayNw f = 1 ∧
      s.bit Reg.HOST_RELAY_CFG Fld.HOST_RELAY_CFG_ACCEPT = true ∧ slice f 6 6 = s.relayMaster ∧ a = relayWord f 1 ∧ a % 4 = 0
      ∧ inVat a 4 = true ∧ s.ecc = [] ∧ w = s.word a ∧ s.descFree = true) ∧
    (∃ (s : State), s.bit Reg.HOST_RELAY_CFG Fld.HOST_RELAY_CFG_ACCEPT = false ∨ s.fld Reg.HOST_RELAY_CFG
      Fld.HOST_RELAY_CFG_ETYPE = 0) ∧
    (∃ (s : State) (p : Fin 8), s.bit Reg.HOST_RELAY_CFG Fld.HOST_RELAY_CFG_ACCEPT = true ∧ s.fld Reg.HOST_RELAY_CFG
      Fld.HOST_RELAY_CFG_ETYPE ≠ 0 ∧ (∀ (q : Fin 8), s.portUp (↑q : Nat) = (q == p)) ∧ s.descFree = true) ∧
    (∃ (s : State) (p : Nat) (d : Nat) (f : List Byte), s.host.inbox = [(p, f)] ∧ relayType f = 5 ∧ s.relayIndex (slice f 6 6)
      = some d) ∧
    (∃ (d : Fin 64) (s : State), d ≠ 0 ∧ s.bit (Reg.HOST_RELAY_DEV_HI (↑d : Nat)) Fld.HOST_RELAY_DEV_HI_VALID = true) ∧
    (∃ (m : RegMaster) (p : Fin 2) (s : State), s.hostBarred m (Reg.HOST_CP_WDOG (↑p : Nat)) = false) ∧
    (∃ (m : RegMaster) (p : Fin 2) (s : State), s.hostBarred m (Reg.HOST_CP_WDOG (↑p : Nat)) = true) ∧
    (∃ (p : Fin 2) (b : Bool) (s : State), s.bit (Reg.HOST_CP_WDOG (↑p : Nat)) Fld.HOST_CP_WDOG_EN = true ∧
      s.boot.cpReset.getLsbD (↑p : Nat) = false ∧ s.tally.silent = false ∧ SMap.find 0 s.host.wdogAt (↑p : Nat) + max 1 (s.fld
      (Reg.HOST_CP_WDOG (↑p : Nat)) Fld.HOST_CP_WDOG_TIMEOUT_MS) * 800000 ≤ s.time.ticks) ∧
    (∃ (p : Fin 2) (b : Bool) (s : State), s.bit (Reg.HOST_CP_WDOG (↑p : Nat)) Fld.HOST_CP_WDOG_EN = false ∨
      s.boot.cpReset.getLsbD (↑p : Nat) = true ∨ s.time.ticks < SMap.find 0 s.host.wdogAt (↑p : Nat) + max 1 (s.fld
      (Reg.HOST_CP_WDOG (↑p : Nat)) Fld.HOST_CP_WDOG_TIMEOUT_MS) * 800000) ∧
    (∃ (p : Fin 2) (code : BitVec 8) (addr : Word) (s : State), s.boot.cpReset.getLsbD (↑p : Nat) = false ∧ s.tally.silent =
      false) ∧
    (∃ (c : BitVec 3) (s : State), s.bit Reg.HOST_STATUS Fld.HOST_STATUS_LINK = true ∧ s.quadSpi = false ∧ s.tally.silent =
      false) ∧
    (∃ (c : BitVec 3) (s : State), s.linkUp = false) ∧
    (∃ (speed : BitVec 3) (width : BitVec 2) (s : State), s.power = Power.running ∧ s.quadSpi = false) ∧
    (∃ (via : HostPath) (data : List Word) (be : List (BitVec 4)) (s : State) (d : Nat) (a : Nat), s.hostReaches via 8
      data.length d a ∧ d ≠ 0 ∧ s.relayValid d = true ∧ ¬s.hostMalformed data.length a be ∧ data ≠ [] ∧ data.length ≤ 16 ∧
      s.wholeWords be ∧ s.host.relay = []) ∧
    (∃ (addr : BitVec 40) (n : Nat) (s : State), s.quadSpi = true ∧ s.power = Power.running ∧ mgmtOk addr = true ∧ mgmtDev
      addr ≠ 0 ∧ s.relayValid (mgmtDev addr) = true ∧ mgmtLocal addr % 4 = 0 ∧ 0 < n ∧ n ≤ 16 ∧ s.host.relay = []) :=
  ⟨⟨255, {w0 with host := {relay := [rq 255]}}, rq 255, by decide +kernel⟩,
   ⟨0, w0, by decide +kernel⟩,
   ⟨{w0 with host := {relay := [rq 255], inbox := [(7, rf [0x13, 0, 0, 255])]}}, rq 255, 7, rf [0x13, 0, 0, 255],
     by decide +kernel⟩,
   ⟨{w0 with host := {relay := [{rq 7 with write := true}, {rq 255 with group := 1}], inbox := [(7, rf [0x13, 0, 0, 255])]}},
     {rq 255 with group := 1}, {rq 7 with write := true}, 7, rf [0x13, 0, 0, 255], by decide +kernel⟩,
   ⟨{w0 with host := {relay := [rq 255], inbox := [(7, rf [0x13, 0, 1, 255])]}}, rq 255, 7, rf [0x13, 0, 1, 255],
     by decide +kernel⟩,
   ⟨{w0 with host := {inbox := [(7, rf [0x14, 0, 1, 255])]}}, 7, rf [0x14, 0, 1, 255], by decide +kernel⟩,
   ⟨{w0 with host := {inbox := [(7, rf [0x12, 0, 1, 255])]}}, 7, rf [0x12, 0, 1, 255], by decide +kernel⟩,
   ⟨{w0 with host := {inbox := [(7, rf [0x11, 0, 0, 255, 0x12, 0xFF, 0xFF, 0xFC])]}}.setBit Reg.HOST_RELAY_CFG
     Fld.HOST_RELAY_CFG_ACCEPT true, 7, 0x12FFFFFC, rf [0x11, 0, 0, 255, 0x12, 0xFF, 0xFF, 0xFC], 0, by decide +kernel⟩,
   ⟨w0, by decide +kernel⟩,
   ⟨((w0.setBit Reg.HOST_RELAY_CFG Fld.HOST_RELAY_CFG_ACCEPT true).setFld Reg.HOST_RELAY_CFG Fld.HOST_RELAY_CFG_ETYPE
     0x88B5).setBit (Reg.MAC_STATUS 7) Fld.MAC_STATUS_LINK true, 7, by decide +kernel⟩,
   ⟨{w0 with host := {inbox := [(7, rf [0x15, 0, 0, 0])]}}.setBit (Reg.HOST_RELAY_DEV_HI 63) Fld.HOST_RELAY_DEV_HI_VALID true,
     7, 63, rf [0x15, 0, 0, 0], by decide +kernel⟩,
   ⟨63, w0.setBit (Reg.HOST_RELAY_DEV_HI 63) Fld.HOST_RELAY_DEV_HI_VALID true, by decide +kernel⟩,
   ⟨.cpa, 0, w0, by decide +kernel⟩,
   ⟨.host, 0, w0, by decide +kernel⟩,
   ⟨1, true, {w0 with boot := {cpReset := 0}, time := {ticks := 800000}}.setBit (Reg.HOST_CP_WDOG 1) Fld.HOST_CP_WDOG_EN true
     |>.setFld (Reg.HOST_CP_WDOG 1) Fld.HOST_CP_WDOG_TIMEOUT_MS 1, by decide +kernel⟩,
   ⟨0, false, w0, by decide +kernel⟩,
   ⟨1, 255, 0, {w0 with boot := {cpReset := 0}}, by decide +kernel⟩,
   ⟨7, w0.setBit Reg.HOST_STATUS Fld.HOST_STATUS_LINK true, by decide +kernel⟩,
   ⟨0, w0, by decide +kernel⟩,
   ⟨0, 0, wRun, by decide +kernel⟩,
   ⟨.qspi 0x8F 0xFC00000000, List.replicate 16 0, [], (wSpi.setBit Reg.HOST_RELAY_CTRL Fld.HOST_RELAY_CTRL_EN true).setBit
     (Reg.HOST_RELAY_DEV_HI 63) Fld.HOST_RELAY_DEV_HI_VALID true, 63, 0, ⟨⟨by decide +kernel, by decide +kernel,
     by decide +kernel, by decide +kernel, by decide +kernel, by decide +kernel⟩, by decide, by decide +kernel,
     by unfold State.hostMalformed; decide +kernel, by decide, by decide, .inr (by decide), by decide +kernel⟩⟩,
   ⟨0xFC00000000, 16, (wSpi.setBit Reg.HOST_RELAY_CTRL Fld.HOST_RELAY_CTRL_EN true).setBit (Reg.HOST_RELAY_DEV_HI 63)
     Fld.HOST_RELAY_DEV_HI_VALID true, by decide +kernel⟩⟩

/-- The hypotheses of EveryCommandCompletes can be met. -/
theorem witness_EveryCommandCompletes :
    ∃ (c : Instr) (s : State), ∀ (straps : BitVec 8) (mode : BitVec 3), c = Instr.resetNRise straps mode → mode = 0 ∨ s.power
      ≠ Power.reset :=
  ⟨.step false, w0, fun _ _ h => by cases h⟩

theorem read_take (m : Memory) (a n k : Nat) : (Memory.read m a (k + n)).take k = Memory.read m a k := by
  induction k generalizing a with
  | zero => rfl
  | succ k ih => rw [Nat.add_right_comm]; exact congrArg _ (ih (a + 1))

theorem read_drop (m : Memory) (a n k : Nat) : (Memory.read m a (k + n)).drop k = Memory.read m (a + k) n := by
  induction k generalizing a with
  | zero => rw [Nat.zero_add]; rfl
  | succ k ih =>
    rw [Nat.add_right_comm, show a + (k + 1) = a + 1 + k by omega]
    exact ih (a + 1)

/-- The header check of slot 0 reads 4092 bytes and a word that no checksum of them depends on. -/
theorem headerCrc_slot0 (s : State) (h : s.bootSlot = 0) : headerCrcOk (s.slotHeader s.bootSlot) =
    (crc32c ((Memory.read s.boot.flash 0 4092).map (fun b => ~~~b)) ==
      wordOf ((Memory.read s.boot.flash 4092 4).map (fun b => ~~~b))) := by
  have e1 := read_take s.boot.flash 0 4 4092
  have e2 := read_drop s.boot.flash 0 4 4092
  rw [headerCrcOk, State.slotHeader, State.flashBytes, State.slotBase, h, Nat.zero_mul, ← List.map_take, ← List.map_drop]
  rw [show (4096 : Nat) = 4092 + 4 from rfl, show (0xFFC : Nat) = 4092 from rfl, e1, e2, Nat.zero_add]

/-- Of two headers that differ in their last word only, one fails its check. -/
theorem witness_BootSequence_header :
    ∃ (e : Bool) (ms : Nat) (s : State), s.bootState = 2 ∧ headerCrcOk (s.slotHeader s.bootSlot) = false := by
  let t : State := { wSt 2 with boot := { flash := [(4095, 1)] } }
  by_cases h0 : headerCrcOk ((wSt 2).slotHeader (wSt 2).bootSlot) = false
  · exact ⟨true, 0, wSt 2, by decide +kernel, h0⟩
  · refine ⟨true, 0, t, by decide +kernel, ?_⟩
    have hs : (wSt 2).bootSlot = 0 := by decide +kernel
    have ht : t.bootSlot = 0 := by decide +kernel
    have hc : Memory.read t.boot.flash 0 4092 = Memory.read (wSt 2).boot.flash 0 4092 := by
      refine Memory.read_congr _ _ _ _ (fun x _ hx => ?_)
      simp only [t, Memory.byte, SMap.find]
      rw [if_neg (by omega)]
      rfl
    rw [headerCrc_slot0 _ hs] at h0
    rw [headerCrc_slot0 _ ht, hc]
    have hw : wordOf ((Memory.read t.boot.flash 4092 4).map (fun b => ~~~b)) ≠
        wordOf ((Memory.read (wSt 2).boot.flash 4092 4).map (fun b => ~~~b)) := by decide +kernel
    simp only [Bool.not_eq_false, beq_iff_eq] at h0
    rw [h0]
    exact beq_eq_false_iff_ne.mpr (Ne.symm hw)

end Sys2Proof.Tests
end

section
/-! SUPPORT. Words as bytes, and what reads and writes of memory do word by word (R7). -/

namespace Sys2Proof

theorem length_leBytes (n v : Nat) : (leBytes n v).length = n := by
  induction n generalizing v with
  | zero => rfl
  | succ n ih => simp [leBytes, ih]

theorem leNat_leBytes (n v : Nat) : leNat (leBytes n v) = v % 256 ^ n := by
  induction n generalizing v with
  | zero => simp [leBytes, leNat, Nat.mod_one]
  | succ n ih => simp [leBytes, leNat, ih, Nat.pow_succ', Nat.mod_mul]

@[simp] theorem length_wordBytes (w : Word) : (wordBytes w).length = 4 := length_leBytes 4 _

/-- The bytes of a word spell the word. -/
@[simp] theorem wordOf_wordBytes (w : Word) : wordOf (wordBytes w) = w := by
  have h : (wordBytes w).take 4 = wordBytes w := List.take_of_length_le (by simp)
  rw [wordOf, h, wordBytes, leNat_leBytes, Nat.mod_eq_of_lt (by simpa using w.isLt), BitVec.ofNat_toNat, BitVec.setWidth_eq]

theorem length_flatMap_wordBytes (ws : List Word) : (ws.flatMap wordBytes).length = 4 * ws.length := by
  induction ws with
  | nil => rfl
  | cons w ws ih => simp [ih]; omega

end Sys2Proof

namespace Sys2Proof.Machine

theorem Memory.read_add (m : Memory) (a n k : Nat) :
    Memory.read m a (n + k) = Memory.read m a n ++ Memory.read m (a + n) k := by
  induction n generalizing a with
  | zero => simp [Memory.read]
  | succ n ih =>
    rw [Nat.succ_add, Memory.read, ih, Memory.read, Nat.add_assoc, Nat.add_comm 1 n]
    rfl

theorem Memory.write_append (m : Memory) (a : Nat) (xs ys : List Byte) :
    Memory.write m a (xs ++ ys) = Memory.write (Memory.write m a xs) (a + xs.length) ys := by
  induction xs generalizing m a with
  | nil => rfl
  | cons x xs ih => simp only [List.cons_append, Memory.write, ih, List.length_cons]; congr 1; omega

/-- The words of a read are the words of memory at rising addresses. -/
theorem Memory.wordsOf_read (m : Memory) (a n : Nat) :
    wordsOf n (Memory.read m a (4 * n)) = (List.range n).map (fun i => Memory.word m (a + 4 * i)) := by
  induction n generalizing a with
  | zero => rfl
  | succ n ih =>
    have hl : (Memory.read m a 4).length = 4 := Memory.length_read m a 4
    rw [show 4 * (n + 1) = 4 + 4 * n by omega, Memory.read_add, wordsOf, List.drop_left' hl, ih, List.range_succ_eq_map]
    simp [wordOf, Memory.word, hl, List.take_of_length_le, Nat.mul_add, Nat.add_assoc, Nat.add_comm 4]

theorem Memory.word_write_same (m : Memory) (a : Nat) (w : Word) : Memory.word (Memory.write m a (wordBytes w)) a = w := by
  have h := Memory.read_write_same m a (wordBytes w)
  rw [length_wordBytes] at h
  rw [Memory.word, h, wordOf_wordBytes]

theorem Memory.word_write_apart (m : Memory) (a b : Nat) (bs : List Byte) (h : b + 4 ≤ a ∨ a + bs.length ≤ b) :
    Memory.word (Memory.write m a bs) b = Memory.word m b := by
  rw [Memory.word, Memory.read_write_apart m a b 4 bs h, Memory.word]

/-- Words written one after the other read as they were written. -/
theorem Memory.word_writeWords (m : Memory) (a i : Nat) (ws : List Word) (hi : i < ws.length) :
    Memory.word (Memory.write m a (ws.flatMap wordBytes)) (a + 4 * i) = ws.getD i 0 := by
  induction ws generalizing m a i with
  | nil => simp at hi
  | cons w ws ih =>
    rw [List.flatMap_cons, Memory.write_append, length_wordBytes]
    cases i with
    | zero => rw [Memory.word_write_apart _ _ _ _ (by omega)]; exact Memory.word_write_same m a w
    | succ i =>
      have h := ih (Memory.write m a (wordBytes w)) (a + 4) i (by simpa using hi)
      rw [show a + 4 * (i + 1) = a + 4 + 4 * i by omega, h, List.getD_cons_succ]

theorem Memory.write_keeps (m : Memory) (a : Nat) (bs : List Byte) : KeepsOutside m (Memory.write m a bs) a bs.length :=
  fun x hx => Memory.write_keepsOutside m a x bs hx

end Sys2Proof.Machine
end

section
/-! SUPPORT. The laws of what the accesses of a master share: crossbar tags, error answers, the answer to the host, and
GLOBAL_SUMMARY after a write (R401, R402, R436, R557, R630). -/

namespace Sys2Proof.Machine

variable {R : Nat → Bool} {P : List Part} {s t : State}

/-! ### Tags and error answers of the crossbar -/

theorem Frame.holdTags (h : Frame R P s t) (k : Nat) (hR : R Reg.XBAR_INFLIGHT = true) : Frame R P s (t.holdTags k) :=
  h.setFld _ _ _ hR

theorem Frame.busHold (h : Frame R P s t) (a n : Nat) (hR : R Reg.XBAR_INFLIGHT = true) : Frame R P s (t.busHold a n) := by
  unfold State.busHold
  split
  · exact h.holdTags _ hR
  · exact h.holdTags _ hR

/-- The frames that allow an access to vat memory: they name the registers and events that it may write. -/
def AllowsBus (R : Nat → Bool) (P : List Part) : Prop := AllowsEvents R P ∧ ∀ a, busRegs a = true → R a = true

theorem AllowsBus.ev (P : List Part) : AllowsBus (fun a => eventReg a || busRegs a) (.events :: P) :=
  ⟨AllowsEvents.ev _ _, fun a ha => by simp [ha]⟩

theorem AllowsBus.inflight (hB : AllowsBus R P) : R Reg.XBAR_INFLIGHT = true := hB.2 _ (by decide)

theorem Frame.xbarErr (h : Frame R P s t) (hB : AllowsBus R P) (code addr : Nat) (write : Bool) (cause : Nat) :
    Frame R P s (t.xbarErr code addr write cause) :=
  Frame.raiseN ((h.setRegN Reg.XBAR_ERR_ADDR addr (hB.2 _ (by decide))).setRegN Reg.XBAR_ERR_INFO _ (hB.2 _ (by decide)))
    hB.1 160 _ (by decide)

theorem Frame.busRefuse (h : Frame R P s t) (hB : AllowsBus R P) (code a : Nat) (write : Bool) (cause : Nat) :
    Frame R P s (t.busRefuse code a write cause).2 := by
  unfold State.busRefuse
  dsimp only
  split
  · exact (h.xbarErr hB code a write cause).takeFree hB.1.2
  · exact h.xbarErr hB code a write cause

theorem Frame.vatCorr (h : Frame R P s t) (hB : AllowsBus R P) (addr n : Nat) : Frame R P s (t.vatCorr addr n) := by
  unfold State.vatCorr State.vatCount
  split
  · exact h
  · exact (h.countHold _ _ (hB.2 _ (by decide))).raiseMs hB.1 _ 161 _ (by decide)

theorem Frame.vatUncorr (h : Frame R P s t) (hB : AllowsBus R P) (code addr : Nat) : Frame R P s (t.vatUncorr code addr) :=
  h.raiseN hB.1 162 _ (by decide)

/-! ### The answer to the host -/

theorem Frame.hostAnswer (h : Frame R P s t) (ws : List Word) (cause : Nat) (hP : Part.host ∈ P) :
    Frame R P s (t.hostAnswer ws cause) := h.host hP _ rfl rfl

/-- An error answer leaves its cause, device, direction and address in GLOBAL_HOST_ERR and GLOBAL_HOST_ERR_ADDR (R630, R638). -/
theorem State.hostErr_told (s : State) (cause dev : Nat) (write : Bool) (addr : Nat) (hc : cause < 16) (hd : dev < 64)
    (ha : addr < 2 ^ 32) : HostTold cause dev write addr (s.hostErr cause dev write addr) := by
  unfold State.hostErr
  extract_lets s1
  set u : State := { s1 with host := { s1.host with cause := cause } } with hu
  have hf : FrameEv noRegs [] u (u.raiseMs (limitKey 22 0) 22 (cause + dev * 2 ^ 4 + bitOf write * 2 ^ 10)) :=
    Frame.refl.raiseMs (AllowsEvents.ev _ _) _ _ _ (by decide)
  have he : u.reg Reg.GLOBAL_HOST_ERR = BitVec.ofNat 32 (cause + dev * 2 ^ 4 + bitOf write * 2 ^ 10 + 2 ^ 11) := by
    simp [hu, s1, Reg.GLOBAL_HOST_ERR, Reg.GLOBAL_HOST_ERR_ADDR]
  have hx : u.reg Reg.GLOBAL_HOST_ERR_ADDR = BitVec.ofNat 32 addr := by simp [hu, s1]
  have hh := hf.2 .host (by simp)
  simp only [Part.same] at hh
  have hw : bitOf write < 2 := by cases write <;> decide
  refine ⟨?_, ?_, ?_, ?_, ?_, by rw [hh]⟩
  case refine_5 => rw [State.regN, hf.reg_eq _ (by decide) rfl, hx, BitVec.toNat_ofNat, Nat.mod_eq_of_lt ha]
  all_goals
    simp only [State.bit, State.fld, hf.reg_eq Reg.GLOBAL_HOST_ERR (by decide) rfl, he, Field.get, BitVec.toNat_ofNat,
      Nat.shiftRight_eq_div_pow, Fld.GLOBAL_HOST_ERR_CAUSE, Fld.GLOBAL_HOST_ERR_DEVICE, Fld.GLOBAL_HOST_ERR_WRITE,
      Fld.GLOBAL_HOST_ERR_VALID]
  · omega
  · omega
  · cases write <;> simp [bitOf] <;> omega
  · simp; omega

theorem HostTold.hostAnswer {cause dev addr : Nat} {write : Bool} (h : HostTold cause dev write addr t) (ws : List Word) :
    HostTold cause dev write addr (t.hostAnswer ws cause) := by
  obtain ⟨h1, h2, h3, h4, h5, -⟩ := h
  exact ⟨h1, h2, h3, h4, h5, rfl⟩

/-- An access that is refused before it reaches anything: its record, and an answer with its cause. -/
theorem State.hostErr_refused (s : State) (cause dev : Nat) (write : Bool) (addr : Nat) (hc : cause < 16) (hd : dev < 64)
    (ha : addr < 2 ^ 32) : HostRefused cause dev write addr s (s.hostErr cause dev write addr) :=
  ⟨s.hostErr_told cause dev write addr hc hd ha,
    Frame.refl.hostErr (AllowsEvents.ev _ _) cause dev write addr (by simp) (by decide) (by decide)⟩

theorem HostRefused.hostAnswer {cause dev addr : Nat} {write : Bool} (h : HostRefused cause dev write addr s t)
    (ws : List Word) : HostRefused cause dev write addr s (t.hostAnswer ws cause) :=
  ⟨h.1.hostAnswer ws, h.2.hostAnswer ws cause (by simp)⟩

/-! ### GLOBAL_SUMMARY after a write -/

theorem State.reg_syncSummary (s : State) (a : Nat) (h1 : a ≠ Reg.GLOBAL_SUMMARY) (h2 : a ≠ Reg.GLOBAL_REMOTE_SUMMARY) :
    s.syncSummary.reg a = s.reg a := by
  have h : s.syncSummary.reg a = ((s.setRegN Reg.GLOBAL_SUMMARY s.summary).setRegN Reg.GLOBAL_REMOTE_SUMMARY
      (s.regN Reg.GLOBAL_REMOTE_SUMMARY / 2 * 2 + bitOf (s.summary != 0))).reg a := rfl
  simp [h, h1.symm, h2.symm]

theorem Frame.syncSummary_narrow (h : Frame R P s t) (h1 : R Reg.GLOBAL_SUMMARY = true)
    (h2 : R Reg.GLOBAL_REMOTE_SUMMARY = true) (hP : Part.events ∈ P) : Frame R P s t.syncSummary :=
  ((h.setRegN Reg.GLOBAL_SUMMARY t.summary h1).setRegN Reg.GLOBAL_REMOTE_SUMMARY
    (t.regN Reg.GLOBAL_REMOTE_SUMMARY / 2 * 2 + bitOf (t.summary != 0)) h2).of_same rfl
    (fun p hp => by cases p <;> first | exact absurd hP hp | simp [Part.same, State.syncSummary])

/-- GLOBAL_SUMMARY depends on the cause and enable words, the other devices' bits and ALERT (R557). -/
theorem State.summary_congr (s t : State) (hc : ∀ g, g < 10 → t.reg (Reg.EVG_CAUSE g) = s.reg (Reg.EVG_CAUSE g))
    (he : ∀ g, g < 10 → t.reg (Reg.EVG_ENABLE g) = s.reg (Reg.EVG_ENABLE g))
    (hr : t.reg64 Reg.GLOBAL_REMOTE_SUMMARY / 2 = s.reg64 Reg.GLOBAL_REMOTE_SUMMARY / 2)
    (ha : t.reg Reg.SENT_STATUS = s.reg Reg.SENT_STATUS) : t.summary = s.summary := by
  unfold State.summary
  rw [hr, State.bit, State.fld, ha, List.foldl_ext]
  · rfl
  · intro acc g hg
    rw [hc g (List.mem_range.1 hg), he g (List.mem_range.1 hg)]

/-- GLOBAL_SUMMARY and IRQ_N are in force once they have followed a change (R557-R559). -/
theorem State.syncSummary_inForce (s : State) : s.syncSummary.summaryInForce := by
  have hreg := s.reg_syncSummary
  have hsum : s.syncSummary.summary = s.summary := by
    refine State.summary_congr s _ (fun g _ => hreg _ ?_ ?_) (fun g _ => hreg _ ?_ ?_) ?_ (hreg _ (by decide) (by decide))
    case refine_5 =>
      have h0 : s.syncSummary.reg Reg.GLOBAL_REMOTE_SUMMARY =
          BitVec.ofNat 32 (s.regN Reg.GLOBAL_REMOTE_SUMMARY / 2 * 2 + bitOf (s.summary != 0)) :=
        (State.reg_setReg ..).trans (if_pos rfl)
      have h4 := hreg (Reg.GLOBAL_REMOTE_SUMMARY + 4) (by decide) (by decide)
      have hlt := (s.reg Reg.GLOBAL_REMOTE_SUMMARY).isLt
      have hb : bitOf (s.summary != 0) < 2 := by unfold bitOf; split <;> decide
      simp only [State.reg64, State.regN, h0, h4, BitVec.toNat_ofNat] at *
      omega
    all_goals simp [Reg.EVG_CAUSE, Reg.EVG_ENABLE, Reg.GLOBAL_SUMMARY, Reg.GLOBAL_REMOTE_SUMMARY]; omega
  have h0 : s.syncSummary.reg Reg.GLOBAL_SUMMARY = BitVec.ofNat 32 s.summary :=
    (State.reg_setReg_ne _ _ _ _ (by decide)).trans ((State.reg_setReg ..).trans (if_pos rfl))
  have hirq : s.syncSummary.irqReleased = s.irqReleased := by
    simp only [State.irqReleased, State.fld, hreg Reg.SENT_STATUS (by decide) (by decide)]
    rfl
  exact ⟨by rw [h0, hsum], by rw [hsum, hirq]; rfl⟩

end Sys2Proof.Machine
end

section
/-! SUPPORT. Accesses of a master to vat memory that meet no uncorrectable word: what they read and leave (R401, R403, R404). -/

namespace Sys2Proof.Machine

variable {R : Nat → Bool} {P : List Part} {s t u : State}

/-! ### Regions of the address map -/

theorem inVat_iff (a n : Nat) : inVat a n = true ↔ 0x10000000 ≤ a ∧ a + n ≤ 0x13000000 := by
  rw [inVat, Bool.and_eq_true, decide_eq_true_eq, decide_eq_true_eq, vatLo, vatHi]

theorem regionOf_vat {a n : Nat} (hn : 0 < n) (h : inVat a n = true) : regionOf a = .vat := by
  rw [inVat_iff] at h
  have h1 : inVat a 1 = true := (inVat_iff a 1).2 (by omega)
  have hb : vatBank a < 32 := by unfold vatBank vatLo; omega
  simp [regionOf, targetOf, h1, hb]

/-- An address has a target exactly where it has a region. -/
theorem regionOf_eq_nothing_iff (a : Nat) : regionOf a = .nothing ↔ targetOf a = none := by
  unfold regionOf
  cases targetOf a with
  | none => simp
  | some t => simp only [reduceCtorEq, iff_false]; split_ifs <;> simp

theorem targetOf_isSome {a : Nat} (h : regionOf a ≠ .nothing) : (targetOf a).isSome = true := by
  rwa [ne_eq, regionOf_eq_nothing_iff, ← ne_eq, Option.ne_none_iff_isSome] at h

/-! ### Uncorrectable words -/

theorem State.eccBad_eq_false_iff (s : State) (a n : Nat) :
    s.eccBad a n = false ↔ ∀ e ∈ s.ecc, e.2 = true → e.1 < a + n → e.1 + 8 ≤ a := by
  simp [State.eccBad, State.eccWords, List.filter_eq_nil_iff]

theorem State.eccBad_of_subset (s t : State) (a n : Nat) (h : s.eccBad a n = false) (he : ∀ e ∈ t.ecc, e ∈ s.ecc) :
    t.eccBad a n = false := by
  rw [State.eccBad_eq_false_iff] at h ⊢
  exact fun e hm => h e (he e hm)

/-- The partial words of a write that is split at a multiple of 8 are those of the whole write. -/
theorem rmwWords_split {a n k : Nat} (hn : 0 < n) (hk : (a + n) % 8 = 0) :
    (∀ w ∈ rmwWords a n, w ∈ rmwWords a (n + k)) ∧ ∀ w ∈ rmwWords (a + n) k, w ∈ rmwWords a (n + k) := by
  have hlt : a % 8 ≠ 0 → (a + (n + k)) % 8 ≠ 0 → a / 8 ≠ (a + (n + k)) / 8 := by omega
  unfold rmwWords
  rw [← Nat.add_assoc] at hlt ⊢
  constructor
  · intro w hw
    simp only [hk, ne_eq, not_true_eq_false, false_and, if_false, List.append_nil] at hw
    exact List.mem_append_left _ hw
  · intro w hw
    simp only [hk, ne_eq, not_true_eq_false, if_false, List.nil_append, true_or, and_true] at hw
    split at hw
    · rename_i hm
      refine List.mem_append_right _ ?_
      rw [if_pos ⟨hm, or_iff_not_imp_left.2 fun h8 => hlt h8 hm⟩]
      exact hw
    · simp at hw

theorem State.rmwBad_eq_false_iff (s : State) (a n : Nat) :
    s.rmwBad a n = false ↔ ∀ w ∈ rmwWords a n, s.eccBad w 8 = false := by simp [State.rmwBad]

/-! ### Frames of the transactions -/

theorem Frame.vatCheck (h : Frame R P s t) (hB : AllowsBus R P) (code addr n : Nat) :
    Frame R P s (t.vatCheck code addr n) := by
  unfold State.vatCheck
  dsimp only
  split
  · exact h.xbarErr hB _ _ _ _
  · split
    · exact ((h.vatCorr hB _ _).vatUncorr hB _ _).xbarErr hB _ _ _ _
    · exact h.vatCorr hB _ _

theorem Frame.vatRead (h : Frame R P s t) (hB : AllowsBus R P) (code addr n : Nat) :
    Frame R P s (t.vatRead code addr n).2 := Frame.foldl _ _ h fun _ _ _ hu => hu.vatCheck hB _ _ _

theorem Frame.vatCorrs (h : Frame R P s t) (hB : AllowsBus R P) (ws : List Nat) :
    Frame R P s (ws.foldl (fun s w => s.vatCorr w 8) t) := Frame.foldl _ _ h fun _ _ _ hu => hu.vatCorr hB _ _

/-- What the correction of some words leaves alone: the memory and its errors. -/
theorem State.vatCorrs_mem_ecc (s : State) (ws : List Nat) :
    (ws.foldl (fun s w => s.vatCorr w 8) s).mem = s.mem ∧ (ws.foldl (fun s w => s.vatCorr w 8) s).ecc = s.ecc :=
  have h := Frame.vatCorrs (s := s) Frame.refl (AllowsBus.ev []) ws
  ⟨h.2 .mem (by simp), h.2 .ecc (by simp)⟩

/-! ### Writes -/

/-- Bytes have been written to vat memory: no word has become bad, and what the access may write besides is framed. -/
def VatWritten (a : Nat) (bs : List Byte) (s t : State) : Prop :=
  t.mem = Memory.write s.mem a bs ∧ (∀ e ∈ t.ecc, e ∈ s.ecc) ∧ FrameEv busRegs [.mem, .ecc] s t

theorem VatWritten.trans {a : Nat} {xs ys : List Byte} (h : VatWritten a xs s t) (h' : VatWritten (a + xs.length) ys t u) :
    VatWritten a (xs ++ ys) s u :=
  ⟨by rw [h'.1, h.1, Memory.write_append], fun e he => h.2.1 e (h'.2.1 e he), h.2.2.trans h'.2.2⟩

/-- Bytes written after the reads of some words that they touch in part. -/
theorem State.corrected_write (s : State) (ws : List Nat) (a lo n : Nat) (bs : List Byte) :
    VatWritten a bs s (((ws.foldl (fun s w => s.vatCorr w 8) s).write a bs).eccClear lo n) := by
  obtain ⟨hm, he⟩ := s.vatCorrs_mem_ecc ws
  refine ⟨?_, ?_, ?_⟩
  · exact congrArg (fun m => Memory.write m a bs) hm
  · intro e h
    rw [← he]
    exact List.mem_of_mem_filter h
  · exact ((Frame.refl.vatCorrs (AllowsBus.ev _) ws).write (by simp) a bs).eccClearW (by simp) 8 lo n

/-- One transaction of a write that no word forbids. -/
theorem State.vatPut_written (s : State) (code a : Nat) (bs : List Byte) (ha : a < vatHi)
    (hb : s.rmwBad a bs.length = false) :
    (s.vatPut code a bs).1 = true ∧ VatWritten a bs s (s.vatPut code a bs).2 := by
  have hf : (rmwWords a bs.length).filter (fun w => s.eccBad w 8) = [] := by
    rw [List.filter_eq_nil_iff]
    simpa using (s.rmwBad_eq_false_iff _ _).1 hb
  unfold State.vatPut
  rw [if_neg (by omega)]
  dsimp only
  rw [hf]
  exact ⟨rfl, s.corrected_write _ _ _ _ _⟩

/-- An access of at most 4 096 bytes is one cut (R401). -/
theorem accessParts_short {a n : Nat} (hn : 0 < n) (hl : n ≤ 4096) : accessParts a n = vatParts a n := by
  have h1 : (n + 4095) / 4096 = 1 := by omega
  have h2 : min 4096 n = n := by omega
  simp [accessParts, accessCuts, h1, h2]

/-- A split of an access at a bank boundary: the bytes before it, which is a multiple of 8 (R401, R403). -/
theorem vatParts_cases {a n : Nat} (h : inVat a n = true) :
    vatParts a n = [(a, n)] ∨
      ∃ k, 0 < k ∧ k < n ∧ (a + k) % 8 = 0 ∧ vatParts a n = [(a, k), (a + k, n - k)] := by
  rw [inVat_iff] at h
  unfold vatParts vatLo
  dsimp only
  split
  · exact .inl rfl
  · exact .inr ⟨_, by omega, by omega, by omega, rfl⟩

/-- A write of at most 4 096 bytes inside vat memory whose partial words are not bad succeeds. -/
theorem State.vatWrite_written (s : State) (code a : Nat) (bs : List Byte) (hn : 0 < bs.length) (hl : bs.length ≤ 4096)
    (hin : inVat a bs.length = true) (hb : s.rmwBad a bs.length = false) :
    (s.vatWrite code a bs).1 = true ∧ VatWritten a bs s (s.vatWrite code a bs).2 := by
  have hv := (inVat_iff _ _).1 hin
  unfold State.vatWrite
  rw [accessParts_short hn hl]
  rcases vatParts_cases hin with hp | ⟨k, hk0, hkn, hk8, hp⟩
  · have hs : slice bs 0 bs.length = bs := by simp [slice]
    simp only [hp, List.foldl, Nat.sub_self, hs, Bool.true_and]
    exact s.vatPut_written code a bs (by unfold vatHi; omega) hb
  · have hx : (slice bs 0 k).length = k := by simp [slice]; omega
    have hy : (slice bs k (bs.length - k)).length = bs.length - k := by simp [slice]
    have hc : slice bs 0 k ++ slice bs k (bs.length - k) = bs := by
      simp only [slice, List.drop_zero]
      rw [List.take_of_length_le (l := bs.drop k) (by simp), List.take_append_drop]
    have hw := (s.rmwBad_eq_false_iff _ _).1 hb
    have hsp := rmwWords_split (k := bs.length - k) hk0 hk8
    rw [Nat.add_sub_cancel' hkn.le] at hsp
    obtain ⟨x1, x2⟩ := s.vatPut_written code a (slice bs 0 k) (by unfold vatHi; omega)
      ((s.rmwBad_eq_false_iff _ _).2 fun w h => hw w (hsp.1 w (by rwa [hx] at h)))
    obtain ⟨y1, y2⟩ := (s.vatPut code a (slice bs 0 k)).2.vatPut_written code (a + k) (slice bs k (bs.length - k))
      (by unfold vatHi; omega) ((State.rmwBad_eq_false_iff _ _ _).2 fun w h =>
        State.eccBad_of_subset _ _ _ _ (hw w (hsp.2 w (by rwa [hy] at h))) x2.2.1)
    simp only [hp, List.foldl, Nat.sub_self, Nat.add_sub_cancel_left, Bool.true_and]
    refine ⟨by rw [x1, y1]; rfl, ?_⟩
    have h := x2.trans (by rwa [hx])
    rwa [hc] at h

/-! ### Reads and writes through the crossbar -/

theorem State.busHold_mem_ecc (s : State) (a n : Nat) : (s.busHold a n).mem = s.mem ∧ (s.busHold a n).ecc = s.ecc :=
  have h : FrameEv busRegs [] s (s.busHold a n) := Frame.refl.busHold a n (by decide)
  ⟨h.2 .mem (by simp), h.2 .ecc (by simp)⟩

/-- A read inside vat memory that meets no bad word answers the bytes of memory. -/
theorem State.busRead_vat (s : State) (m : RegMaster) (a n : Nat) (hn : 0 < n) (hin : inVat a n = true)
    (hb : s.eccBad a n = false) :
    (s.busRead m a n).1 = .inl (s.read a n) ∧ FrameEv busRegs [] s (s.busRead m a n).2 := by
  obtain ⟨hm, he⟩ := s.busHold_mem_ecc a n
  have hb' : (s.busHold a n).eccBad a n = false := State.eccBad_of_subset s _ a n hb (by rw [he]; exact fun _ h => h)
  have hv : ¬vatHi < a + n := by have := (inVat_iff _ _).1 hin; unfold vatHi; omega
  unfold State.busRead State.targetRead
  rw [regionOf_vat hn hin]
  constructor
  · simp [State.vatRead, hb', hv, State.read, hm]
  · exact (Frame.refl.busHold a n (AllowsBus.ev []).inflight).vatRead (AllowsBus.ev []) _ _ _

/-- A write of whole bytes inside vat memory whose partial words are not bad (R404). -/
theorem State.busWrite_vat (s : State) (m : RegMaster) (a : Nat) (bs : List Byte) (be : List (BitVec 4))
    (hn : 0 < bs.length) (hl : bs.length ≤ 4096) (hin : inVat a bs.length = true) (hb : s.rmwBad a bs.length = false)
    (hbe : ∀ b ∈ be, b = 0xF#4) (hbar : s.hostBarred m a = false) :
    (s.busWrite m a bs be).1 = none ∧ (s.busWrite m a bs be).2.mem = Memory.write s.mem a bs ∧
      FrameEv busRegs [.mem, .ecc] s (s.busWrite m a bs be).2 := by
  obtain ⟨hm, he⟩ := s.busHold_mem_ecc a bs.length
  have hb' : (s.busHold a bs.length).rmwBad a bs.length = false :=
    (State.rmwBad_eq_false_iff _ _ _).2 fun w hw => State.eccBad_of_subset s _ _ _ ((s.rmwBad_eq_false_iff _ _).1 hb w hw)
      (by rw [he]; exact fun _ h => h)
  have hany : be.any (· != 0xF#4) = false := by simpa using hbe
  obtain ⟨h1, h2, -, h3⟩ := State.vatWrite_written _ (Master.code (RegMaster.master m)) a bs hn hl hin hb'
  unfold State.busWrite State.targetWrite
  rw [hbar, regionOf_vat hn hin]
  simp only [Bool.false_and, Bool.false_eq_true, if_false, hany, h1, if_true, true_and]
  exact ⟨by rw [h2, hm], (Frame.refl.busHold a bs.length (AllowsBus.ev []).inflight).trans h3⟩

theorem keepsOutside_of_write {a : Nat} {bs : List Byte} (h : t.mem = Memory.write s.mem a bs) :
    KeepsOutside s.mem t.mem a bs.length := by rw [h]; exact Memory.write_keeps _ _ _

end Sys2Proof.Machine
end

section
/-! SUPPORT. Words that a master writes: registers without a rule of their own, reserved offsets, accesses that are refused. -/

namespace Sys2Proof.Machine

variable {R : Nat → Bool} {P : List Part} {s t : State}

/-! ### Registers whose write follows their access codes alone (R9-R11) -/

/-- Each register of `ownRules` stands at the base of its row. -/
theorem regRow_ownRules : ∀ x ∈ ownRules, (regRow x).map (·.base) = some x := by decide +kernel

theorem not_mem_ownRules {a : Nat} {r : RegRow} (hr : regRow a = some r) (h : r.base ∉ ownRules) : a ∉ ownRules := by
  intro ha
  have hb := regRow_ownRules a ha
  rw [hr] at hb
  have hx : r.base = a := Option.some.inj hb
  exact h (hx ▸ ha)

section
variable {base i a : Nat} {data : Word} (hb : base ∉ ownRules) (ha : a ∉ ownRules)
include hb

theorem State.tallyWrite_plain (s : State) : s.tallyWrite base i a data = (s.writeWord a data).syncSummary := by
  simp only [ownRules, List.mem_cons, not_or] at hb
  simp [State.tallyWrite, hb]

include ha

theorem State.timeWrite_plain (s : State) : s.timeWrite base i a data = s.writeWord a data := by
  simp only [ownRules, List.mem_cons, not_or] at hb ha
  simp [State.timeWrite, hb, ha]

theorem State.netWrite_plain (s : State) : s.netWrite base i a data = s.writeWord a data := by
  simp only [ownRules, List.mem_cons, not_or] at hb ha
  simp [State.netWrite, hb, ha]

theorem State.audioWrite_plain (s : State) (m : RegMaster) : s.audioWrite m base i a data = s.writeWord a data := by
  simp only [ownRules, List.mem_cons, not_or] at hb ha
  simp [State.audioWrite, hb, ha]

theorem State.portWrite_plain (s : State) (m : RegMaster) : s.portWrite m base i a data = s.writeWord a data := by
  simp only [ownRules, List.mem_cons, not_or] at hb ha
  simp [State.portWrite, hb, ha]

end

/-- The write of a register of 32 bits without a rule of its own: its access codes, and in the tally what follows from them. -/
theorem State.writeReg_plain (s : State) (m : RegMaster) (a : Nat) (data : Word) (r : RegRow) (hr : regRow a = some r)
    (hw : r.words ≤ 1) (ho : r.base ∉ ownRules) :
    s.writeReg m a data = if inRange 0x100000 0x200000 a = true then (s.writeWord a data).syncSummary
      else s.writeWord a data := by
  have ha := not_mem_ownRules hr ho
  simp only [State.writeReg, hr, if_pos hw, State.narrowWrite, State.tallyWrite_plain ho, State.timeWrite_plain ho ha,
    State.netWrite_plain ho ha, State.audioWrite_plain ho ha, State.portWrite_plain ho ha, ite_self, inRange,
    Bool.and_eq_true, decide_eq_true_eq]
  by_cases h1 : a < 0x00100000
  · rw [if_pos h1, if_neg (by omega)]
  · by_cases h2 : a < 0x00200000
    · rw [if_neg h1, if_pos h2, if_pos ⟨by omega, h2⟩]
    · rw [if_neg h1, if_neg h2, if_neg (by omega)]

/-- A register all of whose bits are RW takes the word (R11). -/
theorem State.writeWord_allRw (s : State) (a : Nat) (data : Word) (r : RegRow) (hr : regRow a = some r)
    (h1 : r.rw = 0xFFFFFFFF) (h2 : r.w1c = 0) : (s.writeWord a data).reg a = data := by
  have hrw : BitVec.ofNat 32 r.rw = BitVec.allOnes 32 := by rw [h1]; rfl
  rw [State.writeWord_reg _ _ _ _ _ hr, if_pos rfl, hrw, h2, BitVec.not_allOnes, BitVec.and_zero, BitVec.zero_or,
    BitVec.and_allOnes, BitVec.and_zero, BitVec.not_zero, BitVec.and_allOnes]

/-- The enables of an event group are such a register of the tally. -/
theorem regRow_enable : ∀ g : Fin 10, regionOf (Reg.EVG_ENABLE g) = .reg ∧ regRow (Reg.EVG_ENABLE g) =
    some ⟨0x100104, 10, 0x10, 1, 0x10, 0x0, 0x0, 0xffffffff, 0x0, 0x0, 0x0, 0, 1⟩ ∧
    inRange 0x100000 0x200000 (Reg.EVG_ENABLE g) = true := by decide +kernel

/-- An offset that no register occupies ignores a write (R10). -/
theorem State.writeReg_none (s : State) (m : RegMaster) (a : Nat) (data : Word) (h : regRow a = none) :
    s.writeReg m a data = s := by rw [State.writeReg, h]

/-! ### A word through the crossbar -/

theorem State.busHold_reg (s : State) (a n : Nat) (h : regionOf a = .reg) : s.busHold a n = s.holdTags 1 := by
  rw [State.busHold, h]

/-- A word written to a register: the access holds a tag, and the register takes the word as its row says. -/
theorem State.busWrite_reg (s : State) (m : RegMaster) (a : Nat) (w : Word) (h : regionOf a = .reg)
    (hb : s.hostBarred m a = false) : s.busWrite m a (wordBytes w) [] = (none, (s.holdTags 1).writeReg m a w) := by
  unfold State.busWrite State.targetWrite
  rw [hb, s.busHold_reg _ _ h, h]
  simp

theorem State.busWriteWord_reg (s : State) (m : RegMaster) (a : Nat) (w : Word) (h : regionOf a = .reg)
    (hb : s.hostBarred m a = false) : s.busWriteWord m a w = (s.holdTags 1).writeReg m a w := by
  rw [State.busWriteWord, s.busWrite_reg m a w h hb]
  rfl

/-- Before the release a write of the host to any block but GLOBAL and BOOT waits (R594). -/
theorem State.hostBarred_host (s : State) (a : Nat) (hr : s.released = false) (h1 : 0x100000 ≤ a)
    (h2 : a < 0x9000000 ∨ 0x9100000 ≤ a) : s.hostBarred .host a = true := by
  simp only [State.hostBarred, hr, Bool.not_false, Bool.and_true, beq_self_eq_true, Bool.true_and, Bool.not_eq_true',
    Bool.or_eq_false_iff, Bool.and_eq_false_iff, decide_eq_false_iff_not]
  omega

theorem State.hostBarred_released (s : State) (m : RegMaster) (a : Nat) (hr : s.released = true) :
    s.hostBarred m a = false := by simp [State.hostBarred, hr]

/-- A write that must wait for the release changes nothing and has cause 2 (R594, R630). -/
theorem State.busWrite_barred (s : State) (m : RegMaster) (a : Nat) (bs : List Byte) (be : List (BitVec 4))
    (hb : s.hostBarred m a = true) (h : regionOf a ≠ .nothing) : s.busWrite m a bs be = (some 2, s) := by
  rw [State.busWrite, hb, targetOf_isSome h]
  rfl

/-- A write to an address without a target is answered with cause 1, at all times (R402, R630). -/
theorem State.busWrite_nothing (s : State) (m : RegMaster) (a : Nat) (bs : List Byte) (be : List (BitVec 4))
    (h : regionOf a = .nothing) :
    (s.busWrite m a bs be).1 = some 1 ∧ FrameEv busRegs [] s (s.busWrite m a bs be).2 := by
  have ht := (regionOf_eq_nothing_iff a).1 h
  unfold State.busWrite State.targetWrite
  rw [ht, h]
  simp only [Option.isSome_none, Bool.and_false, Bool.false_eq_true, if_false]
  exact ⟨rfl, (Frame.refl.busHold a _ (AllowsBus.ev []).inflight).busRefuse (AllowsBus.ev []) _ _ _ _⟩

/-- A frame of a refused access after a frame of what it did at the crossbar. -/
theorem FrameEv.hostErr (h : FrameEv busRegs [] s t) (cause dev : Nat) (write : Bool) (addr : Nat) :
    FrameEv (fun a => a == Reg.GLOBAL_HOST_ERR || a == Reg.GLOBAL_HOST_ERR_ADDR || busRegs a) [.host] s
      (t.hostErr cause dev write addr) := by
  refine Frame.hostErr (h.mono (fun a ha => ?_) (by simp)) (AllowsEvents.ev _ _) cause dev write addr (by simp) (by simp)
    (by simp)
  simp only [Bool.or_eq_true] at ha ⊢
  tauto

end Sys2Proof.Machine
end

section
/-! Words written by a master to registers and to vat memory, and the refusals of the host. -/

open Sys2Proof Sys2Proof.Machine

/-- Settles O46: a word written follows the access codes of its register, goes to vat memory, or meets the cause of R630. -/
theorem registerWrites : Obligations.RegisterWrites := by
  refine ⟨?plain, ?enable, ?vat, ?barred, ?nothing⟩
  case plain =>
    intro m addr data s r hreg hr hw ho hb
    have hx := State.writeWord_reg (s.holdTags 1) addr.toNat addr.toNat data r hr
    rw [if_pos rfl] at hx
    have hf : ∀ {R : Nat → Bool} {P : List Part}, R addr.toNat = true → R Reg.XBAR_INFLIGHT = true →
        Frame R P s ((s.holdTags 1).writeWord addr.toNat data) :=
      fun h1 h2 => (Frame.refl.holdTags 1 h2).writeWord _ _ h1
    refine ⟨_, rfl, ?_⟩
    rw [s.busWriteWord_reg m _ data hreg hb, State.writeReg_plain _ m _ data r hr hw ho]
    by_cases ht : inRange 0x100000 0x200000 addr.toNat = true
    · have hlo : 0x100000 ≤ addr.toNat := by simp [inRange] at ht; exact ht.1
      rw [if_pos ht]
      refine ⟨?_, fun h => by simp [h] at ht, fun _ => ⟨State.syncSummary_inForce _, ?_, ?_⟩⟩
      · rw [State.reg_syncSummary _ _ (by unfold Reg.GLOBAL_SUMMARY; omega) (by unfold Reg.GLOBAL_REMOTE_SUMMARY; omega), hx]
      · exact State.writeWord_tally _ _ _
      · exact (hf (by simp) (by simp)).syncSummary_narrow (by simp) (by simp) (by simp)
    · rw [if_neg ht]
      exact ⟨hx, fun _ => hf (by simp) (by simp), fun h => absurd h ht⟩
  case enable =>
    intro m g data s hb
    have ha : (BitVec.ofNat 32 (Reg.EVG_ENABLE g)).toNat = Reg.EVG_ENABLE g := by
      rw [BitVec.toNat_ofNat, Nat.mod_eq_of_lt]; unfold Reg.EVG_ENABLE; omega
    obtain ⟨hreg, hr, ht⟩ := regRow_enable g
    refine ⟨_, rfl, ?_⟩
    rw [ha, s.busWriteWord_reg m _ data hreg hb, State.writeReg_plain _ m _ data _ hr (by decide) (by decide), if_pos ht]
    refine ⟨?_, State.syncSummary_inForce _, ?_⟩
    · rw [State.reg_syncSummary _ _ (by unfold Reg.EVG_ENABLE Reg.GLOBAL_SUMMARY; omega)
        (by unfold Reg.EVG_ENABLE Reg.GLOBAL_REMOTE_SUMMARY; omega)]
      exact State.writeWord_allRw _ _ data _ hr rfl rfl
    · exact ((Frame.refl.holdTags 1 (by simp)).writeWord _ _ (by simp)).syncSummary (AllowsEvents.ev _ _)
  case vat =>
    intro m addr data s hin hb hbar
    obtain ⟨h1, h2, h3⟩ := s.busWrite_vat m addr.toNat (wordBytes data) [] (by simp) (by simp) (by simpa using hin)
      (by simpa using hb) (by simp) hbar
    refine ⟨_, rfl, ?_⟩
    rw [State.busWriteWord, h1]
    refine ⟨?_, ?_, h3⟩
    · rw [State.answerTo, State.word, h2, Memory.word_write_same]
    · exact keepsOutside_of_write h2
  case barred =>
    intro addr data s hr h1 h2 hreg
    obtain ⟨⟨hc, hd, hwr, hv, ha, hh⟩, hf⟩ := s.hostErr_refused 2 0 true addr.toNat (by decide) (by decide) addr.isLt
    refine ⟨_, rfl, ?_⟩
    rw [State.busWriteWord, s.busWrite_barred .host _ _ _ (s.hostBarred_host _ hr h1 h2) hreg]
    exact ⟨BitVec.eq_of_toNat_eq ha, hc, hh, hwr, hf⟩
  case nothing =>
    intro addr data s h
    obtain ⟨h1, h2⟩ := s.busWrite_nothing .host addr.toNat (wordBytes data) [] h
    refine ⟨_, rfl, ?_⟩
    rw [State.busWriteWord, h1]
    exact ⟨State.hostErr_told _ 1 0 true addr.toNat (by decide) (by decide) addr.isLt, h2.hostErr 1 0 true addr.toNat⟩

end

section
/-! SUPPORT. Accesses of the host as they reach this device or the relay: their addresses, their form, and what a register read
and the service of an access do (R615-R622, R630). -/

namespace Sys2Proof.Machine

variable {R : Nat → Bool} {P : List Part} {s t : State}

/-! ### What a register read may change -/

theorem Frame.doSwap (h : Frame R P s t) (i : Nat) (hE : Part.events ∈ P) (hP : Part.hadc ∈ P)
    (hR : R Reg.HADC_STATUS = true) : Frame R P s (t.doSwap i) := by
  unfold State.doSwap
  split
  · exact h
  · exact (((h.hadc hP _).hadc hP _).takeFree hE).setFld _ _ _ hR

theorem Frame.urgent (h : Frame R P s t) (c : Conv) (w3 : Nat) (hA : AllowsEvents R P) (hP : Part.hadc ∈ P)
    (hR : R Reg.HADC_STATUS = true) : Frame R P s (t.urgent c w3) := by
  have hq : Frame R P s (t.setQueue (t.hadc.queue ++ [c])) := (h.hadc hP _).setFld _ _ _ hR
  unfold State.urgent
  split
  · dsimp only
    split
    · exact hq.doSwap _ hA.2 hP hR
    · exact hq
  · exact h.raiseN hA 282 _ (by decide)

theorem Frame.lampRequests (h : Frame R P s t) (hA : AllowsEvents R P) (hL : Part.lamp ∈ P) (hP : Part.hadc ∈ P)
    (hR : R Reg.HADC_STATUS = true) : Frame R P s t.lampRequests :=
  Frame.foldl _ _ (h.lamp hL _) fun _ _ _ hu => hu.urgent _ _ hA hP hR

theorem Frame.wideLatch (h : Frame R P s t) (m : RegMaster) (a n : Nat) (hS : Part.shadow ∈ P) (hF : Part.fresh ∈ P) :
    Frame R P s (t.wideLatch m a n) :=
  Frame.foldl _ _ h fun _ _ _ hu => hu.of_same rfl fun p hp => by
    cases p <;> first | exact absurd hS hp | exact absurd hF hp | simp [Part.same]

/-- A read of a register leaves everything but register words, shadows, lamp requests and events alone. -/
theorem State.readReg_frame (s : State) (m : RegMaster) (a : Nat) :
    Frame (fun _ => true) [.events, .lamp, .hadc, .shadow, .fresh] s (s.readReg m a).2 := by
  have hr : Frame (fun _ => true) [.events, .lamp, .hadc, .shadow, .fresh] s (s.refresh a) := by
    unfold State.refresh
    refine .ite ?force (.ite ?folio (.ite ?lat (.ite ?lamps .refl)))
    case force => exact (Frame.refl.setReg _ _ rfl).setBit _ _ _ rfl
    case folio => exact Frame.refl.setReg64 _ _ rfl rfl
    case lat => exact Frame.refl.setReg _ _ rfl
    case lamps => exact Frame.refl.lampRequests ⟨fun _ _ => rfl, by simp⟩ (by simp) (by simp) rfl
  unfold State.readReg
  split
  case h_1 => split_ifs <;> exact .refl
  case h_2 r _ =>
    dsimp only
    split_ifs
    · refine hr.trans ?_
      unfold State.readClear
      refine .ite (Frame.refl.setFld _ _ _ rfl) (.ite (Frame.refl.setFld _ _ _ rfl) (.ite (Frame.refl.setReg _ _ rfl) ?_))
      split
      · exact .refl
      · exact .ite .refl (Frame.refl.setReg _ _ rfl)
    · exact hr.wideLatch m a _ (by simp) (by simp)
    · unfold State.wideHigh
      dsimp only
      split
      · exact Frame.refl.fresh (by simp) _
      · exact Frame.refl.setRegN _ _ rfl

theorem State.hostRegister_mem (s : State) (a : Nat) : (s.hostRegister a).2.mem = s.mem :=
  ((State.readReg_frame _ _ _).2 .mem (by simp)).trans (s.busHold_mem_ecc a 4).1

/-- An offset that no register occupies reads as zero, outside the windows of tables and of the coefficient ROM (R10). -/
theorem State.hostRegister_none (s : State) (a : Nat) (hreg : regionOf a = .reg) (hr : regRow a = none)
    (h1 : a < 0x2000000 ∨ 0x2400000 ≤ a) (h2 : a < srcCoefAt ∨ srcCoefAt + 4 * 131073 ≤ a) :
    s.hostRegister a = (0, s.holdTags 1) := by
  rw [State.hostRegister, s.busHold_reg a 4 hreg, State.readReg, hr]
  dsimp only
  rw [if_neg (by omega), if_neg (by omega)]

/-! ### The form of an access -/

/-- The byte enables that an access carries: quad-SPI has none (R617). -/
def hostEnables (via : HostPath) (be : List (BitVec 4)) : List (BitVec 4) :=
  match via with
  | .qspi _ _ => []
  | _ => be

theorem State.not_quadSpi_of_linkUp (h : s.linkUp = true) : s.quadSpi = false := by
  simp only [State.linkUp, Bool.and_eq_true, Bool.not_eq_true'] at h
  exact h.2

theorem Field.get_lt (f : Field) (w : Word) : f.get w < 2 ^ f.width := Nat.mod_lt _ (Nat.two_pow_pos _)

theorem qspiWords_range {k n : Nat} {op : BitVec 8} (h : qspiWords k op = some n) : 0 < n ∧ n ≤ 16 := by
  unfold qspiWords at h
  split at h
  · have := Option.some.inj h; omega
  · cases h

/-- An access reaches one of the 64 indices at an address of 32 bits (R12, R619, R620). -/
theorem State.hostReaches_lt {via : HostPath} {k n d a : Nat} (h : s.hostReaches via k n d a) : d < 64 ∧ a < 2 ^ 32 := by
  cases via with
  | cfg r => exact h.elim
  | bar0 o =>
    obtain ⟨-, rfl, rfl⟩ := h
    have hf := Field.get_lt Fld.GLOBAL_HOST_WIN_BASE (s.reg (Reg.GLOBAL_HOST_WIN (o.toNat / 2 ^ 24 % 4)))
    refine ⟨by decide, ?_⟩
    simp only [Fld.GLOBAL_HOST_WIN_BASE, State.bar0, State.fld] at hf ⊢
    split <;> omega
  | bar2 o =>
    obtain ⟨-, rfl, rfl⟩ := h
    have hf := Field.get_lt Fld.HOST_RWIN_BASE (s.reg (Reg.HOST_RWIN (o.toNat / 2 ^ 16 % 2 ^ 6)))
    simp only [Fld.HOST_RWIN_BASE, State.bar2, State.fld] at hf ⊢
    omega
  | qspi op addr =>
    obtain ⟨-, -, -, -, rfl, rfl⟩ := h
    have := addr.isLt
    unfold mgmtDev mgmtLocal
    omega

theorem State.hostRead_reaches {via : HostPath} {n d a : Nat} (h : s.hostReaches via 4 n d a) (be : List (BitVec 4)) :
    s.hostRead via n be = s.hostReadAt d a n (hostEnables via be) false := by
  cases via with
  | cfg r => exact h.elim
  | bar0 o => obtain ⟨hl, rfl, rfl⟩ := h; exact if_pos hl
  | bar2 o => obtain ⟨hl, rfl, rfl⟩ := h; exact if_pos hl
  | qspi op addr =>
    obtain ⟨hq, hp, hm, hw, rfl, rfl⟩ := h
    simp [State.hostRead, State.qspiRead, hw, hq, hp, hm, hostEnables]

theorem State.hostWrite_reaches {via : HostPath} {d a : Nat} {data : List Word} (h : s.hostReaches via 8 data.length d a)
    (be : List (BitVec 4)) : s.hostWrite via data be = s.hostWriteAt d a data (hostEnables via be) := by
  cases via with
  | cfg r => exact h.elim
  | bar0 o => obtain ⟨hl, rfl, rfl⟩ := h; exact if_pos hl
  | bar2 o => obtain ⟨hl, rfl, rfl⟩ := h; exact if_pos hl
  | qspi op addr =>
    obtain ⟨hq, hp, hm, hw, rfl, rfl⟩ := h
    simp [State.hostWrite, State.qspiWrite, hw, hq, hp, hm, hostEnables]

theorem State.hostEnables_whole {via : HostPath} {k n d a : Nat} {be : List (BitVec 4)} (h : s.hostReaches via k n d a)
    (hw : s.wholeWords be) : ∀ b ∈ hostEnables via be, b = 0xF#4 := by
  have hbar : s.linkUp = true → ∀ b ∈ be, b = 0xF#4 := fun hl =>
    hw.resolve_left (by simp [State.not_quadSpi_of_linkUp hl])
  cases via with
  | cfg r => exact h.elim
  | bar0 o => exact hbar h.1
  | bar2 o => exact hbar h.1
  | qspi op addr => simp [hostEnables]

theorem accessOk_iff (a n : Nat) (be : List (BitVec 4)) (words : Bool) : accessOk a n be words = true ↔
    a % 4 = 0 ∧ 0 < n ∧ n ≤ 64 ∧ (regionOf a = .reg → (∀ b ∈ be, b = 0xF#4) ∧ (words = true ∨ n = 1)) := by
  simp only [accessOk, Bool.and_eq_true, Bool.or_eq_true, beq_iff_eq, bne_iff_ne, decide_eq_true_eq, List.all_eq_true,
    and_assoc, ne_eq]
  tauto

/-- The size, the alignment and the byte enables of an access break R621 exactly where its service refuses them. -/
theorem State.hostMalformed_iff {via : HostPath} {k n d a : Nat} (h : s.hostReaches via k n d a) (be : List (BitVec 4)) :
    s.hostMalformed n a be ↔ accessOk a n (hostEnables via be) s.quadSpi = false := by
  have hbar : s.linkUp = true → (s.hostMalformed n a be ↔ ¬accessOk a n be s.quadSpi = true) := by
    intro hl
    have hex : (∃ b ∈ be, b ≠ 0xF#4) ↔ ¬∀ b ∈ be, b = 0xF#4 := by simp
    rw [State.hostMalformed, accessOk_iff, State.not_quadSpi_of_linkUp hl, hex]
    generalize (∀ b ∈ be, b = 0xF#4) = whole
    by_cases hr : regionOf a = .reg
    · by_cases hw : whole
      · simp [hr, hw]
        omega
      · simp [hr, hw]
    · simp [hr]
      omega
  rw [← Bool.not_eq_true]
  cases via with
  | cfg r => exact h.elim
  | bar0 o => exact hbar h.1
  | bar2 o => exact hbar h.1
  | qspi op addr =>
    obtain ⟨hq, -, -, hw, -, -⟩ := h
    have := qspiWords_range hw
    rw [State.hostMalformed, accessOk_iff, hq]
    simp [hostEnables]
    omega

/-- An access of whole words to registers that carries one word, or any number over quad-SPI, is well formed. -/
theorem State.accessOk_reaches {via : HostPath} {k n d a : Nat} {be : List (BitVec 4)} (h : s.hostReaches via k n d a)
    (hw : s.wholeWords be) (ha : a % 4 = 0) (hn : 0 < n) (hl : n ≤ 64)
    (hr : regionOf a = .reg → s.quadSpi = true ∨ n = 1) :
    accessOk a n (hostEnables via be) s.quadSpi = true :=
  (accessOk_iff _ _ _ _).2 ⟨ha, hn, hl, fun hreg => ⟨State.hostEnables_whole h hw, hr hreg⟩⟩

/-! ### Reads served here -/

theorem State.busRead_reg (s : State) (a : Nat) (h : regionOf a = .reg) :
    s.busRead .host a 4 = (.inl (wordBytes (s.hostRegister a).1), (s.hostRegister a).2) := by
  rw [State.busRead, State.targetRead, h]
  rfl

theorem State.hostReadEach_succ (s : State) (a n : Nat) (h : regionOf a = .reg) (ws : List Word)
    (hn : ((s.hostRegister a).2.hostReadEach (a + 4) n).1 = .inl ws) :
    s.hostReadEach a (n + 1) =
      (.inl ((s.hostRegister a).1 :: ws), ((s.hostRegister a).2.hostReadEach (a + 4) n).2) := by
  simp only [State.hostReadEach, s.busRead_reg a h, hn, wordOf_wordBytes]

/-- A read of a well-formed access to registers whose words are read one by one. -/
theorem State.hostReadHere_reg (s v : State) (a n : Nat) (be : List (BitVec 4)) (ws : List Word)
    (hok : accessOk a n be s.quadSpi = true) (h : regionOf a = .reg) (he : s.hostReadEach a n = (.inl ws, v)) :
    s.hostReadHere a n be = v.hostAnswer ws 0 := by
  simp only [State.hostReadHere, State.hostServeRead, hok, h, if_true, he]

/-- A word of a register read by the host. -/
theorem State.hostReadHere_word (s : State) (a : Nat) (be : List (BitVec 4)) (hok : accessOk a 1 be s.quadSpi = true)
    (h : regionOf a = .reg) : s.hostReadHere a 1 be = (s.hostRegister a).2.hostAnswer [(s.hostRegister a).1] 0 :=
  s.hostReadHere_reg _ a 1 be _ hok h (s.hostReadEach_succ a 0 h [] rfl)

/-- A read by the host through the link in use that is a word of a register. -/
theorem State.hostRead_word {via : HostPath} {a : Nat} {be : List (BitVec 4)} (h : s.hostReaches via 4 1 0 a)
    (hw : s.wholeWords be) (ha : a % 4 = 0) (hreg : regionOf a = .reg) :
    s.hostRead via 1 be = (s.hostRegister a).2.hostAnswer [(s.hostRegister a).1] 0 := by
  rw [State.hostRead_reaches h, State.hostReadAt, if_pos rfl]
  exact s.hostReadHere_word a _ (State.accessOk_reaches h hw ha (by decide) (by decide) fun _ => .inr rfl) hreg

/-- Two words of registers read in one access of quad-SPI: the second one meets what the first one has left (R618). -/
theorem State.hostReadHere_two (s : State) (a : Nat) (be : List (BitVec 4)) (hok : accessOk a 2 be s.quadSpi = true)
    (h : regionOf a = .reg) (h' : regionOf (a + 4) = .reg) :
    let v := (s.hostRegister a).2
    s.hostReadHere a 2 be =
      (v.hostRegister (a + 4)).2.hostAnswer [(s.hostRegister a).1, (v.hostRegister (a + 4)).1] 0 := by
  intro v
  have h2 : v.hostReadEach (a + 4) 1 = (.inl [(v.hostRegister (a + 4)).1], (v.hostRegister (a + 4)).2) :=
    v.hostReadEach_succ (a + 4) 0 h' [] rfl
  have h1 := s.hostReadEach_succ a 1 h _ (congrArg Prod.fst h2)
  rw [h2] at h1
  exact s.hostReadHere_reg _ a 2 be _ hok h h1

theorem State.hostReadHere_malformed (s : State) (a n : Nat) (be : List (BitVec 4)) (h : accessOk a n be s.quadSpi = false) :
    s.hostReadHere a n be = (s.hostErr 3 0 false a).hostAnswer (onesWords n) 3 := by
  simp [State.hostReadHere, State.hostServeRead, h]

/-- Words of vat memory read by the host. -/
theorem State.hostReadHere_vat (s : State) (a n : Nat) (be : List (BitVec 4)) (ha : a % 4 = 0) (hn : 0 < n) (hl : n ≤ 64)
    (hin : inVat a (4 * n) = true) (hb : s.eccBad a (4 * n) = false) :
    (s.hostReadHere a n be).host.data = (List.range n).map (fun i => s.word (a + 4 * i)) ∧
      (s.hostReadHere a n be).host.cause = 0 ∧ FrameEv busRegs [.host] s (s.hostReadHere a n be) := by
  have hreg : regionOf a = .vat := regionOf_vat (by omega) hin
  have hok : accessOk a n be s.quadSpi = true := (accessOk_iff _ _ _ _).2 ⟨ha, hn, hl, fun h => by simp [hreg] at h⟩
  obtain ⟨h1, h2⟩ := s.busRead_vat .host a (4 * n) (by omega) hin hb
  have he : s.hostReadHere a n be = (s.busRead .host a (4 * n)).2.hostAnswer (wordsOf n (s.read a (4 * n))) 0 := by
    simp only [State.hostReadHere, State.hostServeRead, hok, if_true, hreg, reduceCtorEq, if_false, h1]
  rw [he]
  exact ⟨Memory.wordsOf_read s.mem a n, rfl, Frame.hostAnswer (h2.mono (fun _ h => h) (by simp)) _ _ (by simp)⟩

/-! ### Writes served here -/

/-- The answer to a write by its cause: none, or an error that is recorded (R630). -/
def State.writeAnswered (s : State) (a : Nat) (cause : Option Nat) : State :=
  match cause with
  | none => s.hostAnswer [] 0
  | some c => (s.hostErr c 0 true a).hostAnswer [] c

theorem State.hostWriteHere_eq (s : State) (a : Nat) (data : List Word) (be : List (BitVec 4)) :
    s.hostWriteHere a data be =
      (s.hostServeWrite a data be s.quadSpi).2.writeAnswered a (s.hostServeWrite a data be s.quadSpi).1 := by
  unfold State.hostWriteHere State.writeAnswered
  split <;> simp_all

/-- A word written by the host goes through the crossbar; to a register it carries no enables. -/
theorem State.hostServeWrite_word (s : State) (a : Nat) (w : Word) (be : List (BitVec 4)) (words : Bool)
    (hok : accessOk a 1 be words = true) :
    s.hostServeWrite a [w] be words = s.busWrite .host a (wordBytes w) (if regionOf a = .reg then [] else be) := by
  simp only [State.hostServeWrite, List.length_singleton, hok, if_true, List.flatMap_singleton]
  split
  · simp only [State.hostWriteEach]
    split <;> rename_i h <;> exact Prod.ext h.symm rfl
  · rfl

theorem State.hostWrite_word {via : HostPath} {a : Nat} {be : List (BitVec 4)} (w : Word) (h : s.hostReaches via 8 1 0 a)
    (hok : accessOk a 1 (hostEnables via be) s.quadSpi = true) :
    let e := if regionOf a = .reg then [] else hostEnables via be
    s.hostWrite via [w] be = (s.busWrite .host a (wordBytes w) e).2.writeAnswered a (s.busWrite .host a (wordBytes w) e).1 := by
  rw [State.hostWrite_reaches h, State.hostWriteAt, if_pos rfl, State.hostWriteHere_eq, State.hostServeWrite_word _ _ _ _ _ hok]

/-- Words written by the host to memory are one access of the crossbar. -/
theorem State.hostWrite_memory {via : HostPath} {a : Nat} {be : List (BitVec 4)} {data : List Word}
    (h : s.hostReaches via 8 data.length 0 a) (hok : accessOk a data.length (hostEnables via be) s.quadSpi = true)
    (hreg : regionOf a ≠ .reg) :
    let r := s.busWrite .host a (data.flatMap wordBytes) (hostEnables via be)
    s.hostWrite via data be = r.2.writeAnswered a r.1 := by
  rw [State.hostWrite_reaches h, State.hostWriteAt, if_pos rfl, State.hostWriteHere_eq, State.hostServeWrite, if_pos hok,
    if_neg hreg]

end Sys2Proof.Machine
end

section
/-! Offsets that no register occupies. -/

open Sys2Proof Sys2Proof.Machine

/-- Settles O48: the row of such an offset is none, so that a write finds nothing to change and a read answers zero. -/
theorem reservedOffsets : Obligations.ReservedOffsets := by
  refine ⟨?write, ?read⟩
  case write =>
    intro m addr data s hreg hr hb
    refine ⟨_, rfl, ?_⟩
    rw [s.busWriteWord_reg m _ data hreg hb, State.writeReg_none _ _ _ _ hr]
    exact Frame.refl.holdTags 1 (by simp)
  case read =>
    intro via be s a h hw ha hreg hr h1 h2
    refine ⟨_, rfl, ?_⟩
    rw [State.hostRead_word h hw ha hreg, s.hostRegister_none a hreg hr h1 h2]
    exact ⟨rfl, rfl, (Frame.refl.holdTags 1 (by simp)).hostAnswer _ _ (by simp)⟩

end

section
/-! SUPPORT. A write of a word with byte enables to vat memory (R404, R621). -/

namespace Sys2Proof.Machine

variable {s t : State}

theorem length_mergeBytes (be : List (BitVec 4)) (old new : List Byte) : (mergeBytes be old new).length = new.length := by
  simp [mergeBytes]

theorem getD_mergeBytes (be : List (BitVec 4)) (old new : List Byte) (i : Nat) (hi : i < new.length) :
    (mergeBytes be old new).getD i 0 = if byteOn be i = true then new.getD i 0 else old.getD i 0 := by
  simp [mergeBytes, hi]

/-- Bytes that are all enabled replace what stood there. -/
theorem mergeBytes_whole (be : List (BitVec 4)) (old new : List Byte) (h : ∀ b ∈ be, b = 0xF#4) :
    mergeBytes be old new = new := by
  have hon : ∀ i, byteOn be i = true := by
    intro i
    have hF : be.getD (i / 4) 0xF#4 = 0xF#4 := by
      rw [List.getD_eq_getElem?_getD]
      cases hg : be[i / 4]? with
      | none => rfl
      | some b => exact h b (List.mem_of_getElem? hg)
    have hall : ∀ j, j < 4 → (0xF#4).getLsbD j = true := by decide
    rw [byteOn, hF]
    exact hall _ (Nat.mod_lt _ (by decide))
  refine List.ext_getElem (length_mergeBytes _ _ _) fun i _ hi => ?_
  simp [mergeBytes, hon, hi]

theorem Memory.getD_read (m : Memory) (a n i : Nat) (hi : i < n) : (Memory.read m a n).getD i 0 = Memory.byte m (a + i) := by
  induction n generalizing a i with
  | zero => omega
  | succ n ih =>
    cases i with
    | zero => rfl
    | succ i => rw [Memory.read, List.getD_cons_succ, ih (a + 1) i (by omega), Nat.add_right_comm, Nat.add_assoc]

/-- One transaction of a write with byte enables that no word forbids (R404). -/
theorem State.vatPartWrite_written (s : State) (code a : Nat) (bs : List Byte) (be : List (BitVec 4)) (ha : a < vatHi)
    (h : ∀ u ∈ partUnits 8 be a bs.length, s.eccBad u 8 = false) :
    (s.vatPartWrite code a bs be).1 = none ∧
      VatWritten a (mergeBytes be (s.read a bs.length) bs) s (s.vatPartWrite code a bs be).2 := by
  have hf : (partUnits 8 be a bs.length).find? (fun u => s.eccBad u 8) = none := by
    rw [List.find?_eq_none]
    exact fun u hu => by simp [h u hu]
  unfold State.vatPartWrite
  dsimp only
  rw [if_neg (by omega), hf]
  exact ⟨rfl, s.corrected_write _ _ _ _ _⟩

/-- A word at a multiple of 4 touches one 64-bit word. -/
theorem partUnits_word {a u : Nat} (ha : a % 4 = 0) (be : List (BitVec 4)) (h : u ∈ partUnits 8 be a 4) : u = a / 8 * 8 := by
  have h1 : (a + 4 + 8 - 1) / 8 - a / 8 = 1 := by omega
  have hm := List.mem_of_mem_filter h
  rw [h1] at hm
  simpa using hm

theorem rmwBad_word {a : Nat} (ha : a % 4 = 0) (h : s.eccBad (a / 8 * 8) 8 = false) : s.rmwBad a 4 = false := by
  rw [State.rmwBad_eq_false_iff]
  intro w hw
  have hw' : w = a / 8 * 8 := by
    rcases List.mem_append.1 hw with h1 | h1
    · split at h1 <;> simp_all
    · split at h1
      · have : (a + 4) / 8 = a / 8 := by omega
        simpa [this] using h1
      · simp at h1
  rwa [hw']

/-- A word written with its byte enables, in a 64-bit word of vat memory that is not bad. -/
theorem State.busWrite_enables (s : State) (m : RegMaster) (a : Nat) (w : Word) (b : BitVec 4) (ha : a % 4 = 0)
    (hin : inVat a 4 = true) (hb : s.eccBad (a / 8 * 8) 8 = false) (hbar : s.hostBarred m a = false) :
    (s.busWrite m a (wordBytes w) [b]).1 = none ∧ (s.busWrite m a (wordBytes w) [b]).2.mem =
      Memory.write s.mem a (mergeBytes [b] (s.read a 4) (wordBytes w)) := by
  by_cases hF : b = 0xF#4
  · have hbe : ∀ x ∈ [b], x = 0xF#4 := by simpa using hF
    obtain ⟨h1, h2, -⟩ := s.busWrite_vat m a (wordBytes w) [b] (by simp) (by simp) (by simpa using hin)
      (by simpa using rmwBad_word ha hb) hbe hbar
    exact ⟨h1, by rw [h2, mergeBytes_whole _ _ _ hbe]⟩
  · obtain ⟨hm, he⟩ := s.busHold_mem_ecc a 4
    have hp : accessParts a 4 = [(a, 4)] := by
      rw [accessParts_short (by decide) (by decide)]
      rcases vatParts_cases hin with h | ⟨k, h1, h2, h3, -⟩
      · exact h
      · omega
    have hs : slice (wordBytes w) 0 4 = wordBytes w := List.take_of_length_le (by simp)
    have hunits : ∀ u ∈ partUnits 8 [b] a 4, (s.busHold a 4).eccBad u 8 = false := by
      intro u hu
      rw [partUnits_word ha [b] hu]
      exact State.eccBad_of_subset s _ _ _ hb (by rw [he]; exact fun _ h => h)
    have hlt : a < vatHi := by have := (inVat_iff _ _).1 hin; unfold vatHi; omega
    obtain ⟨h1, h2, -⟩ := (s.busHold a 4).vatPartWrite_written (Master.code (RegMaster.master m)) a (wordBytes w) [b] hlt
      (by rw [length_wordBytes]; exact hunits)
    simp only [State.busWrite, hbar, Bool.false_and, Bool.false_eq_true, if_false, length_wordBytes, State.targetWrite,
      regionOf_vat (by decide : 0 < 4) hin, List.any_cons, List.any_nil, Bool.or_false, bne_iff_ne, ne_eq, hF,
      not_false_eq_true, if_true, State.vatPartsWrite, hp, List.foldl, Nat.sub_self, hs, Nat.zero_div, List.drop_zero, h1, h2]
    exact ⟨rfl, by rw [hm, State.read, hm]; rfl⟩

/-- Byte i of a word takes its new value where its enable is set. -/
theorem Memory.byte_mergeBytes (m : Memory) (a i : Nat) (w : Word) (b : BitVec 4) (hi : i < 4) :
    Memory.byte (Memory.write m a (mergeBytes [b] (Memory.read m a 4) (wordBytes w))) (a + i) =
      if b.getLsbD i = true then (wordBytes w).getD i 0 else Memory.byte m (a + i) := by
  have hon : byteOn [b] i = b.getLsbD i := by
    rw [byteOn, Nat.div_eq_of_lt hi, Nat.mod_eq_of_lt hi]
    rfl
  rw [Memory.byte_write, length_mergeBytes, length_wordBytes, if_pos ⟨by omega, by omega⟩, Nat.add_sub_cancel_left,
    getD_mergeBytes _ _ _ _ (by simpa using hi), hon, Memory.getD_read _ _ _ _ hi]

end Sys2Proof.Machine
end

section
/-! SUPPORT. Requests of the host for another device, and configuration space (R615, R622, R625, R626). -/

namespace Sys2Proof.Machine

variable {R : Nat → Bool} {P : List Part} {s t : State}

/-! ### Relay requests -/

theorem Frame.enqueue (h : Frame R P s t) (p : Nat) (f : QFrame) (hP : Part.stream ∈ P) : Frame R P s (t.enqueue p f) := by
  unfold State.enqueue
  exact .ite (h.stream hP _) (h.stream hP _)

/-- A relay frame joins its queue while a descriptor is free, and nothing else changes. -/
theorem Frame.sendRelay_free (h : Frame R P s t) (p : Nat) (dest bs : List Byte) (hP : Part.stream ∈ P)
    (hd : t.descFree = true) : Frame R P s (t.sendRelay p dest bs) := by
  rw [State.sendRelay, if_pos hd]
  exact (h.stream hP _).enqueue _ _ hP

theorem Frame.sendRelay (h : Frame R P s t) (p : Nat) (dest bs : List Byte) (hA : AllowsEvents R P) (hP : Part.stream ∈ P)
    (hR : R Reg.STREAM_NODESC = true) : Frame R P s (t.sendRelay p dest bs) := by
  by_cases hd : t.descFree = true
  · exact h.sendRelay_free p dest bs hP hd
  · rw [State.sendRelay, if_neg hd]
    exact (h.countHold _ 1 hR).raiseMs hA _ 136 _ (by decide)

/-- A request has left: it holds its TAG and is outstanding. -/
def State.relayLeft (s : State) (before : List RelayReq) (r : RelayReq) (rest : List RelayReq) : State :=
  { s with host := { s.host with
    relay := before ++ { r with tag := s.host.nextTag, sent := true } :: rest, nextTag := (s.host.nextTag + 1) % 2 ^ 8 } }

/-- The request of the next read of the host for another device, before it has left. -/
def State.readRequest (s : State) (d a n : Nat) : RelayReq :=
  ⟨0, s.host.nextGroup, d, a, n, false, [], false, false, [], 0, false⟩

/-- Such a request alone in the queue. -/
def State.readQueued (s : State) (d a n : Nat) : State :=
  { s with host := { s.host with relay := [s.readRequest d a n], nextGroup := s.host.nextGroup + 1 } }

/-- What a request to a valid index leaves: it is outstanding, and a frame may have joined a queue (R625). -/
theorem State.relaySend_valid (s : State) (before : List RelayReq) (r : RelayReq) (rest : List RelayReq)
    (hv : s.relayValid r.dev = true) :
    FrameEv (fun a => a == Reg.STREAM_NODESC) [.stream] (s.relayLeft before r rest) (s.relaySend before r rest) ∧
      (s.descFree = true → Frame noRegs [.stream] (s.relayLeft before r rest) (s.relaySend before r rest)) := by
  unfold State.relaySend
  rw [if_pos hv]
  dsimp only
  cases s.relayPort r.dev with
  | none => exact ⟨.refl, fun _ => .refl⟩
  | some p =>
    dsimp only
    split
    · exact ⟨.refl, fun _ => .refl⟩
    · exact ⟨Frame.refl.sendRelay _ _ _ (AllowsEvents.ev _ _) (by simp) (by decide),
        fun hd => Frame.refl.sendRelay_free _ _ _ (by simp) hd⟩

/-- One request alone that has not left leaves, and waits for its answer. -/
theorem State.relayGo_single (s : State) (r : RelayReq) (h : s.host.relay = [r]) (hs : r.sent = false) (he : r.ended = false)
    (ht : ∃ x, (s.relaySend [] r []).host.relay = [{ r with tag := x, sent := true }]) :
    s.relayGo = s.relaySend [] r [] := by
  obtain ⟨x, hx⟩ := ht
  have h1 : s.relayPump 2 = (s.relaySend [] r []).relayPump 1 := by
    simp [State.relayPump, h, hs, he, relayNext]
  have h2 : (s.relaySend [] r []).relayPump 1 = s.relaySend [] r [] := by
    simp [State.relayPump, hx, he, relayNext]
  have h3 : (s.relaySend [] r []).relayFinishAll = s.relaySend [] r [] := by
    simp [State.relayFinishAll, hx, List.eraseDups_cons, State.relayFinish, he]
  rw [State.relayGo, h]
  exact (congrArg State.relayFinishAll (h1.trans h2)).trans h3

/-- A request of at most 16 words is one part (R626). -/
theorem relayParts_short (g d fuel a n : Nat) (write lost : Bool) (hn : 0 < n) (hl : n ≤ 16) :
    relayParts g d write lost (fuel + 1) a [] n = [⟨0, g, d, a, n, write, [], false, false, [], 0, lost⟩] := by
  have h2 : relayParts g d write lost fuel (a + 4 * n) [] 0 = [] := by cases fuel <;> rfl
  rw [relayParts, if_neg (by omega), Nat.min_eq_right hl]
  simp [h2]

/-- A read for a device with a valid index and no other request leaves with the next TAG (R625). -/
theorem State.relayRequest_read (s : State) (d a n : Nat) (be : List (BitVec 4)) (hv : s.relayValid d = true)
    (hok : accessOk a n be s.quadSpi = true) (hn : 0 < n) (hl : n ≤ 16) (hbe : ∀ b ∈ be, b = 0xF#4)
    (he : s.host.relay = []) :
    let t := s.relayRequest d a n false false [] be
    t.host.relay = [⟨s.host.nextTag, s.host.nextGroup, d, a, n, false, [], true, false, [], 0, false⟩] ∧
      t.host.nextTag = (s.host.nextTag + 1) % 2 ^ 8 ∧ t.host.data = s.host.data ∧
      (s.descFree = true → Frame noRegs [.host, .stream] s t) := by
  have hw : s.relayWords [] be = ([], s) := by
    rw [State.relayWords, if_pos (by simpa using hbe)]
  have hq : Frame noRegs [.host, .stream] s (s.readQueued d a n) := Frame.refl.host (by simp) _ rfl rfl
  have hleft : Frame noRegs [.host, .stream] s ((s.readQueued d a n).relayLeft [] (s.readRequest d a n) []) :=
    hq.host (by simp) _ rfl rfl
  obtain ⟨hf, hd⟩ := (s.readQueued d a n).relaySend_valid [] (s.readRequest d a n) [] hv
  have hh := hf.2 .host (by simp)
  simp only [Part.same] at hh
  have hgo := (s.readQueued d a n).relayGo_single (s.readRequest d a n) rfl rfl rfl ⟨s.host.nextTag, by rw [hh]; rfl⟩
  have hreq : s.relayRequest d a n false false [] be = (s.readQueued d a n).relayGo := by
    simp only [State.relayRequest, hv, hok, Bool.not_true, Bool.false_eq_true, if_false, hw,
      relayParts_short _ _ 3 a n _ _ hn hl, he, List.nil_append]
    rfl
  dsimp only
  rw [hreq, hgo]
  refine ⟨by rw [hh]; rfl, by rw [hh]; rfl, by rw [hh]; rfl, fun h => ?_⟩
  exact hleft.trans ((hd h).mono (fun _ h => h) (by simp))

/-- A read for another device that is refused, with cause 4 where its index is not valid, else 3 (R621, R630). -/
theorem State.relayRequest_refused (s : State) (d a n : Nat) (be : List (BitVec 4))
    (h : s.relayValid d = false ∨ accessOk a n be s.quadSpi = false) :
    s.relayRequest d a n false false [] be = s.relayRefuse d a n (if s.relayValid d = false then 4 else 3) false false := by
  unfold State.relayRequest
  by_cases hv : s.relayValid d = false
  · simp [hv]
  · simp [hv, h.resolve_left hv]

/-! ### Configuration space -/

theorem cfgKey_injective : Function.Injective cfgKey := by
  intro q r h
  cases q with
  | bar n =>
    cases r with
    | bar m => exact congrArg HostCfg.bar (Fin.ext h)
    | msiControl | msiAddrLo | msiAddrHi | msiData => exact absurd h (by simp only [cfgKey]; omega)
  | msiControl | msiAddrLo | msiAddrHi | msiData =>
    cases r with
    | bar m => exact absurd h (by simp only [cfgKey]; omega)
    | msiControl | msiAddrLo | msiAddrHi | msiData => simp_all [cfgKey]

theorem State.cfgRead_cfgWrite (s : State) (q r : HostCfg) (w : Word) : (s.cfgWrite r w).cfgRead q =
    if r = q then (w &&& cfgMask r) ||| cfgFixed r else s.cfgRead q := by
  unfold State.cfgRead State.cfgWrite
  dsimp only
  rw [SMap.find_set]
  by_cases h : r = q
  · subst h
    rw [if_pos rfl, if_pos rfl, BitVec.and_assoc, BitVec.and_self]
  · rw [if_neg (fun hk => h (cfgKey_injective hk)), if_neg h]

theorem State.msiOn_cfgWrite (s : State) (w : Word) : (s.cfgWrite .msiControl w).msiOn = w.getLsbD 0 := by
  simp [State.msiOn, State.cfgWrite, cfgKey, cfgMask, BitVec.getLsbD]

/-! ### Accesses that quad-SPI does not serve -/

theorem mgmtDev_lt (addr : BitVec 40) : mgmtDev addr < 64 := by
  have := addr.isLt
  unfold mgmtDev
  omega

theorem mgmtLocal_lt (addr : BitVec 40) : mgmtLocal addr < 2 ^ 32 := Nat.mod_lt _ (by decide)

theorem State.qspiRead_reset (s : State) (addr : BitVec 40) (n : Nat) (lost : Bool) (h : s.power = .reset) :
    s.qspiRead addr n lost = s := by rw [State.qspiRead, h]

theorem State.qspiWrite_reset (s : State) (addr : BitVec 40) (data : List Word) (h : s.power = .reset) :
    s.qspiWrite addr data = s := by rw [State.qspiWrite, h]

/-- A read over a link that is down, in reset, or with another opcode does nothing (R615, R617). -/
theorem State.hostRead_ignored (s : State) {via : HostPath} {words : Nat} (n : Nat) (be : List (BitVec 4))
    (h : s.hostIgnores via words) : s.hostRead via n be = s := by
  cases via with
  | bar0 o => exact if_neg (by simp [show s.linkUp = false from h])
  | bar2 o => exact if_neg (by simp [show s.linkUp = false from h])
  | cfg r => exact if_neg (by simp [show s.linkUp = false from h])
  | qspi op addr =>
    rcases h with h | h | ⟨h, -⟩
    · cases hk : qspiWords 4 op <;> simp [State.hostRead, hk, h]
    · cases hk : qspiWords 4 op <;> simp [State.hostRead, hk, s.qspiRead_reset _ _ _ h]
    · simp [State.hostRead, h]

/-- So does a write, and one that has not delivered its words (R618). -/
theorem State.hostWrite_ignored (s : State) {via : HostPath} {data : List Word} (be : List (BitVec 4))
    (h : s.hostIgnores via data.length) : s.hostWrite via data be = s := by
  cases via with
  | bar0 o => exact if_neg (by simp [show s.linkUp = false from h])
  | bar2 o => exact if_neg (by simp [show s.linkUp = false from h])
  | cfg r => exact if_neg (by simp [show s.linkUp = false from h])
  | qspi op addr =>
    rcases h with h | h | ⟨-, h⟩
    · cases hk : qspiWords 8 op <;> simp [State.hostWrite, hk, h]
    · cases hk : qspiWords 8 op <;> simp [State.hostWrite, hk, s.qspiWrite_reset _ _ h]
    · cases hk : qspiWords 8 op with
      | none => simp [State.hostWrite, hk]
      | some k => simp [State.hostWrite, hk, h k hk]

/-- A read over quad-SPI of a dormant device: a mirror answers its register, anything else is an error without a record
(R631). -/
theorem State.hostRead_dormant (s : State) (op : BitVec 8) (addr : BitVec 40) (n : Nat) (be : List (BitVec 4))
    (hp : s.power = .dormant) (hq : s.quadSpi = true) (hk : qspiWords 4 op = some 1) :
    s.hostRead (.qspi op addr) n be = s.hostAnswer [if mirrored addr.toNat = true then s.reg addr.toNat else 0xFFFFFFFF]
      (if mirrored addr.toNat = true then 0 else 8) := by
  have hread : s.hostRead (.qspi op addr) n be = s.hostReadAsleep addr.toNat 1 := by
    simp [State.hostRead, State.qspiRead, hk, hq, hp]
  rw [hread]
  by_cases hm : mirrored addr.toNat = true
  · simp [State.hostReadAsleep, hq, hm]
  · simp [State.hostReadAsleep, hq, hm, hp, onesWords]

/-- A word of this device's registers read over quad-SPI, whether or not its answer is lost. -/
theorem State.qspiRead_word (s : State) (addr : BitVec 40) (lost : Bool) (hp : s.power = .running)
    (hlt : addr.toNat < 2 ^ 32) (ha : addr.toNat % 4 = 0) (hreg : regionOf addr.toNat = .reg) :
    s.qspiRead addr 1 lost = (s.hostRegister addr.toNat).2.hostAnswer [(s.hostRegister addr.toNat).1] 0 := by
  have h1 : mgmtOk addr = true := by rw [mgmtOk, Nat.div_eq_of_lt hlt]; rfl
  have h2 : mgmtDev addr = 0 := Nat.div_eq_of_lt (by omega)
  have h3 : mgmtLocal addr = addr.toNat := Nat.mod_eq_of_lt hlt
  have hok : accessOk addr.toNat 1 [] s.quadSpi = true := (accessOk_iff _ _ _ _).2 ⟨ha, by decide, by decide, by simp⟩
  rw [← s.hostReadHere_word addr.toNat [] hok hreg]
  simp [State.qspiRead, hp, h1, h2, h3, State.hostReadAt]

/-- HQ_CS_N rises with no read issued, or on another link: nothing happens. -/
theorem State.qspiCsRise_none (s : State) (addr : BitVec 40) (n : Nat) (h : s.quadSpi = false ∨ n = 0) :
    s.qspiCsRise addr false n = s := by
  rcases h with h | h <;> simp [State.qspiCsRise, h]

end Sys2Proof.Machine
end

section
/-! Accesses of the host. -/

open Sys2Proof Sys2Proof.Machine

/-- Settles O57: the link resolves an access to a device index and an address; what is served here goes word by word or as one
access of memory, what breaks R621 or R630 is recorded with its cause, and the rest becomes a request of the relay. -/
theorem hostAccesses : Obligations.HostAccesses := by
  refine ⟨?readWord, ?readTwo, ?readVat, ?writeVat, ?writeEnables, ?writeWord, ?barred, ?nothing, ?malformed, ?mgmtRead,
    ?mgmtWrite, ?refused, ?refusedLater, ?relayed, ?cfgBar, ?cfgWrite, ?ignored, ?asleep, ?csWrite, ?csRead, ?csNone⟩
  case readWord =>
    intro via be s a h hw ha hreg
    refine ⟨_, rfl, ?_⟩
    rw [State.hostRead_word h hw ha hreg]
    exact ⟨rfl, rfl, rfl, s.hostRegister_mem a⟩
  case readTwo =>
    intro via be s v a h hq ha hreg hreg' hv
    subst hv
    have hok := State.accessOk_reaches (be := be) h (.inl hq) ha (by decide) (by decide) fun _ => .inl hq
    refine ⟨_, rfl, ?_⟩
    rw [State.hostRead_reaches h, State.hostReadAt, if_pos rfl, s.hostReadHere_two a _ hok hreg hreg']
    exact ⟨rfl, rfl, rfl⟩
  case readVat =>
    intro via n be s a h ha hn hl hin hb
    refine ⟨_, rfl, ?_⟩
    rw [State.hostRead_reaches h, State.hostReadAt, if_pos rfl]
    exact s.hostReadHere_vat a n _ ha hn hl hin hb
  case writeVat =>
    intro via data be s a h hw hr ha hd hl hin hb
    have hn : 0 < data.length := List.length_pos_iff.2 hd
    have hlen := length_flatMap_wordBytes data
    have hreg : regionOf a = .vat := regionOf_vat (by omega) hin
    have hok := State.accessOk_reaches h hw ha hn hl (by simp [hreg])
    obtain ⟨h1, h2, h3⟩ := s.busWrite_vat .host a (data.flatMap wordBytes) (hostEnables via be) (by omega) (by omega)
      (by rwa [hlen]) (by rwa [hlen]) (State.hostEnables_whole h hw) (s.hostBarred_released _ _ hr)
    refine ⟨_, rfl, ?_⟩
    rw [State.hostWrite_memory h hok (by simp [hreg]), h1]
    refine ⟨fun i hi => ?_, rfl, hlen ▸ keepsOutside_of_write h2, ?_⟩
    · exact (congrArg (fun m => Memory.word m (a + 4 * i)) h2).trans (Memory.word_writeWords s.mem a i data hi)
    · exact Frame.hostAnswer (h3.mono (fun _ h => h) (by simp)) _ _ (by simp)
  case writeEnables =>
    intro o w b s a hl hao hr ha hin hb
    have hreg : regionOf a = .vat := regionOf_vat (by decide) hin
    have h : s.hostReaches (.bar0 o) 8 1 0 a := ⟨hl, rfl, hao⟩
    have hok : accessOk a 1 (hostEnables (.bar0 o) [b]) s.quadSpi = true :=
      (accessOk_iff _ _ _ _).2 ⟨ha, by decide, by decide, by simp [hreg]⟩
    obtain ⟨h1, h2⟩ := s.busWrite_enables .host a w b ha hin hb (s.hostBarred_released _ _ hr)
    have hlen : (mergeBytes [b] (s.read a 4) (wordBytes w)).length = 4 := length_mergeBytes _ _ _
    have hkeeps := keepsOutside_of_write h2
    rw [hlen] at hkeeps
    have henables : hostEnables (.bar0 o) [b] = [b] := rfl
    refine ⟨_, rfl, ?_⟩
    rw [State.hostWrite_word w h hok, hreg, if_neg (by decide), henables, h1]
    exact ⟨fun i hi => (congrArg (fun m => Memory.byte m (a + i)) h2).trans (Memory.byte_mergeBytes s.mem a i w b hi), rfl,
      hkeeps⟩
  case writeWord =>
    intro via w be s a h hw hr ha hreg
    have hok := State.accessOk_reaches h hw ha (by decide) (by decide) fun _ => .inr rfl
    refine congrArg Host.Outcome.next ?_
    rw [State.hostWrite_word w h hok, hreg, if_pos rfl, s.busWrite_reg .host a w hreg (s.hostBarred_released _ _ hr),
      s.busHold_reg a 4 hreg]
    rfl
  case barred =>
    intro via w be s a h hw hr ha h1 h2 hreg
    have hok := State.accessOk_reaches h hw ha (by decide) (by decide) fun _ => .inr rfl
    refine ⟨_, rfl, ?_⟩
    rw [State.hostWrite_word w h hok, s.busWrite_barred .host a _ _ (s.hostBarred_host a hr h1 h2) hreg]
    exact ⟨(s.hostErr_refused 2 0 true a (by decide) (by decide) (State.hostReaches_lt h).2).hostAnswer [], rfl⟩
  case nothing =>
    intro via w be s a h hw ha hreg
    have hok := State.accessOk_reaches h hw ha (by decide) (by decide) fun _ => .inr rfl
    obtain ⟨h1, h2⟩ := s.busWrite_nothing .host a (wordBytes w) (hostEnables via be) hreg
    refine ⟨_, rfl, ?_⟩
    rw [State.hostWrite_word w h hok, hreg, if_neg (by decide), h1]
    exact ⟨(State.hostErr_told _ 1 0 true a (by decide) (by decide) (State.hostReaches_lt h).2).hostAnswer [], rfl,
      (h2.hostErr 1 0 true a).hostAnswer _ _ (by simp)⟩
  case malformed =>
    intro via n be s a h hm
    refine ⟨_, rfl, ?_⟩
    rw [State.hostRead_reaches h, State.hostReadAt, if_pos rfl,
      s.hostReadHere_malformed a n _ ((State.hostMalformed_iff h be).1 hm)]
    exact ⟨(s.hostErr_refused 3 0 false a (by decide) (by decide) (State.hostReaches_lt h).2).hostAnswer _, rfl⟩
  case mgmtRead =>
    intro op addr n k be s hq hp hk hm
    have he := s.hostErr_refused 3 (mgmtDev addr) false (mgmtLocal addr) (by decide) (mgmtDev_lt addr) (mgmtLocal_lt addr)
    have hread : s.hostRead (.qspi op addr) n be =
        (s.hostErr 3 (mgmtDev addr) false (mgmtLocal addr)).hostAnswer (onesWords k) 3 := by
      simp [State.hostRead, State.qspiRead, hk, hq, hp, hm]
    refine ⟨_, rfl, ?_⟩
    rw [hread]
    exact ⟨he.hostAnswer _, rfl⟩
  case mgmtWrite =>
    intro op addr data be s hq hp hk hm
    have he := s.hostErr_refused 3 (mgmtDev addr) true (mgmtLocal addr) (by decide) (mgmtDev_lt addr) (mgmtLocal_lt addr)
    have hwrite : s.hostWrite (.qspi op addr) data be =
        (s.hostErr 3 (mgmtDev addr) true (mgmtLocal addr)).hostAnswer [] 3 := by
      simp [State.hostWrite, State.qspiWrite, hk, hq, hp, hm]
    refine ⟨_, rfl, ?_⟩
    rw [hwrite]
    exact he.hostAnswer _
  case refused =>
    intro via n d a be s h hd hbad hout
    rw [State.hostMalformed_iff h] at hbad
    obtain ⟨hd64, ha⟩ := State.hostReaches_lt h
    refine ⟨_, rfl, ?_⟩
    rw [State.hostRead_reaches h, State.hostReadAt, if_neg hd, s.relayRequest_refused d a n _ hbad, State.relayRefuse, hout]
    exact ⟨(s.hostErr_refused _ d false a (by split <;> decide) hd64 ha).hostAnswer _, rfl⟩
  case refusedLater =>
    intro via n d a be s h hd hbad hout
    rw [State.hostMalformed_iff h] at hbad
    refine ⟨_, rfl, ?_⟩
    rw [State.hostRead_reaches h, State.hostReadAt, if_neg hd, s.relayRequest_refused d a n _ hbad, State.relayRefuse, hout]
    exact ⟨rfl, Frame.refl.host (by simp) _ rfl rfl⟩
  case relayed =>
    intro via n d a be s h hd hv hm hn hl hw he
    have hok : accessOk a n (hostEnables via be) s.quadSpi = true := by
      rwa [State.hostMalformed_iff h, Bool.not_eq_false] at hm
    refine ⟨_, rfl, ?_⟩
    rw [State.hostRead_reaches h, State.hostReadAt, if_neg hd]
    exact s.relayRequest_read d a n _ hv hok hn hl (State.hostEnables_whole h hw) he
  case cfgBar =>
    intro n k be s hl hn
    have hkey : cfgMask (.bar n) = 0 ∧ cfgFixed (.bar n) = 0 := by revert hn; revert n; decide
    have hread : s.cfgRead (.bar n) = 0 := by simp [State.cfgRead, hkey]
    refine ⟨_, rfl, ?_⟩
    rw [State.hostRead, if_pos hl, hread]
    exact ⟨rfl, rfl, Frame.refl.hostAnswer _ _ (by simp)⟩
  case cfgWrite =>
    intro r w be s hl
    refine ⟨_, rfl, ?_⟩
    rw [State.hostWrite, if_pos hl]
    refine ⟨?_, fun q hq => ?_, ?_, ?_⟩
    · exact (s.cfgRead_cfgWrite r r w).trans (if_pos rfl)
    · exact (s.cfgRead_cfgWrite q r w).trans (if_neg hq.symm)
    · rintro rfl
      exact s.msiOn_cfgWrite w
    · have hf : Frame noRegs [.host] s (s.cfgWrite r w) := Frame.refl.host (by simp) _ rfl rfl
      exact hf.hostAnswer _ _ (by simp)
  case ignored =>
    intro n be data via s h
    exact ⟨congrArg Host.Outcome.next (s.hostRead_ignored n be h), congrArg Host.Outcome.next (s.hostWrite_ignored be h)⟩
  case asleep =>
    intro op addr n s be hp hq hk
    refine ⟨_, rfl, ?_⟩
    rw [s.hostRead_dormant op addr n be hp hq hk]
    exact ⟨rfl, rfl, Frame.refl.hostAnswer _ _ (by simp)⟩
  case csWrite => exact fun addr n s => rfl
  case csRead =>
    intro addr n s hq
    refine ⟨_, rfl, ?_⟩
    by_cases hn : n = 0
    · subst hn
      rw [s.qspiCsRise_none addr 0 (.inr rfl)]
      exact ⟨rfl, rfl, fun _ h => absurd h (by decide)⟩
    · have he : s.qspiCsRise addr false n = (s.qspiRead addr n true).hostAnswer s.host.data s.host.cause := by
        simp [State.qspiCsRise, hq, hn]
      rw [he]
      refine ⟨rfl, rfl, ?_⟩
      rintro a rfl hp rfl hlt ha hreg
      rw [s.qspiRead_word addr true hp hlt ha hreg]
      rfl
  case csNone =>
    intro addr n s h
    exact congrArg Host.Outcome.next (s.qspiCsRise_none addr n h)

end

section
/-! SUPPORT. What a write that may have to wait for the release leaves, wide words as numbers, and what stays through a raise
(R33, R401, R554, R594). -/

namespace Sys2Proof.Machine

variable {R : Nat → Bool} {P : List Part} {s t : State}

theorem State.unlessBarred_refused {m : RegMaster} {a : Nat} (h : s.hostBarred m a = true) (ha : a < 2 ^ 32) (t : State) :
    HostRefused 2 0 true a s (s.unlessBarred m a t) := by
  rw [State.unlessBarred, if_pos h]
  exact s.hostErr_refused 2 0 true a (by decide) (by decide) ha

theorem State.unlessBarred_free {m : RegMaster} {a : Nat} (h : s.hostBarred m a = false) (t : State) :
    s.unlessBarred m a t = t.holdTags 1 := by
  rw [State.unlessBarred, h]
  rfl

theorem State.reg_holdTags (s : State) (k a : Nat) (h : a ≠ Reg.XBAR_INFLIGHT) : (s.holdTags k).reg a = s.reg a := by
  rw [State.holdTags, State.reg_setFld, if_neg h.symm]

@[simp] theorem State.holdTags_time (s : State) (k : Nat) : (s.holdTags k).time = s.time := rfl

theorem CauseLe.holdTags (h : CauseLe s t) (k : Nat) : CauseLe s (t.holdTags k) := h.setFld _ _ _ (by decide)

theorem State.reg64_setReg64 (s : State) (a n : Nat) (h : n < 2 ^ 64) : (s.setReg64 a n).reg64 a = n := by
  simp only [State.reg64, State.regN, State.reg_setReg64, if_true, BitVec.toNat_ofNat]
  rw [if_neg (by omega), BitVec.toNat_ofNat]
  omega

theorem State.reg64_congr {a : Nat} (h0 : t.reg a = s.reg a) (h4 : t.reg (a + 4) = s.reg (a + 4)) :
    t.reg64 a = s.reg64 a := by
  rw [State.reg64, State.reg64, State.regN, State.regN, h0, h4]
  rfl

theorem State.reg_raise (s : State) {src a : Nat} (w3 : Word) (hs : src < 320) (ha : eventReg a = false) :
    (s.raise src w3).reg a = s.reg a := (s.raise_frame src w3 hs).reg_eq a ha rfl

/-- A raise appends to the records that wait, and changes nothing else of the time unit. -/
theorem FrameEv.time_eq (h : FrameEv R P s t) (hP : Part.time ∉ P) : t.time = { s.time with records := t.time.records } :=
  h.2 .time (by simpa using hP)

theorem State.raiseN_frame (s : State) (src w3 : Nat) (hs : src < 320) : FrameEv noRegs [] s (s.raiseN src w3) :=
  s.raise_frame src _ hs

/-- A frame that names less is a frame that names more. -/
theorem FrameEv.widen {R' : Nat → Bool} {P' : List Part} (h : FrameEv R P s t) (hR : ∀ a, R a = true → R' a = true)
    (hP : ∀ p ∈ P, p ∈ P') : FrameEv R' P' s t :=
  Frame.mono h (fun a ha => by rw [Bool.or_eq_true] at ha ⊢; exact ha.imp_right (hR a))
    (fun p hp => List.mem_cons.2 ((List.mem_cons.1 hp).imp_right (hP p)))

end Sys2Proof.Machine
end

section
/-! SUPPORT. A tick of TU_CLK: the increment, the commands that wait, and the lamp requests that come due (R28, R30, R534). -/

namespace Sys2Proof.Machine

variable {R : Nat → Bool} {P : List Part} {s t : State}

/-- A state whose register words are those after a write of PT reads that PT. -/
theorem State.now_of_setNow {n : Nat} (h : t.regs = (s.setNow n).regs) (hn : n < ptWrap) : t.now = n :=
  (State.now_congr (s.setNow n) _ fun a _ => State.reg_congr _ _ h a).trans (s.now_setNow n hn)

theorem State.now_advance (s : State) : s.advance.now = (s.now + s.reg64 Reg.TIME_INCR_EFF) % ptWrap := by
  rw [State.advance]
  exact State.now_of_setNow rfl (Nat.mod_lt _ ptWrap_pos)

theorem State.advance_time (s : State) : s.advance.time = { s.time with ticks := s.time.ticks + 1 } := by
  simp [State.advance]

/-- A tick writes the registers of TIME_NOW (R28). -/
theorem State.advance_frame (s : State) : Frame (inRange 0x200010 0x200020) [.time] s s.advance := by
  rw [State.advance]
  exact (Frame.refl.setNow _ (fun _ h => h)).time (by simp) _ rfl

theorem State.timeEffects_nil (h : s.time.cmds = []) : s.timeEffects = s := by
  have hs : { s with time := { s.time with cmds := [] } } = s := by rw [← h]
  rw [State.timeEffects, h, hs]
  rfl

theorem State.timeEffects_one {c : TimeCmd} (h : s.time.cmds = [c]) :
    s.timeEffects = { s with time := { s.time with cmds := [] } }.timeEffect c := by
  rw [State.timeEffects, h]
  rfl

/-! ### Lamp requests -/

theorem State.lampRequests_frame (s : State) : FrameEv (· == Reg.HADC_STATUS) [.lamp, .hadc] s s.lampRequests :=
  Frame.refl.lampRequests (AllowsEvents.ev _ _) (by simp) (by simp) (by simp)

/-- The requests whose PT has come are taken up, and the others wait on. -/
theorem State.lampRequests_due (s : State) :
    s.lampRequests.lamp.due = s.lamp.due.filter (fun e => decide (s.now < e.2)) := by
  let s1 : State := { s with lamp := { s.lamp with due := s.lamp.due.filter (fun e => decide (s.now < e.2)) } }
  have h : FrameEv (· == Reg.HADC_STATUS) [.hadc] s1 s.lampRequests :=
    Frame.foldl _ _ .refl fun _ _ _ hu => hu.urgent _ _ (AllowsEvents.ev _ _) (by simp) (by simp)
  have hl : s.lampRequests.lamp = s1.lamp := h.2 .lamp (by simp)
  rw [hl]

theorem State.lampRequests_none (h : ∀ e ∈ s.lamp.due, s.now < e.2) : s.lampRequests = s := by
  have h1 : s.lamp.due.filter (fun e => decide (s.now < e.2)) = s.lamp.due := List.filter_eq_self.2 (by simpa using h)
  have h2 : s.lamp.due.filter (fun e => decide (e.2 ≤ s.now)) = [] := List.filter_eq_nil_iff.2 (by simpa using h)
  rw [State.lampRequests, h1, h2]
  rfl

theorem State.now_lampRequests (s : State) : s.lampRequests.now = s.now :=
  s.lampRequests_frame.now_eq fun a ha => by simp [inRange, Reg.HADC_STATUS] at *; omega

end Sys2Proof.Machine
end

section
/-! The counter, TIME_INCR_NOM and TIME_CTRL. -/

open Sys2Proof Sys2Proof.Machine

namespace Sys2Proof.Machine

/-- The nominal increment in force, and the effective one that follows it (R28, R29). -/
theorem State.incrNomWrite_free (s : State) (lo hi : Word) (h : s.servo = 0) :
    (s.incrNomWrite lo hi).reg Reg.TIME_INCR_NOM = lo ∧
      (s.incrNomWrite lo hi).regN (Reg.TIME_INCR_NOM + 4) = hi.toNat % 256 ∧
      (s.incrNomWrite lo hi).reg64 Reg.TIME_INCR_EFF =
        lowInt 40 (((s.incrNomWrite lo hi).reg64 Reg.TIME_INCR_NOM : Nat) + s.adj) ∧
      Frame (inRange 0x200020 0x200030) [] s (s.incrNomWrite lo hi) := by
  rw [State.incrNomWrite, if_pos h]
  set s1 := (s.setReg Reg.TIME_INCR_NOM lo).setRegN (Reg.TIME_INCR_NOM + 4) (hi.toNat % 256) with hs1
  have hn : ∀ a, a = Reg.TIME_INCR_NOM ∨ a = Reg.TIME_INCR_NOM + 4 → s1.syncIncr.reg a = s1.reg a := by
    rintro a (rfl | rfl) <;> exact (State.reg_setReg64 ..).trans rfl
  refine ⟨?_, ?_, ?_, ?_⟩
  · rw [hn _ (.inl rfl), hs1]; simp
  · rw [State.regN, hn _ (.inr rfl), hs1]; simp; omega
  · have hadj : s1.adj = s.adj := by simp [State.adj, hs1, Reg.TIME_SERVO_ADJ, Reg.TIME_INCR_NOM]
    rw [State.reg64_congr (hn _ (.inl rfl)) (hn _ (.inr rfl)), ← hadj]
    exact State.reg64_setReg64 _ _ _ (by unfold lowInt; omega)
  · exact ((Frame.refl.setReg _ _ (by decide)).setRegN _ _ (by decide)).syncIncr (by decide) (by decide)

theorem State.timeCtrlWrite_spec (s : State) (data : Word) :
    (s.timeCtrlWrite data).reg Reg.TIME_CTRL =
      Fld.TIME_CTRL_AUDIO_RUN.put (s.reg Reg.TIME_CTRL) (Fld.TIME_CTRL_AUDIO_RUN.get data) ∧
    (s.audio = true → Fld.TIME_CTRL_AUDIO_RUN.get data = 0 → (s.timeCtrlWrite data).time.stopAsked = true) ∧
    (6 ≤ Fld.TIME_CTRL_RATE.get data → s.tally.silent = false → (s.timeCtrlWrite data).shown 84) ∧
    FrameEv (· == Reg.TIME_CTRL) [.time] s (s.timeCtrlWrite data) := by
  unfold State.timeCtrlWrite
  extract_lets s1 src s2
  have hr : s2.reg Reg.TIME_CTRL = s1.reg Reg.TIME_CTRL ∧ s2.tally = s.tally := by
    unfold s2; split <;> exact ⟨rfl, rfl⟩
  have hf : FrameEv (· == Reg.TIME_CTRL) [.time] s s2 := by
    have h1 : FrameEv (· == Reg.TIME_CTRL) [.time] s s1 := Frame.refl.setFld _ _ _ (by simp)
    exact Frame.ite (Frame.time h1 (by simp) _ rfl) h1
  have ha : s.audio = true → Fld.TIME_CTRL_AUDIO_RUN.get data = 0 → s2.time.stopAsked = true := by
    intro h1 h2
    simp [s2, h1, h2]
  clear_value s2
  have hx : s1.reg Reg.TIME_CTRL =
      Fld.TIME_CTRL_AUDIO_RUN.put (s.reg Reg.TIME_CTRL) (Fld.TIME_CTRL_AUDIO_RUN.get data) := by simp [s1]
  have h84 : FrameEv noRegs [] s2 (s2.raiseN 84 Reg.TIME_CTRL) := s2.raise_frame 84 _ (by decide)
  by_cases h6 : 6 ≤ Fld.TIME_CTRL_RATE.get data
  · rw [if_pos h6]
    refine ⟨?_, fun h1 h2 => ?_, fun _ hq => ?_, ?_⟩
    · rw [h84.reg_eq _ (by decide) rfl, hr.1, hx]
    · rw [h84.time_eq (by simp)]; exact ha h1 h2
    · exact s2.raiseN_shown 84 _ (by decide) (by rw [hr.2, hq])
    · exact Frame.raiseN hf (AllowsEvents.ev _ _) _ _ (by decide)
  · rw [if_neg h6]
    exact ⟨hr.1.trans hx, ha, fun h => absurd h h6, hf⟩

end Sys2Proof.Machine

/-- Settles O4: each clause from what one operation of the time unit leaves: the tick, the two writes. -/
theorem counterAndTimeControl : Obligations.CounterAndTimeControl := by
  refine ⟨⟨?tick, ?barred, ?free, ?steered⟩, ?ctrl⟩
  case tick =>
    intro s h
    have hn := s.now_advance
    have ht := s.advance_time
    have hf := s.advance_frame
    have hl : s.advance.lamp = s.lamp := s.advance_frame.2 .lamp (by simp)
    have htick : s.tick = s.advance := by rw [State.tick, State.timeEffects_nil (by rw [ht]; exact h)]
    refine ⟨_, rfl, ?_⟩
    rw [htick]
    have hq := s.advance.lampRequests_frame
    refine ⟨?_, ?_, ?_, ?_, ?_⟩
    · rw [State.now_lampRequests, hn]
    · rw [hq.time_eq (by simp), ht]
    · rw [State.lampRequests_due, State.now_lampRequests, hl]
    · intro hd
      rw [State.now_lampRequests] at hd
      rw [State.lampRequests_none (s := s.advance) (by rwa [hl])]
      exact hf
    · exact (hf.toEv.widen (fun a h => by simp [h]) (by simp)).trans (hq.widen (fun a h => by simp_all) (by simp))
  case barred => exact fun m data s h => ⟨_, rfl, State.unlessBarred_refused h (by decide) _⟩
  case free =>
    intro m data s h h0
    obtain ⟨h1, h2, h3, h4⟩ := s.incrNomWrite_free data (s.stagedWord m (Reg.TIME_INCR_NOM + 4)) h0
    refine ⟨_, rfl, ?_⟩
    rw [State.unlessBarred_free h]
    have hr : ∀ a, inRange 0x200020 0x200030 a = true → State.reg (State.holdTags _ 1) a = _ := fun a ha =>
      State.reg_holdTags (s.incrNomWrite data (s.stagedWord m (Reg.TIME_INCR_NOM + 4))) 1 a (by
        rintro rfl; simp [inRange, Reg.XBAR_INFLIGHT] at ha)
    refine ⟨?_, ?_, ?_, ?_⟩
    · rw [hr _ (by decide), h1]
    · rw [State.regN, hr _ (by decide)]; exact h2
    · rw [State.reg64_congr (hr _ (by decide)) (hr _ (by decide)), State.reg64_congr (hr _ (by decide)) (hr _ (by decide)), h3]
    · exact (h4.mono (by simp +contextual) (by simp)).holdTags 1 (by simp)
  case steered =>
    intro m data s h h0 hq
    refine ⟨_, rfl, ?_⟩
    rw [State.unlessBarred_free h, State.incrNomWrite, if_neg h0]
    refine ⟨(CauseLe.refl.holdTags 1).shown 84 (by decide) (s.raiseN_shown 84 _ (by decide) hq), ?_⟩
    exact Frame.holdTags (Frame.raiseN .refl (AllowsEvents.ev _ _) _ _ (by decide)) 1 (by simp)
  case ctrl =>
    intro data s
    obtain ⟨hr, ha, h6, hf⟩ := s.timeCtrlWrite_spec data
    refine ⟨_, rfl, ?_, ?_, ha, h6, hf⟩
    · rw [State.fld, hr, Field.get_put _ _ _ (by decide)]
      exact Nat.mod_eq_of_lt (Field.get_lt _ _)
    · rw [State.rate, State.fld, hr, Field.get_put_other _ _ _ _ (by decide) (by decide)]
      rfl

end

section
/-! SUPPORT. What a command of TIME_CMD does at its tick (R30-R32, R75). -/

namespace Sys2Proof.Machine

variable {R : Nat → Bool} {P : List Part} {s t u : State}

/-! ### No cause bit is cleared -/

theorem CauseLe.foldl {α : Type} (f : State → α → State) (l : List α) (h : CauseLe s t)
    (hf : ∀ u x, CauseLe s u → CauseLe s (f u x)) : CauseLe s (l.foldl f t) := by
  induction l generalizing t with
  | nil => exact h
  | cons x l ih => exact ih (hf t x h)

theorem CauseLe.doSwap (h : CauseLe s t) (i : Nat) : CauseLe s (t.doSwap i) := by
  unfold State.doSwap
  split
  · exact h
  · exact (CauseLe.takeFree (h.of_regs rfl rfl)).setFld _ _ _ (by decide)

theorem CauseLe.urgent (h : CauseLe s t) (c : Conv) (w3 : Nat) : CauseLe s (t.urgent c w3) := by
  have hq : CauseLe s (t.setQueue (t.hadc.queue ++ [c])) :=
    CauseLe.setFld (h.of_regs rfl rfl) _ _ _ (by decide)
  unfold State.urgent
  split
  · dsimp only
    split
    · exact hq.doSwap _
    · exact hq
  · exact h.raiseN 282 _

theorem CauseLe.lampRequests (h : CauseLe s t) : CauseLe s t.lampRequests :=
  CauseLe.foldl _ _ (h.of_regs rfl rfl) fun _ _ hu => hu.urgent _ _

/-! ### Commands that wait -/

theorem State.raiseN_cmds (s : State) (src w3 : Nat) (hs : src < 320) : (s.raiseN src w3).time.cmds = s.time.cmds := by
  rw [(s.raiseN_frame src w3 hs).time_eq (by simp)]

theorem State.pulseJump_cmds (s : State) (pt : Int) (n : Nat) (hn : n < 4) :
    (s.pulseJump pt n).time.cmds = s.time.cmds := by
  unfold State.pulseJump
  dsimp only
  split_ifs
  · exact State.raiseN_cmds _ _ _ (by omega)
  · exact State.raiseN_cmds _ _ _ (by omega)
  · rfl

theorem State.pulseJumps_cmds (s : State) (b : Bool) (pt : Int) :
    (if b then [0, 1, 2, 3].foldl (fun s n => s.pulseJump pt n) s else s).time.cmds = s.time.cmds := by
  split
  · simp [List.foldl, State.pulseJump_cmds]
  · rfl

theorem State.shiftCaps_cmds (s : State) (d : Int) : (s.shiftCaps d).time.cmds = s.time.cmds := rfl

theorem State.stepTo_cmds (s : State) (x : Nat) (hx : x < ptWrap) : (s.stepTo x).time.cmds = s.time.cmds := by
  rw [State.stepTo, s.setNowInt_eq x hx]
  rw [State.raiseN_cmds _ _ _ (by decide), State.pulseJumps_cmds, State.shiftCaps_cmds, State.setNow_time]

/-- A step back reaches no instant of a pulse: it writes TIME_NOW alone (R32). -/
theorem State.stepTo_back (s : State) (x : Nat) (hx : x < ptWrap) (h : x ≤ s.now) :
    FrameEv (inRange 0x200010 0x200020) [.time] s (s.stepTo x) := by
  have hfwd : decide ((s.now : Int) < (x : Nat)) = false := by simpa using h
  unfold State.stepTo
  rw [s.setNowInt_eq x hx, hfwd]
  exact Frame.raiseN ((Frame.refl.setNow x (fun a ha => by simp [ha])).shiftCaps _ (by simp)) (AllowsEvents.ev _ _) 70 0
    (by decide)

/-! ### The tick of one command -/

/-- The state in which the commands of a tick take effect: PT has its increment and no command waits (R30). -/
def State.ticked (s : State) : State := { s.advance with time := { s.advance.time with cmds := [] } }

theorem State.tick_one {c : TimeCmd} (h : s.time.cmds = [c]) : s.tick = s.ticked.timeEffect c := by
  rw [State.tick, State.timeEffects_one (by rw [s.advance_time]; exact h)]
  rfl

theorem State.ticked_frame (s : State) : Frame (inRange 0x200010 0x200020) [.time] s s.ticked :=
  s.advance_frame.time (by simp) _ rfl

theorem State.now_ticked (s : State) : s.ticked.now = (s.now + s.reg64 Reg.TIME_INCR_EFF) % ptWrap := by
  have hr : s.ticked.regs = s.advance.regs := rfl
  rw [State.now_congr s.advance s.ticked fun a _ => State.reg_congr _ _ hr a, s.now_advance]

theorem State.silent_ticked (s : State) : s.ticked.tally.silent = s.tally.silent := s.ticked_frame.silent_eq (by simp)

/-- The refusal of a command and TIME_ADJ do not depend on PT. -/
theorem State.ticked_adj (s : State) : s.ticked.stepRefused = s.stepRefused ∧ s.ticked.timeAdj = s.timeAdj ∧
    s.ticked.reg (Reg.TIME_ADJ + 12) = s.reg (Reg.TIME_ADJ + 12) := by
  have hr : ∀ a, inRange 0x200010 0x200020 a = false → s.ticked.reg a = s.reg a := s.ticked_frame.1
  have hn : ∀ a, inRange 0x200010 0x200020 a = false → s.ticked.regN a = s.regN a := fun a ha => by
    rw [State.regN, hr a ha, State.regN]
  have ha : s.ticked.audio = s.audio := by
    rw [State.audio, State.bit, State.fld, hr _ (by decide), State.audio, State.bit, State.fld]
  refine ⟨?_, ?_, hr _ (by decide)⟩
  · rw [State.stepRefused, ha, hn _ (by decide), State.stepRefused]
  · simp only [State.timeAdj, hn Reg.TIME_ADJ (by decide), hn (Reg.TIME_ADJ + 4) (by decide),
      hn (Reg.TIME_ADJ + 8) (by decide), hn (Reg.TIME_ADJ + 12) (by decide)]

/-- After the command, the lamp requests that come due leave PT, the commands that wait and the events that are shown. -/
theorem tick_completes {n k : Nat} (ht : s.tick = u) (hf : FrameEv R [.time] s.ticked u) (hnow : u.now = n)
    (hc : u.time.cmds = []) (hk : k < 320) (hs : u.shown k) (hR : ∀ a, inRange 0x200010 0x200020 a = true → R a = true) :
    Completes .tuClkTick s fun t => t.now = n ∧ t.time.cmds = [] ∧ t.shown k ∧
      FrameEv (fun a => R a || a == Reg.HADC_STATUS) [.time, .lamp, .hadc] s t := by
  refine ⟨_, rfl, ?_⟩
  rw [ht]
  refine ⟨u.now_lampRequests.trans hnow, ?_, CauseLe.refl.lampRequests.shown k hk hs, ?_⟩
  · rw [u.lampRequests_frame.time_eq (by simp)]
    exact hc
  · have h1 : FrameEv (fun a => R a || a == Reg.HADC_STATUS) [.time, .lamp, .hadc] s s.ticked :=
      s.ticked_frame.toEv.widen (fun a ha => by simp [hR a ha]) (by simp)
    exact (h1.trans (hf.widen (fun a ha => by simp [ha]) (by simp))).trans
      (u.lampRequests_frame.widen (fun a ha => by simp_all) (by simp))

/-- STEP and SET at their tick, where they are not refused (R30, R75). -/
theorem step_completes {c : TimeCmd} {x : Nat} (hc : s.time.cmds = [c]) (he : s.ticked.timeEffect c = s.ticked.stepTo x)
    (hx : x < ptWrap) (hq : s.tally.silent = false) :
    Completes .tuClkTick s fun t => t.now = x ∧ t.time.cmds = [] ∧ t.shown 70 ∧
      FrameEv (fun a => inRange 0x200010 0x200020 a || inRange 0x200080 0x200100 a || a == Reg.HADC_STATUS)
        [.time, .lamp, .hadc] s t := by
  obtain ⟨h1, h2, h3⟩ := s.ticked.stepTo_spec x hx
  exact tick_completes ((State.tick_one hc).trans he) h3 h1 (State.stepTo_cmds _ x hx) (by decide)
    (h2 (s.silent_ticked.trans hq)) (fun a ha => by simp [ha])

theorem State.timeAdj_lt (s : State) (h : s.regN (Reg.TIME_ADJ + 4) < 1000000000) : s.timeAdj < ptWrap := by
  have h0 := (s.reg Reg.TIME_ADJ).isLt
  have h8 := (s.reg (Reg.TIME_ADJ + 8)).isLt
  simp only [State.timeAdj, State.regN, ptWrap, secUnit, nsUnit] at *
  omega

theorem State.stepRefused_eq_false (h1 : s.audio = false) (h2 : s.regN (Reg.TIME_ADJ + 4) < 1000000000) :
    s.stepRefused = false := by simp [State.stepRefused, h1, h2]

theorem State.timeStep_forward (hr : s.stepRefused = false) (hb : testBit (s.reg (Reg.TIME_ADJ + 12)) 31 = false) :
    s.timeStep = s.stepTo ((s.now + s.timeAdj : Nat) : Int) := by
  rw [State.timeStep, if_neg (by simp [hr]), hb, Nat.cast_add]
  simp only [Bool.false_eq_true, if_false]

theorem State.timeStep_back (hr : s.stepRefused = false) (hb : testBit (s.reg (Reg.TIME_ADJ + 12)) 31 = true)
    (hle : s.timeAdj ≤ s.now) : s.timeStep = s.stepTo ((s.now - s.timeAdj : Nat) : Int) := by
  rw [State.timeStep, if_neg (by simp [hr]), hb, Nat.cast_sub hle]
  simp only [if_true]

theorem State.timeSet_done (hr : s.stepRefused = false) : s.timeSet = s.stepTo (s.timeAdj : Nat) := by
  rw [State.timeSet, if_neg (by simp [hr])]

theorem State.timeEffect_refused (c : TimeCmd) (hr : s.stepRefused = true) : s.timeEffect c = s.raiseN 71 0 := by
  cases c
  · rw [State.timeEffect, State.timeStep, if_pos hr]
  · rw [State.timeEffect, State.timeSet, if_pos hr]

end Sys2Proof.Machine
end

section
/-! STEP and SET. -/

open Sys2Proof Sys2Proof.Machine

/-- Settles O5: a command of TIME_CMD waits, and at its tick writes PT, or raises STEP_REFUSED. -/
theorem stepAndSet : Obligations.StepAndSet := by
  refine ⟨?stepWaits, ?setWaits, ?both, ?forward, ?back, ?set, ?refused⟩
  case stepWaits => exact fun s => ⟨_, rfl, rfl, rfl, Frame.refl.time (by simp) _ rfl⟩
  case setWaits => exact fun s => ⟨_, rfl, rfl, rfl, Frame.refl.time (by simp) _ rfl⟩
  case both =>
    have h (s : State) (hq : s.tally.silent = false) : (s.raiseN 71 0).shown 71 ∧ FrameEv noRegs [] s (s.raiseN 71 0) :=
      ⟨s.raiseN_shown 71 0 (by decide) hq, s.raiseN_frame 71 0 (by decide)⟩
    rintro s c (rfl | rfl) hq
    · exact ⟨_, rfl, h s hq⟩
    · exact ⟨_, rfl, h s hq⟩
  case forward =>
    intro s now hc ha hn hq hb hlt
    obtain ⟨hr, hadj, h12⟩ := s.ticked_adj
    have he : s.ticked.timeStep = s.ticked.stepTo ((now + s.timeAdj : Nat) : Int) := by
      rw [State.timeStep_forward (hr.trans (State.stepRefused_eq_false ha hn)) (by rw [h12, hb]), hadj, s.now_ticked]
    exact step_completes hc he hlt hq
  case back =>
    intro s now hc ha hn hq hb hle
    obtain ⟨hr, hadj, h12⟩ := s.ticked_adj
    have hle' : s.ticked.timeAdj ≤ s.ticked.now := by rw [hadj, s.now_ticked]; exact hle
    have he : s.ticked.timeStep = s.ticked.stepTo ((now - s.timeAdj : Nat) : Int) := by
      rw [State.timeStep_back (hr.trans (State.stepRefused_eq_false ha hn)) (by rw [h12, hb]) hle', hadj, s.now_ticked]
    have hlt : now - s.timeAdj < ptWrap := Nat.lt_of_le_of_lt (Nat.sub_le _ _) (Nat.mod_lt _ ptWrap_pos)
    obtain ⟨h1, h2, -⟩ := s.ticked.stepTo_spec _ hlt
    exact tick_completes ((State.tick_one hc).trans he) (s.ticked.stepTo_back _ hlt (by rw [s.now_ticked]; exact Nat.sub_le _ _))
      h1 (State.stepTo_cmds _ _ hlt) (by decide) (h2 (s.silent_ticked.trans hq)) (fun _ h => h)
  case set =>
    intro s hc ha hn hq
    obtain ⟨hr, hadj, -⟩ := s.ticked_adj
    have he : s.ticked.timeSet = s.ticked.stepTo (s.timeAdj : Nat) := by
      rw [State.timeSet_done (hr.trans (State.stepRefused_eq_false ha hn)), hadj]
    exact step_completes hc he (s.timeAdj_lt hn) hq
  case refused =>
    intro s c hc hq h
    have hr : s.ticked.stepRefused = true := by
      rw [s.ticked_adj.1, State.stepRefused]
      simpa using h
    have hf : FrameEv (inRange 0x200010 0x200020) [.time] s.ticked (s.ticked.raiseN 71 0) :=
      Frame.raiseN .refl (AllowsEvents.ev _ _) _ _ (by decide)
    refine tick_completes ((State.tick_one hc).trans (State.timeEffect_refused c hr)) hf ?_ ?_ (by decide)
      (State.raiseN_shown _ 71 0 (by decide) (s.silent_ticked.trans hq)) (fun _ h => h)
    · rw [(s.ticked.raiseN_frame 71 0 (by decide)).now_eq (fun _ _ => rfl), s.now_ticked]
    · exact State.raiseN_cmds _ _ _ (by decide)

end

section
/-! SUPPORT. Pulse outputs: what a write of TIME_PULSEn_CTRL leaves, and the first edge of a train from a PT on (R57-R62, R78). -/

namespace Sys2Proof.Machine

variable {R : Nat → Bool} {P : List Part} {s t u : State}

/-! ### What a pulse output shows -/

/-- A pulse output keeps p, and its CTRL word shows MODE, POLARITY, and ARMED as p has it. -/
def PulseShows (n : Nat) (p : Pulse) (mode pol : Nat) (t : State) : Prop :=
  t.pulse n = p ∧ t.fld (Reg.TIME_PULSE_CTRL n) Fld.TIME_PULSE_CTRL_MODE = mode ∧
    t.fld (Reg.TIME_PULSE_CTRL n) Fld.TIME_PULSE_CTRL_POLARITY = pol ∧
    t.bit (Reg.TIME_PULSE_CTRL n) Fld.TIME_PULSE_CTRL_ARMED = p.armed

theorem PulseShows.setPulse (s : State) (n : Nat) (p : Pulse) : PulseShows n p
    (s.fld (Reg.TIME_PULSE_CTRL n) Fld.TIME_PULSE_CTRL_MODE) (s.fld (Reg.TIME_PULSE_CTRL n) Fld.TIME_PULSE_CTRL_POLARITY)
    (s.setPulse n p) := by
  refine ⟨s.pulse_setPulse n p, ?_, ?_, ?_⟩
  · exact State.fld_setFld_other _ _ _ _ _ _ (by decide) (.inr (.inl (by decide)))
  · exact State.fld_setFld_other _ _ _ _ _ _ (by decide) (.inr (.inl (by decide)))
  · exact State.bit_setBit_same _ _ _ _ (by decide) rfl

/-- The level of the pin (R62). -/
theorem PulseShows.pin {n : Nat} {p : Pulse} {mode pol : Nat} (h : PulseShows n p mode pol t) :
    t.pulsePin n = (p.high != (pol == 1)) := by
  obtain ⟨h1, -, h3, -⟩ := h
  rw [State.pulsePin, h1, State.bit, h3]

theorem eventReg_pulse (n : Fin 4) : eventReg (Reg.TIME_PULSE_CTRL n) = false := by
  fin_cases n <;> decide

theorem PulseShows.raiseN {n : Fin 4} {p : Pulse} {mode pol : Nat} (h : PulseShows n p mode pol t) (src w3 : Nat)
    (hs : src < 320) : PulseShows n p mode pol (t.raiseN src w3) := by
  have hf := t.raiseN_frame src w3 hs
  have hr := hf.reg_eq (Reg.TIME_PULSE_CTRL n) (eventReg_pulse n) rfl
  obtain ⟨h1, h2, h3, h4⟩ := h
  refine ⟨?_, ?_, ?_, ?_⟩
  · rw [State.pulse, hf.time_eq (by simp)]; exact h1
  · rw [State.fld, hr]; exact h2
  · rw [State.fld, hr]; exact h3
  · rw [State.bit, State.fld, hr]; exact h4

theorem regRow_pulseCtrl : ∀ n : Fin 4, regRow (Reg.TIME_PULSE_CTRL n) =
    some ⟨0x200080, 4, 0x20, 1, 0x20, 0, 0, 7, 0, 0, 0, 0, 1⟩ := by decide +kernel

/-- A write of CTRL takes MODE and POLARITY (R78). -/
theorem State.fld_pulseCtrl (s : State) (n : Fin 4) (data : Word) {f : Field}
    (hf : f = Fld.TIME_PULSE_CTRL_MODE ∨ f = Fld.TIME_PULSE_CTRL_POLARITY) :
    (s.writeWord (Reg.TIME_PULSE_CTRL n) data).fld (Reg.TIME_PULSE_CTRL n) f = f.get data := by
  rcases hf with rfl | rfl <;>
    exact State.fld_writeWord s _ data _ _ (regRow_pulseCtrl n) (by decide) (by decide) (by decide)

/-! ### Arming -/

/-- Widths and periods that R61 allows, for a MODE. -/
def State.pulseLegal (s : State) (n mode : Nat) : Prop :=
  let w := s.fld (Reg.TIME_PULSE_WIDTH n) Fld.TIME_PULSE_WIDTH_WIDTH
  let per := s.reg64 (Reg.TIME_PULSE_PERIOD n)
  5 ≤ w ∧ (mode = 2 → 20 * nsUnit ≤ per ∧ (w + 5) * nsUnit ≤ per)

/-- The PT of TIME_PULSEn_START. -/
def State.pulseStart (s : State) (n : Nat) : Int :=
  s.absPt (s.regN (Reg.TIME_PULSE_START n + 8)) (s.regN (Reg.TIME_PULSE_START n + 4)) (s.regN (Reg.TIME_PULSE_START n))

/-- What an arming with enough notice keeps of START, PERIOD and WIDTH (R57). -/
def State.pulseArmed (s : State) (n mode : Nat) : Pulse :=
  ⟨true, mode == 2, s.pulseStart n, if mode = 2 then s.reg64 (Reg.TIME_PULSE_PERIOD n) else 0,
    s.fld (Reg.TIME_PULSE_WIDTH n) Fld.TIME_PULSE_WIDTH_WIDTH * nsUnit, 0, false⟩

/-- What an arming with less than a microsecond of notice keeps: a train goes on at its first edge with enough notice. -/
def State.pulseLate (s : State) (n mode : Nat) : Pulse :=
  let p := s.pulseArmed n mode
  if mode = 2 then { p with next := p.indexFrom ((s.now + usUnit : Nat) : Int) } else { p with armed := false }

theorem State.pulseLegal_iff (s : State) (n mode : Nat) : s.pulseLegal n mode ↔
    ¬(s.fld (Reg.TIME_PULSE_WIDTH n) Fld.TIME_PULSE_WIDTH_WIDTH * nsUnit < 5 * nsUnit ∨
      (mode = 2 ∧ (s.reg64 (Reg.TIME_PULSE_PERIOD n) < 20 * nsUnit ∨ s.reg64 (Reg.TIME_PULSE_PERIOD n) <
        s.fld (Reg.TIME_PULSE_WIDTH n) Fld.TIME_PULSE_WIDTH_WIDTH * nsUnit + 5 * nsUnit))) := by
  simp only [State.pulseLegal, nsUnit]
  omega

section
variable {n : Nat} {data : Word} (hm : Fld.TIME_PULSE_CTRL_MODE.get data = 1 ∨ Fld.TIME_PULSE_CTRL_MODE.get data = 2)
include hm

theorem State.pulseCtrlWrite_illegal (hl : ¬s.pulseLegal n (Fld.TIME_PULSE_CTRL_MODE.get data)) :
    s.pulseCtrlWrite n data = (((s.writeWord (Reg.TIME_PULSE_CTRL n) data).pulseOff n).setFld (Reg.TIME_PULSE_CTRL n)
      Fld.TIME_PULSE_CTRL_MODE 0).raiseN 84 (Reg.TIME_PULSE_CTRL n) := by
  rw [State.pulseLegal_iff, not_not] at hl
  rw [State.pulseCtrlWrite]
  simp only []
  rw [if_neg (by omega), if_pos hl]

theorem State.pulseCtrlWrite_armed (hl : s.pulseLegal n (Fld.TIME_PULSE_CTRL_MODE.get data))
    (hs : ((s.now + usUnit : Nat) : Int) ≤ s.pulseStart n) : s.pulseCtrlWrite n data =
      (s.writeWord (Reg.TIME_PULSE_CTRL n) data).setPulse n (s.pulseArmed n (Fld.TIME_PULSE_CTRL_MODE.get data)) := by
  rw [State.pulseLegal_iff] at hl
  rw [State.pulseStart] at hs
  rw [State.pulseCtrlWrite]
  simp only []
  rw [if_neg (by omega), if_neg hl, if_pos hs]
  rfl

theorem State.pulseCtrlWrite_late (hl : s.pulseLegal n (Fld.TIME_PULSE_CTRL_MODE.get data))
    (hs : s.pulseStart n < ((s.now + usUnit : Nat) : Int)) : s.pulseCtrlWrite n data =
      ((s.writeWord (Reg.TIME_PULSE_CTRL n) data).setPulse n
        (s.pulseLate n (Fld.TIME_PULSE_CTRL_MODE.get data))).raiseN (74 + n) 0 := by
  rw [State.pulseLegal_iff] at hl
  rw [State.pulseStart] at hs
  rw [State.pulseCtrlWrite, State.pulseLate]
  simp only []
  rw [if_neg (by omega), if_neg hl, if_neg (not_le.2 hs)]
  split
  next h => simp only [State.pulseArmed, State.pulseStart, if_pos h]
  next h => simp only [State.pulseArmed, State.pulseStart, if_neg h]

end

theorem State.pulseCtrlWrite_off (s : State) (n : Nat) (data : Word) (hm : Fld.TIME_PULSE_CTRL_MODE.get data = 0) :
    s.pulseCtrlWrite n data = (s.writeWord (Reg.TIME_PULSE_CTRL n) data).pulseOff n := by
  rw [State.pulseCtrlWrite]
  simp only []
  rw [if_pos (.inl hm)]

/-! ### The edges of a train -/

/-- The index of an edge from a PT on: its instant is not before that PT, and those before it are. -/
theorem Pulse.indexFrom_spec (p : Pulse) (t : Int) (hp : 0 < p.period) :
    t ≤ p.instant (p.indexFrom t) ∧ ∀ j, j < p.indexFrom t → p.instant j < t := by
  have hp' : (0 : Int) < (p.period : Nat) := by exact_mod_cast hp
  unfold Pulse.indexFrom Pulse.instant
  split
  next h =>
    have : t ≤ p.start := by omega
    simpa using this
  next h =>
    have hlt : p.start < t := by omega
    rw [Int.fdiv_eq_ediv_of_nonneg _ hp'.le]
    set q := (p.start - t) / (p.period : Nat) with hq
    have h1 : (p.period : Int) * q ≤ p.start - t := Int.mul_ediv_self_le hp'.ne'
    have h2 : p.start - t < (p.period : Int) * q + p.period := Int.lt_mul_ediv_self_add hp'
    have hneg : q < 0 := Int.ediv_neg_of_neg_of_pos (by omega) hp'
    refine ⟨?_, fun j hj => ?_⟩
    · rw [Nat.cast_mul, Int.toNat_of_nonneg (by omega), Int.mul_neg]
      omega
    · have hjq : (j : Int) ≤ -q - 1 := by omega
      have h3 : (p.period : Int) * j ≤ (p.period : Int) * (-q - 1) := Int.mul_le_mul_of_nonneg_left hjq hp'.le
      have h4 : (p.period : Int) * (-q - 1) = -(p.period * q) - p.period := by ring
      rw [Nat.cast_mul]
      omega

theorem Pulse.instant_next (p : Pulse) (k j : Nat) : { p with next := k }.instant j = p.instant j := rfl

/-- A train armed late goes on at its first edge with a microsecond of notice (R59). -/
theorem State.pulseLate_train (s : State) (n : Nat) (hper : 0 < s.reg64 (Reg.TIME_PULSE_PERIOD n)) :
    (s.pulseLate n 2).armed = true ∧
      ((s.now + usUnit : Nat) : Int) ≤ (s.pulseLate n 2).instant (s.pulseLate n 2).next ∧
      ∀ j, j < (s.pulseLate n 2).next → (s.pulseLate n 2).instant j < ((s.now + usUnit : Nat) : Int) := by
  have hp : 0 < (s.pulseArmed n 2).period := by rw [State.pulseArmed, if_pos rfl]; exact hper
  have hlate : s.pulseLate n 2 = { s.pulseArmed n 2 with
      next := (s.pulseArmed n 2).indexFrom ((s.now + usUnit : Nat) : Int) } := by rw [State.pulseLate, if_pos rfl]
  obtain ⟨h1, h2⟩ := Pulse.indexFrom_spec (s.pulseArmed n 2) ((s.now + usUnit : Nat) : Int) hp
  generalize ((s.now + usUnit : Nat) : Int) = x at hlate h1 h2 ⊢
  refine ⟨by rw [hlate, State.pulseArmed], ?_, fun j hj => ?_⟩
  · rw [hlate, Pulse.instant_next]; exact h1
  · rw [hlate] at hj
    rw [hlate, Pulse.instant_next]
    exact h2 j hj

/-! ### The obligation's clauses on pulses -/

/-- A write of MODE once or periodic (R57-R62, R78). -/
theorem State.pulseCtrlWrite_shows (s : State) (n : Fin 4) (data : Word)
    (hm : Fld.TIME_PULSE_CTRL_MODE.get data = 1 ∨ Fld.TIME_PULSE_CTRL_MODE.get data = 2) :
    ∃ p mode, PulseShows n p mode (Fld.TIME_PULSE_CTRL_POLARITY.get data) (s.pulseCtrlWrite n data) ∧ p.high = false ∧
      (s.pulseLegal n (Fld.TIME_PULSE_CTRL_MODE.get data) → mode = Fld.TIME_PULSE_CTRL_MODE.get data ∧
        (((s.now + usUnit : Nat) : Int) ≤ s.pulseStart n → p = s.pulseArmed n (Fld.TIME_PULSE_CTRL_MODE.get data)) ∧
        (s.pulseStart n < ((s.now + usUnit : Nat) : Int) → p = s.pulseLate n (Fld.TIME_PULSE_CTRL_MODE.get data) ∧
          (s.tally.silent = false → (s.pulseCtrlWrite n data).shown (74 + n)))) ∧
      (¬s.pulseLegal n (Fld.TIME_PULSE_CTRL_MODE.get data) → p = {} ∧ mode = 0 ∧
        (s.tally.silent = false → (s.pulseCtrlWrite n data).shown 84)) ∧
      FrameEv (· == Reg.TIME_PULSE_CTRL n) [.time] s (s.pulseCtrlWrite n data) := by
  have hw : ∀ p, PulseShows n p (Fld.TIME_PULSE_CTRL_MODE.get data) (Fld.TIME_PULSE_CTRL_POLARITY.get data)
      ((s.writeWord (Reg.TIME_PULSE_CTRL n) data).setPulse n p) := fun p => by
    have h := PulseShows.setPulse (s.writeWord (Reg.TIME_PULSE_CTRL n) data) n p
    rwa [s.fld_pulseCtrl n data (.inl rfl), s.fld_pulseCtrl n data (.inr rfl)] at h
  have hf : ∀ p, FrameEv (· == Reg.TIME_PULSE_CTRL n) [.time] s ((s.writeWord (Reg.TIME_PULSE_CTRL n) data).setPulse n p) :=
    fun p => (Frame.refl.writeWord _ _ (by simp)).setPulse _ _ (by simp) (by simp)
  have hq : ∀ p, ((s.writeWord (Reg.TIME_PULSE_CTRL n) data).setPulse n p).tally.silent = s.tally.silent := fun p =>
    Frame.silent_eq (hf p) (by simp)
  by_cases hl : s.pulseLegal n (Fld.TIME_PULSE_CTRL_MODE.get data)
  · by_cases hs : ((s.now + usUnit : Nat) : Int) ≤ s.pulseStart n
    · refine ⟨_, _, ?_, rfl, fun _ => ⟨rfl, fun _ => rfl, fun h => absurd hs (not_le.2 h)⟩, fun h => absurd hl h, ?_⟩
      · rw [State.pulseCtrlWrite_armed hm hl hs]; exact hw _
      · rw [State.pulseCtrlWrite_armed hm hl hs]; exact hf _
    · have hs' := not_le.1 hs
      have hhigh : (s.pulseLate n (Fld.TIME_PULSE_CTRL_MODE.get data)).high = false := by
        unfold State.pulseLate; split <;> rfl
      rw [State.pulseCtrlWrite_late hm hl hs']
      refine ⟨_, _, (hw _).raiseN (74 + n) 0 (by omega), hhigh, fun _ => ⟨rfl, fun h => absurd h hs, fun _ => ⟨rfl, fun h => ?_⟩⟩,
        fun h => absurd hl h, ?_⟩
      · exact State.raiseN_shown _ _ _ (by omega) ((hq _).trans h)
      · exact Frame.raiseN (hf _) (AllowsEvents.ev _ _) _ _ (by omega)
  · rw [State.pulseCtrlWrite_illegal hm hl]
    refine ⟨{}, 0, PulseShows.raiseN ?_ 84 _ (by decide), rfl, fun h => absurd h hl, fun _ => ⟨rfl, rfl, fun h => ?_⟩, ?_⟩
    · obtain ⟨h1, -, h3, h4⟩ := hw {}
      refine ⟨h1, ?_, ?_, ?_⟩
      · exact State.fld_setFld_same _ _ _ _ (by decide)
      · rw [State.fld_setFld_other _ _ _ _ _ _ (by decide) (.inl (by decide))]; exact h3
      · rw [State.bit, State.fld_setFld_other _ _ _ _ _ _ (by decide) (.inl (by decide))]; exact h4
    · exact State.raiseN_shown _ _ _ (by decide) ((hq {}).trans h)
    · exact Frame.raiseN ((hf {}).setFld _ _ _ (by simp)) (AllowsEvents.ev _ _) _ _ (by decide)

end Sys2Proof.Machine
end

section
/-! SUPPORT. Hardware pushes to a quire, and the records that wait for their push (R67, R431, R434, R681). -/

namespace Sys2Proof.Machine

variable {R : Nat → Bool} {P : List Part} {s t u : State}

/-! ### Records that wait -/

/-- From s to t records only join the end of those that wait. -/
def RecordsLe (s t : State) : Prop := ∃ more, t.time.records = s.time.records ++ more

theorem RecordsLe.refl : RecordsLe s s := ⟨[], (List.append_nil _).symm⟩

theorem RecordsLe.trans (h : RecordsLe s t) (h' : RecordsLe t u) : RecordsLe s u := by
  obtain ⟨xs, hx⟩ := h
  obtain ⟨ys, hy⟩ := h'
  exact ⟨xs ++ ys, by rw [hy, hx, List.append_assoc]⟩

theorem RecordsLe.of_time (h : RecordsLe s t) (ht : u.time = t.time) : RecordsLe s u :=
  h.trans ⟨[], by rw [ht, List.append_nil]⟩

theorem RecordsLe.setReg (h : RecordsLe s t) (a : Nat) (w : Word) : RecordsLe s (t.setReg a w) := h.of_time rfl

theorem RecordsLe.setFld (h : RecordsLe s t) (a : Nat) (f : Field) (n : Nat) : RecordsLe s (t.setFld a f n) := h.setReg a _

theorem RecordsLe.setSticky (h : RecordsLe s t) (n : Nat) : RecordsLe s (t.setSticky n) := h.setReg _ _

theorem RecordsLe.syncSummary (h : RecordsLe s t) : RecordsLe s t.syncSummary := h.of_time rfl

theorem RecordsLe.markRecord (h : RecordsLe s t) (src : Nat) (w3 : Word) : RecordsLe s (t.markRecord src w3) := by
  unfold State.markRecord
  split
  · exact h.trans ⟨_, rfl⟩
  · exact h

theorem RecordsLe.mark (h : RecordsLe s t) (src : Nat) (w3 : Word) : RecordsLe s (t.mark src w3) :=
  RecordsLe.markRecord (t := t.markCause src) (h.setReg _ _) src w3

theorem RecordsLe.setFirst (h : RecordsLe s t) (n : Nat) (forced : Bool) : RecordsLe s (t.setFirst n forced) := by
  unfold State.setFirst
  split
  · exact h.of_time (by simp)
  · exact h

theorem RecordsLe.react (h : RecordsLe s t) (n : Nat) (forced : Bool) : RecordsLe s (t.react n forced) := by
  unfold State.react
  dsimp only
  split
  · exact h.of_time rfl
  · exact RecordsLe.mark (h.of_time (by simp [State.setGrace])) 32 _
  · exact RecordsLe.mark (h.of_time (by simp)) 34 _

theorem RecordsLe.tallyRaise (h : RecordsLe s t) (n : Nat) (forced : Bool) : RecordsLe s (t.tallyRaise n forced) := by
  unfold State.tallyRaise
  split
  · exact h
  · exact ((h.setFirst n forced).setSticky n).react n forced

theorem RecordsLe.raise (h : RecordsLe s t) (src : Nat) (w3 : Word) : RecordsLe s (t.raise src w3) := by
  unfold State.raise
  split
  · unfold State.raiseSilent
    extract_lets v s1 s2 s3
    have h1 : RecordsLe s s1 := h.of_time rfl
    have h2 : RecordsLe s s2 := by
      unfold s2
      split
      · exact h1.setReg _ _
      · exact h1
    have h3 : RecordsLe s s3 := by
      unfold s3
      split
      · exact h2.markRecord src w3
      · exact h2
    refine RecordsLe.syncSummary ?_
    cases faultOf src with
    | none => exact h3
    | some n =>
      have h4 := (h3.setFirst n false).setSticky n
      dsimp only
      split_ifs
      · exact h3
      · exact h4.react n false
      · exact h3.react n false
      · exact h4
      · exact h3
  · unfold State.raiseNow
    refine RecordsLe.syncSummary ?_
    cases faultOf src with
    | none => exact h.mark src w3
    | some n => exact (h.mark src w3).tallyRaise n false

theorem RecordsLe.quireCond (h : RecordsLe s t) (q : Nat) (en : Field) (src : Nat) (b : Bool) :
    RecordsLe s (t.quireCond q en src b) := by
  unfold State.quireCond
  split
  · dsimp only
    split
    · exact h.setReg _ _
    · exact (h.setReg _ _).raise src _
  · exact h

theorem RecordsLe.quireDrop (h : RecordsLe s t) (q : Nat) : RecordsLe s (t.quireDrop q) := h.setFld _ _ _

/-! ### A hardware push -/

/-- The registers of a quire that a push or its events may write. -/
def quireRegs (q a : Nat) : Bool := a == Reg.QUIRE_COUNT q || a == Reg.QUIRE_HEAD q || a == Reg.QUIRE_PEND (q / 32)

theorem Frame.quireCond (h : Frame R P s t) (hA : AllowsEvents R P) (q : Nat) (en : Field) (src : Nat) (b : Bool)
    (hs : src < 320) (hR : R (Reg.QUIRE_PEND (q / 32)) = true) : Frame R P s (t.quireCond q en src b) := by
  unfold State.quireCond
  split
  · dsimp only
    split
    · exact h.setReg _ _ hR
    · exact (h.setReg _ _ hR).raiseN hA _ _ hs
  · exact h

/-- What the conditions of a cycle leave: pending bits and their events (R434). -/
theorem State.quireConds_leaves (s : State) (q c c' : Nat) (b : Bool) :
    FrameEv (quireRegs q) [] s (s.quireConds q c c' b) ∧ RecordsLe s (s.quireConds q c c' b) := by
  have hR : (fun a => eventReg a || quireRegs q a) (Reg.QUIRE_PEND (q / 32)) = true := by simp [quireRegs]
  have hA := AllowsEvents.ev (quireRegs q) []
  unfold State.quireConds
  exact ⟨(((Frame.refl.quireCond hA q _ 172 _ (by decide) hR).quireCond hA q _ 173 _ (by decide) hR).quireCond hA q _ 174 _
      (by decide) hR).quireCond hA q _ 175 _ (by decide) hR,
    (((RecordsLe.refl.quireCond q _ 172 _).quireCond q _ 173 _).quireCond q _ 174 _).quireCond q _ 175 _⟩

/-- A push that finds room goes behind the last entry; another one counts in DROP (R429, R431). -/
theorem State.quireCycle_push (s : State) (q : Nat) (bs : List Byte) : (s.quireCycle q (some bs) false).2 =
    if s.quireCount q < quireDepth (s.reg (Reg.QUIRE_CFG q)) then
      ((((s.write (s.quireAddr q (s.quireCount q)) (bs.take (s.quireSize q))).eccClear (s.quireAddr q (s.quireCount q))
        (s.quireSize q)).setFld (Reg.QUIRE_COUNT q) Fld.QUIRE_COUNT_COUNT (s.quireCount q + 1)).quireConds q
          (s.quireCount q) (s.quireCount q + 1) false)
    else (((s.setFld (Reg.QUIRE_COUNT q) Fld.QUIRE_COUNT_COUNT (s.quireCount q)).quireDrop q).quireConds q
      (s.quireCount q) (s.quireCount q) true) := by
  by_cases h : s.quireCount q < quireDepth (s.reg (Reg.QUIRE_CFG q))
  · simp [State.quireCycle, h, bitOf]
  · simp [State.quireCycle, h, bitOf]

theorem Frame.quireDrop (h : Frame R P s t) (q : Nat) (hR : R (Reg.QUIRE_HEAD q) = true) : Frame R P s (t.quireDrop q) :=
  h.setFld _ _ _ hR

theorem State.quireCycle_push_leaves (s : State) (q : Nat) (bs : List Byte) :
    FrameEv (quireRegs q) [.mem, .ecc] s (s.quireCycle q (some bs) false).2 ∧
      RecordsLe s (s.quireCycle q (some bs) false).2 := by
  have hC : (fun a => eventReg a || quireRegs q a) (Reg.QUIRE_COUNT q) = true := by simp [quireRegs]
  have hH : (fun a => eventReg a || quireRegs q a) (Reg.QUIRE_HEAD q) = true := by simp [quireRegs]
  have key : ∀ u c c' b, FrameEv (quireRegs q) [.mem, .ecc] s u → RecordsLe s u →
      FrameEv (quireRegs q) [.mem, .ecc] s (u.quireConds q c c' b) ∧ RecordsLe s (u.quireConds q c c' b) :=
    fun u c c' b hf hr => ⟨hf.trans ((u.quireConds_leaves q c c' b).1.widen (fun _ h => h) (by simp)),
      hr.trans (u.quireConds_leaves q c c' b).2⟩
  rw [State.quireCycle_push]
  split
  · have hw : RecordsLe s (s.write (s.quireAddr q (s.quireCount q)) (bs.take (s.quireSize q))) := ⟨[], by simp⟩
    refine key _ _ _ _ ?_ (RecordsLe.setFld (hw.of_time (by simp)) _ _ _)
    exact Frame.setFld ((Frame.refl.write (by simp) _ _).eccClearW (by simp) _ _ _) _ _ _ hC
  · exact key _ _ _ _ ((Frame.refl.setFld _ _ _ hC).quireDrop q hH) ((RecordsLe.refl.setFld _ _ _).quireDrop q)

/-- A hardware push writes the quire's registers, its events and memory, and only adds to the records that wait. -/
theorem State.hwPush_leaves (s : State) (q : Nat) (bs : List Byte) :
    FrameEv (quireRegs q) [.mem, .ecc] s (s.hwPush q bs).2 ∧ RecordsLe s (s.hwPush q bs).2 := by
  have hd : FrameEv (quireRegs q) [.mem, .ecc] s (s.quireDrop q) ∧ RecordsLe s (s.quireDrop q) :=
    ⟨Frame.refl.quireDrop q (by simp [quireRegs]), RecordsLe.refl.quireDrop q⟩
  unfold State.hwPush State.quireServe
  split
  · exact hd
  · split
    · exact s.quireCycle_push_leaves q bs
    · exact hd

/-- An entry of the quire's size that finds room is read where it was pushed (R429, R431). -/
theorem State.hwPush_read (s : State) (q : Nat) (bs : List Byte) (hon : s.quireOn q = true)
    (hl : bs.length = s.quireSize q) (hc : s.quireCount q < quireDepth (s.reg (Reg.QUIRE_CFG q))) :
    (s.hwPush q bs).2.read (s.quireAddr q (s.quireCount q)) bs.length = bs := by
  have hp : (s.hwPush q bs).2 = (s.quireCycle q (some bs) false).2 := by
    rw [State.hwPush, if_neg (by simp [hl]), State.quireServe, if_pos hon]
  rw [hp, State.quireCycle_push, if_pos hc, State.read, (State.quireConds_leaves _ _ _ _ _).1.2 .mem (by simp)]
  rw [List.take_of_length_le (by omega)]
  exact Memory.read_write_same _ _ _

end Sys2Proof.Machine
end

section
/-! SUPPORT. Capture inputs: what an edge leaves of a capture that does not feed the servo (R63-R65). -/

namespace Sys2Proof.Machine

variable {R : Nat → Bool} {P : List Part} {s t u : State}

/-! ### Which edges are selected -/

/-- Whether an edge of an enabled capture in a direction that it selects (R63). -/
def State.captures (s : State) (n : Nat) (rising : Bool) : Bool :=
  let c := s.reg (Reg.TIME_CAP_CTRL n)
  let e := Fld.TIME_CAP_CTRL_EDGE.get c
  !decide (Fld.TIME_CAP_CTRL_ENABLE.get c = 0) && (e == 3 || (rising && e == 1) || (!rising && e == 2))

/-- The guard of a capture as its command writes it. -/
theorem not_decide_and_iff (p : Prop) [Decidable p] (b : Bool) : (!decide p && b) = true ↔ ¬(p ∨ (!b) = true) := by
  cases b <;> simp

theorem State.captures_of {n : Nat} {rising : Bool} (h1 : Fld.TIME_CAP_CTRL_ENABLE.get (s.reg (Reg.TIME_CAP_CTRL n)) = 1)
    (h2 : Fld.TIME_CAP_CTRL_EDGE.get (s.reg (Reg.TIME_CAP_CTRL n)) = 3 ∨
      Fld.TIME_CAP_CTRL_EDGE.get (s.reg (Reg.TIME_CAP_CTRL n)) = (if rising then 1 else 2)) : s.captures n rising = true := by
  cases rising <;> rcases h2 with h2 | h2 <;> simp [State.captures, h1, h2]

theorem State.captures_none {n : Nat} {rising : Bool}
    (h : Fld.TIME_CAP_CTRL_ENABLE.get (s.reg (Reg.TIME_CAP_CTRL n)) = 0 ∨
      Fld.TIME_CAP_CTRL_EDGE.get (s.reg (Reg.TIME_CAP_CTRL n)) = 0 ∨
      Fld.TIME_CAP_CTRL_EDGE.get (s.reg (Reg.TIME_CAP_CTRL n)) = (if rising then 2 else 1)) :
    s.captures n rising = false := by
  cases rising <;> rcases h with h | h | h <;> simp [State.captures, h]

/-! ### What is written -/

/-- TIME_CAPn_LAST takes PT and the direction, and the capture its PT (R63, R64). -/
def State.captured (s : State) (n : Nat) (rising : Bool) : State :=
  let a := Reg.TIME_CAP_LAST n
  let s1 := (((s.setRegN a s.now).setRegN (a + 4) (ptNs s.now)).setRegN (a + 8) (ptSec s.now)).setRegN (a + 12)
    (ptSec s.now / 2 ^ 32 % 2 ^ 16 + bitOf rising * 2 ^ 31)
  { s1 with time := { s1.time with capSeen := SMap.set none s1.time.capSeen n (some (s.now : Int)) } }

theorem State.captureEdge_none {n : Nat} {rising : Bool} (h : s.captures n rising = false) : s.captureEdge n rising = s := by
  have hx := mt (not_decide_and_iff _ _).2 (ne_true_of_eq_false h)
  rw [State.captureEdge]
  exact if_pos (not_not.1 hx)

theorem State.captureEdge_soon {n : Nat} {rising : Bool} (h : s.captures n rising = true) (hs : s.capTooSoon n = true) :
    s.captureEdge n rising = (s.count (Reg.TIME_CAP_DROP n) 1).raiseFolio (limitKey (78 + n) 0) (78 + n)
      ((s.count (Reg.TIME_CAP_DROP n) 1).regN (Reg.TIME_CAP_DROP n)) := by
  rw [State.captureEdge]
  simp only []
  rw [if_neg ((not_decide_and_iff _ _).1 h), if_pos hs]

/-- The words of TIME_CAPn_LAST as the entry of a quire. -/
def State.captureEntry (s : State) (n : Nat) : List Byte :=
  [0, 4, 8, 12].flatMap (fun i => wordBytes (s.reg (Reg.TIME_CAP_LAST n + i)))

theorem State.length_captureEntry (s : State) (n : Nat) : (s.captureEntry n).length = 16 := by
  simp [State.captureEntry, List.flatMap_cons]

theorem State.captureEdge_taken {n : Nat} {rising : Bool} (h : s.captures n rising = true) (hs : s.capTooSoon n = false)
    (hsrc : s.fld Reg.TIME_SERVO_CTRL Fld.TIME_SERVO_CTRL_SOURCE ≠ n + 1) : s.captureEdge n rising =
      if Fld.TIME_CAP_CTRL_TO_QUIRE.get (s.reg (Reg.TIME_CAP_CTRL n)) = 1 then
        ((s.captured n rising).hwPush (Fld.TIME_CAP_CTRL_QUIRE.get (s.reg (Reg.TIME_CAP_CTRL n)))
          ((s.captured n rising).captureEntry n)).2
      else s.captured n rising := by
  have he : (s.captured n rising).captureEntry n = wordBytes ((s.captured n rising).reg (Reg.TIME_CAP_LAST n)) ++
      wordBytes ((s.captured n rising).reg (Reg.TIME_CAP_LAST n + 4)) ++
      wordBytes ((s.captured n rising).reg (Reg.TIME_CAP_LAST n + 8)) ++
      wordBytes ((s.captured n rising).reg (Reg.TIME_CAP_LAST n + 12)) := by
    simp [State.captureEntry, List.flatMap_cons]
  rw [he, State.captureEdge]
  simp only []
  rw [if_neg ((not_decide_and_iff _ _).1 h), if_neg (by simp [hs]), if_neg (fun hx => hsrc hx.1)]
  rfl

/-- The words of TIME_CAPn_LAST. -/
def capRegs (n a : Nat) : Bool := inRange (Reg.TIME_CAP_LAST n) (Reg.TIME_CAP_LAST n + 16) a

theorem State.captured_frame (s : State) (n : Nat) (rising : Bool) : Frame (capRegs n) [.time] s (s.captured n rising) := by
  have hR : ∀ i, i < 16 → capRegs n (Reg.TIME_CAP_LAST n + i) = true := fun i hi => by simp [capRegs, inRange, hi]
  exact ((((Frame.refl.setRegN _ _ (hR 0 (by decide))).setRegN _ _ (hR 4 (by decide))).setRegN _ _
    (hR 8 (by decide))).setRegN _ _ (hR 12 (by decide))).time (by simp) _ rfl

theorem State.captured_last (s : State) (n : Nat) (rising : Bool) :
    (s.captured n rising).regN (Reg.TIME_CAP_LAST n) = s.now % 2 ^ 32 ∧
      (s.captured n rising).regN (Reg.TIME_CAP_LAST n + 4) = ptNs s.now ∧
      (s.captured n rising).regN (Reg.TIME_CAP_LAST n + 8) = ptSec s.now % 2 ^ 32 ∧
      (s.captured n rising).regN (Reg.TIME_CAP_LAST n + 12) =
        ptSec s.now / 2 ^ 32 % 2 ^ 16 + (if rising then 2 ^ 31 else 0) := by
  have hns : ptNs s.now < 2 ^ 32 := Nat.lt_trans (Nat.mod_lt _ (by decide)) (by decide)
  have hhi : ptSec s.now / 2 ^ 32 % 2 ^ 16 + bitOf rising * 2 ^ 31 < 2 ^ 32 := by
    have : bitOf rising ≤ 1 := by cases rising <;> decide
    omega
  have hb : (if rising then 2 ^ 31 else 0) = bitOf rising * 2 ^ 31 := by cases rising <;> rfl
  simp only [State.captured, State.regN, State.reg_mk, State.find_regs, State.reg_setRegN]
  rw [hb]
  refine ⟨?_, ?_, ?_, ?_⟩ <;> simp <;> omega

end Sys2Proof.Machine
end

section
/-! Pulse outputs and capture inputs. -/

open Sys2Proof Sys2Proof.Machine

namespace Sys2Proof.Machine

variable {s : State}

/-- A capture keeps where its quire puts the next entry, and whether it can. -/
theorem State.captured_quire (s : State) (n : Fin 4) (rising : Bool) (q : Nat) :
    (s.captured n rising).quireOn q = s.quireOn q ∧ (s.captured n rising).quireSize q = s.quireSize q ∧
      (s.captured n rising).quireCount q = s.quireCount q ∧
      (s.captured n rising).reg (Reg.QUIRE_CFG q) = s.reg (Reg.QUIRE_CFG q) ∧
      (s.captured n rising).quireAddr q (s.quireCount q) = s.quireAddr q (s.quireCount q) := by
  have hr : ∀ a, 0x3140000 ≤ a → (s.captured n rising).reg a = s.reg a := fun a ha =>
    (s.captured_frame n rising).1 a (by
      rw [capRegs, inRange, Bool.and_eq_false_iff, decide_eq_false_iff_not, decide_eq_false_iff_not, Reg.TIME_CAP_LAST]
      omega)
  have h1 := hr (Reg.QUIRE_CFG q) (by unfold Reg.QUIRE_CFG; omega)
  have h2 := hr (Reg.QUIRE_COUNT q) (by unfold Reg.QUIRE_COUNT; omega)
  have h3 := hr (Reg.QUIRE_BASE q) (by unfold Reg.QUIRE_BASE; omega)
  have h4 := hr (Reg.QUIRE_HEAD q) (by unfold Reg.QUIRE_HEAD; omega)
  simp only [State.quireOn, State.quireSize, State.quireCount, State.quireAddr, State.bit, State.fld, State.regN, h1, h2, h3,
    h4, and_self]

/-- The registers of events lie below the time unit's. -/
theorem eventReg_high (a : Nat) (h : 0x200000 ≤ a) : eventReg a = false := by
  simp only [eventReg, Bool.or_eq_false_iff, Bool.and_eq_false_iff, beq_eq_false_iff_ne, decide_eq_false_iff_not]
  omega

/-- A push to a quire leaves TIME_CAPn_LAST. -/
theorem State.hwPush_last (s : State) (n : Fin 4) (q i : Nat) (hi : i < 16) (bs : List Byte) :
    (s.hwPush q bs).2.reg (Reg.TIME_CAP_LAST n + i) = s.reg (Reg.TIME_CAP_LAST n + i) := by
  refine (s.hwPush_leaves q bs).1.reg_eq _ (eventReg_high _ (by unfold Reg.TIME_CAP_LAST; omega)) ?_
  simp only [quireRegs, Reg.TIME_CAP_LAST, Reg.QUIRE_COUNT, Reg.QUIRE_HEAD, Reg.QUIRE_PEND, Bool.or_eq_false_iff,
    beq_eq_false_iff_ne]
  omega

/-- A capture that does not feed the servo: the words of TIME_CAPn_LAST, with or without a push to its quire (R63, R65). -/
theorem State.captureEdge_last (n : Fin 4) (rising : Bool) (h : s.captures n rising = true) (hs : s.capTooSoon n = false)
    (hsrc : s.fld Reg.TIME_SERVO_CTRL Fld.TIME_SERVO_CTRL_SOURCE ≠ n.val + 1) (i : Nat) (hi : i < 16) :
    (s.captureEdge n rising).reg (Reg.TIME_CAP_LAST n + i) = (s.captured n rising).reg (Reg.TIME_CAP_LAST n + i) := by
  rw [State.captureEdge_taken h hs hsrc]
  split
  · exact State.hwPush_last _ n _ i hi _
  · rfl

end Sys2Proof.Machine

/-- Settles O7: the clauses of R57-R62 by what CTRL and the output show, those of R63-R65 by what a capture writes. -/
theorem pulsesAndCaptures : Obligations.PulsesAndCaptures := by
  refine ⟨⟨?arm, ?stop, ?edge, ?widthEnd⟩, ?taken, ?soon, ?unselected⟩
  case arm =>
    intro n data s hq hm w per st train legal
    obtain ⟨p, mode, hp, hhigh, hlegal, hillegal, hf⟩ := s.pulseCtrlWrite_shows n data hm
    refine ⟨_, rfl, ?_⟩
    generalize s.pulseCtrlWrite n data = t at hp hlegal hillegal hf ⊢
    have hpin := hp.pin
    obtain ⟨rfl, rfl, hpol, harmed⟩ := hp
    refine ⟨hpol, by rw [hpin, hhigh, Bool.false_bne], harmed, fun hl => (hlegal hl).1, fun hl hs => ?_, fun hl hs ht => ?_,
      fun hl hs ht => ?_, fun hl => ?_, hf⟩
    · rw [(hlegal hl).2.1 hs, State.pulseArmed, beq_eq_decide]
      congr 1
    · obtain ⟨h1, h2⟩ := (hlegal hl).2.2 hs
      refine ⟨?_, h2 hq⟩
      rw [h1, State.pulseLate, if_neg ht]
    · obtain ⟨h1, h2⟩ := (hlegal hl).2.2 hs
      have ht2 : Fld.TIME_PULSE_CTRL_MODE.get data = 2 := ht
      obtain ⟨hp1, -⟩ := hl.2 ht
      obtain ⟨h3, h4, h5⟩ := s.pulseLate_train n (Nat.lt_of_lt_of_le (by decide) hp1)
      rw [h1, ht2]
      exact ⟨h3, h2 hq, h4, h5⟩
    · obtain ⟨h1, h2, h3⟩ := hillegal hl
      exact ⟨h1, h2, h3 hq⟩
  case stop =>
    intro n data s
    have hm : Fld.TIME_PULSE_CTRL_MODE.get (Fld.TIME_PULSE_CTRL_MODE.put data 0) = 0 := Field.get_put _ _ _ (by decide)
    have hpol : Fld.TIME_PULSE_CTRL_POLARITY.get (Fld.TIME_PULSE_CTRL_MODE.put data 0) = _ :=
      Field.get_put_other _ _ data 0 (by decide) (.inl (by decide))
    refine ⟨_, rfl, ?_⟩
    rw [s.pulseCtrlWrite_off n _ hm]
    have h := PulseShows.setPulse (s.writeWord (Reg.TIME_PULSE_CTRL n) (Fld.TIME_PULSE_CTRL_MODE.put data 0)) n {}
    rw [s.fld_pulseCtrl n _ (.inl rfl), s.fld_pulseCtrl n _ (.inr rfl), hm, hpol] at h
    have hpin := h.pin
    obtain ⟨h1, h2, -, h4⟩ := h
    exact ⟨h1, h4, h2, hpin.trans (Bool.false_bne _), (Frame.refl.writeWord _ _ (by simp)).pulseOff _ (by simp) (by simp)⟩
  case edge =>
    intro n s ha hh hi
    have he : s.pulseEdge n = s.setPulse n { s.pulse n with high := true, next := (s.pulse n).next + 1 } := by
      rw [State.pulseEdge]
      exact if_pos ⟨ha, by simp [hh], hi⟩
    refine ⟨_, rfl, ?_⟩
    rw [he]
    have h := PulseShows.setPulse s n { s.pulse n with high := true, next := (s.pulse n).next + 1 }
    exact ⟨h.1, h.pin.trans (Bool.true_bne _), Frame.refl.setPulse _ _ (by simp) (by simp)⟩
  case widthEnd =>
    intro n s hh
    have he : s.pulseWidthEnd n = s.setPulse n { s.pulse n with high := false, armed := (s.pulse n).train } := by
      rw [State.pulseWidthEnd]
      exact if_pos hh
    refine ⟨_, rfl, ?_⟩
    rw [he]
    have h := PulseShows.setPulse s n { s.pulse n with high := false, armed := (s.pulse n).train }
    exact ⟨by rw [h.1], by rw [h.1], h.2.2.2, h.pin.trans (Bool.false_bne _), Frame.refl.setPulse _ _ (by simp) (by simp)⟩
  case taken =>
    intro n rising s hen hedge hs hsrc q
    have hc := State.captures_of hen hedge
    have hlast := State.captureEdge_last n rising hc hs hsrc
    obtain ⟨h0, h1, h2, h3⟩ := s.captured_last n rising
    have hN : ∀ i, i < 16 → (s.captureEdge n rising).regN (Reg.TIME_CAP_LAST n + i) =
        (s.captured n rising).regN (Reg.TIME_CAP_LAST n + i) := fun i hi => by rw [State.regN, hlast i hi, State.regN]
    refine ⟨_, rfl, (hN 0 (by decide)).trans h0, (hN 4 (by decide)).trans h1, (hN 8 (by decide)).trans h2,
      (hN 12 (by decide)).trans h3, fun hto => ?_, fun hto hon hsize hroom => ?_⟩
    · rw [State.captureEdge_taken hc hs hsrc, if_neg (by rw [hto]; decide)]
      exact s.captured_frame n rising
    · obtain ⟨k1, k2, k3, k4, k5⟩ := s.captured_quire n rising q
      have hr := (s.captured n rising).hwPush_read q ((s.captured n rising).captureEntry n) (k1.trans hon)
        (by rw [State.length_captureEntry, k2, hsize]) (by rw [k3, k4]; exact hroom)
      rw [State.length_captureEntry, k3, k5] at hr
      have he : (s.captureEdge n rising).captureEntry n = (s.captured n rising).captureEntry n := by
        refine List.flatMap_congr fun i hi => ?_
        rw [hlast i (by simp at hi; omega)]
      refine Eq.trans ?_ he.symm
      rw [State.captureEdge_taken hc hs hsrc, if_pos hto]
      exact hr
  case soon =>
    intro n rising s hen hedge hs
    refine ⟨_, rfl, ?_⟩
    rw [State.captureEdge_soon (State.captures_of hen hedge) hs]
    have hd := eventReg_high (Reg.TIME_CAP_DROP n) (by unfold Reg.TIME_CAP_DROP; omega)
    have hf : FrameEv (· == Reg.TIME_CAP_DROP n) [] s (s.count (Reg.TIME_CAP_DROP n) 1) :=
      Frame.refl.count _ _ (by simp) (by simp)
    refine ⟨fun hlt => ?_, Frame.raiseFolio hf (AllowsEvents.ev _ _) _ _ _ (by omega)⟩
    have hr : FrameEv noRegs [] (s.count (Reg.TIME_CAP_DROP n) 1) (State.raiseFolio _ (limitKey (78 + n) 0) (78 + n) _) :=
      Frame.raiseFolio .refl (AllowsEvents.ev _ _) _ _ ((s.count (Reg.TIME_CAP_DROP n) 1).regN (Reg.TIME_CAP_DROP n)) (by omega)
    rw [State.regN, hr.reg_eq _ hd rfl, State.count, if_pos hlt, State.reg_setRegN, if_pos rfl, BitVec.toNat_ofNat]
    exact Nat.mod_eq_of_lt hlt
  case unselected =>
    intro n rising s h
    exact congrArg Host.Outcome.next (State.captureEdge_none (State.captures_none h))

end

section
/-! SUPPORT. What the servo's shared operations leave: adj and the increment that follows it, the integral part, FREE, and what a
sample that is used makes (R28, R49, R50, R54). -/

namespace Sys2Proof.Machine

variable {R : Nat → Bool} {P : List Part} {s t u : State}

/-! ### adj -/

theorem toInt_wordOfInt {a : Int} (h1 : -(2 ^ 31 : Int) ≤ a) (h2 : a < 2 ^ 31) : (wordOfInt a).toInt = a := by
  rw [wordOfInt, BitVec.toInt_ofInt]
  exact Int.bmod_eq_of_le (by omega) (by omega)

theorem State.reg_setAdj_ne (s : State) (a : Int) (b : Nat) (h0 : b ≠ Reg.TIME_SERVO_ADJ) (h1 : b ≠ Reg.TIME_INCR_EFF)
    (h2 : b ≠ Reg.TIME_INCR_EFF + 4) : (s.setAdj a).reg b = s.reg b := by
  rw [State.reg_setAdj, if_neg h2.symm, if_neg h1.symm, if_neg h0.symm]

@[simp] theorem State.setAdj_time (s : State) (a : Int) : (s.setAdj a).time = s.time := by
  simp [State.setAdj, State.syncIncr]

theorem State.adj_setAdj (s : State) {a : Int} (h1 : -(2 ^ 31 : Int) ≤ a) (h2 : a < 2 ^ 31) : (s.setAdj a).adj = a := by
  rw [State.adj, State.reg_setAdj, if_neg (by decide), if_neg (by decide), if_pos rfl, toInt_wordOfInt h1 h2]

/-- TIME_INCR_EFF is the nominal increment and adj, in 40 bits (R28). -/
theorem State.incrEff_setAdj (s : State) {a : Int} (h1 : -(2 ^ 31 : Int) ≤ a) (h2 : a < 2 ^ 31) :
    (s.setAdj a).reg64 Reg.TIME_INCR_EFF = lowInt 40 ((s.reg64 Reg.TIME_INCR_NOM : Nat) + a) := by
  have hlt : lowInt 40 ((s.reg64 Reg.TIME_INCR_NOM : Nat) + a) < 2 ^ 40 := by unfold lowInt; omega
  rw [State.reg64, State.regN, State.regN, State.reg_setAdj, State.reg_setAdj, if_neg (by decide), if_pos rfl, if_pos rfl,
    toInt_wordOfInt h1 h2, BitVec.toNat_ofNat, BitVec.toNat_ofNat]
  omega

/-! ### The servo state and the integral part -/

theorem State.reg_setInteg (s : State) (p i : Int) (b : Nat) : (s.setInteg p i).reg b =
    if Reg.TIME_SERVO_INTEG = b then wordOfInt (truncDiv i 256) else s.reg b := State.reg_setReg ..

theorem State.servo_setServo (s : State) (c : Nat) (hc : c < 4) : (s.setServo c).servo = c := by
  rw [State.servo, State.setServo, State.fld_setFld_same _ _ _ _ (by decide)]
  exact Nat.mod_eq_of_lt hc

theorem State.servo_congr (h : t.reg Reg.TIME_STATUS = s.reg Reg.TIME_STATUS) : t.servo = s.servo := by
  rw [State.servo, State.fld, h]
  rfl

theorem State.adj_congr (h : t.reg Reg.TIME_SERVO_ADJ = s.reg Reg.TIME_SERVO_ADJ) : t.adj = s.adj := by
  rw [State.adj, h]
  rfl

/-- What a result that takes effect leaves (R28, R49). -/
def ServoSettled (o : ServoOut) (rest : List ServoOut) (s t : State) : Prop :=
  t.adj = o.adj ∧ t.time.i = o.i ∧ t.time.p = o.p ∧ t.time.out = rest ∧
    t.reg Reg.TIME_SERVO_INTEG = wordOfInt (truncDiv o.i 256) ∧
    t.reg64 Reg.TIME_INCR_EFF = lowInt 40 ((s.reg64 Reg.TIME_INCR_NOM : Nat) + o.adj)

/-- The registers that a result may write: TIME_INCR_EFF, TIME_SERVO_ADJ and TIME_SERVO_INTEG. -/
def resultRegs (a : Nat) : Bool := inRange 0x200028 0x200030 a || inRange 0x20005C 0x200064 a

/-- A state with P, I and the samples in flight of a result, once adj follows. -/
theorem ServoSettled.setAdj {o : ServoOut} {rest : List ServoOut} (h1 : -(2 ^ 31 : Int) ≤ o.adj) (h2 : o.adj < 2 ^ 31)
    (hi : t.time.i = o.i) (hp : t.time.p = o.p) (ho : t.time.out = rest)
    (hr : t.reg Reg.TIME_SERVO_INTEG = wordOfInt (truncDiv o.i 256))
    (hn : t.reg64 Reg.TIME_INCR_NOM = s.reg64 Reg.TIME_INCR_NOM) : ServoSettled o rest s (t.setAdj o.adj) := by
  refine ⟨t.adj_setAdj h1 h2, ?_, ?_, ?_, ?_, ?_⟩
  · rw [State.setAdj_time, hi]
  · rw [State.setAdj_time, hp]
  · rw [State.setAdj_time, ho]
  · rw [State.reg_setAdj_ne _ _ _ (by decide) (by decide) (by decide), hr]
  · rw [t.incrEff_setAdj h1 h2, hn]

/-- P and I of a result, and the samples still in flight, before adj follows (R49). -/
def State.resultTaken (s : State) (o : ServoOut) (rest : List ServoOut) : State :=
  { s.setInteg o.p o.i with time := { (s.setInteg o.p o.i).time with out := rest } }

theorem State.reg_resultTaken (s : State) (o : ServoOut) (rest : List ServoOut) (b : Nat) :
    (s.resultTaken o rest).reg b = if Reg.TIME_SERVO_INTEG = b then wordOfInt (truncDiv o.i 256) else s.reg b :=
  s.reg_setInteg o.p o.i b

theorem Frame.resultTaken (h : Frame R P s t) (o : ServoOut) (rest : List ServoOut) (hP : Part.time ∈ P)
    (hR : R Reg.TIME_SERVO_INTEG = true) : Frame R P s (t.resultTaken o rest) :=
  (h.setInteg o.p o.i hP hR).time hP _ rfl

theorem State.servoApply_settled {o : ServoOut} {l : List ServoOut} (h : s.time.out = o :: l)
    (h1 : -(2 ^ 31 : Int) ≤ o.adj) (h2 : o.adj < 2 ^ 31) :
    ServoSettled o l s s.servoApply ∧ Frame resultRegs [.time] s s.servoApply := by
  have he : s.servoApply = (s.resultTaken o l).setAdj o.adj := by
    rw [State.servoApply, h]
    rfl
  have hr := s.reg_resultTaken o l
  rw [he]
  refine ⟨ServoSettled.setAdj h1 h2 rfl rfl rfl ?_ (State.reg64_congr ?_ ?_), ?_⟩
  · rw [hr, if_pos rfl]
  · rw [hr, if_neg (by decide)]
  · rw [hr, if_neg (by decide)]
  · exact (Frame.refl.resultTaken o l (by simp) (by decide)).setAdj _ (by decide) (by decide) (by decide)

/-- Into FREE or HOLDOVER: the servo state, P and I, no sample in flight, and adj (R54). -/
def State.servoLeave (s : State) (c : Nat) (i a : Int) : State :=
  ((s.setServo c).resultTaken ⟨0, i, a⟩ []).clearRuns.setAdj a

theorem State.servoLeave_settled (s : State) (c : Nat) (i a : Int) (hc : c < 4) (h1 : -(2 ^ 31 : Int) ≤ a) (h2 : a < 2 ^ 31) :
    (s.servoLeave c i a).servo = c ∧ ServoSettled ⟨0, i, a⟩ [] s (s.servoLeave c i a) ∧
      Frame (fun b => b == Reg.TIME_STATUS || resultRegs b) [.time] s (s.servoLeave c i a) := by
  set v := ((s.setServo c).resultTaken ⟨0, i, a⟩ []).clearRuns with hv
  have hr : ∀ b, v.reg b = if Reg.TIME_SERVO_INTEG = b then wordOfInt (truncDiv i 256) else (s.setServo c).reg b :=
    (s.setServo c).reg_resultTaken ⟨0, i, a⟩ []
  have hs : ∀ b, b ≠ Reg.TIME_STATUS → (s.setServo c).reg b = s.reg b := fun b hb => State.reg_setReg_ne _ _ _ _ hb.symm
  have hf : Frame (fun b => b == Reg.TIME_STATUS || resultRegs b) [.time] s v :=
    ((Frame.refl.setServo c (by decide)).resultTaken _ _ (by simp) (by decide)).clearRuns (by simp)
  have he : s.servoLeave c i a = v.setAdj a := rfl
  rw [he]
  refine ⟨?_, ServoSettled.setAdj (o := ⟨0, i, a⟩) h1 h2 rfl rfl rfl ?_ (State.reg64_congr ?_ ?_), ?_⟩
  · rw [State.servo_congr (State.reg_setAdj_ne _ _ _ (by decide) (by decide) (by decide)), ← s.servo_setServo c hc]
    exact State.servo_congr (by rw [hr, if_neg (by decide)])
  · rw [hr, if_pos rfl]
  · rw [hr, if_neg (by decide), hs _ (by decide)]
  · rw [hr, if_neg (by decide), hs _ (by decide)]
  · exact hf.setAdj _ (by decide) (by decide) (by decide)

theorem State.servoToFree_eq (s : State) : s.servoToFree = s.servoLeave 0 0 0 := rfl

theorem State.servoHoldover_eq (h : s.servo = 1 ∨ s.servo = 2) : s.servoHoldover =
    (s.servoLeave 3 s.integLast (-(truncDiv s.integLast 256))).raise 66 (wordOfInt (-(truncDiv s.integLast 256))) := by
  rw [State.servoHoldover, if_pos h]
  rfl

/-- The servo in FREE (R54). -/
theorem State.servoToFree_freed (s : State) : ServoFreed s s.servoToFree ∧
    Frame (fun b => b == Reg.TIME_STATUS || resultRegs b) [.time] s s.servoToFree := by
  obtain ⟨h1, ⟨ha, hi, hp, ho, hr, he⟩, hf⟩ := s.servoLeave_settled 0 0 0 (by decide) (by decide) (by decide)
  rw [State.servoToFree_eq]
  refine ⟨⟨h1, ha, hr, hi, hp, ho, ?_⟩, hf⟩
  rw [he, Int.add_zero]

end Sys2Proof.Machine
end

section
/-! SUPPORT. What a sample makes of the servo, state by state (R49, R50, R54, R673). -/

namespace Sys2Proof.Machine

variable {R : Nat → Bool} {P : List Part} {s t u : State}

/-! ### A sample that is used -/

/-- The result of a sample joins those in flight, and TIME_SERVO_THETA shows its offset (R49). -/
def State.sampled (s : State) (theta : Int) : State :=
  let s1 := s.setReg Reg.TIME_SERVO_THETA (thetaNs theta)
  { s1 with time := { s1.time with out := s1.time.out ++ [s.servoResult theta] } }

/-- ADJ_CLAMP is raised where a clamp changed the result (R50). -/
theorem State.useSample_eq (s : State) (theta : Int) :
    (s.servoClamps theta → ∃ w, s.useSample theta = (s.sampled theta).raise 69 w) ∧
      (¬s.servoClamps theta → s.useSample theta = s.sampled theta) := by
  have hdiv : ∀ x : Int, x.fdiv 65536 = x / 65536 := fun x => Int.fdiv_eq_ediv_of_nonneg x (by decide)
  have h : s.useSample theta = if
      (s.servoResult theta).i ≠ s.integLast + ((s.fld Reg.TIME_SERVO_KI Fld.TIME_SERVO_KI_KI : Nat) * theta) / 65536 ∨
        (s.servoResult theta).adj ≠ -(Int.tdiv ((s.servoResult theta).p + (s.servoResult theta).i) 256) then
        (s.sampled theta).raise 69 (wordOfInt (satInt 32 (-(truncDiv ((s.servoResult theta).p + (s.integLast +
          ((s.fld Reg.TIME_SERVO_KI Fld.TIME_SERVO_KI_KI : Nat) * theta) / 65536)) 256))))
      else s.sampled theta := by
    simp only [← hdiv, State.sampled, State.servoResult]
    rfl
  rw [h]
  exact ⟨fun hc => ⟨_, if_pos hc⟩, fun hc => if_neg hc⟩

theorem State.sampled_frame (s : State) (theta : Int) :
    Frame (· == Reg.TIME_SERVO_THETA) [.time] s (s.sampled theta) :=
  Frame.time (Frame.refl.setReg _ _ (by simp)) (by simp) _ rfl

theorem SampleUsed.keep {theta : Int} (h : SampleUsed theta s t) (ho : u.time.out = t.time.out)
    (ha : u.reg Reg.TIME_SERVO_ADJ = t.reg Reg.TIME_SERVO_ADJ)
    (ht : u.reg Reg.TIME_SERVO_THETA = t.reg Reg.TIME_SERVO_THETA) (hc : CauseLe t u) : SampleUsed theta s u := by
  obtain ⟨h1, h2, h3, h4⟩ := h
  exact ⟨ho.trans h1, (State.adj_congr ha).trans h2, ht.trans h3, fun hx => hc.shown 69 (by decide) (h4 hx)⟩

theorem SampleUsed.of_sampled {theta : Int} (hr : ∀ a, 0x200000 ≤ a → u.reg a = (s.sampled theta).reg a)
    (ht : u.time.out = (s.sampled theta).time.out) (hc : s.servoClamps theta → u.shown 69) : SampleUsed theta s u := by
  have ha : (s.sampled theta).reg Reg.TIME_SERVO_ADJ = s.reg Reg.TIME_SERVO_ADJ :=
    (s.sampled_frame theta).1 _ (by decide)
  have hth : (s.sampled theta).reg Reg.TIME_SERVO_THETA = thetaNs theta := (State.reg_setReg ..).trans (if_pos rfl)
  exact ⟨ht, State.adj_congr ((hr _ (by decide)).trans ha), (hr _ (by decide)).trans hth, hc⟩

theorem State.useSample_used (s : State) (theta : Int) (hq : s.tally.silent = false) :
    SampleUsed theta s (s.useSample theta) := by
  by_cases hc : s.servoClamps theta
  · obtain ⟨w, he⟩ := (s.useSample_eq theta).1 hc
    rw [he]
    refine .of_sampled (fun a ha => State.reg_raise _ w (by decide) (eventReg_high a ha)) ?_
      (fun _ => State.raise_shown _ 69 w (by decide) hq)
    rw [(State.raise_frame _ 69 w (by decide)).time_eq (by simp)]
  · rw [(s.useSample_eq theta).2 hc]
    exact .of_sampled (fun _ _ => rfl) rfl (fun h => absurd h hc)

theorem State.useSample_frame (s : State) (theta : Int) :
    FrameEv (· == Reg.TIME_SERVO_THETA) [.time] s (s.useSample theta) :=
  Frame.refl.useSample (AllowsEvents.ev _ _) theta (by simp) (by simp)

/-! ### The states of the servo -/

/-- A sample has been used, and the servo stands in state c while the tally works as before. -/
def Moved (theta : Int) (s : State) (c : Nat) (t : State) : Prop :=
  SampleUsed theta s t ∧ t.servo = c ∧ t.tally.silent = s.tally.silent

section
variable {theta : Int} {c : Nat} (h : Moved theta s c t)
include h

theorem Moved.raise (src : Nat) (w : Word) (hs : src < 320) : Moved theta s c (t.raise src w) := by
  have hr : ∀ a, 0x200000 ≤ a → (t.raise src w).reg a = t.reg a := fun a ha => t.reg_raise w hs (eventReg_high a ha)
  have hc : CauseLe t (t.raise src w) := CauseLe.refl.raise src w
  obtain ⟨h0, h1, h2⟩ := h
  refine ⟨h0.keep ?_ (hr _ (by decide)) (hr _ (by decide)) hc, (State.servo_congr (hr _ (by decide))).trans h1, hc.2.trans h2⟩
  rw [(t.raise_frame src w hs).time_eq (by simp)]

theorem Moved.shown (src : Nat) (w : Word) (hs : src < 320) (hq : s.tally.silent = false) : (t.raise src w).shown src :=
  t.raise_shown src w hs (h.2.2.trans hq)

theorem Moved.runs (i m o : Nat) :
    Moved theta s c { t with time := { t.time with inRun := i, midRun := m, outRun := o } } :=
  ⟨h.1.keep rfl rfl rfl (CauseLe.refl.of_regs rfl rfl), (State.servo_congr (s := t) rfl).trans h.2.1, h.2.2⟩

theorem Moved.clearRuns : Moved theta s c t.clearRuns := h.runs 0 0 0

theorem Moved.setServo (c' : Nat) (hc : c' < 4) : Moved theta s c' (t.setServo c') := by
  have hr : ∀ a, a ≠ Reg.TIME_STATUS → (t.setServo c').reg a = t.reg a := fun a ha => State.reg_setReg_ne _ _ _ _ ha.symm
  exact ⟨h.1.keep rfl (hr _ (by decide)) (hr _ (by decide)) (CauseLe.refl.setFld _ _ _ (by decide)), t.servo_setServo c' hc,
    h.2.2⟩

theorem Moved.toAcquire : Moved theta s 1 t.toAcquire := Moved.clearRuns (h.setServo 1 (by decide))

theorem Moved.holdTags (k : Nat) : Moved theta s c (t.holdTags k) := by
  have hr : ∀ a, a ≠ Reg.XBAR_INFLIGHT → (t.holdTags k).reg a = t.reg a := fun a ha => t.reg_holdTags k a ha
  exact ⟨h.1.keep rfl (hr _ (by decide)) (hr _ (by decide)) (CauseLe.refl.holdTags k),
    (State.servo_congr (hr _ (by decide))).trans h.2.1, h.2.2⟩

end

/-- A sample that is used moves nothing by itself. -/
theorem State.useSample_moved (s : State) (theta : Int) (hq : s.tally.silent = false) :
    Moved theta s s.servo (s.useSample theta) :=
  ⟨s.useSample_used theta hq, State.servo_congr ((s.useSample_frame theta).reg_eq _ (by decide) (by decide)),
    (s.useSample_frame theta).silent_eq (by simp)⟩

/-- The counts of the servo stay through a raise. -/
theorem State.raise_runs (s : State) (src : Nat) (w : Word) (hs : src < 320) :
    (s.raise src w).time.inRun = s.time.inRun ∧ (s.raise src w).time.midRun = s.time.midRun ∧
      (s.raise src w).time.outRun = s.time.outRun := by
  rw [(s.raise_frame src w hs).time_eq (by simp)]
  exact ⟨rfl, rfl, rfl⟩

/-! ### The transitions (R54) -/

/-- Whether a sample lies within LOCK_THR. -/
def State.near (s : State) (theta : Int) : Prop :=
  theta.natAbs ≤ s.fld Reg.TIME_SERVO_LOCK Fld.TIME_SERVO_LOCK_LOCK_THR * 65536

/-- The samples in a row that a change of state takes; 0 counts as 1 (R77). -/
def State.lockCount (s : State) : Nat := max 1 (s.fld Reg.TIME_SERVO_LOCK Fld.TIME_SERVO_LOCK_LOCK_COUNT)

theorem State.near_iff (s : State) (theta : Int) : s.near theta ↔
    (theta.natAbs : Int) ≤ (Fld.TIME_SERVO_LOCK_LOCK_THR.get (s.reg Reg.TIME_SERVO_LOCK) : Nat) * 65536 := by
  unfold State.near State.fld
  omega

theorem State.outlier_iff (s : State) (theta : Int) : s.outlier theta ↔
    Fld.TIME_SERVO_LOCK_OUTLIER_MULT.get (s.reg Reg.TIME_SERVO_LOCK) ≠ 0 ∧
      (Fld.TIME_SERVO_LOCK_OUTLIER_MULT.get (s.reg Reg.TIME_SERVO_LOCK) : Int) *
        ((Fld.TIME_SERVO_LOCK_LOCK_THR.get (s.reg Reg.TIME_SERVO_LOCK) : Nat) * 65536) < theta.natAbs := by
  unfold State.outlier State.fld
  exact and_congr_right fun _ => by constructor <;> intro h <;> exact_mod_cast h

/-- A sample within LOCK_THR is no outlier. -/
theorem State.near.not_outlier {theta : Int} (h : s.near theta) : ¬s.outlier theta := by
  rintro ⟨h0, h1⟩
  have h2 := Nat.le_mul_of_pos_left (s.fld Reg.TIME_SERVO_LOCK Fld.TIME_SERVO_LOCK_LOCK_THR * 65536) (Nat.pos_of_ne_zero h0)
  exact absurd (h.trans h2) (not_le.2 h1)

section
variable (s) (theta : Int)

theorem State.servoSample_off (h : s.servo = 0)
    (he : s.bit Reg.TIME_SERVO_CTRL Fld.TIME_SERVO_CTRL_ENABLE = false) : s.servoSample theta = s := by
  rw [State.servoSample]
  simp only [h, he, Bool.false_eq_true, if_false]

theorem State.servoSample_free (h : s.servo = 0)
    (he : s.bit Reg.TIME_SERVO_CTRL Fld.TIME_SERVO_CTRL_ENABLE = true) :
    s.servoSample theta = (s.useSample theta).toAcquire := by
  rw [State.servoSample]
  simp only [h, he, if_true]

theorem State.servoSample_locks (h : s.servo = 1) (hn : s.near theta) (hc : s.lockCount ≤ s.time.inRun + 1) :
    s.servoSample theta = (((s.useSample theta).setServo 2).clearRuns).raise 64 (thetaNs theta) := by
  rw [State.servoSample]
  simp only [h]
  rw [if_pos ((s.near_iff theta).1 hn)]
  exact if_pos hc

theorem State.servoSample_acquire (h : s.servo = 1) (hc : s.near theta → s.time.inRun + 1 < s.lockCount) :
    s.servoSample theta = { s.useSample theta with time := { (s.useSample theta).time with
      inRun := if (theta.natAbs : Int) ≤ (Fld.TIME_SERVO_LOCK_LOCK_THR.get (s.reg Reg.TIME_SERVO_LOCK) : Nat) * 65536 then
        s.time.inRun + 1 else 0 } } := by
  have hpos : 0 < s.lockCount := Nat.lt_of_lt_of_le Nat.one_pos (Nat.le_max_left _ _)
  rw [State.servoSample]
  simp only [h]
  refine if_neg (not_le.2 ?_)
  split
  next hn => exact hc ((s.near_iff theta).2 hn)
  next => exact hpos

theorem State.servoSample_discards (h : s.servo = 2) (ho : s.outlier theta) (h3 : s.time.outRun < 3) :
    s.servoSample theta = { s with time := { s.time with
      outRun := s.time.outRun + 1, midRun := 0 } }.raise 68 (thetaNs theta) := by
  rw [State.servoSample]
  simp only [h]
  rw [if_pos ((s.outlier_iff theta).1 ho), if_pos h3]

theorem State.servoSample_unlocks (h : s.servo = 2) (ho : s.outlier theta ∧ 3 ≤ s.time.outRun ∨
    ¬s.near theta ∧ ¬s.outlier theta ∧ s.lockCount ≤ s.time.midRun + 1) :
    s.servoSample theta = ((s.useSample theta).toAcquire).raise 65 (thetaNs theta) := by
  rw [State.servoSample]
  simp only [h]
  rcases ho with ⟨ho, h3⟩ | ⟨hn, ho, hc⟩
  · rw [if_pos ((s.outlier_iff theta).1 ho), if_neg (by omega)]
  · rw [if_neg (mt (s.outlier_iff theta).2 ho), if_pos (not_le.1 (mt (s.near_iff theta).2 hn))]
    exact if_pos hc

theorem State.servoSample_mid (h : s.servo = 2) (hn : ¬s.near theta) (ho : ¬s.outlier theta)
    (hc : s.time.midRun + 1 < s.lockCount) : s.servoSample theta = { s.useSample theta with
      time := { (s.useSample theta).time with midRun := s.time.midRun + 1, outRun := 0 } } := by
  rw [State.servoSample]
  simp only [h]
  rw [if_neg (mt (s.outlier_iff theta).2 ho), if_pos (not_le.1 (mt (s.near_iff theta).2 hn))]
  exact if_neg (not_le.2 hc)

theorem State.servoSample_near (h : s.servo = 2) (hn : s.near theta) :
    s.servoSample theta = (s.useSample theta).clearRuns := by
  rw [State.servoSample]
  simp only [h]
  rw [if_neg (mt (s.outlier_iff theta).2 hn.not_outlier), if_neg (not_lt.2 ((s.near_iff theta).1 hn))]

theorem State.servoSample_holdover (h : s.servo = 3) :
    s.servoSample theta = ((s.useSample theta).toAcquire).raise 67 (thetaNs theta) := by
  rw [State.servoSample]
  simp only [h]

/-- A sample writes the servo state and TIME_SERVO_THETA, and raises events (R54). -/
theorem State.servoSample_frame : FrameEv (fun a => a == Reg.TIME_STATUS || a == Reg.TIME_SERVO_THETA) [.time] s
    (s.servoSample theta) := by
  have hA := AllowsEvents.ev (fun a => a == Reg.TIME_STATUS || a == Reg.TIME_SERVO_THETA) [.time]
  have hu : FrameEv (fun a => a == Reg.TIME_STATUS || a == Reg.TIME_SERVO_THETA) [.time] s (s.useSample theta) :=
    (s.useSample_frame theta).widen (fun a ha => by simp [ha]) (by simp)
  have ha := Frame.toAcquire hu (by simp) (by simp)
  have hl := Frame.raise ((hu.setServo 2 (by simp)).clearRuns (by simp)) hA 64 (thetaNs theta) (by decide)
  have hruns : ∀ v i m o, FrameEv (fun a => a == Reg.TIME_STATUS || a == Reg.TIME_SERVO_THETA) [.time] s v →
      FrameEv (fun a => a == Reg.TIME_STATUS || a == Reg.TIME_SERVO_THETA) [.time] s
        { v with time := { v.time with inRun := i, midRun := m, outRun := o } } :=
    fun v i m o h => Frame.time h (by simp) _ rfl
  unfold State.servoSample
  dsimp only
  split
  · exact Frame.ite ha .refl
  · split_ifs
    · exact hl
    · exact hruns _ _ _ _ hu
    · exact hl
    · exact hruns _ _ _ _ hu
  · split_ifs
    · exact Frame.raise (hruns s _ _ _ .refl) hA 68 _ (by decide)
    · exact ha.raise hA 65 _ (by decide)
    · exact ha.raise hA 65 _ (by decide)
    · exact hruns _ _ _ _ hu
    · exact hruns _ _ _ _ hu
  · exact ha.raise hA 67 _ (by decide)

end

/-- A sample moves the servo as R54 says, and the write that makes it holds a tag. -/
theorem State.servoSample_moves (s : State) (theta : Int) (hq : s.tally.silent = false) :
    ServoMoves theta s ((s.servoSample theta).holdTags 1) := by
  have hu := s.useSample_moved theta hq
  refine ⟨fun h he => ?off, fun h he => ?free, fun h hn hc => ?locks, fun h hn hc => ?nearer, fun h hn => ?far,
    fun h hn => ?near, fun h ho h3 => ?discards, fun h ho h3 => ?outliers, fun h hn ho hc => ?unlocks, fun h hn ho hc => ?mid,
    fun h => ?holdover⟩
  case off =>
    rw [s.servoSample_off theta h he]
    exact Frame.refl.holdTags 1 (by simp)
  case free =>
    rw [s.servoSample_free theta h he]
    obtain ⟨h1, h2, -⟩ := hu.toAcquire.holdTags 1
    exact ⟨h1, h2, rfl⟩
  case locks =>
    rw [s.servoSample_locks theta h hn hc]
    have hm := (hu.setServo 2 (by decide)).clearRuns
    obtain ⟨h1, h2, -⟩ := (hm.raise 64 (thetaNs theta) (by decide)).holdTags 1
    exact ⟨h1, h2, (CauseLe.refl.holdTags 1).shown 64 (by decide) (hm.shown 64 _ (by decide) hq)⟩
  case nearer =>
    rw [s.servoSample_acquire theta h (fun _ => hc), if_pos ((s.near_iff theta).1 hn)]
    obtain ⟨h1, h2, -⟩ := (hu.runs (s.time.inRun + 1) (s.useSample theta).time.midRun (s.useSample theta).time.outRun).holdTags 1
    exact ⟨h1, h2.trans h, rfl⟩
  case far =>
    rw [s.servoSample_acquire theta h (fun h => absurd h hn), if_neg (mt (s.near_iff theta).2 hn)]
    obtain ⟨h1, h2, -⟩ := (hu.runs 0 (s.useSample theta).time.midRun (s.useSample theta).time.outRun).holdTags 1
    exact ⟨h1, h2.trans h, rfl⟩
  case near =>
    rw [s.servoSample_near theta h hn]
    obtain ⟨h1, h2, -⟩ := hu.clearRuns.holdTags 1
    exact ⟨h1, h2.trans h, rfl, rfl⟩
  case discards =>
    rw [s.servoSample_discards theta h ho h3]
    set v : State := { s with time := { s.time with outRun := s.time.outRun + 1, midRun := 0 } } with hv
    have hr : ∀ a, 0x200000 ≤ a → a ≠ Reg.XBAR_INFLIGHT → ((v.raise 68 (thetaNs theta)).holdTags 1).reg a = s.reg a :=
      fun a ha hx => (State.reg_holdTags _ 1 a hx).trans (v.reg_raise _ (by decide) (eventReg_high a ha))
    have ht := (v.raise_frame 68 (thetaNs theta) (by decide)).time_eq (by simp)
    refine ⟨?_, State.adj_congr (hr _ (by decide) (by decide)), (State.servo_congr (hr _ (by decide) (by decide))).trans h, ?_,
      (CauseLe.refl.holdTags 1).shown 68 (by decide) (v.raise_shown 68 _ (by decide) hq)⟩
    · rw [State.holdTags_time, ht]
    · rw [State.holdTags_time, ht]
  case outliers =>
    rw [s.servoSample_unlocks theta h (.inl ⟨ho, h3⟩)]
    obtain ⟨h1, h2, -⟩ := (hu.toAcquire.raise 65 (thetaNs theta) (by decide)).holdTags 1
    refine ⟨h1, h2, ?_, (CauseLe.refl.holdTags 1).shown 65 (by decide) (hu.toAcquire.shown 65 _ (by decide) hq)⟩
    exact (State.raise_runs _ 65 _ (by decide)).1
  case unlocks =>
    rw [s.servoSample_unlocks theta h (.inr ⟨hn, ho, hc⟩)]
    obtain ⟨h1, h2, -⟩ := (hu.toAcquire.raise 65 (thetaNs theta) (by decide)).holdTags 1
    refine ⟨h1, h2, ?_, (CauseLe.refl.holdTags 1).shown 65 (by decide) (hu.toAcquire.shown 65 _ (by decide) hq)⟩
    exact (State.raise_runs _ 65 _ (by decide)).1
  case mid =>
    rw [s.servoSample_mid theta h hn ho hc]
    obtain ⟨h1, h2, -⟩ := (hu.runs (s.useSample theta).time.inRun (s.time.midRun + 1) 0).holdTags 1
    exact ⟨h1, h2.trans h, rfl, rfl⟩
  case holdover =>
    rw [s.servoSample_holdover theta h]
    obtain ⟨h1, h2, -⟩ := (hu.toAcquire.raise 67 (thetaNs theta) (by decide)).holdTags 1
    refine ⟨h1, h2, ?_, (CauseLe.refl.holdTags 1).shown 67 (by decide) (hu.toAcquire.shown 67 _ (by decide) hq)⟩
    exact (State.raise_runs _ 67 _ (by decide)).1

end Sys2Proof.Machine
end

section
/-! The servo: FREE, its control word, samples, results and holdover. -/

open Sys2Proof Sys2Proof.Machine

namespace Sys2Proof.Machine

variable {R : Nat → Bool} {P : List Part} {s t : State}

theorem Frame.unsteer (h : Frame R P s t) (x : Nat) (hP : Part.time ∈ P) (hR : R (Reg.SYNTH_STEER x) = true) :
    Frame R P s (t.unsteer x) := by
  unfold State.unsteer
  refine Frame.setReg (Frame.time h hP _ ?_) _ _ hR
  rfl

/-- The samples in flight, P and I do not depend on which PLLs are steered. -/
theorem State.unsteer_result (s : State) (x : Nat) :
    (s.unsteer x).time.out = s.time.out ∧ (s.unsteer x).time.p = s.time.p ∧ (s.unsteer x).time.i = s.time.i :=
  ⟨rfl, rfl, rfl⟩

theorem State.reg_unsteer (s : State) (x b : Nat) :
    (s.unsteer x).reg b = if Reg.SYNTH_STEER x = b then 0 else s.reg b := State.reg_setReg ..

theorem regRow_servoCtrl : regRow Reg.TIME_SERVO_CTRL =
    some ⟨0x200040, 1, 4, 1, 4, 65536000, 0, 4294901791, 0, 0, 0, 0, 1⟩ := by decide +kernel

/-- The fields of TIME_SERVO_CTRL take their writes (R76). -/
theorem State.fld_servoCtrl (s : State) (data : Word) : ∀ f ∈ [Fld.TIME_SERVO_CTRL_ENABLE, Fld.TIME_SERVO_CTRL_SOURCE,
    Fld.TIME_SERVO_CTRL_STEER_A, Fld.TIME_SERVO_CTRL_STEER_B, Fld.TIME_SERVO_CTRL_HOLDOVER_MS],
    (s.writeWord Reg.TIME_SERVO_CTRL data).fld Reg.TIME_SERVO_CTRL f = f.get data := by
  have hf : ∀ f ∈ [Fld.TIME_SERVO_CTRL_ENABLE, Fld.TIME_SERVO_CTRL_SOURCE, Fld.TIME_SERVO_CTRL_STEER_A,
      Fld.TIME_SERVO_CTRL_STEER_B, Fld.TIME_SERVO_CTRL_HOLDOVER_MS], f.lo + f.width ≤ 32 ∧
      BitVec.ofNat 32 4294901791 &&& f.mask = f.mask ∧ BitVec.ofNat 32 0 &&& f.mask = 0 := by decide
  intro f h
  obtain ⟨h1, h2, h3⟩ := hf f h
  exact State.fld_writeWord s _ data _ f regRow_servoCtrl h1 h2 h3

/-- The write of the fields, and the end of the correction of the PLLs that are not steered (R76, R86). -/
def State.servoCtrlTaken (s : State) (data : Word) : State :=
  let s1 := s.writeWord Reg.TIME_SERVO_CTRL data
  let s2 := if Fld.TIME_SERVO_CTRL_STEER_A.get data = 1 then s1 else s1.unsteer 0
  if Fld.TIME_SERVO_CTRL_STEER_B.get data = 1 then s2 else s2.unsteer 1

theorem State.servoCtrlWrite_eq (s : State) (data : Word) : s.servoCtrlWrite data =
    if Fld.TIME_SERVO_CTRL_ENABLE.get data = 0 then (s.servoCtrlTaken data).servoToFree else s.servoCtrlTaken data := by
  have hbit : ∀ f, f = Fld.TIME_SERVO_CTRL_STEER_A ∨ f = Fld.TIME_SERVO_CTRL_STEER_B →
      ((s.writeWord Reg.TIME_SERVO_CTRL data).bit Reg.TIME_SERVO_CTRL f = true ↔ f.get data = 1) := by
    rintro f (rfl | rfl) <;> rw [State.bit, s.fld_servoCtrl data _ (by decide), beq_iff_eq]
  simp only [State.servoCtrlWrite, State.servoCtrlTaken, hbit _ (.inl rfl), hbit _ (.inr rfl)]

/-- What the write leaves before ENABLE acts. -/
theorem State.servoCtrlTaken_spec (s : State) (data : Word) :
    (s.servoCtrlTaken data).reg Reg.TIME_SERVO_CTRL = (s.writeWord Reg.TIME_SERVO_CTRL data).reg Reg.TIME_SERVO_CTRL ∧
      (Fld.TIME_SERVO_CTRL_STEER_A.get data = 0 → (s.servoCtrlTaken data).reg (Reg.SYNTH_STEER 0) = 0) ∧
      (Fld.TIME_SERVO_CTRL_STEER_B.get data = 0 → (s.servoCtrlTaken data).reg (Reg.SYNTH_STEER 1) = 0) ∧
      ((s.servoCtrlTaken data).time.out = s.time.out ∧ (s.servoCtrlTaken data).time.p = s.time.p ∧
        (s.servoCtrlTaken data).time.i = s.time.i) ∧
      Frame (fun a => a == Reg.TIME_SERVO_CTRL || a == Reg.SYNTH_STEER 0 || a == Reg.SYNTH_STEER 1) [.time] s
        (s.servoCtrlTaken data) := by
  unfold State.servoCtrlTaken
  extract_lets s1 s2
  have ht1 : s1.time = s.time := State.writeWord_time s _ data
  have ht2 : s2.time.out = s.time.out ∧ s2.time.p = s.time.p ∧ s2.time.i = s.time.i := by
    unfold s2
    split
    · rw [ht1]; exact ⟨rfl, rfl, rfl⟩
    · obtain ⟨h1, h2, h3⟩ := s1.unsteer_result 0
      exact ⟨h1.trans (by rw [ht1]), h2.trans (by rw [ht1]), h3.trans (by rw [ht1])⟩
  have hf2 : Frame (fun a => a == Reg.TIME_SERVO_CTRL || a == Reg.SYNTH_STEER 0 || a == Reg.SYNTH_STEER 1) [.time] s s2 := by
    have h1 : Frame (fun a => a == Reg.TIME_SERVO_CTRL || a == Reg.SYNTH_STEER 0 || a == Reg.SYNTH_STEER 1) [.time] s s1 :=
      Frame.refl.writeWord _ _ (by simp)
    exact Frame.ite h1 (h1.unsteer 0 (by simp) (by simp))
  have hr2 : s2.reg Reg.TIME_SERVO_CTRL = s1.reg Reg.TIME_SERVO_CTRL := by
    unfold s2
    split
    · rfl
    · exact (State.reg_unsteer ..).trans (if_neg (by decide))
  have ha2 : Fld.TIME_SERVO_CTRL_STEER_A.get data = 0 → s2.reg (Reg.SYNTH_STEER 0) = 0 := by
    intro h
    rw [show s2 = s1.unsteer 0 from if_neg (by rw [h]; decide)]
    exact (State.reg_unsteer ..).trans (if_pos rfl)
  clear_value s2
  split
  next hb => exact ⟨hr2, ha2, fun h => absurd hb (by rw [h]; decide), ht2, hf2⟩
  next =>
    refine ⟨?_, fun h => ?_, fun _ => ?_, ?_, hf2.unsteer 1 (by simp) (by simp)⟩
    · exact ((State.reg_unsteer ..).trans (if_neg (by decide))).trans hr2
    · exact ((State.reg_unsteer ..).trans (if_neg (by decide))).trans (ha2 h)
    · exact (State.reg_unsteer ..).trans (if_pos rfl)
    · obtain ⟨h1, h2, h3⟩ := s2.unsteer_result 1
      exact ⟨h1.trans ht2.1, h2.trans ht2.2.1, h3.trans ht2.2.2⟩

theorem State.servoOffsetWrite_sample (s : State) (m : RegMaster) (data : Word)
    (h : s.fld Reg.TIME_SERVO_CTRL Fld.TIME_SERVO_CTRL_SOURCE = 0) :
    s.servoOffsetWrite data (s.stagedWord m (Reg.TIME_SERVO_OFFSET + 4)) = s.servoSample (s.servoTheta m data) := by
  rw [State.servoOffsetWrite, if_pos h, State.servoTheta]

end Sys2Proof.Machine

/-- Settles O6: FREE and holdover as one result each, and a sample by the row of R54 that its state and offset choose. -/
theorem servoStates : Obligations.ServoStates := by
  refine ⟨⟨?reset, ?ctrl⟩, ⟨?sample, ?otherSource, ?barred⟩, ?apply, ?idle, ?holdover, ?steady⟩
  case reset =>
    intro s
    obtain ⟨⟨h1, h2, h3, h4, h5, h6, h7⟩, hf⟩ := s.servoToFree_freed
    exact ⟨_, rfl, h1, h2, h3, h4, h5, h6, h7, hf.mono (fun a ha => by simpa [resultRegs, or_assoc] using ha) (by simp)⟩
  case ctrl =>
    intro data s
    obtain ⟨hr, ha, hb, ht, hf⟩ := s.servoCtrlTaken_spec data
    obtain ⟨⟨h1, h2, h3, h4, h5, h6, h7⟩, hg⟩ := (s.servoCtrlTaken data).servoToFree_freed
    have hkeep : ∀ a, (a == Reg.TIME_STATUS || resultRegs a) = false → (s.servoCtrlWrite data).reg a =
        (s.servoCtrlTaken data).reg a := fun a h => by
      rw [s.servoCtrlWrite_eq]
      split
      · exact hg.1 a h
      · rfl
    refine ⟨_, rfl, fun f hx => ?_, fun h => ?_, fun h => ?_, fun he => ?_, fun he => ?_⟩
    · rw [← s.fld_servoCtrl data f hx, State.fld, hkeep _ (by decide), hr, State.fld]
    · rw [hkeep _ (by decide), ha h]
    · rw [hkeep _ (by decide), hb h]
    · have hn : (s.servoCtrlTaken data).reg64 Reg.TIME_INCR_NOM = s.reg64 Reg.TIME_INCR_NOM :=
        State.reg64_congr (hf.1 _ (by decide)) (hf.1 _ (by decide))
      rw [hn] at h7
      rw [s.servoCtrlWrite_eq, if_pos he]
      refine ⟨h1, h2, h5, h4, h3, h6, h7, (hf.mono (fun a ha => ?_) (by simp)).trans
        (hg.mono (fun a ha => ?_) (by simp))⟩
      · simp only [Bool.or_eq_true] at ha
        rcases ha with (h | h) | h <;> simp [h]
      · simp only [resultRegs, Bool.or_eq_true] at ha
        rcases ha with h | h | h <;> simp [h]
    · rw [s.servoCtrlWrite_eq, if_neg (by rw [he]; decide)]
      exact ⟨ht.1, ht.2.1, ht.2.2, hf⟩
  case sample =>
    intro m data s hbar hsrc hq
    refine ⟨_, rfl, ?_⟩
    rw [State.unlessBarred_free hbar, s.servoOffsetWrite_sample m data hsrc]
    refine ⟨s.servoSample_moves _ hq, Frame.holdTags ((s.servoSample_frame _).widen (fun a ha => ?_) (by simp)) 1 (by simp)⟩
    simp only [Bool.or_eq_true] at ha
    rcases ha with h | h <;> simp [h]
  case otherSource =>
    intro m data s hbar hsrc
    refine ⟨_, rfl, ?_⟩
    rw [State.unlessBarred_free hbar, State.servoOffsetWrite, if_neg hsrc]
    exact Frame.refl.holdTags 1 (by simp)
  case barred => exact fun m data s h => ⟨_, rfl, State.unlessBarred_refused h (by decide) _⟩
  case apply =>
    intro s o l h h1 h2
    obtain ⟨⟨ha, hi, hp, ho, -, he⟩, hf⟩ := State.servoApply_settled h h1 h2
    exact ⟨_, rfl, ha, hi, hp, ho, he, hf⟩
  case idle =>
    intro s h
    have he : s.servoApply = s := by rw [State.servoApply, h]
    exact congrArg Host.Outcome.next he
  case holdover =>
    intro s h hq h1 h2
    obtain ⟨hs, ⟨ha, hi, hp, ho, -, -⟩, hf⟩ :=
      s.servoLeave_settled 3 s.integLast (-(truncDiv s.integLast 256)) (by decide) (by omega) (by omega)
    refine ⟨_, rfl, ?_⟩
    rw [State.servoHoldover_eq h]
    generalize s.servoLeave 3 s.integLast (-(truncDiv s.integLast 256)) = v at hs ha hi hp ho hf ⊢
    generalize wordOfInt (-(truncDiv s.integLast 256)) = w
    have hr : ∀ a, 0x200000 ≤ a → (v.raise 66 w).reg a = v.reg a := fun a ha => v.reg_raise w (by decide) (eventReg_high a ha)
    have ht := (v.raise_frame 66 w (by decide)).time_eq (by simp)
    refine ⟨(State.servo_congr (hr _ (by decide))).trans hs, (State.adj_congr (hr _ (by decide))).trans ha, ?_, ?_, ?_,
      v.raise_shown 66 w (by decide) ((hf.silent_eq (by simp)).trans hq), ?_⟩
    · rw [ht]; exact hp
    · rw [ht]; exact hi
    · rw [ht]; exact ho
    · refine Frame.raise (hf.toEv.widen (fun a ha => ?_) (by simp)) (AllowsEvents.ev _ _) 66 w (by decide)
      simp only [resultRegs, Bool.or_eq_true] at ha
      rcases ha with h | h | h <;> simp [h]
  case steady =>
    intro s h1 h2
    have he : s.servoHoldover = s := by rw [State.servoHoldover, if_neg (by tauto)]
    exact congrArg Host.Outcome.next he

end

section
/-! SUPPORT. Wide registers: what a read of word 0 latches, and what a write of word 0 puts into force (R33-R38). -/

namespace Sys2Proof.Machine

variable {R : Nat → Bool} {P : List Part} {s t : State}

/-! ### Reads -/

theorem wideKey_inj (m : RegMaster) (a b : Nat) : wideKey m a = wideKey m b ↔ a = b := by
  unfold wideKey
  omega

/-- The keys of two masters are apart. -/
theorem wideKey_ne {m m' : RegMaster} {a b : Nat} (h : RegMaster.key m' ≠ RegMaster.key m) (ha : a < 2 ^ 32)
    (hb : b < 2 ^ 32) : wideKey m a ≠ wideKey m' b := by
  unfold wideKey
  omega

/-- One more word of a register in a master's shadow (R35). -/
theorem State.wideLatch_succ (s : State) (m : RegMaster) (a n : Nat) : s.wideLatch m a (n + 1) =
    { s.wideLatch m a n with
      shadow := SMap.set 0 (s.wideLatch m a n).shadow (wideKey m (a + 4 * n)) ((s.wideLatch m a n).reg (a + 4 * n))
      fresh := if n = 0 then (s.wideLatch m a n).fresh
        else wideKey m (a + 4 * n) :: (s.wideLatch m a n).fresh.filter (· != wideKey m (a + 4 * n)) } := by
  rw [State.wideLatch, List.range_succ, List.foldl_append]
  rfl

theorem State.reg_wideLatch (s : State) (m : RegMaster) (a n b : Nat) : (s.wideLatch m a n).reg b = s.reg b :=
  (Frame.wideLatch (R := noRegs) (P := [.shadow, .fresh]) .refl m a n (by simp) (by simp)).1 b rfl

/-- The whole register stands in the master's shadow, and no other word of a shadow changes (R35). -/
theorem State.wideLatch_shadow (s : State) (m : RegMaster) (a n : Nat) :
    (∀ i, i < n → SMap.find 0 (s.wideLatch m a n).shadow (wideKey m (a + 4 * i)) = s.reg (a + 4 * i)) ∧
      ∀ k, (∀ i, i < n → wideKey m (a + 4 * i) ≠ k) → SMap.find 0 (s.wideLatch m a n).shadow k = SMap.find 0 s.shadow k := by
  induction n with
  | zero => exact ⟨fun i hi => absurd hi (Nat.not_lt_zero i), fun _ _ => rfl⟩
  | succ n ih =>
    obtain ⟨h1, h2⟩ := ih
    rw [State.wideLatch_succ]
    refine ⟨fun i hi => ?_, fun k hk => ?_⟩
    · rw [SMap.find_set, State.reg_wideLatch]
      by_cases he : n = i
      · rw [he, if_pos rfl]
      · rw [if_neg fun h => he (by have := (wideKey_inj m _ _).1 h; omega)]
        exact h1 i (by omega)
    · rw [SMap.find_set, if_neg (hk n (Nat.lt_succ_self n))]
      exact h2 k fun i hi => hk i (Nat.lt_succ_of_lt hi)

/-- The higher words have been latched by a fresh read of word 0 (R36). -/
theorem State.wideLatch_fresh (s : State) (m : RegMaster) (a n i : Nat) (h0 : 0 < i) (hi : i < n) :
    wideKey m (a + 4 * i) ∈ (s.wideLatch m a n).fresh := by
  induction n with
  | zero => exact absurd hi (Nat.not_lt_zero i)
  | succ n ih =>
    rw [State.wideLatch_succ]
    simp only []
    rw [if_neg (by omega), List.mem_cons, List.mem_filter, wideKey_inj]
    by_cases he : i = n
    · exact .inl (by rw [he])
    · refine .inr ⟨ih (by omega), ?_⟩
      simp only [bne_iff_ne, ne_eq, wideKey_inj]
      omega

/-- Of the wide registers only SEQ_RELEASE_FOLIO is brought up to date at a read. -/
theorem State.refresh_wide {a : Nat} {r : RegRow} (hr : regRow a = some r) (hw : 1 < r.words) :
    s.refresh a = if a = Reg.SEQ_RELEASE_FOLIO then s.setReg64 a s.releaseFolio else s := by
  have hrow : ∀ b ∈ [Reg.CLAUSE_GEN, Reg.MIX_RCTRL, Reg.MIX_LAT, Reg.HADC_STATUS],
      (regRow b).all (fun r => decide (r.words ≤ 1)) = true := by decide +kernel
  have hne : ∀ b ∈ [Reg.CLAUSE_GEN, Reg.MIX_RCTRL, Reg.MIX_LAT, Reg.HADC_STATUS], a ≠ b := by
    rintro b hb rfl
    have h := hrow a hb
    rw [hr, Option.all_some, decide_eq_true_eq] at h
    omega
  simp only [List.mem_cons, List.not_mem_nil, or_false, forall_eq_or_imp, forall_eq] at hne
  obtain ⟨h1, h2, h3, h4⟩ := hne
  rw [State.refresh, if_neg (by tauto), if_neg h3, if_neg h4]

theorem Frame.answer (h : Frame R P s t) (w : Word) (hP : Part.host ∈ P) : Frame R P s (t.answer w) := h.host hP _ rfl rfl

/-! ### Writes -/

/-- Words written one after the other, each to the next address. -/
def State.writeRws (s : State) (a n : Nat) (w : Nat → Word) : State :=
  (List.range n).foldl (fun s i => s.writeRw (a + 4 * i) (w i)) s

theorem Frame.writeRws (h : Frame R P s t) (a n : Nat) (w : Nat → Word) (hR : ∀ i, i < n → R (a + 4 * i) = true) :
    Frame R P s (t.writeRws a n w) :=
  Frame.foldl _ _ h fun _ i hi hu => hu.writeWord _ _ (hR i (List.mem_range.1 hi))

/-- A word all of whose bits are RW holds what was written to it. -/
theorem State.reg_writeRws (s : State) (a n : Nat) (w : Nat → Word) {j : Nat} {r : RegRow} (hj : j < n)
    (hr : regRow (a + 4 * j) = some r) (h1 : r.rw = 0xFFFFFFFF) (h2 : r.w1c = 0) :
    (s.writeRws a n w).reg (a + 4 * j) = w j := by
  induction n with
  | zero => exact absurd hj (Nat.not_lt_zero j)
  | succ n ih =>
    rw [State.writeRws, List.range_succ, List.foldl_append]
    by_cases he : j = n
    · rw [← he]
      exact State.writeWord_allRw _ _ _ r hr h1 h2
    · exact (State.reg_writeWord_ne _ _ _ _ (by omega)).trans (ih (by omega))

/-- The wide registers whose write of word 0 follows the access codes of their words alone. -/
def plainWide (x : Nat) : Prop := x = Reg.TIME_ADJ ∨ ∃ n : Fin 4, x = Reg.TIME_PULSE_START n ∨ x = Reg.TIME_PULSE_PERIOD n

/-- What such a register's rows say: it is wide and writable, and every word of it is RW throughout, but for the last one of
TIME_ADJ. -/
def plainWideRows (x : Nat) : Bool := (regRow x).any fun r =>
  decide (1 < r.words) && decide (r.words ≤ 4) && decide (r.idx = 0) && wideWritable x r.words &&
    (List.range r.words).all fun i =>
    (x == Reg.TIME_ADJ && decide (3 ≤ i)) || (regRow (x + 4 * i)).any fun w => w.rw == 0xFFFFFFFF && w.w1c == 0

theorem plainWide_rows {x : Nat} (h : plainWide x) : plainWideRows x = true := by
  have h1 : plainWideRows Reg.TIME_ADJ = true := by decide +kernel
  have h2 : ∀ n : Fin 4, plainWideRows (Reg.TIME_PULSE_START n) = true := by decide +kernel
  have h3 : ∀ n : Fin 4, plainWideRows (Reg.TIME_PULSE_PERIOD n) = true := by decide +kernel
  obtain rfl | ⟨n, rfl | rfl⟩ := h
  · exact h1
  · exact h2 n
  · exact h3 n

theorem plainWide_spec {x : Nat} {r : RegRow} (h : plainWide x) (hr : regRow x = some r) :
    1 < r.words ∧ r.words ≤ 4 ∧ r.idx = 0 ∧ wideWritable x r.words = true ∧
      ∀ i, i < r.words → (x = Reg.TIME_ADJ → i < 3) → ∃ w, regRow (x + 4 * i) = some w ∧ w.rw = 0xFFFFFFFF ∧ w.w1c = 0 := by
  have hx := plainWide_rows h
  rw [plainWideRows, hr, Option.any_some] at hx
  simp only [Bool.and_eq_true, Bool.or_eq_true, decide_eq_true_eq, List.all_eq_true, List.mem_range, beq_iff_eq,
    Option.any_eq_true] at hx
  obtain ⟨⟨⟨⟨h1, h1'⟩, h2⟩, h3⟩, h4⟩ := hx
  refine ⟨h1, h1', h2, h3, fun i hi ha => ?_⟩
  obtain ⟨hadj, h5⟩ | ⟨w, hw, h5⟩ := h4 i hi
  · have := ha hadj
    omega
  · exact ⟨w, hw, h5⟩

theorem State.wideWrite_plain (s : State) (m : RegMaster) {x n : Nat} (data : Word) (h : plainWide x)
    (hw : wideWritable x n = true) : s.wideWrite m x n data =
      s.writeRws x n (fun i => if i = 0 then data else s.stagedWord m (x + 4 * i)) := by
  have hne : x ≠ Reg.TIME_INCR_NOM ∧ x ≠ Reg.TIME_SERVO_OFFSET ∧ ¬(x = Reg.SYNTH_RATIO 0 ∨ x = Reg.SYNTH_RATIO 1) := by
    clear hw
    obtain rfl | ⟨k, rfl | rfl⟩ := h
    · decide
    · revert k; decide
    · revert k; decide
  obtain ⟨h1, h2, h3⟩ := hne
  rw [State.wideWrite]
  simp only []
  rw [if_neg (by simp [hw]), if_neg h1, if_neg h2, if_neg h3]
  rfl

/-! ### Ratios of a PLL -/

theorem mergeWord_allOnes (old data : Word) : mergeWord old data 0xFFFFFFFF = data := by
  have h : (0xFFFFFFFF : Word) = BitVec.allOnes 32 := rfl
  rw [mergeWord, h, BitVec.not_allOnes, BitVec.and_zero, BitVec.zero_or, BitVec.and_allOnes]

theorem mergeWord_byte (old data : Word) : (mergeWord old data 0xFF).toNat % 256 = data.toNat % 256 := by
  have h : mergeWord old data 0xFF = Field.put ⟨0, 8⟩ old data.toNat := by
    rw [mergeWord, Field.put, Nat.shiftLeft_zero, BitVec.ofNat_toNat, BitVec.setWidth_eq]
    rfl
  rw [h]
  exact Field.get_put ⟨0, 8⟩ old data.toNat (by decide)

/-- The rows of a ratio, and the one PLL that its words belong to. -/
theorem ratio_rows : ∀ n : Fin 2,
    regRow (Reg.SYNTH_RATIO n) = some ⟨0x300108, 2, 0x100, 1, 0x100, 1964002645, 0, 0, 0, 0xFFFFFFFF, 0, 0, 2⟩ ∧
      shBits (Reg.SYNTH_RATIO n) = 0xFFFFFFFF ∧ shBits (Reg.SYNTH_RATIO n + 4) = 0xFF ∧
      wideWritable (Reg.SYNTH_RATIO n) 2 = true ∧ Reg.SYNTH_RATIO n ≠ Reg.TIME_INCR_NOM ∧
      Reg.SYNTH_RATIO n ≠ Reg.TIME_SERVO_OFFSET ∧
      (Reg.SYNTH_RATIO n = Reg.SYNTH_RATIO 0 ∨ Reg.SYNTH_RATIO n = Reg.SYNTH_RATIO 1) ∧ synthPlls (Reg.SYNTH_RATIO n) = [n.val] ∧
      synthPlls (Reg.SYNTH_RATIO n + 4) = [n.val] := by decide +kernel

theorem State.synthDirect_free {a x : Nat} (hp : synthPlls a = [x]) (h : x ∉ s.heldPlls) (data : Word) :
    s.synthDirect a data = s.synthStage a (mergeWord (s.stagedOr a) data (shBits a)) := by
  rw [State.synthDirect, if_neg]
  simpa [hp] using h

theorem State.heldPlls_synthStage (s : State) (a : Nat) (w : Word) : (s.synthStage a w).heldPlls = s.heldPlls := rfl

theorem State.stagedOr_synthStage (s : State) (a b : Nat) (w : Word) :
    (s.synthStage a w).stagedOr b = if a = b then w else s.stagedOr b := SMap.find_put _ _ _ _ _

theorem Frame.synthStage (h : Frame R P s t) (a : Nat) (w : Word) (hP : Part.synth ∈ P) :
    Frame R P s (t.synthStage a w) := h.synth hP _

/-- A ratio is staged by the write of its word 0, both words together (R38, R88). -/
theorem State.wideWrite_ratio (s : State) (m : RegMaster) (n : Fin 2) (data : Word) (h : n.val ∉ s.heldPlls) :
    (s.wideWrite m (Reg.SYNTH_RATIO n) 2 data).stagedOr (Reg.SYNTH_RATIO n) = data ∧
      ((s.wideWrite m (Reg.SYNTH_RATIO n) 2 data).stagedOr (Reg.SYNTH_RATIO n + 4)).toNat % 256 =
        (s.stagedWord m (Reg.SYNTH_RATIO n + 4)).toNat % 256 ∧
      Frame noRegs [.synth] s (s.wideWrite m (Reg.SYNTH_RATIO n) 2 data) := by
  obtain ⟨-, hb0, hb1, hw, hincr, hoffset, hratio, hp0, hp1⟩ := ratio_rows n
  have he : s.wideWrite m (Reg.SYNTH_RATIO n) 2 data = (s.synthStage (Reg.SYNTH_RATIO n) data).synthStage
      (Reg.SYNTH_RATIO n + 4) (mergeWord ((s.synthStage (Reg.SYNTH_RATIO n) data).stagedOr (Reg.SYNTH_RATIO n + 4))
        (s.stagedWord m (Reg.SYNTH_RATIO n + 4)) 0xFF) := by
    rw [State.wideWrite]
    simp only []
    rw [if_neg (by simp [hw]), if_neg hincr, if_neg hoffset, if_pos hratio, State.synthDirect_free hp0 h, hb0,
      mergeWord_allOnes, State.synthDirect_free hp1 (by rwa [State.heldPlls_synthStage]), hb1]
  rw [he]
  refine ⟨?_, ?_, (Frame.refl.synthStage _ _ (by simp)).synthStage _ _ (by simp)⟩
  · rw [State.stagedOr_synthStage, if_neg (by omega), State.stagedOr_synthStage, if_pos rfl]
  · rw [State.stagedOr_synthStage, if_pos rfl, mergeWord_byte]

end Sys2Proof.Machine
end

section
/-! Wide registers. -/

open Sys2Proof Sys2Proof.Machine

namespace Sys2Proof.Machine

variable {s : State}

/-- Only the host has to wait for the release (R594). -/
theorem State.answerTo_barred {m : RegMaster} {a : Nat} (h : s.hostBarred m a = true) :
    s.answerTo m true a (some 2) = s.hostErr 2 0 true a := by
  simp only [State.hostBarred, Bool.and_eq_true, beq_iff_eq] at h
  rw [State.answerTo]
  exact if_pos h.1.1

end Sys2Proof.Machine

/-- Settles O47: reads by what the shadow and its fresh words hold, writes by what the staging and the registers take. -/
theorem wideRegisters : Obligations.WideRegisters := by
  refine ⟨?word0, ?high, ?stale, ?stage, ?barred, ?write, ?ratio⟩
  case word0 =>
    intro m addr s r hr hw hi
    have he : exec (.wideReadWord0 m addr) s = .next ((((s.refresh addr.toNat).wideLatch m addr.toNat r.words).answer
        ((s.refresh addr.toNat).reg addr.toNat)).holdTags 1) := by
      show execWideReadWord0 m addr s = _
      rw [execWideReadWord0, hr]
      exact if_pos ⟨hw, hi⟩
    have hu := State.refresh_wide (s := s) hr hw
    have hshadow : (s.refresh addr.toNat).shadow = s.shadow := by
      rw [hu]
      split
      · simp
      · rfl
    obtain ⟨h1, h2⟩ := (s.refresh addr.toNat).wideLatch_shadow m addr.toNat r.words
    refine ⟨_, he, rfl, h1, (s.refresh addr.toNat).wideLatch_fresh m addr.toNat r.words, fun m' b hm hb ha => ?_, fun hne => ?_⟩
    · rw [← hshadow]
      exact h2 _ fun i hi => wideKey_ne hm (by omega) hb
    · rw [hu, if_neg hne]
      exact ((Frame.refl.wideLatch m _ _ (by simp) (by simp)).answer _ (by simp)).holdTags 1 (by simp)
  case high =>
    intro m addr s r hr hi hk
    have hh : s.wideHigh m addr.toNat = (SMap.find 0 s.shadow (wideKey m addr.toNat),
        { s with fresh := s.fresh.filter (· != wideKey m addr.toNat) }) := by
      rw [State.wideHigh]
      exact if_pos (by simpa using hk)
    have he : exec (.wideReadHigh m addr) s = .next (((s.wideHigh m addr.toNat).2.answer
        (s.wideHigh m addr.toNat).1).holdTags 1) := by
      show execWideReadHigh m addr s = _
      rw [execWideReadHigh, hr]
      exact if_pos hi
    rw [hh] at he
    exact ⟨_, he, rfl, by simp [State.holdTags, State.answer], rfl,
      ((Frame.refl.fresh (by simp) _).answer _ (by simp)).holdTags 1 (by simp)⟩
  case stale =>
    intro m addr s r hr hi hk
    have hh : s.wideHigh m addr.toNat = (SMap.find 0 s.shadow (wideKey m addr.toNat),
        s.setRegN Reg.GLOBAL_STALE_READ (1 + addr.toNat / 4 * 4)) := by
      rw [State.wideHigh]
      exact if_neg (by simpa using hk)
    have he : exec (.wideReadHigh m addr) s = .next (((s.wideHigh m addr.toNat).2.answer
        (s.wideHigh m addr.toNat).1).holdTags 1) := by
      show execWideReadHigh m addr s = _
      rw [execWideReadHigh, hr]
      exact if_pos hi
    rw [hh] at he
    have hreg : ((((s.setRegN Reg.GLOBAL_STALE_READ (1 + addr.toNat / 4 * 4)).answer
        (SMap.find 0 s.shadow (wideKey m addr.toNat))).holdTags 1).reg Reg.GLOBAL_STALE_READ).toNat =
        1 + addr.toNat / 4 * 4 := by
      rw [State.reg_holdTags _ _ _ (by decide)]
      refine (congrArg BitVec.toNat ((State.reg_setRegN ..).trans (if_pos rfl))).trans ?_
      rw [BitVec.toNat_ofNat]
      omega
    refine ⟨_, he, rfl, ?_, ?_, ((Frame.refl.setRegN _ _ (by simp)).answer _ (by simp)).holdTags 1 (by simp)⟩
    · rw [State.bit, State.fld, Field.get, hreg, beq_iff_eq, Nat.shiftRight_zero]
      show (1 + addr.toNat / 4 * 4) % 2 = 1
      omega
    · rw [State.fld, Field.get, hreg, Nat.shiftRight_eq_div_pow]
      show (1 + addr.toNat / 4 * 4) / 4 % 1073741824 = _
      omega
  case stage =>
    intro m addr data s r hr hi hw hb
    have he : exec (.wideWriteHigh m addr data) s = .next ((s.wideStage m addr.toNat data).holdTags 1) := by
      show execWideWriteHigh m addr data s = _
      rw [execWideWriteHigh, hr]
      exact if_pos ⟨hi, hw, by simp [hb]⟩
    exact ⟨_, he, SMap.find_set_same _ _ _ _, (Frame.refl.staging (by simp) _).holdTags 1 (by simp)⟩
  case barred =>
    intro m addr data s r hr hb
    have hx : s.answerTo m true addr.toNat (if s.hostBarred m addr.toNat then some 2 else none) =
        s.hostErr 2 0 true addr.toNat := by rw [if_pos hb, State.answerTo_barred hb]
    have href := s.hostErr_refused 2 0 true addr.toNat (by decide) (by decide) addr.isLt
    constructor
    · refine ⟨_, ?_, href⟩
      show execWideWriteHigh m addr data s = _
      rw [execWideWriteHigh, hr, ← hx]
      exact if_neg (by simp [hb])
    · refine ⟨_, ?_, href⟩
      show execWideWriteWord0 m addr data s = _
      rw [execWideWriteWord0, hr, ← hx]
      exact if_neg (by simp [hb])
  case write =>
    intro m addr data s r x hr hx hax hb
    rw [hax] at hr
    obtain ⟨hw, hw4, hi, hww, hrows⟩ := plainWide_spec hx hr
    have he : exec (.wideWriteWord0 m addr data) s = .next ((s.writeRws x r.words
        (fun i => if i = 0 then data else s.stagedWord m (x + 4 * i))).holdTags 1) := by
      show execWideWriteWord0 m addr data s = _
      rw [execWideWriteWord0, hax, hr, ← s.wideWrite_plain m data hx hww]
      exact if_pos ⟨hw, hi, by rw [hax] at hb; simp [hb]⟩
    have hlo : x < 0x300000 := by
      unfold Reg.TIME_ADJ Reg.TIME_PULSE_START Reg.TIME_PULSE_PERIOD at hx
      obtain rfl | ⟨n, rfl | rfl⟩ := hx <;> omega
    have hword : ∀ i, i < r.words → (x = Reg.TIME_ADJ → i < 3) → (((s.writeRws x r.words
        (fun i => if i = 0 then data else s.stagedWord m (x + 4 * i))).holdTags 1).reg (x + 4 * i)) =
        if i = 0 then data else s.stagedWord m (x + 4 * i) := fun i hi ha => by
      obtain ⟨w, h1, h2, h3⟩ := hrows i hi ha
      rw [State.reg_holdTags _ _ _ (by unfold Reg.XBAR_INFLIGHT; omega), State.reg_writeRws s x _ _ hi h1 h2 h3]
    refine ⟨_, he, hword 0 (by omega) (by omega), fun i h0 hi ha => (hword i hi ha).trans (if_neg (by omega)), ?_⟩
    exact (Frame.refl.writeRws x r.words _ fun i hi => by simp [inRange]; omega).holdTags 1 (by simp)
  case ratio =>
    intro m n data s hb hn
    have ha : (BitVec.ofNat 32 (Reg.SYNTH_RATIO n)).toNat = Reg.SYNTH_RATIO n := by
      rw [BitVec.toNat_ofNat, Nat.mod_eq_of_lt]; unfold Reg.SYNTH_RATIO; omega
    have he : exec (.wideWriteWord0 m (BitVec.ofNat 32 (Reg.SYNTH_RATIO n)) data) s =
        .next ((s.wideWrite m (Reg.SYNTH_RATIO n) 2 data).holdTags 1) := by
      show execWideWriteWord0 m _ data s = _
      rw [execWideWriteWord0, ha, (ratio_rows n).1]
      exact if_pos ⟨by decide, rfl, by simp [hb]⟩
    obtain ⟨h1, h2, hf⟩ := s.wideWrite_ratio m n data hn
    have hs : ∀ i, i < 8 → ((s.wideWrite m (Reg.SYNTH_RATIO n) 2 data).holdTags 1).stagedOr (Reg.SYNTH_RATIO n + i) =
        (s.wideWrite m (Reg.SYNTH_RATIO n) 2 data).stagedOr (Reg.SYNTH_RATIO n + i) := fun i hi => by
      rw [State.stagedOr, State.reg_holdTags _ _ _ (by unfold Reg.SYNTH_RATIO Reg.XBAR_INFLIGHT; omega)]
      rfl
    exact ⟨_, he, (hs 0 (by decide)).trans h1, by rw [hs 4 (by decide)]; exact h2,
      (hf.mono (fun _ h => Bool.noConfusion h) (by simp)).holdTags 1 (by simp)⟩

end

section
/-! SUPPORT. The push of the first host event record, and the stop of audio (R56, R67, R70, R199). -/

namespace Sys2Proof.Machine

variable {R : Nat → Bool} {P : List Part} {s t : State}

theorem EventRec.length_bytes (r : EventRec) (seq : BitVec 16) : (r.bytes seq).length = 16 := by
  simp [EventRec.bytes, length_leBytes]

/-- The first record leaves the list, and the count advances (R70). -/
def State.recordTaken (s : State) (rest : List EventRec) : State :=
  { s with time := { s.time with records := rest, evSeq := s.time.evSeq + 1 } }

theorem State.recordTaken_leaves (s : State) (rest : List EventRec) :
    Frame noRegs [.events, .time] s (s.recordTaken rest) := by
  have hf : Frame noRegs [.events, .time] s { s with time := { s.time with records := rest } } :=
    Frame.records .refl (by simp) rest
  exact hf.time (by simp) _ rfl

theorem State.eventRecordPush_due {r : EventRec} {l : List EventRec} (h : sortBy recordBefore s.time.records = r :: l)
    (hd : s.recordDue r = true) :
    s.eventRecordPush = ((s.recordTaken l).hwPush r.quire (r.bytes s.time.evSeq)).2 := by
  rw [State.eventRecordPush, h]
  exact if_pos hd

theorem State.eventRecordPush_early {r : EventRec} {l : List EventRec} (h : sortBy recordBefore s.time.records = r :: l)
    (hd : s.recordDue r = false) : s.eventRecordPush = s := by
  rw [State.eventRecordPush, h]
  exact if_neg (by simp [hd])

/-! ### The stop of audio -/

theorem Frame.setSeqState (h : Frame R P s t) (n : Nat) (hR : R Reg.SEQ_STATUS = true) : Frame R P s (t.setSeqState n) :=
  h.setFld _ _ _ hR

theorem Frame.foldAllFlips (h : Frame R P s t) (hP : Part.seq ∈ P) : Frame R P s t.foldAllFlips := h.seq hP _

theorem State.seqState_setSeqState (s : State) (n : Nat) (hn : n < 4) : (s.setSeqState n).seqState = n :=
  (State.fld_setFld_same s _ _ n (by decide)).trans (Nat.mod_eq_of_lt hn)

theorem Frame.seqStop (h : Frame R P s t) (hP : Part.seq ∈ P) (hR : R Reg.SEQ_STATUS = true) : Frame R P s t.seqStop := by
  unfold State.seqStop
  split
  · exact .ite ((h.setSeqState 0 hR).foldAllFlips hP) (h.setSeqState 3 hR)
  · exact .ite (h.seq hP _) h

/-- A sequencer that runs goes on to STOPPING, or to OFF where no folio is left (R199). -/
theorem State.seqStop_running (s : State) (h : s.seqState = 2) :
    (s.seq.info ≠ [] → s.seqStop.seqState = 3) ∧ (s.seq.info = [] → s.seqStop.seqState = 0) := by
  rw [State.seqStop, if_pos h]
  refine ⟨fun hi => ?_, fun hi => ?_⟩
  · rw [if_neg (by simpa using hi)]
    exact State.seqState_setSeqState s 3 (by decide)
  · rw [if_pos (by simp [hi])]
    exact State.seqState_setSeqState s 0 (by decide)

theorem State.audioStop_leaves (h1 : s.audio = true) (h2 : s.time.stopAsked = true) : s.audioStop.audio = false ∧
    s.audioStop.time.stopAsked = false ∧ s.audioStop.seqState = s.seqState ∧ s.audioStop.seq = s.seq ∧
    Frame (fun a => a == Reg.TIME_STATUS) [.time] s s.audioStop := by
  have he : s.audioStop = State.setBit { s with time := { s.time with stopAsked := false } } Reg.TIME_STATUS
      Fld.TIME_STATUS_AUDIO_ACTIVE false := if_pos (by rw [h1, h2]; rfl)
  have hf : Frame (fun a => a == Reg.TIME_STATUS) [.time] s { s with time := { s.time with stopAsked := false } } :=
    Frame.time .refl (by simp) _ rfl
  rw [he]
  exact ⟨State.bit_setBit_same _ _ _ _ (by decide) rfl, rfl, State.fld_setReg_ne _ _ _ _ _ (by decide), rfl,
    hf.setBit _ _ _ (by simp)⟩

end Sys2Proof.Machine
end

section
/-! SUPPORT. Steady steps: a frame under which no cause bit goes back, and TALLY falls neither silent nor awake. -/

namespace Sys2Proof.Machine

variable {R : Nat → Bool} {P : List Part} {s t u : State}

/-- From s to t only the named registers and parts change, and every event that was shown stays shown. -/
def Steady (R : Nat → Bool) (P : List Part) (s t : State) : Prop := Frame R P s t ∧ CauseLe s t

theorem isCause_of_le {a : Nat} (h : 0x200000 ≤ a) : isCause a = false := by
  simp only [isCause, List.any_eq_false, beq_iff_eq, List.mem_range, Reg.EVG_CAUSE]
  omega

theorem Steady.refl : Steady R P s s := ⟨.refl, .refl⟩

theorem Steady.trans (h : Steady R P s t) (h' : Steady R P t u) : Steady R P s u := ⟨h.1.trans h'.1, h.2.trans h'.2⟩

theorem Steady.mono {R' : Nat → Bool} {P' : List Part} (h : Steady R P s t) (hR : ∀ a, R a = true → R' a = true)
    (hP : ∀ p ∈ P, p ∈ P') : Steady R' P' s t := ⟨h.1.mono hR hP, h.2⟩

/-- A step that leaves every register and TALLY is steady where its frame holds. -/
theorem Steady.of_frame (h : Steady R P s t) (hf : Frame R P s u) (hr : u.regs = t.regs)
    (ht : u.tally.silent = t.tally.silent) : Steady R P s u := ⟨hf, h.2.of_regs hr ht⟩

theorem Steady.ite {c : Prop} [Decidable c] (h1 : Steady R P s t) (h2 : Steady R P s u) :
    Steady R P s (if c then t else u) := by
  split
  · exact h1
  · exact h2

theorem Steady.foldl {α : Type} (f : State → α → State) (l : List α) (h : Steady R P s t)
    (hf : ∀ u x, x ∈ l → Steady R P s u → Steady R P s (f u x)) : Steady R P s (l.foldl f t) := by
  induction l generalizing t with
  | nil => exact h
  | cons x l ih => exact ih (hf t x (by simp) h) (fun u y hy => hf u y (List.mem_cons_of_mem _ hy))

/-! ### Registers and events -/

theorem Steady.setReg (h : Steady R P s t) (a : Nat) (w : Word) (ha : R a = true) (hl : 0x200000 ≤ a) :
    Steady R P s (t.setReg a w) := ⟨h.1.setReg a w ha, h.2.setReg a w (isCause_of_le hl)⟩

theorem Steady.setFld (h : Steady R P s t) (a : Nat) (f : Field) (n : Nat) (ha : R a = true) (hl : 0x200000 ≤ a) :
    Steady R P s (t.setFld a f n) := h.setReg a _ ha hl

theorem Steady.setBit (h : Steady R P s t) (a : Nat) (f : Field) (b : Bool) (ha : R a = true) (hl : 0x200000 ≤ a) :
    Steady R P s (t.setBit a f b) := h.setReg a _ ha hl

theorem Steady.setRegN (h : Steady R P s t) (a n : Nat) (ha : R a = true) (hl : 0x200000 ≤ a) :
    Steady R P s (t.setRegN a n) := h.setReg a _ ha hl

theorem Steady.setReg64 (h : Steady R P s t) (a n : Nat) (ha : R a = true) (hb : R (a + 4) = true) (hl : 0x200000 ≤ a) :
    Steady R P s (t.setReg64 a n) := (h.setRegN a _ ha hl).setRegN (a + 4) _ hb (by omega)

theorem Steady.countHold (h : Steady R P s t) (a n : Nat) (ha : R a = true) (hl : 0x200000 ≤ a) :
    Steady R P s (t.countHold a n) := h.setRegN a _ ha hl

theorem Steady.raise (h : Steady R P s t) (hA : AllowsEvents R P) (src : Nat) (w3 : Word) (hs : src < 320) :
    Steady R P s (t.raise src w3) := ⟨h.1.raise hA src w3 hs, h.2.raise src w3⟩

theorem Steady.raiseN (h : Steady R P s t) (hA : AllowsEvents R P) (src w3 : Nat) (hs : src < 320) :
    Steady R P s (t.raiseN src w3) := h.raise hA src _ hs

theorem Steady.raised (h : Steady R P s t) (hE : Part.events ∈ P) (m : SMap Nat) :
    Steady R P s { t with raised := m } := h.of_frame (h.1.raised hE m) rfl rfl

theorem Steady.raiseMs (h : Steady R P s t) (hA : AllowsEvents R P) (key src w3 : Nat) (hs : src < 320) :
    Steady R P s (t.raiseMs key src w3) := by
  unfold State.raiseMs
  dsimp only
  split
  · exact h
  · exact (h.raised hA.2 _).raiseN hA src w3 hs

theorem Steady.takeFree (h : Steady R P s t) (hE : Part.events ∈ P) : Steady R P s t.takeFree.2 :=
  h.of_frame (h.1.takeFree hE) rfl rfl

end Sys2Proof.Machine
end

section
/-! SUPPORT. What the units do at the boundary of a folio (R51-R53, R244, R249, R461-R475, R516-R519). -/

namespace Sys2Proof.Machine

variable {R : Nat → Bool} {P : List Part} {s t u : State}

/-! ### Steered PLLs -/

theorem Steady.resyncAin (h : Steady R P s t) (hP : Part.ain ∈ P) (cause : Nat) : Steady R P s (t.resyncAin cause) :=
  h.of_frame (h.1.ain hP _) rfl rfl

theorem Steady.resyncAout (h : Steady R P s t) (hP : Part.aout ∈ P) : Steady R P s t.resyncAout :=
  h.of_frame (h.1.aout hP _) rfl rfl

theorem Steady.resync (h : Steady R P s t) (hI : Part.ain ∈ P) (hO : Part.aout ∈ P) (x cause : Nat) :
    Steady R P s (t.resync x cause) := by
  have h1 : Steady R P s (if t.drivesAin x then t.resyncAin cause else t) := .ite (h.resyncAin hI cause) h
  unfold State.resync
  exact .ite (h1.resyncAout hO) h1

theorem Steady.steerFolio (h : Steady R P s t) (x : Nat) (err : Int) (hP : Part.time ∈ P)
    (hE : R (Reg.TIME_EDGE_ERR x) = true) (hS : R (Reg.SYNTH_STEER x) = true) : Steady R P s (t.steerFolio x err) := by
  have h1 := h.setReg (Reg.TIME_EDGE_ERR x) (wordOfInt err) hE (by unfold Reg.TIME_EDGE_ERR; omega)
  unfold State.steerFolio
  split
  · extract_lets s1 _ s2
    have h2 : Steady R P s s2 := h1.of_frame (h1.1.time hP _ rfl) rfl rfl
    exact .ite h1 (h2.setReg _ _ hS (by unfold Reg.SYNTH_STEER; omega))
  · exact h

theorem Steady.edgeCompare (h : Steady R P s t) (hA : AllowsEvents R P) (x : Fin 2) (err : Word) (hP : Part.time ∈ P)
    (hI : Part.ain ∈ P) (hO : Part.aout ∈ P) (hE : R (Reg.TIME_EDGE_ERR x) = true) (hS : R (Reg.SYNTH_STEER x) = true) :
    Steady R P s (t.edgeCompare x err) := by
  have h1 := h.steerFolio x err.toInt hP hE hS
  unfold State.edgeCompare
  exact .ite ((h1.raise hA _ _ (by omega)).resync hI hO x 1) h1

/-! ### Track records -/

theorem inRange_iff {lo hi a : Nat} : inRange lo hi a = true ↔ lo ≤ a ∧ a < hi := by
  rw [inRange, Bool.and_eq_true, decide_eq_true_eq, decide_eq_true_eq]

/-- The registers of the converter's channels. -/
def srcRegs (a : Nat) : Bool := inRange Reg.SRC_LOCKED 0x5200500 a

theorem srcRegs_state {n : Nat} (h : n < 64) : srcRegs (Reg.SRC_CH_STATE n) = true := by
  rw [srcRegs, inRange_iff]
  unfold Reg.SRC_LOCKED Reg.SRC_CH_STATE
  omega

theorem srcRegs_ratio {n : Nat} (h : n < 64) : srcRegs (Reg.SRC_CH_RATIO n) = true := by
  rw [srcRegs, inRange_iff]
  unfold Reg.SRC_LOCKED Reg.SRC_CH_RATIO
  omega

theorem Steady.setSrcCh (h : Steady R P s t) (hP : Part.src ∈ P) (n : Nat) (c : SrcCh) : Steady R P s (t.setSrcCh n c) :=
  h.of_frame (h.1.src hP _) rfl rfl

theorem Steady.setFeltOut (h : Steady R P s t) (hP : Part.redun ∈ P) (l : List (List Byte)) :
    Steady R P s (t.setFeltOut l) := h.of_frame (h.1.redun hP _) rfl rfl

theorem Steady.trackTake (h : Steady R P s t) (hA : AllowsEvents R P) (hP : Part.src ∈ P) (m n : Nat) :
    Steady R P s (t.trackTake m n) := by
  unfold State.trackTake
  dsimp only
  split
  · exact h.setSrcCh hP _ _
  · exact h.raiseN hA 236 _ (by decide)

theorem Steady.feltTrackSend (h : Steady R P s t) (hP : Part.redun ∈ P) (n m : Nat) :
    Steady R P s (t.feltTrackSend n m) := by
  unfold State.feltTrackSend
  split
  · split
    · exact h
    · exact h.setFeltOut hP _
  · exact h

theorem Steady.setSrcState (h : Steady R P s t) (hR : ∀ a, srcRegs a = true → R a = true) {n : Nat} (hn : n < 64)
    (st : Nat) : Steady R P s (t.setSrcState n st) := by
  unfold State.setSrcState
  refine Steady.setReg64 (h.setFld _ _ _ (hR _ ?_) ?_) _ _ (hR _ (by decide)) (hR _ (by decide)) (by decide)
  · exact srcRegs_state hn
  · unfold Reg.SRC_CH_STATE
    omega

theorem Steady.srcLock (h : Steady R P s t) (hA : AllowsEvents R P) (hP : Part.src ∈ P)
    (hR : ∀ a, srcRegs a = true → R a = true) {n : Nat} (hn : n < 64) (m : Nat) : Steady R P s (t.srcLock n m) :=
  ((h.setSrcCh hP _ _).setSrcState hR hn 2).raiseN hA 232 _ (by decide)

theorem Steady.srcUnlock (h : Steady R P s t) (hA : AllowsEvents R P) (hP : Part.src ∈ P)
    (hR : ∀ a, srcRegs a = true → R a = true) {n : Nat} (hn : n < 64) (m : Nat) : Steady R P s (t.srcUnlock n m) :=
  ((h.setSrcCh hP _ _).setSrcState hR hn 1).raiseN hA 233 _ (by decide)

theorem Steady.srcRecord (h : Steady R P s t) (hA : AllowsEvents R P) (hP : Part.src ∈ P)
    (hR : ∀ a, srcRegs a = true → R a = true) {n : Nat} (hn : n < 64) (m : Nat) : Steady R P s (t.srcRecord n m) := by
  have hst : R (Reg.SRC_CH_STATE n) = true := hR _ (srcRegs_state hn)
  have hra : R (Reg.SRC_CH_RATIO n) = true := hR _ (srcRegs_ratio hn)
  have hls : 0x200000 ≤ Reg.SRC_CH_STATE n := by unfold Reg.SRC_CH_STATE; omega
  have hlr : 0x200000 ≤ Reg.SRC_CH_RATIO n := by unfold Reg.SRC_CH_RATIO; omega
  unfold State.srcRecord
  extract_lets c st
  split
  · split
    · exact h
    · extract_lets d near run shown drift s1 s2 s3
      have h3 : Steady R P s s3 := (((h.setSrcCh hP _ _).setRegN _ _ hra hlr).setFld _ _ _ hst hls).setFld _ _ _ hst hls
      exact .ite (.ite (h3.srcLock hA hP hR hn m) h3) (.ite (h3.srcUnlock hA hP hR hn m) h3)
  · exact h

theorem State.tracking_lt (s : State) {n : Nat} (h : n ∈ s.tracking) : n < 64 :=
  List.mem_range.1 (List.mem_filter.1 h).1

theorem Steady.trackBoundary (h : Steady R P s t) (hA : AllowsEvents R P) (hP : Part.src ∈ P) (hD : Part.redun ∈ P)
    (hR : ∀ a, srcRegs a = true → R a = true) (k : Nat) : Steady R P s (t.trackBoundary k) := by
  unfold State.trackBoundary
  refine Steady.foldl _ _ (.ite (.foldl _ _ h fun u n _ hu => hu.trackTake hA hP k n) h) fun u n hn hu => ?_
  exact (hu.srcRecord hA hP hR (State.tracking_lt _ hn) _).feltTrackSend hD _ _

/-! ### Referee frames -/

theorem Steady.sendReferee (h : Steady R P s t) (hA : AllowsEvents R P) (hP : Part.stream ∈ P)
    (hR : R Reg.STREAM_NODESC = true) (type : Nat) (body : List Byte) : Steady R P s (t.sendReferee type body) := by
  unfold State.sendReferee
  refine Steady.foldl _ _ h fun u p _ hu => .ite ?_ ?_
  · exact (hu.countHold _ _ hR (by decide)).raiseMs hA _ 136 _ (by decide)
  · refine hu.of_frame (Frame.enqueue (hu.1.stream hP _) _ _ hP) ?_ ?_
    all_goals
      unfold State.enqueue
      dsimp only
      split <;> rfl

theorem Steady.redunBoundary (h : Steady R P s t) (hA : AllowsEvents R P) (hP : Part.stream ∈ P) (hD : Part.redun ∈ P)
    (hN : R Reg.STREAM_NODESC = true) (hW : R Reg.REDUN_SWAP = true) (k : Nat) : Steady R P s (t.redunBoundary k) := by
  have hred : ∀ {u : State}, Steady R P s u → ∀ x, Steady R P s { u with redun := x } :=
    fun hu x => hu.of_frame (hu.1.redun hD x) rfl rfl
  have hswap : ∀ {u : State}, Steady R P s u → Steady R P s u.swapReq := fun hu => by
    unfold State.swapReq
    exact .ite (hred (hu.sendReferee hA hP hN _ _) _) (hred hu _)
  unfold State.redunBoundary
  split
  · extract_lets r s1 s2 s3 s4
    have h1 : Steady R P s s1 := hred h _
    have h2 : Steady R P s s2 := .ite h1 (h1.setFld _ _ _ hW (by decide))
    have h3 : Steady R P s s3 := hswap (h2.sendReferee hA hP hN _ _)
    have h4 : Steady R P s s4 := .ite (hred (h3.sendReferee hA hP hN _ _) _) h3
    exact hred h4 _
  · exact h

end Sys2Proof.Machine
end

section
/-! SUPPORT. What the boundary of a folio does to steered PLLs, to the re-alignment that waits and to a calibration step
(R51-R53, R518, R519). -/

namespace Sys2Proof.Machine

variable {R : Nat → Bool} {P : List Part} {s t u : State}

/-! ### Until the converters are served -/

/-- What the converters' part of the boundary starts from: the tick and the calibration stand, and a re-alignment that waits
still waits. -/
def ConvertersWait (s t : State) : Prop := t.time.ticks = s.time.ticks ∧ t.ain.step = s.ain.step ∧ t.ain.recs = s.ain.recs ∧
  (s.aout.sync = true → t.aout.sync = true)

theorem ConvertersWait.refl : ConvertersWait s s := ⟨rfl, rfl, rfl, id⟩

theorem ConvertersWait.trans (h : ConvertersWait s t) (h' : ConvertersWait t u) : ConvertersWait s u := by
  obtain ⟨h1, h2, h3, h4⟩ := h
  obtain ⟨h1', h2', h3', h4'⟩ := h'
  exact ⟨h1'.trans h1, h2'.trans h2, h3'.trans h3, h4' ∘ h4⟩

theorem Frame.convertersWait (h : Frame R P s t) (hT : Part.time ∉ P) (hI : Part.ain ∉ P) (hO : Part.aout ∉ P) :
    ConvertersWait s t := by
  have ht : t.time = { s.time with records := t.time.records } := h.2 .time hT
  have hi : t.ain = s.ain := h.2 .ain hI
  have ho : t.aout = s.aout := h.2 .aout hO
  exact ⟨by rw [ht], by rw [hi], by rw [hi], by rw [ho]; exact id⟩

theorem State.resync_convertersWait (s : State) (x cause : Nat) : ConvertersWait s (s.resync x cause) := by
  have h1 : ConvertersWait s (if s.drivesAin x then s.resyncAin cause else s) := by
    split
    · exact ⟨rfl, rfl, rfl, id⟩
    · exact .refl
  unfold State.resync
  dsimp only
  split
  · exact h1.trans ⟨rfl, rfl, rfl, fun _ => rfl⟩
  · exact h1

theorem State.reg_resync (s : State) (x cause a : Nat) : (s.resync x cause).reg a = s.reg a := by
  unfold State.resync
  dsimp only
  split_ifs <;> rfl

theorem ConvertersWait.setReg (h : ConvertersWait s t) (a : Nat) (w : Word) : ConvertersWait s (t.setReg a w) :=
  h.trans ⟨rfl, rfl, rfl, id⟩

theorem ConvertersWait.steered (h : ConvertersWait s t) (c e : SMap Int) :
    ConvertersWait s { t with time := { t.time with servoC := c, edge := e } } := h.trans ⟨rfl, rfl, rfl, id⟩

theorem State.steerFolio_convertersWait (s : State) (x : Nat) (err : Int) : ConvertersWait s (s.steerFolio x err) := by
  have h1 := (ConvertersWait.refl (s := s)).setReg (Reg.TIME_EDGE_ERR x) (wordOfInt err)
  rw [State.steerFolio]
  split
  · dsimp only
    split
    · exact h1
    · exact (h1.steered _ _).setReg _ _
  · exact .refl

theorem State.edgeCompare_convertersWait (s : State) (x : Fin 2) (err : Word) :
    ConvertersWait s (s.edgeCompare x err) := by
  have h1 := s.steerFolio_convertersWait x err.toInt
  unfold State.edgeCompare
  dsimp only
  split
  · have hr : FrameEv noRegs [] (s.steerFolio x err.toInt) ((s.steerFolio x err.toInt).raise (82 + x) err) :=
      Frame.raise .refl (AllowsEvents.ev _ _) _ _ (by omega)
    exact (h1.trans (hr.convertersWait (by simp) (by simp) (by simp))).trans (State.resync_convertersWait _ _ _)
  · exact h1

/-! ### The edge error of a steered PLL -/

theorem State.reg_steerFolio (s : State) (x : Nat) (err : Word) (h : s.steers x = true) :
    (s.steerFolio x err.toInt).reg (Reg.TIME_EDGE_ERR x) = err := by
  have hw : wordOfInt err.toInt = err := BitVec.ofInt_toInt
  rw [State.steerFolio, if_pos h]
  dsimp only
  split
  · rw [State.reg_setReg, if_pos rfl, hw]
  · rw [State.reg_setReg_ne _ _ _ _ (by unfold Reg.SYNTH_STEER Reg.TIME_EDGE_ERR; omega)]
    exact (State.reg_setReg _ _ _ _).trans ((if_pos rfl).trans hw)

/-- The error is shown, and beyond 20 ns a slip is reported (R51, R53). -/
theorem State.edgeCompare_steered (s : State) (x : Fin 2) (err : Word) (h : s.steers x = true) :
    (s.edgeCompare x err).reg (Reg.TIME_EDGE_ERR x) = err ∧
      (5120 < err.toInt.natAbs → s.tally.silent = false → (s.edgeCompare x err).shown (82 + x)) := by
  have he := s.reg_steerFolio x err h
  by_cases hb : 5120 < err.toInt.natAbs
  · have hc : s.edgeCompare x err = ((s.steerFolio x err.toInt).raise (82 + x) err).resync x 1 := if_pos ⟨h, hb⟩
    have hs : (s.steerFolio x err.toInt).tally.silent = s.tally.silent := by
      exact (Steady.refl (R := fun _ => true) (P := [.time])).steerFolio x _ (by simp) rfl rfl |>.2.2
    rw [hc, State.reg_resync, State.reg_raise _ _ (by omega) (by unfold Reg.TIME_EDGE_ERR; exact eventReg_high _ (by omega))]
    refine ⟨he, fun _ hq => ?_⟩
    rw [State.shown, State.reg_resync]
    exact State.raise_shown _ _ _ (by omega) (by rw [hs, hq])
  · have hc : s.edgeCompare x err = s.steerFolio x err.toInt := if_neg fun hx => hb hx.2
    rw [hc]
    exact ⟨he, fun hx => absurd hx hb⟩

/-! ### The analogue outputs -/

/-- The line and headphone outputs that are in ON ramp (R518). -/
def State.outRamps (s : State) (up : Bool) (l : List Nat) : State :=
  l.foldl (fun s o => if s.outState o = 2 then s.outRamp o up else s) s

theorem State.aoutBoundary_eq (s : State) : s.aoutBoundary = if s.aout.sync then
    State.outRamps { s with aout := { s.aout with sync := false, realign := some s.time.ticks } } false (List.range 12)
    else match s.aout.realign with
      | none => s
      | some r => if r ≠ s.time.ticks then State.outRamps { s with aout := { s.aout with realign := none } } true (List.range 12)
        else s := rfl

/-- Ramps change neither the re-alignment nor anything beyond the outputs. -/
theorem State.outRamps_leave (s : State) (up : Bool) (l : List Nat) : (s.outRamps up l).aout.sync = s.aout.sync ∧
    (s.outRamps up l).aout.realign = s.aout.realign ∧ Steady noRegs [.aout] s (s.outRamps up l) := by
  induction l generalizing s with
  | nil => exact ⟨rfl, rfl, .refl⟩
  | cons o l ih =>
    rw [State.outRamps, List.foldl_cons, ← State.outRamps]
    split
    · obtain ⟨h1, h2, h3⟩ := ih (s.outRamp o up)
      exact ⟨h1, h2, (Steady.refl.of_frame (.aout .refl (by simp) _) rfl rfl).trans h3⟩
    · exact ih s

theorem Steady.aout (h : Steady R P s t) (hP : Part.aout ∈ P) (x : AoutSt) : Steady R P s { t with aout := x } :=
  h.of_frame (h.1.aout hP x) rfl rfl

theorem State.aoutBoundary_steady (s : State) : Steady noRegs [.aout] s s.aoutBoundary := by
  rw [State.aoutBoundary_eq]
  split
  · exact (Steady.refl.aout (by simp) _).trans (State.outRamps_leave _ _ _).2.2
  · split
    · exact .refl
    · exact .ite ((Steady.refl.aout (by simp) _).trans (State.outRamps_leave _ _ _).2.2) .refl

/-- The re-alignment that waits begins (R518). -/
theorem State.aoutBoundary_sync (s : State) (h : s.aout.sync = true) :
    s.aoutBoundary.aout.sync = false ∧ s.aoutBoundary.aout.realign = some s.time.ticks := by
  rw [State.aoutBoundary_eq, if_pos h]
  generalize hl : List.range 12 = l
  have hr := State.outRamps_leave { s with aout := { s.aout with sync := false, realign := some s.time.ticks } } false l
  exact ⟨hr.1, hr.2.1⟩

/-! ### The analogue inputs -/

/-- The registers of the input channels. -/
def ainRegs (a : Nat) : Bool := decide (Reg.AIN_CH_STATE 0 ≤ a)

theorem ainRegs_of_le {a : Nat} (h : 0x6000108 ≤ a) : ainRegs a = true := by
  rw [ainRegs, decide_eq_true_eq]
  exact h

theorem Steady.setAinCal (h : Steady R P s t) (hR : ∀ a, ainRegs a = true → R a = true) (c st : Nat) :
    Steady R P s (t.setAinCal c st) := by
  refine h.setFld _ _ _ (hR _ (ainRegs_of_le ?_)) ?_
  all_goals
    unfold Reg.AIN_CH_STATE
    omega

theorem Steady.ainStale (h : Steady R P s t) (hA : AllowsEvents R P) (hR : ∀ a, ainRegs a = true → R a = true) (c : Nat)
    (r : CalRec) : Steady R P s (t.ainStale c r) := by
  unfold State.ainStale
  extract_lets temp cls s1 b
  have h1 : Steady R P s s1 := .ite (h.takeFree hA.2) h
  exact (h1.setAinCal hR c 2).raiseN hA 257 _ (by decide)

theorem Steady.showCal (h : Steady R P s t) (hR : ∀ a, ainRegs a = true → R a = true) (c : Nat) (r : CalRec) :
    Steady R P s (t.showCal (Reg.AIN_CH_CAL0 c) r) := by
  have hl : 0x6000108 ≤ Reg.AIN_CH_CAL0 c := by unfold Reg.AIN_CH_CAL0; omega
  have hx : ∀ i, R (Reg.AIN_CH_CAL0 c + i) = true := fun i => hR _ (ainRegs_of_le (by omega))
  exact (((h.setRegN _ _ (hx 0) (by omega)).setReg _ _ (hx 4) (by omega)).setReg _ _ (hx 8) (by omega)).setRegN _ _ (hx 12)
    (by omega)

theorem Steady.ainServe (h : Steady R P s t) (hA : AllowsEvents R P) (hR : ∀ a, ainRegs a = true → R a = true)
    (c m : Nat) : Steady R P s (t.ainServe c m) := by
  have hl : 0x6000108 ≤ Reg.AIN_CH_CAL0 c := by unfold Reg.AIN_CH_CAL0; omega
  have hc : 0x6000108 ≤ Reg.AIN_CH_STATE c := by unfold Reg.AIN_CH_STATE; omega
  unfold State.ainServe
  extract_lets s1
  have h1 : Steady R P s s1 := h.setFld _ _ _ (hR _ (ainRegs_of_le hc)) (by omega)
  split
  · exact h1
  · next r _ =>
    extract_lets s2
    have h2 : Steady R P s s2 := (h1.showCal hR c r).setReg _ _ (hR _ (ainRegs_of_le (by omega))) (by omega)
    exact .ite (h2.setAinCal hR c 1) (.ite h2 (h2.ainStale hA hR c r))

theorem State.ainMod_setAinCal (s : State) (c st : Nat) : (s.setAinCal c st).ainMod c = s.ainMod c :=
  State.fld_setFld_other _ _ _ _ _ _ (by decide) (.inl (by decide))

theorem State.ainMod_raiseN (s : State) (c src w3 : Nat) (hs : src < 320) : (s.raiseN src w3).ainMod c = s.ainMod c := by
  have h : (s.raiseN src w3).reg (Reg.AIN_CH_STATE c) = s.reg (Reg.AIN_CH_STATE c) :=
    State.reg_raise _ _ hs (eventReg_high _ (by unfold Reg.AIN_CH_STATE; omega))
  rw [State.ainMod, State.fld, h]
  rfl

theorem State.ainMod_ainStale (s : State) (c : Nat) (r : CalRec) : (s.ainStale c r).ainMod c = s.ainMod c := by
  unfold State.ainStale
  dsimp only
  rw [State.ainMod_raiseN _ _ _ _ (by decide), State.ainMod_setAinCal]
  split <;> rfl

theorem State.ainMod_shown (s : State) (c : Nat) (r : CalRec) :
    ((s.showCal (Reg.AIN_CH_CAL0 c) r).setReg (Reg.AIN_CH_CAL0 c + 16) r.taken).ainMod c = s.ainMod c := by
  have hne : ∀ i, Reg.AIN_CH_CAL0 c + i ≠ Reg.AIN_CH_STATE c := by
    unfold Reg.AIN_CH_CAL0 Reg.AIN_CH_STATE
    omega
  have h : ((s.showCal (Reg.AIN_CH_CAL0 c) r).setReg (Reg.AIN_CH_CAL0 c + 16) r.taken).reg (Reg.AIN_CH_STATE c) =
      s.reg (Reg.AIN_CH_STATE c) := by
    rw [State.reg_setReg_ne _ _ _ _ (hne 16), State.showCal, State.setRegN, State.reg_setReg_ne _ _ _ _ (hne 12),
      State.reg_setReg_ne _ _ _ _ (hne 8), State.reg_setReg_ne _ _ _ _ (hne 4), State.setRegN,
      State.reg_setReg_ne _ (Reg.AIN_CH_CAL0 c) _ _ (hne 0)]
  rw [State.ainMod, State.fld, h]
  rfl

/-- A channel is served by the modulator it is given (R519). -/
theorem State.ainMod_ainServe (s : State) (c m : Nat) (hm : m < 17) : (s.ainServe c m).ainMod c = m := by
  have h1 : (s.setFld (Reg.AIN_CH_STATE c) Fld.AIN_CH_STATE_MOD m).ainMod c = m :=
    (State.fld_setFld_same _ _ _ _ (by decide)).trans (Nat.mod_eq_of_lt (Nat.lt_of_lt_of_le hm (by decide)))
  unfold State.ainServe
  dsimp only
  split
  · exact h1
  · split_ifs
    · rw [State.ainMod_setAinCal, State.ainMod_shown, h1]
    · rw [State.ainMod_shown, h1]
    · rw [State.ainMod_ainStale, State.ainMod_shown, h1]

theorem Steady.ainTake (h : Steady R P s t) (hA : AllowsEvents R P) (hP : Part.ain ∈ P)
    (hR : ∀ a, ainRegs a = true → R a = true) (st : CalStep) (k : Nat) : Steady R P s (t.ainTake st k) := by
  have hu : ∀ x, Steady R P s { t with ain := x } := fun x => h.of_frame (h.1.ain hP x) rfl rfl
  exact (hu _).ainServe hA hR st.ch st.spare

theorem Steady.ainBoundary (h : Steady R P s t) (hA : AllowsEvents R P) (hP : Part.ain ∈ P)
    (hR : ∀ a, ainRegs a = true → R a = true) (k : Nat) : Steady R P s (t.ainBoundary k) := by
  unfold State.ainBoundary
  split
  · exact h
  · next st _ =>
    exact .ite h (.ite (h.ainTake hA hP hR st k) (h.of_frame (h.1.ain hP _) rfl rfl))

/-- A step that has folios left counts one down; with the last one its spare takes over (R519). -/
theorem State.ainBoundary_step (s : State) (st : CalStep) (k : Nat) (h : s.ain.step = some st) :
    (1 < st.left → (s.ainBoundary k).ain.step = some { st with left := st.left - 1 }) ∧
      (st.left = 1 → (s.ainBoundary k).ain.step =
        some { st with left := 0, first := k, old := s.chanRec st.ch, freed := s.ainMod st.ch } ∧
          (st.spare < 17 → (s.ainBoundary k).ainMod st.ch = st.spare)) := by
  have he : s.ainBoundary k = if st.left = 0 then s else if st.left = 1 then s.ainTake st k
      else { s with ain := { s.ain with step := some { st with left := st.left - 1 } } } := by
    rw [State.ainBoundary, h]
  refine ⟨fun hl => ?_, fun hl => ?_⟩
  · rw [he, if_neg (by omega), if_neg (by omega)]
  · rw [he, if_neg (by omega), if_pos hl]
    refine ⟨?_, State.ainMod_ainServe _ _ _⟩
    have hf : ∀ u : State, Steady (fun a => eventReg a || ainRegs a) [.events] u (u.ainServe st.ch st.spare) := fun u =>
      Steady.refl.ainServe (AllowsEvents.ev _ _) (fun a ha => by simp [ha]) _ _
    have hi := (hf { s with ain := { s.ain with step := some { st with
      left := 0, first := k, old := s.chanRec st.ch, freed := s.ainMod st.ch } } }).1.2 .ain (by simp)
    exact congrArg AinSt.step hi

theorem Steady.syncForce (h : Steady R P s t) (h1 : R Reg.CLAUSE_GEN = true) (h2 : R Reg.MIX_RCTRL = true) :
    Steady R P s t.syncForce := (h.setReg _ _ h1 (by decide)).setBit _ _ _ h2 (by decide)

end Sys2Proof.Machine
end

section
/-! SUPPORT. The boundary of a folio as a whole (R51-R53, R518, R519). -/

namespace Sys2Proof.Machine

variable {s : State}

/-- Both edge comparisons. -/
def State.edges (s : State) (errA errB : Word) : State := (s.edgeCompare 0 errA).edgeCompare 1 errB

/-- Everything before the converters. -/
def State.beforeConverters (s : State) (k : Nat) (errA errB : Word) : State :=
  ((s.edges errA errB).trackBoundary k).redunBoundary k

theorem State.folioBoundary_eq {k : Nat} (h : s.folio = k) (errA errB : Word) :
    s.folioBoundary k errA errB = ((s.beforeConverters k errA errB).aoutBoundary.ainBoundary k).syncForce := by
  rw [State.folioBoundary, if_pos h]
  rfl

/-- The registers of one edge comparison. -/
def edgeRegs (x a : Nat) : Bool := a == Reg.TIME_EDGE_ERR x || a == Reg.SYNTH_STEER x

/-- The registers of the track records and of the referee. -/
def folioRegs (a : Nat) : Bool := srcRegs a || a == Reg.STREAM_NODESC || a == Reg.REDUN_SWAP

/-- The registers that the boundary writes behind its edge comparisons lie from STREAM_NODESC on. -/
def lateRegs (a : Nat) : Bool := decide (Reg.STREAM_NODESC ≤ a)

theorem State.edgeCompare_steady (s : State) (x : Fin 2) (err : Word) :
    Steady (fun a => eventReg a || edgeRegs x a) [.events, .time, .ain, .aout] s (s.edgeCompare x err) :=
  Steady.refl.edgeCompare (AllowsEvents.ev _ _) x err (by simp) (by simp) (by simp) (by simp [edgeRegs])
    (by simp [edgeRegs])

theorem State.edges_steady (s : State) (errA errB : Word) :
    Steady (fun a => eventReg a || (edgeRegs 0 a || edgeRegs 1 a)) [.events, .time, .ain, .aout] s (s.edges errA errB) := by
  refine ((s.edgeCompare_steady 0 errA).mono (fun a ha => ?_) (by simp)).trans
    (((s.edgeCompare 0 errA).edgeCompare_steady 1 errB).mono (fun a ha => ?_) (by simp))
  all_goals
    rcases Bool.or_eq_true_iff.1 ha with h | h
    · simp [h]
  · exact Bool.or_eq_true_iff.2 (.inr (Bool.or_eq_true_iff.2 (.inl h)))
  · exact Bool.or_eq_true_iff.2 (.inr (Bool.or_eq_true_iff.2 (.inr h)))

/-- Each steered PLL shows its error and its slip (R51, R53). -/
theorem State.edges_steered (s : State) (errA errB : Word) (hq : s.tally.silent = false) :
    (s.steers 0 = true → (s.edges errA errB).reg (Reg.TIME_EDGE_ERR 0) = errA ∧
      (5120 < errA.toInt.natAbs → (s.edges errA errB).shown 82)) ∧
    (s.steers 1 = true → (s.edges errA errB).reg (Reg.TIME_EDGE_ERR 1) = errB ∧
      (5120 < errB.toInt.natAbs → (s.edges errA errB).shown 83)) := by
  have h0 := s.edgeCompare_steady 0 errA
  have h1 := (s.edgeCompare 0 errA).edgeCompare_steady 1 errB
  refine ⟨fun hs => ?_, fun hs => ?_⟩
  · obtain ⟨he, hsh⟩ := s.edgeCompare_steered 0 errA hs
    exact ⟨(h1.1.1 _ (by decide)).trans he, fun hb => h1.2.shown 82 (by decide) (hsh hb hq)⟩
  · have hr : (s.edgeCompare 0 errA).reg Reg.TIME_SERVO_CTRL = s.reg Reg.TIME_SERVO_CTRL := h0.1.1 _ (by decide)
    have hc : (s.edgeCompare 0 errA).steers 1 = true := by
      rw [State.steers, State.bit, State.fld, hr]
      exact hs
    obtain ⟨he, hsh⟩ := (s.edgeCompare 0 errA).edgeCompare_steered 1 errB hc
    exact ⟨he, fun hb => hsh hb (h0.2.2.trans hq)⟩

theorem State.units_steady (s : State) (k : Nat) : Steady (fun a => eventReg a || folioRegs a)
    [.events, .src, .redun, .stream] s ((s.trackBoundary k).redunBoundary k) :=
  (Steady.refl.trackBoundary (AllowsEvents.ev _ _) (by simp) (by simp) (fun a ha => by simp [folioRegs, ha]) k).redunBoundary
    (AllowsEvents.ev _ _) (by simp) (by simp) (by simp [folioRegs]) (by simp [folioRegs]) k

theorem folioRegs_late {a : Nat} (h : folioRegs a = true) : lateRegs a = true := by
  simp only [folioRegs, srcRegs, Bool.or_eq_true, inRange_iff, beq_iff_eq] at h
  unfold Reg.SRC_LOCKED Reg.REDUN_SWAP at h
  rw [lateRegs, decide_eq_true_eq]
  unfold Reg.STREAM_NODESC at h ⊢
  omega

theorem ainRegs_late {a : Nat} (h : ainRegs a = true) : lateRegs a = true := by
  rw [ainRegs, decide_eq_true_eq, Reg.AIN_CH_STATE] at h
  rw [lateRegs, decide_eq_true_eq, Reg.STREAM_NODESC]
  omega

/-- What the boundary does behind its edge comparisons. -/
theorem State.late_steady (s : State) (k : Nat) : Steady (fun a => eventReg a || lateRegs a)
    [.events, .src, .redun, .stream, .ain, .aout] s
      (((s.trackBoundary k).redunBoundary k).aoutBoundary.ainBoundary k).syncForce := by
  have hu := (s.units_steady k).mono (R' := fun a => eventReg a || lateRegs a)
    (P' := [.events, .src, .redun, .stream, .ain, .aout]) (fun a ha => by
      rcases Bool.or_eq_true_iff.1 ha with h | h
      · simp [h]
      · simp [folioRegs_late h]) (by simp)
  have ho := (State.aoutBoundary_steady ((s.trackBoundary k).redunBoundary k)).mono (R' := fun a => eventReg a || lateRegs a)
    (P' := [.events, .src, .redun, .stream, .ain, .aout]) (fun a h => Bool.noConfusion h) (by simp)
  exact ((hu.trans ho).ainBoundary (AllowsEvents.ev _ _) (by simp) (fun a ha => by simp [ainRegs_late ha]) k).syncForce
    (by decide) (by decide)

theorem State.beforeConverters_wait (s : State) (k : Nat) (errA errB : Word) :
    ConvertersWait s (s.beforeConverters k errA errB) :=
  ((s.edgeCompare_convertersWait 0 errA).trans (State.edgeCompare_convertersWait _ 1 errB)).trans
    ((State.units_steady _ k).1.convertersWait (by decide) (by decide) (by decide))

theorem State.chanRec_congr {t : State} {c : Nat} (hr : t.reg (Reg.AIN_CH_STATE c) = s.reg (Reg.AIN_CH_STATE c))
    (ha : t.ain.recs = s.ain.recs) : t.ainMod c = s.ainMod c ∧ t.chanRec c = s.chanRec c := by
  have hm : t.ainMod c = s.ainMod c := congrArg Fld.AIN_CH_STATE_MOD.get hr
  have hc : t.ainCal c = s.ainCal c := congrArg Fld.AIN_CH_STATE_CAL.get hr
  exact ⟨hm, by rw [State.chanRec, State.chanRec, hm, hc, State.ainRec, State.ainRec, ha]⟩

/-- The calibration and the channels stand until the boundary comes to the inputs. -/
theorem State.beforeConverters_ain (s : State) (k : Nat) (errA errB : Word) :
    (s.beforeConverters k errA errB).aoutBoundary.ain.step = s.ain.step ∧ ∀ c, c < 16 →
      (s.beforeConverters k errA errB).aoutBoundary.ainMod c = s.ainMod c ∧
        (s.beforeConverters k errA errB).aoutBoundary.chanRec c = s.chanRec c := by
  obtain ⟨-, hstep, hrecs, -⟩ := s.beforeConverters_wait k errA errB
  have ho := (s.beforeConverters k errA errB).aoutBoundary_steady
  have ha : (s.beforeConverters k errA errB).aoutBoundary.ain = (s.beforeConverters k errA errB).ain :=
    ho.1.2 .ain (by decide)
  refine ⟨(congrArg AinSt.step ha).trans hstep, fun c hc => State.chanRec_congr ?_ ((congrArg AinSt.recs ha).trans hrecs)⟩
  have hev : eventReg (Reg.AIN_CH_STATE c) = false := eventReg_high _ (by unfold Reg.AIN_CH_STATE; omega)
  have hed : ∀ x : Fin 2, edgeRegs x (Reg.AIN_CH_STATE c) = false := fun x => by
    simp only [edgeRegs, Bool.or_eq_false_iff, beq_eq_false_iff_ne]
    unfold Reg.AIN_CH_STATE Reg.TIME_EDGE_ERR Reg.SYNTH_STEER
    omega
  have hfo : folioRegs (Reg.AIN_CH_STATE c) = false := by
    rw [← Bool.not_eq_true]
    simp only [folioRegs, srcRegs, Bool.or_eq_true, inRange_iff, beq_iff_eq]
    unfold Reg.AIN_CH_STATE Reg.SRC_LOCKED Reg.STREAM_NODESC Reg.REDUN_SWAP
    omega
  have h1 := (s.edges_steady errA errB).1.1 (Reg.AIN_CH_STATE c)
    (Bool.or_eq_false_iff.2 ⟨hev, Bool.or_eq_false_iff.2 ⟨hed 0, hed 1⟩⟩)
  have h2 := ((s.edges errA errB).units_steady k).1.1 (Reg.AIN_CH_STATE c) (Bool.or_eq_false_iff.2 ⟨hev, hfo⟩)
  exact (ho.1.1 _ rfl).trans (h2.trans h1)

/-- The calibration step at the boundary (R519). -/
theorem State.folioBoundary_ain (s : State) (k : Nat) (errA errB : Word) (h : s.folio = k) {st : CalStep}
    (hst : s.ain.step = some st) :
    (1 < st.left → (s.folioBoundary k errA errB).ain.step = some { st with left := st.left - 1 }) ∧
    (st.left = 1 → st.ch < 16 → st.spare < 17 → (s.folioBoundary k errA errB).ainMod st.ch = st.spare ∧
      (s.folioBoundary k errA errB).ain.step =
        some { st with left := 0, first := k, old := s.chanRec st.ch, freed := s.ainMod st.ch }) := by
  obtain ⟨hstep, hchan⟩ := s.beforeConverters_ain k errA errB
  obtain ⟨h1, h2⟩ := (s.beforeConverters k errA errB).aoutBoundary.ainBoundary_step st k (hstep.trans hst)
  rw [State.folioBoundary_eq h]
  refine ⟨h1, fun hl hc hs => ?_⟩
  obtain ⟨hs1, hm⟩ := h2 hl
  obtain ⟨hmod, hrec⟩ := hchan _ hc
  rw [hmod, hrec] at hs1
  refine ⟨?_, hs1⟩
  have hf : Steady (fun a => a == Reg.CLAUSE_GEN || a == Reg.MIX_RCTRL) []
      ((s.beforeConverters k errA errB).aoutBoundary.ainBoundary k)
      ((s.beforeConverters k errA errB).aoutBoundary.ainBoundary k).syncForce := Steady.refl.syncForce (by simp) (by simp)
  have hne : (Reg.AIN_CH_STATE st.ch == Reg.CLAUSE_GEN || Reg.AIN_CH_STATE st.ch == Reg.MIX_RCTRL) = false := by
    simp only [Bool.or_eq_false_iff, beq_eq_false_iff_ne]
    unfold Reg.AIN_CH_STATE Reg.CLAUSE_GEN Reg.MIX_RCTRL
    omega
  exact (congrArg Fld.AIN_CH_STATE_MOD.get (hf.1.1 _ hne)).trans (hm hs)

/-- What the boundary leaves to the converters, it has from the edge comparisons. -/
theorem State.folioBoundary_late (s : State) (k : Nat) (errA errB : Word) (h : s.folio = k) :
    Steady (fun a => eventReg a || lateRegs a) [.events, .src, .redun, .stream, .ain, .aout] (s.edges errA errB)
      (s.folioBoundary k errA errB) := by
  rw [State.folioBoundary_eq h]
  exact State.late_steady _ k

theorem State.folioBoundary_edges (s : State) (k : Nat) (errA errB : Word) (h : s.folio = k)
    (hq : s.tally.silent = false) :
    (s.steers 0 = true → (s.folioBoundary k errA errB).reg (Reg.TIME_EDGE_ERR 0) = errA ∧
      (5120 < errA.toInt.natAbs → (s.folioBoundary k errA errB).shown 82)) ∧
    (s.steers 1 = true → (s.folioBoundary k errA errB).reg (Reg.TIME_EDGE_ERR 1) = errB ∧
      (5120 < errB.toInt.natAbs → (s.folioBoundary k errA errB).shown 83)) := by
  obtain ⟨h0, h1⟩ := s.edges_steered errA errB hq
  have hl := s.folioBoundary_late k errA errB h
  refine ⟨fun hs => ?_, fun hs => ?_⟩
  · obtain ⟨he, hsh⟩ := h0 hs
    exact ⟨(hl.1.1 _ (by decide)).trans he, fun hb => hl.2.shown 82 (by decide) (hsh hb)⟩
  · obtain ⟨he, hsh⟩ := h1 hs
    exact ⟨(hl.1.1 _ (by decide)).trans he, fun hb => hl.2.shown 83 (by decide) (hsh hb)⟩

/-- The re-alignment of the outputs that waits begins (R518). -/
theorem State.folioBoundary_aout (s : State) (k : Nat) (errA errB : Word) (h : s.folio = k) (hs : s.aout.sync = true) :
    (s.folioBoundary k errA errB).aout.sync = false ∧
      (s.folioBoundary k errA errB).aout.realign = some s.time.ticks := by
  obtain ⟨hticks, -, -, hsync⟩ := s.beforeConverters_wait k errA errB
  obtain ⟨h1, h2⟩ := (s.beforeConverters k errA errB).aoutBoundary_sync (hsync hs)
  have hf : Steady (fun a => eventReg a || lateRegs a) [.events, .ain] (s.beforeConverters k errA errB).aoutBoundary
      (s.folioBoundary k errA errB) := by
    rw [State.folioBoundary_eq h]
    exact (Steady.refl.ainBoundary (AllowsEvents.ev _ _) (by simp) (fun a ha => by simp [ainRegs_late ha]) k).syncForce
      (by decide) (by decide)
  have ha : (s.folioBoundary k errA errB).aout = (s.beforeConverters k errA errB).aoutBoundary.aout :=
    hf.1.2 .aout (by decide)
  rw [ha, h1, h2, hticks]
  exact ⟨rfl, rfl⟩

/-- Sequencer, engines, memory, clauses and routes take no part in the boundary. -/
theorem State.folioBoundary_leaves (s : State) (k : Nat) (errA errB : Word) (h : s.folio = k) :
    Frame (fun _ => true) [.events, .time, .src, .redun, .stream, .ain, .aout] s (s.folioBoundary k errA errB) :=
  ((s.edges_steady errA errB).1.mono (fun _ _ => rfl) (by simp)).trans
    ((s.folioBoundary_late k errA errB h).1.mono (fun _ _ => rfl) (by simp))

end Sys2Proof.Machine
end

section
/-! SUPPORT. The start of audio: what completing a boot writes (R55, R591, R593, R598). -/

namespace Sys2Proof.Machine

variable {s t : State}

/-! ### Writes of BOOT to the ledger -/

/-- A step that is steady, writes no register of a unit, and writes memory in the ledger alone. -/
def LedgerStep (s t : State) : Prop :=
  Steady (fun a => eventReg a || noRegs a) [.events, .mem, .ecc, .boot, .sent] s t ∧
    KeepsOutside s.mem t.mem ledgerLo ledgerSize

theorem LedgerStep.refl : LedgerStep s s := ⟨.refl, fun _ _ => rfl⟩

theorem LedgerStep.of_mem (h : LedgerStep s t) {u : State}
    (hu : Steady (fun a => eventReg a || noRegs a) [.events, .mem, .ecc, .boot, .sent] t u) (hm : u.mem = t.mem) :
    LedgerStep s u := ⟨h.1.trans hu, by rw [hm]; exact h.2⟩

theorem LedgerStep.ite {c : Prop} [Decidable c] {u : State} (h1 : LedgerStep s t) (h2 : LedgerStep s u) :
    LedgerStep s (if c then t else u) := by
  split
  · exact h1
  · exact h2

theorem LedgerStep.raiseN (h : LedgerStep s t) (src w3 : Nat) (hs : src < 320) : LedgerStep s (t.raiseN src w3) := by
  have hr : Steady (fun a => eventReg a || noRegs a) [.events] t (t.raiseN src w3) :=
    Steady.refl.raiseN (AllowsEvents.ev _ _) src w3 hs
  exact h.of_mem (hr.mono (fun _ h => h) (by simp)) (hr.1.2 .mem (by simp))

theorem LedgerStep.ledgerPut (h : LedgerStep s t) (off : Nat) (bs : List Byte) (hb : off + bs.length ≤ ledgerSize) :
    LedgerStep s (t.ledgerPut off bs) := by
  refine ⟨h.1.of_frame (Frame.eccClearW (h.1.1.write (by simp) _ _) (by simp) _ _ _) rfl rfl, fun x hx => ?_⟩
  refine (Memory.write_keepsOutside t.mem (ledgerLo + off) x bs ?_).trans (h.2 x hx)
  omega

theorem length_controlBytes (ws : List Word) : (controlBytes ws).length ≤ 32 := by
  have h : ((ws.take 6).flatMap wordBytes).length = 4 * (ws.take 6).length := by
    rw [List.length_flatMap]
    simp
    omega
  have h6 : (ws.take 6).length ≤ 6 := List.length_take_le 6 ws
  rw [controlBytes]
  simp only [List.length_append, length_wordBytes, length_leBytes, h]
  omega

theorem LedgerStep.setControl (h : LedgerStep s t) (f : List Word → List Word) : LedgerStep s (t.setControl f) := by
  have hl : ∀ ws, (controlBytes ws).length ≤ 32 := length_controlBytes
  refine (h.ledgerPut 0 _ ?_).ledgerPut 0x800 _ ?_
  all_goals exact (Nat.add_le_add_left (hl _) _).trans (by decide)

theorem LedgerStep.setAttempts (h : LedgerStep s t) (slot n : Nat) : LedgerStep s (t.setAttempts slot n) := h.setControl _

theorem LedgerStep.bootRecord (h : LedgerStep s t) (slot outcome cause ms leaf : Nat) :
    LedgerStep s (t.bootRecord slot outcome cause ms leaf) := by
  unfold State.bootRecord
  extract_lets r boots secs s1 c bs s2
  have h1 : LedgerStep s s1 := .ite (h.of_mem (Steady.refl.takeFree (by simp)) rfl) h
  have hb : bs.length = 32 := by
    simp only [bs, List.length_flatMap, length_leBytes]
    rfl
  have h2 : LedgerStep s s2 := h1.ledgerPut _ _ (by
    rw [hb, ledgerSize]
    have := Nat.mod_lt boots (show 0 < 64 by decide)
    omega)
  exact .ite (h2.setControl _) h2

theorem LedgerStep.boot (h : LedgerStep s t) (x : BootSt) : LedgerStep s { t with boot := x } :=
  h.of_mem (Steady.refl.of_frame (.boot .refl (by simp) x) rfl rfl) rfl

theorem LedgerStep.sent (h : LedgerStep s t) (x : SentSt) (hx : x.ordered = t.sent.ordered) :
    LedgerStep s { t with sent := x } := h.of_mem (Steady.refl.of_frame (.sent .refl (by simp) x hx) rfl rfl) rfl

/-- The completion of a boot (R598) writes the ledger and reports. -/
theorem LedgerStep.bootDone (h : LedgerStep s t) (ms : Nat) : LedgerStep s (t.bootDone ms) := by
  unfold State.bootDone
  split
  · extract_lets _ s1 s2 s3 s4 _
    have h1 : LedgerStep s s1 := h.boot _
    have h2 : LedgerStep s s2 := (h1.raiseN 0 _ (by decide)).bootRecord _ _ _ _ _
    have h3 : LedgerStep s s3 := h2.setAttempts _ _
    have h4 : LedgerStep s s4 := .ite (h3.setControl _) h3
    clear_value s4
    have h5 : LedgerStep s { s4 with sent := { s4.sent with bySentinel := false } } := h4.sent _ rfl
    exact .ite (h5.raiseN 36 _ (by decide)) h4
  · exact h

/-! ### The start -/

theorem State.audioStart_leaves (s : State) (k : Nat) (hq : s.tally.silent = false) : (s.audioStart k).audio = true ∧
    (s.audioStart k).shown 72 ∧ FrameEv (fun a => a == Reg.TIME_STATUS) [] s (s.audioStart k) := by
  refine ⟨?_, State.raiseN_shown _ 72 k (by decide) hq, ?_⟩
  · have hr := State.reg_raise (s.setBit Reg.TIME_STATUS Fld.TIME_STATUS_AUDIO_ACTIVE true) (src := 72)
      (a := Reg.TIME_STATUS) (BitVec.ofNat 32 k) (by decide) (by decide)
    rw [State.audio, State.bit, State.fld, State.audioStart, State.raiseN, hr]
    exact State.bit_setBit_same _ _ _ _ (by decide) rfl
  · exact Frame.raiseN (Frame.refl.setBit _ _ _ (by simp)) (AllowsEvents.ev _ _) 72 k (by decide)

/-- Audio runs, the event is shown, and but for the boot record nothing else has changed (R55, R598). -/
theorem State.audioStart_bootDone (s : State) (k ms : Nat) (hq : s.tally.silent = false) :
    ((s.audioStart k).bootDone ms).audio = true ∧ ((s.audioStart k).bootDone ms).shown 72 ∧
      ((s.audioStart k).bootDone ms).seqState = s.seqState ∧
      FrameEv (fun a => a == Reg.TIME_STATUS) [.mem, .ecc, .boot, .sent] s ((s.audioStart k).bootDone ms) ∧
      KeepsOutside s.mem ((s.audioStart k).bootDone ms).mem ledgerLo ledgerSize := by
  obtain ⟨ha, hs, hf⟩ := s.audioStart_leaves k hq
  obtain ⟨⟨hg, hc⟩, hm⟩ := (LedgerStep.refl (s := s.audioStart k)).bootDone ms
  have hreg : ∀ a, eventReg a = false → ((s.audioStart k).bootDone ms).reg a = (s.audioStart k).reg a := fun a h =>
    hg.1 a (by simp [h, noRegs])
  have hmem : (s.audioStart k).mem = s.mem := hf.2 .mem (by simp)
  refine ⟨?_, hc.shown 72 (by decide) hs, ?_, ?_, hmem ▸ hm⟩
  · rw [State.audio, State.bit, State.fld, hreg _ (by decide)]
    exact ha
  · rw [State.seqState, State.fld, hreg _ (by decide), hf.reg_eq _ (by decide) (by decide)]
    rfl
  · exact (hf.widen (fun _ h => h) (by simp)).trans (hg.mono (fun a h => by simp_all [noRegs]) (by simp))

end Sys2Proof.Machine
end

section
/-! SUPPORT. Steps beside the sequencer: what the other units do at the release of a folio changes neither SEQ nor its control
and status words (R236, R243, R253, R280, R376, R468, R469). -/

namespace Sys2Proof.Machine

variable {s t u : State}

/-- Every register word but those that say in which state SEQ is and how far it runs ahead. -/
def besideSeq (a : Nat) : Bool := a != Reg.SEQ_CTRL && a != Reg.SEQ_STATUS

/-- Every part but SEQ. -/
def partsBesideSeq : List Part := [.power, .shadow, .fresh, .staging, .mem, .dram, .spare, .ecc, .time, .synth, .pe, .mix, .src,
  .clause, .stream, .xbar, .dramc, .redun, .sap, .ain, .aout, .lamp, .hadc, .sent, .boot, .host, .pending, .silent, .events]

/-- A step beside the sequencer. -/
def OffSeq (s t : State) : Prop := Frame besideSeq partsBesideSeq s t

theorem besideSeq_iff {a : Nat} : besideSeq a = true ↔ a ≠ 0x5000000 ∧ a ≠ 0x5000004 := by
  rw [besideSeq, Bool.and_eq_true, bne_iff_ne, bne_iff_ne]
  rfl

theorem offSeq_events : AllowsEvents besideSeq partsBesideSeq := by
  refine ⟨fun a ha => besideSeq_iff.2 ⟨?_, ?_⟩, by decide⟩
  all_goals
    rintro rfl
    exact absurd ha (by decide)

theorem offSeq_bus : AllowsBus besideSeq partsBesideSeq := by
  refine ⟨offSeq_events, fun a ha => besideSeq_iff.2 ⟨?_, ?_⟩⟩
  all_goals
    rintro rfl
    exact absurd ha (by decide)

theorem OffSeq.refl : OffSeq s s := Frame.refl

theorem OffSeq.ite {c : Prop} [Decidable c] (h1 : OffSeq s t) (h2 : OffSeq s u) : OffSeq s (if c then t else u) :=
  Frame.ite h1 h2

theorem OffSeq.foldl {α : Type} (f : State → α → State) (l : List α) (h : OffSeq s t)
    (hf : ∀ u x, OffSeq s u → OffSeq s (f u x)) : OffSeq s (l.foldl f t) := Frame.foldl f l h fun u x _ => hf u x

theorem OffSeq.takeFree (h : OffSeq s t) : OffSeq s t.takeFree.2 := Frame.takeFree h offSeq_events.2

theorem OffSeq.raiseN (h : OffSeq s t) (src w3 : Nat) (hs : src < 320) : OffSeq s (t.raiseN src w3) :=
  Frame.raiseN h offSeq_events src w3 hs

theorem OffSeq.raiseOnce (h : OffSeq s t) (key k src w3 : Nat) (hs : src < 320) : OffSeq s (t.raiseOnce key k src w3) :=
  Frame.raiseOnce h offSeq_events key k src w3 hs

/-! ### Accesses to vat memory -/

theorem OffSeq.vatCorr (h : OffSeq s t) (addr n : Nat) : OffSeq s (t.vatCorr addr n) := Frame.vatCorr h offSeq_bus addr n

theorem OffSeq.vatUncorr (h : OffSeq s t) (code addr : Nat) : OffSeq s (t.vatUncorr code addr) :=
  Frame.vatUncorr h offSeq_bus code addr

theorem OffSeq.holdVat (h : OffSeq s t) (addr n : Nat) : OffSeq s (t.holdVat addr n) :=
  Frame.holdTags h _ (by decide)

theorem OffSeq.unitErr (h : OffSeq s t) (code addr : Nat) (write : Bool) : OffSeq s (t.unitErr code addr write) :=
  Frame.xbarErr (Frame.holdTags h 1 (by decide)) offSeq_bus _ _ _ _

theorem OffSeq.vatLook (h : OffSeq s t) (code addr n : Nat) : OffSeq s (t.vatLook code addr n) := by
  unfold State.vatLook
  exact .ite ((h.vatCorr _ _).vatUncorr _ _) (h.vatCorr _ _)

theorem OffSeq.vatScan (h : OffSeq s t) (addr n : Nat) : OffSeq s (t.vatScan addr n) := h.takeFree.vatLook _ _ _

theorem OffSeq.unitRead (h : OffSeq s t) (code addr n : Nat) : OffSeq s (t.unitRead code addr n).2 := by
  unfold State.unitRead
  split
  · exact Frame.vatRead (h.holdVat _ _) offSeq_bus _ _ _
  · exact h.unitErr _ _ _

/-- A whole write of vat memory behind the correction of the words that it touches in part. -/
theorem OffSeq.written (h : OffSeq s t) (a w lo n : Nat) (bs : List Byte) :
    OffSeq s ((t.write a bs).eccClearW w lo n) := Frame.eccClearW (Frame.write h (by decide) _ _) (by decide) _ _ _

theorem OffSeq.vatCorrs (h : OffSeq s t) (ws : List Nat) : OffSeq s (ws.foldl (fun s w => s.vatCorr w 8) t) :=
  Frame.vatCorrs h offSeq_bus ws

theorem OffSeq.vatPut (h : OffSeq s t) (code addr : Nat) (bs : List Byte) : OffSeq s (t.vatPut code addr bs).2 := by
  unfold State.vatPut
  dsimp only
  split
  · exact Frame.xbarErr h offSeq_bus _ _ _ _
  · split
    · exact Frame.xbarErr ((h.vatCorrs _).vatUncorr _ _) offSeq_bus _ _ _ _
    · exact (h.vatCorrs _).written _ _ _ _ _

/-- Steps that hand on an answer besides the state. -/
theorem OffSeq.foldl_snd {α β : Type} (f : β × State → α → β × State) (l : List α) {r : β × State} (h : OffSeq s r.2)
    (hf : ∀ r x, OffSeq s r.2 → OffSeq s (f r x).2) : OffSeq s (l.foldl f r).2 := by
  induction l generalizing r with
  | nil => exact h
  | cons x l ih => exact ih (hf r x h)

theorem OffSeq.unitWrite (h : OffSeq s t) (code addr : Nat) (bs : List Byte) : OffSeq s (t.unitWrite code addr bs).2 := by
  unfold State.unitWrite
  split
  · exact .foldl_snd _ _ (h.holdVat _ _) fun r p hr => hr.vatPut _ _ _
  · exact h.unitErr _ _ _

theorem OffSeq.unitPut (h : OffSeq s t) (a : Nat) (bs : List Byte) : OffSeq s (t.unitPut a bs) := by
  unfold State.unitPut
  dsimp only
  split
  · split
    · exact (h.vatCorrs _).takeFree.vatUncorr _ _
    · exact (h.vatCorrs _).written _ _ _ _ _
  · exact h

/-! ### Sinks -/

theorem OffSeq.sinkSamples (h : OffSeq s t) (k sink : Nat) : OffSeq s (t.sinkSamples k sink).2 := by
  unfold State.sinkSamples
  extract_lets r zeros e base stride d s1 reads s2
  have h1 : OffSeq s s1 := h.vatLook _ _ _
  have h2 : OffSeq s s2 := .foldl _ _ h1 fun u p hu => hu.vatLook _ _ _
  split_ifs
  · exact h
  · exact h1
  · exact h1
  · exact h2
  · exact h2.takeFree

theorem OffSeq.sinkRead (h : OffSeq s t) (k sink : Nat) : OffSeq s (t.sinkRead k sink).2 := by
  unfold State.sinkRead
  dsimp only
  split
  · exact (h.sinkSamples k sink).raiseOnce _ _ 227 _ (by decide)
  · exact h.sinkSamples k sink

theorem OffSeq.readSinks (h : OffSeq s t) (k : Nat) : OffSeq s (t.readSinks k) := by
  unfold State.readSinks
  exact .foldl _ _ h fun u sink hu => Frame.mix (hu.sinkRead k sink) (by decide) _

theorem OffSeq.classdPower (h : OffSeq s t) : OffSeq s t.classdPower := by
  unfold State.classdPower
  exact .foldl _ _ h fun u k hu => Frame.aout hu (by decide) _

theorem OffSeq.srcFeedOut (h : OffSeq s t) (k : Nat) : OffSeq s (t.srcFeedOut k) := by
  unfold State.srcFeedOut
  exact .foldl _ _ h fun u n hu => .ite (Frame.src hu (by decide) _) hu

theorem OffSeq.syncRoute (h : OffSeq s t) (k : Nat) : OffSeq s (t.syncRoute k) :=
  Frame.setBit (Frame.mix h (by decide) _) _ _ _ (by decide)

/-! ### Streams -/

theorem OffSeq.countEntry (h : OffSeq s t) (i : Nat) : OffSeq s (t.countEntry i 4) := by
  refine Frame.countHold h _ _ (besideSeq_iff.2 ?_)
  unfold Reg.STREAM_ENTRY_COUNT
  omega

theorem OffSeq.txSamples (h : OffSeq s t) (k first n : Nat) : OffSeq s (t.txSamples k first n).2 := by
  induction n generalizing t first with
  | zero => exact h
  | succ n ih => exact ih (h.sinkRead k first) (first + 1)

theorem OffSeq.packOne (h : OffSeq s t) (k i : Nat) (e : StreamEntry) (bs : List Byte) (p : Nat) :
    OffSeq s (t.packOne k i e bs p) := by
  have hn : OffSeq s (t.noDesc 8) := Frame.raiseMs (Frame.countHold h _ 1 (by decide)) offSeq_events _ 136 _ (by decide)
  unfold State.packOne
  dsimp only
  split
  · exact hn.countEntry i
  · exact Frame.enqueue (Frame.stream h (by decide) _) _ _ (by decide)

theorem OffSeq.packEntry (h : OffSeq s t) (k i : Nat) : OffSeq s (t.packEntry k i) := by
  unfold State.packEntry
  extract_lets e mask ports s1 r bs
  have h1 : OffSeq s s1 := .foldl _ _ h fun u _ hu => hu.countEntry i
  split_ifs
  · exact h
  · exact h1
  · exact .foldl _ _ (h1.txSamples _ _ _) fun u p hu => hu.packOne _ _ _ _ _

theorem OffSeq.packEnqueue (h : OffSeq s t) (k : Nat) : OffSeq s (t.packEnqueue k) := by
  unfold State.packEnqueue
  exact .ite (.foldl _ _ h fun u i hu => hu.packEntry k i) h

/-! ### Felt sheets -/

theorem OffSeq.redun (h : OffSeq s t) (x : RedunSt) : OffSeq s { t with redun := x } := Frame.redun h (by decide) x

theorem OffSeq.allStates (h : OffSeq s t) (k : Nat) (ps : List Nat) : OffSeq s (t.allStates k ps).2 := by
  induction ps generalizing t with
  | nil => exact h
  | cons p ps ih => exact ih (h.unitRead 12 _ _)

theorem OffSeq.feltSheetSend (h : OffSeq s t) (k : Nat) : OffSeq s (t.feltSheetSend k) := by
  unfold State.feltSheetSend
  split
  · exact ((h.allStates k _).redun _).redun _
  · exact h

theorem OffSeq.loseSheet (h : OffSeq s t) (k : Nat) : OffSeq s (t.loseSheet k) :=
  Frame.raiseFolio (OffSeq.redun (Frame.countHold h _ 1 (by decide)) _) offSeq_events _ 301 _ (by decide)

theorem OffSeq.sheetLoss (h : OffSeq s t) (r : Nat) : OffSeq s (t.sheetLoss r) := by
  unfold State.sheetLoss
  exact OffSeq.redun (.ite (h.loseSheet _) h) _

/-! ### The mirror pass -/

theorem OffSeq.bankRec (h : OffSeq s t) (tab : Nat) (b : Bool) (r : Rec) : OffSeq s (t.bankRec tab b r) := by
  unfold State.bankRec
  exact .ite (h.unitPut _ _) (h.unitPut _ _)

theorem OffSeq.fillRec (h : OffSeq s t) (tab : Nat) (r : Rec) : OffSeq s (t.fillRec tab r) := by
  unfold State.fillRec
  split
  · exact h.bankRec _ _ _
  · exact (h.vatScan _ _).bankRec _ _ _
  · exact h.unitPut _ _
  · exact Frame.spare (OffSeq.ite h (h.vatScan _ _)) (by decide) _
  · exact h

theorem OffSeq.mirrorStart (h : OffSeq s t) (n : Nat) : OffSeq s (t.mirrorStart n) := by
  unfold State.mirrorStart
  split
  · refine Frame.clause (OffSeq.foldl _ _ h fun u o hu => ?_) (by decide) _
    exact .foldl _ _ hu fun v r hv => hv.fillRec _ r
  · exact h

theorem OffSeq.mirrorStarts (h : OffSeq s t) : OffSeq s t.mirrorStarts := by
  unfold State.mirrorStarts
  exact .foldl _ _ h fun u n hu => hu.mirrorStart n

theorem OffSeq.syncForce (h : OffSeq s t) : OffSeq s t.syncForce :=
  Frame.setBit (Frame.setReg h Reg.CLAUSE_GEN _ (by decide)) Reg.MIX_RCTRL _ _ (by decide)

/-- Between the closing of a folio and the creation of new ones no unit changes SEQ. -/
theorem State.releaseOthers_offSeq (s : State) (k : Nat) : OffSeq s (s.releaseOthers k) := by
  have h1 := (((((OffSeq.refl (s := s)).readSinks k).classdPower.srcFeedOut k).syncRoute k).packEnqueue k).feltSheetSend k
  exact (h1.sheetLoss k).syncForce.mirrorStarts

end Sys2Proof.Machine
end

section
/-! SUPPORT. What the closing and the creation of folios leave of SEQ: its state, how far it runs ahead, its next folio and the
one it released last (R169, R178-R185, R199). -/

namespace Sys2Proof.Machine

variable {s t u : State}

/-- SEQ goes on as it did: no folio is created or released. -/
def SeqStands (s t : State) : Prop := t.seqState = s.seqState ∧ t.runahead = s.runahead ∧ t.seq.next = s.seq.next ∧
  t.seq.released = s.seq.released

theorem SeqStands.refl : SeqStands s s := ⟨rfl, rfl, rfl, rfl⟩

theorem SeqStands.trans (h : SeqStands s t) (h' : SeqStands t u) : SeqStands s u := by
  obtain ⟨h1, h2, h3, h4⟩ := h
  obtain ⟨h1', h2', h3', h4'⟩ := h'
  exact ⟨h1'.trans h1, h2'.trans h2, h3'.trans h3, h4'.trans h4⟩

theorem OffSeq.seqStands (h : OffSeq s t) : SeqStands s t := by
  have hs : t.seq = s.seq := h.2 .seq (by decide)
  exact ⟨congrArg Fld.SEQ_STATUS_STATE.get (h.1 _ (by decide)),
    congrArg (fun w => max 1 (Fld.SEQ_CTRL_RUNAHEAD.get w)) (h.1 _ (by decide)), by rw [hs], by rw [hs]⟩

theorem SeqStands.off (h : SeqStands s t) (h' : OffSeq t u) : SeqStands s u := h.trans h'.seqStands

theorem SeqStands.seq (h : SeqStands s t) (x : SeqSt) (h1 : x.next = t.seq.next) (h2 : x.released = t.seq.released) :
    SeqStands s { t with seq := x } := h.trans ⟨rfl, rfl, h1, h2⟩

theorem SeqStands.ite {c : Prop} [Decidable c] (h1 : SeqStands s t) (h2 : SeqStands s u) :
    SeqStands s (if c then t else u) := by
  split
  · exact h1
  · exact h2

theorem SeqStands.foldl {α : Type} (f : State → α → State) (l : List α) (h : SeqStands s t)
    (hf : ∀ u x, SeqStands s u → SeqStands s (f u x)) : SeqStands s (l.foldl f t) := by
  induction l generalizing t with
  | nil => exact h
  | cons x l ih => exact ih (hf t x h)

/-! ### Tasks -/

theorem SeqStands.raiseN (h : SeqStands s t) (src w3 : Nat) (hs : src < 320) : SeqStands s (t.raiseN src w3) :=
  h.off (OffSeq.refl.raiseN src w3 hs)

theorem SeqStands.countHold (h : SeqStands s t) (a n : Nat) (ha : besideSeq a = true) : SeqStands s (t.countHold a n) :=
  h.off (Frame.refl.countHold a n ha)

theorem SeqStands.updTask (h : SeqStands s t) (p k : Nat) (f : Task → Task) : SeqStands s (t.updTask p k f) :=
  h.seq _ rfl rfl

theorem SeqStands.syncTasks (h : SeqStands s t) : SeqStands s t.syncTasks := by
  have hi : ∀ (u : State) f n, OffSeq u (u.setFld Reg.SEQ_INFLIGHT f n) := fun u f n => Frame.refl.setFld _ _ _ (by decide)
  have hb : ∀ (u : State) b, SeqStands u (u.setBit Reg.SEQ_STATUS Fld.SEQ_STATUS_RECOMPUTING b) := fun u b =>
    ⟨State.fld_setFld_other _ _ _ _ _ _ (by decide) (.inr (.inl (by decide))),
      congrArg (max 1) (State.fld_setReg_ne _ _ _ _ _ (by decide)), rfl, rfl⟩
  exact ((h.off (hi _ _ _)).off (hi _ _ _)).trans (hb _ _)

theorem SeqStands.noEngine (h : SeqStands s t) : SeqStands s t.noEngine := h.off (Frame.refl.noEngine offSeq_events)

theorem SeqStands.graphErr (h : SeqStands s t) (p : Nat) : SeqStands s (t.graphErr p) := h.raiseN 208 _ (by decide)

theorem SeqStands.decTask (h : SeqStands s t) (p k : Nat) : SeqStands s (t.decTask p k) := by
  unfold State.decTask
  split
  · exact h
  · exact .ite (h.graphErr p) (h.updTask _ _ _)

theorem SeqStands.succCheck (h : SeqStands s t) (k owner : Nat) (feed : Bool) (l : List Nat) :
    SeqStands s (t.succCheck k owner feed l) := by
  unfold State.succCheck
  exact .ite (h.off (OffSeq.refl.raiseOnce _ _ 208 _ (by decide))) h

theorem SeqStands.finTask (h : SeqStands s t) (p k : Nat) : SeqStands s (t.finTask p k) := by
  unfold State.finTask
  extract_lets l s1
  have h1 : SeqStands s s1 := .foldl _ _ (h.succCheck _ _ _ _) fun u q hu => hu.decTask q k
  exact .ite (h1.decTask _ _) h1

/-! ### Giving up and substituting -/

theorem OffSeq.seqCopyOut (h : OffSeq s t) (src dst n : Nat) : OffSeq s (t.seqCopyOut src dst n).2 := by
  unfold State.seqCopyOut
  split
  · exact h
  · dsimp only
    split
    · exact h.unitRead _ _ _
    · exact (h.unitRead _ _ _).unitWrite _ _ _

theorem SeqStands.substitute (h : SeqStands s t) (p k : Nat) : SeqStands s (t.substitute p k) := by
  unfold State.substitute
  extract_lets n dst start r c s1 _ s2
  have h1 : SeqStands s s1 := (h.off (OffSeq.refl.seqCopyOut _ _ _)).countHold _ _ (by decide)
  clear_value s1
  have hc : ∀ l, SeqStands s { s1 with seq := { s1.seq with copies := l } } := fun l => h1.seq _ rfl rfl
  have h2 : SeqStands s s2 := (hc _).updTask _ _ _
  exact (h2.finTask p k).syncTasks

theorem besideSeq_pe (e : Nat) : besideSeq (Reg.PE_STATUS e) = true ∧ besideSeq (Reg.PE_CYCLES e) = true ∧
    besideSeq (Reg.PE_CYCLES e + 4) = true := by
  simp only [besideSeq_iff]
  unfold Reg.PE_STATUS Reg.PE_CYCLES
  omega

theorem OffSeq.peAbort (h : OffSeq s t) (e : Nat) : OffSeq s (t.peAbort e) := by
  obtain ⟨h1, h2, h3⟩ := besideSeq_pe e
  have hu : OffSeq s (t.peUnstall e) := by
    unfold State.peUnstall
    exact .ite (Frame.pe (Frame.count64 h.takeFree _ _ h2 h3) (by decide) _) h
  unfold State.peAbort
  exact .ite (Frame.setFld hu _ _ _ h1) h

theorem OffSeq.giveUp (h : OffSeq s t) (x : Task) (counts : Bool) : OffSeq s (t.giveUp x counts) := by
  have hc : OffSeq s (t.countHold Reg.SEQ_CANCEL_COUNT 1) := Frame.countHold h _ _ (by decide)
  unfold State.giveUp
  split
  · exact .ite (h.peAbort _) h
  · exact .ite (Frame.mix h (by decide) _) (Frame.mix h (by decide) _)
  · exact .ite hc h
  · exact .ite hc h
  · exact h

theorem SeqStands.replaceTask (h : SeqStands s t) (x : Task) (counts : Bool) : SeqStands s (t.replaceTask x counts) :=
  SeqStands.substitute (h.off (OffSeq.refl.giveUp x counts)) _ _

/-! ### The closing and the release of a folio -/

theorem SeqStands.updInfo (h : SeqStands s t) (k : Nat) (f : FolioInfo → FolioInfo) : SeqStands s (t.updInfo k f) :=
  h.seq _ rfl rfl

theorem SeqStands.closeFolio (h : SeqStands s t) (k : Nat) : SeqStands s (t.closeFolio k) := by
  unfold State.closeFolio
  extract_lets l s1
  have h1 : SeqStands s s1 := .foldl _ _ (h.updInfo k _) fun u x hu => hu.replaceTask x true
  exact .ite (h.updInfo k _) ((((h1.countHold _ 1 (by decide)).off (OffSeq.refl.redun _)).raiseN 203 _ (by decide)).noEngine)

theorem OffSeq.slack (h : OffSeq s t) (k : Nat) : OffSeq s (t.slack k) := by
  have hk : ∀ {u : State}, OffSeq s u → ∀ v : Int, OffSeq s (if v < signed 32 (u.regN Reg.SEQ_SLACK_MIN) then
      u.setReg Reg.SEQ_SLACK_MIN (wordOfInt v) else u) := fun hu v => .ite (Frame.setReg hu _ _ (by decide)) hu
  unfold State.slack
  split
  · exact h
  · dsimp only
    split
    · exact hk h _
    · split
      · exact h
      · exact .ite (Frame.raise (hk h _) offSeq_events 210 _ (by decide)) (hk h _)

theorem SeqStands.cutCopies (h : SeqStands s t) (k : Nat) : SeqStands s (t.cutCopies k) := by
  unfold State.cutCopies
  extract_lets late s1 _ s2
  have h1 : SeqStands s s1 := .foldl _ _ h fun u c hu => hu.off (Frame.refl.write (by decide) _ _)
  have h2 : SeqStands s s2 := h1.seq _ rfl rfl
  exact .ite h2 (h2.off (Frame.refl.raise offSeq_events 210 _ (by decide)))

/-- A folio that is released has left SEQ with its tasks, and nothing else of SEQ has gone on (R167, R171, R198). -/
def Dropped (k : Nat) (s t : State) : Prop := t.seqState = s.seqState ∧ t.runahead = s.runahead ∧ t.seq.next = s.seq.next ∧
  t.seq.released = some k ∧ ∀ x ∈ t.seq.tasks, x.folio ≠ k

theorem State.dropFolio_dropped (s : State) (k : Nat) : Dropped k s (s.dropFolio k) := by
  have hd : ∀ u : State, u.seq.released = some k → (∀ x ∈ u.seq.tasks, x.folio ≠ k) →
      Dropped k u ((u.syncTasks.foldFlips (k + 1)).pruneGens k) := fun u hr hx => by
    obtain ⟨h1, h2, h3, h4⟩ := (SeqStands.refl (s := u)).syncTasks
    exact ⟨h1, h2, h3, h4.trans hr, hx⟩
  exact hd _ rfl fun x hx => by simpa using (List.mem_filter.1 hx).2

theorem SeqStands.handDigests (h : SeqStands s t) (k : Nat) : SeqStands s (t.handDigests k) := h.off (OffSeq.refl.redun _)

theorem SeqStands.nextSlots (h : SeqStands s t) (k : Nat) : SeqStands s (t.nextSlots k) := h.seq _ rfl rfl

theorem State.seqRelease_dropped (s : State) (k : Nat) : Dropped k s (s.seqRelease k) := by
  unfold State.seqRelease
  extract_lets s1
  have h1 : SeqStands s s1 := .ite (SeqStands.refl.closeFolio k) .refl
  obtain ⟨h1, h2, h3, -⟩ := (((h1.off (OffSeq.refl.slack k)).cutCopies k).handDigests k).nextSlots k
  obtain ⟨d1, d2, d3, d4, d5⟩ := State.dropFolio_dropped ((((s1.slack k).cutCopies k).handDigests k).nextSlots k) k
  exact ⟨d1.trans h1, d2.trans h2, d3.trans h3, d4, d5⟩

/-! ### Creation -/

theorem SeqStands.startCount (h : SeqStands s t) (p k : Nat) : SeqStands s (t.startCount p k) := by
  unfold State.startCount
  dsimp only
  exact SeqStands.updTask (.ite (h.graphErr p) h) _ _ _

theorem SeqStands.tableReads (h : SeqStands s t) : SeqStands s t.tableReads :=
  h.off (OffSeq.foldl _ _ .refl fun _ _ hu => hu.unitRead 8 _ _)

/-- A folio more, and the released one stays (R169). -/
theorem State.createFolio_next (s : State) (k : Nat) :
    (s.createFolio k).seq.next = k + 1 ∧ (s.createFolio k).seq.released = s.seq.released := by
  unfold State.createFolio
  extract_lets ps _ s1 s2 s3 s4
  have h1 : s1.seq.next = k + 1 ∧ s1.seq.released = s.seq.released :=
    have h := (SeqStands.refl (s := { s with seq := { s.seq with
      tasks := s.seq.tasks ++ ps.map (fun p => newTask p k false)
      info := s.seq.info ++ [(⟨k, none, false, false⟩ : FolioInfo)]
      next := k + 1 } })).tableReads
    h.2.2
  have h2 : SeqStands s1 s2 := .foldl _ _ .refl fun u p hu => .ite (hu.raiseN 208 _ (by decide)) hu
  have h3 : SeqStands s1 s3 := .foldl _ _ h2 fun u p hu => hu.succCheck _ _ _ _
  have h4 : SeqStands s1 s4 := .foldl _ _ h3 fun u f hu => hu.succCheck _ _ _ _
  have h5 := (SeqStands.foldl (fun s p => s.startCount p k) ps h4 fun u p hu => hu.startCount p k).syncTasks.noEngine
  obtain ⟨-, -, hn, hr⟩ := h5
  exact ⟨hn.trans h1.1, hr.trans h1.2⟩

theorem State.createFolios_next (s : State) (n : Nat) :
    (s.createFolios n).seq.next = s.seq.next + n ∧ (s.createFolios n).seq.released = s.seq.released := by
  induction n generalizing s with
  | zero => exact ⟨rfl, rfl⟩
  | succ n ih =>
    obtain ⟨h1, h2⟩ := s.createFolio_next s.seq.next
    obtain ⟨h3, h4⟩ := ih (s.createFolio s.seq.next)
    exact ⟨h3.trans (by omega), h4.trans h2⟩

/-- The end of STOPPING leaves the tasks and the released folio (R199). -/
theorem State.stopping_leaves (s : State) :
    (if s.seq.info.isEmpty then (s.setSeqState 0).foldAllFlips else s).seq.released = s.seq.released ∧
      (if s.seq.info.isEmpty then (s.setSeqState 0).foldAllFlips else s).seq.tasks = s.seq.tasks := by
  split
  · exact ⟨rfl, rfl⟩
  · exact ⟨rfl, rfl⟩

/-- The release of a folio (R167, R169, R199). -/
theorem State.folioRelease_does (s : State) (k : Nat) (h : s.releases k = true) :
    (s.folioRelease k).seq.released = some k ∧
      (s.seqState = 2 → (s.folioRelease k).seq.next = max s.seq.next (k + s.runahead + 1)) ∧
      (s.seqState = 3 → ∀ x ∈ (s.folioRelease k).seq.tasks, x.folio ≠ k) := by
  obtain ⟨d1, d2, d3, d4, d5⟩ := s.seqRelease_dropped k
  have ho := (s.seqRelease k).releaseOthers_offSeq k
  have hs : ((s.seqRelease k).releaseOthers k).seq = (s.seqRelease k).seq := ho.2 .seq (by decide)
  obtain ⟨o1, o2, o3, o4⟩ := ho.seqStands
  rw [State.folioRelease, if_pos h, State.seqGoOn]
  by_cases h2 : s.seqState = 2
  · rw [if_pos (o1.trans (d1.trans h2))]
    obtain ⟨c1, c2⟩ := ((s.seqRelease k).releaseOthers k).createFolios_next
      (k + ((s.seqRelease k).releaseOthers k).runahead + 1 - ((s.seqRelease k).releaseOthers k).seq.next)
    refine ⟨c2.trans (o4.trans d4), fun _ => ?_, fun h3 => absurd h3 (by omega)⟩
    rw [c1, o2, d2, o3, d3]
    omega
  · rw [if_neg (by rw [o1, d1]; exact h2)]
    obtain ⟨e1, e2⟩ := ((s.seqRelease k).releaseOthers k).stopping_leaves
    rw [e1, e2, o4, hs]
    exact ⟨d4, fun h => absurd h h2, fun _ => d5⟩

end Sys2Proof.Machine
end

section
/-! The instants of a folio. -/

open Sys2Proof Sys2Proof.Machine

/-- Settles O8: the boundary by what each of its units does, the release by what SEQ keeps through it, audio by the boot record
that its start may write, and a record by the push to its quire. -/
theorem folioInstants : Obligations.FolioInstants := by
  refine ⟨?boundary, ?notCurrent, ?release, ?notReleased, ?start, ?notStarted, ?stop, ?push, ?early⟩
  case boundary =>
    intro k errA errB s hk hq
    obtain ⟨hA, hB⟩ := s.folioBoundary_edges k errA errB hk hq
    have hf := s.folioBoundary_leaves k errA errB hk
    exact ⟨_, rfl, hA, hB, s.folioBoundary_aout k errA errB hk, fun st hst => (s.folioBoundary_ain k errA errB hk hst).1,
      fun st hst => (s.folioBoundary_ain k errA errB hk hst).2, hf.2 .seq (by simp), hf.2 .pe (by simp), hf.2 .mem (by simp),
      hf.2 .clause (by simp), hf.2 .mix (by simp)⟩
  case notCurrent =>
    intro k errA errB s hk
    exact congrArg Host.Outcome.next (if_neg hk)
  case release =>
    intro k s h
    exact ⟨_, rfl, s.folioRelease_does k h⟩
  case notReleased =>
    intro k s h
    exact congrArg Host.Outcome.next (if_neg (by simp [h]))
  case start =>
    intro k held ms s h hq
    obtain ⟨ha, hs, hst, hf, hm⟩ := s.audioStart_bootDone k ms hq
    have he : exec (.audioStart k held ms) s = .next (if ((s.audioStart k).bootDone ms).seqState = 1 then
        { (s.audioStart k).bootDone ms with seq := { ((s.audioStart k).bootDone ms).seq with startArmed := some k } }
        else (s.audioStart k).bootDone ms) := if_pos h
    have hseq : ((s.audioStart k).bootDone ms).seq = s.seq := hf.2 .seq (by simp)
    have hpe : ((s.audioStart k).bootDone ms).pe = s.pe := hf.2 .pe (by simp)
    have hcl : ((s.audioStart k).bootDone ms).clause = s.clause := hf.2 .clause (by simp)
    rw [hst] at he
    by_cases h1 : s.seqState = 1
    · rw [if_pos h1] at he
      exact ⟨_, he, ha, hs, fun _ => rfl, fun hn => absurd h1 hn, hm, hpe, hcl⟩
    · rw [if_neg h1] at he
      exact ⟨_, he, ha, hs, fun hn => absurd hn h1, fun _ => hseq, hm, hpe, hcl⟩
  case notStarted =>
    intro k held ms s h
    exact if_neg (by simp [h])
  case stop =>
    intro s h1 h2
    obtain ⟨ha, hs, hst, hseq, hf⟩ := State.audioStop_leaves h1 h2
    have he : exec .audioStop s = .next s.audioStop.seqStop := if_pos (by rw [h1, h2]; rfl)
    have hg : Frame (fun a => a == Reg.SEQ_STATUS) [.seq] s.audioStop s.audioStop.seqStop :=
      Frame.refl.seqStop (by simp) (by simp)
    have ht : s.audioStop.seqStop.time = { s.audioStop.time with records := s.audioStop.seqStop.time.records } :=
      hg.2 .time (by simp)
    refine ⟨_, he, ?_, ?_, fun hr hi => ?_, fun hr hi => ?_, (hf.mono (fun a h => by simp [h]) (by simp)).trans
      (hg.mono (fun a h => by simp [h]) (by simp))⟩
    · rw [State.audio, State.bit, State.fld, hg.1 _ (by decide)]
      exact ha
    · rw [ht]
      exact hs
    · exact (s.audioStop.seqStop_running (hst.trans hr)).1 (by rwa [hseq])
    · exact (s.audioStop.seqStop_running (hst.trans hr)).2 (by rwa [hseq])
  case push =>
    intro s r l hsort hdue
    have hlen := r.length_bytes s.time.evSeq
    have h0 := s.recordTaken_leaves l
    obtain ⟨hf, more, hmore⟩ := (s.recordTaken l).hwPush_leaves r.quire (r.bytes s.time.evSeq)
    have ht : ((s.recordTaken l).hwPush r.quire (r.bytes s.time.evSeq)).2.time =
        { (s.recordTaken l).time with
          records := ((s.recordTaken l).hwPush r.quire (r.bytes s.time.evSeq)).2.time.records } := hf.2 .time (by simp)
    refine ⟨_, congrArg Host.Outcome.next (State.eventRecordPush_due hsort hdue), by rw [ht]; rfl, fun hon hsz hc => ?_,
      ⟨more, hmore⟩, ?_⟩
    · rw [← hlen]
      exact (s.recordTaken l).hwPush_read r.quire _ hon (hlen.trans hsz.symm) hc
    · refine (h0.mono (fun a h => Bool.noConfusion h) (by simp)).trans (hf.mono (fun a h => ?_) (by simp))
      simpa [quireRegs, or_assoc] using h
  case early =>
    intro s r l hsort hdue
    exact congrArg Host.Outcome.next (State.eventRecordPush_early hsort hdue)

end

section
/-! SUPPORT. Two fields of one register word, bits of masks, and a register word through a raise. -/

namespace Sys2Proof.Machine

section
variable (s : State) (a : Nat) {f g : Field} (h : f.lo + f.width ≤ 32) (hd : f.lo + f.width ≤ g.lo ∨ g.lo + g.width ≤ f.lo)
include h hd

theorem State.fld_setFld_apart (n : Nat) : (s.setFld a f n).fld a g = s.fld a g :=
  s.fld_setFld_other a a f g n h (hd.imp_right .inl)

theorem State.bit_setFld_apart (n : Nat) : (s.setFld a f n).bit a g = s.bit a g := by
  rw [State.bit, s.fld_setFld_apart a h hd, State.bit]

theorem State.fld_setBit_apart (b : Bool) : (s.setBit a f b).fld a g = s.fld a g := s.fld_setFld_apart a h hd _

theorem State.bit_setBit_apart (b : Bool) : (s.setBit a f b).bit a g = s.bit a g := s.bit_setFld_apart a h hd _

end

section
variable {s t : State} {a : Nat} (h : t.reg a = s.reg a) (f : Field)
include h

theorem State.fld_congr : t.fld a f = s.fld a f := by rw [State.fld, h, State.fld]

theorem State.bit_congr : t.bit a f = s.bit a f := by rw [State.bit, State.fld_congr h, State.bit]

end

/-- A bit of a mask after one of them has been set or cleared. -/
theorem testBit_maskSet {n : Nat} (m : BitVec n) {x : Nat} (hx : x < n) (b : Bool) (i : Nat) :
    (maskSet m x b).toNat.testBit i = if x = i then b else m.toNat.testBit i := by
  have hbit : (BitVec.ofNat n (1 <<< x)).getLsbD i = decide (x = i) := by
    rw [BitVec.getLsbD_ofNat, Nat.one_shiftLeft, Nat.testBit_two_pow]
    by_cases h : x = i
    · simp [← h, hx]
    · simp [h]
  change (maskSet m x b).getLsbD i = if x = i then b else m.getLsbD i
  unfold maskSet
  cases b
  · rw [if_neg (by decide), BitVec.getLsbD_and, BitVec.getLsbD_not, hbit]
    by_cases h : x = i
    · simp [h]
    · simp only [h, decide_false, if_false, Bool.not_false, Bool.and_true]
      by_cases hi : i < n
      · simp [hi]
      · simp [BitVec.getLsbD_of_ge _ _ (Nat.le_of_not_lt hi)]
  · rw [if_pos rfl, BitVec.getLsbD_or, hbit]
    by_cases h : x = i <;> simp [h]

theorem State.reg_raiseN_high (s : State) {src a : Nat} (w3 : Nat) (hs : src < 320) (ha : 0x200000 ≤ a) :
    (s.raiseN src w3).reg a = s.reg a := s.reg_raise _ hs (eventReg_high a ha)

end Sys2Proof.Machine
end

section
/-! SUPPORT. The lock decision of a synthesis PLL: what each of its four commands leaves of SYNTH_STATUS (R94, R96, R106). -/

namespace Sys2Proof.Machine

variable {R : Nat → Bool} {P : List Part} {s t : State}

theorem synthStatus_high (x : Nat) : 0x200000 ≤ Reg.SYNTH_STATUS x := by unfold Reg.SYNTH_STATUS; omega

/-! ### LOCK_V -/

theorem State.fld_lockV (s : State) (x : Nat) (v : BitVec 8) :
    (s.lockV x v).fld (Reg.SYNTH_STATUS x) Fld.SYNTH_STATUS_LOCK_V = v.toNat :=
  (s.fld_setFld_same _ _ _ (by decide)).trans (Nat.mod_eq_of_lt v.isLt)

theorem State.bit_lockV (s : State) (x : Nat) (v : BitVec 8) {f : Field}
    (hf : 16 ≤ f.lo ∨ f.lo + f.width ≤ 8) : (s.lockV x v).bit (Reg.SYNTH_STATUS x) f = s.bit (Reg.SYNTH_STATUS x) f :=
  s.bit_setFld_apart (f := Fld.SYNTH_STATUS_LOCK_V) (g := f) _ (by decide) hf _

theorem Steady.lockV (h : Steady R P s t) (x : Nat) (v : BitVec 8) (hR : R (Reg.SYNTH_STATUS x) = true) :
    Steady R P s (t.lockV x v) := h.setFld _ _ _ hR (synthStatus_high x)

theorem Steady.synth (h : Steady R P s t) (hP : Part.synth ∈ P) (y : SynthSt) : Steady R P s { t with synth := y } :=
  h.of_frame (h.1.synth hP y) rfl rfl

/-! ### LOCK rises -/

/-- The conditions under which LOCK rises (R94, R96). -/
def State.mayLock (s : State) (x : Nat) (v : BitVec 8) : Prop :=
  1500 ≤ 16 * v.toNat ∧ s.bit (Reg.SYNTH_STATUS x) Fld.SYNTH_STATUS_LOCK = false ∧
    s.bit (Reg.SYNTH_STATUS x) Fld.SYNTH_STATUS_FILTER_ERR = false ∧ s.synth.fastLoss.toNat.testBit x = false

/-- LOCK has risen and the outputs run; SYNTH_LOCK is not raised yet. -/
def State.lockRisen (s : State) (x : Nat) (v : BitVec 8) : State :=
  let s2 := ((s.lockV x v).setBit (Reg.SYNTH_STATUS x) Fld.SYNTH_STATUS_LOCK true).setBit (Reg.SYNTH_STATUS x)
    Fld.SYNTH_STATUS_GATED false
  let s3 := if s.synth.wasLocked.toNat.testBit x then s2.resync x 2 else s2
  { s3 with synth := { s3.synth with wasLocked := maskSet s3.synth.wasLocked x true } }

theorem State.synthLock_rises {x : Nat} {v : BitVec 8} (h : s.mayLock x v) :
    s.synthLock x v = (s.lockRisen x v).raiseN (12 + x) v.toNat := by
  obtain ⟨hv, hl, hf, hs⟩ := h
  exact if_pos ⟨hv, by rw [hl]; rfl, by rw [hf]; rfl, by rw [hs]; rfl⟩

theorem State.synthLock_stays {x : Nat} {v : BitVec 8} (h : ¬s.mayLock x v) : s.synthLock x v = s.lockV x v :=
  if_neg fun ⟨hv, hl, hf, hs⟩ => h ⟨hv, by simpa using hl, by simpa using hf, by simpa using hs⟩

theorem State.reg_lockRisen (s : State) (x : Nat) (v : BitVec 8) (a : Nat) : (s.lockRisen x v).reg a =
    (((s.lockV x v).setBit (Reg.SYNTH_STATUS x) Fld.SYNTH_STATUS_LOCK true).setBit (Reg.SYNTH_STATUS x)
      Fld.SYNTH_STATUS_GATED false).reg a := by
  unfold State.lockRisen
  extract_lets s2 s3
  have h3 : s3.reg a = s2.reg a := by
    unfold s3
    split
    · exact s2.reg_resync x 2 a
    · rfl
  exact h3

theorem State.lockRisen_status (s : State) (x : Nat) (v : BitVec 8) :
    (s.lockRisen x v).bit (Reg.SYNTH_STATUS x) Fld.SYNTH_STATUS_LOCK = true ∧
      (s.lockRisen x v).bit (Reg.SYNTH_STATUS x) Fld.SYNTH_STATUS_GATED = false ∧
      (s.lockRisen x v).fld (Reg.SYNTH_STATUS x) Fld.SYNTH_STATUS_LOCK_V = v.toNat := by
  have hr := s.reg_lockRisen x v (Reg.SYNTH_STATUS x)
  refine ⟨(State.bit_congr hr _).trans ?_, (State.bit_congr hr _).trans ?_, (State.fld_congr hr _).trans ?_⟩
  · rw [State.bit_setBit_apart _ _ (by decide) (by decide), State.bit_setBit_same _ _ _ _ (by decide) rfl]
  · exact State.bit_setBit_same _ _ _ _ (by decide) rfl
  · rw [State.fld_setBit_apart _ _ (by decide) (by decide), State.fld_setBit_apart _ _ (by decide) (by decide), s.fld_lockV]

theorem State.lockRisen_steady (s : State) (x : Nat) (v : BitVec 8) :
    Steady (fun a => eventReg a || a == Reg.SYNTH_STATUS x) [.events, .synth, .ain, .aout] s (s.lockRisen x v) := by
  unfold State.lockRisen
  extract_lets s2 s3
  have h2 : Steady (fun a => eventReg a || a == Reg.SYNTH_STATUS x) [.events, .synth, .ain, .aout] s s2 :=
    ((Steady.refl.lockV x v (by simp)).setBit _ _ _ (by simp) (synthStatus_high x)).setBit _ _ _ (by simp)
      (synthStatus_high x)
  exact Steady.synth (.ite (h2.resync (by simp) (by simp) x 2) h2) (by simp) _

/-! ### LOCK falls -/

theorem State.lockFalls_eq {x : Nat} (v : BitVec 8) (h : s.bit (Reg.SYNTH_STATUS x) Fld.SYNTH_STATUS_LOCK = true) :
    s.lockFalls x v = (s.setBit (Reg.SYNTH_STATUS x) Fld.SYNTH_STATUS_LOCK false).raiseN (10 + x) v.toNat := if_pos h

/-- The fall of LOCK leaves LOCK_V and what the part of the synthesisers holds. -/
theorem State.lockFalls_frame (s : State) (x : Fin 2) (v : BitVec 8) :
    (s.lockFalls x v).fld (Reg.SYNTH_STATUS x) Fld.SYNTH_STATUS_LOCK_V =
        s.fld (Reg.SYNTH_STATUS x) Fld.SYNTH_STATUS_LOCK_V ∧
      FrameEv (fun a => a == Reg.SYNTH_STATUS x) [] s (s.lockFalls x v) := by
  unfold State.lockFalls
  split
  · refine ⟨(State.fld_congr (State.reg_raiseN_high _ _ (by omega) (synthStatus_high x)) _).trans
      (s.fld_setBit_apart _ (by decide) (by decide) _), ?_⟩
    exact Frame.raiseN (Frame.refl.setBit _ _ _ (by simp)) (AllowsEvents.ev _ _) _ _ (by omega)
  · exact ⟨rfl, .refl⟩

theorem State.lockFalls_falls {x : Fin 2} (v : BitVec 8) (h : s.bit (Reg.SYNTH_STATUS x) Fld.SYNTH_STATUS_LOCK = true)
    (hq : s.tally.silent = false) : (s.lockFalls x v).bit (Reg.SYNTH_STATUS x) Fld.SYNTH_STATUS_LOCK = false ∧
      (s.lockFalls x v).shown (10 + x) := by
  rw [State.lockFalls_eq v h]
  exact ⟨(State.bit_congr (State.reg_raiseN_high _ _ (by omega) (synthStatus_high x)) _).trans
    (s.bit_setBit_same _ _ _ (by decide) rfl), State.raiseN_shown _ _ _ (by omega) hq⟩

/-- The state on which a fall of LOCK is decided: LOCK_V shows the voltage, and whether the PLL is in fast loss is noted. -/
def State.lossNoted (s : State) (x : Nat) (v : BitVec 8) (b : Bool) : State :=
  let s1 := s.lockV x v
  { s1 with synth := { s1.synth with fastLoss := maskSet s1.synth.fastLoss x b } }

theorem State.lossNoted_lockFalls (s : State) (x : Fin 2) (v : BitVec 8) (b : Bool) :
    ((s.lossNoted x v b).lockFalls x v).fld (Reg.SYNTH_STATUS x) Fld.SYNTH_STATUS_LOCK_V = v.toNat ∧
      ((s.lossNoted x v b).lockFalls x v).synth = (s.lossNoted x v b).synth ∧
      FrameEv (fun a => a == Reg.SYNTH_STATUS x) [.synth] s ((s.lossNoted x v b).lockFalls x v) := by
  obtain ⟨hv, hf⟩ := (s.lossNoted x v b).lockFalls_frame x v
  have h1 : FrameEv (fun a => a == Reg.SYNTH_STATUS x) [.synth] s (s.lossNoted x v b) :=
    Frame.synth (Frame.refl.setFld _ _ _ (by simp)) (by simp) _
  exact ⟨hv.trans (s.fld_lockV x v), hf.2 .synth (by simp), h1.trans (hf.widen (fun _ h => h) (by simp))⟩

theorem State.lossNoted_falls {x : Fin 2} (v : BitVec 8) (b : Bool)
    (h : s.bit (Reg.SYNTH_STATUS x) Fld.SYNTH_STATUS_LOCK = true) (hq : s.tally.silent = false) :
    ((s.lossNoted x v b).lockFalls x v).bit (Reg.SYNTH_STATUS x) Fld.SYNTH_STATUS_LOCK = false ∧
      ((s.lossNoted x v b).lockFalls x v).shown (10 + x) :=
  State.lockFalls_falls v ((s.bit_lockV x v (.inr (by decide))).trans h) hq

theorem State.synthUnlock_low {x : Nat} {v : BitVec 8} (h : 16 * v.toNat ≤ 500) :
    s.synthUnlock x v = (s.lossNoted x v false).lockFalls x v := if_pos h

/-! ### FILTER_ERR -/

theorem State.synthFilterErr_set {x : Nat} {v : BitVec 8} (hv : 3000 ≤ 16 * v.toNat)
    (h : s.bit (Reg.SYNTH_STATUS x) Fld.SYNTH_STATUS_FILTER_ERR = false) : s.synthFilterErr x v =
      (((s.lockV x v).setBit (Reg.SYNTH_STATUS x) Fld.SYNTH_STATUS_FILTER_ERR true).setBit (Reg.SYNTH_STATUS x)
        Fld.SYNTH_STATUS_LOCK false).raiseN 15 x := if_pos ⟨hv, by rw [h]; rfl⟩

theorem State.synthFilterErr_lockV (s : State) (x : Nat) (v : BitVec 8) :
    (s.synthFilterErr x v).fld (Reg.SYNTH_STATUS x) Fld.SYNTH_STATUS_LOCK_V = v.toNat := by
  unfold State.synthFilterErr
  dsimp only
  split
  · rw [State.fld_congr (State.reg_raiseN_high _ _ (by decide) (synthStatus_high x)),
      State.fld_setBit_apart _ _ (by decide) (by decide), State.fld_setBit_apart _ _ (by decide) (by decide), s.fld_lockV]
  · exact s.fld_lockV x v

theorem State.synthLock_lockV (s : State) (x : Fin 2) (v : BitVec 8) :
    (s.synthLock x v).fld (Reg.SYNTH_STATUS x) Fld.SYNTH_STATUS_LOCK_V = v.toNat := by
  by_cases h : s.mayLock x v
  · rw [State.synthLock_rises h, State.fld_congr (State.reg_raiseN_high _ _ (by omega) (synthStatus_high x))]
    exact (s.lockRisen_status x v).2.2
  · rw [State.synthLock_stays h, s.fld_lockV]

theorem State.synthUnlock_lockV (s : State) (x : Fin 2) (v : BitVec 8) :
    (s.synthUnlock x v).fld (Reg.SYNTH_STATUS x) Fld.SYNTH_STATUS_LOCK_V = v.toNat := by
  by_cases h : 16 * v.toNat ≤ 500
  · rw [State.synthUnlock_low h]
    exact (s.lossNoted_lockFalls x v false).1
  · rw [State.synthUnlock, if_neg h, s.fld_lockV]

end Sys2Proof.Machine
end

section
/-! The lock decision. -/

open Sys2Proof Sys2Proof.Machine

/-- Settles O10: each command of the lock decision leaves LOCK_V and then LOCK as its threshold says. -/
theorem synthLockDecision : Obligations.SynthLockDecision := by
  refine ⟨?voltage, ?held, ?rises, ?falls, ?fastLoss, ?filterErr⟩
  case voltage =>
    intro x v s c hc
    simp only [List.mem_cons, List.not_mem_nil, or_false] at hc
    rcases hc with rfl | rfl | rfl | rfl
    · exact ⟨_, rfl, s.synthLock_lockV x v⟩
    · exact ⟨_, rfl, s.synthUnlock_lockV x v⟩
    · exact ⟨_, rfl, (s.lossNoted_lockFalls x v _).1⟩
    · exact ⟨_, rfl, s.synthFilterErr_lockV x v⟩
  case held =>
    intro x v s hl hh
    have hm : ¬s.mayLock x v := by
      rintro ⟨-, -, hf, hs⟩
      rcases hh with h | h
      · exact Bool.noConfusion (hf.symm.trans h)
      · exact Bool.noConfusion (hs.symm.trans h)
    refine ⟨_, congrArg Host.Outcome.next (State.synthLock_stays hm), ?_, Frame.refl.setFld _ _ _ (by simp)⟩
    rw [s.bit_lockV x v (.inr (by decide)), hl]
  case rises =>
    intro x v s hv hl hf hs hq
    have hr := State.reg_raiseN_high (s.lockRisen x v) (src := 12 + x) v.toNat (by omega) (synthStatus_high x)
    obtain ⟨h1, h2, h3⟩ := s.lockRisen_status x v
    obtain ⟨hframe, hcause⟩ := s.lockRisen_steady x v
    refine ⟨_, congrArg Host.Outcome.next (State.synthLock_rises ⟨hv, hl, hf, hs⟩), (State.bit_congr hr _).trans h1,
      (State.bit_congr hr _).trans h2, (State.fld_congr hr _).trans h3, ?_, ?_⟩
    · exact State.raiseN_shown _ _ _ (by omega) (hcause.2.trans hq)
    · exact hframe.raiseN (AllowsEvents.ev _ _) _ _ (by omega)
  case falls =>
    intro x v s hv hl hq
    obtain ⟨h1, -, h2⟩ := s.lossNoted_lockFalls x v false
    obtain ⟨h3, h4⟩ := State.lossNoted_falls v false hl hq
    exact ⟨_, congrArg Host.Outcome.next (State.synthUnlock_low hv), h3, h1, h4, h2⟩
  case fastLoss =>
    intro x v s hl hq
    obtain ⟨h1, hsynth, h2⟩ := s.lossNoted_lockFalls x v (decide (500 < 16 * v.toNat))
    obtain ⟨h3, h4⟩ := State.lossNoted_falls v (decide (500 < 16 * v.toNat)) hl hq
    have h5 := (testBit_maskSet s.synth.fastLoss x.isLt (decide (500 < 16 * v.toNat)) x).trans (if_pos rfl)
    exact ⟨_, rfl, h3, h4, h1, (congrArg (fun y : SynthSt => y.fastLoss.toNat.testBit x) hsynth).trans h5, h2⟩
  case filterErr =>
    intro x v s hv hf hq
    have hlockV := s.synthFilterErr_lockV x v
    rw [State.synthFilterErr_set hv hf] at hlockV
    refine ⟨_, congrArg Host.Outcome.next (State.synthFilterErr_set hv hf), ?_, ?_, State.raiseN_shown _ _ _ (by decide) hq,
      hlockV, ?_⟩
    · rw [State.bit_congr (State.reg_raiseN_high _ _ (by decide) (synthStatus_high x)),
        State.bit_setBit_apart _ _ (by decide) (by decide), State.bit_setBit_same _ _ _ _ (by decide) rfl]
    · rw [State.bit_congr (State.reg_raiseN_high _ _ (by decide) (synthStatus_high x)),
        State.bit_setBit_same _ _ _ _ (by decide) rfl]
    · exact Frame.raiseN (((Frame.refl.setFld _ _ _ (by simp)).setBit _ _ _ (by simp)).setBit _ _ _ (by simp))
        (AllowsEvents.ev _ _) _ _ (by decide)

end

section
/-! SUPPORT. Sparse maps read through a filter, and register words written from a list. -/

namespace Sys2Proof.Machine

theorem SMap.find_filter {α : Type} (d : α) (q : Nat → Bool) (m : SMap α) (a : Nat) :
    SMap.find d (m.filter (fun e => q e.1)) a = if q a then SMap.find d m a else d := by
  induction m with
  | nil => simp
  | cons e m ih =>
    obtain ⟨k, w⟩ := e
    by_cases hk : k = a
    · subst hk
      cases hq : q k
      · simp [hq, ih]
      · simp [hq, SMap.find]
    · cases hq : q k <;> simp [hq, ih, SMap.find, hk]

theorem SMap.find_above {α : Type} (d : α) {m : SMap α} {a : Nat} (h : SMap.above a m) : SMap.find d m a = d := by
  induction m with
  | nil => rfl
  | cons e m ih =>
    obtain ⟨k, w⟩ := e
    rw [SMap.find, if_neg (Nat.ne_of_gt (h _ List.mem_cons_self)), ih fun e he => h e (List.mem_cons_of_mem _ he)]

/-- Words written one after the other, their addresses rising: each reads as it was written. -/
theorem State.reg_setRegs (s : State) {m : SMap Word} (hm : SMap.rising m = true) (a : Nat) :
    (m.foldl (fun s e => s.setReg e.1 e.2) s).reg a = SMap.find (s.reg a) m a := by
  induction m generalizing s with
  | nil => rfl
  | cons e m ih =>
    obtain ⟨k, w⟩ := e
    obtain ⟨habove, hr⟩ := (SMap.rising_cons k w m).1 hm
    rw [List.foldl_cons, ih _ hr, State.reg_setReg, SMap.find]
    split
    · next hk => rw [← hk, SMap.find_above w habove]
    · rfl

end Sys2Proof.Machine
end

section
/-! SUPPORT. Updates of a synthesis PLL: the staged values applied or refused (R88, R89, R91-R93, R105). -/

namespace Sys2Proof.Machine

variable {R : Nat → Bool} {P : List Part} {s t : State}

theorem synthOwns_block {x a : Nat} (h1 : Reg.SYNTH_CTRL x ≤ a) (h2 : a < Reg.SYNTH_CTRL x + 0x100) : synthOwns x a = true := by
  simp [synthOwns, h1, h2]

theorem synthOwns_ctrl (x : Nat) : synthOwns x (Reg.SYNTH_CTRL x) = true := synthOwns_block le_rfl (by omega)

theorem synthOwns_status (x : Nat) : synthOwns x (Reg.SYNTH_STATUS x) = true :=
  synthOwns_block (by unfold Reg.SYNTH_CTRL Reg.SYNTH_STATUS; omega) (by unfold Reg.SYNTH_CTRL Reg.SYNTH_STATUS; omega)

theorem synthOwns_steer (x : Nat) : synthOwns x (Reg.SYNTH_STEER x) = true :=
  synthOwns_block (by unfold Reg.SYNTH_CTRL Reg.SYNTH_STEER; omega) (by unfold Reg.SYNTH_CTRL Reg.SYNTH_STEER; omega)

/-- The registers of PLL x that an update writes beside the staged values. -/
def updateRegs (x : Nat) : List Nat := [Reg.SYNTH_CTRL x, Reg.SYNTH_STATUS x, Reg.SYNTH_STEER x]

/-! ### Staged values -/

/-- The values staged for PLL x are no longer staged. -/
def State.stagedTaken (s : State) (x : Nat) : State :=
  { s with synth := { s.synth with staged := s.synth.staged.filter (fun e => !synthOwns x e.1) } }

theorem State.synthApply_eq (s : State) (x : Nat) : s.synthApply x =
    (s.synth.staged.filter (fun e => synthOwns x e.1)).foldl (fun s e => s.setReg e.1 e.2) (s.stagedTaken x) := rfl

theorem State.reg_synthApply {x : Nat} (h : SMap.rising s.synth.staged = true) (a : Nat) :
    (s.synthApply x).reg a = s.synthNext x a := by
  rw [State.synthApply_eq, State.reg_setRegs _ (SMap.rising_filter _ h), SMap.find_filter _ (synthOwns x), State.synthNext]
  rfl

theorem Frame.synthApply (x : Nat) : Frame (synthOwns x) P (s.stagedTaken x) (s.synthApply x) :=
  Frame.refl.foldl _ _ fun _ _ he hu => hu.setReg _ _ (List.mem_filter.1 he).2

/-! ### An update that is not refused -/

theorem State.reg_resyncUpdate (s t : State) (x a : Nat) : (s.resyncUpdate t x).reg a = t.reg a := by
  unfold State.resyncUpdate
  extract_lets ain dac t1
  have h1 : t1.reg a = t.reg a := by unfold t1; split <;> rfl
  split
  · exact h1
  · exact h1

theorem Frame.resyncUpdate (h : Frame R P s t) (hI : Part.ain ∈ P) (hO : Part.aout ∈ P) (u : State) (x : Nat) :
    Frame R P s (u.resyncUpdate t x) := by
  unfold State.resyncUpdate
  extract_lets ain dac t1
  have h1 : Frame R P s t1 := .ite (h.ain hI _) h
  exact .ite (h1.aout hO _) h1

/-- What an update that is not refused makes of the state in which the staged values have been applied. -/
def State.synthFollow (s u : State) (x : Nat) : State :=
  let old := ratioFix (s.reg (Reg.SYNTH_RATIO x)) (s.reg (Reg.SYNTH_RATIO x + 4))
  let new := ratioFix (u.reg (Reg.SYNTH_RATIO x)) (u.reg (Reg.SYNTH_RATIO x + 4))
  let s2 := u.setBit (Reg.SYNTH_CTRL x) Fld.SYNTH_CTRL_SCHED false
  let s3 := if old * 500 < ((new : Int) - (old : Int)).natAbs * 1000000 then
      s2.setBit (Reg.SYNTH_STATUS x) Fld.SYNTH_STATUS_GATED true else s2
  let s4 := s.resyncUpdate s3 x
  if s4.steers x && !s4.steerFrozen x then s4.setReg (Reg.SYNTH_STEER x) (s4.steerWord x) else s4

theorem State.synthUpdate_done {x : Nat} (h : (s.updateCode x).1 = 0) :
    s.synthUpdate x = s.synthFollow (s.synthApply x) x := if_neg (not_not_intro h)

theorem Frame.synthFollow (h : Frame R P s t) (hI : Part.ain ∈ P) (hO : Part.aout ∈ P) (u : State) (x : Nat)
    (hR : ∀ a ∈ updateRegs x, R a = true) : Frame R P s (u.synthFollow t x) := by
  unfold State.synthFollow
  extract_lets old new s2 s3 s4
  have h2 : Frame R P s s2 := h.setBit _ _ _ (hR _ (by simp [updateRegs]))
  have h3 : Frame R P s s3 := .ite (h2.setBit _ _ _ (hR _ (by simp [updateRegs]))) h2
  have h4 : Frame R P s s4 := h3.resyncUpdate hI hO u x
  exact .ite (h4.setReg _ _ (hR _ (by simp [updateRegs]))) h4

/-- Registers beside those of `updateRegs` stay through the follow-up of an update. -/
theorem State.reg_synthFollow (s u : State) {x a : Nat} (h : a ∉ updateRegs x) : (s.synthFollow u x).reg a = u.reg a :=
  (Frame.refl (R := fun b => decide (b ∈ updateRegs x)) (P := [.ain, .aout]) |>.synthFollow (by simp) (by simp) s x
    (by simp)).1 a (by simpa using h)

theorem State.synthFollow_sched (s u : State) (x : Nat) :
    (s.synthFollow u x).bit (Reg.SYNTH_CTRL x) Fld.SYNTH_CTRL_SCHED = false := by
  have hs : Reg.SYNTH_STATUS x ≠ Reg.SYNTH_CTRL x := by unfold Reg.SYNTH_STATUS Reg.SYNTH_CTRL; omega
  have hst : Reg.SYNTH_STEER x ≠ Reg.SYNTH_CTRL x := by unfold Reg.SYNTH_STEER Reg.SYNTH_CTRL; omega
  have h2 := u.bit_setBit_same (Reg.SYNTH_CTRL x) Fld.SYNTH_CTRL_SCHED false (by decide) rfl
  unfold State.synthFollow
  extract_lets old new s2 s3 s4
  have h3 : s3.reg (Reg.SYNTH_CTRL x) = s2.reg (Reg.SYNTH_CTRL x) := by
    unfold s3
    split
    · rw [State.reg_setBit, if_neg hs]
    · rfl
  have h4 : s4.bit (Reg.SYNTH_CTRL x) Fld.SYNTH_CTRL_SCHED = false :=
    (State.bit_congr ((s.reg_resyncUpdate s3 x _).trans h3) _).trans h2
  split
  · exact (State.bit_congr (State.reg_setReg_ne _ _ _ _ hst) _).trans h4
  · exact h4

/-- What an update that is not refused leaves (R88, R89, R105). -/
theorem State.synthUpdate_applies {x : Nat} (hc : (s.updateCode x).1 = 0) (hs : SMap.rising s.synth.staged = true) :
    (∀ a, a ∉ updateRegs x → (s.synthUpdate x).reg a = s.synthNext x a) ∧
      (s.synthUpdate x).bit (Reg.SYNTH_CTRL x) Fld.SYNTH_CTRL_SCHED = false ∧
      (∀ e ∈ (s.synthUpdate x).synth.staged, synthOwns x e.1 = false) ∧
      Frame (synthOwns x) [.synth, .ain, .aout] s (s.synthUpdate x) := by
  rw [State.synthUpdate_done hc]
  have hf : Frame (synthOwns x) [.ain, .aout] (s.stagedTaken x) (s.synthFollow (s.synthApply x) x) :=
    Frame.synthFollow (Frame.synthApply x) (by simp) (by simp) s x
      (by simp [updateRegs, synthOwns_ctrl, synthOwns_status, synthOwns_steer])
  have hsynth : (s.synthFollow (s.synthApply x) x).synth = (s.stagedTaken x).synth := hf.2 .synth (by simp)
  refine ⟨fun a ha => (State.reg_synthFollow _ _ ha).trans (State.reg_synthApply hs a), State.synthFollow_sched _ _ _,
    fun e he => ?_, ?_⟩
  · rw [hsynth] at he
    simpa using (List.mem_filter.1 he).2
  · have h0 : Frame (synthOwns x) [.synth, .ain, .aout] s (s.stagedTaken x) := Frame.refl.synth (by simp) _
    exact h0.trans (hf.mono (fun _ h => h) (by simp))

theorem not_mem_updateRegs (x : Nat) : Reg.SYNTH_RATIO x ∉ updateRegs x ∧ Reg.SYNTH_RATIO x + 4 ∉ updateRegs x ∧
    ∀ n, Reg.SYNTH_OUT_CFG x n ∉ updateRegs x := by
  simp only [updateRegs, List.mem_cons, List.not_mem_nil, or_false, Reg.SYNTH_RATIO, Reg.SYNTH_CTRL, Reg.SYNTH_STATUS,
    Reg.SYNTH_STEER, Reg.SYNTH_OUT_CFG]
  exact ⟨by omega, by omega, fun n => by omega⟩

theorem synthRoute_not_mem_updateRegs (x : Nat) : Reg.SYNTH_ROUTE ∉ updateRegs x := by
  simp only [updateRegs, List.mem_cons, List.not_mem_nil, or_false, Reg.SYNTH_ROUTE, Reg.SYNTH_CTRL, Reg.SYNTH_STATUS,
    Reg.SYNTH_STEER]
  omega

/-! ### Refusals -/

/-- Only a value that the manual leaves open is used up by the check of an update. -/
theorem State.updateCode_state (s : State) (x : Nat) : (s.updateCode x).2 = s ∨ (s.updateCode x).2 = s.takeFree.2 := by
  unfold State.updateCode
  dsimp only
  split
  · exact .inr rfl
  · exact .inl rfl

theorem State.updateCode_frame (s : State) (x : Nat) : FrameEv noRegs [] s (s.updateCode x).2 := by
  rcases s.updateCode_state x with h | h <;> rw [h]
  · exact .refl
  · exact Frame.refl.takeFree (by simp)

theorem State.synthUpdate_refused {x : Nat} (h : (s.updateCode x).1 ≠ 0) :
    s.synthUpdate x = (s.updateCode x).2.synthRefuse x (s.updateCode x).1 := if_pos h

/-- What a refusal of an update or of a schedule leaves (R91, R93, R105). -/
theorem State.synthRefuse_leaves (s : State) (x code : Nat) :
    (s.synthRefuse x code).fld (Reg.SYNTH_STATUS x) Fld.SYNTH_STATUS_REFUSE = code % 4 ∧
      (s.tally.silent = false → (s.synthRefuse x code).shown 14) ∧
      (s.synthRefuse x code).bit (Reg.SYNTH_CTRL x) Fld.SYNTH_CTRL_SCHED = false ∧
      FrameEv (fun a => a == Reg.SYNTH_STATUS x || a == Reg.SYNTH_CTRL x) [] s (s.synthRefuse x code) := by
  have hr : ∀ a, 0x200000 ≤ a → (s.synthRefuse x code).reg a = ((s.setFld (Reg.SYNTH_STATUS x) Fld.SYNTH_STATUS_REFUSE
      code).setBit (Reg.SYNTH_CTRL x) Fld.SYNTH_CTRL_SCHED false).reg a := fun a => State.reg_raiseN_high _ _ (by decide)
  refine ⟨?_, fun hq => State.raiseN_shown _ _ _ (by decide) hq, ?_, ?_⟩
  · have hne : Reg.SYNTH_CTRL x ≠ Reg.SYNTH_STATUS x := by unfold Reg.SYNTH_STATUS Reg.SYNTH_CTRL; omega
    exact (State.fld_congr (hr _ (synthStatus_high x)) _).trans ((State.fld_setReg_ne _ _ _ _ _ hne).trans
      (s.fld_setFld_same _ _ _ (by decide)))
  · rw [State.bit_congr (hr _ (by unfold Reg.SYNTH_CTRL; omega)), State.bit_setBit_same _ _ _ _ (by decide) rfl]
  · exact Frame.raiseN ((Frame.refl.setFld _ _ _ (by simp)).setBit _ _ _ (by simp)) (AllowsEvents.ev _ _) _ _ (by decide)

end Sys2Proof.Machine
end

section
/-! Updates of the synthesisers. -/

open Sys2Proof Sys2Proof.Machine

/-- Settles O9: an update applies what is staged or is refused as a whole; schedules, cancels and ENABLE by the bits they write. -/
theorem synthUpdates : Obligations.SynthUpdates := by
  refine ⟨?applied, ?withCommit, ?refused, ?late, ?sched, ?cancel, ?enable⟩
  case applied =>
    intro x s c hc hs hcmd
    have he : exec c s = .next (s.synthUpdate x) := by
      rcases hcmd with rfl | ⟨rfl, hdue⟩
      · rfl
      · exact congrArg Host.Outcome.next (if_pos hdue)
    obtain ⟨hreg, hsched, hstaged, hframe⟩ := State.synthUpdate_applies hc hs
    obtain ⟨hlo, hhi, hout⟩ := not_mem_updateRegs x
    exact ⟨_, he, hreg _ hlo, hreg _ hhi, fun n _ => hreg _ (hout n), hreg _ (synthRoute_not_mem_updateRegs x), hsched,
      hstaged, hframe⟩
  case withCommit =>
    intro x s h
    exact congrArg Host.Outcome.next (if_neg fun ⟨_, _, hn⟩ => Bool.noConfusion (h.symm.trans hn))
  case refused =>
    intro x s hc hq
    have h0 := s.updateCode_frame x
    obtain ⟨hcode, hshown, hsched, hframe⟩ := (s.updateCode x).2.synthRefuse_leaves x (s.updateCode x).1
    have hall := (h0.widen (fun _ h => Bool.noConfusion h) (by simp)).trans hframe
    exact ⟨_, congrArg Host.Outcome.next (State.synthUpdate_refused hc), hcode, hshown ((h0.silent_eq (by simp)).trans hq),
      hsched, hall.2 .synth (by simp), hall⟩
  case late =>
    intro x s h hq
    obtain ⟨hcode, hshown, hsched, -⟩ := s.synthRefuse_leaves x 3
    exact ⟨_, congrArg Host.Outcome.next (if_pos h), hcode, hshown hq, hsched⟩
  case sched =>
    intro x s h
    exact ⟨_, congrArg Host.Outcome.next (if_neg (by omega)), s.bit_setBit_same _ _ _ (by decide) rfl,
      Frame.refl.setBit _ _ _ (by simp)⟩
  case cancel =>
    intro x s
    exact ⟨_, rfl, s.bit_setBit_same _ _ _ (by decide) rfl, Frame.refl.setBit _ _ _ (by simp)⟩
  case enable =>
    intro x data s
    have hne : Reg.SYNTH_STATUS x ≠ Reg.SYNTH_CTRL x := by unfold Reg.SYNTH_STATUS Reg.SYNTH_CTRL; omega
    have hen := s.bit_setBit_same (Reg.SYNTH_CTRL x) Fld.SYNTH_CTRL_ENABLE (Fld.SYNTH_CTRL_ENABLE.get data == 1) (by decide) rfl
    have hf : Frame (fun a => a == Reg.SYNTH_STATUS x || a == Reg.SYNTH_CTRL x) [] s (s.setBit (Reg.SYNTH_CTRL x)
        Fld.SYNTH_CTRL_ENABLE (Fld.SYNTH_CTRL_ENABLE.get data == 1)) := Frame.refl.setBit _ _ _ (by simp)
    refine ⟨_, rfl, ?_, fun hoff hon => ?_, .ite (hf.setBit _ _ _ (by simp)) hf⟩
    · unfold State.synthEnable
      dsimp only
      split
      · exact (State.bit_congr (State.reg_setReg_ne _ _ _ _ hne) _).trans hen
      · exact hen
    · have he : s.synthEnable x data = (s.setBit (Reg.SYNTH_CTRL x) Fld.SYNTH_CTRL_ENABLE
          (Fld.SYNTH_CTRL_ENABLE.get data == 1)).setBit (Reg.SYNTH_STATUS x) Fld.SYNTH_STATUS_GATED true :=
        if_pos (by rw [hoff, hon]; rfl)
      rw [he]
      exact State.bit_setBit_same _ _ _ _ (by decide) rfl

end

section
/-! SUPPORT. Lanes: what a change of a lane's state leaves (R310, R314, R349, R471). -/

namespace Sys2Proof.Machine

variable {R : Nat → Bool} {P : List Part} {s t u : State}

/-! ### The registers of a lane -/

theorem laneRegs_high {n a : Nat} (h : laneRegs n a = true) : 0x200000 ≤ a := by
  simp only [laneRegs, Bool.or_eq_true, beq_iff_eq] at h
  rcases h with (rfl | rfl) | rfl
  · unfold Reg.FAB_LANE_STATUS; omega
  · decide
  · decide

theorem laneRegs_status (n : Nat) : laneRegs n (Reg.FAB_LANE_STATUS n) = true := by simp [laneRegs]

theorem laneStatus_high (n : Nat) : 0x200000 ≤ Reg.FAB_LANE_STATUS n := laneRegs_high (laneRegs_status n)

/-- Addresses below the lanes, among them those of the clock synthesis, are no lane's. -/
theorem laneRegs_below {n a : Nat} (h : a < 0x1000000) : laneRegs n a = false := by
  simp only [laneRegs, Bool.or_eq_false_iff, beq_eq_false_iff_ne, Reg.FAB_LANE_STATUS, Reg.FAB_WAKE_CTRL, Reg.REDUN_STATUS]
  omega

theorem laneRegs_status_ne {l n : Nat} (h : l ≠ n) (hn : n < 10) : laneRegs l (Reg.FAB_LANE_STATUS n) = false := by
  simp only [laneRegs, Bool.or_eq_false_iff, beq_eq_false_iff_ne, Reg.FAB_LANE_STATUS, Reg.FAB_WAKE_CTRL, Reg.REDUN_STATUS]
  omega

theorem laneRegs_ctrl {l n : Nat} (hn : n < 10) : laneRegs l (Reg.FAB_LANE_CTRL n) = false := by
  simp only [laneRegs, Bool.or_eq_false_iff, beq_eq_false_iff_ne, Reg.FAB_LANE_CTRL, Reg.FAB_LANE_STATUS, Reg.FAB_WAKE_CTRL,
    Reg.REDUN_STATUS]
  omega

theorem wakeCtrl_ne_status {n : Nat} (hn : n < 10) : Reg.FAB_WAKE_CTRL ≠ Reg.FAB_LANE_STATUS n := by
  unfold Reg.FAB_WAKE_CTRL Reg.FAB_LANE_STATUS; omega

theorem State.lane_congr {n : Nat} (h : t.reg (Reg.FAB_LANE_STATUS n) = s.reg (Reg.FAB_LANE_STATUS n)) :
    t.lane n = s.lane n := State.fld_congr h _

/-! ### A lane's state -/

theorem Steady.syncFelt (h : Steady R P s t) (hA : AllowsEvents R P) (hR : R Reg.REDUN_STATUS = true) :
    Steady R P s t.syncFelt := by
  have hs := h.setFld Reg.REDUN_STATUS Fld.REDUN_STATUS_FELT t.feltNow hR (by decide)
  unfold State.syncFelt
  exact .ite h (.ite (hs.raiseN hA _ _ (by decide)) (hs.raiseN hA _ _ (by omega)))

theorem State.reg_syncFelt (s : State) {a : Nat} (ha : 0x200000 ≤ a) (hne : a ≠ Reg.REDUN_STATUS) :
    s.syncFelt.reg a = s.reg a :=
  (Steady.refl.syncFelt (AllowsEvents.ev (fun a => a == Reg.REDUN_STATUS) []) (by simp)).1.1 a
    (by simp [eventReg_high a ha, hne])

/-- STATE of a lane written, with SIGNAL and PRECODE where the lane is OFF. -/
def State.laneShown (s : State) (n st : Nat) : State :=
  let s1 := s.setFld (Reg.FAB_LANE_STATUS n) Fld.FAB_LANE_STATUS_STATE st
  if st = 0 then (s1.setBit (Reg.FAB_LANE_STATUS n) Fld.FAB_LANE_STATUS_SIGNAL false).setBit (Reg.FAB_LANE_STATUS n)
    Fld.FAB_LANE_STATUS_PRECODE false else s1

theorem State.setLane_eq (s : State) (n st : Nat) : s.setLane n st =
    ((s.laneShown n st).setBit Reg.FAB_WAKE_CTRL Fld.FAB_WAKE_CTRL_SENDING
      ((List.range 10).any (fun l => (s.laneShown n st).lane l == 7))).syncFelt := rfl

theorem State.lane_laneShown (s : State) (n : Nat) {st : Nat} (h : st < 8) : (s.laneShown n st).lane n = st := by
  have h1 : (s.setFld (Reg.FAB_LANE_STATUS n) Fld.FAB_LANE_STATUS_STATE st).lane n = st :=
    (s.fld_setFld_same _ _ _ (by decide)).trans (Nat.mod_eq_of_lt h)
  unfold State.laneShown
  dsimp only
  split
  · exact ((State.fld_setBit_apart _ _ (by decide) (by decide) _).trans
      (State.fld_setBit_apart _ _ (by decide) (by decide) _)).trans h1
  · exact h1

theorem Steady.laneShown (h : Steady R P s t) (n st : Nat) (hR : R (Reg.FAB_LANE_STATUS n) = true) :
    Steady R P s (t.laneShown n st) := by
  have hl := laneStatus_high n
  have h1 := h.setFld _ Fld.FAB_LANE_STATUS_STATE st hR hl
  exact .ite ((h1.setBit _ _ _ hR hl).setBit _ _ _ hR hl) h1

theorem Steady.setLane (h : Steady R P s t) (hA : AllowsEvents R P) (n st : Nat) (hR : ∀ a, laneRegs n a = true → R a = true) :
    Steady R P s (t.setLane n st) :=
  ((h.laneShown n st (hR _ (laneRegs_status n))).setBit _ _ _ (hR _ (by simp [laneRegs])) (by decide)).syncFelt hA
    (hR _ (by simp [laneRegs]))

theorem State.lane_setLane (s : State) {n st : Nat} (hn : n < 10) (h : st < 8) : (s.setLane n st).lane n = st := by
  rw [State.setLane_eq, State.lane_congr (State.reg_syncFelt _ (laneStatus_high n) (by
    unfold Reg.FAB_LANE_STATUS Reg.REDUN_STATUS; omega))]
  exact (State.lane_congr (State.reg_setReg_ne _ _ _ _ (wakeCtrl_ne_status hn))).trans (s.lane_laneShown n h)

/-- SENDING shows a lane that has entered WAKE (R349). -/
theorem State.sending_setLane (s : State) {n : Nat} (hn : n < 10) :
    (s.setLane n 7).bit Reg.FAB_WAKE_CTRL Fld.FAB_WAKE_CTRL_SENDING = true := by
  have hany : (List.range 10).any (fun l => (s.laneShown n 7).lane l == 7) = true :=
    List.any_eq_true.2 ⟨n, List.mem_range.2 hn, beq_iff_eq.2 (s.lane_laneShown n (by decide))⟩
  rw [State.setLane_eq, State.bit_congr (State.reg_syncFelt _ (by decide) (by decide)), hany]
  exact State.bit_setBit_same _ _ _ _ (by decide) rfl

/-! ### Starts -/

theorem Steady.laneTrain (h : Steady R P s t) (hA : AllowsEvents R P) (n : Nat) (hR : ∀ a, laneRegs n a = true → R a = true) :
    Steady R P s (t.laneTrain n) := (h.setBit _ _ _ (hR _ (laneRegs_status n)) (laneStatus_high n)).setLane hA n _ hR

theorem Steady.laneStart (h : Steady R P s t) (hA : AllowsEvents R P) (n : Nat) (hR : ∀ a, laneRegs n a = true → R a = true) :
    Steady R P s (t.laneStart n) := .ite (h.laneTrain hA n hR) h

/-- The state that a lane enters when it starts (R310, R318). -/
def State.trainState (s : State) (n : Nat) : Nat := if s.laneLoop n ≠ 0 then 6 else if s.laneAn n then 1 else 2

theorem State.trainState_lt (s : State) (n : Nat) : s.trainState n < 8 := by
  unfold State.trainState
  split_ifs <;> decide

theorem State.lane_laneTrain (s : State) {n : Nat} (hn : n < 10) : (s.laneTrain n).lane n = s.trainState n := by
  have he : s.laneTrain n = (s.setBit (Reg.FAB_LANE_STATUS n) Fld.FAB_LANE_STATUS_RATE (s.pllFast (lanePll n))).setLane n
      (s.trainState n) := by simp only [State.laneTrain, State.trainState, bne_iff_ne]
  rw [he, State.lane_setLane _ hn (s.trainState_lt n)]

/-- What decides whether and how a lane starts, in two states. -/
def SameStart (n : Nat) (s t : State) : Prop :=
  t.laneOn n = s.laneOn n ∧ t.laneDead n = s.laneDead n ∧ t.trainState n = s.trainState n

theorem State.portWidth_congr (h : t.reg Reg.FAB_PORTMAP = s.reg Reg.FAB_PORTMAP) (m : Nat) :
    t.portWidth m = s.portWidth m := by rw [State.portWidth, State.regN, h, State.portWidth, State.regN]

theorem State.portOf_congr (h : t.reg Reg.FAB_PORTMAP = s.reg Reg.FAB_PORTMAP) (l : Nat) : t.portOf l = s.portOf l := by
  simp only [State.portOf, State.portLanes, State.portWidth_congr h]

theorem State.pllFast_congr (h : t.reg Reg.SYNTH_SERDES_CTRL = s.reg Reg.SYNTH_SERDES_CTRL) (p : Nat) :
    t.pllFast p = s.pllFast p := by
  unfold State.pllFast
  split
  · exact State.bit_congr h _
  · exact State.bit_congr h _
  · rfl

/-- It stays where the control word of the lane, the port map, the modes of the SerDes PLLs and REDUN_CTRL stay. -/
theorem SameStart.of_regs {n : Nat} (h : ∀ a ∈ [Reg.FAB_LANE_CTRL n, Reg.FAB_PORTMAP, Reg.SYNTH_SERDES_CTRL, Reg.REDUN_CTRL],
    t.reg a = s.reg a) : SameStart n s t := by
  have hc : t.reg (Reg.FAB_LANE_CTRL n) = s.reg (Reg.FAB_LANE_CTRL n) := h _ (by simp)
  have hm : t.reg Reg.FAB_PORTMAP = s.reg Reg.FAB_PORTMAP := h _ (by simp)
  have hp : t.reg Reg.SYNTH_SERDES_CTRL = s.reg Reg.SYNTH_SERDES_CTRL := h _ (by simp)
  have hd : t.reg Reg.REDUN_CTRL = s.reg Reg.REDUN_CTRL := h _ (by simp)
  refine ⟨State.bit_congr hc _, ?_, ?_⟩
  · rw [State.laneDead, State.pair, State.bit_congr hd]
    rfl
  · have hloop : t.laneLoop n = s.laneLoop n := State.fld_congr hc _
    rw [State.trainState, hloop, State.laneAn, State.portOf_congr hm, State.pllFast_congr hp, State.bit_congr hc]
    rfl

theorem State.laneStart_lane {n : Nat} (hn : n < 10) (h0 : s.lane n = 0) (hon : s.laneOn n = true)
    (hp : s.pllLocked (lanePll n) = true) (hd : s.laneDead n = false) : (s.laneStart n).lane n = s.trainState n := by
  rw [State.laneStart, if_pos ⟨h0, hon, hp, by simp [hd]⟩, s.lane_laneTrain hn]

/-- Lanes that start one after the other. -/
def State.laneStarts (s : State) (l : List Nat) : State := l.foldl (fun s n => s.laneStart n) s

theorem State.laneStarts_frame (s : State) (l : List Nat) :
    FrameEv (fun a => l.any (fun n => laneRegs n a)) [] s (s.laneStarts l) :=
  (Steady.refl.foldl (fun s n => s.laneStart n) l fun u n hn hu => hu.laneStart (AllowsEvents.ev _ _) n fun a ha => by
    simp only [Bool.or_eq_true, List.any_eq_true]
    exact .inr ⟨n, hn, ha⟩).1

theorem State.laneStarts_reg (s : State) {l : List Nat} {a : Nat} (ha : 0x200000 ≤ a) (h : ∀ n ∈ l, laneRegs n a = false) :
    (s.laneStarts l).reg a = s.reg a :=
  (s.laneStarts_frame l).reg_eq a (eventReg_high a ha) (List.any_eq_false.2 fun n hn => by simp [h n hn])

/-- Each lane of a list starts by what stood before the first of them. -/
theorem State.laneStarts_lane (s : State) {l : List Nat} {n : Nat} (hl : l.Nodup) (hmem : n ∈ l) (hn : n < 10)
    (h0 : s.lane n = 0) (hon : s.laneOn n = true) (hp : s.pllLocked (lanePll n) = true) (hd : s.laneDead n = false) :
    (s.laneStarts l).lane n = s.trainState n := by
  obtain ⟨before, after, rfl⟩ := List.append_of_mem hmem
  have hnot : n ∉ before ∧ n ∉ after := by
    simpa [not_or] using (List.nodup_cons.1 (List.nodup_middle.1 hl)).1
  set v := s.laneStarts before with hv
  have hreg : ∀ a, 0x200000 ≤ a → (∀ m ∈ before, laneRegs m a = false) → v.reg a = s.reg a := fun a => s.laneStarts_reg
  obtain ⟨hon', hd', ht'⟩ : SameStart n s v := by
    refine SameStart.of_regs fun a ha => hreg a ?_ fun m _ => ?_
    all_goals
      simp only [List.mem_cons, List.not_mem_nil, or_false] at ha
      rcases ha with rfl | rfl | rfl | rfl
    · unfold Reg.FAB_LANE_CTRL; omega
    · decide
    · decide
    · decide
    · exact laneRegs_ctrl hn
    · simp only [laneRegs, Bool.or_eq_false_iff, beq_eq_false_iff_ne, Reg.FAB_PORTMAP, Reg.FAB_LANE_STATUS, Reg.FAB_WAKE_CTRL,
        Reg.REDUN_STATUS]
      omega
    · exact laneRegs_below (by decide)
    · simp only [laneRegs, Bool.or_eq_false_iff, beq_eq_false_iff_ne, Reg.REDUN_CTRL, Reg.FAB_LANE_STATUS, Reg.FAB_WAKE_CTRL,
        Reg.REDUN_STATUS]
      omega
  have hother : ∀ m, m ≠ n → laneRegs m (Reg.FAB_LANE_STATUS n) = false := fun m h => laneRegs_status_ne h hn
  have h0' : v.lane n = s.lane n := State.lane_congr (hreg _ (laneStatus_high n) fun m hm => hother m fun h => hnot.1 (h ▸ hm))
  have hp' : v.pllLocked (lanePll n) = s.pllLocked (lanePll n) := by
    rw [State.pllLocked, hreg _ (by decide) fun m _ => laneRegs_below (by decide)]
    rfl
  have hstart := State.laneStart_lane hn (h0'.trans h0) (hon'.trans hon) (hp'.trans hp) (hd'.trans hd)
  have hrest : (s.laneStarts (before ++ n :: after)) = (v.laneStart n).laneStarts after := by
    rw [State.laneStarts, List.foldl_append, List.foldl_cons]
    rfl
  rw [hrest, State.lane_congr ((v.laneStart n).laneStarts_reg (laneStatus_high n) fun m hm => hother m fun h => hnot.2 (h ▸ hm)),
    hstart, ht']

end Sys2Proof.Machine
end

section
/-! SUPPORT. The port map, the enables of the SerDes PLLs and what both leave of MAC_STATUS (R83, R306, R307, R353). -/

namespace Sys2Proof.Machine

variable {R : Nat → Bool} {P : List Part} {s t : State}

/-! ### WIDTH and RATE in force -/

/-- WIDTH and RATE of one port. -/
def State.syncPort (s : State) (m : Nat) : State :=
  (s.setFld (Reg.MAC_STATUS m) Fld.MAC_STATUS_WIDTH (s.portWidth m)).setBit (Reg.MAC_STATUS m) Fld.MAC_STATUS_RATE
    (s.portWidth m != 0 && s.pllFast (lanePll m))

theorem State.syncPorts_eq (s : State) : s.syncPorts = (List.range 8).foldl State.syncPort s := rfl

theorem Frame.syncPort (h : Frame R P s t) (m : Nat) (hR : R (Reg.MAC_STATUS m) = true) : Frame R P s (t.syncPort m) :=
  (h.setFld _ _ _ hR).setBit _ _ _ hR

theorem State.syncPortList_frame (s : State) (l : List Nat) :
    Frame (fun a => l.any (fun m => a == Reg.MAC_STATUS m)) [] s (l.foldl State.syncPort s) :=
  Frame.refl.foldl _ _ fun _ m hm hu => hu.syncPort m (List.any_eq_true.2 ⟨m, hm, beq_self_eq_true _⟩)

/-- What the ports that are brought up to date leave: every register word but their own status words. -/
theorem State.syncPortList_reg (s : State) {l : List Nat} {a : Nat} (h : ∀ m ∈ l, a ≠ Reg.MAC_STATUS m) :
    (l.foldl State.syncPort s).reg a = s.reg a :=
  (s.syncPortList_frame l).1 a (List.any_eq_false.2 fun m hm => by simpa using h m hm)

theorem portmap_ne_macStatus {m : Nat} : Reg.FAB_PORTMAP ≠ Reg.MAC_STATUS m := by
  unfold Reg.FAB_PORTMAP Reg.MAC_STATUS; omega

theorem State.syncPortList_width (s : State) {l : List Nat} {m : Nat} (hm : m ∈ l) :
    (l.foldl State.syncPort s).fld (Reg.MAC_STATUS m) Fld.MAC_STATUS_WIDTH = s.portWidth m := by
  induction l generalizing s with
  | nil => exact absurd hm List.not_mem_nil
  | cons k l ih =>
    rw [List.foldl_cons]
    by_cases hl : m ∈ l
    · have hp : (s.syncPort k).reg Reg.FAB_PORTMAP = s.reg Reg.FAB_PORTMAP :=
        s.syncPortList_reg (l := [k]) fun _ _ => portmap_ne_macStatus
      rw [ih (s.syncPort k) hl, State.portWidth_congr hp]
    · obtain rfl : m = k := (List.mem_cons.1 hm).resolve_right hl
      have hw : s.portWidth m < 2 ^ Fld.MAC_STATUS_WIDTH.width := Nat.mod_lt _ (by decide)
      have hne : ∀ k ∈ l, Reg.MAC_STATUS m ≠ Reg.MAC_STATUS k := by
        rintro k hk h
        obtain rfl : m = k := by unfold Reg.MAC_STATUS at h; omega
        exact hl hk
      rw [State.fld_congr ((s.syncPort m).syncPortList_reg hne), State.syncPort,
        State.fld_setBit_apart _ _ (by decide) (by decide), State.fld_setFld_same _ _ _ _ (by decide), Nat.mod_eq_of_lt hw]

theorem Frame.syncPorts (h : Frame R P s t) (hR : ∀ m, m < 8 → R (Reg.MAC_STATUS m) = true) : Frame R P s t.syncPorts :=
  h.foldl _ _ fun _ m hm hu => hu.syncPort m (hR m (List.mem_range.1 hm))

/-! ### The port map -/

theorem widthLanes_le (w : Nat) (h : w < 4) : widthLanes w ≤ 4 := by
  unfold widthLanes
  split <;> omega

theorem State.portmapWrite_legal {data : Word} (hv : mapValid (data &&& 0xFFFFFF#32) = true)
    (hoff : ∀ l, l < 11 → s.laneOn l = false) :
    s.portmapWrite data = (s.setReg Reg.FAB_PORTMAP (data &&& 0xFFFFFF#32)).syncPorts := by
  refine if_pos ?_
  rw [hv, Bool.true_and, List.all_eq_true]
  intro l hl
  obtain ⟨m, hm, i, hi, rfl⟩ : ∃ m, m ∈ mapChanged (s.reg Reg.FAB_PORTMAP) (data &&& 0xFFFFFF#32) ∧
      ∃ i, i < max (widthLanes (mapWidth (s.reg Reg.FAB_PORTMAP) m)) (widthLanes (mapWidth (data &&& 0xFFFFFF#32) m)) ∧
        m + i = l := by simpa using hl
  have hm8 : m < 8 := List.mem_range.1 (List.mem_of_mem_filter hm)
  have h1 := widthLanes_le (mapWidth (s.reg Reg.FAB_PORTMAP) m) (Nat.mod_lt _ (by decide))
  have h2 := widthLanes_le (mapWidth (data &&& 0xFFFFFF#32) m) (Nat.mod_lt _ (by decide))
  rw [hoff _ (by omega)]
  rfl

theorem State.portmapWrite_illegal {data : Word} (hv : mapValid (data &&& 0xFFFFFF#32) = false) :
    s.portmapWrite data = s.raiseN 106 Reg.FAB_PORTMAP := if_neg (by simp [hv])

/-- The bits that a port map has not do not count for its widths. -/
theorem mapWidth_masked (data : Word) {m : Nat} (hm : m < 8) : mapWidth (data &&& 0xFFFFFF#32) m = mapWidth data m := by
  have h24 : (data &&& 0xFFFFFF#32).toNat = data.toNat % 2 ^ 24 := by
    rw [BitVec.toNat_and]
    exact Nat.and_two_pow_sub_one_eq_mod _ 24
  unfold mapWidth
  rw [h24]
  interval_cases m <;> omega

/-! ### The SerDes PLLs -/

/-- SYNTH_SERDES_CTRL after a write of one of its bits: MODE only while EN is 0 (R83). -/
def serdesTake (old data w : Word) (b : Nat) : Word :=
  if b % 2 == 1 && testBit old (b - 1) then w else maskSet w b (testBit data b)

/-- SYNTH_SERDES_CTRL after a write. -/
def serdesWord (old data : Word) : Word := (List.range 5).foldl (serdesTake old data) old

/-- A PLL that is not enabled is not locked. -/
def State.serdesDrop (w : Word) (s : State) (p : Nat) : State :=
  if testBit w (2 * p) then s
  else s.setReg Reg.SYNTH_SYS_STATUS (maskSet (s.reg Reg.SYNTH_SYS_STATUS) (1 + p) false)

theorem State.serdesWrite_eq (s : State) (data : Word) : s.serdesWrite data =
    ((List.range 3).foldl (State.serdesDrop (serdesWord (s.reg Reg.SYNTH_SERDES_CTRL) data))
      (s.setReg Reg.SYNTH_SERDES_CTRL (serdesWord (s.reg Reg.SYNTH_SERDES_CTRL) data))).syncPorts := rfl

theorem testBit_serdesTake (old data w : Word) {b p : Nat} (hb : b < 32) :
    testBit (serdesTake old data w b) (2 * p) = if b = 2 * p then testBit data b else testBit w (2 * p) := by
  unfold serdesTake
  split
  · next h =>
    have : b % 2 = 1 := by simp_all
    rw [if_neg (by omega)]
  · exact testBit_maskSet w hb _ _

theorem testBit_serdesWord (old data : Word) {p : Nat} (hp : p < 3) :
    testBit (serdesWord old data) (2 * p) = testBit data (2 * p) := by
  have h : serdesWord old data = [0, 1, 2, 3, 4].foldl (serdesTake old data) old := rfl
  simp only [h, List.foldl_cons, List.foldl_nil, testBit_serdesTake _ _ _ (show 0 < 32 by decide),
    testBit_serdesTake _ _ _ (show 1 < 32 by decide), testBit_serdesTake _ _ _ (show 2 < 32 by decide),
    testBit_serdesTake _ _ _ (show 3 < 32 by decide), testBit_serdesTake _ _ _ (show 4 < 32 by decide)]
  interval_cases p <;> rfl

theorem State.serdesDrop_locked (w : Word) (s : State) {q : Nat} (hq : q < 3) (p : Nat) :
    (s.serdesDrop w q).pllLocked p = (s.pllLocked p && (testBit w (2 * q) || decide (q ≠ p))) := by
  unfold State.serdesDrop
  cases hw : testBit w (2 * q)
  · have h1 : (s.setReg Reg.SYNTH_SYS_STATUS (maskSet (s.reg Reg.SYNTH_SYS_STATUS) (1 + q) false)).pllLocked p =
        if 1 + q = 1 + p then false else s.pllLocked p := by
      rw [State.pllLocked, State.reg_setReg, if_pos rfl]
      exact testBit_maskSet _ (by omega) _ _
    rw [if_neg (by decide), h1]
    by_cases h : q = p <;> simp [h]
  · simp

theorem State.serdesDrops_locked (w : Word) (s : State) {p : Nat} (hp : p < 3) :
    ((List.range 3).foldl (State.serdesDrop w) s).pllLocked p = (s.pllLocked p && testBit w (2 * p)) := by
  have h : (List.range 3).foldl (State.serdesDrop w) s = ((s.serdesDrop w 0).serdesDrop w 1).serdesDrop w 2 := rfl
  rw [h, State.serdesDrop_locked _ _ (by decide), State.serdesDrop_locked _ _ (by decide),
    State.serdesDrop_locked _ _ (by decide)]
  interval_cases p <;> simp

theorem Frame.serdesDrops (h : Frame R P s t) (w : Word) (hR : R Reg.SYNTH_SYS_STATUS = true) :
    Frame R P s ((List.range 3).foldl (State.serdesDrop w) t) :=
  h.foldl _ _ fun _ _ _ hu => .ite hu (hu.setReg _ _ hR)

/-- What a write of SYNTH_SERDES_CTRL makes of a PLL (R83, R102). -/
theorem State.serdesWrite_pll (s : State) (data : Word) {p : Nat} (hp : p < 3) :
    (s.serdesWrite data).pllOn p = testBit data (2 * p) ∧
      (s.serdesWrite data).pllLocked p = (s.pllLocked p && testBit data (2 * p)) := by
  set w := serdesWord (s.reg Reg.SYNTH_SERDES_CTRL) data with hw
  have hreg : ∀ a, a < 0x1000000 → (s.serdesWrite data).reg a =
      ((List.range 3).foldl (State.serdesDrop w) (s.setReg Reg.SYNTH_SERDES_CTRL w)).reg a := fun a ha =>
    State.syncPortList_reg _ fun m _ => by unfold Reg.MAC_STATUS; omega
  have hctrl : (s.serdesWrite data).reg Reg.SYNTH_SERDES_CTRL = w := by
    rw [hreg _ (by decide), (Frame.serdesDrops (Frame.refl (R := fun a => a == Reg.SYNTH_SYS_STATUS) (P := [])) w
      (by simp)).1 _ (by decide), State.reg_setReg, if_pos rfl]
  refine ⟨?_, ?_⟩
  · rw [State.pllOn, hctrl, hw, testBit_serdesWord _ _ hp]
  · have h1 := State.serdesDrops_locked w (s.setReg Reg.SYNTH_SERDES_CTRL w) hp
    rw [State.pllLocked] at h1
    rw [State.pllLocked, hreg _ (by decide), h1, hw, testBit_serdesWord _ _ hp, State.pllLocked,
      State.reg_setReg_ne _ _ _ _ (by decide)]
    rfl

/-! ### Locks of the SerDes PLLs -/

/-- The lock of a SerDes PLL shown (R102). -/
def State.lockShown (s : State) (p : Nat) (b : Bool) : State :=
  s.setReg Reg.SYNTH_SYS_STATUS (maskSet (s.reg Reg.SYNTH_SYS_STATUS) (1 + p) b)

theorem State.pllLocked_lockShown (s : State) {p : Nat} (hp : p < 3) (b : Bool) : (s.lockShown p b).pllLocked p = b := by
  rw [State.pllLocked, State.lockShown, State.reg_setReg, if_pos rfl]
  exact (testBit_maskSet _ (by omega) _ _).trans (if_pos rfl)

theorem State.pllLocked_congr (h : t.reg Reg.SYNTH_SYS_STATUS = s.reg Reg.SYNTH_SYS_STATUS) (p : Nat) :
    t.pllLocked p = s.pllLocked p := by rw [State.pllLocked, h, State.pllLocked]

theorem State.spllLock_on {p : Nat} (h : s.pllOn p = true) : s.spllLock p = (s.lockShown p true).laneStarts (pllLanes p) :=
  if_pos h

theorem mem_pllLanes {n p : Nat} : n ∈ pllLanes p ↔ n < 10 ∧ lanePll n = p := by simp [pllLanes]

theorem nodup_pllLanes (p : Nat) : (pllLanes p).Nodup := List.Nodup.filter _ List.nodup_range

/-- A lane of the PLL starts by what stood before the lock. -/
theorem State.spllLock_lane {p : Fin 3} (hon : s.pllOn p = true) {n : Nat} (hn : n < 10) (hp : lanePll n = p)
    (h0 : s.lane n = 0) (hl : s.laneOn n = true) (hd : s.laneDead n = false) : (s.spllLock p).lane n = s.trainState n := by
  have hreg : ∀ a, a ≠ Reg.SYNTH_SYS_STATUS → (s.lockShown p true).reg a = s.reg a := fun a ha =>
    State.reg_setReg_ne _ _ _ _ ha.symm
  obtain ⟨hl', hd', ht'⟩ : SameStart n s (s.lockShown p true) := by
    refine SameStart.of_regs fun a ha => hreg a ?_
    simp only [List.mem_cons, List.not_mem_nil, or_false] at ha
    rcases ha with rfl | rfl | rfl | rfl
    · unfold Reg.FAB_LANE_CTRL Reg.SYNTH_SYS_STATUS; omega
    · decide
    · decide
    · decide
  have h0' : (s.lockShown p true).lane n = s.lane n :=
    State.lane_congr (hreg _ (by unfold Reg.FAB_LANE_STATUS Reg.SYNTH_SYS_STATUS; omega))
  rw [State.spllLock_on hon, State.laneStarts_lane _ (nodup_pllLanes p) (mem_pllLanes.2 ⟨hn, hp⟩) hn (h0'.trans h0)
    (hl'.trans hl) (by rw [hp, State.pllLocked_lockShown _ p.isLt]) (hd'.trans hd), ht']

end Sys2Proof.Machine
end

section
/-! SUPPORT. FEC windows and the wake pattern (R315-R318, R338, R345, R349). -/

namespace Sys2Proof.Machine

variable {R : Nat → Bool} {P : List Part} {s t : State}

/-! ### Wide counters -/

theorem State.reg64_count64 (s : State) (a n : Nat) : (s.count64 a n).reg64 a = (s.reg64 a + n) % 2 ^ 64 := by
  unfold State.count64
  generalize s.reg64 a + n = k
  simp only [State.reg64, State.regN, State.reg_setReg64, if_true, if_neg (show ¬a + 4 = a by omega), BitVec.toNat_ofNat]
  omega

theorem State.reg_count64_ne (s : State) {a b : Nat} (n : Nat) (h0 : b ≠ a) (h4 : b ≠ a + 4) :
    (s.count64 a n).reg b = s.reg b := by
  rw [State.count64, State.reg_setReg64, if_neg h4.symm, if_neg h0.symm]

theorem State.reg64_count64_ne (s : State) {a b : Nat} (n : Nat) (h : b + 4 < a ∨ a + 4 < b) :
    (s.count64 a n).reg64 b = s.reg64 b :=
  State.reg64_congr (s.reg_count64_ne n (by omega) (by omega)) (s.reg_count64_ne n (by omega) (by omega))

theorem Steady.count64 (h : Steady R P s t) (a n : Nat) (ha : R a = true) (hb : R (a + 4) = true) (hl : 0x200000 ≤ a) :
    Steady R P s (t.count64 a n) := h.setReg64 a _ ha hb hl

/-! ### FEC windows -/

theorem State.lane_setSignal (s : State) (n : Nat) (b : Bool) : (s.setSignal n b).lane n = s.lane n :=
  s.fld_setBit_apart _ (by decide) (by decide) _

theorem State.signal_setSignal (s : State) (n : Nat) (b : Bool) :
    (s.setSignal n b).bit (Reg.FAB_LANE_STATUS n) Fld.FAB_LANE_STATUS_SIGNAL = b :=
  s.bit_setBit_same _ _ _ (by decide) rfl

theorem State.reg_setSignal_ne (s : State) {n a : Nat} (b : Bool) (h : a ≠ Reg.FAB_LANE_STATUS n) :
    (s.setSignal n b).reg a = s.reg a := State.reg_setReg_ne _ _ _ _ h.symm

/-- The threshold of DEGRADED (R316). -/
def State.fecThresh (s : State) (n : Nat) : Nat := max 1 (s.fld (Reg.FAB_FEC_DEGRADE n) Fld.FAB_FEC_DEGRADE_THRESH)

/-- The FEC counters of a lane after a window in ALIGN or UP (R315). -/
def State.fecCounted (s : State) (n corr uncorr sym : Nat) : State :=
  ((s.count64 (Reg.FAB_FEC_CORR n) corr).count64 (Reg.FAB_FEC_UNCORR n) uncorr).count64 (Reg.FAB_FEC_SYMERR n) sym

/-- DEGRADED after a window with y symbol errors against a threshold (R316, R317). -/
def State.fecDecided (s : State) (n th y : Nat) : State :=
  if th ≤ y then (s.setBit (Reg.FAB_LANE_STATUS n) Fld.FAB_LANE_STATUS_DEGRADED true).raiseN 101 n
  else if 2 * y < th then s.setBit (Reg.FAB_LANE_STATUS n) Fld.FAB_LANE_STATUS_DEGRADED false else s

theorem State.fecWindow_counts {n : Nat} (hl : s.lane n = 3 ∨ s.lane n = 4) (corr uncorr sym prbs : Nat) (signal : Bool) :
    s.fecWindow n corr uncorr sym prbs signal =
      let u := ((s.setSignal n signal).fecCounted n corr uncorr sym).fecDecided n (s.fecThresh n) sym
      if 0 < uncorr then u.raiseMs (limitKey 102 n) 102 n else u := by
  have hw : s.laneWindow n prbs signal = s.setSignal n signal := by
    rw [State.laneWindow, if_neg (by omega)]
    exact if_neg fun h => by omega
  have hon : ((s.setSignal n signal).lane n == 3 || (s.setSignal n signal).lane n == 4) = true := by
    rw [State.lane_setSignal]
    rcases hl with h | h <;> rw [h] <;> rfl
  have hth : (s.setSignal n signal).fecThresh n = s.fecThresh n := by
    rw [State.fecThresh, State.fld_congr (s.reg_setSignal_ne signal (by
      unfold Reg.FAB_FEC_DEGRADE Reg.FAB_LANE_STATUS; omega))]
    rfl
  rw [State.fecThresh] at hth
  simp only [State.fecWindow, hw, hon, hth, if_true, Bool.true_and, decide_eq_true_eq]
  rfl

theorem Steady.fecDecided (h : Steady R P s t) (hA : AllowsEvents R P) (n th y : Nat) (hR : R (Reg.FAB_LANE_STATUS n) = true) :
    Steady R P s (t.fecDecided n th y) :=
  have hb (b : Bool) := h.setBit _ Fld.FAB_LANE_STATUS_DEGRADED b hR (laneStatus_high n)
  .ite ((hb true).raiseN hA _ _ (by decide)) (.ite (hb false) h)

theorem State.fecDecided_signal (s : State) (n th y : Nat) :
    (s.fecDecided n th y).bit (Reg.FAB_LANE_STATUS n) Fld.FAB_LANE_STATUS_SIGNAL =
      s.bit (Reg.FAB_LANE_STATUS n) Fld.FAB_LANE_STATUS_SIGNAL := by
  unfold State.fecDecided
  split_ifs
  · rw [State.bit_congr (State.reg_raiseN_high _ _ (by decide) (laneStatus_high n)),
      State.bit_setBit_apart _ _ (by decide) (by decide)]
  · exact s.bit_setBit_apart _ (by decide) (by decide) _
  · rfl

theorem State.fecDecided_degraded {n th y : Nat} (h : th ≤ y) (hq : s.tally.silent = false) :
    (s.fecDecided n th y).shown 101 ∧
      (s.fecDecided n th y).bit (Reg.FAB_LANE_STATUS n) Fld.FAB_LANE_STATUS_DEGRADED = true := by
  rw [State.fecDecided, if_pos h]
  refine ⟨State.raiseN_shown _ _ _ (by decide) (by rw [State.setBit_tally, hq]), ?_⟩
  rw [State.bit_congr (State.reg_raiseN_high _ _ (by decide) (laneStatus_high n)),
    State.bit_setBit_same _ _ _ _ (by decide) rfl]

theorem State.fecDecided_recovered (s : State) {n th y : Nat} (h : 2 * y < th) :
    (s.fecDecided n th y).bit (Reg.FAB_LANE_STATUS n) Fld.FAB_LANE_STATUS_DEGRADED = false := by
  rw [State.fecDecided, if_neg (by omega), if_pos h]
  exact s.bit_setBit_same _ _ _ (by decide) rfl

/-- The FEC counters of a lane. -/
def fecRegs (n a : Nat) : Bool := inRange (Reg.FAB_FEC_CORR n) (Reg.FAB_FEC_CORR n + 24) a

theorem Steady.fecCounted (h : Steady R P s t) (n corr uncorr sym : Nat) (hR : ∀ a, fecRegs n a = true → R a = true) :
    Steady R P s (t.fecCounted n corr uncorr sym) := by
  have hr : ∀ a, Reg.FAB_FEC_CORR n ≤ a → a < Reg.FAB_FEC_CORR n + 24 → R a = true := fun a h1 h2 =>
    hR a (inRange_iff.2 ⟨h1, h2⟩)
  have hl : 0x200000 ≤ Reg.FAB_FEC_CORR n := by unfold Reg.FAB_FEC_CORR; omega
  have hu : Reg.FAB_FEC_UNCORR n = Reg.FAB_FEC_CORR n + 8 := by unfold Reg.FAB_FEC_CORR Reg.FAB_FEC_UNCORR; omega
  have hs : Reg.FAB_FEC_SYMERR n = Reg.FAB_FEC_CORR n + 16 := by unfold Reg.FAB_FEC_CORR Reg.FAB_FEC_SYMERR; omega
  rw [State.fecCounted, hu, hs]
  exact ((h.count64 _ _ (hr _ (by omega) (by omega)) (hr _ (by omega) (by omega)) hl).count64 _ _ (hr _ (by omega) (by omega))
    (hr _ (by omega) (by omega)) (by omega)).count64 _ _ (hr _ (by omega) (by omega)) (hr _ (by omega) (by omega)) (by omega)

theorem State.fecCounted_counts (s : State) (n corr uncorr sym : Nat) :
    (s.fecCounted n corr uncorr sym).reg64 (Reg.FAB_FEC_CORR n) = (s.reg64 (Reg.FAB_FEC_CORR n) + corr) % 2 ^ 64 ∧
      (s.fecCounted n corr uncorr sym).reg64 (Reg.FAB_FEC_UNCORR n) =
        (s.reg64 (Reg.FAB_FEC_UNCORR n) + uncorr) % 2 ^ 64 ∧
      (s.fecCounted n corr uncorr sym).reg64 (Reg.FAB_FEC_SYMERR n) =
        (s.reg64 (Reg.FAB_FEC_SYMERR n) + sym) % 2 ^ 64 := by
  have hcu : Reg.FAB_FEC_CORR n + 4 < Reg.FAB_FEC_UNCORR n := by unfold Reg.FAB_FEC_CORR Reg.FAB_FEC_UNCORR; omega
  have hus : Reg.FAB_FEC_UNCORR n + 4 < Reg.FAB_FEC_SYMERR n := by unfold Reg.FAB_FEC_UNCORR Reg.FAB_FEC_SYMERR; omega
  unfold State.fecCounted
  refine ⟨?_, ?_, ?_⟩
  · rw [State.reg64_count64_ne _ _ (.inl (by omega)), State.reg64_count64_ne _ _ (.inl hcu), State.reg64_count64]
  · rw [State.reg64_count64_ne _ _ (.inl hus), State.reg64_count64, State.reg64_count64_ne _ _ (.inr hcu)]
  · rw [State.reg64_count64, State.reg64_count64_ne _ _ (.inr hus), State.reg64_count64_ne _ _ (.inr (by omega))]

theorem fecRegs_status {n : Nat} : fecRegs n (Reg.FAB_LANE_STATUS n) = false := by
  refine Bool.eq_false_iff.2 fun h => ?_
  have hlo := (inRange_iff.1 h).1
  unfold Reg.FAB_FEC_CORR Reg.FAB_LANE_STATUS at hlo
  omega

/-- What a window in ALIGN or UP leaves (R315-R317). -/
theorem State.fecWindow_leaves {n : Nat} (hl : s.lane n = 3 ∨ s.lane n = 4) (hq : s.tally.silent = false)
    (corr uncorr sym prbs : Nat) (signal : Bool) (t : State) (ht : s.fecWindow n corr uncorr sym prbs signal = t) :
    t.bit (Reg.FAB_LANE_STATUS n) Fld.FAB_LANE_STATUS_SIGNAL = signal ∧
      (∀ a, fecRegs n a = true → t.reg a = ((s.setSignal n signal).fecCounted n corr uncorr sym).reg a) ∧
      (s.fecThresh n ≤ sym → t.shown 101 ∧ t.bit (Reg.FAB_LANE_STATUS n) Fld.FAB_LANE_STATUS_DEGRADED = true) ∧
      (2 * sym < s.fecThresh n → t.bit (Reg.FAB_LANE_STATUS n) Fld.FAB_LANE_STATUS_DEGRADED = false) ∧
      FrameEv (fun a => a == Reg.FAB_LANE_STATUS n || fecRegs n a) [] s t := by
  rw [State.fecWindow_counts hl] at ht
  set v := (s.setSignal n signal).fecCounted n corr uncorr sym with hv
  set u := v.fecDecided n (s.fecThresh n) sym with hu
  have hA : ∀ R : Nat → Bool, AllowsEvents (fun a => eventReg a || R a) [.events] := fun R => .ev R []
  have hsv : Steady (fun a => eventReg a || (a == Reg.FAB_LANE_STATUS n || fecRegs n a)) [.events] s v :=
    (Steady.refl.setBit _ _ _ (by simp) (laneStatus_high n)).fecCounted n corr uncorr sym fun a ha => by simp [ha]
  have hvu : Steady (fun a => eventReg a || a == Reg.FAB_LANE_STATUS n) [.events] v u :=
    Steady.refl.fecDecided (hA _) n _ sym (by simp)
  have hut : Steady (fun a => eventReg a || noRegs a) [.events] u t := by
    rw [← ht]
    exact .ite (Steady.refl.raiseMs (hA _) _ _ _ (by decide)) .refl
  have hstatus : t.reg (Reg.FAB_LANE_STATUS n) = u.reg (Reg.FAB_LANE_STATUS n) :=
    FrameEv.reg_eq hut.1 _ (eventReg_high _ (laneStatus_high n)) rfl
  refine ⟨?_, fun a ha => ?_, fun hth => ?_, fun hth => ?_, ?_⟩
  · have hfec : v.reg (Reg.FAB_LANE_STATUS n) = (s.setSignal n signal).reg (Reg.FAB_LANE_STATUS n) :=
      (Steady.refl.fecCounted (R := fecRegs n) (P := []) n corr uncorr sym fun _ h => h).1.1 _ fecRegs_status
    rw [State.bit_congr hstatus, hu, State.fecDecided_signal, State.bit_congr hfec, State.signal_setSignal]
  · have hhigh : 0x200000 ≤ a := le_trans (by unfold Reg.FAB_FEC_CORR; omega) (inRange_iff.1 ha).1
    have hne : a ≠ Reg.FAB_LANE_STATUS n := by
      rintro rfl
      exact Bool.noConfusion (fecRegs_status.symm.trans ha)
    rw [FrameEv.reg_eq hut.1 a (eventReg_high a hhigh) rfl, FrameEv.reg_eq hvu.1 a (eventReg_high a hhigh) (by simpa using hne)]
  · obtain ⟨h1, h2⟩ := State.fecDecided_degraded (s := v) (n := n) hth (hsv.2.2.trans hq)
    exact ⟨hut.2.shown 101 (by decide) h1, (State.bit_congr hstatus _).trans h2⟩
  · rw [State.bit_congr hstatus, hu, State.fecDecided_recovered _ hth]
  · refine hsv.1.trans ((Frame.mono hvu.1 (fun a ha => ?_) (by simp)).trans (Frame.mono hut.1 (fun a ha => ?_) (by simp)))
    · rw [← Bool.or_assoc, ha, Bool.true_or]
    · rw [noRegs, Bool.or_false] at ha
      rw [ha, Bool.true_or]

/-- What a window of a lane that checks PRBS31 leaves (R318). -/
theorem State.fecWindow_prbs {n : Nat} (hl : s.lane n = 6) (hloop : s.laneLoop n = 3) (corr uncorr sym prbs : Nat)
    (signal : Bool) : s.fecWindow n corr uncorr sym prbs signal =
      ((s.setSignal n signal).count64 (Reg.FAB_PRBS_ERR n) prbs).setBit (Reg.FAB_LANE_STATUS n)
        Fld.FAB_LANE_STATUS_DEGRADED false := by
  have hw : s.laneWindow n prbs signal = (s.setSignal n signal).count64 (Reg.FAB_PRBS_ERR n) prbs := by
    rw [State.laneWindow, if_neg (by omega)]
    exact if_pos ⟨hl, hloop⟩
  have hlane : ((s.setSignal n signal).count64 (Reg.FAB_PRBS_ERR n) prbs).lane n = 6 := by
    rw [State.lane_congr (State.reg_count64_ne _ _ (by unfold Reg.FAB_LANE_STATUS Reg.FAB_PRBS_ERR; omega)
      (by unfold Reg.FAB_LANE_STATUS Reg.FAB_PRBS_ERR; omega)), State.lane_setSignal, hl]
  have hon : (((s.setSignal n signal).count64 (Reg.FAB_PRBS_ERR n) prbs).lane n == 3 ||
      ((s.setSignal n signal).count64 (Reg.FAB_PRBS_ERR n) prbs).lane n == 4) = false := by
    rw [hlane]
    rfl
  have hle : ∀ k : Nat, ¬max 1 k ≤ 0 := fun k => by omega
  have hlt : ∀ k : Nat, 2 * 0 < max 1 k := fun k => by omega
  simp only [State.fecWindow, hw, hon, hle, hlt, Bool.false_and, Bool.false_eq_true, if_false, if_true]

/-! ### The wake pattern -/

theorem State.wakeSend_refused {data : Word} {n : Nat} (hn : Fld.FAB_WAKE_CTRL_SEND_LANE.get data = n)
    (hd : s.laneDead n = true) : s.wakeSend data = (s.wakeCtrl data).raiseN 106 Reg.FAB_WAKE_CTRL :=
  if_pos (.inr (.inl (hn ▸ hd)))

theorem State.wakeSend_sends {data : Word} {n : Nat} (hlt : n < 10) (hn : Fld.FAB_WAKE_CTRL_SEND_LANE.get data = n)
    (hd : s.laneDead n = false) (hl : s.lane n ≠ 4 ∧ s.lane n ≠ 6 ∧ s.lane n ≠ 7) :
    s.wakeSend data = (s.wakeCtrl data).setLane n 7 := by
  rw [State.wakeSend, hn]
  refine if_neg ?_
  simp [hd, hl, hlt]

theorem State.wakeSent_done {n : Nat} (h : s.lane n = 7) :
    s.wakeSent n = (s.setLane n (if s.laneOn n then 5 else 0)).raiseN 107 n := if_pos h

end Sys2Proof.Machine
end

section
/-! The fabric's control commands. -/

open Sys2Proof Sys2Proof.Machine

/-- Settles O31: the port map and the SerDes PLLs by the words they write, a FEC window by what it counts and decides, the wake
pattern by the lane's state. -/
theorem fabricControl : Obligations.FabricControl := by
  refine ⟨?map, ?badMap, ?serdes, ?lock, ?unlock, ?window, ?prbs, ?wakeDead, ?wake, ?wakeDone⟩
  case map =>
    intro data s hv hoff
    set u := s.setReg Reg.FAB_PORTMAP (data &&& 0xFFFFFF#32) with hu
    have hmap : u.reg Reg.FAB_PORTMAP = data &&& 0xFFFFFF#32 := (s.reg_setReg _ _ _).trans (if_pos rfl)
    refine ⟨_, congrArg Host.Outcome.next (State.portmapWrite_legal hv hoff), ?_, fun m hm => ?_, ?_⟩
    · exact (u.syncPortList_reg fun _ _ => portmap_ne_macStatus).trans hmap
    · rw [State.syncPorts_eq, u.syncPortList_width (List.mem_range.2 hm), State.portWidth, State.regN, hmap]
      exact mapWidth_masked data hm
    · refine Frame.syncPorts (Frame.refl.setReg _ _ (by simp)) fun m hm => ?_
      rw [Bool.or_eq_true, List.any_eq_true]
      exact .inr ⟨m, List.mem_range.2 hm, beq_self_eq_true _⟩
  case badMap =>
    intro data s hv hq
    exact ⟨_, congrArg Host.Outcome.next (State.portmapWrite_illegal hv), State.raiseN_shown _ _ _ (by decide) hq,
      s.raiseN_frame _ _ (by decide)⟩
  case serdes =>
    intro data s
    refine ⟨_, rfl, fun p hp => ?_, ?_⟩
    · obtain ⟨hon, hlocked⟩ := s.serdesWrite_pll data hp
      exact ⟨hon, fun h => by rw [hlocked, h, Bool.and_false], fun h => by rw [hlocked, h, Bool.and_true]⟩
    · rw [State.serdesWrite_eq]
      refine Frame.syncPorts ((Frame.refl.setReg _ _ (by simp)).serdesDrops _ (by simp)) fun m hm => ?_
      rw [Bool.or_eq_true, List.any_eq_true]
      exact .inr ⟨m, List.mem_range.2 hm, beq_self_eq_true _⟩
  case lock =>
    intro p s hon
    refine ⟨_, rfl, ?_, fun n hn hp h0 hl hd => State.spllLock_lane hon hn hp h0 hl hd, ?_⟩
    · rw [State.spllLock_on hon, State.pllLocked_congr (State.laneStarts_reg _ (by decide) fun _ _ => laneRegs_below (by decide)),
        State.pllLocked_lockShown _ p.isLt]
    · rw [State.spllLock_on hon]
      have h1 : FrameEv (fun a => a == Reg.SYNTH_SYS_STATUS || (List.range 10).any (fun l => laneRegs l a)) [] s
          (s.lockShown p true) := Frame.refl.setReg _ _ (by simp)
      refine h1.trans ((State.laneStarts_frame _ _).widen (fun a ha => ?_) (by simp))
      obtain ⟨n, hn, hr⟩ := List.any_eq_true.1 ha
      rw [Bool.or_eq_true, List.any_eq_true]
      exact .inr ⟨n, List.mem_range.2 (mem_pllLanes.1 hn).1, hr⟩
  case unlock =>
    intro p s hon hl hq
    have he : s.spllUnlock p = (s.lockShown p false).raiseN 9 p := if_pos (by rw [hon, hl]; rfl)
    refine ⟨_, congrArg Host.Outcome.next he, ?_, State.raiseN_shown _ _ _ (by decide) hq,
      Frame.raiseN (Frame.refl.setReg _ _ (by simp)) (AllowsEvents.ev _ _) _ _ (by decide)⟩
    rw [State.pllLocked_congr (State.reg_raiseN_high _ _ (by decide) (by decide)), State.pllLocked_lockShown _ p.isLt]
  case window =>
    intro n corr uncorr sym prbs signal s hl hq
    obtain ⟨hsignal, hcount, hdegraded, hrecovered, hframe⟩ := State.fecWindow_leaves hl hq corr uncorr sym prbs signal _ rfl
    obtain ⟨hc, hu, hs⟩ := (s.setSignal n signal).fecCounted_counts n corr uncorr sym
    have hun : Reg.FAB_FEC_UNCORR n = Reg.FAB_FEC_CORR n + 8 := by unfold Reg.FAB_FEC_CORR Reg.FAB_FEC_UNCORR; omega
    have hsy : Reg.FAB_FEC_SYMERR n = Reg.FAB_FEC_CORR n + 16 := by unfold Reg.FAB_FEC_CORR Reg.FAB_FEC_SYMERR; omega
    have hst : Reg.FAB_LANE_STATUS n < Reg.FAB_FEC_CORR n := by unfold Reg.FAB_FEC_CORR Reg.FAB_LANE_STATUS; omega
    have hnew : ∀ a, Reg.FAB_FEC_CORR n ≤ a → a < Reg.FAB_FEC_CORR n + 20 →
        (s.fecWindow n corr uncorr sym prbs signal).reg64 a =
          ((s.setSignal n signal).fecCounted n corr uncorr sym).reg64 a := fun a h1 h2 =>
      State.reg64_congr (hcount _ (inRange_iff.2 (by omega))) (hcount _ (inRange_iff.2 (by omega)))
    have hold : ∀ a, Reg.FAB_FEC_CORR n ≤ a → (s.setSignal n signal).reg64 a = s.reg64 a := fun a ha =>
      State.reg64_congr (s.reg_setSignal_ne _ (by omega)) (s.reg_setSignal_ne _ (by omega))
    refine ⟨_, rfl, hsignal, ?_, ?_, ?_, hdegraded, hrecovered, hframe⟩
    · rw [hnew _ (by omega) (by omega), hc, hold _ (by omega)]
    · rw [hnew _ (by omega) (by omega), hu, hold _ (by omega)]
    · rw [hnew _ (by omega) (by omega), hs, hold _ (by omega)]
  case prbs =>
    intro n corr uncorr sym prbs signal s hl hloop
    have hne : Reg.FAB_LANE_STATUS n + 4 < Reg.FAB_PRBS_ERR n := by unfold Reg.FAB_LANE_STATUS Reg.FAB_PRBS_ERR; omega
    refine ⟨_, congrArg Host.Outcome.next (State.fecWindow_prbs hl hloop corr uncorr sym prbs signal), ?_, ?_, ?_⟩
    · have h1 : (s.setSignal n signal).reg64 (Reg.FAB_PRBS_ERR n) = s.reg64 (Reg.FAB_PRBS_ERR n) :=
        State.reg64_congr (s.reg_setSignal_ne _ (by omega)) (s.reg_setSignal_ne _ (by omega))
      have h2 := (s.setSignal n signal).reg64_count64 (Reg.FAB_PRBS_ERR n) prbs
      rw [h1] at h2
      exact (State.reg64_congr (State.reg_setReg_ne _ _ _ _ (by omega)) (State.reg_setReg_ne _ _ _ _ (by omega))).trans h2
    · rw [State.bit_setBit_apart _ _ (by decide) (by decide), State.bit_congr (State.reg_count64_ne _ _ (by omega) (by omega)),
        State.signal_setSignal]
    · exact ((Frame.refl.setBit _ _ _ (by simp)).count64 _ _ (by simp [inRange]) (by simp [inRange])).setBit _ _ _ (by simp)
  case wakeDead =>
    intro data s n hsend hd hn hq
    have he : exec (.wakeSend data) s = .next ((s.wakeCtrl data).raiseN 106 Reg.FAB_WAKE_CTRL) :=
      (if_pos hsend).trans (congrArg Host.Outcome.next (State.wakeSend_refused hn hd))
    refine ⟨_, he, ?_, State.raiseN_shown _ _ _ (by decide) (by rw [State.wakeCtrl, State.writeWord_tally, hq]),
      Frame.raiseN (Frame.refl.writeWord _ _ (by simp)) (AllowsEvents.ev _ _) _ _ (by decide)⟩
    exact (State.lane_congr (State.reg_raiseN_high _ _ (by decide) (laneStatus_high n))).trans
      (State.lane_congr (s.reg_writeWord_ne _ _ _ (wakeCtrl_ne_status n.isLt)))
  case wake =>
    intro data s n hsend hd hn h4 h6 h7
    have he : exec (.wakeSend data) s = .next ((s.wakeCtrl data).setLane n 7) :=
      (if_pos hsend).trans (congrArg Host.Outcome.next (State.wakeSend_sends n.isLt hn hd ⟨h4, h6, h7⟩))
    have h1 : FrameEv (laneRegs n) [] s (s.wakeCtrl data) := Frame.refl.writeWord _ _ (by simp [laneRegs])
    exact ⟨_, he, State.lane_setLane _ n.isLt (by decide), State.sending_setLane _ n.isLt,
      h1.trans (Steady.refl.setLane (AllowsEvents.ev _ _) n 7 fun a ha => by simp [ha]).1⟩
  case wakeDone =>
    intro n s h7 hq
    have h1 : Steady (fun a => eventReg a || laneRegs n a) [.events] s (s.setLane n (if s.laneOn n then 5 else 0)) :=
      Steady.refl.setLane (AllowsEvents.ev _ _) n _ fun a ha => by simp [ha]
    refine ⟨_, congrArg Host.Outcome.next (State.wakeSent_done h7), ?_, State.raiseN_shown _ _ _ (by decide) (h1.2.2.trans hq),
      h1.1.raiseN (AllowsEvents.ev _ _) _ _ (by decide)⟩
    rw [State.lane_congr (State.reg_raiseN_high _ _ (by decide) (laneStatus_high n)),
      State.lane_setLane _ n.isLt (by split <;> decide)]

end

section
/-! System PLL, memory clear, device reset and dormant mode. -/

open Sys2Proof Sys2Proof.Machine

namespace Sys2Proof.Machine

/-- A frame of an entry that the stream table, whose 8192 entries end at index 8191, does not hold. -/
def strayFrame : QFrame := ⟨[], false, 0, 0, 0, .folio 8192, false, 0, 0, 0, []⟩

/-- Lane 0 in UP as the one lane of a port that is UP, with such a frame in the port's BULK queue. -/
def strayState : State :=
  ((({ power := .running, stream := { egress := [(0, { bulk := [strayFrame] })] } : State }.setFld (Reg.FAB_LANE_STATUS 0)
    Fld.FAB_LANE_STATUS_STATE 4).setReg Reg.FAB_PORTMAP 1).setBit (Reg.MAC_STATUS 0) Fld.MAC_STATUS_LINK true)

/-- The entry to dormant mode takes the port down, which counts the discarded frame at the place of TX_DROP of its entry (R387). -/
theorem strayState_dormantEnter : strayState.dormantEnter.regN (Reg.STREAM_ENTRY_COUNT 8192 4) = 1 := by decide +kernel

end Sys2Proof.Machine

/-- Refutes O44: its clause on the entry to dormant mode ranges over every state, and where a queued frame names an entry beyond
the stream table, the count of its discard lies beyond the entry counters that the clause's frame allows to change. -/
theorem not_powerStates : ¬ Obligations.PowerStates := by
  rintro ⟨-, -, -, -, -, -, hdormant, -⟩
  obtain ⟨t, ht, -, -, -, -, hframe⟩ := hdormant strayState (by decide +kernel) (by decide +kernel) (by decide +kernel)
  obtain rfl : strayState.dormantEnter = t := Host.Outcome.next.inj ht
  have hkept : strayState.dormantEnter.reg (Reg.STREAM_ENTRY_COUNT 8192 4) = strayState.reg (Reg.STREAM_ENTRY_COUNT 8192 4) :=
    hframe.reg_eq _ (by decide) (by decide +kernel)
  have hzero : strayState.reg (Reg.STREAM_ENTRY_COUNT 8192 4) = 0 := by decide +kernel
  have hone := strayState_dormantEnter
  rw [State.regN, hkept, hzero] at hone
  exact absurd hone (by decide)

end

section
/-! SUPPORT. What an engine keeps up to the effect of its instruction, and what a fault leaves (R148, R152-R156, R160). -/

namespace Sys2Proof.Machine

variable {R : Nat → Bool} {P : List Part} {s t u : State}

theorem Steady.raiseOnce (h : Steady R P s t) (hA : AllowsEvents R P) (key k src w3 : Nat) (hs : src < 320) :
    Steady R P s (t.raiseOnce key k src w3) := by
  unfold State.raiseOnce
  exact .ite h ((h.raised hA.2 _).raiseN hA src w3 hs)

theorem Steady.noEngine (h : Steady R P s t) (hA : AllowsEvents R P) : Steady R P s t.noEngine := by
  unfold State.noEngine
  exact .foldl _ _ h fun u x _ hu => .ite (hu.raiseOnce hA _ _ 207 _ (by decide)) hu

theorem Steady.setCore (h : Steady R P s t) (hP : Part.pe ∈ P) (e : Nat) (c : PeCore) : Steady R P s (t.setCore e c) :=
  h.of_frame (h.1.setCore hP e c) rfl rfl

@[simp] theorem State.reg_setCore (s : State) (e a : Nat) (c : PeCore) : (s.setCore e c).reg a = s.reg a := rfl

/-! ### The registers of an engine -/

theorem peStatus_high (e : Nat) : 0x200000 ≤ Reg.PE_STATUS e := by unfold Reg.PE_STATUS; omega

theorem peCycles_high (e : Nat) : 0x200000 ≤ Reg.PE_CYCLES e := by unfold Reg.PE_CYCLES; omega

theorem peBlock_high {e a : Nat} (h : peBlock e a = true) : 0x200000 ≤ a := by
  rw [peBlock, inRange_iff] at h
  unfold Reg.PE_CTRL at h
  omega

theorem eventReg_of_peBlock {e a : Nat} (h : peBlock e a = true) : eventReg a = false := eventReg_high a (peBlock_high h)

theorem State.trace_congr {e : Nat} (h0 : t.reg (Reg.PE_TRACE e) = s.reg (Reg.PE_TRACE e))
    (h4 : t.reg (Reg.PE_TRACE e + 4) = s.reg (Reg.PE_TRACE e + 4)) : t.trace e = s.trace e := State.reg64_congr h0 h4

/-! ### The fetch -/

/-- The registers of an engine that a fetch and the cycles of an instruction may write (R152, R156). -/
def fetchRegs (e a : Nat) : Bool := a == Reg.PE_ECC_COUNT e || a == Reg.PE_CYCLES e || a == Reg.PE_CYCLES e + 4

/-- What takes place before an instruction has its effect: free values, cycles and corrected errors are counted, events raised. -/
def Fetched (e : Nat) (s u : State) : Prop := Steady (fun a => eventReg a || fetchRegs e a) [.events] s u

theorem fetchRegs_peBlock {e a : Nat} (h : fetchRegs e a = true) : peBlock e a = true := by
  simp only [fetchRegs, Bool.or_eq_true, beq_iff_eq] at h
  rw [peBlock, inRange_iff]
  unfold Reg.PE_ECC_COUNT Reg.PE_CYCLES at h
  unfold Reg.PE_CTRL
  omega

theorem Fetched.refl {e : Nat} : Fetched e s s := Steady.refl

theorem Fetched.takeFree {e : Nat} (h : Fetched e s u) : Fetched e s u.takeFree.2 := Steady.takeFree h (by simp)

theorem Fetched.peCycles {e : Nat} (h : Fetched e s u) (n : Nat) : Fetched e s (u.peCycles e n) :=
  Steady.count64 h _ n (by simp [fetchRegs]) (by simp [fetchRegs]) (peCycles_high e)

theorem Fetched.fetch {e : Nat} (h : Fetched e s u) : Fetched e s (u.fetch e) := by
  unfold State.fetch
  refine Steady.ite (Fetched.peCycles (Steady.raiseN (Steady.countHold h _ 1 (by simp [fetchRegs]) ?_)
    (AllowsEvents.ev _ _) 201 _ (by decide)) 1) h
  unfold Reg.PE_ECC_COUNT
  omega

/-- A register of the engine's block that the fetch does not count in. -/
theorem Fetched.reg_eq {e a : Nat} (h : Fetched e s u) (hb : 0x200000 ≤ a) (hf : fetchRegs e a = false) :
    u.reg a = s.reg a := FrameEv.reg_eq h.1 a (eventReg_high a hb) hf

theorem fetchRegs_status (e : Nat) : fetchRegs e (Reg.PE_STATUS e) = false := by
  simp only [fetchRegs, Reg.PE_STATUS, Reg.PE_ECC_COUNT, Reg.PE_CYCLES, Bool.or_eq_false_iff, beq_eq_false_iff_ne]
  omega

theorem fetchRegs_trace (e : Nat) : fetchRegs e (Reg.PE_TRACE e) = false ∧ fetchRegs e (Reg.PE_TRACE e + 4) = false := by
  simp only [fetchRegs, Reg.PE_TRACE, Reg.PE_ECC_COUNT, Reg.PE_CYCLES, Bool.or_eq_false_iff, beq_eq_false_iff_ne]
  omega

theorem peTrace_high (e : Nat) : 0x200000 ≤ Reg.PE_TRACE e := by unfold Reg.PE_TRACE; omega

theorem Fetched.status {e : Nat} (h : Fetched e s u) : u.reg (Reg.PE_STATUS e) = s.reg (Reg.PE_STATUS e) :=
  h.reg_eq (peStatus_high e) (fetchRegs_status e)

theorem Fetched.peState {e : Nat} (h : Fetched e s u) : u.peState e = s.peState e := State.fld_congr h.status _

theorem Fetched.pePc {e : Nat} (h : Fetched e s u) : u.pePc e = s.pePc e := State.fld_congr h.status _

theorem Fetched.trace {e : Nat} (h : Fetched e s u) : u.trace e = s.trace e :=
  State.trace_congr (h.reg_eq (peTrace_high e) (fetchRegs_trace e).1)
    (h.reg_eq (Nat.le_add_right_of_le (peTrace_high e)) (fetchRegs_trace e).2)

theorem Fetched.core {e : Nat} (h : Fetched e s u) (d : Nat) : u.core d = s.core d := h.1.core_eq (by simp) d

theorem Fetched.mem {e : Nat} (h : Fetched e s u) : u.mem = s.mem := h.1.2 .mem (by simp)

theorem Fetched.silent {e : Nat} (h : Fetched e s u) : u.tally.silent = s.tally.silent := h.2.2

theorem Fetched.frame {e : Nat} (h : Fetched e s u) : FrameEv (peBlock e) [] s u :=
  FrameEv.widen h.1 (fun _ => fetchRegs_peBlock) (by simp)

/-! ### A fault -/

/-- The registers that a fault in RUN writes: its state, and what PE_FAULT and PE_FAULT_ADDR hold (R148, R154, R160). -/
def State.faultMarked (s : State) (e : Nat) (x : PeFault) : State :=
  (((s.peUnstall e).setPeState e 4).setRegN (Reg.PE_FAULT e) (x.code + x.slot * 2 ^ 4 + s.pePc e * 2 ^ 12)).setRegN
    (Reg.PE_FAULT_ADDR e) x.addr

/-- What a fault in RUN writes before its event is raised. -/
def State.faultShown (s : State) (e : Nat) (x : PeFault) : State :=
  (s.faultMarked e x).setCore e { (s.faultMarked e x).core e with stalled := false }

/-- The end of a stall takes cycles, and leaves the engine unstalled (R138, R156). -/
theorem State.peUnstall_leaves (s : State) (e : Nat) :
    ((s.peUnstall e).core e = { s.core e with stalled := false }) ∧ (∀ d, d ≠ e → (s.peUnstall e).core d = s.core d) ∧
      Steady (fun a => eventReg a || fetchRegs e a) [.events, .pe] s (s.peUnstall e) := by
  unfold State.peUnstall
  dsimp only
  split
  · have hu : Fetched e s (s.takeFree.2.peCycles e s.takeFree.1) := Fetched.refl.takeFree.peCycles _
    have h1 : Steady (fun a => eventReg a || fetchRegs e a) [.events, .pe] s (s.takeFree.2.peCycles e s.takeFree.1) :=
      hu.mono (fun _ h => h) (by simp)
    refine ⟨by simp, fun d hd => ?_, h1.setCore (by simp) _ _⟩
    rw [State.core_setCore, if_neg hd.symm, hu.core]
  · rename_i h
    have hs : (s.core e).stalled = false := by simpa using h
    exact ⟨by rw [← hs], fun _ _ => rfl, Steady.refl⟩

/-- What raising the event of a fault, and judging the ready tasks anew, leaves. -/
theorem State.faultRaised_steady (s : State) (src w3 : Nat) (hs : src < 320) :
    Steady (fun a => eventReg a || noRegs a) [.events] s ((s.raiseN src w3).noEngine) :=
  (Steady.refl.raiseN (AllowsEvents.ev _ _) src w3 hs).noEngine (AllowsEvents.ev _ _)

/-- A fault is what it shows, and its event. -/
theorem State.peFault_eq {e : Nat} (h : s.peState e = 2) (x : PeFault) :
    s.peFault e x = ((s.faultShown e x).raiseN (191 + x.code) (if x.code = 9 then e + x.code * 2 ^ 6 + x.addr * 2 ^ 16
      else e + x.code * 2 ^ 6 + s.pePc e * 2 ^ 16 + x.slot * 2 ^ 28)).noEngine := by
  have hsp : s.peSpent e = s.peUnstall e := by rw [State.peSpent, if_neg (by omega)]
  rw [State.peFault, State.peFaultAt, hsp]
  rfl

theorem State.faultMarked_shows (s : State) (e : Nat) (x : PeFault) :
    (s.faultMarked e x).reg (Reg.PE_STATUS e) = Fld.PE_STATUS_STATE.put (s.reg (Reg.PE_STATUS e)) 4 ∧
      (s.faultMarked e x).reg (Reg.PE_FAULT e) = BitVec.ofNat 32 (x.code + x.slot * 2 ^ 4 + s.pePc e * 2 ^ 12) ∧
      (s.faultMarked e x).reg (Reg.PE_FAULT_ADDR e) = BitVec.ofNat 32 x.addr := by
  obtain ⟨-, -, hu⟩ := s.peUnstall_leaves e
  have hst : (s.peUnstall e).reg (Reg.PE_STATUS e) = s.reg (Reg.PE_STATUS e) :=
    hu.1.1 _ (Bool.or_eq_false_iff.2 ⟨eventReg_high _ (peStatus_high e), fetchRegs_status e⟩)
  have h1 : Reg.PE_FAULT_ADDR e ≠ Reg.PE_STATUS e := by unfold Reg.PE_FAULT_ADDR Reg.PE_STATUS; omega
  have h2 : Reg.PE_FAULT e ≠ Reg.PE_STATUS e := by unfold Reg.PE_FAULT Reg.PE_STATUS; omega
  have h3 : Reg.PE_FAULT_ADDR e ≠ Reg.PE_FAULT e := by unfold Reg.PE_FAULT_ADDR Reg.PE_FAULT; omega
  simp [State.faultMarked, State.setPeState, h1, h2, h3, hst]

/-- The registers that a fault writes: those of the fault, the state, and the cycles of a stall that it ends. -/
def faultRegs (e a : Nat) : Bool :=
  a == Reg.PE_STATUS e || a == Reg.PE_FAULT e || a == Reg.PE_FAULT_ADDR e || fetchRegs e a

theorem faultRegs_peBlock {e a : Nat} (h : faultRegs e a = true) : peBlock e a = true := by
  simp only [faultRegs, Bool.or_eq_true, beq_iff_eq] at h
  rcases h with ((h | h) | h) | h
  case inr => exact fetchRegs_peBlock h
  all_goals
    rw [peBlock, inRange_iff, h]
    unfold Reg.PE_CTRL
  · unfold Reg.PE_STATUS; omega
  · unfold Reg.PE_FAULT; omega
  · unfold Reg.PE_FAULT_ADDR; omega

theorem faultRegs_trace (e : Nat) : faultRegs e (Reg.PE_TRACE e) = false ∧ faultRegs e (Reg.PE_TRACE e + 4) = false := by
  rw [faultRegs, faultRegs, (fetchRegs_trace e).1, (fetchRegs_trace e).2]
  simp only [Reg.PE_TRACE, Reg.PE_STATUS, Reg.PE_FAULT, Reg.PE_FAULT_ADDR, Bool.or_eq_false_iff, beq_eq_false_iff_ne, and_true]
  omega

theorem State.faultShown_steady (s : State) (e : Nat) (x : PeFault) :
    Steady (fun a => eventReg a || faultRegs e a) [.events, .pe] s (s.faultShown e x) := by
  have h0 : Steady (fun a => eventReg a || faultRegs e a) [.events, .pe] s (s.peUnstall e) :=
    (s.peUnstall_leaves e).2.2.mono (fun a h => by
      simp only [Bool.or_eq_true] at h ⊢
      exact h.imp_right fun h => by simp [faultRegs, h]) (by simp)
  have h1 : Steady (fun a => eventReg a || faultRegs e a) [.events, .pe] s (s.faultMarked e x) :=
    ((h0.setFld (Reg.PE_STATUS e) Fld.PE_STATUS_STATE 4 (by simp [faultRegs]) (peStatus_high e)).setRegN
    (Reg.PE_FAULT e) (x.code + x.slot * 2 ^ 4 + s.pePc e * 2 ^ 12) (by simp [faultRegs]) (by unfold Reg.PE_FAULT; omega)).setRegN
    (Reg.PE_FAULT_ADDR e) x.addr (by simp [faultRegs]) (by unfold Reg.PE_FAULT_ADDR; omega)
  exact h1.setCore (by simp) _ _

theorem State.core_faultShown (s : State) (e d : Nat) (x : PeFault) :
    (s.faultShown e x).core d = if e = d then { s.core e with stalled := false } else s.core d := by
  obtain ⟨hc, hd, -⟩ := s.peUnstall_leaves e
  have h : ∀ d, (s.faultMarked e x).core d = (s.peUnstall e).core d :=
    State.core_congr (by simp [State.faultMarked, State.setPeState])
  rw [State.faultShown, State.core_setCore, h, h, hc]
  split
  · rfl
  · exact hd d (Ne.symm ‹_›)

section
variable {e : Nat} (h : s.peState e = 2) {x : PeFault} (hx : x.code < 10)
include h hx

theorem State.peFault_steady : Steady (fun a => eventReg a || faultRegs e a) [.events, .pe] s (s.peFault e x) := by
  rw [State.peFault_eq h]
  exact (s.faultShown_steady e x).trans ((State.faultRaised_steady _ _ _ (by omega)).mono
    (fun a ha => by simpa [noRegs] using Or.inl ha) (by simp))

theorem State.core_peFault_eq (d : Nat) :
    (s.peFault e x).core d = if e = d then { s.core e with stalled := false } else s.core d := by
  rw [State.peFault_eq h, (State.faultRaised_steady _ _ _ (by omega)).1.core_eq (by simp), State.core_faultShown]

theorem State.reg_peFault {a : Nat} (ha : peBlock e a = true) : (s.peFault e x).reg a = (s.faultMarked e x).reg a := by
  rw [State.peFault_eq h, (State.faultRaised_steady _ _ _ (by omega)).1.1 a (by simp [eventReg_of_peBlock ha, noRegs]),
    State.faultShown, State.reg_setCore]

theorem State.status_peFault :
    (s.peFault e x).reg (Reg.PE_STATUS e) = Fld.PE_STATUS_STATE.put (s.reg (Reg.PE_STATUS e)) 4 := by
  rw [State.reg_peFault h hx (faultRegs_peBlock (by simp [faultRegs])), (s.faultMarked_shows e x).1]

theorem State.peFault_trace : (s.peFault e x).trace e = s.trace e := by
  obtain ⟨h0, h4⟩ := faultRegs_trace e
  have hf := (State.peFault_steady h hx).1
  exact State.trace_congr (hf.1 _ (Bool.or_eq_false_iff.2 ⟨eventReg_high _ (peTrace_high e), h0⟩))
    (hf.1 _ (Bool.or_eq_false_iff.2 ⟨eventReg_high _ (Nat.le_add_right_of_le (peTrace_high e)), h4⟩))

theorem State.peFault_shown (hq : s.tally.silent = false) : (s.peFault e x).shown (191 + x.code) := by
  rw [State.peFault_eq h]
  exact (Steady.noEngine .refl (AllowsEvents.ev noRegs [])).2.shown _ (by omega)
    (State.raiseN_shown _ _ _ (by omega) ((s.faultShown_steady e x).2.2.trans hq))

end

/-- A fault of an engine in RUN whose instruction has been fetched. -/
theorem Fetched.faulted {e : Fin 64} (h : Fetched e s u) (h2 : s.peState e = 2) (x : PeFault) (hx : x.code < 10) :
    Faulted e x s (u.peFault e x) := by
  have hu : u.peState e = 2 := h.peState.trans h2
  have hf := State.peFault_steady hu hx
  have hst := State.status_peFault hu hx
  have hcore := State.core_peFault_eq hu hx
  obtain ⟨-, m2, m3⟩ := u.faultMarked_shows e x
  refine ⟨?_, ?_, ?_, ?_, ?_, (State.peFault_trace hu hx).trans h.trace, fun e' he => ?_, (hf.1.2 .mem (by simp)).trans h.mem,
    fun _ hq => State.peFault_shown hu hx (h.silent.trans hq), (h.frame.widen (fun _ h => h) (by simp)).trans ?_⟩
  · rw [State.peState, State.fld, hst, Field.get_put _ _ _ (by decide)]
    rfl
  · rw [State.reg_peFault hu hx (faultRegs_peBlock (by simp [faultRegs])), m2, h.pePc]
  · rw [State.reg_peFault hu hx (faultRegs_peBlock (by simp [faultRegs])), m3]
  · rw [State.pePc, State.fld, hst, Field.get_put_other _ _ _ _ (by decide) (by decide), h.status]
    rfl
  · rw [hcore, if_pos rfl, h.core]
  · rw [hcore, if_neg (by simpa [Fin.ext_iff] using he.symm), h.core]
  · refine hf.1.mono (fun a ha => ?_) (by simp)
    rw [Bool.or_eq_true] at ha ⊢
    exact ha.imp_right faultRegs_peBlock

end Sys2Proof.Machine
end

section
/-! SUPPORT. What an instruction that completes leaves of its engine, of memory and of the registers (R113, R123, R133, R138). -/

namespace Sys2Proof.Machine

variable {R : Nat → Bool} {P : List Part} {s t u : State}

/-! ### The steps of a completion -/

/-- What an engine holds after the writes of an instruction and after control. -/
def PeCore.after (c : PeCore) (pc : Nat) (w : Writes) : PeCore :=
  { (flowRun (c.apply w) pc w.flow).2.1 with
    accWritten := (w.dests.filter (fun d => d.1 == .acc)).map (·.2), ctlWritten := w.moved }

/-- The stores of an instruction. -/
def State.stores (s : State) (l : List (Nat × List Byte)) : State :=
  l.foldl (fun s p => (s.write p.1 p.2).eccClearW 4 p.1 p.2.length) s

/-- TRACE alone of what an instruction sets. -/
def State.setTrace (s : State) (e : Nat) (x : Option (BitVec 64)) : State :=
  match x with | none => s | some t => s.setReg64 (Reg.PE_TRACE e) t.toNat

/-- TRACE, AOVF, and SATF with its count (R110, R113, R141). -/
def State.setFlags (s : State) (e : Nat) (w : Writes) : State :=
  let s1 := s.setTrace e w.trace
  let s2 := if w.aovf then s1.setBit (Reg.PE_STATUS e) Fld.PE_STATUS_AOVF true else s1
  if w.satf then (s2.setBit (Reg.PE_STATUS e) Fld.PE_STATUS_SATF true).countHold (Reg.PE_SAT_COUNT e) 1 else s2

/-- Corrected words counted and raised (R152). -/
def State.countCorr (s : State) (e pc : Nat) (l : List (Nat × Nat)) : State :=
  l.foldl (fun s p => (s.countHold (Reg.PE_ECC_COUNT e) p.2).raiseN 201 (e + pc * 2 ^ 16 + p.1 * 2 ^ 28)) s

/-- The cycles for which an instruction stalls (R138). -/
def State.stallCycles (s : State) (e : Nat) (w : Writes) : Nat :=
  bitOf (w.rdAcc.any (fun n => (s.core e).accWritten.contains n)) +
    bitOf ((w.use ++ (flowUses ((s.core e).apply w) (s.pePc e) w.flow).map (engKey .lc)).any
      (fun n => (s.core e).ctlWritten.contains n)) +
    w.corr.length + (if storeHitsPut e (s.core e) w.bytes then s.takeFree.1 else 0)

/-- The core and the stored bytes of a completion; the registers are as they were. -/
def State.peWritten (s : State) (e : Nat) (w : Writes) : State :=
  ((if storeHitsPut e (s.core e) w.bytes then s.takeFree.2 else s).setCore e ((s.core e).after (s.pePc e) w)).stores w.bytes

/-- The flags, the corrected words and the cycles of a completion. -/
def State.peCounted (s : State) (e : Nat) (w : Writes) : State :=
  (((s.peWritten e w).setFlags e w).countCorr e (s.pePc e) w.corr).peCycles e
    (1 + s.stallCycles e w + (flowRun ((s.core e).apply w) (s.pePc e) w.flow).2.2)

/-- A completion up to the new PC. -/
def State.peEffect (s : State) (e : Nat) (w : Writes) : State :=
  (s.peCounted e w).setFld (Reg.PE_STATUS e) Fld.PE_STATUS_LOOP_DEPTH ((s.core e).after (s.pePc e) w).loops.length

theorem State.peComplete_eq (s : State) (e : Nat) (w : Writes) : s.peComplete e w =
    if 0 ≤ (flowRun ((s.core e).apply w) (s.pePc e) w.flow).1 ∧ (flowRun ((s.core e).apply w) (s.pePc e) w.flow).1 < 4096
    then (s.peEffect e w).setPc e (flowRun ((s.core e).apply w) (s.pePc e) w.flow).1.toNat
    else (s.peEffect e w).peFault e ⟨5, 0, 0⟩ := rfl

@[simp] theorem State.mem_setCore (s : State) (e : Nat) (c : PeCore) : (s.setCore e c).mem = s.mem := rfl

/-! ### Stores, flags and corrected words -/

theorem Steady.stores (h : Steady R P s t) (l : List (Nat × List Byte)) (hM : Part.mem ∈ P) (hE : Part.ecc ∈ P) :
    Steady R P s (t.stores l) := by
  refine Steady.foldl _ _ h fun u x _ hu => ?_
  have h1 : Steady R P s (u.write x.1 x.2) := hu.of_frame (hu.1.write hM _ _) rfl rfl
  exact h1.of_frame (h1.1.eccClearW hE _ _ _) rfl rfl

@[simp] theorem State.stores_mem (s : State) (l : List (Nat × List Byte)) :
    (s.stores l).mem = l.foldl (fun m p => Memory.write m p.1 p.2) s.mem := by
  induction l generalizing s with
  | nil => rfl
  | cons x l ih => exact ih _

theorem State.countCorr_steady (s : State) (e pc : Nat) (l : List (Nat × Nat)) :
    Steady (fun a => eventReg a || a == Reg.PE_ECC_COUNT e) [.events] s (s.countCorr e pc l) :=
  Steady.foldl _ _ Steady.refl fun u x _ hu => Steady.raiseN (Steady.countHold hu _ _ (by simp) (by
    unfold Reg.PE_ECC_COUNT; omega)) (AllowsEvents.ev _ _) 201 _ (by decide)

theorem Fetched.countCorr {e : Nat} (h : Fetched e s u) (pc : Nat) (l : List (Nat × Nat)) :
    Fetched e s (u.countCorr e pc l) :=
  h.trans ((u.countCorr_steady e pc l).mono (fun a ha => by
    rw [Bool.or_eq_true] at ha ⊢
    exact ha.imp_right fun ha => by simp [fetchRegs, beq_iff_eq.1 ha]) (by simp))

/-- The registers in which an instruction sets flags. -/
def flagRegs (e a : Nat) : Bool :=
  a == Reg.PE_STATUS e || a == Reg.PE_SAT_COUNT e || a == Reg.PE_TRACE e || a == Reg.PE_TRACE e + 4

theorem flagRegs_peBlock {e a : Nat} (h : flagRegs e a = true) : peBlock e a = true := by
  simp only [flagRegs, Bool.or_eq_true, beq_iff_eq] at h
  rw [peBlock, inRange_iff]
  unfold Reg.PE_STATUS Reg.PE_SAT_COUNT Reg.PE_TRACE at h
  unfold Reg.PE_CTRL
  omega

theorem State.trace_setTrace (s : State) (e : Nat) (x : Option (BitVec 64)) :
    (s.setTrace e x).trace e = (x.map BitVec.toNat).getD (s.trace e) := by
  cases x with
  | none => rfl
  | some t => exact s.reg64_setReg64 _ _ t.isLt

theorem State.reg_setTrace (s : State) (e : Nat) (x : Option (BitVec 64)) {a : Nat} (h0 : a ≠ Reg.PE_TRACE e)
    (h4 : a ≠ Reg.PE_TRACE e + 4) : (s.setTrace e x).reg a = s.reg a := by
  cases x with
  | none => rfl
  | some t =>
    rw [State.setTrace, State.reg_setReg64, if_neg h4.symm, if_neg h0.symm]

/-- The registers of flags and counts lie apart. -/
theorem flagRegs_apart (e : Nat) : Reg.PE_STATUS e ≠ Reg.PE_SAT_COUNT e ∧ Reg.PE_STATUS e ≠ Reg.PE_TRACE e ∧
    Reg.PE_STATUS e ≠ Reg.PE_TRACE e + 4 ∧ Reg.PE_SAT_COUNT e ≠ Reg.PE_TRACE e ∧ Reg.PE_SAT_COUNT e ≠ Reg.PE_TRACE e + 4 := by
  unfold Reg.PE_STATUS Reg.PE_SAT_COUNT Reg.PE_TRACE
  omega

section
variable (c : Bool) (s : State) (a : Nat) {f g : Field}

theorem State.bit_ite_setBit (h : f.lo + f.width ≤ 32) (hw : f.width = 1) :
    (if c then s.setBit a f true else s).bit a f = (c || s.bit a f) := by
  cases c
  · rfl
  · exact s.bit_setBit_same a f true h hw

theorem State.fld_ite_setBit (h : f.lo + f.width ≤ 32) (hd : f.lo + f.width ≤ g.lo ∨ g.lo + g.width ≤ f.lo) :
    (if c then s.setBit a f true else s).fld a g = s.fld a g := by
  cases c
  · rfl
  · exact s.fld_setBit_apart a h hd true

end

/-- PE_STATUS after an instruction has set flags is PE_STATUS with AOVF and SATF set in turn. -/
theorem State.status_setFlags (s : State) (e : Nat) (w : Writes) :
    let s1 := if w.aovf then (s.setTrace e w.trace).setBit (Reg.PE_STATUS e) Fld.PE_STATUS_AOVF true else s.setTrace e w.trace
    (s.setFlags e w).reg (Reg.PE_STATUS e) =
      (if w.satf then s1.setBit (Reg.PE_STATUS e) Fld.PE_STATUS_SATF true else s1).reg (Reg.PE_STATUS e) := by
  unfold State.setFlags
  dsimp only
  generalize (if w.aovf then (s.setTrace e w.trace).setBit (Reg.PE_STATUS e) Fld.PE_STATUS_AOVF true else s.setTrace e w.trace) = u
  cases w.satf
  · simp only [Bool.false_eq_true, if_false]
  · simp only [if_true]
    generalize u.setBit (Reg.PE_STATUS e) Fld.PE_STATUS_SATF true = v
    exact State.reg_setReg_ne _ _ _ _ (flagRegs_apart e).1.symm

theorem State.status_setTrace (s : State) (e : Nat) (x : Option (BitVec 64)) :
    (s.setTrace e x).reg (Reg.PE_STATUS e) = s.reg (Reg.PE_STATUS e) :=
  s.reg_setTrace e x (flagRegs_apart e).2.1 (flagRegs_apart e).2.2.1

theorem State.aovf_setFlags (s : State) (e : Nat) (w : Writes) : (s.setFlags e w).bit (Reg.PE_STATUS e) Fld.PE_STATUS_AOVF =
    (w.aovf || s.bit (Reg.PE_STATUS e) Fld.PE_STATUS_AOVF) := by
  rw [State.bit_congr (s.status_setFlags e w), State.bit, State.fld_ite_setBit _ _ _ (by decide) (by decide), ← State.bit,
    State.bit_ite_setBit _ _ _ (by decide) rfl, State.bit_congr (s.status_setTrace e w.trace)]

theorem State.satf_setFlags (s : State) (e : Nat) (w : Writes) : (s.setFlags e w).bit (Reg.PE_STATUS e) Fld.PE_STATUS_SATF =
    (w.satf || s.bit (Reg.PE_STATUS e) Fld.PE_STATUS_SATF) := by
  rw [State.bit_congr (s.status_setFlags e w), State.bit_ite_setBit _ _ _ (by decide) rfl, State.bit,
    State.fld_ite_setBit _ _ _ (by decide) (by decide), State.fld_congr (s.status_setTrace e w.trace), ← State.bit]

/-- The fields of PE_STATUS beside the flags. -/
theorem State.fld_setFlags (s : State) (e : Nat) (w : Writes) {f : Field} (hf : f.lo + f.width ≤ 12 ∨ 14 ≤ f.lo) :
    (s.setFlags e w).fld (Reg.PE_STATUS e) f = s.fld (Reg.PE_STATUS e) f := by
  rw [State.fld_congr (s.status_setFlags e w), State.fld_ite_setBit _ _ _ (by decide) (by simp only [Fld.PE_STATUS_SATF]; omega),
    State.fld_ite_setBit _ _ _ (by decide) (by simp only [Fld.PE_STATUS_AOVF]; omega),
    State.fld_congr (s.status_setTrace e w.trace)]

theorem State.satCount_setFlags (s : State) (e : Nat) (w : Writes) : (s.setFlags e w).regN (Reg.PE_SAT_COUNT e) =
    if w.satf then min (s.regN (Reg.PE_SAT_COUNT e) + 1) 0xFFFFFFFF else s.regN (Reg.PE_SAT_COUNT e) := by
  obtain ⟨h1, -, -, h4, h5⟩ := flagRegs_apart e
  unfold State.setFlags
  cases w.aovf <;> cases w.satf <;> simp [State.countHold, State.regN, State.reg_setTrace, h1, h4, h5]

theorem State.trace_setFlags (s : State) (e : Nat) (w : Writes) :
    (s.setFlags e w).trace e = (w.trace.map BitVec.toNat).getD (s.trace e) := by
  obtain ⟨h1, h2, h3, h4, h5⟩ := flagRegs_apart e
  rw [← s.trace_setTrace e w.trace]
  unfold State.setFlags
  refine State.trace_congr ?_ ?_
  all_goals cases w.aovf <;> cases w.satf <;> simp [State.countHold, h2, h3, h4, h5]

theorem Steady.setFlags (h : Steady R P s t) (e : Nat) (w : Writes) (hR : ∀ a, flagRegs e a = true → R a = true) :
    Steady R P s (t.setFlags e w) := by
  have r1 := hR _ (show flagRegs e (Reg.PE_STATUS e) = true by simp [flagRegs])
  have h1 : Steady R P s (t.setTrace e w.trace) := by
    cases w.trace with
    | none => exact h
    | some x => exact h.setReg64 _ _ (hR _ (by simp [flagRegs])) (hR _ (by simp [flagRegs])) (peTrace_high e)
  have h2 : Steady R P s (if w.aovf then (t.setTrace e w.trace).setBit (Reg.PE_STATUS e) Fld.PE_STATUS_AOVF true
      else t.setTrace e w.trace) := .ite (h1.setBit _ _ _ r1 (peStatus_high e)) h1
  unfold State.setFlags
  exact .ite ((h2.setBit _ _ _ r1 (peStatus_high e)).countHold _ _ (hR _ (by simp [flagRegs]))
    (by unfold Reg.PE_SAT_COUNT; omega)) h2

/-! ### The effect of a completion -/

theorem State.stores_pe (s : State) (l : List (Nat × List Byte)) : (s.stores l).pe = s.pe := by
  induction l generalizing s with
  | nil => rfl
  | cons x l ih => exact ih _

theorem State.peWritten_steady (s : State) (e : Nat) (w : Writes) :
    Steady noRegs [.events, .pe, .mem, .ecc] s (s.peWritten e w) := by
  have h0 : Steady noRegs [.events, .pe, .mem, .ecc] s (if storeHitsPut e (s.core e) w.bytes then s.takeFree.2 else s) :=
    .ite (Steady.refl.takeFree (by simp)) .refl
  exact (h0.setCore (by simp) _ _).stores _ (by simp) (by simp)

theorem State.core_peWritten (s : State) (e : Nat) (w : Writes) (d : Nat) :
    (s.peWritten e w).core d = if e = d then (s.core e).after (s.pePc e) w else s.core d := by
  have h0 : (if storeHitsPut e (s.core e) w.bytes then s.takeFree.2 else s).core d = s.core d :=
    State.core_congr (by split <;> rfl) d
  rw [State.peWritten, State.core_congr (State.stores_pe _ _), State.core_setCore, h0]

theorem State.mem_peWritten (s : State) (e : Nat) (w : Writes) :
    (s.peWritten e w).mem = w.bytes.foldl (fun m p => Memory.write m p.1 p.2) s.mem := by
  have h0 : (if storeHitsPut e (s.core e) w.bytes then s.takeFree.2 else s).mem = s.mem := by split <;> rfl
  rw [State.peWritten, State.stores_mem, State.mem_setCore, h0]

theorem State.peCounted_fetched (s : State) (e : Nat) (w : Writes) :
    Fetched e ((s.peWritten e w).setFlags e w) (s.peCounted e w) := (Fetched.refl.countCorr _ _).peCycles _

/-- Flags, counts and cycles leave cores and memory. -/
theorem State.peEffect_steady (s : State) (e : Nat) (w : Writes) :
    Steady (fun a => eventReg a || peBlock e a) [.events] (s.peWritten e w) (s.peEffect e w) := by
  have h1 : Steady (fun a => eventReg a || peBlock e a) [.events] (s.peWritten e w) ((s.peWritten e w).setFlags e w) :=
    Steady.refl.setFlags e w fun a h => by simp [flagRegs_peBlock h]
  have hst : peBlock e (Reg.PE_STATUS e) = true := flagRegs_peBlock (by simp [flagRegs])
  exact (h1.trans ((s.peCounted_fetched e w).mono (fun a h => by
    rw [Bool.or_eq_true] at h ⊢
    exact h.imp_right fetchRegs_peBlock) (by simp))).setFld _ _ _ (by simp [hst]) (peStatus_high e)

theorem State.core_peEffect (s : State) (e : Nat) (w : Writes) (d : Nat) :
    (s.peEffect e w).core d = if e = d then (s.core e).after (s.pePc e) w else s.core d := by
  rw [(s.peEffect_steady e w).1.core_eq (by simp), State.core_peWritten]

theorem State.mem_peEffect (s : State) (e : Nat) (w : Writes) :
    (s.peEffect e w).mem = w.bytes.foldl (fun m p => Memory.write m p.1 p.2) s.mem :=
  ((s.peEffect_steady e w).1.2 .mem (by simp)).trans (s.mem_peWritten e w)

theorem State.reg_peWritten (s : State) (e : Nat) (w : Writes) (a : Nat) : (s.peWritten e w).reg a = s.reg a :=
  (s.peWritten_steady e w).1.1 a rfl

/-- PE_STATUS but LOOP_DEPTH is as the flags leave it. -/
theorem State.fld_peEffect (s : State) (e : Nat) (w : Writes) {f : Field} (hf : f.lo + f.width ≤ 16 ∨ 18 ≤ f.lo) :
    (s.peEffect e w).fld (Reg.PE_STATUS e) f = ((s.peWritten e w).setFlags e w).fld (Reg.PE_STATUS e) f := by
  rw [State.peEffect, State.fld_setFld_apart _ _ (by decide) (by simp only [Fld.PE_STATUS_LOOP_DEPTH]; omega),
    State.fld_congr (s.peCounted_fetched e w).status]

theorem State.peState_peEffect (s : State) (e : Nat) (w : Writes) : (s.peEffect e w).peState e = s.peState e := by
  rw [State.peState, s.fld_peEffect e w (by decide), State.fld_setFlags _ _ _ (by decide),
    State.fld_congr (s.reg_peWritten e w _), ← State.peState]

theorem State.aovf_peEffect (s : State) (e : Nat) (w : Writes) : (s.peEffect e w).bit (Reg.PE_STATUS e) Fld.PE_STATUS_AOVF =
    (w.aovf || s.bit (Reg.PE_STATUS e) Fld.PE_STATUS_AOVF) := by
  rw [State.bit, s.fld_peEffect e w (by decide), ← State.bit, State.aovf_setFlags, State.bit_congr (s.reg_peWritten e w _)]

theorem State.satf_peEffect (s : State) (e : Nat) (w : Writes) : (s.peEffect e w).bit (Reg.PE_STATUS e) Fld.PE_STATUS_SATF =
    (w.satf || s.bit (Reg.PE_STATUS e) Fld.PE_STATUS_SATF) := by
  rw [State.bit, s.fld_peEffect e w (by decide), ← State.bit, State.satf_setFlags, State.bit_congr (s.reg_peWritten e w _)]

/-- A register of the engine that neither counts cycles nor corrected words, nor shows the state, is as the flags leave it. -/
theorem State.reg_peEffect (s : State) {e a : Nat} (w : Writes) (ha : 0x200000 ≤ a) (hf : fetchRegs e a = false)
    (hs : a ≠ Reg.PE_STATUS e) : (s.peEffect e w).reg a = ((s.peWritten e w).setFlags e w).reg a := by
  rw [State.peEffect, State.reg_setFld, if_neg hs.symm, (s.peCounted_fetched e w).reg_eq ha hf]

theorem fetchRegs_satCount (e : Nat) : fetchRegs e (Reg.PE_SAT_COUNT e) = false := by
  simp only [fetchRegs, Reg.PE_SAT_COUNT, Reg.PE_ECC_COUNT, Reg.PE_CYCLES, Bool.or_eq_false_iff, beq_eq_false_iff_ne]
  omega

theorem peSatCount_high (e : Nat) : 0x200000 ≤ Reg.PE_SAT_COUNT e := by unfold Reg.PE_SAT_COUNT; omega

theorem State.satCount_peEffect (s : State) (e : Nat) (w : Writes) : (s.peEffect e w).regN (Reg.PE_SAT_COUNT e) =
    if w.satf then min (s.regN (Reg.PE_SAT_COUNT e) + 1) 0xFFFFFFFF else s.regN (Reg.PE_SAT_COUNT e) := by
  have h := (s.peWritten e w).satCount_setFlags e w
  rw [State.regN, State.regN, State.reg_peWritten] at h
  rw [State.regN, s.reg_peEffect w (peSatCount_high e) (fetchRegs_satCount e) (flagRegs_apart e).1.symm]
  exact h

theorem State.trace_peEffect (s : State) (e : Nat) (w : Writes) :
    (s.peEffect e w).trace e = (w.trace.map BitVec.toNat).getD (s.trace e) := by
  obtain ⟨-, h2, h3, -, -⟩ := flagRegs_apart e
  rw [State.trace_congr (s.reg_peEffect w (peTrace_high e) (fetchRegs_trace e).1 h2.symm)
    (s.reg_peEffect w (Nat.le_add_right_of_le (peTrace_high e)) (fetchRegs_trace e).2 h3.symm), State.trace_setFlags,
    State.trace_congr (s.reg_peWritten e w _) (s.reg_peWritten e w _)]

/-! ### An instruction that is done -/

/-- An instruction has taken effect on its engine: what the core holds, memory, TRACE, the flags, and the count of saturations;
everything else but the engine's own registers stays. -/
structure InstrDone (e : Nat) (w : Writes) (s t : State) : Prop where
  core   : ((s.core e).after (s.pePc e) w).sameData (t.core e)
  others : ∀ d, d ≠ e → t.core d = s.core d
  mem    : t.mem = w.bytes.foldl (fun m p => Memory.write m p.1 p.2) s.mem
  trace  : t.trace e = (w.trace.map BitVec.toNat).getD (s.trace e)
  aovf   : t.bit (Reg.PE_STATUS e) Fld.PE_STATUS_AOVF = (w.aovf || s.bit (Reg.PE_STATUS e) Fld.PE_STATUS_AOVF)
  satf   : t.bit (Reg.PE_STATUS e) Fld.PE_STATUS_SATF = (w.satf || s.bit (Reg.PE_STATUS e) Fld.PE_STATUS_SATF)
  count  : t.regN (Reg.PE_SAT_COUNT e) =
    if w.satf then min (s.regN (Reg.PE_SAT_COUNT e) + 1) 0xFFFFFFFF else s.regN (Reg.PE_SAT_COUNT e)
  frame  : FrameEv (peBlock e) [.pe, .mem, .ecc] s t

theorem State.peEffect_done (s : State) (e : Nat) (w : Writes) : InstrDone e w s (s.peEffect e w) where
  core := by rw [s.core_peEffect, if_pos rfl]; exact PeCore.sameData.rfl' _
  others := fun d hd => by rw [s.core_peEffect, if_neg hd.symm]
  mem := s.mem_peEffect e w
  trace := s.trace_peEffect e w
  aovf := s.aovf_peEffect e w
  satf := s.satf_peEffect e w
  count := s.satCount_peEffect e w
  frame := ((s.peWritten_steady e w).1.mono (fun a h => Bool.noConfusion h) (by simp)).trans
    ((s.peEffect_steady e w).1.mono (fun _ h => h) (by simp))

/-- What an instruction has done stays done where its flags, its core and memory stay. -/
theorem InstrDone.keep {e : Nat} {w : Writes} (h : InstrDone e w s t) (hc : (t.core e).sameData (u.core e))
    (hd : ∀ d, d ≠ e → u.core d = t.core d) (hm : u.mem = t.mem) (hT : u.trace e = t.trace e)
    (hS : ∀ f : Field, 12 ≤ f.lo → f.lo + f.width ≤ 16 → u.fld (Reg.PE_STATUS e) f = t.fld (Reg.PE_STATUS e) f)
    (hn : u.reg (Reg.PE_SAT_COUNT e) = t.reg (Reg.PE_SAT_COUNT e)) (hf : FrameEv (peBlock e) [.pe, .mem, .ecc] t u) :
    InstrDone e w s u where
  core := h.core.trans hc
  others := fun d hne => (hd d hne).trans (h.others d hne)
  mem := hm.trans h.mem
  trace := hT.trans h.trace
  aovf := by rw [State.bit, hS _ (by decide) (by decide), ← State.bit, h.aovf]
  satf := by rw [State.bit, hS _ (by decide) (by decide), ← State.bit, h.satf]
  count := by rw [State.regN, hn, ← State.regN, h.count]
  frame := h.frame.trans hf

theorem peBlock_status (e : Nat) : peBlock e (Reg.PE_STATUS e) = true := flagRegs_peBlock (by simp [flagRegs])

theorem InstrDone.setPc {e : Nat} {w : Writes} (h : InstrDone e w s t) (pc : Nat) : InstrDone e w s (t.setPc e pc) := by
  obtain ⟨h1, h2, h3, -, -⟩ := flagRegs_apart e
  have hF : Frame (fun a => eventReg a || peBlock e a) (.events :: [.pe, .mem, .ecc]) t (t.setPc e pc) :=
    Frame.refl.setFld _ _ _ (by simp [peBlock_status])
  have hN : Frame (fun a => a == Reg.PE_STATUS e) [] t (t.setPc e pc) := Frame.refl.setFld _ _ _ (by simp)
  have hcore : ∀ d, (t.setPc e pc).core d = t.core d := hN.core_eq (by simp)
  refine h.keep (by rw [hcore]; exact PeCore.sameData.rfl' _) (fun d _ => hcore d) (hN.2 .mem (by simp))
    (State.trace_congr ?_ ?_) (fun f _ hf => ?_) ?_ hF
  · exact State.reg_setReg_ne _ _ _ _ h2
  · exact State.reg_setReg_ne _ _ _ _ h3
  · exact State.fld_setFld_apart (f := Fld.PE_STATUS_PC) _ _ (by decide) (.inr (hf.trans (by decide))) _
  · exact State.reg_setReg_ne _ _ _ _ h1

theorem faultRegs_satCount (e : Nat) : faultRegs e (Reg.PE_SAT_COUNT e) = false := by
  rw [faultRegs, fetchRegs_satCount]
  simp only [Reg.PE_SAT_COUNT, Reg.PE_STATUS, Reg.PE_FAULT, Reg.PE_FAULT_ADDR, Bool.or_eq_false_iff, beq_eq_false_iff_ne,
    and_true]
  omega

theorem InstrDone.peFault {e : Nat} {w : Writes} (h : InstrDone e w s t) (h2 : t.peState e = 2) {x : PeFault}
    (hx : x.code < 10) : InstrDone e w s (t.peFault e x) := by
  have hf := State.peFault_steady h2 hx
  refine h.keep (t.core_peFault e e x hx) (fun d hd => ?_) (hf.1.2 .mem (by simp)) (State.peFault_trace h2 hx)
    (fun f hl _ => ?_) (hf.1.1 _ ?_) (hf.1.mono (fun a ha => ?_) (by simp))
  · rw [State.core_peFault_eq h2 hx, if_neg hd.symm]
  · rw [State.fld, State.status_peFault h2 hx,
      Field.get_put_other _ _ _ _ (by decide) (.inl (by simp only [Fld.PE_STATUS_STATE]; omega)), ← State.fld]
  · exact Bool.or_eq_false_iff.2 ⟨eventReg_high _ (peSatCount_high e), faultRegs_satCount e⟩
  · rw [Bool.or_eq_true] at ha ⊢
    exact ha.imp_right faultRegs_peBlock

/-- An instruction that completes is done, whether or not its next PC lies in P memory (R135, R153). -/
theorem State.peComplete_done {e : Nat} (h2 : s.peState e = 2) (w : Writes) : InstrDone e w s (s.peComplete e w) := by
  rw [State.peComplete_eq]
  split
  · exact (s.peEffect_done e w).setPc _
  · exact (s.peEffect_done e w).peFault ((s.peState_peEffect e w).trans h2) (by decide)

/-- The fetch before an instruction makes no difference to what the instruction does. -/
theorem Fetched.done {e : Nat} {w : Writes} (h : Fetched e s u) (hd : InstrDone e w u t) : InstrDone e w s t where
  core := by rw [← h.core, ← h.pePc]; exact hd.core
  others := fun d hne => (hd.others d hne).trans (h.core d)
  mem := by rw [hd.mem, h.mem]
  trace := by rw [hd.trace, h.trace]
  aovf := by rw [hd.aovf, State.bit_congr h.status]
  satf := by rw [hd.satf, State.bit_congr h.status]
  count := by rw [hd.count, State.regN, h.reg_eq (peSatCount_high e) (fetchRegs_satCount e), ← State.regN]
  frame := (h.frame.widen (fun _ h => h) (by simp)).trans hd.frame

/-! ### Where control goes -/

theorem State.reg64_setFld_high (s : State) {a b : Nat} (f : Field) (n : Nat) (h : b < a) :
    (s.setFld b f n).reg64 a = s.reg64 a :=
  State.reg64_congr (State.reg_setReg_ne _ _ _ _ (by omega)) (State.reg_setReg_ne _ _ _ _ (by omega))

section
variable {e : Nat} {w : Writes} (hlo : 0 ≤ (flowRun ((s.core e).apply w) (s.pePc e) w.flow).1)
  (hhi : (flowRun ((s.core e).apply w) (s.pePc e) w.flow).1 < 4096)
include hlo hhi

theorem State.peComplete_goes :
    s.peComplete e w = (s.peEffect e w).setPc e (flowRun ((s.core e).apply w) (s.pePc e) w.flow).1.toNat := by
  rw [State.peComplete_eq, if_pos ⟨hlo, hhi⟩]

theorem State.pePc_peComplete : ((s.peComplete e w).pePc e : Int) = (flowRun ((s.core e).apply w) (s.pePc e) w.flow).1 := by
  rw [State.peComplete_goes hlo hhi, State.pePc, State.setPc, State.fld_setFld_same _ _ _ _ (by decide), Nat.mod_eq_of_lt]
  · omega
  · simp only [Fld.PE_STATUS_PC]
    omega

omit hlo hhi in
theorem peCycles_apart (e : Nat) : flagRegs e (Reg.PE_CYCLES e) = false ∧ flagRegs e (Reg.PE_CYCLES e + 4) = false ∧
    Reg.PE_CYCLES e ≠ Reg.PE_ECC_COUNT e ∧ Reg.PE_CYCLES e + 4 ≠ Reg.PE_ECC_COUNT e := by
  simp only [flagRegs, Reg.PE_STATUS, Reg.PE_SAT_COUNT, Reg.PE_TRACE, Reg.PE_CYCLES, Reg.PE_ECC_COUNT, Bool.or_eq_false_iff,
    beq_eq_false_iff_ne]
  omega

/-- The cycles that an instruction counts, besides those of its fetch (R138, R156). -/
theorem State.cycles_peComplete : (s.peComplete e w).reg64 (Reg.PE_CYCLES e) = (s.reg64 (Reg.PE_CYCLES e) +
    (1 + s.stallCycles e w + (flowRun ((s.core e).apply w) (s.pePc e) w.flow).2.2)) % 2 ^ 64 := by
  obtain ⟨f0, f4, n0, n4⟩ := peCycles_apart e
  have hc := ((s.peWritten e w).setFlags e w).countCorr_steady e (s.pePc e) w.corr
  have hf : Steady (fun a => flagRegs e a) [] (s.peWritten e w) ((s.peWritten e w).setFlags e w) :=
    Steady.refl.setFlags e w fun _ h => h
  have hz : ∀ a, 0x200000 ≤ a → flagRegs e a = false → a ≠ Reg.PE_ECC_COUNT e →
      (((s.peWritten e w).setFlags e w).countCorr e (s.pePc e) w.corr).reg a = s.reg a := fun a ha h1 h2 => by
    rw [hc.1.1 a (Bool.or_eq_false_iff.2 ⟨eventReg_high _ ha, by simpa using h2⟩), hf.1.1 a h1, State.reg_peWritten]
  rw [State.peComplete_goes hlo hhi, State.setPc, State.peEffect, State.reg64_setFld_high, State.reg64_setFld_high,
    State.peCounted, State.peCycles, State.reg64_count64, State.reg64_congr (hz _ (peCycles_high e) f0 n0)
      (hz _ (Nat.le_add_right_of_le (peCycles_high e)) f4 n4)]
  all_goals
    unfold Reg.PE_STATUS Reg.PE_CYCLES
    omega

end

end Sys2Proof.Machine
end

section
/-! SUPPORT. What an instruction writes with its slots, and the frame that follows (R116-R124). -/

namespace Sys2Proof.Machine

variable {s t u : State}

/-! ### What a slot does -/

/-- What a slot writes whether or not it accesses memory: its post-modification (R118, R125, R126). -/
def slotBase (c : PeCore) (lm : BitVec 4) (sl : Slot) : Writes :=
  { eng := (slotAddr c (lanes lm).isEmpty sl).2
    dests := (slotAddr c (lanes lm).isEmpty sl).2.map (fun d => (d.1, d.2.1))
    use := slotUse (!((lanes lm).isEmpty || sl.width == 3)) sl }

/-- What a slot may do: a fault, nothing, a step alone, a step with a store, or a step with a load (R118-R128). -/
inductive SlotDoes (s : State) (e : Nat) (c : PeCore) (lm : BitVec 4) (inY : Bool) (sl : Slot) : PeRes → Prop
  | faults (x : PeFault) : SlotDoes s e c lm inY sl (.error x)
  | unused (h7 : sl.am = 7) : SlotDoes s e c lm inY sl (.ok {})
  | steps (h7 : sl.am ≠ 7) (hmode : ¬(sl.am = 5 ∨ sl.am = 6 ∨ (sl.am = 4 ∧ !isLong e)))
      (hstill : ((lanes lm).isEmpty || sl.width == 3) = true) : SlotDoes s e c lm inY sl (.ok (slotBase c lm sl))
  | stores (h7 : sl.am ≠ 7) (hmode : ¬(sl.am = 5 ∨ sl.am = 6 ∨ (sl.am = 4 ∧ !isLong e)))
      (hmoves : ((lanes lm).isEmpty || sl.width == 3) = false)
      (halign : (slotAddr c (lanes lm).isEmpty sl).1 % widthBytes sl.width = 0) (hst : sl.store = true) :
      SlotDoes s e c lm inY sl (.ok { slotBase c lm sl with
        bytes := (storeBytes c (lanes lm) sl).map
          (fun p => (xyAddr e inY ((slotAddr c (lanes lm).isEmpty sl).1 + p.1), p.2)) })
  | loads (h7 : sl.am ≠ 7) (hmode : ¬(sl.am = 5 ∨ sl.am = 6 ∨ (sl.am = 4 ∧ !isLong e)))
      (hmoves : ((lanes lm).isEmpty || sl.width == 3) = false)
      (halign : (slotAddr c (lanes lm).isEmpty sl).1 % widthBytes sl.width = 0) (hst : sl.store = false)
      (corr : List (Nat × Nat)) :
      SlotDoes s e c lm inY sl (.ok { slotBase c lm sl with
        v := loadWrites (lanes lm) sl
          (s.read (xyAddr e inY (slotAddr c (lanes lm).isEmpty sl).1) (widthBytes sl.width))
        dests := (slotBase c lm sl).dests ++ [(.v, sl.vreg)]
        corr := corr })

theorem slotRun_does (s : State) (e : Nat) (c : PeCore) (lm : BitVec 4) (inY : Bool) (w : Nat) :
    SlotDoes s e c lm inY (Slot.of w) (slotRun s e c lm inY w) := by
  unfold slotRun
  dsimp only
  generalize (if inY = true then 2 else 1) = num
  split_ifs with h7 hmode hstill halign hst hecc
  · exact .unused h7
  · exact .faults _
  · exact .steps h7 hmode hstill
  · exact .faults _
  · exact .stores h7 hmode (by simpa using hstill) (not_not.1 halign) hst
  · exact .faults _
  · exact .loads h7 hmode (by simpa using hstill) (not_not.1 halign) (by simpa using hst) _
  · exact .loads h7 hmode (by simpa using hstill) (not_not.1 halign) (by simpa using hst) _

/-- Writes of a memory slot: lane registers, address and offset registers, and bytes of memory. -/
def Writes.OfSlot (w : Writes) : Prop :=
  w.acc = [] ∧ w.trace = none ∧ w.cf = none ∧ w.aovf = false ∧ w.satf = false ∧ w.rdAcc = [] ∧ w.moved = [] ∧ w.flow = .next

theorem SlotDoes.ofSlot {e : Nat} {c : PeCore} {lm : BitVec 4} {inY : Bool} {sl : Slot} {r : PeRes}
    (h : SlotDoes s e c lm inY sl r) : r.writes.OfSlot := by
  cases h <;> exact ⟨rfl, rfl, rfl, rfl, rfl, rfl, rfl, rfl⟩

/-- The writes of an operation with those of a slot behind it. -/
theorem Writes.both_ofSlot (w : Writes) {x : Writes} (h : x.OfSlot) : w.both x =
    { w with v := w.v ++ x.v, eng := w.eng ++ x.eng, bytes := w.bytes ++ x.bytes, dests := w.dests ++ x.dests
             corr := w.corr ++ x.corr, use := w.use ++ x.use } := by
  obtain ⟨h1, h2, h3, h4, h5, h6, h7, h8⟩ := h
  rw [Writes.both, h1, h2, h3, h4, h5, h6, h7, h8]
  cases w
  simp only [List.append_nil, Bool.or_false, Option.orElse_eq_or, Option.or_none, Writes.mk.injEq, true_and]
  split <;> rfl

/-- The writes of an instruction are those of its operation, with the lane registers, addressing registers and bytes of its
slots behind them (R123). -/
theorem State.peWrites_ok (s : State) (e : Nat) (f : InstrFields) (slots : Bool) (w : Writes) :
    let x := s.peWrites e f slots (.ok {})
    s.peWrites e f slots (.ok w) =
      { w with v := w.v ++ x.v, eng := w.eng ++ x.eng, bytes := w.bytes ++ x.bytes, dests := w.dests ++ x.dests
               corr := w.corr ++ x.corr, use := w.use ++ x.use } := by
  cases slots
  · cases w
    simp [State.peWrites, State.slotResults, PeRes.writes]
  · simp only [State.peWrites, State.slotResults, if_true, List.foldl_cons, List.foldl_nil]
    rw [Writes.both_ofSlot _ (slotRun_does ..).ofSlot, Writes.both_ofSlot _ (slotRun_does ..).ofSlot,
      Writes.both_ofSlot _ (slotRun_does ..).ofSlot, Writes.both_ofSlot _ (slotRun_does ..).ofSlot]
    simp [PeRes.writes]

/-! ### What the slots name -/

/-- The registers that the slots of an instruction name as destinations (R124). -/
def State.slotNames (s : State) (e : Nat) (f : InstrFields) (slots : Bool) : List (PeFile × Nat) :=
  if slots then slotDests (s.core e) f.lmask (xSlot f) ++ slotDests (s.core e) f.lmask (ySlot f) else []

theorem Slot.vreg_lt (w : Nat) : (Slot.of w).vreg < 16 := Nat.mod_lt _ (by decide)

theorem mem_lanes_iff {f : InstrFields} {l : Nat} : l ∈ lanes f.lmask ↔ l < 4 ∧ f.lane l = true := mem_lanes _ _

theorem not_idle_iff {lm : BitVec 4} {sl : Slot} :
    ((lanes lm).isEmpty || sl.width == 3) = false ↔ (lanes lm).isEmpty = false ∧ sl.width ≠ 3 := by simp

/-- A post-modification writes an address or an offset register (R125, R126). -/
theorem slotAddr_files {c : PeCore} {idle : Bool} {sl : Slot} {x : PeFile × Nat × Nat} (hx : x ∈ (slotAddr c idle sl).2) :
    x.1 = .a ∨ x.1 = .o := by
  unfold slotAddr at hx
  dsimp only at hx
  split at hx
  case h_4 => split at hx <;> exact .inr (congrArg Prod.fst (List.mem_singleton.1 hx))
  case h_5 => exact absurd hx List.not_mem_nil
  all_goals exact .inl (congrArg Prod.fst (List.mem_singleton.1 hx))

section
variable {e : Nat} {c : PeCore} {lm : BitVec 4} {inY : Bool} {w : Nat} {r : PeRes} (h : SlotDoes s e c lm inY (Slot.of w) r)
include h

/-- A load writes its register in an enabled lane, and names it. -/
theorem SlotDoes.mem_v {x : Nat × Word} (hx : x ∈ r.writes.v) :
    ∃ l ∈ lanes lm, x.1 = l * 16 + (Slot.of w).vreg ∧ (.v, (Slot.of w).vreg) ∈ slotDests c lm w := by
  cases h with
  | faults x => exact absurd hx List.not_mem_nil
  | unused h7 => exact absurd hx List.not_mem_nil
  | steps h7 hmode hstill => exact absurd hx List.not_mem_nil
  | stores h7 hmode hmoves halign hst => exact absurd hx List.not_mem_nil
  | loads h7 hmode hmoves halign hst corr =>
    obtain ⟨l, hl, rfl⟩ := List.mem_map.1 hx
    exact ⟨l, hl, rfl, by simp [slotDests, not_idle_iff.1 hmoves, hst, h7]⟩

/-- A slot writes only the addressing register that it names. -/
theorem SlotDoes.mem_eng {x : PeFile × Nat × Nat} (hx : x ∈ r.writes.eng) :
    (x.1 = .a ∨ x.1 = .o) ∧ (x.1, x.2.1) ∈ slotDests c lm w := by
  have key : x ∈ (slotAddr c (lanes lm).isEmpty (Slot.of w)).2 → (x.1 = .a ∨ x.1 = .o) ∧ (x.1, x.2.1) ∈ slotDests c lm w :=
    fun hx => ⟨slotAddr_files hx, List.mem_append_left _ (List.mem_map_of_mem hx)⟩
  cases h with
  | faults x => exact absurd hx List.not_mem_nil
  | unused h7 => exact absurd hx List.not_mem_nil
  | steps h7 hmode hstill => exact key hx
  | stores h7 hmode hmoves halign hst => exact key hx
  | loads h7 hmode hmoves halign hst corr => exact key hx

end

theorem State.mem_slotWrites_v {e : Nat} {f : InstrFields} {slots : Bool} {x : Nat × Word}
    (hx : x ∈ (s.peWrites e f slots (.ok {})).v) :
    ∃ l r, l ∈ lanes f.lmask ∧ r < 16 ∧ x.1 = l * 16 + r ∧ (.v, r) ∈ s.slotNames e f slots := by
  cases slots
  · exact absurd hx List.not_mem_nil
  · simp only [State.peWrites, State.slotResults, if_true, List.foldl_cons, List.foldl_nil] at hx
    rw [Writes.both_ofSlot _ (slotRun_does ..).ofSlot, Writes.both_ofSlot _ (slotRun_does ..).ofSlot] at hx
    rw [State.slotNames, if_pos rfl]
    rcases List.mem_append.1 hx with hx | hx
    · obtain ⟨l, hl, he, hm⟩ := (slotRun_does ..).mem_v hx
      exact ⟨l, _, hl, Slot.vreg_lt _, he, List.mem_append_left _ hm⟩
    · obtain ⟨l, hl, he, hm⟩ := (slotRun_does ..).mem_v hx
      exact ⟨l, _, hl, Slot.vreg_lt _, he, List.mem_append_right _ hm⟩

theorem State.mem_slotWrites_eng {e : Nat} {f : InstrFields} {slots : Bool} {x : PeFile × Nat × Nat}
    (hx : x ∈ (s.peWrites e f slots (.ok {})).eng) :
    (x.1 = .a ∨ x.1 = .o) ∧ (x.1, x.2.1) ∈ s.slotNames e f slots := by
  cases slots
  · exact absurd hx List.not_mem_nil
  · simp only [State.peWrites, State.slotResults, if_true, List.foldl_cons, List.foldl_nil] at hx
    rw [Writes.both_ofSlot _ (slotRun_does ..).ofSlot, Writes.both_ofSlot _ (slotRun_does ..).ofSlot] at hx
    rw [State.slotNames, if_pos rfl]
    rcases List.mem_append.1 hx with hx | hx
    · exact ((slotRun_does ..).mem_eng hx).imp_right (List.mem_append_left _)
    · exact ((slotRun_does ..).mem_eng hx).imp_right (List.mem_append_right _)

theorem hasRepeat_cons {x : PeFile × Nat} {xs : List (PeFile × Nat)} :
    hasRepeat (x :: xs) = false ↔ x ∉ xs ∧ hasRepeat xs = false := by
  rw [hasRepeat, Bool.or_eq_false_iff, ← Bool.not_eq_true, List.contains_iff_mem]

/-- Where no register is named twice, those named first are not named again. -/
theorem hasRepeat_append {xs ys : List (PeFile × Nat)} (h : hasRepeat (xs ++ ys) = false) :
    (∀ x ∈ xs, x ∉ ys) ∧ hasRepeat ys = false := by
  induction xs with
  | nil => exact ⟨by simp, h⟩
  | cons x xs ih =>
    obtain ⟨hx, h⟩ := hasRepeat_cons.1 h
    obtain ⟨h1, h2⟩ := ih h
    refine ⟨fun y hy => ?_, h2⟩
    rcases List.mem_cons.1 hy with rfl | hy
    · exact fun hm => hx (List.mem_append_right _ hm)
    · exact h1 y hy

section
variable {e : Fin 64} {f : InstrFields} {slots : Bool} {dests : List (PeFile × Nat)} (h : PeClear e f slots dests s)
include h

/-- An instruction in the clear names no register of its own in a slot. -/
theorem PeClear.not_slotNames {x : PeFile × Nat} (hx : x ∈ dests) : x ∉ s.slotNames e f slots :=
  (hasRepeat_append h.2.2.2).1 x hx

/-- The slots leave a lane register that the operation names. -/
theorem PeClear.slots_leave_v {l r : Nat} (hr : r < 16) (hx : (.v, r) ∈ dests) :
    ∀ x ∈ (s.peWrites e f slots (.ok {})).v, x.1 ≠ l * 16 + r := by
  intro x hm he
  obtain ⟨l', r', -, hr', he', hn⟩ := State.mem_slotWrites_v hm
  obtain rfl : r' = r := by omega
  exact h.not_slotNames hx hn

/-- The slots leave an engine-wide register that the operation names. -/
theorem PeClear.slots_leave_eng {y : PeFile × Nat} (hx : y ∈ dests) :
    ∀ x ∈ (s.peWrites e f slots (.ok {})).eng, (x.1, x.2.1) ≠ y := by
  rintro x hm rfl
  exact h.not_slotNames hx (State.mem_slotWrites_eng hm).2

theorem PeClear.peState : s.peState e = 2 := by
  obtain ⟨hi, -⟩ := h
  simpa [State.peIssues] using (Bool.and_eq_true_iff.1 hi).1

/-- An instruction in the clear takes effect with its writes and those of its slots (R123). -/
theorem PeClear.issue_done {op : PeCore → PeRes} {w : Writes} (hop : op (s.core e) = .ok w) (hw : w.dests = dests) :
    InstrDone e (s.peWrites e f slots (.ok w)) s (s.peIssue e f slots op) := by
  obtain ⟨hi, hb, hs, hd⟩ := id h
  rw [State.peIssue_eq s e f slots op w hi hb hop hs (by rw [hw]; exact hd)]
  have hf : Fetched e s (s.fetch e) := Fetched.refl.fetch
  exact hf.done (State.peComplete_done (hf.peState.trans h.peState) _)

end

end Sys2Proof.Machine
end

section
/-! SUPPORT. The registers of a core after the writes of an instruction, and what the instruction leaves (R123, R131). -/

namespace Sys2Proof.Machine

variable {s t u : State}

/-! ### Files -/

/-- Writes of a list of which those at a key have one value leave that value there. -/
theorem SMap.find_writes_eq {α : Type} [DecidableEq α] (d : α) (l : List (Nat × α)) (m : SMap α) (k : Nat) (v : α)
    (hv : ∀ x ∈ l, x.1 = k → x.2 = v) (hk : ∃ x ∈ l, x.1 = k) :
    SMap.find d (l.foldl (fun m p => SMap.set d m p.1 p.2) m) k = v := by
  induction l generalizing m with
  | nil => exact absurd hk (by simp)
  | cons x l ih =>
    rw [List.foldl_cons]
    by_cases hl : ∃ y ∈ l, y.1 = k
    · exact ih _ (fun y hy => hv y (List.mem_cons_of_mem _ hy)) hl
    · obtain ⟨y, hy, he⟩ := hk
      rcases List.mem_cons.1 hy with rfl | hy
      · rw [SMap.find_writes_ne _ _ _ _ fun z hz hzk => hl ⟨z, hz, hzk⟩, SMap.find_set, if_pos he, hv _ (by simp) he]
      · exact absurd ⟨y, hy, he⟩ hl

/-- The width of a register of an engine-wide file (R131). -/
def fileBits (f : PeFile) : Nat := if f = .m then 32 else 16

/-- The files that a write reaches. -/
def PeFile.written (f : PeFile) : Prop := f = .a ∨ f = .m ∨ f = .o ∨ f = .lc

theorem PeCore.engReg_setEng (c : PeCore) (x : PeFile × Nat × Nat) {f : PeFile} (hf : f.written) (k n : Nat) :
    (c.setEng x).engReg k f n = if (x.1, x.2.1) = (f, n) then x.2.2 % 2 ^ fileBits f else c.engReg k f n := by
  obtain ⟨g, i, v⟩ := x
  rcases hf with rfl | rfl | rfl | rfl <;> cases g <;> by_cases hn : i = n <;>
    simp [PeCore.setEng, PeCore.engReg, PeCore.ar, fileBits, SMap.find_set, hn]

theorem PeCore.engReg_setEngs_ne (l : List (PeFile × Nat × Nat)) (c : PeCore) {f : PeFile} (hf : f.written) (k n : Nat)
    (h : ∀ x ∈ l, (x.1, x.2.1) ≠ (f, n)) : (l.foldl PeCore.setEng c).engReg k f n = c.engReg k f n := by
  induction l generalizing c with
  | nil => rfl
  | cons x l ih =>
    rw [List.foldl_cons, ih _ fun y hy => h y (List.mem_cons_of_mem _ hy), PeCore.engReg_setEng _ _ hf,
      if_neg (h x (by simp))]

theorem PeCore.engReg_setEngs_eq (l : List (PeFile × Nat × Nat)) (c : PeCore) {f : PeFile} (hf : f.written) (k n v : Nat)
    (hv : ∀ x ∈ l, (x.1, x.2.1) = (f, n) → x.2.2 = v) (hk : ∃ x ∈ l, (x.1, x.2.1) = (f, n)) :
    (l.foldl PeCore.setEng c).engReg k f n = v % 2 ^ fileBits f := by
  induction l generalizing c with
  | nil => exact absurd hk (by simp)
  | cons x l ih =>
    rw [List.foldl_cons]
    by_cases hl : ∃ y ∈ l, (y.1, y.2.1) = (f, n)
    · exact ih _ (fun y hy => hv y (List.mem_cons_of_mem _ hy)) hl
    · obtain ⟨y, hy, he⟩ := hk
      rcases List.mem_cons.1 hy with rfl | hy
      · rw [PeCore.engReg_setEngs_ne _ _ hf _ _ fun z hz hzk => hl ⟨z, hz, hzk⟩, PeCore.engReg_setEng _ _ hf, if_pos he,
          hv _ (by simp) he]
      · exact absurd ⟨y, hy, he⟩ hl

/-! ### The core after an instruction -/

theorem PeCore.after_keep (c : PeCore) (pc : Nat) (w : Writes) :
    (c.after pc w).v = w.v.foldl (fun m p => SMap.set 0 m p.1 p.2) c.v ∧
      (c.after pc w).acc = w.acc.foldl (fun m p => SMap.set 0 m p.1 p.2) c.acc ∧ (c.after pc w).cf = w.cf.getD c.cf ∧
      (c.after pc w).a = (c.apply w).a ∧ (c.after pc w).m = (c.apply w).m ∧ (c.after pc w).o = (c.apply w).o ∧
      (c.after pc w).xfers = c.xfers ∧ (c.after pc w).crc = c.crc := by
  obtain ⟨f1, f2, f3, f4, f5, f6, f7, f8, -, -⟩ := flowRun_keep (c.apply w) pc w.flow
  obtain ⟨a1, a2, a3, a4, a5, -, -⟩ := c.apply_keep w
  exact ⟨f1.trans a1, f2.trans a2, f3.trans a3, f4, f5, f6, f7.trans a4, f8.trans a5⟩

theorem PeCore.engReg_apply_ne (c : PeCore) (w : Writes) {f : PeFile} (hf : f.written) (k n : Nat)
    (h : ∀ x ∈ w.eng, (x.1, x.2.1) ≠ (f, n)) : (c.apply w).engReg k f n = c.engReg k f n := by
  rw [PeCore.apply, PeCore.engReg_setEngs_ne _ _ hf _ _ h]
  rcases hf with rfl | rfl | rfl | rfl <;> rfl

theorem PeCore.engReg_apply_eq (c : PeCore) (w : Writes) {f : PeFile} (hf : f.written) (k n v : Nat)
    (hv : ∀ x ∈ w.eng, (x.1, x.2.1) = (f, n) → x.2.2 = v) (hk : ∃ x ∈ w.eng, (x.1, x.2.1) = (f, n)) :
    (c.apply w).engReg k f n = v % 2 ^ fileBits f := by
  rw [PeCore.apply, PeCore.engReg_setEngs_eq _ _ hf _ _ _ hv hk]

section
variable {e : Nat} {w : Writes} (h : InstrDone e w s t)
include h

theorem InstrDone.vr (l r : Nat) :
    (t.core e).vr l r = SMap.find 0 (w.v.foldl (fun m p => SMap.set 0 m p.1 p.2) (s.core e).v) (l * 16 + r) := by
  rw [PeCore.vr, h.core.1, ((s.core e).after_keep (s.pePc e) w).1]

theorem InstrDone.ac (l n : Nat) :
    (t.core e).ac l n = SMap.find 0 (w.acc.foldl (fun m p => SMap.set 0 m p.1 p.2) (s.core e).acc) (l * 4 + n) := by
  rw [PeCore.ac, h.core.2.1, ((s.core e).after_keep (s.pePc e) w).2.1]

theorem InstrDone.cf : (t.core e).cf = w.cf.getD (s.core e).cf := by
  obtain ⟨-, -, hc, -⟩ := (s.core e).after_keep (s.pePc e) w
  obtain ⟨-, -, h3, -⟩ := h.core
  exact h3.trans hc

theorem InstrDone.transfers : (t.core e).xfers = (s.core e).xfers ∧ (t.core e).crc = (s.core e).crc := by
  obtain ⟨-, -, -, -, -, -, hx, hr⟩ := (s.core e).after_keep (s.pePc e) w
  obtain ⟨-, -, -, -, -, -, h7, h8, -⟩ := h.core
  exact ⟨h7.trans hx, h8.trans hr⟩

/-- The addressing registers are those that the writes leave; control does not touch them. -/
theorem InstrDone.addressing (k n : Nat) {f : PeFile} (hf : f = .a ∨ f = .m ∨ f = .o) :
    (t.core e).engReg k f n = ((s.core e).apply w).engReg k f n := by
  obtain ⟨-, -, -, ha, hm, ho, -, -⟩ := (s.core e).after_keep (s.pePc e) w
  obtain ⟨-, -, -, h4, h5, h6, -⟩ := h.core
  rcases hf with rfl | rfl | rfl
  · simp only [PeCore.engReg, PeCore.ar, h4, ha]
  · simp only [PeCore.engReg, h5, hm]
  · simp only [PeCore.engReg, h6, ho]

end

/-! ### The frame -/

/-- The writes of an operation reach only the registers that are named. -/
structure Writes.Within (w : Writes) (c : PeCore) (vd ad : Nat → Nat → Bool) (cfd : Nat → Bool) (td : Bool)
    (ed : Option (PeFile × Nat)) : Prop where
  v     : ∀ l r, l < 4 → r < 16 → vd l r = false → ∀ x ∈ w.v, x.1 ≠ l * 16 + r
  acc   : ∀ l n, l < 4 → n < 4 → ad l n = false → ∀ x ∈ w.acc, x.1 ≠ l * 4 + n
  eng   : ∀ x ∈ w.eng, ed = some (x.1, x.2.1)
  cf    : ∀ l, cfd l = false → (w.cf.getD c.cf).toNat.testBit l = c.cf.toNat.testBit l
  trace : td = false → w.trace = none
  bytes : w.bytes = []

theorem Memory.byte_writes (l : List (Nat × List Byte)) (m : Memory) (x : Nat)
    (h : ∀ p ∈ l, x < p.1 ∨ p.1 + p.2.length ≤ x) :
    Memory.byte (l.foldl (fun m p => Memory.write m p.1 p.2) m) x = Memory.byte m x := by
  induction l generalizing m with
  | nil => rfl
  | cons p l ih =>
    rw [List.foldl_cons, ih _ fun q hq => h q (List.mem_cons_of_mem _ hq),
      Memory.write_keepsOutside _ _ _ _ (h p (by simp))]

theorem InstrDone.peFrame {e : Fin 64} {f : InstrFields} {slots : Bool} {w : Writes} {vd ad : Nat → Nat → Bool}
    {cfd : Nat → Bool} {td : Bool} {ed : Option (PeFile × Nat)}
    (h : InstrDone e (s.peWrites e f slots (.ok w)) s t) (hw : w.Within (s.core e) vd ad cfd td ed) :
    PeFrame e f slots vd ad cfd td ed s t := by
  have hW := s.peWrites_ok e f slots w
  dsimp only at hW
  rw [hW] at h
  obtain ⟨hx, hc⟩ := h.transfers
  have heng : ∀ (g : PeFile) (n : Nat), g = .a ∨ g = .m ∨ g = .o → ed ≠ some (g, n) →
      (∀ x ∈ (s.peWrites e f slots (.ok {})).eng, (x.1, x.2.1) ≠ (g, n)) →
      (t.core e).engReg 0 g n = (s.core e).engReg 0 g n := fun g n hg hed hn => by
    rw [h.addressing 0 n hg, PeCore.engReg_apply_ne _ _ (by rcases hg with rfl | rfl | rfl <;> simp [PeFile.written])]
    intro x hx he
    rcases List.mem_append.1 hx with hx | hx
    · exact hed (he ▸ hw.eng x hx)
    · exact hn x hx he
  refine ⟨fun l r hl hr hv hs => ?_, fun l n hl hn ha => ?_, fun n hed hs => heng .a n (by simp) hed hs, fun n hed => ?_,
    fun n hed hs => BitVec.eq_of_toNat_eq (heng .o n (by simp) hed hs), fun l hl => ?_, fun ht => ?_, hx, hc,
    fun e' he => h.others _ (by simpa [Fin.ext_iff] using he), fun x hs => ?_, h.frame⟩
  · rw [h.vr, SMap.find_writes_ne]
    · rfl
    · intro x hx
      rcases List.mem_append.1 hx with hx | hx
      · exact hw.v l r hl hr hv x hx
      · exact hs x hx
  · rw [h.ac, SMap.find_writes_ne _ _ _ _ (hw.acc l n hl hn ha)]
    rfl
  · refine BitVec.eq_of_toNat_eq (heng .m n (by simp) hed fun x hx he => ?_)
    obtain ⟨h1, -⟩ := State.mem_slotWrites_eng hx
    simp [(Prod.mk.inj he).1] at h1
  · rw [h.cf, hw.cf l hl]
  · rw [h.trace, hw.trace ht]
    rfl
  · rw [h.mem, Memory.byte_writes]
    rw [hw.bytes]
    exact hs

end Sys2Proof.Machine
end

section
/-! SUPPORT. Operations that write one lane register or one accumulator in the enabled lanes (R116-R119). -/

namespace Sys2Proof.Machine

variable {s t u : State}

theorem mem_lanes_ne_zero {lm : BitVec 4} {l : Nat} (h : l ∈ lanes lm) : lm ≠ 0 := by
  rintro rfl
  simpa using ((mem_lanes 0 l).1 h).2

theorem mem_destV {lm : BitVec 4} {l r : Nat} (h : l ∈ lanes lm) : (.v, r) ∈ destV lm r := by
  rw [destV, if_neg (mem_lanes_ne_zero h)]
  exact List.mem_singleton_self _

section
variable {e : Fin 64} {f : InstrFields} {slots : Bool} {dests : List (PeFile × Nat)} (h : PeClear e f slots dests s)
  {w : Writes}
include h

/-- A lane register that the operation writes and the slots leave. -/
theorem PeClear.vr_eq (hd : InstrDone e (s.peWrites e f slots (.ok w)) s t) {l r : Nat} {x : Word} (hr : r < 16)
    (hn : (.v, r) ∈ dests) (hv : ∀ y ∈ w.v, y.1 = l * 16 + r → y.2 = x) (hk : ∃ y ∈ w.v, y.1 = l * 16 + r) :
    (t.core e).vr l r = x := by
  have hW := s.peWrites_ok e f slots w
  dsimp only at hW
  rw [hW] at hd
  rw [hd.vr]
  refine SMap.find_writes_eq _ _ _ _ _ (fun y hy he => ?_) ?_
  · rcases List.mem_append.1 hy with hy | hy
    · exact hv y hy he
    · exact absurd he (h.slots_leave_v hr hn y hy)
  · obtain ⟨y, hy, he⟩ := hk
    exact ⟨y, List.mem_append_left _ hy, he⟩

omit h in
/-- An accumulator that the operation writes; no slot writes one. -/
theorem InstrDone.ac_eq (hd : InstrDone e (s.peWrites e f slots (.ok w)) s t) {l n : Nat} {x : BitVec 72}
    (hv : ∀ y ∈ w.acc, y.1 = l * 4 + n → y.2 = x) (hk : ∃ y ∈ w.acc, y.1 = l * 4 + n) : (t.core e).ac l n = x := by
  have hW := s.peWrites_ok e f slots w
  dsimp only at hW
  rw [hW] at hd
  rw [hd.ac]
  exact SMap.find_writes_eq _ _ _ _ _ hv hk

omit h in
/-- The flags and the count of saturations are those of the operation; no slot sets one. -/
theorem InstrDone.flags (hd : InstrDone e (s.peWrites e f slots (.ok w)) s t) :
    t.bit (Reg.PE_STATUS e) Fld.PE_STATUS_AOVF = (w.aovf || s.bit (Reg.PE_STATUS e) Fld.PE_STATUS_AOVF) ∧
      t.bit (Reg.PE_STATUS e) Fld.PE_STATUS_SATF = (w.satf || s.bit (Reg.PE_STATUS e) Fld.PE_STATUS_SATF) ∧
      t.regN (Reg.PE_SAT_COUNT e) =
        if w.satf then min (s.regN (Reg.PE_SAT_COUNT e) + 1) 0xFFFFFFFF else s.regN (Reg.PE_SAT_COUNT e) := by
  have hW := s.peWrites_ok e f slots w
  dsimp only at hW
  rw [hW] at hd
  exact ⟨hd.aovf, hd.satf, hd.count⟩

end

/-! ### One lane register -/

/-- The writes of an operation to register d of the enabled lanes. -/
def laneWrites (f : InstrFields) (d : Nat) (val : Nat → Word) (satf : Bool) (rd : List Nat) : Writes :=
  { v := (lanes f.lmask).map (fun l => (l * 16 + d, val l)), satf := satf, dests := destV f.lmask d, rdAcc := rd }

/-- What an operation on register d of the enabled lanes leaves. -/
structure LaneDone (e : Fin 64) (f : InstrFields) (slots : Bool) (d : Nat) (val : Nat → Word) (satf : Bool) (s t : State) : Prop where
  value : ∀ l, l < 4 → f.lane l = true → (t.core e).vr l d = val l
  flag  : t.bit (Reg.PE_STATUS e) Fld.PE_STATUS_SATF = (satf || s.bit (Reg.PE_STATUS e) Fld.PE_STATUS_SATF)
  count : t.regN (Reg.PE_SAT_COUNT e) =
    if satf then min (s.regN (Reg.PE_SAT_COUNT e) + 1) 0xFFFFFFFF else s.regN (Reg.PE_SAT_COUNT e)
  frame : PeFrame e f slots (f.dest d) noLane noFlag false none s t

theorem PeClear.laneDone {e : Fin 64} {f : InstrFields} {slots : Bool} {d : Nat} {val : Nat → Word} {satf : Bool} {rd : List Nat}
    {op : PeCore → PeRes} (h : PeClear e f slots (destV f.lmask d) s) (hd : d < 16)
    (hop : op (s.core e) = .ok (laneWrites f d val satf rd)) : LaneDone e f slots d val satf s (s.peIssue e f slots op) := by
  have hI := h.issue_done hop rfl
  obtain ⟨-, hs, hc⟩ := hI.flags
  refine ⟨fun l hl hf => ?_, hs, hc, hI.peFrame ⟨fun l r hl hr hv x hx he => ?_, fun _ _ _ _ _ x hx => ?_, fun x hx => ?_,
    fun _ _ => rfl, fun _ => rfl, rfl⟩⟩
  · have hm := mem_lanes_iff.2 ⟨hl, hf⟩
    refine h.vr_eq hI hd (mem_destV hm) (fun y hy he => ?_) ⟨_, List.mem_map_of_mem hm, rfl⟩
    obtain ⟨k, -, rfl⟩ := List.mem_map.1 hy
    obtain rfl : k = l := by dsimp only at he; omega
    rfl
  · obtain ⟨k, hk, rfl⟩ := List.mem_map.1 hx
    dsimp only at he
    obtain rfl : k = l := by omega
    obtain rfl : d = r := by omega
    simp [InstrFields.dest, (mem_lanes_iff.1 hk).2] at hv
  · exact absurd hx List.not_mem_nil
  · exact absurd hx List.not_mem_nil

/-! ### One accumulator -/

/-- The writes of an operation to accumulator d of the enabled lanes. -/
def accWrites (f : InstrFields) (d : Nat) (val : Nat → BitVec 72) (aovf : Bool) (rd : List Nat) : Writes :=
  { acc := (lanes f.lmask).map (fun l => (l * 4 + d, val l)), aovf := aovf, dests := destAcc f.lmask d, rdAcc := rd }

/-- What an operation on accumulator d of the enabled lanes leaves. -/
structure AccDone (e : Fin 64) (f : InstrFields) (d : Nat) (val : Nat → BitVec 72) (aovf : Bool) (s t : State) : Prop where
  value : ∀ l, l < 4 → f.lane l = true → (t.core e).ac l d = val l
  flag  : t.bit (Reg.PE_STATUS e) Fld.PE_STATUS_AOVF = (aovf || s.bit (Reg.PE_STATUS e) Fld.PE_STATUS_AOVF)
  frame : PeFrame e f true noLane (f.dest d) noFlag false none s t

theorem PeClear.accDone {e : Fin 64} {f : InstrFields} {d : Nat} {val : Nat → BitVec 72} {aovf : Bool} {rd : List Nat}
    {op : PeCore → PeRes} (h : PeClear e f true (destAcc f.lmask d) s) (hd : d < 4)
    (hop : op (s.core e) = .ok (accWrites f d val aovf rd)) : AccDone e f d val aovf s (s.peIssue e f true op) := by
  have hI := h.issue_done hop rfl
  obtain ⟨ha, -, -⟩ := hI.flags
  refine ⟨fun l hl hf => ?_, ha, hI.peFrame ⟨fun _ _ _ _ _ x hx => ?_, fun l r hl hr hv x hx he => ?_, fun x hx => ?_,
    fun _ _ => rfl, fun _ => rfl, rfl⟩⟩
  · refine hI.ac_eq (fun y hy he => ?_) ⟨_, List.mem_map_of_mem (mem_lanes_iff.2 ⟨hl, hf⟩), rfl⟩
    obtain ⟨k, -, rfl⟩ := List.mem_map.1 hy
    obtain rfl : k = l := by dsimp only at he; omega
    rfl
  · exact absurd hx List.not_mem_nil
  · obtain ⟨k, hk, rfl⟩ := List.mem_map.1 hx
    dsimp only at he
    obtain rfl : k = l := by omega
    obtain rfl : d = r := by omega
    simp [InstrFields.dest, (mem_lanes_iff.1 hk).2] at hv
  · exact absurd hx List.not_mem_nil

/-! ### The operations -/

theorem aluOp_ok (f : InstrFields) (g : Word → Word → Bool → Word × Bool) (c : PeCore) :
    let r := fun l => g (c.vr l f.srca.toNat) (c.vr l f.srcb.toNat) (c.cf.toNat.testBit l)
    aluOp f g c = .ok (laneWrites f f.dst.toNat (fun l => (r l).1) ((lanes f.lmask).any fun l => (r l).2) []) := by
  simp [aluOp, laneWrites, List.map_map, Function.comp_def, List.any_map]

theorem rdOp_ok (f : InstrFields) (g : BitVec 72 → Word) (c : PeCore) : rdOp f g c =
    .ok (laneWrites f f.dst.toNat (fun l => g (c.ac l (f.srca.toNat % 4))) false (readsAcc f.lmask [f.srca.toNat % 4])) := rfl

theorem stsOp_ok {f : InstrFields} (h : f.aux.toNat ≤ 8) (c : PeCore) :
    let r := fun l => storePath (c.ac l (f.srca.toNat % 4)) f.aux.toNat
    stsOp f c = .ok (laneWrites f f.dst.toNat (fun l => (r l).1) ((lanes f.lmask).any fun l => (r l).2)
      (readsAcc f.lmask [f.srca.toNat % 4])) := by
  simp [stsOp, laneWrites, List.map_map, Function.comp_def, List.any_map, Nat.not_lt.2 h]

theorem macOp_ok {f : InstrFields} (hd : f.dst.toNat < 4) (ha : f.aux = 0) (g : Int → Int → Int) (c : PeCore) :
    let r := fun l => accWrap (g (c.ac l f.dst.toNat).toInt (product (c.vr l f.srca.toNat) (c.vr l f.srcb.toNat)))
    macOp f g c = .ok (accWrites f f.dst.toNat (fun l => (r l).1) ((lanes f.lmask).any fun l => (r l).2) []) := by
  simp [macOp, accWrites, List.map_map, Function.comp_def, List.any_map, ha, Nat.div_eq_of_lt hd]

theorem accOp_ok (f : InstrFields) (rd : List Nat) (g : Int → Int → Word → Int) (c : PeCore) :
    let r := fun l => accWrap (g (c.ac l (f.dst.toNat % 4)).toInt (c.ac l (f.srca.toNat % 4)).toInt (c.vr l f.srca.toNat))
    accOp f rd g c = .ok (accWrites f (f.dst.toNat % 4) (fun l => (r l).1) ((lanes f.lmask).any fun l => (r l).2)
      (readsAcc f.lmask rd)) := by
  simp [accOp, accWrites, List.map_map, Function.comp_def, List.any_map]

/-! ### Exact results -/

section
variable {e : Fin 64} {f : InstrFields} {d : Nat} {v : Nat → Int}

/-- Whether a flag is set in any enabled lane. -/
theorem any_lanes_iff {p : Nat → Bool} : (lanes f.lmask).any p = true ↔ ∃ l, l < 4 ∧ f.lane l = true ∧ p l = true := by
  simp only [List.any_eq_true, mem_lanes_iff, and_assoc]

theorem accWrap_flag (x : Int) : (accWrap x).2 = true ↔ x < -(2 ^ 71 : Int) ∨ 2 ^ 71 ≤ x := by
  simp [accWrap]

/-- The exact value goes into the accumulator modulo 2^72, and AOVF says where it lay outside the range (R110). -/
theorem AccDone.exact (h : AccDone e f d (fun l => (accWrap (v l)).1) ((lanes f.lmask).any fun l => (accWrap (v l)).2) s t) :
    (∀ l, l < 4 → f.lane l = true → (t.core e).ac l d = BitVec.ofInt 72 (v l)) ∧
      ((∃ l, l < 4 ∧ f.lane l = true ∧ (v l < -(2 ^ 71 : Int) ∨ 2 ^ 71 ≤ v l)) →
        t.bit (Reg.PE_STATUS e) Fld.PE_STATUS_AOVF = true) ∧
      ((∀ l, l < 4 → f.lane l = true → -(2 ^ 71 : Int) ≤ v l ∧ v l < 2 ^ 71) →
        t.bit (Reg.PE_STATUS e) Fld.PE_STATUS_AOVF = s.bit (Reg.PE_STATUS e) Fld.PE_STATUS_AOVF) ∧
      PeFrame e f true noLane (f.dest d) noFlag false none s t := by
  refine ⟨h.value, fun hx => ?_, fun hx => ?_, h.frame⟩
  · rw [h.flag, any_lanes_iff.2 (by simpa only [accWrap_flag] using hx), Bool.true_or]
  · have hn : ((lanes f.lmask).any fun l => (accWrap (v l)).2) = false := by
      rw [← Bool.not_eq_true, any_lanes_iff]
      rintro ⟨l, hl, hf, hp⟩
      obtain ⟨h1, h2⟩ := hx l hl hf
      rcases (accWrap_flag _).1 hp with hp | hp <;> omega
    rw [h.flag, hn, Bool.false_or]

theorem satInt_word (x : Int) :
    satInt 32 x = if x < -(2 ^ 31 : Int) then -(2 ^ 31 : Int) else if 2 ^ 31 ≤ x then 2 ^ 31 - 1 else x := by
  unfold satInt clampInt
  push_cast
  split_ifs <;> omega

theorem satWord_value (x : Int) : (satWord x).1 =
    BitVec.ofInt 32 (if x < -(2 ^ 31 : Int) then -(2 ^ 31 : Int) else if 2 ^ 31 ≤ x then 2 ^ 31 - 1 else x) := by
  rw [satWord, wordOfInt, satInt_word]

theorem satWord_flag (x : Int) : (satWord x).2 = true ↔ x < -(2 ^ 31 : Int) ∨ 2 ^ 31 ≤ x := by
  rw [satWord, decide_eq_true_iff, satInt_word]
  split_ifs <;> omega

/-- The exact value limited to a word goes into the lane register, and an instruction that limits a lane sets SATF and counts once
(R111, R113). -/
theorem LaneDone.limited
    (h : LaneDone e f true d (fun l => (satWord (v l)).1) ((lanes f.lmask).any fun l => (satWord (v l)).2) s t) :
    (∀ l, l < 4 → f.lane l = true → (t.core e).vr l d =
      BitVec.ofInt 32 (if v l < -(2 ^ 31 : Int) then -(2 ^ 31 : Int) else if 2 ^ 31 ≤ v l then 2 ^ 31 - 1 else v l)) ∧
      ((∃ l, l < 4 ∧ f.lane l = true ∧ (v l < -(2 ^ 31 : Int) ∨ 2 ^ 31 ≤ v l)) →
        t.bit (Reg.PE_STATUS e) Fld.PE_STATUS_SATF = true ∧
        t.regN (Reg.PE_SAT_COUNT e) = min (s.regN (Reg.PE_SAT_COUNT e) + 1) 0xFFFFFFFF) ∧
      ((∀ l, l < 4 → f.lane l = true → -(2 ^ 31 : Int) ≤ v l ∧ v l < 2 ^ 31) →
        t.bit (Reg.PE_STATUS e) Fld.PE_STATUS_SATF = s.bit (Reg.PE_STATUS e) Fld.PE_STATUS_SATF ∧
        t.regN (Reg.PE_SAT_COUNT e) = s.regN (Reg.PE_SAT_COUNT e)) ∧
      PeFrame e f true (f.dest d) noLane noFlag false none s t := by
  refine ⟨fun l hl hf => (h.value l hl hf).trans (satWord_value _), fun hx => ?_, fun hx => ?_, h.frame⟩
  · have hn : ((lanes f.lmask).any fun l => (satWord (v l)).2) = true :=
      any_lanes_iff.2 (by simpa only [satWord_flag] using hx)
    rw [h.flag, h.count, hn]
    exact ⟨rfl, rfl⟩
  · have hn : ((lanes f.lmask).any fun l => (satWord (v l)).2) = false := by
      rw [← Bool.not_eq_true, any_lanes_iff]
      rintro ⟨l, hl, hf, hp⟩
      obtain ⟨h1, h2⟩ := hx l hl hf
      rcases (satWord_flag _).1 hp with hp | hp <;> omega
    rw [h.flag, h.count, hn]
    exact ⟨rfl, rfl⟩

end

end Sys2Proof.Machine
end

section
/-! Multiply-accumulate. -/

open Sys2Proof Sys2Proof.Machine

/-- Settles O11: the three instructions are one accumulator operation on the exact product. -/
theorem multiplyAccumulate : Obligations.MultiplyAccumulate := by
  intro e f s c g hc hd ha h v
  have he : exec c s = .next (s.peIssue e f true (macOp f g)) := by
    simp only [List.mem_cons, Prod.mk.injEq, List.not_mem_nil, or_false] at hc
    rcases hc with ⟨rfl, rfl⟩ | ⟨rfl, rfl⟩ | ⟨rfl, rfl⟩ <;> rfl
  exact ⟨_, he, (h.accDone hd (macOp_ok hd ha g _)).exact⟩

end

section
/-! SUPPORT. The compares, and the ALU operations as the model spells them (R112, R113, R117, R119). -/

namespace Sys2Proof.Machine

variable {s t : State}

/-! ### Compares -/

/-- Bits of a mask written one after the other. -/
theorem testBit_foldl_maskSet (p : Nat → Bool) {ls : List Nat} (hls : ∀ x ∈ ls, x < 4) (m : BitVec 4) (l : Nat) :
    (ls.foldl (fun m x => maskSet m x (p x)) m).toNat.testBit l = if l ∈ ls then p l else m.toNat.testBit l := by
  induction ls generalizing m with
  | nil => rfl
  | cons x ls ih =>
    rw [List.foldl_cons, ih fun y hy => hls y (List.mem_cons_of_mem _ hy), testBit_maskSet _ (hls x (by simp))]
    by_cases h : l ∈ ls
    · simp [h]
    · by_cases hx : x = l
      · subst hx; simp
      · simp [h, hx, Ne.symm hx]

/-- The condition flags that an operation writes; no slot writes them. -/
theorem InstrDone.cf_eq {e : Fin 64} {f : InstrFields} {slots : Bool} {w : Writes}
    (hd : InstrDone e (s.peWrites e f slots (.ok w)) s t) {m : BitVec 4} (hm : w.cf = some m) : (t.core e).cf = m := by
  have hW := s.peWrites_ok e f slots w
  dsimp only at hW
  rw [hW] at hd
  rw [hd.cf, hm]
  rfl

theorem PeClear.compareDone {e : Fin 64} {f : InstrFields} (h : PeClear e f true [] s) (g : Word → Word → Bool) :
    (∀ l, l < 4 → f.lane l = true → ((s.peIssue e f true (cmpOp f g)).core e).cf.toNat.testBit l =
      g ((s.core e).vr l f.srca.toNat) ((s.core e).vr l f.srcb.toNat)) ∧
    PeFrame e f true noLane noLane f.lane false none s (s.peIssue e f true (cmpOp f g)) := by
  have hI := h.issue_done (op := cmpOp f g) rfl rfl
  have hcf := testBit_foldl_maskSet (fun l => g ((s.core e).vr l f.srca.toNat) ((s.core e).vr l f.srcb.toNat))
    (fun x hx => (mem_lanes_iff.1 hx).1 : ∀ x ∈ lanes f.lmask, x < 4) (s.core e).cf
  refine ⟨fun l hl hf => ?_, hI.peFrame ⟨fun _ _ _ _ _ x hx => ?_, fun _ _ _ _ _ x hx => ?_, fun x hx => ?_, fun l hl => ?_,
    fun _ => rfl, rfl⟩⟩
  · rw [hI.cf_eq rfl]
    exact (hcf l).trans (if_pos (mem_lanes_iff.2 ⟨hl, hf⟩))
  · exact absurd hx List.not_mem_nil
  · exact absurd hx List.not_mem_nil
  · exact absurd hx List.not_mem_nil
  · refine (hcf l).trans (if_neg fun hm => ?_)
    simp [(mem_lanes_iff.1 hm).2] at hl

/-! ### Words and integers -/

theorem wordLt_eq (a b : Word) : wordLt a b = decide (a.toInt < b.toInt) := rfl

theorem floorShift_eq_ediv (v : Int) (k : Nat) : floorShift v k = v / 2 ^ k := by
  rw [floorShift, Int.fdiv_eq_ediv_of_nonneg _ (by positivity)]
  push_cast
  rfl

/-- An arithmetic shift is the floor of the value times 2^-k (R112). -/
theorem wordOfInt_floorShift (a : Word) (k : Nat) : wordOfInt (floorShift a.toInt k) = a.sshiftRight k := by
  rw [floorShift_eq_ediv, wordOfInt, BitVec.sshiftRight, Int.shiftRight_eq_div_pow]
  push_cast
  rfl

end Sys2Proof.Machine
end

section
/-! ALU operations without saturation, and compares. -/

open Sys2Proof Sys2Proof.Machine

/-- Settles O12: each operation as the model spells it, lane by lane; a compare writes the mask CF bit by bit. -/
theorem logicAndCompares : Obligations.LogicAndCompares := by
  refine ⟨?alu, ?compare⟩
  case alu =>
    intro e f rc s c g k hc h
    obtain ⟨g', he, hg⟩ : ∃ g', exec c s = .next (s.peIssue e f true (aluOp f g')) ∧ ∀ a b cf, g' a b cf = plain (g a b cf) := by
      simp only [List.mem_cons, Prod.mk.injEq, List.not_mem_nil, or_false] at hc
      rcases hc with ⟨rfl, rfl⟩ | ⟨rfl, rfl⟩ | ⟨rfl, rfl⟩ | ⟨rfl, rfl⟩ | ⟨rfl, rfl⟩ | ⟨rfl, rfl⟩ | ⟨rfl, rfl⟩ | ⟨rfl, rfl⟩ |
        ⟨rfl, rfl⟩ | ⟨rfl, rfl⟩ | ⟨rfl, rfl⟩ | ⟨rfl, rfl⟩
      all_goals refine ⟨_, rfl, fun a b cf => ?_⟩
      case inr.inr.inl => simp only [wordLt, decide_eq_true_eq]
      case inr.inr.inr.inl => simp only [wordLt, decide_eq_true_eq]
      case inr.inr.inr.inr.inr.inr.inr.inr.inr.inl => exact congrArg plain (wordOfInt_floorShift a _)
      all_goals rfl
    have hd := h.laneDone f.dst.isLt (aluOp_ok f g' _)
    refine ⟨_, he, fun l hl hf => ?_, ?_, hd.frame⟩
    · exact (hd.value l hl hf).trans (congrArg Prod.fst (hg _ _ _))
    · rw [hd.flag]
      simp [hg, plain]
  case compare =>
    intro e f s c g hc h
    obtain ⟨g', he, hg⟩ : ∃ g', exec c s = .next (s.peIssue e f true (cmpOp f g')) ∧ ∀ a b, g' a b = g a b := by
      simp only [List.mem_cons, Prod.mk.injEq, List.not_mem_nil, or_false] at hc
      rcases hc with ⟨rfl, rfl⟩ | ⟨rfl, rfl⟩ | ⟨rfl, rfl⟩
      all_goals refine ⟨_, rfl, fun a b => ?_⟩
      · exact beq_eq_decide a b
      · rfl
      · rw [wordLt_eq, ← decide_not, decide_eq_decide, Int.not_lt]
    obtain ⟨hv, hf⟩ := h.compareDone g'
    exact ⟨_, he, fun l hl hm => (hv l hl hm).trans (hg _ _), hf⟩

end

section
/-! ALU operations with saturation. -/

open Sys2Proof Sys2Proof.Machine

/-- Settles O13: each operation limits an exact result, and the limit of any lane sets the flag. -/
theorem aluWithSaturation : Obligations.AluWithSaturation := by
  intro e f rc s c g hc h v
  obtain ⟨g', he, hg⟩ : ∃ g', exec c s = .next (s.peIssue e f true (aluOp f g')) ∧
      ∀ a b cf, g' a b cf = satWord (g a.toInt b.toInt (shiftCount f rc b)) := by
    simp only [List.mem_cons, Prod.mk.injEq, List.not_mem_nil, or_false] at hc
    rcases hc with ⟨rfl, rfl⟩ | ⟨rfl, rfl⟩ | ⟨rfl, rfl⟩ | ⟨rfl, rfl⟩ | ⟨rfl, rfl⟩
    all_goals refine ⟨_, rfl, fun a b cf => ?_⟩
    case inr.inr.inr.inr => rw [Nat.cast_pow, Nat.cast_ofNat]
    all_goals rfl
  have hd := h.laneDone f.dst.isLt (aluOp_ok f g' _)
  simp only [hg] at hd
  exact ⟨_, he, hd.limited⟩

end

section
/-! SUPPORT. Accumulator bits and lane registers (R110-R112, R130). -/

namespace Sys2Proof.Machine

/-- A number read as two's complement is the bit vector's value. -/
theorem signed_eq_toInt {n : Nat} (hn : 0 < n) (v : Nat) : signed n v = (BitVec.ofNat n v).toInt := by
  have h : 2 ^ n = 2 * 2 ^ (n - 1) := by rw [← Nat.pow_succ', Nat.succ_eq_add_one, Nat.sub_add_cancel hn]
  rw [BitVec.toInt_eq_toNat_cond, BitVec.toNat_ofNat, signed]
  exact if_congr (by omega) rfl rfl

/-- The bits of a number of which n from lo on are replaced. -/
theorem testBit_replace (x v lo n i : Nat) (hv : v < 2 ^ n) :
    (x - x / 2 ^ lo % 2 ^ n * 2 ^ lo + v * 2 ^ lo).testBit i =
      if lo ≤ i ∧ i < lo + n then v.testBit (i - lo) else x.testBit i := by
  have hx : x - x / 2 ^ lo % 2 ^ n * 2 ^ lo + v * 2 ^ lo = 2 ^ lo * (2 ^ n * (x / 2 ^ lo / 2 ^ n) + v) + x % 2 ^ lo := by
    have h1 := Nat.div_add_mod x (2 ^ lo)
    have h2 := Nat.div_add_mod (x / 2 ^ lo) (2 ^ n)
    have h3 : x = 2 ^ lo * (2 ^ n * (x / 2 ^ lo / 2 ^ n)) + x / 2 ^ lo % 2 ^ n * 2 ^ lo + x % 2 ^ lo := by
      rw [Nat.mul_comm (x / 2 ^ lo % 2 ^ n), ← Nat.mul_add, h2, h1]
    rw [Nat.mul_add, Nat.mul_comm v]
    omega
  rw [hx, Nat.testBit_two_pow_mul_add _ (Nat.mod_lt _ (Nat.two_pow_pos lo)), Nat.testBit_two_pow_mul_add _ hv,
    Nat.testBit_mod_two_pow, Nat.testBit_div_two_pow, Nat.testBit_div_two_pow]
  by_cases h1 : i < lo
  · simp [h1, Nat.not_le.2 h1]
  · by_cases h2 : i < lo + n
    · rw [if_neg h1, if_pos (by omega), if_pos (by omega)]
    · rw [if_neg h1, if_neg (by omega), if_neg (by omega)]
      congr 1
      omega

/-- The bits that WRL, WRM and WRH leave in an accumulator. -/
theorem wrBits (a : BitVec 72) (x : Word) (lo n i : Nat) (hi : i < 72) :
    (BitVec.ofNat 72 (a.toNat - a.toNat / 2 ^ lo % 2 ^ n * 2 ^ lo + x.toNat % 2 ^ n * 2 ^ lo)).getLsbD i =
      if lo ≤ i ∧ i < lo + n then x.getLsbD (i - lo) else a.getLsbD i := by
  rw [BitVec.getLsbD_ofNat, testBit_replace _ _ _ _ _ (Nat.mod_lt _ (Nat.two_pow_pos n)), Nat.testBit_mod_two_pow]
  split
  · rw [decide_eq_true hi, decide_eq_true (by omega), Bool.true_and, Bool.true_and, BitVec.getLsbD]
  · rw [decide_eq_true hi, Bool.true_and, BitVec.getLsbD]

theorem wrOp_ok (f : InstrFields) (lo n : Nat) (c : PeCore) : wrOp f lo n c =
    .ok (accWrites f (f.dst.toNat % 4) (fun l => BitVec.ofNat 72 ((c.ac l (f.dst.toNat % 4)).toNat -
        (c.ac l (f.dst.toNat % 4)).toNat / 2 ^ lo % 2 ^ n * 2 ^ lo + (c.vr l f.srca.toNat).toNat % 2 ^ n * 2 ^ lo)) false
      (readsAcc f.lmask [f.dst.toNat % 4])) := rfl

theorem storePath_eq (a : BitVec 72) (k : Nat) : storePath a k = satWord (a.toInt / 2 ^ (32 + k)) := by
  rw [storePath, floorShift_eq_ediv]

/-- RDH reads the high byte, sign extended. -/
theorem wordOfInt_signed_high (a : BitVec 72) :
    wordOfInt (signed 8 (a.toNat / 2 ^ 64)) = (a.extractLsb' 64 8).signExtend 32 := by
  rw [signed_eq_toInt (by decide), BitVec.signExtend, BitVec.extractLsb', Nat.shiftRight_eq_div_pow]
  rfl

end Sys2Proof.Machine
end

section
/-! Accumulator operations. -/

open Sys2Proof Sys2Proof.Machine

/-- Settles O14: the operations on the exact value, and the moves by the bits that they read and replace. -/
theorem accumulatorOperations : Obligations.AccumulatorOperations := by
  refine ⟨?exact, ?read, ?write, ?store⟩
  case exact =>
    intro e f s c g hc h v
    obtain ⟨rd, g', he, hg⟩ : ∃ rd g', exec c s = .next (s.peIssue e f true (accOp f rd g')) ∧
        ∀ d a x, g' d a x = g d a x.toInt := by
      simp only [List.mem_cons, Prod.mk.injEq, List.not_mem_nil, or_false] at hc
      rcases hc with ⟨rfl, rfl⟩ | ⟨rfl, rfl⟩ | ⟨rfl, rfl⟩ | ⟨rfl, rfl⟩ | ⟨rfl, rfl⟩ | ⟨rfl, rfl⟩ | ⟨rfl, rfl⟩ | ⟨rfl, rfl⟩
      all_goals refine ⟨_, _, rfl, fun d a x => ?_⟩
      case inr.inr.inr.inr.inr.inr.inl => rw [Nat.cast_pow, Nat.cast_ofNat]
      case inr.inr.inr.inr.inr.inr.inr => exact floorShift_eq_ediv a _
      all_goals rfl
    have hd := h.accDone (Nat.mod_lt _ (by decide)) (accOp_ok f rd g' _)
    simp only [hg] at hd
    exact ⟨_, he, hd.exact⟩
  case read =>
    intro e f s c g hc h
    obtain ⟨g', he, hg⟩ : ∃ g', exec c s = .next (s.peIssue e f true (rdOp f g')) ∧ ∀ a, g' a = g a := by
      simp only [List.mem_cons, Prod.mk.injEq, List.not_mem_nil, or_false] at hc
      rcases hc with ⟨rfl, rfl⟩ | ⟨rfl, rfl⟩ | ⟨rfl, rfl⟩
      all_goals refine ⟨_, rfl, fun a => ?_⟩
      · rfl
      · exact congrArg (BitVec.ofNat 32) (Nat.shiftRight_eq_div_pow _ _).symm
      · exact wordOfInt_signed_high a
    have hd := h.laneDone f.dst.isLt (rdOp_ok f g' _)
    exact ⟨_, he, fun l hl hf => (hd.value l hl hf).trans (hg _), hd.frame⟩
  case write =>
    intro e f s c lo n hc h
    have he : exec c s = .next (s.peIssue e f true (wrOp f lo n)) := by
      simp only [List.mem_cons, Prod.mk.injEq, List.not_mem_nil, or_false] at hc
      rcases hc with ⟨rfl, rfl, rfl⟩ | ⟨rfl, rfl, rfl⟩ | ⟨rfl, rfl, rfl⟩ <;> rfl
    have hd := h.accDone (Nat.mod_lt _ (by decide)) (wrOp_ok f lo n _)
    refine ⟨_, he, fun l hl hf i hi => ?_, hd.frame⟩
    rw [hd.value l hl hf]
    exact wrBits _ _ _ _ _ hi
  case store =>
    intro e f s ha h v
    have hd := h.laneDone f.dst.isLt (stsOp_ok ha _)
    simp only [storePath_eq] at hd
    obtain ⟨h1, h2, -, h4⟩ := hd.limited
    exact ⟨_, rfl, h1, fun hx => (h2 hx).1, h4⟩

end

section
/-! SUPPORT. Add-compare-select: metrics modulo 2^24, and the decisions of the lanes side by side (R139-R141). -/

namespace Sys2Proof.Machine

variable {s t : State}

/-! ### Metrics -/

theorem ofNat_lowInt (n : Nat) (v : Int) : BitVec.ofNat n (lowInt n v) = BitVec.ofInt n v := by
  apply BitVec.eq_of_toNat_eq
  have h : 0 ≤ v % (2 ^ n : Nat) := Int.emod_nonneg _ (by simp)
  have hlt : v % (2 ^ n : Nat) < (2 ^ n : Nat) := Int.emod_lt_of_pos _ (by positivity)
  rw [BitVec.toNat_ofNat, BitVec.toNat_ofInt, lowInt, Nat.mod_eq_of_lt (by omega)]

theorem signed_lowInt {n : Nat} (hn : 0 < n) (v : Int) : signed n (lowInt n v) = (BitVec.ofInt n v).toInt := by
  rw [signed_eq_toInt hn, ofNat_lowInt]

theorem ofInt_sub (n : Nat) (x y : Int) : BitVec.ofInt n (x - y) = BitVec.ofInt n x - BitVec.ofInt n y := by
  rw [Int.sub_eq_add_neg, BitVec.ofInt_add, BitVec.ofInt_neg, ← BitVec.sub_eq_add_neg]

/-- A selection is one of two metrics modulo 2^24, by the sign of their difference (R140). -/
theorem acsPick_eq (isMax : Bool) (better : Int → Bool) (hb : ∀ d, (if isMax then decide (0 < d) else decide (d < 0)) = better d)
    (p q : Int) {P Q : BitVec 24} (hp : BitVec.ofInt 24 p = P) (hq : BitVec.ofInt 24 q = Q) :
    acsPick isMax p q = ((if better (Q - P).toInt then Q else P).signExtend 32, better (Q - P).toInt) := by
  have hd : signed 24 (lowInt 24 ((lowInt 24 q : Int) - lowInt 24 p)) = (Q - P).toInt := by
    rw [signed_lowInt (by decide), ofInt_sub, BitVec.ofInt_natCast, BitVec.ofInt_natCast, ofNat_lowInt, ofNat_lowInt,
      hp, hq]
  unfold acsPick
  dsimp only
  rw [hd, hb]
  refine Prod.ext ?_ rfl
  dsimp only
  split
  · rw [signed_lowInt (by decide), hq]
    rfl
  · rw [signed_lowInt (by decide), hp]
    rfl

/-- The metric in a lane register, modulo 2^24. -/
theorem ofInt_signed24 (x : Word) : BitVec.ofInt 24 (signed 24 x.toNat) = x.setWidth 24 := by
  rw [signed_eq_toInt (by decide), BitVec.ofInt_toInt, BitVec.ofNat_toNat]

/-- The branch metric of a butterfly, modulo 2^24. -/
theorem ofInt_signed16 (x : Word) (k : Nat) :
    BitVec.ofInt 24 (signed 16 (x.toNat / 2 ^ k)) = (x.extractLsb' k 16).signExtend 24 := by
  rw [signed_eq_toInt (by decide), BitVec.signExtend, ← Nat.shiftRight_eq_div_pow]
  rfl

/-! ### Decisions -/

/-- Four bits for each enabled lane, side by side. -/
def laneNibbles (lm : BitVec 4) (n : Nat → Nat) : Nat :=
  (lanes lm).foldl (fun acc l => acc + n l * 2 ^ (4 * l)) 0

/-- The nibble of a lane, 0 where the lane is not enabled. -/
def nibble (lm : BitVec 4) (n : Nat → Nat) (l : Nat) : Nat := if lm.toNat.testBit l then n l else 0

theorem laneNibbles_eq (lm : BitVec 4) (n : Nat → Nat) :
    laneNibbles lm n = nibble lm n 0 + 16 * nibble lm n 1 + 256 * nibble lm n 2 + 4096 * nibble lm n 3 := by
  unfold laneNibbles lanes nibble
  simp only [List.filter_cons, List.filter_nil]
  split_ifs <;> simp <;> omega

section
variable {lm : BitVec 4} {n : Nat → Nat} (hn : ∀ l, n l < 16)
include hn

theorem nibble_lt (l : Nat) : nibble lm n l < 16 := by
  unfold nibble
  split
  · exact hn l
  · decide

theorem laneNibbles_lt : laneNibbles lm n < 2 ^ 16 := by
  have h := nibble_lt (lm := lm) hn
  have h0 := h 0
  have h1 := h 1
  have h2 := h 2
  have h3 := h 3
  rw [laneNibbles_eq]
  omega

/-- The nibble of a lane, read from the whole. -/
theorem laneNibbles_div {l : Nat} (hl : l < 4) : laneNibbles lm n / 2 ^ (4 * l) % 2 ^ 4 = nibble lm n l := by
  have h := nibble_lt (lm := lm) hn
  have h0 := h 0
  have h1 := h 1
  have h2 := h 2
  have h3 := h 3
  rw [laneNibbles_eq]
  interval_cases l <;> omega

theorem testBit_laneNibbles {l k : Nat} (hl : l < 4) (hk : k < 4) (hm : lm.toNat.testBit l = true) :
    (laneNibbles lm n).testBit (4 * l + k) = (n l).testBit k := by
  have h := congrArg (Nat.testBit · k) (laneNibbles_div (lm := lm) hn hl)
  simp only [Nat.testBit_mod_two_pow, Nat.testBit_div_two_pow, nibble, hm, if_true, hk, decide_true, Bool.true_and] at h
  rw [Nat.add_comm, h]

end

/-! ### The writes -/

/-- The first selection of a butterfly (R140). -/
def acsLow (isMax : Bool) (f : InstrFields) (c : PeCore) (l i : Nat) : Word × Bool :=
  let lam := signed 16 ((c.vr l f.srcb.toNat).toNat / 2 ^ (16 * i))
  acsPick isMax (signed 24 (c.vr l (f.srca.toNat + 2 * i)).toNat + lam) (signed 24 (c.vr l (f.srca.toNat + 2 * i + 1)).toNat - lam)

/-- The second selection of a butterfly, with the branch metric the other way round (R140). -/
def acsHigh (isMax : Bool) (f : InstrFields) (c : PeCore) (l i : Nat) : Word × Bool :=
  let lam := signed 16 ((c.vr l f.srcb.toNat).toNat / 2 ^ (16 * i))
  acsPick isMax (signed 24 (c.vr l (f.srca.toNat + 2 * i)).toNat - lam) (signed 24 (c.vr l (f.srca.toNat + 2 * i + 1)).toNat + lam)

theorem butterfly_eq (isMax : Bool) (f : InstrFields) (c : PeCore) (l i : Nat) : butterfly isMax f c l i =
    ([(l * 16 + f.dst.toNat + i, (acsLow isMax f c l i).1), (l * 16 + f.dst.toNat + 2 + i, (acsHigh isMax f c l i).1)],
      (bitOf (acsLow isMax f c l i).2 + 2 * bitOf (acsHigh isMax f c l i).2) * 2 ^ (4 * l + 2 * i)) := rfl

/-- Two decisions and two more. -/
def fourBits (a b c d : Bool) : Nat := bitOf a + 2 * bitOf b + 4 * (bitOf c + 2 * bitOf d)

theorem fourBits_lt (a b c d : Bool) : fourBits a b c d < 16 := by revert a b c d; decide

theorem testBit_fourBits (a b c d : Bool) : (fourBits a b c d).testBit 0 = a ∧ (fourBits a b c d).testBit 1 = b ∧
    (fourBits a b c d).testBit 2 = c ∧ (fourBits a b c d).testBit 3 = d := by revert a b c d; decide

/-- The decisions of one lane: two for each butterfly (R141). -/
def laneDecisions (isMax : Bool) (f : InstrFields) (c : PeCore) (l : Nat) : Nat :=
  fourBits (acsLow isMax f c l 0).2 (acsHigh isMax f c l 0).2 (acsLow isMax f c l 1).2 (acsHigh isMax f c l 1).2

/-- The results of the butterflies of the enabled lanes. -/
def acsResults (isMax : Bool) (f : InstrFields) (c : PeCore) : List (Nat × Word) :=
  (lanes f.lmask).flatMap fun l => (butterfly isMax f c l 0).1 ++ (butterfly isMax f c l 1).1

theorem foldl_add_pairs (isMax : Bool) (f : InstrFields) (c : PeCore) (ls : List Nat) (n : Nat) :
    (ls.flatMap fun l => [butterfly isMax f c l 0, butterfly isMax f c l 1]).foldl (fun acc b => acc + b.2) n =
      ls.foldl (fun acc l => acc + laneDecisions isMax f c l * 2 ^ (4 * l)) n := by
  induction ls generalizing n with
  | nil => rfl
  | cons l ls ih =>
    rw [List.flatMap_cons, List.foldl_append, ih, List.foldl_cons (l := ls)]
    congr 1
    simp only [List.foldl_cons, List.foldl_nil, butterfly_eq, laneDecisions, fourBits]
    ring

theorem acsOp_ok (isMax : Bool) {f : InstrFields} (ha : f.srca.toNat % 4 = 0) (hd : f.dst.toNat % 4 = 0) (trace : Nat)
    (c : PeCore) : acsOp isMax f trace c =
      .ok { v := acsResults isMax f c
            trace := some (BitVec.ofNat 64 (trace * 2 ^ 16 + laneNibbles f.lmask (laneDecisions isMax f c)))
            dests := [0, 1, 2, 3].flatMap (fun i => destV f.lmask (f.dst.toNat + i)) } := by
  unfold acsOp
  rw [if_neg (by omega)]
  dsimp only
  rw [foldl_add_pairs, acsResults, laneNibbles, List.flatMap_assoc]
  simp

theorem mem_acsResults {isMax : Bool} {f : InstrFields} {c : PeCore} {y : Nat × Word} :
    y ∈ acsResults isMax f c ↔ ∃ l ∈ lanes f.lmask, ∃ i, i < 2 ∧ y ∈ (butterfly isMax f c l i).1 := by
  rw [acsResults, List.mem_flatMap]
  refine exists_congr fun l => and_congr_right fun _ => ?_
  rw [List.mem_append]
  constructor
  · rintro (h | h)
    · exact ⟨0, by decide, h⟩
    · exact ⟨1, by decide, h⟩
  · rintro ⟨i, hi, h⟩
    interval_cases i
    · exact .inl h
    · exact .inr h

section
variable {isMax : Bool} {better : Int → Bool}
  (hb : ∀ d, (if isMax then decide (0 < d) else decide (d < 0)) = better d) (f : InstrFields) (c : PeCore) (l i : Nat)
include hb

theorem acsLow_eq :
    let p := (c.vr l (f.srca.toNat + 2 * i)).setWidth 24
    let q := (c.vr l (f.srca.toNat + 2 * i + 1)).setWidth 24
    let lam := ((c.vr l f.srcb.toNat).extractLsb' (16 * i) 16).signExtend 24
    acsLow isMax f c l i = ((if better ((q - lam) - (p + lam)).toInt then q - lam else p + lam).signExtend 32,
      better ((q - lam) - (p + lam)).toInt) := by
  intro p q lam
  refine acsPick_eq isMax better hb _ _ ?_ ?_
  · rw [BitVec.ofInt_add, ofInt_signed24, ofInt_signed16]
  · rw [ofInt_sub, ofInt_signed24, ofInt_signed16]

theorem acsHigh_eq :
    let p := (c.vr l (f.srca.toNat + 2 * i)).setWidth 24
    let q := (c.vr l (f.srca.toNat + 2 * i + 1)).setWidth 24
    let lam := ((c.vr l f.srcb.toNat).extractLsb' (16 * i) 16).signExtend 24
    acsHigh isMax f c l i = ((if better ((q + lam) - (p - lam)).toInt then q + lam else p - lam).signExtend 32,
      better ((q + lam) - (p - lam)).toInt) := by
  intro p q lam
  refine acsPick_eq isMax better hb _ _ ?_ ?_
  · rw [ofInt_sub, ofInt_signed24, ofInt_signed16]
  · rw [BitVec.ofInt_add, ofInt_signed24, ofInt_signed16]

end

/-- The bits of the decisions of a lane. -/
theorem testBit_laneDecisions (isMax : Bool) (f : InstrFields) (c : PeCore) (l : Nat) {i : Nat} (hi : i < 2) :
    (laneDecisions isMax f c l).testBit (2 * i) = (acsLow isMax f c l i).2 ∧
      (laneDecisions isMax f c l).testBit (2 * i + 1) = (acsHigh isMax f c l i).2 := by
  obtain ⟨h0, h1, h2, h3⟩ := testBit_fourBits (acsLow isMax f c l 0).2 (acsHigh isMax f c l 0).2 (acsLow isMax f c l 1).2
    (acsHigh isMax f c l 1).2
  interval_cases i
  · exact ⟨h0, h1⟩
  · exact ⟨h2, h3⟩

/-! ### What the instruction leaves -/

/-- A result stands in one of the four registers of an enabled lane. -/
theorem key_of_mem_acsResults {isMax : Bool} {f : InstrFields} {c : PeCore} {y : Nat × Word} (hy : y ∈ acsResults isMax f c) :
    ∃ l ∈ lanes f.lmask, ∃ k, k < 4 ∧ y.1 = l * 16 + (f.dst.toNat + k) := by
  obtain ⟨l, hl, i, hi, hy⟩ := mem_acsResults.1 hy
  simp only [butterfly_eq, List.mem_cons, List.not_mem_nil, or_false] at hy
  rcases hy with rfl | rfl
  · exact ⟨l, hl, i, by omega, by dsimp only; omega⟩
  · exact ⟨l, hl, 2 + i, by omega, by dsimp only; omega⟩

/-- The results of different butterflies stand in different registers (R139). -/
theorem acsResults_unique {isMax : Bool} {f : InstrFields} {c : PeCore} {l i : Nat} (hi : i < 2)
    {y : Nat × Word} (hy : y ∈ acsResults isMax f c) :
    (y.1 = l * 16 + (f.dst.toNat + i) → y.2 = (acsLow isMax f c l i).1) ∧
      (y.1 = l * 16 + (f.dst.toNat + 2 + i) → y.2 = (acsHigh isMax f c l i).1) := by
  obtain ⟨l', -, i', hi', hy⟩ := mem_acsResults.1 hy
  simp only [butterfly_eq, List.mem_cons, List.not_mem_nil, or_false] at hy
  rcases hy with rfl | rfl
  · refine ⟨fun he => ?_, fun he => ?_⟩ <;> dsimp only at he
    · obtain ⟨rfl, rfl⟩ : l' = l ∧ i' = i := by omega
      rfl
    · omega
  · refine ⟨fun he => ?_, fun he => ?_⟩ <;> dsimp only at he
    · omega
    · obtain ⟨rfl, rfl⟩ : l' = l ∧ i' = i := by omega
      rfl

/-- TRACE after an operation that writes it; no slot writes it. -/
theorem InstrDone.trace_eq {e : Fin 64} {f : InstrFields} {slots : Bool} {w : Writes}
    (hd : InstrDone e (s.peWrites e f slots (.ok w)) s t) {x : BitVec 64} (hx : w.trace = some x) : t.trace e = x.toNat := by
  have hW := s.peWrites_ok e f slots w
  dsimp only at hW
  rw [hW] at hd
  rw [hd.trace, hx]
  rfl

section
variable {e : Fin 64} {f : InstrFields} {isMax : Bool} (ha : f.srca.toNat % 4 = 0) (hd : f.dst.toNat % 4 = 0)
  (h : PeClear e f true ([0, 1, 2, 3].flatMap (fun i => destV f.lmask (f.dst.toNat + i))) s)
include ha hd h

/-- The lane registers that add-compare-select writes. -/
theorem PeClear.acs_vr {l i : Nat} (hl : l < 4) (hi : i < 2) (hf : f.lane l = true) :
    let t := s.peIssue e f true (acsOp isMax f (s.trace e))
    (t.core e).vr l (f.dst.toNat + i) = (acsLow isMax f (s.core e) l i).1 ∧
      (t.core e).vr l (f.dst.toNat + 2 + i) = (acsHigh isMax f (s.core e) l i).1 := by
  have hlt : f.dst.toNat < 16 := f.dst.isLt
  have hm := mem_lanes_iff.2 ⟨hl, hf⟩
  have hI := h.issue_done (acsOp_ok isMax ha hd (s.trace e) (s.core e)) rfl
  have hdest : ∀ k, k < 4 → (.v, f.dst.toNat + k) ∈ [0, 1, 2, 3].flatMap (fun i => destV f.lmask (f.dst.toNat + i)) :=
    fun k hk => List.mem_flatMap.2 ⟨k, by interval_cases k <;> simp, mem_destV hm⟩
  have hin : ∀ y ∈ (butterfly isMax f (s.core e) l i).1, y ∈ acsResults isMax f (s.core e) :=
    fun y hy => mem_acsResults.2 ⟨l, hm, i, hi, hy⟩
  constructor
  · exact h.vr_eq hI (by omega) (hdest i (by omega)) (fun y hy => (acsResults_unique hi hy).1)
      ⟨_, hin _ List.mem_cons_self, Nat.add_assoc (l * 16) _ _⟩
  · refine h.vr_eq hI (by omega) (by simpa [Nat.add_assoc] using hdest (2 + i) (by omega))
      (fun y hy => (acsResults_unique hi hy).2) ⟨_, hin _ (List.mem_cons_of_mem _ List.mem_cons_self), ?_⟩
    simp only [Nat.add_assoc]

/-- TRACE after add-compare-select. -/
theorem PeClear.acs_trace : (s.peIssue e f true (acsOp isMax f (s.trace e))).trace e =
    (s.trace e * 2 ^ 16 + laneNibbles f.lmask (laneDecisions isMax f (s.core e))) % 2 ^ 64 := by
  have hI := h.issue_done (acsOp_ok isMax ha hd (s.trace e) (s.core e)) rfl
  exact (hI.trace_eq rfl).trans (BitVec.toNat_ofNat _ _)

theorem PeClear.acs_frame : PeFrame e f true
    (fun l r => f.lane l && decide (f.dst.toNat ≤ r) && decide (r < f.dst.toNat + 4)) noLane noFlag true none s
    (s.peIssue e f true (acsOp isMax f (s.trace e))) := by
  have hI := h.issue_done (acsOp_ok isMax ha hd (s.trace e) (s.core e)) rfl
  have hlt : f.dst.toNat < 16 := f.dst.isLt
  refine hI.peFrame ⟨fun l r hl hr hv x hx he => ?_, fun _ _ _ _ _ x hx => absurd hx List.not_mem_nil,
    fun x hx => absurd hx List.not_mem_nil, fun _ _ => rfl, fun hf => Bool.noConfusion hf, rfl⟩
  obtain ⟨l', hl', k, hk, hy⟩ := key_of_mem_acsResults hx
  obtain ⟨rfl, rfl⟩ : l' = l ∧ r = f.dst.toNat + k := by omega
  simp [(mem_lanes_iff.1 hl').2, hk] at hv

end

end Sys2Proof.Machine
end

section
/-! Add-compare-select. -/

open Sys2Proof Sys2Proof.Machine

/-- Settles O15: the metrics modulo 2^24, and the decisions of the lanes side by side in TRACE. -/
theorem addCompareSelect : Obligations.AddCompareSelect := by
  intro e f s c better hc ha hd h p q lam pick
  obtain ⟨isMax, he, hb⟩ : ∃ isMax, exec c s = .next (s.peIssue e f true (acsOp isMax f (s.trace e))) ∧
      ∀ d, (if isMax then decide (0 < d) else decide (d < 0)) = better d := by
    simp only [List.mem_cons, Prod.mk.injEq, List.not_mem_nil, or_false] at hc
    rcases hc with ⟨rfl, rfl⟩ | ⟨rfl, rfl⟩
    · exact ⟨true, rfl, fun _ => rfl⟩
    · exact ⟨false, rfl, fun _ => rfl⟩
  have hT := h.acs_trace (isMax := isMax) ha hd
  have hn : ∀ l, laneDecisions isMax f (s.core e) l < 16 := fun l => fourBits_lt _ _ _ _
  have hlt := laneNibbles_lt (lm := f.lmask) hn
  refine ⟨_, he, fun l i hl hi hf => ?_, ?_, fun l i hl hi hf => ?_, h.acs_frame ha hd⟩
  · obtain ⟨h1, h2⟩ := h.acs_vr (isMax := isMax) ha hd hl hi hf
    rw [h1, h2, acsLow_eq hb, acsHigh_eq hb]
    exact ⟨rfl, rfl⟩
  · rw [hT]
    omega
  · have hbit : ∀ k, k < 4 → ((s.peIssue e f true (acsOp isMax f (s.trace e))).trace e).testBit (4 * l + k) =
        (laneDecisions isMax f (s.core e) l).testBit k := fun k hk => by
      rw [hT, Nat.testBit_mod_two_pow, Nat.mul_comm (s.trace e), Nat.testBit_two_pow_mul_add _ hlt, if_pos (by omega),
        decide_eq_true (by omega), Bool.true_and, testBit_laneNibbles hn hl hk hf]
    obtain ⟨h1, h2⟩ := testBit_laneDecisions isMax f (s.core e) l hi
    rw [Nat.add_assoc, hbit _ (by omega), hbit _ (by omega), h1, h2, acsLow_eq hb, acsHigh_eq hb]
    exact ⟨rfl, rfl⟩

end

section
/-! SUPPORT. Where control goes, and a register of any file written (R118, R131-R135, R674). -/

namespace Sys2Proof.Machine

variable {s t : State}

/-! ### Control -/

/-- No repeat level ends at an instruction, so no counter changes. -/
theorem loopEnd_none {done : Nat} {lc : SMap (BitVec 16)} {ls : List Loop} (h : ∀ l ∈ ls, l.last ≠ done) :
    loopEnd done lc ls = (lc, ls, none) := by
  cases ls with
  | nil => rfl
  | cons l ls => rw [loopEnd, if_neg (h l List.mem_cons_self)]

section
variable {c : PeCore} {pc : Nat}

theorem flowRun_next (h : ∀ l ∈ c.loops, l.last ≠ pc) : flowRun c pc .next = (((pc + 1 : Nat) : Int), c, 0) := by
  simp only [flowRun, loopEnd_none (fun l hl => h l (List.mem_reverse.1 hl)), List.reverse_reverse]

/-- A body that is skipped is left behind (R133). -/
theorem flowRun_skip {b : Nat} (h : ∀ l ∈ c.loops, l.last ≠ pc + b) :
    flowRun c pc (.repeatBody 0 b) = (((pc + b + 1 : Nat) : Int), c, 0) := by
  simp only [flowRun, loopEnd_none (fun l hl => h l (List.mem_reverse.1 hl)), List.reverse_reverse, if_true]

theorem flowRun_enter {n b : Nat} (hn : n ≠ 0) : flowRun c pc (.repeatBody n b) =
    (((pc + 1 : Nat) : Int), { c with lc := SMap.set 0 c.lc c.loops.length (BitVec.ofNat 16 n),
                                      loops := c.loops ++ [⟨c.loops.length, pc + 1, pc + b, false⟩] }, 0) := by
  rw [flowRun]
  exact if_neg hn

end

theorem PeCore.loops_apply (c : PeCore) (w : Writes) : (c.apply w).loops = c.loops := by
  obtain ⟨-, -, -, -, -, hl, -⟩ := c.apply_keep w
  exact hl

/-! ### A register of any file -/

theorem fileOf_ne_acc (n : Nat) : fileOf n ≠ some .acc := by
  unfold fileOf
  split <;> simp

/-- A file that takes a write, and a register that it has (R131, R674). -/
theorem fileOk_dest {e code n : Nat} {df : PeFile} (h : fileOk e code n true = some df) :
    n < fileSize df ∧ (df = .v ∨ df.written) := by
  unfold fileOk at h
  split at h
  case h_1 => exact absurd h (by simp)
  case h_2 g hg =>
    split at h
    case isTrue => exact absurd h (by simp)
    case isFalse hno =>
      obtain rfl : g = df := by simpa using h
      have hacc : g ≠ .acc := fun he => fileOf_ne_acc code (he ▸ hg)
      refine ⟨by omega, ?_⟩
      cases g <;> simp_all [PeFile.written]

/-- What a value put into a register of a file leaves (R118, R131). -/
structure FileDone (e : Fin 64) (f : InstrFields) (slots : Bool) (df : PeFile) (val : Nat → Nat) (low : Nat) (s t : State) :
    Prop where
  v : df = .v → ∀ l, l < 4 → f.lane l = true → (t.core e).vr l f.dst.toNat = BitVec.ofNat 32 (val l)
  a : df = .a → (t.core e).ar f.dst.toNat = low % 2 ^ 16
  m : df = .m → SMap.find 0 (t.core e).m f.dst.toNat = BitVec.ofNat 32 low
  o : df = .o → (SMap.find 0 (t.core e).o f.dst.toNat).toNat = low % 2 ^ 16
  lc : df = .lc → (∀ l ∈ (s.core e).loops, l.last ≠ s.pePc e) →
    (SMap.find 0 (t.core e).lc f.dst.toNat).toNat = low % 2 ^ 16
  frame : PeFrame e f slots (fun l r => decide (df = .v) && f.dest f.dst.toNat l r) noLane noFlag false
    (some (df, f.dst.toNat)) s t

theorem putFile_eng (f : InstrFields) {df : PeFile} (h : df ≠ .v) (val : Nat → Nat) (low : Nat) : putFile f df val low =
    { eng := [(df, f.dst.toNat, low)], dests := [(df, f.dst.toNat)], moved := [engKey df f.dst.toNat] } := by
  rw [putFile]
  exact if_neg h

/-- Without a level that ends here, the loop counters are those that the writes leave. -/
theorem InstrDone.lc_next {e : Nat} {w : Writes} (h : InstrDone e w s t) (hn : w.flow = .next)
    (hl : ∀ l ∈ (s.core e).loops, l.last ≠ s.pePc e) : (t.core e).lc = ((s.core e).apply w).lc := by
  obtain ⟨-, -, -, -, -, -, -, -, -, -, hc, -⟩ := h.core
  rw [hc, PeCore.after, hn, flowRun_next (by rwa [PeCore.loops_apply])]

/-- Where no engine-wide register is named all stay, so a name more says less. -/
theorem PeFrame.naming {e : Fin 64} {f : InstrFields} {slots : Bool} {vd ad : Nat → Nat → Bool} {cfd : Nat → Bool} {td : Bool}
    (h : PeFrame e f slots vd ad cfd td none s t) (ed : Option (PeFile × Nat)) : PeFrame e f slots vd ad cfd td ed s t := by
  obtain ⟨hv, hacc, ha, hm, ho, hrest⟩ := h
  exact ⟨hv, hacc, fun n _ => ha n nofun, fun n _ => hm n nofun, fun n _ => ho n nofun, hrest⟩

section
variable {e : Fin 64} {f : InstrFields} {slots : Bool} {df : PeFile} {val : Nat → Nat} {low : Nat} {op : PeCore → PeRes}
  (h : PeClear e f slots (if df = .v then destV f.lmask f.dst.toNat else [(df, f.dst.toNat)]) s)
  (hop : op (s.core e) = .ok (putFile f df val low))
include h hop

theorem PeClear.fileDone_v (hv : df = .v) : FileDone e f slots df val low s (s.peIssue e f slots op) := by
  subst hv
  rw [if_pos rfl] at h
  have hd := h.laneDone f.dst.isLt hop
  exact ⟨fun _ => hd.value, PeFile.noConfusion, PeFile.noConfusion, PeFile.noConfusion, PeFile.noConfusion, hd.frame.naming _⟩

theorem PeClear.fileDone_eng (hv : df.written) : FileDone e f slots df val low s (s.peIssue e f slots op) := by
  have hne : df ≠ .v := by rcases hv with rfl | rfl | rfl | rfl <;> simp
  rw [if_neg hne] at h
  rw [putFile_eng f hne] at hop
  have hI := h.issue_done hop rfl
  have hframe := hI.peFrame (vd := fun l r => decide (df = .v) && f.dest f.dst.toNat l r) (ad := noLane) (cfd := noFlag)
    (td := false) (ed := some (df, f.dst.toNat)) ⟨fun _ _ _ _ _ x hx => absurd hx List.not_mem_nil,
      fun _ _ _ _ _ x hx => absurd hx List.not_mem_nil, fun x hx => by rw [List.mem_singleton.1 hx], fun _ _ => rfl,
      fun _ => rfl, rfl⟩
  have hW := s.peWrites_ok e f slots { eng := [(df, f.dst.toNat, low)], dests := [(df, f.dst.toNat)], moved := [engKey df f.dst.toNat] }
  dsimp only at hW
  rw [hW] at hI
  have hreg : ∀ w : Writes, w.eng = (df, f.dst.toNat, low) :: (s.peWrites e f slots (.ok {})).eng →
      ((s.core e).apply w).engReg 0 df f.dst.toNat = low % 2 ^ fileBits df := fun w hw => by
    refine PeCore.engReg_apply_eq _ _ hv _ _ _ (fun x hx he => ?_) ⟨(df, f.dst.toNat, low), by simp [hw], rfl⟩
    rw [hw] at hx
    rcases List.mem_cons.1 hx with rfl | hx
    · rfl
    · exact absurd he (h.slots_leave_eng (List.mem_singleton_self _) x hx)
  refine ⟨fun h => absurd h hne, fun ha => ?_, fun hm => ?_, fun ho => ?_, fun hl hno => ?_, hframe⟩
  · subst ha
    exact (hI.addressing 0 f.dst.toNat (by simp)).trans (hreg _ rfl)
  · subst hm
    exact BitVec.eq_of_toNat_eq (((hI.addressing 0 f.dst.toNat (by simp)).trans (hreg _ rfl)).trans (BitVec.toNat_ofNat _ _).symm)
  · subst ho
    exact (hI.addressing 0 f.dst.toNat (by simp)).trans (hreg _ rfl)
  · subst hl
    rw [hI.lc_next rfl hno]
    exact hreg _ rfl

theorem PeClear.fileDone (hv : df = .v ∨ df.written) : FileDone e f slots df val low s (s.peIssue e f slots op) := by
  rcases hv with hv | hv
  · exact h.fileDone_v hop hv
  · exact h.fileDone_eng hop hv

end

theorem ldiOp_ok {e : Nat} {f : InstrFields} {df : PeFile} (h : fileOk e f.aux.toNat f.dst.toNat true = some df) (c : PeCore) :
    ldiOp e f c = .ok (putFile f df (fun _ => f.imm.toNat) f.imm.toNat) := by rw [ldiOp, h]

theorem moveOp_ok {e : Nat} {f : InstrFields} {df sf : PeFile} (h : fileOk e f.aux.toNat f.dst.toNat true = some df)
    (hs : fileOk e f.srcb.toNat f.srca.toNat false = some sf) (trace : Nat) (c : PeCore) :
    let val := fun l => if sf = .v then (c.vr l f.srca.toNat).toNat else c.engReg trace sf f.srca.toNat
    moveOp e f trace c = .ok (putFile f df val (val (lowLane f.lmask))) := by rw [moveOp, h, hs]

end Sys2Proof.Machine
end

section
/-! Moves and immediates. -/

open Sys2Proof Sys2Proof.Machine

/-- Settles O16: both put a value into a register of a file; what LDI puts is the immediate in every lane. -/
theorem movesAndImmediates : Obligations.MovesAndImmediates := by
  refine ⟨?ldi, ?move⟩
  case ldi =>
    intro e f s df hdf h
    have hd := h.fileDone (ldiOp_ok hdf _) (fileOk_dest hdf).2
    refine ⟨_, rfl, fun hv l hl hf => ?_, hd.a, fun hm => ?_, hd.o, hd.lc, hd.frame⟩
    · rw [hd.v hv l hl hf, BitVec.ofNat_toNat, BitVec.setWidth_eq]
    · rw [hd.m hm, BitVec.ofNat_toNat, BitVec.setWidth_eq]
  case move =>
    intro e f s df sf hdf hsf h val
    have hd := h.fileDone (moveOp_ok hdf hsf (s.trace e) _) (fileOk_dest hdf).2
    exact ⟨_, rfl, hd.v, hd.a, hd.m, hd.o, hd.lc, hd.frame⟩

end

section
/-! SUPPORT. Control instructions: they write no register but what control moves (R133-R135, R138). -/

namespace Sys2Proof.Machine

variable {s t u : State}

/-- Writes that move control alone. -/
def Writes.OfControl (w : Writes) : Prop :=
  w.v = [] ∧ w.acc = [] ∧ w.eng = [] ∧ w.bytes = [] ∧ w.trace = none ∧ w.cf = none ∧ w.dests = []

theorem PeCore.apply_control {w : Writes} (hw : w.OfControl) (c : PeCore) : c.apply w = c := by
  obtain ⟨h1, h2, h3, -, -, h6, -⟩ := hw
  simp only [PeCore.apply, h1, h2, h3, h6, List.foldl_nil, Option.getD_none]

theorem Writes.OfControl.within {w : Writes} (hw : w.OfControl) (c : PeCore) :
    w.Within c noLane noLane noFlag false none := by
  obtain ⟨h1, h2, h3, h4, h5, h6, -⟩ := hw
  exact ⟨fun _ _ _ _ _ x hx => absurd (h1 ▸ hx) List.not_mem_nil, fun _ _ _ _ _ x hx => absurd (h2 ▸ hx) List.not_mem_nil,
    fun x hx => absurd (h3 ▸ hx) List.not_mem_nil, fun _ _ => by rw [h6]; rfl, fun _ => h5, h4⟩

/-- What a control instruction leaves: it goes to n, and repeat levels and counters are those of c. -/
structure ControlDone (e : Fin 64) (f : InstrFields) (n : Int) (c : PeCore) (s t : State) : Prop where
  pc    : (t.pePc e : Int) = n
  loops : (t.core e).loops = c.loops
  lc    : (t.core e).lc = c.lc
  frame : PeFrame e f false noLane noLane noFlag false none s t

section
variable {e : Fin 64} {f : InstrFields} (h : PeClear e f false [] s) {op : PeCore → PeRes} {w : Writes}
  (hop : op (s.core e) = .ok w) (hw : w.OfControl)
include h hop hw

theorem PeClear.control_eq : s.peIssue e f false op = (s.fetch e).peComplete e w := by
  obtain ⟨hi, hb, hs, -⟩ := h
  obtain ⟨-, -, -, -, -, -, hd⟩ := hw
  exact State.peIssue_eq s e f false op w hi hb hop hs (by rw [hd]; rfl)

theorem PeClear.controlDone {n : Int} {c : PeCore} {k : Nat} (hflow : flowRun (s.core e) (s.pePc e) w.flow = (n, c, k))
    (hlo : 0 ≤ n) (hhi : n < 4096) : ControlDone e f n c s (s.peIssue e f false op) := by
  have hI := h.issue_done hop (by obtain ⟨-, -, -, -, -, -, hd⟩ := hw; exact hd)
  have hf : Fetched e s (s.fetch e) := Fetched.refl.fetch
  have hgo : (flowRun (((s.fetch e).core e).apply w) ((s.fetch e).pePc e) w.flow).1 = n := by
    rw [hf.core, hf.pePc, PeCore.apply_control hw, hflow]
  have hafter : (s.core e).after (s.pePc e) (s.peWrites e f false (.ok w)) = { c with
      accWritten := (w.dests.filter (fun d => d.1 == .acc)).map (·.2), ctlWritten := w.moved } := by
    rw [show s.peWrites e f false (.ok w) = w from rfl, PeCore.after, PeCore.apply_control hw, hflow]
  obtain ⟨-, -, -, -, -, -, -, -, -, -, hlc, hloops⟩ := hI.core
  refine ⟨?_, ?_, ?_, hI.peFrame (hw.within _)⟩
  · rw [h.control_eq hop hw, State.pePc_peComplete (hgo ▸ hlo) (hgo ▸ hhi), hgo]
  · rw [hloops, hafter]
  · rw [hlc, hafter]

end

theorem flowRun_branch (c : PeCore) (pc : Nat) (n : Int) : flowRun c pc (.branch n) = (n,
    { c with loops := c.loops.takeWhile (fun l => decide ((l.first : Int) ≤ n) && decide (n ≤ (l.last : Int))) }, 2) := rfl

/-! ### NOP -/

theorem OfControl_nop : ({} : Writes).OfControl := ⟨rfl, rfl, rfl, rfl, rfl, rfl, rfl⟩

theorem OfControl_flow (fl : Flow) (use : List Nat) : ({ flow := fl, use := use } : Writes).OfControl :=
  ⟨rfl, rfl, rfl, rfl, rfl, rfl, rfl⟩

theorem State.fetch_none {e : Nat} (h : s.fetchErr e false = false) : s.fetch e = s := by
  rw [State.fetch, h]
  exact if_neg (by simp)

/-- No level ends here, so none of its counters is read. -/
theorem loopUsed_nil {done : Nat} {lc : SMap (BitVec 16)} {ls : List Loop} (h : ∀ l ∈ ls, l.last ≠ done) :
    loopUsed done lc ls = [] := by
  cases ls with
  | nil => rfl
  | cons l ls => rw [loopUsed, if_neg (h l List.mem_cons_self)]

theorem State.stallCycles_nop {e : Nat} (h : ∀ l ∈ (s.core e).loops, l.last ≠ s.pePc e) : s.stallCycles e {} = 0 := by
  simp only [State.stallCycles, flowUses, PeCore.apply_control OfControl_nop,
    loopUsed_nil fun l hl => h l (List.mem_reverse.1 hl)]
  rfl

/-- A NOP that is fetched without an error takes one cycle (R138). -/
theorem PeClear.cycles_nop {e : Fin 64} {f : InstrFields} (h : PeClear e f false [] s)
    (hl : ∀ l ∈ (s.core e).loops, l.last ≠ s.pePc e) (hpc : s.pePc e + 1 < 4096) (hfe : s.fetchErr e false = false) :
    (s.peIssue e f false fun _ => .ok {}).reg64 (Reg.PE_CYCLES e) = (s.reg64 (Reg.PE_CYCLES e) + 1) % 2 ^ 64 := by
  have hgo : flowRun ((s.core e).apply {}) (s.pePc e) .next = (((s.pePc e + 1 : Nat) : Int), s.core e, 0) := by
    rw [PeCore.apply_control OfControl_nop, flowRun_next hl]
  rw [h.control_eq rfl OfControl_nop, State.fetch_none hfe,
    State.cycles_peComplete (by rw [hgo]; exact Int.natCast_nonneg _) (by rw [hgo]; dsimp only; exact_mod_cast hpc), hgo,
    State.stallCycles_nop hl]
  rfl

/-! ### BRC and REP -/

/-- Whether the condition of BRC holds over the enabled lanes (R118, R135). -/
def BranchHolds (f : InstrFields) (cf : Nat → Bool) : Prop :=
  (f.aux.toNat % 4 = 0 ∧ ∃ l, l < 4 ∧ f.lane l = true ∧ cf l = true) ∨
    (f.aux.toNat % 4 = 1 ∧ ∀ l, l < 4 → f.lane l = true → cf l = true) ∨
    (f.aux.toNat % 4 = 2 ∧ ∀ l, l < 4 → f.lane l = true → cf l = false)

theorem brcOp_ok {f : InstrFields} (h : f.aux.toNat % 4 < 3) (pc : Nat) (c : PeCore) [Decidable (BranchHolds f c.cf.toNat.testBit)] :
    brcOp pc f c = .ok { flow := if BranchHolds f c.cf.toNat.testBit then .branch (branchTarget pc f) else .next } := by
  have hcase : f.aux.toNat % 4 = 0 ∨ f.aux.toNat % 4 = 1 ∨ f.aux.toNat % 4 = 2 := by omega
  unfold brcOp
  rcases hcase with ha | ha | ha <;> simp only [ha] <;> congr 2 <;> refine if_congr ?_ rfl rfl <;> rw [BranchHolds, ha]
  · simp [mem_lanes_iff, and_assoc]
  · simp [mem_lanes_iff]
  · simp [mem_lanes_iff]

/-- A repeat that fits into the body around it, and has a level where it counts (R133, R134). -/
theorem repOp_ok {f : InstrFields} {pc n : Nat} {c : PeCore} (hb : f.imm.toNat % 2 ^ 12 ≠ 0)
    (hin : ∀ l ∈ c.loops, l.first ≤ pc → pc ≤ l.last → pc + f.imm.toNat % 2 ^ 12 ≤ l.last) (hl : n ≠ 0 → c.loops.length < 3) :
    repOp pc f n c = .ok { flow := .repeatBody n (f.imm.toNat % 2 ^ 12),
                           use := if n = 0 then [] else [engKey .lc c.loops.length] } := by
  have hany : ¬(c.loops.any (fun l => decide (l.first ≤ pc) && decide (pc ≤ l.last) &&
      decide (l.last < pc + f.imm.toNat % 2 ^ 12)) = true) := by
    simp only [List.any_eq_true, Bool.and_eq_true, decide_eq_true_eq]
    rintro ⟨l, hl, ⟨h1, h2⟩, h3⟩
    have := hin l hl h1 h2
    omega
  rw [repOp]
  refine if_neg ?_
  rintro (h0 | h0 | ⟨h0, h3⟩)
  · exact hb h0
  · exact hany h0
  · exact absurd (hl h0) (by omega)

end Sys2Proof.Machine
end

section
/-! Control. -/

open Sys2Proof Sys2Proof.Machine

/-- Settles O18: each form by where control goes and what it makes of the repeat levels. -/
theorem controlFlow : Obligations.ControlFlow := by
  refine ⟨?nop, ?br, ?brc, ?enter, ?skip⟩
  case nop =>
    intro e f s h hl hpc
    have hd := h.controlDone (op := fun _ => .ok {}) rfl OfControl_nop (flowRun_next hl) (Int.natCast_nonneg _)
      (by exact_mod_cast hpc)
    exact ⟨_, rfl, by exact_mod_cast hd.pc, h.cycles_nop hl hpc, hd.loops, hd.frame⟩
  case br =>
    intro e f s h hlo hhi
    have hd := h.controlDone (op := fun _ => .ok { flow := .branch (branchTarget (s.pePc e) f) }) rfl (OfControl_flow _ _)
      (flowRun_branch _ _ _) hlo hhi
    exact ⟨_, rfl, hd.pc, hd.frame⟩
  case brc =>
    intro e f s h ha hl hpc hlo hhi
    classical
    by_cases hc : BranchHolds f (s.core e).cf.toNat.testBit
    · have hd := h.controlDone (op := brcOp (s.pePc e) f) ((brcOp_ok ha _ _).trans (by rw [if_pos hc])) (OfControl_flow _ _)
        (flowRun_branch _ _ _) hlo hhi
      exact ⟨_, rfl, hd.pc.trans (if_pos hc).symm, hd.frame⟩
    · have hd := h.controlDone (op := brcOp (s.pePc e) f) ((brcOp_ok ha _ _).trans (by rw [if_neg hc])) (OfControl_flow _ _)
        (flowRun_next hl) (Int.natCast_nonneg _) (by exact_mod_cast hpc)
      exact ⟨_, rfl, hd.pc.trans (if_neg hc).symm, hd.frame⟩
  case enter =>
    intro e f s c n hc h hb hlen hin hn hpc
    obtain ⟨op, he, hop⟩ : ∃ op, exec c s = .next (s.peIssue e f false op) ∧ op (s.core e) = repOp (s.pePc e) f n (s.core e) := by
      simp only [List.mem_cons, Prod.mk.injEq, List.not_mem_nil, or_false] at hc
      rcases hc with ⟨rfl, rfl⟩ | ⟨rfl, rfl⟩ <;> exact ⟨_, rfl, rfl⟩
    have hd := h.controlDone (hop.trans (repOp_ok hb hin fun _ => hlen)) (OfControl_flow _ _) (flowRun_enter hn)
      (Int.natCast_nonneg _) (by exact_mod_cast hpc)
    refine ⟨_, he, by exact_mod_cast hd.pc, hd.loops, ?_, hd.frame⟩
    rw [hd.lc, SMap.find_set, if_pos rfl]
  case skip =>
    intro e f s c n hc h hb hn hin hl hpc
    obtain ⟨op, he, hop⟩ : ∃ op, exec c s = .next (s.peIssue e f false op) ∧ op (s.core e) = repOp (s.pePc e) f n (s.core e) := by
      simp only [List.mem_cons, Prod.mk.injEq, List.not_mem_nil, or_false] at hc
      rcases hc with ⟨rfl, rfl⟩ | ⟨rfl, rfl⟩ <;> exact ⟨_, rfl, rfl⟩
    subst hn
    have hd := h.controlDone (hop.trans (repOp_ok hb hin fun h0 => absurd rfl h0)) (OfControl_flow _ _) (flowRun_skip hl)
      (Int.natCast_nonneg _) (by exact_mod_cast hpc)
    exact ⟨_, he, by exact_mod_cast hd.pc, hd.loops⟩

end

section
/-! SUPPORT. An engine whose registers, transfers and memory stay, and the end of a stall (R138, R146). -/

namespace Sys2Proof.Machine

variable {s t u : State} {e : Fin 64}

/-- The registers of a core and its transfers stay. -/
def PeCore.sameRegs (c u : PeCore) : Prop :=
  u.v = c.v ∧ u.acc = c.acc ∧ u.cf = c.cf ∧ u.a = c.a ∧ u.m = c.m ∧ u.o = c.o ∧ u.xfers = c.xfers ∧ u.crc = c.crc

/-- The registers of an engine, its transfers, TRACE and memory stay, and whatever is not of its own block. -/
structure EngineKept (e : Fin 64) (s t : State) : Prop where
  core   : (s.core e).sameRegs (t.core e)
  others : ∀ d : Nat, d ≠ e → t.core d = s.core d
  mem    : t.mem = s.mem
  trace  : t.trace e = s.trace e
  frame  : FrameEv (peBlock e) [.pe, .mem, .ecc] s t

theorem Fetched.kept (h : Fetched e s u) : EngineKept e s u where
  core := by rw [h.core]; exact ⟨rfl, rfl, rfl, rfl, rfl, rfl, rfl, rfl⟩
  others := fun d _ => h.core d
  mem := h.mem
  trace := h.trace
  frame := h.frame.widen (fun _ h => h) (by simp)

theorem EngineKept.setCore (h : EngineKept e s t) {c : PeCore} (hc : (s.core e).sameRegs c) : EngineKept e s (t.setCore e c) where
  core := by rw [State.core_setCore, if_pos rfl]; exact hc
  others := fun d hd => by rw [State.core_setCore, if_neg hd.symm, h.others d hd]
  mem := h.mem
  trace := h.trace
  frame := Frame.setCore h.frame (by simp) _ _

theorem EngineKept.trans (h : EngineKept e s t) (h' : EngineKept e t u) : EngineKept e s u where
  core := by
    obtain ⟨h1, h2, h3, h4, h5, h6, h7, h8⟩ := h.core
    obtain ⟨g1, g2, g3, g4, g5, g6, g7, g8⟩ := h'.core
    exact ⟨g1.trans h1, g2.trans h2, g3.trans h3, g4.trans h4, g5.trans h5, g6.trans h6, g7.trans h7, g8.trans h8⟩
  others := fun d hd => (h'.others d hd).trans (h.others d hd)
  mem := h'.mem.trans h.mem
  trace := h'.trace.trans h.trace
  frame := h.frame.trans h'.frame

/-- The end of a stall. -/
theorem EngineKept.peUnstall (s : State) (e : Fin 64) : EngineKept e s (s.peUnstall e) := by
  obtain ⟨hc, hd, hf⟩ := s.peUnstall_leaves e
  have hreg : ∀ a, 0x200000 ≤ a → fetchRegs e a = false → (s.peUnstall e).reg a = s.reg a := fun a ha h =>
    hf.1.1 a (Bool.or_eq_false_iff.2 ⟨eventReg_high a ha, h⟩)
  obtain ⟨h0, h4⟩ := fetchRegs_trace e
  refine ⟨by rw [hc]; exact ⟨rfl, rfl, rfl, rfl, rfl, rfl, rfl, rfl⟩, hd, hf.1.2 .mem (by simp), State.trace_congr
    (hreg _ (peTrace_high e) h0) (hreg _ (Nat.le_add_right_of_le (peTrace_high e)) h4), hf.1.mono (fun a ha => ?_) (by simp)⟩
  rw [Bool.or_eq_true] at ha ⊢
  exact ha.imp_right fetchRegs_peBlock

theorem State.ecc_setPc (s : State) (e pc : Nat) : (s.setPc e pc).ecc = s.ecc := rfl

/-- An instruction without slots writes what its operation writes. -/
theorem State.peWrites_slotless (s : State) (e : Nat) (f : InstrFields) (w : Writes) : s.peWrites e f false (.ok w) = w := rfl

/-- What follows a state in which the engine's registers stayed leaves what it leaves of that state. -/
theorem EngineKept.peFrame {f : InstrFields} {vd ad : Nat → Nat → Bool} {cfd : Nat → Bool} {td : Bool}
    {ed : Option (PeFile × Nat)} (h : EngineKept e s u) (hf : PeFrame e f false vd ad cfd td ed u t) :
    PeFrame e f false vd ad cfd td ed s t := by
  obtain ⟨h1, h2, h3, h4, h5, h6, h7, h8⟩ := h.core
  obtain ⟨fv, facc, fa, fm, fo, fcf, ftr, fx, fcrc, fd, fmem, ff⟩ := hf
  rw [State.peWrites_slotless] at fv fa fo fmem
  refine ⟨fun l r hl hr hv _ => (fv l r hl hr hv (fun _ hx => absurd hx List.not_mem_nil)).trans ?_, fun l n hl hn ha => (facc l n hl hn ha).trans ?_,
    fun n hn _ => (fa n hn (fun _ hx => absurd hx List.not_mem_nil)).trans ?_, fun n hn => (fm n hn).trans ?_, fun n hn _ => (fo n hn (fun _ hx => absurd hx List.not_mem_nil)).trans ?_,
    fun l hl => (fcf l hl).trans ?_, fun ht => (ftr ht).trans h.trace, fx.trans h7, fcrc.trans h8,
    fun e' he => (fd e' he).trans (h.others _ (by simpa [Fin.ext_iff] using he)), fun x _ => (fmem x (fun _ hx => absurd hx List.not_mem_nil)).trans ?_,
    h.frame.trans ff⟩
  · rw [PeCore.vr, h1]; rfl
  · rw [PeCore.ac, h2]; rfl
  · rw [PeCore.ar, h4]; rfl
  · rw [h5]
  · rw [h6]
  · rw [h3]
  · rw [h.mem]

theorem PeFrame.refl (s : State) (f : InstrFields) (vd ad : Nat → Nat → Bool) (cfd : Nat → Bool) (td : Bool)
    (ed : Option (PeFile × Nat)) : PeFrame e f false vd ad cfd td ed s s :=
  ⟨fun _ _ _ _ _ _ => rfl, fun _ _ _ _ _ => rfl, fun _ _ _ => rfl, fun _ _ => rfl, fun _ _ _ => rfl, fun _ _ => rfl,
    fun _ => rfl, rfl, rfl, fun _ _ => rfl, fun _ _ => rfl, Frame.refl⟩

theorem EngineKept.toPeFrame {f : InstrFields} {vd ad : Nat → Nat → Bool} {cfd : Nat → Bool} {td : Bool}
    {ed : Option (PeFile × Nat)} (h : EngineKept e s t) : PeFrame e f false vd ad cfd td ed s t :=
  h.peFrame (PeFrame.refl t f vd ad cfd td ed)

/-! ### WAIT and END -/

theorem State.pePc_setCore (s : State) (e d : Nat) (c : PeCore) : (s.setCore e c).pePc d = s.pePc d := rfl

theorem State.peState_setCore (s : State) (e d : Nat) (c : PeCore) : (s.setCore e c).peState d = s.peState d := rfl

theorem State.ecc_setCore (s : State) (e : Nat) (c : PeCore) : (s.setCore e c).ecc = s.ecc := rfl

theorem State.pePc_peUnstall (s : State) (e : Nat) : (s.peUnstall e).pePc e = s.pePc e := by
  obtain ⟨-, -, hu⟩ := s.peUnstall_leaves e
  exact State.fld_congr (hu.1.1 _ (Bool.or_eq_false_iff.2 ⟨eventReg_high _ (peStatus_high e), fetchRegs_status e⟩)) _

theorem State.peState_peUnstall (s : State) (e : Nat) : (s.peUnstall e).peState e = s.peState e := by
  obtain ⟨-, -, hu⟩ := s.peUnstall_leaves e
  exact State.fld_congr (hu.1.1 _ (Bool.or_eq_false_iff.2 ⟨eventReg_high _ (peStatus_high e), fetchRegs_status e⟩)) _

section
variable {f : InstrFields} (hi : s.peIssues e = true) (hb : s.fetchBad e = false)
include hi hb

theorem State.peWait_goes (hx : ∀ x ∈ (s.core e).xfers, f.imm.toNat.testBit x.tag = false) :
    s.peWait e f = ((s.fetch e).peUnstall e).peComplete e {} := by
  rw [State.peWait, if_pos hi]
  dsimp only
  rw [if_neg (by simp [hb]), if_neg (by simpa using hx)]

theorem State.peWait_stalls (hx : ∃ x ∈ (s.core e).xfers, f.imm.toNat.testBit x.tag = true) :
    s.peWait e f = (s.fetch e).setCore e { s.core e with stalled := true } := by
  rw [State.peWait, if_pos hi]
  dsimp only
  rw [if_neg (by simp [hb]), if_pos (by simpa using hx)]

theorem State.peEnd_eq : s.peEnd e = ((s.peCycles e 1).fetch e).setCore e
    { s.core e with ended := true, stalled := !(s.core e).xfers.isEmpty } := by
  have hc : (s.peCycles e 1).core e = s.core e := (Fetched.refl.peCycles 1).core e
  rw [State.peEnd, if_pos hi]
  dsimp only
  rw [if_neg (by simp [hb]), hc]

theorem State.peOnlyFault_eq (x : PeFault) : s.peOnlyFault e x = ((s.fetch e).peCycles e 1).peFault e x := by
  rw [State.peOnlyFault, if_pos hi, if_neg (by simp [hb])]

omit hb in
theorem State.peState_of_issues : s.peState e = 2 := by
  rw [State.peIssues, Bool.and_eq_true, beq_iff_eq] at hi
  exact hi.1

end

/-- Cycles do not tell whether the instruction word is in error. -/
theorem Fetched.fetchErr (h : Fetched e s u) (he : u.ecc = s.ecc) (bad : Bool) : u.fetchErr e bad = s.fetchErr e bad := by
  have hecc : u.eccWords bad 8 = s.eccWords bad 8 := by
    funext a n
    rw [State.eccWords, State.eccWords, he]
  rw [State.fetchErr, State.fetchErr, State.fromLoop, State.fromLoop, h.core, h.pePc, hecc]

end Sys2Proof.Machine
end

section
/-! WAIT, END, TRAP and words of no assigned class. -/

open Sys2Proof Sys2Proof.Machine

/-- Settles O19: a WAIT that goes on ends its stall first; what only faults has nothing to write. -/
theorem waitEndTrap : Obligations.WaitEndTrap := by
  refine ⟨?goes, ?stalls, ?ends, ?trap, ?overrun⟩
  case goes =>
    intro e f s h hx hl hpc
    obtain ⟨hi, hb, -, -⟩ := id h
    have hF : Fetched e s (s.fetch e) := Fetched.refl.fetch
    have hK := hF.kept.trans (EngineKept.peUnstall (s.fetch e) e)
    have hcore : ((s.fetch e).peUnstall e).core e = { s.core e with stalled := false } := by
      rw [((s.fetch e).peUnstall_leaves e).1, hF.core]
    have hpc' : ((s.fetch e).peUnstall e).pePc e = s.pePc e := (State.pePc_peUnstall _ _).trans hF.pePc
    have h2 : ((s.fetch e).peUnstall e).peState e = 2 := (State.peState_peUnstall _ _).trans (hF.peState.trans h.peState)
    have hgo : (flowRun ((((s.fetch e).peUnstall e).core e).apply {}) (((s.fetch e).peUnstall e).pePc e) .next).1 =
        ((s.pePc e + 1 : Nat) : Int) := by
      rw [PeCore.apply_control OfControl_nop, flowRun_next, hpc']
      rw [hcore, hpc']
      exact hl
    refine ⟨_, congrArg Host.Outcome.next (State.peWait_goes hi hb hx), ?_, hK.peFrame
      (InstrDone.peFrame (w := {}) ?_ (OfControl_nop.within _))⟩
    · have := State.pePc_peComplete (w := {}) (hgo ▸ Int.natCast_nonneg _) (hgo ▸ (by exact_mod_cast hpc))
      rw [hgo] at this
      exact_mod_cast this
    · rw [State.peWrites_slotless]
      exact State.peComplete_done h2 _
  case stalls =>
    intro e f s h hx
    obtain ⟨hi, hb, -, -⟩ := h
    have hF : Fetched e s (s.fetch e) := Fetched.refl.fetch
    refine ⟨_, congrArg Host.Outcome.next (State.peWait_stalls hi hb hx), ?_, (State.pePc_setCore _ _ _ _).trans hF.pePc,
      (State.peState_setCore _ _ _ _).trans hF.peState, EngineKept.toPeFrame (hF.kept.setCore ⟨rfl, rfl, rfl, rfl, rfl, rfl, rfl, rfl⟩)⟩
    rw [State.core_setCore, if_pos rfl]
  case ends =>
    intro e f s hi hb
    have hC : Fetched e s (s.peCycles e 1) := Fetched.refl.peCycles 1
    have hF : Fetched e s ((s.peCycles e 1).fetch e) := hC.fetch
    refine ⟨_, congrArg Host.Outcome.next (State.peEnd_eq hi hb), ?_, (State.pePc_setCore _ _ _ _).trans hF.pePc,
      (State.peState_setCore _ _ _ _).trans (hF.peState.trans (State.peState_of_issues hi)), fun he => ?_,
      EngineKept.toPeFrame (hF.kept.setCore ⟨rfl, rfl, rfl, rfl, rfl, rfl, rfl, rfl⟩)⟩
    · rw [State.core_setCore, if_pos rfl]
    · rw [State.reg64_congr (State.reg_setCore _ _ _ _) (State.reg_setCore _ _ _ _),
        State.fetch_none ((hC.fetchErr (hC.1.2 .ecc (by simp)) false).trans he), State.peCycles, State.reg64_count64]
  case trap =>
    intro e f s c code addr hc hi hb
    have he : exec c s = .next (s.peOnlyFault e ⟨code, 0, addr⟩) ∧ code < 10 := by
      simp only [List.mem_cons, Prod.mk.injEq, List.not_mem_nil, or_false] at hc
      rcases hc with ⟨rfl, rfl, rfl⟩ | ⟨rfl, rfl, rfl⟩
      · exact ⟨rfl, by decide⟩
      · exact ⟨rfl, by decide⟩
    have hF : Fetched e s ((s.fetch e).peCycles e 1) := Fetched.refl.fetch.peCycles 1
    exact ⟨_, he.1.trans (congrArg Host.Outcome.next (State.peOnlyFault_eq hi hb _)),
      hF.faulted (State.peState_of_issues hi) _ he.2⟩
  case overrun =>
    intro e s h2 hl
    exact ⟨_, congrArg Host.Outcome.next (if_pos ⟨h2, hl⟩), Fetched.refl.faulted h2 _ (by decide)⟩

end

section
/-! SUPPORT. The faults of an instruction, and what follows one (R153-R155). -/

namespace Sys2Proof.Machine

variable {s t u : State} {e : Fin 64} {f : InstrFields}

/-! ### The codes of faults -/

/-- A result that faults, if at all, with a code of R153. -/
def PeRes.Coded (r : PeRes) : Prop := ∀ y ∈ r.faults, y.code < 10

theorem Coded_ok (w : Writes) : PeRes.Coded (.ok w) := fun _ hy => absurd hy List.not_mem_nil

theorem Coded_error {y : PeFault} (hy : y.code < 10) : PeRes.Coded (.error y) := fun z hz => by
  rw [List.mem_singleton.1 hz]
  exact hy

theorem Coded_illegal (n : Nat) : PeRes.Coded (illegal n) := Coded_error (show 1 < 10 by decide)

theorem Coded_ite {p : Prop} [Decidable p] {a b : PeRes} (ha : a.Coded) (hb : b.Coded) : PeRes.Coded (if p then a else b) := by
  split
  · exact ha
  · exact hb

theorem slotRun_coded (s : State) (e : Nat) (c : PeCore) (lm : BitVec 4) (inY : Bool) (w : Nat) :
    (slotRun s e c lm inY w).Coded := by
  unfold slotRun
  exact Coded_ite (Coded_ok _) (Coded_ite (Coded_illegal _) (Coded_ite (Coded_ok _)
    (Coded_ite (Coded_error (show 3 < 10 by decide)) (Coded_ite (Coded_ok _)
      (Coded_ite (Coded_error (show 8 < 10 by decide)) (Coded_ok _))))))

theorem macOp_coded (f : InstrFields) (g : Int → Int → Int) (c : PeCore) : (macOp f g c).Coded :=
  Coded_ite (Coded_illegal _) (Coded_ok _)

theorem stsOp_coded (f : InstrFields) (c : PeCore) : (stsOp f c).Coded := Coded_ite (Coded_illegal _) (Coded_ok _)

theorem acsOp_coded (isMax : Bool) (f : InstrFields) (trace : Nat) (c : PeCore) : (acsOp isMax f trace c).Coded :=
  Coded_ite (Coded_illegal _) (Coded_ok _)

theorem moveOp_coded (e : Nat) (f : InstrFields) (trace : Nat) (c : PeCore) : (moveOp e f trace c).Coded := by
  unfold moveOp
  split
  · exact Coded_ok _
  · exact Coded_illegal _

theorem ldiOp_coded (e : Nat) (f : InstrFields) (c : PeCore) : (ldiOp e f c).Coded := by
  unfold ldiOp
  split
  · exact Coded_ok _
  · exact Coded_illegal _

theorem brcOp_coded (pc : Nat) (f : InstrFields) (c : PeCore) : (brcOp pc f c).Coded := by
  unfold brcOp
  dsimp only
  split
  case h_4 => exact Coded_illegal _
  all_goals exact Coded_ok _

theorem repOp_coded (pc : Nat) (f : InstrFields) (n : Nat) (c : PeCore) : (repOp pc f n c).Coded :=
  Coded_ite (Coded_error (by decide)) (Coded_ok _)

theorem aluOp_coded (f : InstrFields) (g : Word → Word → Bool → Word × Bool) (c : PeCore) : (aluOp f g c).Coded := Coded_ok _

theorem cmpOp_coded (f : InstrFields) (g : Word → Word → Bool) (c : PeCore) : (cmpOp f g c).Coded := Coded_ok _

theorem accOp_coded (f : InstrFields) (rd : List Nat) (g : Int → Int → Word → Int) (c : PeCore) : (accOp f rd g c).Coded :=
  Coded_ok _

theorem rdOp_coded (f : InstrFields) (g : BitVec 72 → Word) (c : PeCore) : (rdOp f g c).Coded := Coded_ok _

theorem wrOp_coded (f : InstrFields) (lo n : Nat) (c : PeCore) : (wrOp f lo n c).Coded := Coded_ok _

/-- The faults of every operation that issues have codes of R153. -/
theorem issueOps_coded (rc : Bool) : ∀ x ∈ issueOps e f rc s, ∀ c, (x.2.2 c).Coded := by
  simp only [issueOps, List.forall_mem_append, List.forall_mem_cons, List.not_mem_nil, false_implies, implies_true, and_true,
    macOp_coded, aluOp_coded, cmpOp_coded, accOp_coded, rdOp_coded, wrOp_coded, stsOp_coded, acsOp_coded, moveOp_coded,
    ldiOp_coded, brcOp_coded, repOp_coded, Coded_ok]

/-- Every instruction that issues runs its operation. -/
theorem issueOps_exec (rc : Bool) : ∀ x ∈ issueOps e f rc s, exec x.1 s = .next (s.peIssue e f x.2.1 x.2.2) := by
  simp only [issueOps, List.forall_mem_append, List.forall_mem_cons, List.not_mem_nil, false_implies, implies_true, and_true]
  repeat' apply And.intro
  all_goals rfl

/-! ### An instruction that faults -/

/-- A fault of the operation, of a slot or of a register written twice has a code of R153. -/
theorem State.peFaults_coded {slots : Bool} {r : PeRes} (hr : r.Coded) : ∀ y ∈ s.peFaults e f slots r, y.code < 10 := by
  intro y hy
  rw [State.peFaults, List.mem_append, List.mem_append, List.mem_flatMap] at hy
  rcases hy with (hy | ⟨x, hx, hy⟩) | hy
  · exact hr y hy
  · cases slots
    · exact absurd hx List.not_mem_nil
    · simp only [State.slotResults, if_true, List.mem_cons, List.not_mem_nil, or_false] at hx
      rcases hx with rfl | rfl <;> exact slotRun_coded _ _ _ _ _ _ y hy
  · split at hy
    · rw [List.mem_singleton.1 hy]
      exact (show 1 < 10 by decide)
    · exact absurd hy List.not_mem_nil

/-- One of a list of faults is taken (log entry 1). -/
theorem getD_mod_mem {α : Type} (x : α) (xs : List α) (n : Nat) : (x :: xs).getD (n % (xs.length + 1)) x ∈ x :: xs := by
  have h : n % (xs.length + 1) < (x :: xs).length := Nat.mod_lt _ (Nat.succ_pos _)
  rw [List.getD_eq_getElem _ _ h]
  exact List.getElem_mem h

section
variable (hi : s.peIssues e = true)
include hi

/-- An instruction whose word is in error (R152). -/
theorem faulted_fetchBad : Faulted e ⟨8, 0, 0⟩ s ((s.peCycles e 1).peFault e ⟨8, 0, 0⟩) :=
  (Fetched.refl.peCycles 1).faulted (State.peState_of_issues hi) _ (show 8 < 10 by decide)

/-- A fault after the fetch. -/
theorem faulted_fetched {y : PeFault} (hy : y.code < 10) : Faulted e y s (((s.fetch e).peCycles e 1).peFault e y) :=
  (Fetched.refl.fetch.peCycles 1).faulted (State.peState_of_issues hi) _ hy

/-- A fault after the fetch, chosen from several. -/
theorem faulted_chosen {y : PeFault} (hy : y.code < 10) : Faulted e y s (((s.takeFree.2.fetch e).peCycles e 1).peFault e y) :=
  (Fetched.refl.takeFree.fetch.peCycles 1).faulted (State.peState_of_issues hi) _ hy

theorem peIssue_fetchBad (hb : s.fetchBad e = true) (slots : Bool) (op : PeCore → PeRes) :
    Faulted e ⟨8, 0, 0⟩ s (s.peIssue e f slots op) := by
  rw [State.peIssue, if_pos hi, if_pos hb]
  exact faulted_fetchBad hi

/-- An instruction that meets faults takes one of them (R155). -/
theorem peIssue_faulted (hb : s.fetchBad e = false) {slots : Bool} {op : PeCore → PeRes} (hop : (op (s.core e)).Coded)
    (hne : s.peFaults e f slots (op (s.core e)) ≠ []) :
    ∃ y ∈ s.peFaults e f slots (op (s.core e)), Faulted e y s (s.peIssue e f slots op) := by
  have hcode := s.peFaults_coded (e := e) (f := f) (slots := slots) hop
  rw [State.peIssue, if_pos hi, if_neg (by simp [hb])]
  dsimp only
  generalize s.peFaults e f slots (op (s.core e)) = fs at hne hcode ⊢
  match fs with
  | [] => exact absurd rfl hne
  | [y] => exact ⟨y, List.mem_singleton_self y, faulted_fetched hi (hcode y (List.mem_singleton_self y))⟩
  | y :: z :: zs =>
    have hm := getD_mod_mem y (z :: zs) s.takeFree.1
    exact ⟨_, hm, faulted_chosen hi (hcode _ hm)⟩

end

end Sys2Proof.Machine
end

section
/-! SUPPORT. The forms of an operation that are illegal, and the faults of a far transfer (R133, R139, R143-R145, R153). -/

namespace Sys2Proof.Machine

variable {s t u : State} {e : Fin 64} {f : InstrFields}

/-! ### Illegal forms -/

theorem macOp_illegal (h : 4 ≤ f.dst.toNat ∨ f.aux ≠ 0) (g : Int → Int → Int) (c : PeCore) : macOp f g c = .error ⟨1, 0, 0⟩ :=
  if_pos (h.imp_left fun h => by omega)

theorem stsOp_illegal (h : 8 < f.aux.toNat) (c : PeCore) : stsOp f c = .error ⟨1, 0, 0⟩ := if_pos h

theorem acsOp_illegal (h : f.srca.toNat % 4 ≠ 0 ∨ f.dst.toNat % 4 ≠ 0) (isMax : Bool) (trace : Nat) (c : PeCore) :
    acsOp isMax f trace c = .error ⟨1, 0, 0⟩ := if_pos h

theorem moveOp_illegal {e : Nat} (h : fileOk e f.aux.toNat f.dst.toNat true = none ∨ fileOk e f.srcb.toNat f.srca.toNat false = none)
    (trace : Nat) (c : PeCore) : moveOp e f trace c = .error ⟨1, 0, 0⟩ := by
  unfold moveOp
  split
  case h_1 df sf hd hs =>
    rcases h with h | h
    · rw [h] at hd
      exact absurd hd (by simp)
    · rw [h] at hs
      exact absurd hs (by simp)
  case h_2 => rfl

theorem ldiOp_illegal {e : Nat} (h : fileOk e f.aux.toNat f.dst.toNat true = none) (c : PeCore) :
    ldiOp e f c = .error ⟨1, 0, 0⟩ := by
  rw [ldiOp, h]
  rfl

theorem brcOp_illegal (h : f.aux.toNat % 4 = 3) (pc : Nat) (c : PeCore) : brcOp pc f c = .error ⟨1, 0, 0⟩ := by
  unfold brcOp
  simp only [h]
  rfl

theorem repOp_illegal {pc : Nat} {c : PeCore} (h : f.imm.toNat % 2 ^ 12 = 0 ∨
    ∃ l ∈ c.loops, l.first ≤ pc ∧ pc ≤ l.last ∧ l.last < pc + f.imm.toNat % 2 ^ 12) (n : Nat) :
    repOp pc f n c = .error ⟨2, 0, 0⟩ := by
  refine if_pos (h.imp_right fun h => .inl ?_)
  obtain ⟨l, hl, h1, h2, h3⟩ := h
  exact List.any_eq_true.2 ⟨l, hl, by simp only [h1, h2, h3, decide_true, Bool.and_self]⟩

/-- An operation that is illegal, alone among the faults. -/
theorem peIssue_illegal (hi : s.peIssues e = true) (hb : s.fetchBad e = false) {slots : Bool} {op : PeCore → PeRes} {y : PeFault}
    (hop : op (s.core e) = .error y) (hy : y.code < 10) (hone : s.peFaults e f slots (.error y) = [y]) :
    Faulted e y s (s.peIssue e f slots op) := by
  obtain ⟨z, hz, hF⟩ := peIssue_faulted (f := f) (slots := slots) (op := op) hi hb (by rw [hop]; exact Coded_error hy)
    (by rw [hop, hone]; exact List.cons_ne_nil _ _)
  rw [hop, hone, List.mem_singleton] at hz
  exact hz ▸ hF

/-! ### Far transfers -/

theorem xferFaults_coded (dst3 : Bool) (loc far len : Nat) : ∀ y ∈ xferFaults dst3 loc far len, y.code < 10 := by
  intro y hy
  unfold xferFaults at hy
  split at hy
  · rw [List.mem_singleton.1 hy]
    exact (show 1 < 10 by decide)
  · simp only [List.mem_append, List.mem_ite_nil_right, List.mem_ite_nil_left, List.mem_singleton] at hy
    rcases hy with (⟨-, rfl⟩ | ⟨-, rfl⟩) | ⟨-, rfl⟩
    · exact (show 3 < 10 by decide)
    · exact (show 4 < 10 by decide)
    · exact (show 6 < 10 by decide)

section
variable (hi : s.peIssues e = true) {put inY : Bool}
include hi

theorem peXfer_fetchBad (hb : s.fetchBad e = true) : Faulted e ⟨8, 0, 0⟩ s (s.peXfer e f put inY) := by
  rw [State.peXfer, if_pos hi]
  dsimp only
  rw [if_pos hb]
  exact faulted_fetchBad hi

/-- The faults that the far transfer of an instruction shows. -/
def State.xferFs (s : State) (e : Fin 64) (f : InstrFields) : List PeFault :=
  xferFaults (decide (8 ≤ f.dst.toNat)) ((s.core e).ar (f.aux.toNat % 8))
    ((s.core e).vr (lowLane f.lmask) f.srca.toNat).toNat (xferLen f)

theorem peXfer_faulted (hb : s.fetchBad e = false) (hne : s.xferFs e f ≠ []) :
    ∃ y ∈ s.xferFs e f, Faulted e y s (s.peXfer e f put inY) := by
  have hcode : ∀ y ∈ s.xferFs e f, y.code < 10 := xferFaults_coded _ _ _ _
  rw [State.peXfer, if_pos hi]
  dsimp only
  rw [if_neg (by simp [hb]), ← State.xferFs]
  generalize s.xferFs e f = fs at hne hcode ⊢
  match fs with
  | [] => exact absurd rfl hne
  | [y] => exact ⟨y, List.mem_singleton_self y, faulted_fetched hi (hcode y (List.mem_singleton_self y))⟩
  | y :: z :: zs =>
    have hm := getD_mod_mem y (z :: zs) s.takeFree.1
    exact ⟨_, hm, faulted_chosen hi (hcode _ hm)⟩

/-- The data of a PUT are read with an error that cannot be corrected (R152). -/
theorem peXfer_putBad (hb : s.fetchBad e = false) (hfs : s.xferFs e f = [])
    (hst : s.xferStalls e (f.dst.toNat % 8) (s.engineTxns e (f.dst.toNat % 8)
      ((s.core e).vr (lowLane f.lmask) f.srca.toNat).toNat (xferLen f) (s.core e).qos true).1.length = false)
    (hecc : s.eccWords true 4 (xyAddr e inY ((s.core e).ar (f.aux.toNat % 8))) (xferLen f) ≠ 0) :
    Faulted e ⟨8, 3, 0⟩ s (s.peXfer e f true inY) := by
  rw [State.peXfer, if_pos hi]
  dsimp only
  rw [if_neg (by simp [hb]), ← State.xferFs, hfs]
  dsimp only
  rw [if_neg (by simp [hst]), if_pos (by simpa using hecc)]
  exact faulted_fetched hi (show 8 < 10 by decide)

end

end Sys2Proof.Machine
end

section
/-! Faults. -/

open Sys2Proof Sys2Proof.Machine

/-- Settles O20: whatever is judged before an instruction has its effect, the fault alone is written. -/
theorem faultSuppressesWrites : Obligations.FaultSuppressesWrites := by
  refine ⟨?issues, ?fetch, ?transfers, ?illegal⟩
  case issues =>
    intro e f rc s x hx hi hb hne
    exact ⟨_, issueOps_exec rc x hx, peIssue_faulted hi hb (issueOps_coded rc x hx _) hne⟩
  case fetch =>
    intro e f rc s c hc hi hb
    rw [engineInstrs, List.mem_append, List.mem_map] at hc
    rcases hc with ⟨x, hx, rfl⟩ | hc
    · exact ⟨_, issueOps_exec rc x hx, peIssue_fetchBad hi hb _ _⟩
    · simp only [List.mem_cons, List.not_mem_nil, or_false] at hc
      rcases hc with rfl | rfl | rfl | rfl | rfl | rfl | rfl | rfl
      case inl =>
        refine ⟨_, congrArg Host.Outcome.next ?_, faulted_fetchBad hi⟩
        rw [State.peWait, if_pos hi]
        exact if_pos hb
      case inr.inl =>
        refine ⟨_, congrArg Host.Outcome.next ?_, faulted_fetchBad hi⟩
        rw [State.peEnd, if_pos hi]
        exact if_pos hb
      case inr.inr.inl =>
        refine ⟨_, congrArg Host.Outcome.next ?_, faulted_fetchBad hi⟩
        rw [State.peOnlyFault, if_pos hi, if_pos hb]
      case inr.inr.inr.inl =>
        refine ⟨_, congrArg Host.Outcome.next ?_, faulted_fetchBad hi⟩
        rw [State.peOnlyFault, if_pos hi, if_pos hb]
      all_goals exact ⟨_, rfl, peXfer_fetchBad hi hb⟩
  case transfers =>
    intro e f s c put inY hc loc far fs hi hb
    have he : exec c s = .next (s.peXfer e f put inY) := by
      simp only [List.mem_cons, Prod.mk.injEq, List.not_mem_nil, or_false] at hc
      rcases hc with ⟨rfl, rfl, rfl⟩ | ⟨rfl, rfl, rfl⟩ | ⟨rfl, rfl, rfl⟩ | ⟨rfl, rfl, rfl⟩ <;> rfl
    refine ⟨fun hne => ⟨_, he, peXfer_faulted hi hb hne⟩, fun hfs hst hput hecc => ⟨_, he, ?_⟩⟩
    subst hput
    exact peXfer_putBad hi hb hfs hst hecc
  case illegal =>
    intro e f s c slots code hi hb hone hc
    obtain ⟨op, he, hop, hcode⟩ : ∃ op, exec c s = .next (s.peIssue e f slots op) ∧ op (s.core e) = .error ⟨code, 0, 0⟩ ∧
        code < 10 := by
      rcases hc with ⟨hc, rfl, rfl, h⟩ | ⟨rfl, rfl, rfl, h⟩ | ⟨hc, rfl, rfl, h⟩ | ⟨rfl, rfl, rfl, h⟩ | ⟨rfl, rfl, rfl, h⟩ |
        ⟨rfl, rfl, rfl, h⟩ | ⟨hc, rfl, rfl, h⟩
      · simp only [List.mem_cons, List.not_mem_nil, or_false] at hc
        rcases hc with rfl | rfl | rfl <;> exact ⟨_, rfl, macOp_illegal h _ _, by decide⟩
      · exact ⟨_, rfl, stsOp_illegal h _, by decide⟩
      · simp only [List.mem_cons, List.not_mem_nil, or_false] at hc
        rcases hc with rfl | rfl <;> exact ⟨_, rfl, acsOp_illegal h _ _ _, by decide⟩
      · exact ⟨_, rfl, moveOp_illegal h _ _, by decide⟩
      · exact ⟨_, rfl, ldiOp_illegal h _, by decide⟩
      · exact ⟨_, rfl, brcOp_illegal h _ _, by decide⟩
      · simp only [List.mem_cons, List.not_mem_nil, or_false] at hc
        rcases hc with rfl | rfl <;> exact ⟨_, rfl, repOp_illegal h _, by decide⟩
    exact ⟨_, he, peIssue_illegal hi hb hop hcode hone⟩

end

section
/-! SUPPORT. A far transfer leaves its engine (R137, R143-R145, R147, R437, R675). -/

namespace Sys2Proof.Machine

variable {s t u : State} {e : Fin 64} {f : InstrFields}

/-! ### An engine that goes on -/

/-- The state of an engine whose instruction goes on: free values, cycles, corrected errors, and no stall any more. -/
structure Unstalled (e : Fin 64) (s u : State) : Prop where
  core   : u.core e = { s.core e with stalled := false }
  others : ∀ d : Nat, d ≠ e → u.core d = s.core d
  steady : Steady (fun a => eventReg a || fetchRegs e a) [.events, .pe] s u

theorem Fetched.unstalled (h : Fetched e s u) : Unstalled e s (u.peUnstall e) := by
  obtain ⟨hc, hd, hf⟩ := u.peUnstall_leaves e
  refine ⟨by rw [hc, h.core], fun d hne => (hd d hne).trans (h.core d), Steady.trans (h.mono (fun _ h => h) (by simp)) hf⟩

theorem Unstalled.stalls (h : Unstalled e s u) (n : Nat) : Unstalled e s (u.takeFree.2.peCycles e n) := by
  have hF : Fetched e u (u.takeFree.2.peCycles e n) := Fetched.refl.takeFree.peCycles n
  exact ⟨(hF.core _).trans h.core, fun d hd => (hF.core _).trans (h.others d hd),
    h.steady.trans (hF.mono (fun _ h => h) (by simp))⟩

theorem Unstalled.status (h : Unstalled e s u) : u.reg (Reg.PE_STATUS e) = s.reg (Reg.PE_STATUS e) :=
  h.steady.1.1 _ (Bool.or_eq_false_iff.2 ⟨eventReg_high _ (peStatus_high e), fetchRegs_status e⟩)

theorem Unstalled.frame (h : Unstalled e s u) : FrameEv (peBlock e) [.pe] s u :=
  h.steady.1.mono (fun a ha => by
    rw [Bool.or_eq_true] at ha ⊢
    exact ha.imp_right fetchRegs_peBlock) (fun _ h => h)

/-! ### The transactions of a transfer -/

/-- A transfer that lies in the vat or past it has transactions, and every part has a target (R401). -/
theorem engineTxns_target {far len : Nat} (h : (vatLo ≤ far ∧ far + len ≤ vatHi) ∨ 0x80000000 ≤ far) (hl : 0 < len)
    (s : State) (e tag qos : Nat) (write : Bool) :
    (s.engineTxns e tag far len qos write).1 ≠ [] ∧ (s.engineTxns e tag far len qos write).2 = false := by
  unfold State.engineTxns
  dsimp only
  split
  case isTrue hlow =>
    have hv : vatLo ≤ far ∧ far + len ≤ vatHi := h.resolve_right (by omega)
    have hlt : far < vatHi := by omega
    refine ⟨?_, decide_eq_false (by omega)⟩
    unfold vatParts
    dsimp only
    split <;> simp [hlt]
  case isFalse => exact ⟨List.cons_ne_nil _ _, rfl⟩

theorem xferLen_pos (f : InstrFields) : 0 < xferLen f := by
  unfold xferLen
  split <;> omega

/-- A transfer of aligned addresses within local memory, to the vat or past it, shows no fault (R143-R145). -/
theorem State.xferFs_nil (hd : f.dst.toNat < 8) (hloc : (s.core e).ar (f.aux.toNat % 8) % 16 = 0)
    (hfar : ((s.core e).vr (lowLane f.lmask) f.srca.toNat).toNat % 16 = 0)
    (hin : (s.core e).ar (f.aux.toNat % 8) + xferLen f ≤ 0x10000)
    (hv : (vatLo ≤ ((s.core e).vr (lowLane f.lmask) f.srca.toNat).toNat ∧
      ((s.core e).vr (lowLane f.lmask) f.srca.toNat).toNat + xferLen f ≤ vatHi) ∨
      0x80000000 ≤ ((s.core e).vr (lowLane f.lmask) f.srca.toNat).toNat) : s.xferFs e f = [] := by
  have hl := xferLen_pos f
  have hvat : inVat ((s.core e).vr (lowLane f.lmask) f.srca.toNat).toNat 1 = true ∨
      0x80000000 ≤ ((s.core e).vr (lowLane f.lmask) f.srca.toNat).toNat :=
    hv.imp_left fun h => by simp only [inVat, Bool.and_eq_true, decide_eq_true_eq]; omega
  rw [State.xferFs, xferFaults, if_neg (by simpa using hd), if_neg (by omega), if_neg (by omega), if_pos hvat]
  rfl

/-- A transfer with places for itself and for its transactions does not stall (R138, R437). -/
theorem State.xferStalls_false {tag n : Nat} (h8 : (s.core e).xfers.length < 8) (htag : ∀ x ∈ (s.core e).xfers, x.tag ≠ tag)
    (he : s.engineTags e + n ≤ 8) (hc : ∀ c8 : Fin 8, c8.val = e.val / 8 → s.clusterTags c8 + n ≤ 64) :
    s.xferStalls e tag n = false := by
  have hc8 := hc ⟨e / 8 % 8, Nat.mod_lt _ (by decide)⟩ (Nat.mod_eq_of_lt (by omega))
  simp only [State.xferStalls, Bool.or_eq_false_iff, decide_eq_false_iff_not, List.any_eq_false, beq_iff_eq]
  exact ⟨⟨⟨by omega, htag⟩, by omega⟩, by omega⟩

/-! ### The transfer leaves -/

theorem State.xbarAsk_frame (s : State) (ts : List Txn) :
    Frame (fun a => a == Reg.XBAR_INFLIGHT) [.xbar] s (s.xbarAsk ts) := by
  unfold State.xbarAsk State.syncInflight
  exact ((Frame.refl.xbar (by simp) _).setFld _ _ _ (by simp)).setFld _ _ _ (by simp)

theorem State.xbarAsk_waiting (s : State) (ts : List Txn) : (s.xbarAsk ts).xbar.waiting = s.xbar.waiting ++ ts := rfl

theorem State.syncTags_frame (s : State) (e : Nat) : Frame (fun a => a == Reg.PE_STATUS e) [] s (s.syncTags e) :=
  Frame.refl.setFld _ _ _ (by simp)

/-- The core of an engine whose transfer leaves. -/
def PeCore.sends (c : PeCore) (x : Xfer) : PeCore :=
  { c with xfers := c.xfers ++ [x], puts := c.puts || x.put
           crc := if x.put then crc64 c.crc (leBytes 4 x.far ++ x.data) else c.crc }

section
variable {x : Xfer} (hx : x.err = false)
  (ht : ∀ (s : State) (qos : Nat), (s.engineTxns e x.tag x.far x.len qos x.put).1 ≠ [] ∧
    (s.engineTxns e x.tag x.far x.len qos x.put).2 = false)
include hx ht

theorem State.xferGo_eq (s : State) : s.xferGo e x = ((s.setCore e ((s.core e).sends x)).syncTags e).xbarAsk
    (s.engineTxns e x.tag x.far x.len (s.core e).qos x.put).1 := by
  obtain ⟨-, h2⟩ := ht s (s.core e).qos
  have hxe : { x with err := false } = x := by rw [← hx]
  rw [State.xferGo, h2, if_neg (by simp), hxe]
  rfl

theorem State.xferGo_core (s : State) (d : Nat) :
    (s.xferGo e x).core d = if (e : Nat) = d then (s.core e).sends x else s.core d := by
  rw [State.xferGo_eq hx ht, (State.xbarAsk_frame _ _).core_eq (by simp), (State.syncTags_frame _ _).core_eq (by simp),
    State.core_setCore]

theorem State.xferGo_waiting (s : State) : s.xbar.waiting.length < (s.xferGo e x).xbar.waiting.length := by
  obtain ⟨h1, -⟩ := ht s (s.core e).qos
  have h0 := List.length_pos_iff.2 h1
  have hxb : ((s.setCore e ((s.core e).sends x)).syncTags e).xbar = s.xbar := (State.syncTags_frame _ _).2 .xbar (by simp)
  rw [State.xferGo_eq hx ht, State.xbarAsk_waiting, List.length_append, hxb]
  exact Nat.lt_add_of_pos_right h0

theorem State.xferGo_frame (s : State) :
    Frame (fun a => a == Reg.PE_STATUS e || a == Reg.XBAR_INFLIGHT) [.pe, .xbar] s (s.xferGo e x) := by
  rw [State.xferGo_eq hx ht]
  exact ((Frame.refl.setCore (by simp) _ _).trans ((State.syncTags_frame _ _).mono (fun a h => by simp [h]) (by simp))).trans
    ((State.xbarAsk_frame _ _).mono (fun a h => by simp [h]) (by simp))

/-- A field of PE_STATUS but TAGS. -/
theorem State.xferGo_fld (s : State) {g : Field} (hg : g.lo + g.width ≤ 4 ∨ 12 ≤ g.lo) :
    (s.xferGo e x).fld (Reg.PE_STATUS e) g = s.fld (Reg.PE_STATUS e) g := by
  rw [State.xferGo_eq hx ht, State.fld_congr ((State.xbarAsk_frame _ _).1 _ ?_)]
  · exact State.fld_setFld_apart (f := Fld.PE_STATUS_TAGS) _ _ (by decide) (by simp only [Fld.PE_STATUS_TAGS]; omega) _
  · simp only [beq_eq_false_iff_ne, Reg.PE_STATUS, Reg.XBAR_INFLIGHT]
    omega

end

/-! ### The instruction -/

/-- What a far transfer stands for among the outstanding ones. -/
def State.xferSent (s : State) (e : Fin 64) (f : InstrFields) (put inY : Bool) : Xfer :=
  ⟨f.dst.toNat, put, inY, (s.core e).ar (f.aux.toNat % 8), ((s.core e).vr (lowLane f.lmask) f.srca.toNat).toNat, xferLen f,
    s.pePc e, if put then s.read (xyAddr e inY ((s.core e).ar (f.aux.toNat % 8))) (xferLen f) else List.replicate (xferLen f) 0,
    false, false, false⟩

/-- A far transfer without a fault that finds its place (R137, R143, R675). -/
theorem State.peXfer_goes {put inY : Bool} (hi : s.peIssues e = true) (hb : s.fetchBad e = false) (hd : f.dst.toNat < 8)
    (hfs : s.xferFs e f = [])
    (hst : s.xferStalls e f.dst.toNat (s.engineTxns e f.dst.toNat ((s.core e).vr (lowLane f.lmask) f.srca.toNat).toNat
      (xferLen f) (s.core e).qos put).1.length = false)
    (hecc : put = true → s.eccWords true 4 (xyAddr e inY ((s.core e).ar (f.aux.toNat % 8))) (xferLen f) = 0) :
    ∃ u w, Unstalled e s u ∧ Writes.OfControl w ∧ w.flow = .next ∧
      s.peXfer e f put inY = (u.xferGo e (s.xferSent e f put inY)).peComplete e w := by
  rw [State.peXfer, if_pos hi]
  dsimp only
  rw [if_neg (by simp [hb]), ← State.xferFs, hfs, Nat.mod_eq_of_lt hd]
  dsimp only
  rw [if_neg (by simp [hst]), if_neg (by
    rw [Bool.and_eq_true, bne_iff_ne]
    exact fun h => h.2 (hecc h.1))]
  have hu : Unstalled e s ((s.fetch e).peUnstall e) := Fetched.refl.fetch.unstalled
  refine ⟨_, _, ?_, ?_, ?_, rfl⟩
  · split
    · exact hu.stalls _
    · exact hu
  · exact ⟨rfl, rfl, rfl, rfl, rfl, rfl, rfl⟩
  · rfl

end Sys2Proof.Machine
end

section
/-! SUPPORT. The engine after a far transfer has left, one that stalls, and a transfer that retires (R138, R145, R148, R150). -/

namespace Sys2Proof.Machine

variable {s t u : State} {e : Fin 64} {f : InstrFields}

/-- A frame without a part that stays in fact. -/
theorem Frame.drop {R : Nat → Bool} {P Q : List Part} (h : Frame R P s t) (hQ : ∀ p ∈ P, p ∉ Q → p.same s t) : Frame R Q s t :=
  ⟨h.1, fun p hp => by
    by_cases hm : p ∈ P
    · exact hQ p hm hp
    · exact h.2 p hm⟩

theorem InstrDone.mem_control {w : Writes} (h : InstrDone e w s t) (hw : w.OfControl) : t.mem = s.mem := by
  obtain ⟨-, -, -, hb, -⟩ := hw
  rw [h.mem, hb]
  rfl

/-- An instruction that writes no register leaves those of the core. -/
theorem InstrDone.regs_control {w : Writes} (h : InstrDone e w s t) (hw : w.OfControl) : (s.core e).sameRegs (t.core e) := by
  obtain ⟨h1, h2, h3, h4, h5, h6, h7, h8, -⟩ := h.core
  obtain ⟨g1, g2, g3, g4, g5, g6, g7, g8⟩ := (s.core e).after_keep (s.pePc e) w
  rw [PeCore.apply_control hw] at g4 g5 g6
  obtain ⟨wv, wa, -, -, -, wc, -⟩ := hw
  rw [wv] at g1
  rw [wa] at g2
  rw [wc] at g3
  exact ⟨h1.trans g1, h2.trans g2, h3.trans g3, h4.trans g4, h5.trans g5, h6.trans g6, h7.trans g7, h8.trans g8⟩

/-- Check bits stay where nothing is stored. -/
theorem State.peComplete_ecc {w : Writes} (h2 : s.peState e = 2) (hw : w.OfControl) : (s.peComplete e w).ecc = s.ecc := by
  obtain ⟨-, -, -, hb, -⟩ := hw
  have hE : (s.peEffect e w).ecc = s.ecc := by
    refine ((s.peEffect_steady e w).1.2 .ecc (by simp)).trans ?_
    rw [State.peWritten, hb, State.stores, List.foldl_nil, State.ecc_setCore]
    split <;> rfl
  rw [State.peComplete_eq]
  split
  · rw [State.ecc_setPc, hE]
  · exact ((State.peFault_steady ((s.peState_peEffect e w).trans h2) (by decide)).1.2 .ecc (by simp)).trans hE

/-- A far transfer that leaves: it is outstanding, its transactions wait, and the engine goes on (R137, R143, R147). -/
theorem State.peXfer_leaves {x : Xfer} {w : Writes} (hu : Unstalled e s u) (hw : w.OfControl) (hn : w.flow = .next)
    (hx : x.err = false) (ht : ∀ (s : State) (qos : Nat), (s.engineTxns e x.tag x.far x.len qos x.put).1 ≠ [] ∧
      (s.engineTxns e x.tag x.far x.len qos x.put).2 = false) (h2 : s.peState e = 2)
    (hl : ∀ l ∈ (s.core e).loops, l.last ≠ s.pePc e) (hpc : s.pePc e + 1 < 4096) :
    let t := (u.xferGo e x).peComplete e w
    ((s.core e).sends x).sameRegs (t.core e) ∧ s.xbar.waiting.length < t.xbar.waiting.length ∧ t.pePc e = s.pePc e + 1 ∧
      t.mem = s.mem ∧ FrameEv (fun a => peBlock e a || a == Reg.XBAR_INFLIGHT) [.pe, .xbar] s t := by
  have hgf := u.xferGo_frame hx ht
  have hcore : (u.xferGo e x).core e = ({ s.core e with stalled := false } : PeCore).sends x := by
    rw [u.xferGo_core hx ht, if_pos rfl, hu.core]
  have hp : (u.xferGo e x).pePc e = s.pePc e := (u.xferGo_fld hx ht (by decide)).trans (State.fld_congr hu.status _)
  have hst : (u.xferGo e x).peState e = 2 :=
    ((u.xferGo_fld hx ht (by decide)).trans (State.fld_congr hu.status _)).trans h2
  have hI := State.peComplete_done hst w
  have hmem : (u.xferGo e x).mem = s.mem := (hgf.2 .mem (by simp)).trans (hu.steady.1.2 .mem (by simp))
  have hecc : (u.xferGo e x).ecc = s.ecc := (hgf.2 .ecc (by simp)).trans (hu.steady.1.2 .ecc (by simp))
  have hxu : u.xbar = s.xbar := hu.steady.1.2 .xbar (by simp)
  have hxt : ((u.xferGo e x).peComplete e w).xbar = (u.xferGo e x).xbar := hI.frame.2 .xbar (by simp)
  have hgo : (flowRun (((u.xferGo e x).core e).apply w) ((u.xferGo e x).pePc e) w.flow).1 = ((s.pePc e + 1 : Nat) : Int) := by
    rw [PeCore.apply_control hw, hp, hn, flowRun_next]
    rw [hcore]
    exact hl
  have hF : FrameEv (fun a => peBlock e a || a == Reg.XBAR_INFLIGHT) [.pe, .xbar] s (u.xferGo e x) :=
    (hu.frame.widen (fun a h => by simp [h]) (by simp)).trans (hgf.mono (fun a h => by
      simp only [Bool.or_eq_true, beq_iff_eq] at h
      rcases h with rfl | rfl <;> simp [peBlock_status]) (by simp))
  refine ⟨?_, ?_, ?_, (hI.mem_control hw).trans hmem, Frame.drop (P := [.events, .pe, .xbar, .mem, .ecc])
    ((hF.widen (fun _ h => h) (by simp)).trans (hI.frame.widen (fun a h => by simp [h]) (by simp))) fun p hp hq => ?_⟩
  · have := hI.regs_control hw
    rw [hcore] at this
    exact this
  · rw [hxt, ← hxu]
    exact u.xferGo_waiting hx ht
  · have := State.pePc_peComplete (hgo ▸ Int.natCast_nonneg _) (hgo ▸ (by exact_mod_cast hpc))
    rw [hgo] at this
    exact_mod_cast this
  · simp only [List.mem_cons, List.not_mem_nil, or_false] at hp hq
    rcases hp with rfl | rfl | rfl | rfl | rfl
    · simp at hq
    · simp at hq
    · simp at hq
    · exact (hI.mem_control hw).trans hmem
    · exact (State.peComplete_ecc hst hw).trans hecc

/-- A far transfer without a place stalls (R138). -/
theorem State.peXfer_stalls {put inY : Bool} (hi : s.peIssues e = true) (hb : s.fetchBad e = false) (hfs : s.xferFs e f = [])
    (hst : s.xferStalls e (f.dst.toNat % 8) (s.engineTxns e (f.dst.toNat % 8)
      ((s.core e).vr (lowLane f.lmask) f.srca.toNat).toNat (xferLen f) (s.core e).qos put).1.length = true) :
    s.peXfer e f put inY = (s.fetch e).setCore e { s.core e with stalled := true } := by
  rw [State.peXfer, if_pos hi]
  dsimp only
  rw [if_neg (by simp [hb]), ← State.xferFs, hfs]
  exact if_pos hst

/-! ### A transfer that retires -/

/-- What a transfer that retires leaves, XDEG aside. -/
def State.xferRetired (s : State) (e tag : Nat) (x : Xfer) : State :=
  ((s.xferData e x false).setCore e { s.core e with xfers := (s.core e).xfers.filter (fun y => y.tag != tag) }).syncTags e

/-- A field of PE_STATUS but TAGS. -/
theorem State.xferRetired_fld (s : State) (e tag : Nat) (x : Xfer) {g : Field} (hg : g.lo + g.width ≤ 4 ∨ 12 ≤ g.lo) :
    (s.xferRetired e tag x).fld (Reg.PE_STATUS e) g = s.fld (Reg.PE_STATUS e) g := by
  rw [State.xferRetired, State.syncTags, State.fld_setFld_apart (f := Fld.PE_STATUS_TAGS) _ _ (by decide)
    (by simp only [Fld.PE_STATUS_TAGS]; omega)]
  refine State.fld_congr ?_ _
  rw [State.reg_setCore, State.xferData]
  split <;> rfl

/-- A transfer that the crossbar has finished without an error, of an engine in RUN (R145, R148). -/
theorem State.xferRetire_eq {tag : Nat} {x : Xfer} (hx : (s.core e).xfers.find? (fun y => y.tag == tag) = some x)
    (hb : s.xferBusy e tag = false) (he : x.err = false) (hd : x.drop = false) (h2 : s.peState e = 2) :
    s.xferRetire e tag false = if x.deg then (s.xferRetired e tag x).setBit (Reg.PE_STATUS e) Fld.PE_STATUS_XDEG true
      else s.xferRetired e tag x := by
  have hkeep : ∀ u : State, u.peState e = 2 → u.xferAfter e x false = u := fun u hu => by
    rw [State.xferAfter, hd, hu]
    simp
  have hstate : (s.xferRetired e tag x).peState e = 2 := (s.xferRetired_fld e tag x (by decide)).trans h2
  rw [State.xferRetire, hx]
  simp only [hb, he, hd, Bool.or_self, Bool.not_false, Bool.and_true, Bool.false_eq_true, if_false]
  split
  · refine hkeep _ ?_
    rw [State.peState, State.setBit, State.fld_setFld_apart _ _ (by decide) (by decide)]
    exact hstate
  · exact hkeep _ hstate

theorem State.xferRetired_core (s : State) (e tag : Nat) (x : Xfer) : (s.xferRetired e tag x).core e =
    { s.core e with xfers := (s.core e).xfers.filter (fun y => y.tag != tag) } := by
  rw [State.xferRetired, (State.syncTags_frame _ _).core_eq (by simp), State.core_setCore, if_pos rfl]

theorem State.xferRetired_mem {x : Xfer} (hd : x.drop = false) (s : State) (e tag : Nat) : (s.xferRetired e tag x).mem =
    if x.put then s.mem else Memory.write s.mem (xyAddr e x.inY x.loc) x.data := by
  have h : (s.xferRetired e tag x).mem = (s.xferData e x false).mem := (State.syncTags_frame _ _).2 .mem (by simp)
  rw [h, State.xferData, hd]
  cases x.put <;> rfl

theorem State.xferRetired_frame (s : State) (e tag : Nat) (x : Xfer) :
    Frame (fun a => a == Reg.PE_STATUS e) [.pe, .mem, .ecc] s (s.xferRetired e tag x) := by
  have h : Frame (fun a => a == Reg.PE_STATUS e) [.pe, .mem, .ecc] s (s.xferData e x false) := by
    unfold State.xferData
    exact Frame.ite .refl ((Frame.refl.write (by simp) _ _).eccClearW (by simp) _ _ _)
  exact (h.setCore (by simp) _ _).trans ((State.syncTags_frame _ _).mono (fun _ h => h) (by simp))

/-- What a retired transfer leaves, whatever becomes of XDEG (R145, R148, R150). -/
theorem State.xferRetired_leaves {tag : Nat} {x : Xfer} (hd : x.drop = false)
    (hT : Frame (fun a => a == Reg.PE_STATUS e) [] (s.xferRetired e tag x) t)
    (hg : x.deg = true → t.bit (Reg.PE_STATUS e) Fld.PE_STATUS_XDEG = true)
    (hpc : t.pePc e = (s.xferRetired e tag x).pePc e) :
    (∀ y ∈ (t.core e).xfers, y ∈ (s.core e).xfers ∧ y.tag ≠ tag) ∧
      (x.put = false → t.read (xyAddr e x.inY x.loc) x.data.length = x.data) ∧
      (x.put = false → KeepsOutside s.mem t.mem (xyAddr e x.inY x.loc) x.data.length) ∧
      (x.put = true → t.mem = s.mem) ∧ (x.deg = true → t.bit (Reg.PE_STATUS e) Fld.PE_STATUS_XDEG = true) ∧
      t.pePc e = s.pePc e ∧ Frame (fun a => a == Reg.PE_STATUS e) [.pe, .mem, .ecc] s t := by
  have hmem : t.mem = if x.put then s.mem else Memory.write s.mem (xyAddr e x.inY x.loc) x.data :=
    (hT.2 .mem (by simp)).trans (s.xferRetired_mem hd e tag)
  have hget : x.put = false → t.mem = Memory.write s.mem (xyAddr e x.inY x.loc) x.data := fun hp => by
    rw [hmem, hp]
    rfl
  refine ⟨?_, fun hp => ?_, fun hp => ?_, fun hp => by rw [hmem, if_pos hp], hg,
    hpc.trans (s.xferRetired_fld e tag x (by decide)), (s.xferRetired_frame e tag x).trans (hT.mono (fun _ h => h) (by simp))⟩
  · rw [hT.core_eq (by simp), State.xferRetired_core]
    simp
  · rw [State.read, hget hp]
    exact Memory.read_write_same _ _ _
  · rw [hget hp]
    exact Memory.write_keeps _ _ _

end Sys2Proof.Machine
end

section
/-! Far transfers. -/

open Sys2Proof Sys2Proof.Machine

/-- Settles O21: a transfer that leaves, one that stalls, and one that retires. -/
theorem farTransfers : Obligations.FarTransfers := by
  refine ⟨?leaves, ?stalls, ?retires⟩
  case leaves =>
    intro e f s c put inY hc loc far hi hb hd hloc hfar hin hv n h8 htag hen hcn hecc hl hpc
    have he : exec c s = .next (s.peXfer e f put inY) := by
      simp only [List.mem_cons, Prod.mk.injEq, List.not_mem_nil, or_false] at hc
      rcases hc with ⟨rfl, rfl, rfl⟩ | ⟨rfl, rfl, rfl⟩ | ⟨rfl, rfl, rfl⟩ | ⟨rfl, rfl, rfl⟩ <;> rfl
    obtain ⟨u, w, hu, hw, hn, hgo⟩ := State.peXfer_goes (put := put) (inY := inY) hi hb hd
      (State.xferFs_nil hd hloc hfar hin hv) (State.xferStalls_false h8 htag hen hcn) hecc
    obtain ⟨⟨rv, racc, -, ra, -, -, rx, rcrc⟩, hwait, hpc', hmem, hF⟩ := State.peXfer_leaves (x := s.xferSent e f put inY) hu hw
      hn rfl (fun s qos => engineTxns_target hv (xferLen_pos f) s e _ qos put) (State.peState_of_issues hi) hl hpc
    refine ⟨_, he, ?_⟩
    rw [hgo]
    refine ⟨rx.trans ?_, rcrc.trans ?_, hwait, hpc', rv, racc, ra, hmem, hF⟩
    · cases put
      · simp only [PeCore.sends, State.xferSent, Bool.false_eq_true, if_false, loc, far]
      · simp only [PeCore.sends, State.xferSent, if_true, loc, far]
    · cases put
      · simp only [PeCore.sends, State.xferSent, Bool.false_eq_true, if_false]
      · simp only [PeCore.sends, State.xferSent, if_true, loc, far]
  case stalls =>
    intro e f s c put inY hc loc far hi hb hfs hst
    have he : exec c s = .next (s.peXfer e f put inY) := by
      simp only [List.mem_cons, Prod.mk.injEq, List.not_mem_nil, or_false] at hc
      rcases hc with ⟨rfl, rfl, rfl⟩ | ⟨rfl, rfl, rfl⟩ | ⟨rfl, rfl, rfl⟩ | ⟨rfl, rfl, rfl⟩ <;> rfl
    have hF : Fetched e s (s.fetch e) := Fetched.refl.fetch
    have hS : Frame noRegs [.pe] (s.fetch e) ((s.fetch e).setCore e { s.core e with stalled := true }) :=
      Frame.refl.setCore (by simp) _ _
    refine ⟨_, he, ?_⟩
    rw [State.peXfer_stalls hi hb hfs hst]
    refine ⟨?_, (State.pePc_setCore _ _ _ _).trans hF.pePc, (State.peState_setCore _ _ _ _).trans hF.peState,
      (hS.2 .xbar (by simp)).trans (hF.1.2 .xbar (by simp)),
      (hS.2 .mem (by simp)).trans hF.mem, Frame.setCore (hF.frame.widen (fun _ h => h) (by simp)) (by simp) _ _⟩
    rw [State.core_setCore, if_pos rfl]
  case retires =>
    intro e tag s x hx hb herr hd h2
    refine ⟨_, congrArg Host.Outcome.next (State.xferRetire_eq hx hb herr hd h2), ?_⟩
    by_cases hg : x.deg = true
    · rw [if_pos hg]
      exact State.xferRetired_leaves hd (Frame.refl.setBit _ _ _ (by simp))
        (fun _ => State.bit_setBit_same _ _ _ _ (by decide) rfl) (State.fld_setFld_apart _ _ (by decide) (by decide) _)
    · rw [if_neg hg]
      exact State.xferRetired_leaves hd Frame.refl (fun h => absurd h hg) rfl

end

section
/-! SUPPORT. Addresses of memory slots: buffers, bit-reversed steps, and where an access lies (R118, R121, R125, R126). -/

namespace Sys2Proof.Machine

variable {s t : State}

/-! ### Buffers -/

/-- The model's power of two is the smallest one (R125). -/
theorem pow2Ceil_eq {len i : Nat} (hlen : len ≤ 2 ^ 16) (hi : CeilPow len i) : i ≤ 16 ∧ pow2Ceil len = 2 ^ i := by
  have h16 : i ≤ 16 := hi.2 16 hlen
  refine ⟨h16, ?_⟩
  have hf : (List.range 17).find? (fun k => decide (len ≤ 2 ^ k)) = some i := by
    rw [List.find?_eq_some_iff_getElem]
    refine ⟨decide_eq_true hi.1, i, by simp; omega, by simp, fun j hj => ?_⟩
    simp only [List.getElem_range, Bool.not_eq_true', decide_eq_false_iff_not]
    exact fun hle => absurd (hi.2 j hle) (by omega)
  rw [pow2Ceil, hf, Option.getD_some]

theorem PeCore.lenOf_lt (c : PeCore) (n : Nat) : c.lenOf n < 2 ^ 16 := by
  have := (SMap.find 0 c.m n).isLt
  unfold PeCore.lenOf
  omega

theorem PeCore.ar_lt (c : PeCore) (n : Nat) : c.ar n < 2 ^ 16 := (SMap.find 0 c.a n).isLt

/-- A step inside a buffer stays inside 16 bits (R125). -/
theorem wrapIn_eq {a len i : Nat} (ha : a < 2 ^ 16) (hlen : len < 2 ^ 16) (h0 : len ≠ 0) (hi : CeilPow len i) (d : Int) :
    wrapIn a len d % 2 ^ 16 = a / 2 ^ i * 2 ^ i + (((a % 2 ^ i : Nat) + d) % (len : Int)).toNat := by
  obtain ⟨h16, hp⟩ := pow2Ceil_eq hlen.le hi
  have hmod : a - a / 2 ^ i * 2 ^ i = a % 2 ^ i := by rw [Nat.mul_comm, Nat.mod_def]
  have hlt : ((a % 2 ^ i : Nat) + d) % (len : Int) < len := Int.emod_lt_of_pos _ (by omega)
  have hge : 0 ≤ ((a % 2 ^ i : Nat) + d) % (len : Int) := Int.emod_nonneg _ (by omega)
  have hbase : a / 2 ^ i * 2 ^ i + 2 ^ i ≤ 2 ^ 16 := by
    have hdiv : 2 ^ 16 = 2 ^ (16 - i) * 2 ^ i := by rw [← Nat.pow_add, Nat.sub_add_cancel h16]
    have hq : a / 2 ^ i < 2 ^ (16 - i) := Nat.div_lt_of_lt_mul (by rw [Nat.mul_comm, ← hdiv]; exact ha)
    calc a / 2 ^ i * 2 ^ i + 2 ^ i = (a / 2 ^ i + 1) * 2 ^ i := by ring
      _ ≤ 2 ^ (16 - i) * 2 ^ i := Nat.mul_le_mul_right _ hq
      _ = 2 ^ 16 := hdiv.symm
  have hle := hi.1
  have hv : wrapIn a len d = a / 2 ^ i * 2 ^ i + (((a % 2 ^ i : Nat) + d) % (len : Int)).toNat := by
    unfold wrapIn
    dsimp only
    rw [hp, hmod]
    rfl
  rw [hv, Nat.mod_eq_of_lt (by omega)]

/-! ### Bit-reversed steps -/

theorem bitRev_lt (n v : Nat) : bitRev n v < 2 ^ n := by
  induction n generalizing v with
  | zero => exact Nat.one_pos
  | succ n ih =>
    have := ih (v / 2)
    rw [bitRev, Nat.pow_succ]
    rcases Nat.mod_two_eq_zero_or_one v with h | h <;> rw [h] <;> omega

theorem testBit_bitRev (n v j : Nat) : (bitRev n v).testBit j = (decide (j < n) && v.testBit (n - 1 - j)) := by
  induction n generalizing v with
  | zero => simp [bitRev]
  | succ n ih =>
    rw [bitRev, Nat.mul_comm, Nat.testBit_two_pow_mul_add _ (bitRev_lt n _), ih, Nat.testBit_div_two]
    by_cases hj : j < n
    · rw [if_pos hj, decide_eq_true hj, decide_eq_true (by omega), show n - 1 - j + 1 = n + 1 - 1 - j by omega]
    · rw [if_neg hj]
      by_cases he : j = n
      · subst he
        simp [Nat.testBit_zero]
      · obtain ⟨k, hk⟩ : ∃ k, j - n = k + 1 := ⟨j - n - 1, by omega⟩
        rw [hk, decide_eq_false (by omega), Bool.false_and, Nat.testBit_succ,
          Nat.div_eq_of_lt (Nat.mod_lt _ (by decide)), Nat.zero_testBit]

/-- The model reverses the bits of a number as a bit vector is reversed. -/
theorem ofNat_bitRev (n v : Nat) : BitVec.ofNat n (bitRev n v) = (BitVec.ofNat n v).reverse := by
  apply BitVec.eq_of_getLsbD_eq
  intro i hi
  rw [BitVec.getLsbD_ofNat, BitVec.getLsbD_reverse, BitVec.getMsbD_eq_getLsbD, BitVec.getLsbD_ofNat, testBit_bitRev]
  simp only [hi, decide_true, Bool.true_and, show n - 1 - i < n by omega]

/-- A bit-reversed step adds from the left (R125, R128). -/
theorem revStep_eq {a q : Nat} (hq : q ≤ 16) (step : Int) :
    (BitVec.ofNat (16 - q) (revStep a q step / 2 ^ q)).reverse = (BitVec.ofNat (16 - q) (a / 2 ^ q)).reverse +
        (BitVec.ofNat (16 - q) (lowInt 16 step / 2 ^ q)).reverse ∧
      revStep a q step % 2 ^ q = a % 2 ^ q ∧ revStep a q step < 2 ^ 16 := by
  have hlt := Nat.mod_lt a (Nat.two_pow_pos q)
  unfold revStep
  dsimp only
  generalize hr : bitRev (16 - q) ((bitRev (16 - q) (a / 2 ^ q) + bitRev (16 - q) (lowInt 16 step / 2 ^ q)) % 2 ^ (16 - q)) = r
  have hrl : r < 2 ^ (16 - q) := hr ▸ bitRev_lt _ _
  have hmod : ∀ v, BitVec.ofNat (16 - q) (v % 2 ^ (16 - q)) = BitVec.ofNat (16 - q) v := fun v =>
    BitVec.eq_of_toNat_eq (by rw [BitVec.toNat_ofNat, BitVec.toNat_ofNat, Nat.mod_mod])
  refine ⟨?_, ?_, ?_⟩
  · rw [Nat.mul_comm r, Nat.mul_add_div (Nat.two_pow_pos q), Nat.div_eq_of_lt hlt, Nat.add_zero, ← hr, ofNat_bitRev,
      BitVec.reverse_reverse_eq, hmod, BitVec.ofNat_add, ofNat_bitRev, ofNat_bitRev]
  · rw [Nat.mul_comm r, Nat.mul_add_mod, Nat.mod_mod]
  · calc r * 2 ^ q + a % 2 ^ q < (r + 1) * 2 ^ q := by rw [Nat.succ_mul]; omega
      _ ≤ 2 ^ (16 - q) * 2 ^ q := Nat.mul_le_mul_right _ hrl
      _ = 2 ^ 16 := by rw [← Nat.pow_add, Nat.sub_add_cancel hq]

/-! ### The address -/

theorem lowInt_lt (n : Nat) (v : Int) : lowInt n v < 2 ^ n := by
  have := Int.emod_lt_of_pos v (show (0 : Int) < (2 ^ n : Nat) by positivity)
  have := Int.emod_nonneg v (show ((2 ^ n : Nat) : Int) ≠ 0 by positivity)
  unfold lowInt
  omega

theorem slotAddr_lt (c : PeCore) (idle : Bool) (sl : Slot) : (slotAddr c idle sl).1 < 2 ^ 16 := by
  unfold slotAddr
  dsimp only
  split
  case h_4 =>
    split
    · exact Nat.mod_lt _ (by decide)
    · exact Nat.mod_lt _ (by decide)
  all_goals exact c.ar_lt _

/-- The address of a slot is the one that the model computes (R125, R126). -/
theorem SlotAddress.eq {e : Fin 64} {sl : Slot} {ea : Nat} (h : SlotAddress e sl s ea) (idle : Bool) :
    (slotAddr (s.core e) idle sl).1 = ea := by
  obtain ⟨hplain, hoff, hwrap⟩ := h
  by_cases h4 : sl.am = 4
  · simp only [slotAddr, h4]
    by_cases h0 : (s.core e).lenOf sl.mreg = 0
    · rw [if_pos h0]
      exact (hoff h4 h0).symm
    · obtain ⟨i, hi⟩ : ∃ i, CeilPow ((s.core e).lenOf sl.mreg) i := by
        classical
        have hex : ∃ i, (s.core e).lenOf sl.mreg ≤ 2 ^ i := ⟨16, ((s.core e).lenOf_lt _).le⟩
        exact ⟨Nat.find hex, Nat.find_spec hex, fun j hj => Nat.find_min' hex hj⟩
      rw [if_neg h0, hwrap h4 h0 i hi]
      dsimp only
      rw [wrapIn_eq ((s.core e).ar_lt _) ((s.core e).lenOf_lt _) h0 hi]
      rfl
  · rw [hplain h4]
    unfold slotAddr
    dsimp only
    split
    case h_4 h => exact absurd h h4
    all_goals rfl

end Sys2Proof.Machine
end

section
/-! SUPPORT. What one slot of an instruction moves and steps, beside the other one (R118-R128). -/

namespace Sys2Proof.Machine

variable {s t : State}

/-! ### One slot -/

theorem lanes_isEmpty_iff {lm : BitVec 4} : (lanes lm).isEmpty = true ↔ lm = 0 := by revert lm; decide

theorem mem_lanes_lt {lm : BitVec 4} {l : Nat} (h : l ∈ lanes lm) : l < 4 := ((mem_lanes lm l).1 h).1

theorem mem_storedLanes {lm : BitVec 4} {sl : Slot} {l : Nat} (h : l ∈ storedLanes lm sl) :
    l ∈ lanes lm ∧ sl.store = true ∧ sl.width < 3 := by
  unfold storedLanes at h
  split at h
  case isFalse => exact absurd h List.not_mem_nil
  case isTrue hst =>
    split at h
    case h_1 hw => exact ⟨List.mem_of_mem_take h, hst, by omega⟩
    case h_2 hw => exact ⟨(List.mem_filter.1 h).1, hst, by omega⟩
    case h_3 hw => exact ⟨h, hst, by omega⟩
    case h_4 => exact absurd h List.not_mem_nil

/-- The words of different lanes that store lie apart. -/
theorem laneOff_apart {lm : BitVec 4} {sl : Slot} {l k : Nat} (hl : l ∈ storedLanes lm sl) (hk : k ∈ storedLanes lm sl) :
    l = k ∨ laneOff sl.width l + 4 ≤ laneOff sl.width k ∨ laneOff sl.width k + 4 ≤ laneOff sl.width l := by
  obtain ⟨-, hst, hw⟩ := mem_storedLanes hl
  have hwidth : sl.width = 0 ∨ sl.width = 1 ∨ sl.width = 2 := by omega
  simp only [storedLanes, hst, if_true] at hl hk
  rcases hwidth with hw | hw | hw <;> simp only [hw] at hl hk ⊢
  · left
    cases hls : lanes lm with
    | nil => simp [hls] at hl
    | cons a as =>
      simp only [hls, List.take_succ_cons, List.take_zero, List.mem_singleton] at hl hk
      rw [hl, hk]
  · have hl2 : l < 2 := by simpa using (List.mem_filter.1 hl).2
    have hk2 : k < 2 := by simpa using (List.mem_filter.1 hk).2
    simp only [laneOff, Nat.mod_eq_of_lt hl2, Nat.mod_eq_of_lt hk2]
    omega
  · simp only [laneOff]
    omega

/-- An aligned access ends within 16 bits. -/
theorem slot_room {ea w l : Nat} (hea : ea < 2 ^ 16) (ha : ea % widthBytes w = 0) (hw : w < 3) (hl : l < 4) :
    laneOff w l + 4 ≤ widthBytes w ∧ ea + widthBytes w ≤ 2 ^ 16 := by
  have hwidth : w = 0 ∨ w = 1 ∨ w = 2 := by omega
  rcases hwidth with rfl | rfl | rfl <;> simp only [widthBytes, laneOff] at ha ⊢ <;> omega

section
variable {e : Nat} {c : PeCore} {lm : BitVec 4} {inY : Bool} {sl : Slot} {r : PeRes} (h : SlotDoes s e c lm inY sl r)
  (hr : r.faults = [])
include h hr

/-- A slot that is used makes its step, whether or not it moves words. -/
theorem SlotDoes.eng_eq (h7 : sl.am ≠ 7) : r.writes.eng = (slotAddr c (lanes lm).isEmpty sl).2 := by
  cases h with
  | faults x => exact absurd hr (List.cons_ne_nil _ _)
  | unused h => exact absurd h h7
  | steps => rfl
  | stores => rfl
  | loads => rfl

theorem SlotDoes.unused_writes (h7 : sl.am = 7) : r.writes = {} := by
  cases h with
  | faults x => exact absurd hr (List.cons_ne_nil _ _)
  | unused h => rfl
  | steps h => exact absurd h7 h
  | stores h => exact absurd h7 h
  | loads h => exact absurd h7 h

/-- The words of a load. -/
theorem SlotDoes.v_eq (h7 : sl.am ≠ 7) (hst : sl.store = false) (hw : sl.width < 3) {l : Nat} (hl : l ∈ lanes lm) :
    r.writes.v = loadWrites (lanes lm) sl
      (s.read (xyAddr e inY (slotAddr c (lanes lm).isEmpty sl).1) (widthBytes sl.width)) ∧
    (.v, sl.vreg) ∈ (slotAddr c (lanes lm).isEmpty sl).2.map (fun d => (d.1, d.2.1)) ++
      (if (lanes lm).isEmpty || sl.width == 3 || sl.store || sl.am == 7 then [] else [(.v, sl.vreg)]) := by
  have hne : (lanes lm).isEmpty = false := by
    rw [← Bool.not_eq_true, lanes_isEmpty_iff]
    exact mem_lanes_ne_zero hl
  have hw3 : (sl.width == 3) = false := beq_eq_false_iff_ne.2 (by omega)
  cases h with
  | faults x => exact absurd hr (List.cons_ne_nil _ _)
  | unused h => exact absurd h h7
  | steps _ _ hstill =>
    rw [hne, hw3] at hstill
    exact absurd hstill (by simp)
  | stores _ _ _ _ h => exact absurd (hst.symm.trans h) (by simp)
  | loads => exact ⟨rfl, by simp [hne, hw3, hst, h7]⟩

/-- The bytes of a store are the words of the lanes that store (R119, R121). -/
theorem SlotDoes.bytes_eq (hw : sl.width < 4) : r.writes.bytes = (if sl.am = 7 then [] else storedLanes lm sl).map (fun l =>
    (xyAddr e inY (slotAddr c (lanes lm).isEmpty sl).1 + laneOff sl.width l, wordBytes (c.vr l sl.vreg))) := by
  cases h with
  | faults x => exact absurd hr (List.cons_ne_nil _ _)
  | unused h => rw [if_pos h]; rfl
  | steps h7 _ hstill =>
    have hnone : storedLanes lm sl = [] := by
      rw [Bool.or_eq_true, lanes_isEmpty_iff, beq_iff_eq] at hstill
      unfold storedLanes
      rcases hstill with rfl | h3
      · split
        · split <;> rfl
        · rfl
      · rw [h3]
        split <;> rfl
    rw [if_neg h7, hnone]
    rfl
  | loads h7 _ _ _ hst =>
    rw [if_neg h7, storedLanes, if_neg (by simp [hst])]
    rfl
  | stores h7 _ hmoves _ hst =>
    obtain ⟨-, h3⟩ := not_idle_iff.1 hmoves
    rw [if_neg h7, storedLanes, if_pos hst]
    show (storeBytes c (lanes lm) sl).map _ = _
    have hwidth : sl.width = 0 ∨ sl.width = 1 ∨ sl.width = 2 := by omega
    unfold storeBytes
    rcases hwidth with hw | hw | hw <;> simp only [hw, List.map_map, laneOff]
    · rfl
    · refine List.map_congr_left fun l hl => ?_
      have hl2 : l < 2 := by simpa using (List.mem_filter.1 hl).2
      simp only [Function.comp, xyAddr, Nat.mod_eq_of_lt hl2, Nat.mul_comm l, Nat.add_assoc]
    · refine List.map_congr_left fun l _ => ?_
      simp only [Function.comp, xyAddr, Nat.mul_comm l, Nat.add_assoc]

omit hr in
/-- A slot that stores accesses an aligned address. -/
theorem SlotDoes.aligned (hb : r.writes.bytes ≠ []) :
    (slotAddr c (lanes lm).isEmpty sl).1 % widthBytes sl.width = 0 := by
  cases h with
  | stores _ _ _ ha _ => exact ha
  | faults x => exact absurd rfl hb
  | unused h => exact absurd rfl hb
  | steps => exact absurd rfl hb
  | loads => exact absurd rfl hb

/-- What a slot stores lies within its memory (R122). -/
theorem SlotDoes.bytes_within (hw : sl.width < 4) {p : Nat × List Byte} (hp : p ∈ r.writes.bytes) :
    xyAddr e inY 0 ≤ p.1 ∧ p.1 + p.2.length ≤ xyAddr e inY 0 + 2 ^ 16 := by
  have ha := h.aligned (List.ne_nil_of_mem hp)
  have hlt := slotAddr_lt c (lanes lm).isEmpty sl
  rw [h.bytes_eq hr hw] at hp
  obtain ⟨l, hl, rfl⟩ := List.mem_map.1 hp
  split at hl
  · exact absurd hl List.not_mem_nil
  · obtain ⟨hl4, -, hw3⟩ := mem_storedLanes hl
    have hroom := slot_room hlt ha hw3 (mem_lanes_lt hl4)
    simp only [length_wordBytes, xyAddr]
    omega

end

/-! ### Both slots -/

/-- The word of a slot. -/
def slotWord (f : InstrFields) (inY : Bool) : Nat := if inY then ySlot f else xSlot f

/-- What a slot of an instruction does. -/
def State.slotRes (s : State) (e : Nat) (f : InstrFields) (inY : Bool) : PeRes :=
  slotRun s e (s.core e) f.lmask inY (slotWord f inY)

theorem State.slotRes_does (s : State) (e : Nat) (f : InstrFields) (inY : Bool) :
    SlotDoes s e (s.core e) f.lmask inY (Slot.of (slotWord f inY)) (s.slotRes e f inY) := slotRun_does ..

/-- The writes of the slots, one after the other. -/
theorem State.peWrites_slots (s : State) (e : Nat) (f : InstrFields) :
    (s.peWrites e f true (.ok {})).v = (s.slotRes e f false).writes.v ++ (s.slotRes e f true).writes.v ∧
      (s.peWrites e f true (.ok {})).eng = (s.slotRes e f false).writes.eng ++ (s.slotRes e f true).writes.eng ∧
      (s.peWrites e f true (.ok {})).bytes = (s.slotRes e f false).writes.bytes ++ (s.slotRes e f true).writes.bytes := by
  simp only [State.peWrites, State.slotResults, if_true, List.foldl_cons, List.foldl_nil]
  rw [Writes.both_ofSlot _ (slotRun_does ..).ofSlot, Writes.both_ofSlot _ (slotRun_does ..).ofSlot]
  exact ⟨rfl, rfl, rfl⟩

section
variable (s : State) (e : Nat) (f : InstrFields) (inY : Bool)

theorem State.mem_slots_v {x : Nat × Word} : x ∈ (s.peWrites e f true (.ok {})).v ↔
    x ∈ (s.slotRes e f inY).writes.v ∨ x ∈ (s.slotRes e f (!inY)).writes.v := by
  rw [(s.peWrites_slots e f).1, List.mem_append]
  cases inY
  · rfl
  · exact or_comm

theorem State.mem_slots_eng {x : PeFile × Nat × Nat} : x ∈ (s.peWrites e f true (.ok {})).eng ↔
    x ∈ (s.slotRes e f inY).writes.eng ∨ x ∈ (s.slotRes e f (!inY)).writes.eng := by
  rw [(s.peWrites_slots e f).2.1, List.mem_append]
  cases inY
  · rfl
  · exact or_comm

theorem State.mem_slots_bytes {x : Nat × List Byte} : x ∈ (s.peWrites e f true (.ok {})).bytes ↔
    x ∈ (s.slotRes e f inY).writes.bytes ∨ x ∈ (s.slotRes e f (!inY)).writes.bytes := by
  rw [(s.peWrites_slots e f).2.2, List.mem_append]
  cases inY
  · rfl
  · exact or_comm

end

section
variable {e : Fin 64} {f : InstrFields} {dests : List (PeFile × Nat)} (h : PeClear e f true dests s) (inY : Bool)
include h

theorem PeClear.slotRes_faults : (s.slotRes e f inY).faults = [] := by
  obtain ⟨-, -, hs, -⟩ := h
  refine hs _ ?_
  cases inY
  · exact List.mem_cons_self
  · exact List.mem_cons_of_mem _ List.mem_cons_self

/-- A register that one slot names the other one does not. -/
theorem PeClear.slots_apart {x : PeFile × Nat} (hx : x ∈ slotDests (s.core e) f.lmask (slotWord f inY)) :
    x ∉ slotDests (s.core e) f.lmask (slotWord f (!inY)) := by
  obtain ⟨-, -, -, hd⟩ := h
  have hapart := (hasRepeat_append (hasRepeat_append hd).2).1
  cases inY
  · exact hapart x hx
  · exact fun hy => hapart x hy hx

end

end Sys2Proof.Machine
end

section
/-! SUPPORT. What the memory slots of an instruction leave (R118-R128). -/

namespace Sys2Proof.Machine

variable {s t : State}

/-! ### Memory -/

/-- A word inside what was read. -/
theorem Memory.wordOf_drop_read (m : Memory) (a : Nat) {n k : Nat} (h : k + 4 ≤ n) :
    wordOf ((Memory.read m a n).drop k) = Memory.word m (a + k) := by
  obtain ⟨r, rfl⟩ : ∃ r, n = k + (4 + r) := ⟨n - k - 4, by omega⟩
  rw [Memory.read_add, List.drop_left' (Memory.length_read m a k), Memory.read_add, wordOf,
    List.take_left' (Memory.length_read m (a + k) 4), Memory.word, wordOf,
    List.take_of_length_le (Memory.length_read m (a + k) 4).le]

/-- A word that was written, beside writes that lie apart from it. -/
theorem Memory.word_writes {a : Nat} {w : Word} {l : List (Nat × List Byte)} (m : Memory)
    (h : ∀ p ∈ l, p = (a, wordBytes w) ∨ a + 4 ≤ p.1 ∨ p.1 + p.2.length ≤ a) (hk : (a, wordBytes w) ∈ l) :
    Memory.word (l.foldl (fun m p => Memory.write m p.1 p.2) m) a = w := by
  have hapart : ∀ (l : List (Nat × List Byte)) (m : Memory), (∀ p ∈ l, a + 4 ≤ p.1 ∨ p.1 + p.2.length ≤ a) →
      Memory.word (l.foldl (fun m p => Memory.write m p.1 p.2) m) a = Memory.word m a := by
    intro l
    induction l with
    | nil => exact fun _ _ => rfl
    | cons p l ih =>
      intro m hl
      rw [List.foldl_cons, ih _ fun q hq => hl q (List.mem_cons_of_mem _ hq),
        Memory.word_write_apart _ _ _ _ (hl p List.mem_cons_self)]
  induction l generalizing m with
  | nil => exact absurd hk List.not_mem_nil
  | cons p l ih =>
    rw [List.foldl_cons]
    by_cases hl : (a, wordBytes w) ∈ l
    · exact ih _ (fun q hq => h q (List.mem_cons_of_mem _ hq)) hl
    · obtain rfl : (a, wordBytes w) = p := (List.mem_cons.1 hk).resolve_right hl
      rw [hapart _ _ fun q hq => (h q (List.mem_cons_of_mem _ hq)).resolve_left fun he => hl (he ▸ hq), Memory.word_write_same]

/-! ### The instruction -/

theorem Slot.width_lt (w : Nat) : (Slot.of w).width < 4 := Nat.mod_lt _ (by decide)

/-- The words that a load moves, by the lane's place in the access. -/
theorem loadWrites_eq (ls : List Nat) {sl : Slot} (hw : sl.width < 3) (bs : List Byte) :
    loadWrites ls sl bs = ls.map (fun l => (l * 16 + sl.vreg, wordOf (bs.drop (laneOff sl.width l)))) := by
  have hwidth : sl.width = 0 ∨ sl.width = 1 ∨ sl.width = 2 := by omega
  unfold loadWrites
  refine List.map_congr_left fun l _ => ?_
  rcases hwidth with hw | hw | hw <;> simp only [hw, laneOff, Nat.mul_comm]

theorem laneOff_room {w l : Nat} (hw : w < 3) (hl : l < 4) : laneOff w l + 4 ≤ widthBytes w := by
  have hwidth : w = 0 ∨ w = 1 ∨ w = 2 := by omega
  rcases hwidth with rfl | rfl | rfl <;> simp only [widthBytes, laneOff] <;> omega

section
variable {e : Fin 64} {f : InstrFields} {dests : List (PeFile × Nat)} (h : PeClear e f true dests s)
  (hI : InstrDone e (s.peWrites e f true (.ok {})) s t) (inY : Bool)
include h hI

/-- A load puts the words of memory into its register of the enabled lanes (R121). -/
theorem PeClear.slot_load (h7 : (Slot.of (slotWord f inY)).am ≠ 7) (hst : (Slot.of (slotWord f inY)).store = false)
    (hw : (Slot.of (slotWord f inY)).width < 3) {l : Nat} (hl : l ∈ lanes f.lmask) :
    (t.core e).vr l (Slot.of (slotWord f inY)).vreg =
      s.word (xyAddr e inY (slotAddr (s.core e) (lanes f.lmask).isEmpty (Slot.of (slotWord f inY))).1 +
        laneOff (Slot.of (slotWord f inY)).width l) := by
  obtain ⟨hv, hname⟩ := (s.slotRes_does e f inY).v_eq (h.slotRes_faults inY) h7 hst hw hl
  have hreg := Slot.vreg_lt (slotWord f inY)
  generalize hsl : Slot.of (slotWord f inY) = sl at *
  rw [loadWrites_eq _ hw] at hv
  obtain ⟨z, hz, hzk⟩ : ∃ z ∈ (s.slotRes e f inY).writes.v, z.1 = l * 16 + sl.vreg := by
    rw [hv]
    exact ⟨_, List.mem_map_of_mem hl, rfl⟩
  rw [hI.vr]
  refine SMap.find_writes_eq _ _ _ _ _ (fun y hy he => ?_) ⟨z, (s.mem_slots_v e f inY).2 (.inl hz), hzk⟩
  rcases (s.mem_slots_v e f inY).1 hy with hy | hy
  · rw [hv] at hy
    obtain ⟨k, hk, rfl⟩ := List.mem_map.1 hy
    obtain rfl : k = l := by dsimp only at he; omega
    exact Memory.wordOf_drop_read s.mem _ (laneOff_room hw (mem_lanes_lt hk))
  · obtain ⟨k, -, hyk, hother⟩ := (s.slotRes_does e f (!inY)).mem_v hy
    have hreg' := Slot.vreg_lt (slotWord f (!inY))
    have hvr : (Slot.of (slotWord f (!inY))).vreg = sl.vreg := by omega
    rw [hvr] at hother
    subst hsl
    exact absurd hother (h.slots_apart inY hname)

/-- A slot makes its step; the other slot leaves its register (R125, R126). -/
theorem PeClear.slot_step (h7 : (Slot.of (slotWord f inY)).am ≠ 7) {file : PeFile} {n v : Nat} (hf : file = .a ∨ file = .o)
    (hstep : (slotAddr (s.core e) (lanes f.lmask).isEmpty (Slot.of (slotWord f inY))).2 = [(file, n, v)]) :
    (t.core e).engReg 0 file n = v % 2 ^ 16 := by
  have heng := (s.slotRes_does e f inY).eng_eq (h.slotRes_faults inY) h7
  rw [hstep] at heng
  have hname : (file, n) ∈ slotDests (s.core e) f.lmask (slotWord f inY) := by
    refine List.mem_append_left _ ?_
    rw [hstep]
    exact List.mem_singleton_self _
  have hbits : fileBits file = 16 := by rcases hf with rfl | rfl <;> rfl
  rw [hI.addressing 0 n (hf.imp_right .inr), ← hbits]
  refine PeCore.engReg_apply_eq _ _ (hf.imp_right fun h => .inr (.inl h)) _ _ _ (fun x hx he => ?_)
    ⟨(file, n, v), (s.mem_slots_eng e f inY).2 (.inl (by rw [heng]; exact List.mem_singleton_self _)), rfl⟩
  rcases (s.mem_slots_eng e f inY).1 hx with hx | hx
  · rw [heng] at hx
    rw [List.mem_singleton.1 hx]
  · have hother := ((s.slotRes_does e f (!inY)).mem_eng hx).2
    rw [he] at hother
    exact absurd hother (h.slots_apart inY hname)

/-- A store puts its words into memory; the other slot and the other lanes store elsewhere (R121, R122). -/
theorem PeClear.slot_store (h7 : (Slot.of (slotWord f inY)).am ≠ 7) {l : Nat}
    (hl : l ∈ storedLanes f.lmask (Slot.of (slotWord f inY))) :
    t.word (xyAddr e inY (slotAddr (s.core e) (lanes f.lmask).isEmpty (Slot.of (slotWord f inY))).1 +
      laneOff (Slot.of (slotWord f inY)).width l) = (s.core e).vr l (Slot.of (slotWord f inY)).vreg := by
  have hw := Slot.width_lt (slotWord f inY)
  have hD := s.slotRes_does e f inY
  have hr := h.slotRes_faults inY
  have hb := hD.bytes_eq hr hw
  rw [if_neg h7] at hb
  have hin := List.mem_map_of_mem (f := fun l =>
    (xyAddr e inY (slotAddr (s.core e) (lanes f.lmask).isEmpty (Slot.of (slotWord f inY))).1 +
      laneOff (Slot.of (slotWord f inY)).width l, wordBytes ((s.core e).vr l (Slot.of (slotWord f inY)).vreg))) hl
  rw [← hb] at hin
  have hmine := hD.bytes_within hr hw hin
  rw [State.word, hI.mem]
  refine Memory.word_writes _ (fun p hp => ?_) ((s.mem_slots_bytes e f inY).2 (.inl hin))
  rcases (s.mem_slots_bytes e f inY).1 hp with hp | hp
  · rw [hb] at hp
    obtain ⟨k, hk, rfl⟩ := List.mem_map.1 hp
    rcases laneOff_apart hl hk with rfl | hap | hap
    · exact .inl rfl
    · exact .inr (.inl (by dsimp only; omega))
    · exact .inr (.inr (by rw [length_wordBytes]; omega))
  · have hother := (s.slotRes_does e f (!inY)).bytes_within (h.slotRes_faults (!inY)) (Slot.width_lt _) hp
    rw [length_wordBytes] at hmine
    right
    cases inY <;> simp only [xyAddr, Bool.not_false, Bool.not_true, if_true, if_false, Bool.false_eq_true] at hmine hother ⊢ <;>
      omega

/-! ### Beside a slot that is not used -/

section
variable (ho : (Slot.of (slotWord f (!inY))).am = 7)
include ho

omit hI in
theorem PeClear.other_unused : (s.slotRes e f (!inY)).writes = {} :=
  (s.slotRes_does e f (!inY)).unused_writes (h.slotRes_faults (!inY)) ho

/-- Only the stored words change. -/
theorem PeClear.slot_bytes (h7 : (Slot.of (slotWord f inY)).am ≠ 7) {x : Nat}
    (hx : ∀ l ∈ storedLanes f.lmask (Slot.of (slotWord f inY)),
      x < xyAddr e inY (slotAddr (s.core e) (lanes f.lmask).isEmpty (Slot.of (slotWord f inY))).1 +
          laneOff (Slot.of (slotWord f inY)).width l ∨
        xyAddr e inY (slotAddr (s.core e) (lanes f.lmask).isEmpty (Slot.of (slotWord f inY))).1 +
          laneOff (Slot.of (slotWord f inY)).width l + 4 ≤ x) : Memory.byte t.mem x = Memory.byte s.mem x := by
  rw [hI.mem]
  refine Memory.byte_writes _ _ _ fun p hp => ?_
  rcases (s.mem_slots_bytes e f inY).1 hp with hp | hp
  · rw [(s.slotRes_does e f inY).bytes_eq (h.slotRes_faults inY) (Slot.width_lt _), if_neg h7] at hp
    obtain ⟨l, hl, rfl⟩ := List.mem_map.1 hp
    rw [length_wordBytes]
    exact hx l hl
  · rw [h.other_unused inY ho] at hp
    exact absurd hp List.not_mem_nil

/-- Nothing is stored without a lane that stores. -/
theorem PeClear.slot_mem (h7 : (Slot.of (slotWord f inY)).am ≠ 7)
    (hno : storedLanes f.lmask (Slot.of (slotWord f inY)) = []) : t.mem = s.mem := by
  have hnil : (s.peWrites e f true (.ok {})).bytes = [] := by
    refine List.eq_nil_iff_forall_not_mem.2 fun p hp => ?_
    rcases (s.mem_slots_bytes e f inY).1 hp with hp | hp
    · rw [(s.slotRes_does e f inY).bytes_eq (h.slotRes_faults inY) (Slot.width_lt _), if_neg h7, hno] at hp
      exact absurd hp List.not_mem_nil
    · rw [h.other_unused inY ho] at hp
      exact absurd hp List.not_mem_nil
  rw [hI.mem, hnil]
  rfl

/-- An address register that no slot steps stays. -/
theorem PeClear.slot_keeps_ar (h7 : (Slot.of (slotWord f inY)).am ≠ 7)
    (hno : ∀ x ∈ (slotAddr (s.core e) (lanes f.lmask).isEmpty (Slot.of (slotWord f inY))).2, x.1 ≠ .a) (n : Nat) :
    (t.core e).ar n = (s.core e).ar n := by
  refine (hI.addressing 0 n (.inl rfl)).trans (PeCore.engReg_apply_ne _ _ (.inl rfl) 0 n fun x hx he => ?_)
  rcases (s.mem_slots_eng e f inY).1 hx with hx | hx
  · rw [(s.slotRes_does e f inY).eng_eq (h.slotRes_faults inY) h7] at hx
    exact hno x hx (congrArg Prod.fst he)
  · rw [h.other_unused inY ho] at hx
    exact absurd hx List.not_mem_nil

end

end

end Sys2Proof.Machine
end

section
/-! SUPPORT. The step of a slot by its address mode (R118, R125, R126, R128). -/

namespace Sys2Proof.Machine

variable {s t : State}

theorem slotQ_eq (lm : BitVec 4) (w : Nat) : slotQ (lanes lm).isEmpty w = if lm = 0 ∨ 2 ≤ w then 4 else 2 + w := by
  unfold slotQ
  by_cases h0 : lm = 0
  · rw [if_pos (lanes_isEmpty_iff.2 h0), if_pos (Or.inl h0)]
  · rw [if_neg (fun h => h0 (lanes_isEmpty_iff.1 h))]
    match w with
    | 0 => exact (if_neg (fun h => h.elim h0 (by decide))).symm
    | 1 => exact (if_neg (fun h => h.elim h0 (by decide))).symm
    | n + 2 => exact (if_pos (Or.inr (Nat.le_add_left 2 n))).symm

theorem slotQ_le (idle : Bool) (w : Nat) : slotQ idle w ≤ 16 := by
  unfold slotQ
  split
  · decide
  · split <;> decide

section
variable {c : PeCore} {idle : Bool} {sl : Slot}

theorem slotAddr_linear (h : sl.am = 1 ∨ (sl.am = 2 ∧ c.lenOf sl.mreg = 0)) :
    (slotAddr c idle sl).2 = [(.a, sl.areg, lowInt 16 (c.ar sl.areg + c.stepOf sl.mreg))] := by
  rcases h with h | ⟨h, h0⟩
  · simp only [slotAddr, h]
  · simp only [slotAddr, h, h0, if_true]

theorem slotAddr_modulo (h : sl.am = 2) (h0 : c.lenOf sl.mreg ≠ 0) : (slotAddr c idle sl).2 =
    [(.a, sl.areg, wrapIn (c.ar sl.areg) (c.lenOf sl.mreg) (c.stepOf sl.mreg) % 2 ^ 16)] := by
  simp only [slotAddr, h, h0, if_false]

theorem slotAddr_reversed (h : sl.am = 3) : (slotAddr c idle sl).2 =
    [(.a, sl.areg, revStep (c.ar sl.areg) (slotQ idle sl.width) (c.stepOf sl.mreg))] := by
  simp only [slotAddr, h]

theorem slotAddr_offset (h : sl.am = 4) : (slotAddr c idle sl).2 = [(.o, sl.mreg % 4,
    if c.lenOf sl.mreg = 0 then lowInt 16 ((SMap.find 0 c.o (sl.mreg % 4)).toNat + c.stepOf sl.mreg)
      else (((SMap.find 0 c.o (sl.mreg % 4)).toNat + c.stepOf sl.mreg) % (c.lenOf sl.mreg : Int)).toNat)] := by
  simp only [slotAddr, h]
  split <;> rfl

theorem slotAddr_still (h : sl.am = 0 ∨ sl.am = 4) : ∀ x ∈ (slotAddr c idle sl).2, x.1 ≠ .a := by
  rcases h with h | h
  · simp only [slotAddr, h]
    exact fun _ hx => absurd hx List.not_mem_nil
  · rw [slotAddr_offset h]
    intro x hx
    rw [List.mem_singleton.1 hx]
    exact PeFile.noConfusion

end

section
variable {e : Fin 64} {f : InstrFields} {dests : List (PeFile × Nat)} (h : PeClear e f true dests s)
  (hI : InstrDone e (s.peWrites e f true (.ok {})) s t) (inY : Bool) (h7 : (Slot.of (slotWord f inY)).am ≠ 7)
include h hI h7

/-- What a slot makes of its address register or its offset register. -/
theorem PeClear.slot_steps : SlotSteps e f (Slot.of (slotWord f inY)) s t := by
  have hstep := fun {file n v} => h.slot_step hI inY h7 (file := file) (n := n) (v := v)
  generalize Slot.of (slotWord f inY) = sl at *
  refine ⟨fun hm => ?_, fun hm h0 i hi => ?_, fun hm => ?_, fun hm => ?_⟩
  · exact (hstep (.inl rfl) (slotAddr_linear hm)).trans (Nat.mod_eq_of_lt (lowInt_lt 16 _))
  · exact (hstep (.inl rfl) (slotAddr_modulo hm h0)).trans (by
      rw [Nat.mod_mod, wrapIn_eq ((s.core e).ar_lt _) ((s.core e).lenOf_lt _) h0 hi])
  · obtain ⟨hrev, hlow, hlt⟩ := revStep_eq (a := (s.core e).ar sl.areg)
      (slotQ_le (lanes f.lmask).isEmpty sl.width) ((s.core e).stepOf sl.mreg)
    have har : (t.core e).ar sl.areg = _ := (hstep (.inl rfl) (slotAddr_reversed hm)).trans (Nat.mod_eq_of_lt hlt)
    rw [har, ← slotQ_eq]
    exact ⟨hrev, hlow⟩
  · refine (hstep (.inr rfl) (slotAddr_offset hm)).trans (Nat.mod_eq_of_lt ?_)
    have hlen := (s.core e).lenOf_lt sl.mreg
    split
    · exact lowInt_lt 16 _
    · have := Int.emod_lt_of_pos ((SMap.find 0 (s.core e).o (sl.mreg % 4)).toNat + (s.core e).stepOf sl.mreg : Int)
        (show (0 : Int) < (s.core e).lenOf sl.mreg by omega)
      omega

end

end Sys2Proof.Machine
end

section
/-! Memory slots. -/

open Sys2Proof Sys2Proof.Machine

/-- Settles O17: what one slot moves and steps, beside whatever the other one does. -/
theorem memorySlots : Obligations.MemorySlots := by
  refine ⟨?frame, ?slot⟩
  case frame =>
    intro e f s h
    exact ⟨_, rfl, (h.issue_done (op := fun _ => .ok {}) rfl rfl).peFrame (OfControl_nop.within _)⟩
  case slot =>
    intro e f s inY sl ea h hsl h7 hA
    have hI := h.issue_done (op := fun _ => .ok {}) rfl rfl
    obtain rfl : Slot.of (slotWord f inY) = sl := hsl
    have hea := hA.eq (lanes f.lmask).isEmpty
    refine ⟨_, rfl, ⟨fun hst hw l hl hf => ?_, fun l hl => ?_⟩, h.slot_steps hI inY h7, fun ho => ?_⟩
    · rw [← hea]
      exact h.slot_load hI inY h7 hst hw (mem_lanes_iff.2 ⟨hl, hf⟩)
    · rw [← hea]
      exact h.slot_store hI inY h7 hl
    · have ho' : (Slot.of (slotWord f (!inY))).am = 7 := by cases inY <;> exact ho
      refine ⟨fun hm => h.slot_keeps_ar hI inY ho' h7 (slotAddr_still hm) _, h.slot_mem hI inY ho' h7, fun x hx => ?_⟩
      refine h.slot_bytes hI inY ho' h7 fun l hl => ?_
      rw [hea]
      exact hx l hl

end

section
/-! SUPPORT. What the sequencer changes at the end of a task (R172, R181-R183, R193, R198). -/

namespace Sys2Proof.Machine

variable {R : Nat → Bool} {P : List Part} {s t u : State}

/-- The frames that allow a step of the sequencer: they name its registers, its part, and an event. -/
def AllowsSeq (R : Nat → Bool) (P : List Part) : Prop :=
  AllowsEvents R P ∧ (∀ a, seqRegs a = true → R a = true) ∧ Part.seq ∈ P

/-- The frames that allow a substitution: they name the bus and vat memory besides. -/
def AllowsCopy (R : Nat → Bool) (P : List Part) : Prop :=
  AllowsSeq R P ∧ (∀ a, busRegs a = true → R a = true) ∧ Part.mem ∈ P ∧ Part.ecc ∈ P

theorem AllowsSeq.reg (h : AllowsSeq R P) {a : Nat} (ha : seqRegs a = true) : R a = true := h.2.1 a ha

theorem Frame.updTask (h : Frame R P s t) (hS : AllowsSeq R P) (p k : Nat) (f : Task → Task) : Frame R P s (t.updTask p k f) :=
  h.seq hS.2.2 _

theorem Frame.syncTasks (h : Frame R P s t) (hS : AllowsSeq R P) : Frame R P s t.syncTasks :=
  ((h.setFld _ _ _ (hS.reg (by decide))).setFld _ _ _ (hS.reg (by decide))).setBit _ _ _ (hS.reg (by decide))

theorem Frame.decTask (h : Frame R P s t) (hS : AllowsSeq R P) (p k : Nat) : Frame R P s (t.decTask p k) := by
  unfold State.decTask
  split
  · exact h
  · exact .ite (h.raiseN hS.1 208 _ (by decide)) (h.updTask hS _ _ _)

theorem Frame.succCheck (h : Frame R P s t) (hS : AllowsSeq R P) (k owner : Nat) (feed : Bool) (l : List Nat) :
    Frame R P s (t.succCheck k owner feed l) := by
  unfold State.succCheck
  exact .ite (h.raiseOnce hS.1 _ _ 208 _ (by decide)) h

theorem Frame.finTask (h : Frame R P s t) (hS : AllowsSeq R P) (p k : Nat) : Frame R P s (t.finTask p k) := by
  unfold State.finTask
  extract_lets l s1
  have h1 : Frame R P s s1 := .foldl _ _ (h.succCheck hS _ _ _ _) fun u q _ hu => hu.decTask hS q k
  exact .ite (h1.decTask hS _ _) h1

theorem Frame.completeTask (h : Frame R P s t) (hS : AllowsSeq R P) (p k : Nat) (st : TaskState) (digest : BitVec 64) :
    Frame R P s (t.completeTask p k st digest) := by
  unfold State.completeTask
  split
  · exact h
  · extract_lets s1 _ s2 s3
    have h1 : Frame R P s s1 := h.updTask hS _ _ _
    have h2 : Frame R P s s2 := h1.seq hS.2.2 _
    have h3 : Frame R P s s3 := .ite (h2.countHold _ _ (hS.reg (by decide))) h2
    exact .ite (((h3.finTask hS p k).syncTasks hS).noEngine hS.1) h

/-! ### Substitution -/

/-- Steps that hand on an answer besides the state. -/
theorem Frame.foldl_snd {α β : Type} (f : β × State → α → β × State) (l : List α) {r : β × State} (h : Frame R P s r.2)
    (hf : ∀ r x, Frame R P s r.2 → Frame R P s (f r x).2) : Frame R P s (l.foldl f r).2 := by
  induction l generalizing r with
  | nil => exact h
  | cons x l ih => exact ih (hf r x h)

section
variable (hC : AllowsCopy R P)
include hC

theorem AllowsCopy.bus : AllowsBus R P := ⟨hC.1.1, hC.2.1⟩

theorem Frame.unitErr (h : Frame R P s t) (code addr : Nat) (write : Bool) : Frame R P s (t.unitErr code addr write) :=
  (h.holdTags 1 hC.bus.inflight).xbarErr hC.bus _ _ _ _

theorem Frame.unitRead (h : Frame R P s t) (code addr n : Nat) : Frame R P s (t.unitRead code addr n).2 := by
  unfold State.unitRead
  split
  · exact (h.holdTags _ hC.bus.inflight).vatRead hC.bus _ _ _
  · exact h.unitErr hC _ _ _

theorem Frame.vatPut (h : Frame R P s t) (code addr : Nat) (bs : List Byte) : Frame R P s (t.vatPut code addr bs).2 := by
  obtain ⟨-, -, hm, he⟩ := id hC
  unfold State.vatPut
  dsimp only
  split
  · exact h.xbarErr hC.bus _ _ _ _
  · split
    · exact ((h.vatCorrs hC.bus _).vatUncorr hC.bus _ _).xbarErr hC.bus _ _ _ _
    · exact ((h.vatCorrs hC.bus _).write hm _ _).eccClearW he _ _ _

theorem Frame.unitWrite (h : Frame R P s t) (code addr : Nat) (bs : List Byte) : Frame R P s (t.unitWrite code addr bs).2 := by
  unfold State.unitWrite
  split
  · exact .foldl_snd _ _ (h.holdTags _ hC.bus.inflight) fun r p hr => hr.vatPut hC _ _ _
  · exact h.unitErr hC _ _ _

theorem Frame.seqCopyOut (h : Frame R P s t) (src dst n : Nat) : Frame R P s (t.seqCopyOut src dst n).2 := by
  unfold State.seqCopyOut
  split
  · exact h
  · dsimp only
    split
    · exact h.unitRead hC _ _ _
    · exact (h.unitRead hC _ _ _).unitWrite hC _ _ _

theorem Frame.substitute (h : Frame R P s t) (p k : Nat) : Frame R P s (t.substitute p k) := by
  unfold State.substitute
  extract_lets n dst start r c s1 _ s2
  have h1 : Frame R P s s1 := (h.seqCopyOut hC _ _ _).countHold _ _ (hC.1.reg (by decide))
  clear_value s1
  have h2 : Frame R P s s2 := (h1.seq hC.1.2.2 _).updTask hC.1 _ _ _
  exact (h2.finTask hC.1 p k).syncTasks hC.1

theorem Frame.failTask (h : Frame R P s t) (p k : Nat) (st : TaskState) : Frame R P s (t.failTask p k st) := by
  unfold State.failTask
  split
  · exact h
  · exact .ite (((h.substitute hC p k).raiseN hC.1.1 206 _ (by decide)).noEngine hC.1.1) h

end

end Sys2Proof.Machine
end

section
/-! SUPPORT. How an engine leaves its task (R146-R148, R151, R157, R183). -/

namespace Sys2Proof.Machine

variable {s t u : State} {e : Fin 64}

/-- The registers of an engine are none of an event, of the sequencer or of the bus. -/
theorem peBlock_apart {a : Nat} (h : peBlock e a = true) : eventReg a = false ∧ seqRegs a = false ∧ busRegs a = false := by
  refine ⟨eventReg_of_peBlock h, ?_, ?_⟩
  all_goals
    rw [peBlock, inRange_iff] at h
    unfold Reg.PE_CTRL at h
    rw [← Bool.not_eq_true]
  · rw [seqRegs, inRange_iff]
    unfold Reg.SEQ_CTRL
    omega
  · rw [busRegs, inRange_iff]
    unfold Reg.XBAR_INFLIGHT
    omega

theorem peBlock_of_offset {k : Nat} (h : k < 0x100) : peBlock e (Reg.PE_CTRL e + k) = true :=
  inRange_iff.2 ⟨Nat.le_add_right _ _, Nat.add_lt_add_left h _⟩

theorem peBlock_ctrl : peBlock e (Reg.PE_CTRL e) = true := by
  rw [peBlock, inRange_iff]
  omega

theorem peBlock_tasks : peBlock e (Reg.PE_TASKS e) = true := by
  have := peBlock_of_offset (e := e) (k := 0x20) (by decide)
  rwa [show Reg.PE_CTRL e + 0x20 = Reg.PE_TASKS e by unfold Reg.PE_CTRL Reg.PE_TASKS; omega] at this

theorem peBlock_digest : peBlock e (Reg.PE_DIGEST e) = true ∧ peBlock e (Reg.PE_DIGEST e + 4) = true := by
  have h0 := peBlock_of_offset (e := e) (k := 0x30) (by decide)
  have h4 := peBlock_of_offset (e := e) (k := 0x34) (by decide)
  rw [show Reg.PE_CTRL e + 0x30 = Reg.PE_DIGEST e by unfold Reg.PE_CTRL Reg.PE_DIGEST; omega] at h0
  rw [show Reg.PE_CTRL e + 0x34 = Reg.PE_DIGEST e + 4 by unfold Reg.PE_CTRL Reg.PE_DIGEST; omega] at h4
  exact ⟨h0, h4⟩

theorem peCtrl_apart (e : Nat) : Reg.PE_CTRL e ≠ Reg.PE_STATUS e ∧ fetchRegs e (Reg.PE_CTRL e) = false := by
  simp only [fetchRegs, Reg.PE_CTRL, Reg.PE_STATUS, Reg.PE_ECC_COUNT, Reg.PE_CYCLES, Bool.or_eq_false_iff, beq_eq_false_iff_ne]
  omega

/-! ### The state that an engine falls back to -/

/-- The state of an engine at rest: IDLE with ENABLE, else OFFLINE (R148). -/
def State.restState (s : State) (e : Nat) : Nat := if s.bit (Reg.PE_CTRL e) Fld.PE_CTRL_ENABLE then 1 else 0

theorem State.restState_congr {e : Nat} (h : t.reg (Reg.PE_CTRL e) = s.reg (Reg.PE_CTRL e)) : t.restState e = s.restState e := by
  rw [State.restState, State.restState, State.bit_congr h]

/-- An engine at rest, with no task. -/
def State.peIdle (s : State) (e : Nat) : State := (s.peRest e).peFree e

theorem State.peState_peRest (s : State) (e : Nat) : (s.peRest e).peState e = s.restState e := by
  rw [State.peRest, State.peState, State.setPeState, State.fld_setFld_same _ _ _ _ (by decide), State.restState]
  split <;> rfl

theorem State.peState_peIdle (s : State) (e : Nat) : (s.peIdle e).peState e = s.restState e := by
  rw [State.peIdle, State.peFree, State.peState_setCore, State.peState_peRest]

theorem State.peRest_frame (s : State) (e : Nat) : Frame (fun a => a == Reg.PE_STATUS e) [] s (s.peRest e) :=
  Frame.refl.setFld _ _ _ (by simp)

theorem State.peIdle_frame (s : State) (e : Nat) : Frame (fun a => a == Reg.PE_STATUS e) [.pe] s (s.peIdle e) :=
  ((s.peRest_frame e).mono (fun _ h => h) (by simp)).setCore (by simp) _ _

theorem State.core_peIdle (s : State) (e : Nat) : (s.peIdle e).core e = { s.core e with task := none } := by
  rw [State.peIdle, State.peFree, State.core_setCore, if_pos rfl, (s.peRest_frame e).core_eq (by simp)]

/-! ### Completion -/

/-- What a completion writes of its engine before the sequencer is told (R146, R147). -/
def State.peEnded (s : State) (e : Nat) (d : BitVec 64) : State :=
  let s1 := s.setReg64 (Reg.PE_DIGEST e) d.toNat
  (s1.setRegN (Reg.PE_TASKS e) (s1.regN (Reg.PE_TASKS e) + 1)).peIdle e

theorem peEnded_apart (e : Nat) : Reg.PE_DIGEST e ≠ Reg.PE_TASKS e ∧ Reg.PE_DIGEST e + 4 ≠ Reg.PE_TASKS e ∧
    Reg.PE_DIGEST e ≠ Reg.PE_STATUS e ∧ Reg.PE_DIGEST e + 4 ≠ Reg.PE_STATUS e ∧ Reg.PE_TASKS e ≠ Reg.PE_STATUS e ∧
    Reg.PE_DIGEST e ≠ Reg.PE_CTRL e ∧ Reg.PE_DIGEST e + 4 ≠ Reg.PE_CTRL e ∧ Reg.PE_TASKS e ≠ Reg.PE_CTRL e := by
  unfold Reg.PE_DIGEST Reg.PE_TASKS Reg.PE_STATUS Reg.PE_CTRL
  omega

theorem State.reg_peIdle (s : State) {e a : Nat} (h : a ≠ Reg.PE_STATUS e) : (s.peIdle e).reg a = s.reg a :=
  (s.peIdle_frame e).1 a (by simpa using h)

theorem State.peEnded_tasks (s : State) (e : Nat) (d : BitVec 64) :
    (s.peEnded e d).regN (Reg.PE_TASKS e) = (s.regN (Reg.PE_TASKS e) + 1) % 2 ^ 32 := by
  obtain ⟨h1, h2, -, -, h5, -⟩ := peEnded_apart e
  rw [State.peEnded, State.regN, State.reg_peIdle _ h5, State.reg_setRegN, if_pos rfl, State.regN, State.reg_setReg64, if_neg h2,
    if_neg h1, BitVec.toNat_ofNat, ← State.regN]

theorem State.peEnded_digest (s : State) (e : Nat) (d : BitVec 64) : (s.peEnded e d).reg64 (Reg.PE_DIGEST e) = d.toNat := by
  obtain ⟨h1, h2, h3, h4, -⟩ := peEnded_apart e
  rw [State.peEnded, State.reg64_congr (State.reg_peIdle _ h3) (State.reg_peIdle _ h4),
    State.reg64_congr (s := s.setReg64 (Reg.PE_DIGEST e) d.toNat), State.reg64_setReg64 _ _ _ d.isLt]
  · rw [State.reg_setRegN, if_neg h1.symm]
  · rw [State.reg_setRegN, if_neg h2.symm]

theorem State.peEnded_state (s : State) (e : Nat) (d : BitVec 64) : (s.peEnded e d).peState e = s.restState e := by
  obtain ⟨-, -, -, -, -, h6, h7, h8⟩ := peEnded_apart e
  rw [State.peEnded, State.peState_peIdle]
  refine State.restState_congr ?_
  rw [State.reg_setRegN, if_neg h8, State.reg_setReg64, if_neg h7, if_neg h6]

theorem State.peEnded_frame (s : State) (e : Fin 64) (d : BitVec 64) : Frame (peBlock e) [.pe] s (s.peEnded e d) := by
  obtain ⟨h0, h4⟩ := peBlock_digest (e := e)
  have h1 : Frame (peBlock e) [.pe] s (s.setReg64 (Reg.PE_DIGEST e) d.toNat) := Frame.refl.setReg64 _ _ h0 h4
  exact (h1.setRegN _ _ peBlock_tasks).trans ((State.peIdle_frame _ _).mono (fun a ha => by
    rw [beq_iff_eq] at ha
    rw [ha, peBlock_status]) (fun _ h => h))

theorem State.peEnded_task (s : State) (e : Fin 64) (d : BitVec 64) : ((s.peEnded e d).core e).task = none := by
  rw [State.peEnded, State.core_peIdle]

/-- The digest of a task: the complement of the CRC where it has put data (R147). -/
def PeCore.digest (c : PeCore) : BitVec 64 := if c.puts then ~~~c.crc else 0

theorem State.peDone_frame (h2 : s.peState e = 2) (hend : (s.core e).ended = true) (hx : (s.core e).xfers = []) :
    FrameEv seqRegs [.seq] ((s.peUnstall e).peEnded e (s.core e).digest) (s.peDone e) := by
  have hS : AllowsSeq (fun a => eventReg a || seqRegs a) [.events, .seq] :=
    ⟨AllowsEvents.ev _ _, fun a ha => by simp [ha], by simp⟩
  rw [State.peDone, if_pos ⟨h2, hend, hx⟩]
  dsimp only
  split
  · exact Frame.noEngine (Frame.completeTask .refl hS _ _ _ _) hS.1
  · exact Frame.noEngine .refl hS.1

/-- A completion leaves its digest, its count and the engine at rest (R146, R147). -/
theorem State.peDone_leaves (h2 : s.peState e = 2) (hend : (s.core e).ended = true) (hx : (s.core e).xfers = []) :
    (s.peDone e).peState e = s.restState e ∧ ((s.peDone e).core e).task = none ∧
      (s.peDone e).reg64 (Reg.PE_DIGEST e) = (s.core e).digest.toNat ∧
      (s.peDone e).regN (Reg.PE_TASKS e) = (s.regN (Reg.PE_TASKS e) + 1) % 2 ^ 32 ∧ (s.peDone e).mem = s.mem ∧
      FrameEv (fun a => peBlock e a || seqRegs a) [.pe, .seq] s (s.peDone e) := by
  obtain ⟨-, -, hu⟩ := s.peUnstall_leaves e
  have hD := State.peDone_frame h2 hend hx
  have hE := (s.peUnstall e).peEnded_frame e (s.core e).digest
  have hreg : ∀ a, peBlock e a = true → (s.peDone e).reg a = ((s.peUnstall e).peEnded e (s.core e).digest).reg a := fun a ha => by
    obtain ⟨h1, h2, -⟩ := peBlock_apart ha
    exact hD.1 a (Bool.or_eq_false_iff.2 ⟨h1, h2⟩)
  obtain ⟨d0, d4⟩ := peBlock_digest (e := e)
  have hctrl : (s.peUnstall e).reg (Reg.PE_CTRL e) = s.reg (Reg.PE_CTRL e) :=
    hu.1.1 _ (Bool.or_eq_false_iff.2 ⟨eventReg_of_peBlock peBlock_ctrl, (peCtrl_apart e).2⟩)
  have htasks : (s.peUnstall e).reg (Reg.PE_TASKS e) = s.reg (Reg.PE_TASKS e) := by
    refine hu.1.1 _ (Bool.or_eq_false_iff.2 ⟨eventReg_of_peBlock peBlock_tasks, ?_⟩)
    simp only [fetchRegs, Reg.PE_TASKS, Reg.PE_ECC_COUNT, Reg.PE_CYCLES, Bool.or_eq_false_iff, beq_eq_false_iff_ne]
    omega
  have hF : FrameEv (peBlock e) [.pe] s (s.peUnstall e) := hu.1.mono (fun a ha => by
    rw [Bool.or_eq_true] at ha ⊢
    exact ha.imp_right fetchRegs_peBlock) (fun _ h => h)
  refine ⟨?_, ?_, ?_, ?_, ?_, ?_⟩
  · rw [State.peState, State.fld_congr (hreg _ (peBlock_status e)), ← State.peState, State.peEnded_state, State.restState_congr hctrl]
  · rw [Frame.core_eq hD (by simp), State.peEnded_task]
  · rw [State.reg64_congr (hreg _ d0) (hreg _ d4), State.peEnded_digest]
  · rw [State.regN, hreg _ peBlock_tasks, ← State.regN, State.peEnded_tasks, State.regN, htasks, ← State.regN]
  · exact ((hD.2 .mem (by simp)).trans (hE.2 .mem (by simp))).trans (hu.1.2 .mem (by simp))
  · have hB : FrameEv (peBlock e) [.pe] s ((s.peUnstall e).peEnded e (s.core e).digest) :=
      hF.trans (hE.mono (fun a h => by simp [h]) (by simp))
    exact (hB.widen (fun a h => by simp [h]) (by simp)).trans (hD.widen (fun a h => by simp [h]) (by simp))

/-! ### A task given up -/

/-- What an engine that gives its task up leaves, once it is at rest (R148, R183). -/
structure GivesUp (e : Fin 64) (s u t : State) : Prop where
  state : t.peState e = u.peState e
  core  : t.core e = u.core e
  mem   : (s.core e).task = none → t.mem = u.mem
  frame : FrameEv (fun a => seqRegs a || busRegs a) [.seq, .mem, .ecc] u t

theorem GivesUp.of_frame (hF : FrameEv (fun a => seqRegs a || busRegs a) [.seq, .mem, .ecc] u t)
    (hm : (s.core e).task = none → t.mem = u.mem) : GivesUp e s u t where
  state := State.fld_congr (hF.1 _ (by
    obtain ⟨h1, h2, h3⟩ := peBlock_apart (peBlock_status e)
    exact Bool.or_eq_false_iff.2 ⟨h1, Bool.or_eq_false_iff.2 ⟨h2, h3⟩⟩)) _
  core := Frame.core_eq hF (by simp) _
  mem := hm
  frame := hF

theorem allowsCopy_ev : AllowsCopy (fun a => eventReg a || (seqRegs a || busRegs a)) [.events, .seq, .mem, .ecc] :=
  ⟨⟨AllowsEvents.ev _ _, fun a ha => by simp [ha], by simp⟩, fun a ha => by simp [ha], by simp, by simp⟩

theorem GivesUp.failed (s u : State) (e : Fin 64) (p k : Nat) (st : TaskState) (ht : (s.core e).task = some (p, k)) :
    GivesUp e s u (u.failTask p k st).noEngine :=
  .of_frame ((Frame.failTask allowsCopy_ev .refl p k st).noEngine allowsCopy_ev.1.1) fun h => by
    rw [ht] at h
    exact absurd h (by simp)

theorem GivesUp.free (s u : State) (e : Fin 64) : GivesUp e s u u.noEngine :=
  .of_frame (Frame.refl.noEngine allowsCopy_ev.1.1) fun _ =>
    (Frame.noEngine .refl (AllowsEvents.ev noRegs [])).2 .mem (by simp)

theorem State.peRelease_gives (s : State) (e : Fin 64) :
    GivesUp e s ((s.setBit (Reg.PE_STATUS e) Fld.PE_STATUS_CLEAR_PENDING false).peIdle e) (s.peRelease e) := by
  unfold State.peRelease
  dsimp only
  split
  · rename_i p k ht
    exact GivesUp.failed _ _ _ _ _ _ ht
  · exact GivesUp.free _ _ _

theorem State.peDrainDone_gives (h3 : s.peState e = 3) (hx : (s.core e).xfers = []) :
    GivesUp e s ((s.takeFree.2.peCycles e s.takeFree.1).peIdle e) (s.peDrainDone e) := by
  rw [State.peDrainDone, if_pos ⟨h3, hx⟩]
  dsimp only
  split
  · rename_i p k ht
    exact GivesUp.failed _ _ _ _ _ _ ht
  · exact GivesUp.free _ _ _

/-- An engine that gives its task up comes to rest without it. -/
theorem GivesUp.leaves {v : State} (h : GivesUp e s (v.peIdle e) t) (hc : v.reg (Reg.PE_CTRL e) = s.reg (Reg.PE_CTRL e))
    (hm : v.mem = s.mem) (hF : FrameEv (peBlock e) [] s v) :
    t.peState e = s.restState e ∧ (t.core e).task = none ∧ ((s.core e).task = none → t.mem = s.mem) ∧
      FrameEv (fun a => peBlock e a || seqRegs a || busRegs a) [.pe, .seq, .mem, .ecc] s t := by
  have hI := v.peIdle_frame e
  refine ⟨?_, ?_, fun hn => ((h.mem hn).trans (hI.2 .mem (by simp))).trans hm, ?_⟩
  · rw [h.state, State.peState_peIdle, State.restState_congr hc]
  · rw [h.core, State.core_peIdle]
  · refine ((hF.widen (fun a h => by simp [h]) (by simp)).trans (hI.mono (fun a ha => ?_) (by simp))).trans
      (h.frame.widen (fun a ha => ?_) (by simp))
    · rw [beq_iff_eq] at ha
      simp [ha, peBlock_status]
    · rw [Bool.or_eq_true] at ha
      rcases ha with ha | ha <;> simp [ha]

end Sys2Proof.Machine
end

section
/-! SUPPORT. What a write of ENABLE, an abort and CLEAR_FAULT do to an engine, and a write of its memory (R148, R151, R157,
R594). -/

namespace Sys2Proof.Machine

variable {s t u : State} {e : Fin 64}

/-! ### What leaves CTRL, the memory and the task of an engine -/

theorem State.peClear_gives (h4 : s.peState e = 4) (hx : (s.core e).xfers = []) :
    GivesUp e s ((s.setBit (Reg.PE_STATUS e) Fld.PE_STATUS_CLEAR_PENDING false).peIdle e) (s.peClear e) := by
  rw [State.peClear, if_pos h4, hx, List.isEmpty_nil, if_pos rfl]
  exact s.peRelease_gives e

theorem State.setBit_status_leaves (s : State) (e : Fin 64) (f : Field) (b : Bool) :
    (s.setBit (Reg.PE_STATUS e) f b).reg (Reg.PE_CTRL e) = s.reg (Reg.PE_CTRL e) ∧
      FrameEv (peBlock e) [] s (s.setBit (Reg.PE_STATUS e) f b) := by
  refine ⟨?_, Frame.refl.setFld _ _ _ (by simp [peBlock_status])⟩
  rw [State.setBit, State.reg_setFld, if_neg (peCtrl_apart e).1.symm]

theorem peCycles_peBlock (e : Nat) : peBlock e (Reg.PE_CYCLES e) = true ∧ peBlock e (Reg.PE_CYCLES e + 4) = true :=
  ⟨fetchRegs_peBlock (by simp [fetchRegs]), fetchRegs_peBlock (by simp [fetchRegs])⟩

theorem State.freeCycles_leaves (s : State) (e : Fin 64) :
    (s.takeFree.2.peCycles e s.takeFree.1).reg (Reg.PE_CTRL e) = s.reg (Reg.PE_CTRL e) ∧
      FrameEv (peBlock e) [] s (s.takeFree.2.peCycles e s.takeFree.1) := by
  obtain ⟨h0, h4⟩ := peCycles_peBlock e
  have hF : Frame (fun a => a == Reg.PE_CYCLES e || a == Reg.PE_CYCLES e + 4) [.events] s
      (s.takeFree.2.peCycles e s.takeFree.1) :=
    (Frame.refl.takeFree (by simp)).count64 _ _ (by simp) (by simp)
  refine ⟨hF.1 _ ?_, hF.mono (fun a ha => ?_) (fun _ h => h)⟩
  · simp only [Reg.PE_CTRL, Reg.PE_CYCLES, Bool.or_eq_false_iff, beq_eq_false_iff_ne]
    omega
  · simp only [Bool.or_eq_true, beq_iff_eq] at ha ⊢
    rcases ha with rfl | rfl
    · exact .inr h0
    · exact .inr h4

/-- The commands by which an engine without transfers gives its task up. -/
theorem givesUp_leaves {c : Instr} (hx : (s.core e).xfers = [])
    (hc : (c = .peDrainDone e ∧ s.peState e = 3) ∨ (c = .peFaultRelease e ∧ s.peState e = 4 ∧
       s.bit (Reg.PE_CTRL e) Fld.PE_CTRL_FAULT_HOLD = false) ∨ (c = .clearFault e ∧ s.peState e = 4)) :
    ∃ v t : State, exec c s = .next t ∧ GivesUp e s (v.peIdle e) t ∧ v.reg (Reg.PE_CTRL e) = s.reg (Reg.PE_CTRL e) ∧
      v.mem = s.mem ∧ FrameEv (peBlock e) [] s v := by
  obtain ⟨hs, hsF⟩ := s.setBit_status_leaves e Fld.PE_STATUS_CLEAR_PENDING false
  obtain ⟨hd, hdF⟩ := s.freeCycles_leaves e
  rcases hc with ⟨rfl, h3⟩ | ⟨rfl, h4, hh⟩ | ⟨rfl, h4⟩
  · exact ⟨_, _, rfl, State.peDrainDone_gives h3 hx, hd, hdF.2 .mem (by simp), hdF⟩
  · refine ⟨_, _, rfl, ?_, hs, hsF.2 .mem (by simp), hsF⟩
    rw [State.peFaultRelease, if_pos ⟨h4, hx, by rw [hh]; rfl⟩]
    exact s.peRelease_gives e
  · exact ⟨_, _, rfl, State.peClear_gives h4 hx, hs, hsF.2 .mem (by simp), hsF⟩

/-- CLEAR_FAULT waits for the transfers (R148). -/
theorem State.peClear_waits (h4 : s.peState e = 4) (hx : (s.core e).xfers ≠ []) :
    s.peClear e = s.setBit (Reg.PE_STATUS e) Fld.PE_STATUS_CLEAR_PENDING true := by
  rw [State.peClear, if_pos h4, if_neg (by simpa using hx)]

/-! ### ENABLE -/

theorem regRow_peCtrl : ∀ e : Fin 64, regRow (Reg.PE_CTRL e) =
    some ⟨67366912, 64, 262144, 1, 262144, 0, 0, 3, 0, 0, 0, 0, 1⟩ := by decide +kernel

/-- The fields of PE_CTRL take their writes (R157). -/
theorem State.fld_peCtrl (s : State) (e : Fin 64) (data : Word) {f : Field}
    (hf : f = Fld.PE_CTRL_ENABLE ∨ f = Fld.PE_CTRL_FAULT_HOLD) :
    (s.writeWord (Reg.PE_CTRL e) data).fld (Reg.PE_CTRL e) f = f.get data := by
  rcases hf with rfl | rfl <;>
    exact State.fld_writeWord s _ data _ _ (regRow_peCtrl e) (by decide) (by decide) (by decide)

/-- A write of PE_CTRL at an engine without a task or transfers takes it to its state of rest. -/
theorem State.peEnable_eq (data : Word) (h : s.peState e < 2) (hx : (s.core e).xfers = []) :
    ∃ v, s.peEnable e data = (v.peRest e).noEngine ∧ Frame noRegs [.pe] (s.writeWord (Reg.PE_CTRL e) data) v := by
  have hF : Frame (fun a => a == Reg.PE_CTRL e) [] s (s.writeWord (Reg.PE_CTRL e) data) := Frame.refl.writeWord _ _ (by simp)
  have hc : (s.writeWord (Reg.PE_CTRL e) data).core e = s.core e := Frame.core_eq hF (by simp) _
  have hst : (s.writeWord (Reg.PE_CTRL e) data).peState e = s.peState e :=
    State.fld_congr (hF.1 _ (by simpa using (peCtrl_apart e).1.symm)) _
  unfold State.peEnable State.writeRw
  generalize s.writeWord (Reg.PE_CTRL e) data = w at hc hst ⊢
  simp only [hc, hx, List.isEmpty_nil, Bool.not_true, Bool.and_false, Bool.false_eq_true, if_false]
  obtain h0 | h1 : s.peState e = 0 ∨ s.peState e = 1 := by omega
  · rw [hst, h0]
    exact ⟨_, rfl, Frame.refl.setCore (by simp) _ _⟩
  · rw [hst, h1]
    exact ⟨w, rfl, .refl⟩

theorem bitField_eq (w : Word) : (if (Fld.PE_CTRL_ENABLE.get w == 1) = true then 1 else 0) = Fld.PE_CTRL_ENABLE.get w := by
  have := Field.get_lt Fld.PE_CTRL_ENABLE w
  rw [show Fld.PE_CTRL_ENABLE.width = 1 from rfl] at this
  simp only [beq_iff_eq]
  split <;> omega

/-- ENABLE takes an OFFLINE engine to IDLE and an IDLE one to OFFLINE (R148, R157). -/
theorem State.peEnable_leaves (data : Word) (h : s.peState e < 2) (hx : (s.core e).xfers = []) :
    (s.peEnable e data).peState e = Fld.PE_CTRL_ENABLE.get data ∧
      (∀ f, f = Fld.PE_CTRL_ENABLE ∨ f = Fld.PE_CTRL_FAULT_HOLD → (s.peEnable e data).fld (Reg.PE_CTRL e) f = f.get data) ∧
      FrameEv (fun a => a == Reg.PE_CTRL e || a == Reg.PE_STATUS e) [.pe] s (s.peEnable e data) := by
  obtain ⟨v, heq, hv⟩ := State.peEnable_eq data h hx
  have hN : FrameEv noRegs [] (v.peRest e) (v.peRest e).noEngine := Frame.noEngine .refl (AllowsEvents.ev _ _)
  have hR := v.peRest_frame e
  have hctrl : ∀ f, f = Fld.PE_CTRL_ENABLE ∨ f = Fld.PE_CTRL_FAULT_HOLD → v.fld (Reg.PE_CTRL e) f = f.get data := fun f hf => by
    rw [State.fld_congr (hv.1 _ rfl), s.fld_peCtrl e data hf]
  rw [heq]
  refine ⟨?_, fun f hf => ?_, ?_⟩
  · rw [State.peState, State.fld_congr (hN.1 _ (Bool.or_eq_false_iff.2 ⟨eventReg_of_peBlock (peBlock_status e), rfl⟩)),
      ← State.peState, State.peState_peRest, State.restState, State.bit, hctrl _ (.inl rfl), bitField_eq]
  · rw [State.fld_congr (hN.1 _ (Bool.or_eq_false_iff.2 ⟨eventReg_of_peBlock peBlock_ctrl, rfl⟩)),
      State.fld_congr (hR.1 _ (by simpa using (peCtrl_apart e).1)), hctrl f hf]
  · have hW : Frame (fun a => a == Reg.PE_CTRL e || a == Reg.PE_STATUS e) [.pe] s (s.writeWord (Reg.PE_CTRL e) data) :=
      Frame.refl.writeWord _ _ (by simp)
    have hB := (hW.trans (hv.mono (fun a ha => absurd ha (by simp [noRegs])) (fun _ h => h))).trans
      (hR.mono (fun a ha => by simp_all) (by simp))
    exact Frame.trans (hB.mono (fun a ha => by simp_all) (by simp)) (hN.widen (fun a ha => absurd ha (by simp [noRegs])) (by simp))

/-! ### Abort -/

/-- The end of a stall takes cycles of the engine (R138, R156). -/
theorem State.peUnstall_frame (s : State) (e : Nat) :
    Frame (fun a => a == Reg.PE_CYCLES e || a == Reg.PE_CYCLES e + 4) [.pe, .events] s (s.peUnstall e) := by
  unfold State.peUnstall
  dsimp only
  split
  · exact ((Frame.refl.takeFree (by simp)).count64 _ _ (by simp) (by simp)).setCore (by simp) _ _
  · exact .refl

/-- An abort takes a running engine to DRAIN (R148). -/
theorem State.peAbort_leaves (h2 : s.peState e = 2) :
    (s.peAbort e).peState e = 3 ∧ (s.peAbort e).core e = { s.core e with stalled := false } ∧
      Frame (fun a => a == Reg.PE_STATUS e || a == Reg.PE_CYCLES e || a == Reg.PE_CYCLES e + 4) [.pe, .events] s (s.peAbort e) := by
  obtain ⟨hc, -, -⟩ := s.peUnstall_leaves e
  have hS : Frame (fun a => a == Reg.PE_STATUS e) [] (s.peUnstall e) ((s.peUnstall e).setPeState e 3) :=
    Frame.refl.setFld _ _ _ (by simp)
  rw [State.peAbort, if_pos h2]
  refine ⟨?_, by rw [Frame.core_eq hS (by simp), hc], ?_⟩
  · rw [State.peState, State.setPeState, State.fld_setFld_same _ _ _ _ (by decide)]
    rfl
  · exact ((s.peUnstall_frame e).mono (fun a ha => by
      rw [Bool.or_assoc, ha, Bool.or_true]) (fun _ h => h)).trans (hS.mono (fun a ha => by rw [ha]; rfl) (by simp))

theorem State.peAbort_idle (h : s.peState e ≠ 2) : s.peAbort e = s := by rw [State.peAbort, if_neg h]

/-! ### Writes of engine memory -/

/-- A masked write replaces the bytes whose enable is set. -/
theorem Memory.byte_writeMasked (m : Memory) (a x : Nat) (bs : List (Byte × Bool)) :
    Memory.byte (Memory.writeMasked m a bs) x =
      if a ≤ x ∧ (bs.getD (x - a) (0, false)).2 = true then (bs.getD (x - a) (0, false)).1 else Memory.byte m x := by
  induction bs generalizing m a with
  | nil => simp [Memory.writeMasked]
  | cons b bs ih =>
    rw [Memory.writeMasked, ih]
    have hb : Memory.byte (if b.2 = true then Memory.setByte m a b.1 else m) x =
        if a = x ∧ b.2 = true then b.1 else Memory.byte m x := by
      by_cases h : b.2 = true <;> simp [h]
    rw [hb]
    rcases Nat.lt_trichotomy x a with h | rfl | h
    · rw [if_neg (by omega), if_neg (by omega), if_neg (by omega)]
    · rw [if_neg (by omega), Nat.sub_self, List.getD_cons_zero]
      simp
    · rw [show x - a = (x - (a + 1)) + 1 by omega, List.getD_cons_succ, if_neg (by omega : ¬ (a = x ∧ b.2 = true))]
      simp only [show (a ≤ x) = True by simp; omega, show (a + 1 ≤ x) = True by simp; omega]

theorem getD_enables (be : BitVec 4) (bs : List Byte) (i : Nat) : ((bs.mapIdx fun i b => (b, be.getLsbD i)).getD i (0, false)) =
    if i < bs.length then (bs.getD i 0, be.getLsbD i) else (0, false) := by
  simp only [List.getD_eq_getElem?_getD, List.getElem?_mapIdx]
  split <;> rename_i h
  · simp [h]
  · rw [List.getElem?_eq_none (by omega)]
    rfl

/-- A write of a word's bytes replaces those whose enable is set. -/
theorem State.byte_writeBe (s : State) (a : Nat) (be : BitVec 4) (data : Word) :
    (∀ i, i < 4 → Memory.byte (s.writeBe a be data).mem (a + i) =
      if be.getLsbD i then (wordBytes data).getD i 0 else Memory.byte s.mem (a + i)) ∧
      KeepsOutside s.mem (s.writeBe a be data).mem a 4 := by
  constructor
  · intro i hi
    rw [State.writeBe, Memory.byte_writeMasked, Nat.add_sub_cancel_left, getD_enables, length_wordBytes, if_pos hi]
    simp
  · intro x hx
    rw [State.writeBe, Memory.byte_writeMasked, getD_enables, length_wordBytes]
    refine if_neg fun h => ?_
    rw [if_neg (by omega)] at h
    exact absurd h.2 (by simp)

theorem peBase_split (e : Fin 64) {off : Nat} (h : off < 0x28000) : (peBase e + off - 0x04000000) / 0x40000 = e.val ∧
    (peBase e + off - 0x04000000) % 0x40000 = off ∧ (BitVec.ofNat 32 (peBase e + off)).toNat = peBase e + off := by
  have := e.isLt
  rw [BitVec.toNat_ofNat]
  unfold peBase
  omega

theorem State.peMemWrite_eq (m : RegMaster) {off : Nat} (be : BitVec 4) (data : Word) (h : off < 0x28000) :
    s.peMemWrite m (peBase e + off) be data =
      if s.peState e = 0 then
        (s.writeBe (peBase e + off) be data).eccClearW (if off < 0x20000 then 4 else 8) (peBase e + off) (if be = 15 then 4 else 0)
      else if m = .host then s.hostErr 2 0 true (peBase e + off) else s := by
  obtain ⟨h1, h2, -⟩ := peBase_split e h
  rw [State.peMemWrite, h1, h2, if_neg (by omega)]

theorem exec_peMemoryWrite (m : RegMaster) {off : Nat} (be : BitVec 4) (data : Word) (h : off < 0x28000) :
    exec (.peMemoryWrite m (BitVec.ofNat 32 (peBase e + off)) be data) s =
      .next (s.unlessBarred m (peBase e + off) (s.peMemWrite m (peBase e + off) be data)) := by
  obtain ⟨-, -, h3⟩ := peBase_split e h
  show execPeMemoryWrite m (BitVec.ofNat 32 (peBase e + off)) be data s = _
  rw [execPeMemoryWrite, h3]

theorem HostTold.holdTags {cause dev addr : Nat} {write : Bool} (h : HostTold cause dev write addr s) :
    HostTold cause dev write addr (s.holdTags 1) := by
  have h1 := s.reg_holdTags 1 Reg.GLOBAL_HOST_ERR (by decide)
  have h2 := s.reg_holdTags 1 Reg.GLOBAL_HOST_ERR_ADDR (by decide)
  obtain ⟨hc, hd, hw, hv, hx, hh⟩ := h
  refine ⟨?_, ?_, ?_, ?_, ?_, hh⟩
  · rwa [State.fld_congr h1]
  · rwa [State.fld_congr h1]
  · rwa [State.bit_congr h1]
  · rwa [State.bit_congr h1]
  · rwa [State.regN, h2]

theorem State.holdTags_frame (s : State) (k : Nat) : Frame (fun a => a == Reg.XBAR_INFLIGHT) [] s (s.holdTags k) :=
  Frame.refl.holdTags k (by simp)

/-- A write of the memory of an OFFLINE engine (R151). -/
theorem State.peMemWrite_offline (m : RegMaster) {off : Nat} (be : BitVec 4) (data : Word) (h : off < 0x28000)
    (h0 : s.peState e = 0) :
    (s.peMemWrite m (peBase e + off) be data).mem = (s.writeBe (peBase e + off) be data).mem ∧
      Frame noRegs [.mem, .ecc] s (s.peMemWrite m (peBase e + off) be data) := by
  rw [State.peMemWrite_eq m be data h, if_pos h0]
  exact ⟨rfl, Frame.eccClearW (Frame.mem .refl (by simp) _) (by simp) _ _ _⟩

/-- A write of the host that the engine or the release refuses has its record (R151, R594, R630). -/
theorem State.peMemWrite_refused {off : Nat} (be : BitVec 4) (data : Word) (h : off < 0x28000)
    (hr : s.peState e ≠ 0 ∨ s.hostBarred .host (peBase e + off) = true) :
    HostTold 2 0 true (peBase e + off) (s.unlessBarred .host (peBase e + off) (s.peMemWrite .host (peBase e + off) be data)) ∧
      FrameEv (fun a => a == Reg.GLOBAL_HOST_ERR || a == Reg.GLOBAL_HOST_ERR_ADDR || a == Reg.XBAR_INFLIGHT) [.host] s
        (s.unlessBarred .host (peBase e + off) (s.peMemWrite .host (peBase e + off) be data)) := by
  have ha : peBase e + off < 2 ^ 32 := by
    have := e.isLt
    unfold peBase
    omega
  cases hb : s.hostBarred .host (peBase e + off) with
  | true =>
    obtain ⟨h1, h2⟩ := State.unlessBarred_refused hb ha (s.peMemWrite .host (peBase e + off) be data)
    exact ⟨h1, h2.widen (fun a h => by rw [h]; rfl) (fun _ h => h)⟩
  | false =>
    have h0 : s.peState e ≠ 0 := hr.resolve_right (by simp [hb])
    obtain ⟨h1, h2⟩ := s.hostErr_refused 2 0 true (peBase e + off) (by decide) (by decide) ha
    rw [State.unlessBarred_free hb, State.peMemWrite_eq _ be data h, if_neg h0, if_pos rfl]
    exact ⟨h1.holdTags, Frame.holdTags (h2.widen (fun a h => by rw [h]; rfl) (fun _ h => h)) 1 (by decide)⟩

end Sys2Proof.Machine
end

section
/-! How an engine leaves its task, and how PE_CTRL moves it. -/
open Sys2Proof Sys2Proof.Machine

/-- Settles O22: a completion, a drain and a release are the engine's registers and an engine at rest, followed by what the
sequencer is told, which frames its state off; ENABLE and an abort are one transition each; a masked write is read back byte by
byte, and a refused one is the host's error record. -/
theorem engineStates : Obligations.EngineStates := by
  unfold Obligations.EngineStates
  refine ⟨⟨?done, ?coincide, ?leave, ?clearWaits⟩, ?enable, ?abort, ?noAbort, ?write, ?hostRefused, ?otherRefused⟩
  case done =>
    intro e s h2 hend hx
    obtain ⟨h1, h3, h4, h5⟩ := State.peDone_leaves h2 hend hx
    refine ⟨_, rfl, h1, h3, h4.trans ?_, h5⟩
    rw [PeCore.digest]
    split <;> rfl
  case coincide => exact fun e s ab => ⟨rfl, rfl, rfl⟩
  case leave =>
    intro e s c hx hc
    obtain ⟨v, t, he, hG, hctrl, hmem, hF⟩ := givesUp_leaves hx hc
    exact ⟨t, he, hG.leaves hctrl hmem hF⟩
  case clearWaits =>
    intro e s h4 hx
    refine ⟨_, congrArg Host.Outcome.next (State.peClear_waits h4 hx), State.bit_setBit_same _ _ _ _ (by decide) rfl, ?_,
      Frame.refl.setFld _ _ _ (by simp)⟩
    rw [State.peState, State.setBit, State.fld_setFld_other _ _ _ _ _ _ (by decide) (.inr (.inl (by decide))), ← State.peState, h4]
  case enable =>
    intro e data s h hx
    obtain ⟨h1, h2, h3⟩ := State.peEnable_leaves data h hx
    exact ⟨_, rfl, h1, h2 _ (.inl rfl), h2 _ (.inr rfl), h3⟩
  case abort => exact fun e s h2 => ⟨_, rfl, State.peAbort_leaves h2⟩
  case noAbort =>
    intro e s h2
    have he : exec (.peAbort e false) s = .next (s.peAbort e) := rfl
    rw [he, State.peAbort_idle h2]
  case write =>
    intro m e off be data s hoff hb h0
    obtain ⟨hm, hF⟩ := State.peMemWrite_offline m be data hoff h0
    obtain ⟨hbytes, hkeep⟩ := s.byte_writeBe (peBase e + off) be data
    have hT : ((s.peMemWrite m (peBase e + off) be data).holdTags 1).mem = (s.peMemWrite m (peBase e + off) be data).mem :=
      (State.holdTags_frame _ 1).2 .mem (by simp)
    rw [← hm, ← hT] at hbytes hkeep
    refine ⟨_, exec_peMemoryWrite m be data hoff, ?_⟩
    rw [State.unlessBarred_free hb]
    exact ⟨hbytes, hkeep, (hF.mono (fun a ha => absurd ha (by simp [noRegs])) (fun _ h => h)).holdTags 1 (by simp)⟩
  case hostRefused =>
    intro e off be data s hoff hr
    exact ⟨_, exec_peMemoryWrite .host be data hoff, State.peMemWrite_refused be data hoff hr⟩
  case otherRefused =>
    intro m e off be data s hoff hm h0
    have hb : s.hostBarred m (peBase e + off) = false := by simp [State.hostBarred, hm]
    refine ⟨_, exec_peMemoryWrite m be data hoff, ?_⟩
    rw [State.unlessBarred_free hb, State.peMemWrite_eq m be data hoff, if_neg h0, if_neg hm]
    exact s.holdTags_frame 1

end

section
/-! SUPPORT. What the start of a task leaves of its engine, its descriptor, and the task that is dispatched (R114, R115, R174,
R177, R178). -/

namespace Sys2Proof.Machine

variable {s t u : State}

/-! ### The tables that a descriptor is made of -/

/-- What SEQ makes a descriptor of is the same in two states. -/
structure SameTables (s t : State) : Prop where
  ptab  : t.reg Reg.SEQ_PTAB = s.reg Reg.SEQ_PTAB
  ctrl  : t.reg Reg.SEQ_CTRL = s.reg Reg.SEQ_CTRL
  time  : t.reg Reg.TIME_CTRL = s.reg Reg.TIME_CTRL
  mem   : t.mem = s.mem
  ecc   : t.ecc = s.ecc
  flips : t.seq.flips = s.seq.flips
  bank  : t.seq.bank = s.seq.bank
  gens  : t.seq.gens = s.seq.gens

theorem SameTables.trans (h : SameTables s t) (h' : SameTables t u) : SameTables s u :=
  ⟨h'.ptab.trans h.ptab, h'.ctrl.trans h.ctrl, h'.time.trans h.time, h'.mem.trans h.mem, h'.ecc.trans h.ecc,
    h'.flips.trans h.flips, h'.bank.trans h.bank, h'.gens.trans h.gens⟩

theorem SameTables.pword (h : SameTables s t) (p w : Nat) : t.pword p w = s.pword p w := by
  have he : ∀ a, t.eccBad a 4 = s.eccBad a 4 := fun a => by rw [State.eccBad, State.eccBad, State.eccWords, State.eccWords, h.ecc]
  rw [State.pword, State.pword, State.seqWord, State.seqWord, State.regN, State.regN, h.ptab, he, State.word, State.word, h.mem]

theorem SameTables.descriptor (h : SameTables s t) (v : Task) (slot e : Nat) : t.descriptor v slot e = s.descriptor v slot e := by
  have hp : t.pword = s.pword := funext fun p => funext (h.pword p)
  have hb : t.bankOf v.phrase v.folio = s.bankOf v.phrase v.folio := by rw [State.bankOf, State.bankOf, h.flips, h.bank]
  have hg : t.genOf v.folio = s.genOf v.folio := by rw [State.genOf, State.genOf, h.gens]
  have hr : t.rate = s.rate := State.fld_congr h.time _
  have hl : t.latency = s.latency := State.fld_congr h.ctrl _
  rw [State.descriptor, State.descriptor, hp, hb, hg, hr, hl, State.boundary, State.boundary, State.hz, State.hz, hr]

theorem State.length_descriptor (s : State) (v : Task) (slot e : Nat) : (s.descriptor v slot e).length = 16 := by
  simp [State.descriptor]

theorem State.startSlot_congr (hf : t.seq.first = s.seq.first) (hr : t.seq.released = s.seq.released)
    (hs : t.seq.slotOf = s.seq.slotOf) (p k : Nat) : t.startSlot p k = s.startSlot p k := by
  rw [State.startSlot, State.startSlot, State.firstUnreleased, State.firstUnreleased, hf, hr, hs]

theorem State.slotBack_congr (ht : t.seq.tasks = s.seq.tasks) {p : Nat} (hs : ∀ k, t.startSlot p k = s.startSlot p k) (n k : Nat) :
    t.slotBack p n k = s.slotBack p n k := by
  induction n generalizing k with
  | zero => rfl
  | succ n ih => rw [State.slotBack, State.slotBack, ih, hs, State.task, State.task, ht]

theorem State.taskSlot_congr (ht : t.seq.tasks = s.seq.tasks) (hs : ∀ p k, t.startSlot p k = s.startSlot p k) (v : Task) :
    t.taskSlot v = s.taskSlot v := by
  rw [State.taskSlot, State.taskSlot, State.stateSlot, State.stateSlot, State.slotBack_congr ht (hs _), ht]

/-! ### The cycle of a dispatch -/

/-- A dispatch in a new cycle forgets the clusters that have got a task, and nothing that a task is made of. -/
theorem State.dispatchCycle_leaves (s : State) (same : Bool) : Frame noRegs [.seq] s (s.dispatchCycle same) ∧
    SameTables s (s.dispatchCycle same) ∧ ∀ v, (s.dispatchCycle same).taskSlot v = s.taskSlot v := by
  have hF : Frame noRegs [.seq] s (s.dispatchCycle same) := .ite .refl (Frame.refl.seq (by simp) _)
  have hseq : (s.dispatchCycle same).seq.tasks = s.seq.tasks ∧ (s.dispatchCycle same).seq.first = s.seq.first ∧
      (s.dispatchCycle same).seq.released = s.seq.released ∧ (s.dispatchCycle same).seq.slotOf = s.seq.slotOf ∧
      (s.dispatchCycle same).seq.flips = s.seq.flips ∧ (s.dispatchCycle same).seq.bank = s.seq.bank ∧
      (s.dispatchCycle same).seq.gens = s.seq.gens := by
    cases same <;> exact ⟨rfl, rfl, rfl, rfl, rfl, rfl, rfl⟩
  obtain ⟨ht, hf, hr, hs, h1, h2, h3⟩ := hseq
  exact ⟨hF, ⟨hF.1 _ rfl, hF.1 _ rfl, hF.1 _ rfl, hF.2 .mem (by simp), hF.2 .ecc (by simp), h1, h2, h3⟩,
    State.taskSlot_congr ht fun p k => State.startSlot_congr hf hr hs p k⟩

/-- A dispatched task and its count, before its place is told (R174). -/
def State.dispatched (s : State) (t : Task) (e : Nat) : State :=
  let s0 : State := { s with seq := { s.seq with used := e / 8 :: s.seq.used } }
  (s0.updTask t.phrase t.folio (fun (u : Task) =>
    { u with st := if e = 64 then .mix else .running e, disp := true, stateIn := some (s.taskSlot t) })).count64 Reg.SEQ_DISPATCHED 1

/-- A task queued at MIX (R177, R212). -/
def State.mixQueued (s : State) (t : Task) (d : List Word) : State :=
  { s with mix := { s.mix with queue := s.mix.queue ++
    [⟨t.phrase, t.folio, (d.getD 8 0).toNat, (d.getD 6 0).toNat, (d.getD 7 0).toNat, (d.getD 9 0).toNat⟩] } }

theorem State.dispatch_eq {v : Task} {e : Nat} (hst : s.seqState = 2 ∨ s.seqState = 3) (hn : s.nextDispatch = some (v, e)) :
    s.dispatch = if e = 64 then (s.dispatched v e).mixQueued v (s.descriptor v (s.taskSlot v) 0)
      else (s.dispatched v e).engineStart e v (s.taskSlot v) := by
  rw [State.dispatch, if_pos hst, hn]
  rfl

theorem State.mem_updTask {p k : Nat} {f : Task → Task} {v : Task} (hv : v ∈ (s.updTask p k f).seq.tasks) (hp : v.phrase = p)
    (hk : v.folio = k) : ∃ w, v = f w := by
  obtain ⟨w, -, hw⟩ := List.mem_map.1 hv
  split at hw
  · exact ⟨w, hw.symm⟩
  · rename_i h
    rw [hw] at h
    exact absurd ⟨hp, hk⟩ h

/-- What a dispatch leaves of the tasks, and its count (R174, R198). -/
theorem State.dispatched_leaves (s : State) (t : Task) (e : Nat) :
    (∀ v ∈ (s.dispatched t e).seq.tasks, v.phrase = t.phrase → v.folio = t.folio →
      v.st = (if e = 64 then .mix else .running e) ∧ v.disp = true) ∧
    (s.dispatched t e).reg64 Reg.SEQ_DISPATCHED = (s.reg64 Reg.SEQ_DISPATCHED + 1) % 2 ^ 64 ∧
    Frame (inRange Reg.SEQ_DISPATCHED 0x5000038) [.seq] s (s.dispatched t e) ∧ SameTables s (s.dispatched t e) := by
  have hF : Frame (inRange Reg.SEQ_DISPATCHED 0x5000038) [.seq] s (s.dispatched t e) :=
    Frame.count64 (Frame.refl.seq (by simp) _) _ _ (by decide) (by decide)
  refine ⟨fun v hv hp hk => ?_, State.reg64_count64 .., hF, ?_⟩
  · obtain ⟨w, rfl⟩ := State.mem_updTask hv hp hk
    exact ⟨rfl, rfl⟩
  · exact ⟨hF.1 _ (by decide), hF.1 _ (by decide), hF.1 _ (by decide), hF.2 .mem (by simp), hF.2 .ecc (by simp), rfl, rfl, rfl⟩

/-! ### The start of an engine -/

/-- An engine whose registers are cleared for a task (R114). -/
def State.engineReady (s : State) (e : Nat) (c : PeCore) (pc : Nat) : State :=
  (((s.setCore e c).setReg64 (Reg.PE_TRACE e) 0).setPc e pc).setFld (Reg.PE_STATUS e) Fld.PE_STATUS_LOOP_DEPTH 0

/-- An engine that starts to run (R115, R156). -/
def State.engineGo (s : State) (e : Nat) : State := (s.setPeState e 2).peCycles e 6

/-- The registers of an engine at the start of a task: A0 at the descriptor (R114). -/
def State.startCore (s : State) (t : Task) : PeCore :=
  { a := [(0, 0xFFC0)], task := some (t.phrase, t.folio), qos := s.pword t.phrase 0 / 2 ^ 28 }

/-- The memory of an engine with a descriptor in X (R115). -/
def State.engineLoaded (s : State) (e : Nat) (d : List Word) : State :=
  (s.writeWords (xyAddr e false 0xFFC0) d).eccClearW 4 (xyAddr e false 0xFFC0) 64

theorem State.engineStart_eq (s : State) (e : Nat) (t : Task) (slot : Nat) : s.engineStart e t slot =
    ((s.engineReady e (s.startCore t) (s.pword t.phrase 0 / 2 ^ 16 % 2 ^ 12)).engineLoaded e (s.descriptor t slot e)).engineGo e :=
  rfl

theorem peTrace_apart (e : Nat) : Reg.PE_TRACE e ≠ Reg.PE_STATUS e ∧ Reg.PE_TRACE e + 4 ≠ Reg.PE_STATUS e := by
  unfold Reg.PE_TRACE Reg.PE_STATUS
  omega

theorem peBlock_trace (e : Fin 64) : peBlock e (Reg.PE_TRACE e) = true ∧ peBlock e (Reg.PE_TRACE e + 4) = true := by
  constructor <;>
  · rw [peBlock, inRange_iff]
    unfold Reg.PE_CTRL Reg.PE_TRACE
    omega

theorem State.engineReady_frame (s : State) (e : Fin 64) (c : PeCore) (pc : Nat) : Frame (peBlock e) [.pe] s (s.engineReady e c pc) := by
  obtain ⟨h0, h4⟩ := peBlock_trace e
  have h1 : Frame (peBlock e) [.pe] s (s.setCore e c) := Frame.refl.setCore (by simp) _ _
  exact ((h1.setReg64 _ _ h0 h4).setFld _ _ _ (peBlock_status e)).setFld _ _ _ (peBlock_status e)

theorem State.engineReady_leaves (s : State) (e : Nat) (c : PeCore) (pc : Nat) :
    (s.engineReady e c pc).pePc e = pc % 2 ^ 12 ∧ (s.engineReady e c pc).trace e = 0 ∧ (s.engineReady e c pc).core e = c := by
  obtain ⟨h0, h4⟩ := peTrace_apart e
  have hF : Frame (fun a => a == Reg.PE_STATUS e) [] ((s.setCore e c).setReg64 (Reg.PE_TRACE e) 0) (s.engineReady e c pc) :=
    (Frame.refl.setFld _ _ _ (by simp)).setFld _ _ _ (by simp)
  have hT : Frame (fun a => a == Reg.PE_TRACE e || a == Reg.PE_TRACE e + 4) [] (s.setCore e c)
      ((s.setCore e c).setReg64 (Reg.PE_TRACE e) 0) := Frame.refl.setReg64 _ _ (by simp) (by simp)
  refine ⟨?_, ?_, ?_⟩
  · rw [State.pePc, State.engineReady, State.fld_setFld_other _ _ _ _ _ _ (by decide) (.inl (by decide)), State.setPc,
      State.fld_setFld_same _ _ _ _ (by decide)]
    rfl
  · rw [State.trace, State.reg64_congr (hF.1 _ (by simpa using h0)) (hF.1 _ (by simpa using h4)), State.reg64_setReg64 _ _ _ (by decide)]
  · rw [Frame.core_eq hF (by simp), Frame.core_eq hT (by simp), State.core_setCore, if_pos rfl]

theorem State.engineLoaded_leaves (s : State) (e : Nat) (d : List Word) (hd : d.length = 16) :
    (∀ i, i < 16 → (s.engineLoaded e d).word (xyAddr e false 0xFFC0 + 4 * i) = d.getD i 0) ∧
      KeepsOutside s.mem (s.engineLoaded e d).mem (xyAddr e false 0xFFC0) 64 ∧
      Frame noRegs [.mem, .ecc] s (s.engineLoaded e d) := by
  have hl : (d.flatMap wordBytes).length = 64 := by rw [length_flatMap_wordBytes, hd]
  have hk := Memory.write_keeps s.mem (xyAddr e false 0xFFC0) (d.flatMap wordBytes)
  rw [hl] at hk
  exact ⟨fun i hi => Memory.word_writeWords s.mem _ i d (by omega), hk,
    Frame.eccClearW (Frame.write .refl (by simp) _ _) (by simp) _ _ _⟩

theorem State.engineGo_leaves (s : State) (e : Nat) :
    (s.engineGo e).peState e = 2 ∧ (s.engineGo e).pePc e = s.pePc e ∧ (s.engineGo e).trace e = s.trace e ∧
      Frame (fun a => a == Reg.PE_STATUS e || a == Reg.PE_CYCLES e || a == Reg.PE_CYCLES e + 4) [] s (s.engineGo e) := by
  have hC : Frame (fun a => a == Reg.PE_CYCLES e || a == Reg.PE_CYCLES e + 4) [] (s.setPeState e 2) (s.engineGo e) :=
    Frame.refl.count64 _ _ (by simp) (by simp)
  have hF : Frame (fun a => a == Reg.PE_STATUS e || a == Reg.PE_CYCLES e || a == Reg.PE_CYCLES e + 4) [] s (s.engineGo e) :=
    Frame.count64 (Frame.refl.setFld _ _ _ (by simp)) _ _ (by simp) (by simp)
  have hst : (s.engineGo e).reg (Reg.PE_STATUS e) = (s.setPeState e 2).reg (Reg.PE_STATUS e) := hC.1 _ (by
    simp only [Reg.PE_STATUS, Reg.PE_CYCLES, Bool.or_eq_false_iff, beq_eq_false_iff_ne]
    omega)
  refine ⟨?_, ?_, ?_, hF⟩
  · rw [State.peState, State.fld_congr hst, State.setPeState, State.fld_setFld_same _ _ _ _ (by decide)]
    rfl
  · rw [State.pePc, State.fld_congr hst, State.setPeState, State.fld_setFld_other _ _ _ _ _ _ (by decide) (.inl (by decide)), State.pePc]
  · refine State.reg64_congr (hF.1 _ ?_) (hF.1 _ ?_) <;>
    · simp only [Reg.PE_TRACE, Reg.PE_STATUS, Reg.PE_CYCLES, Bool.or_eq_false_iff, beq_eq_false_iff_ne]
      omega

end Sys2Proof.Machine
end

section
/-! SUPPORT. An engine that starts a task, and a feed signal (R114, R115, R171-R173). -/

namespace Sys2Proof.Machine

variable {s t u : State}

/-- What an engine that starts shows of its task (R114, R115). -/
theorem State.engineStart_leaves (s : State) (e : Fin 64) (t : Task) (slot : Nat) :
    (s.engineStart e t slot).peState e = 2 ∧ (s.engineStart e t slot).pePc e = s.pword t.phrase 0 / 2 ^ 16 % 2 ^ 12 ∧
      (s.engineStart e t slot).trace e = 0 ∧ (s.engineStart e t slot).core e = s.startCore t ∧
      (∀ i, i < 16 → (s.engineStart e t slot).word (xyAddr e false 0xFFC0 + 4 * i) = (s.descriptor t slot e).getD i 0) ∧
      KeepsOutside s.mem (s.engineStart e t slot).mem (xyAddr e false 0xFFC0) 64 ∧
      Frame (peBlock e) [.pe, .mem, .ecc] s (s.engineStart e t slot) := by
  rw [State.engineStart_eq]
  obtain ⟨hpc, htr, hcore⟩ := s.engineReady_leaves e (s.startCore t) (s.pword t.phrase 0 / 2 ^ 16 % 2 ^ 12)
  have hR := s.engineReady_frame e (s.startCore t) (s.pword t.phrase 0 / 2 ^ 16 % 2 ^ 12)
  generalize s.engineReady e (s.startCore t) (s.pword t.phrase 0 / 2 ^ 16 % 2 ^ 12) = r at hpc htr hcore hR ⊢
  obtain ⟨hword, hkeep, hL⟩ := r.engineLoaded_leaves e _ (s.length_descriptor t slot e)
  generalize r.engineLoaded e (s.descriptor t slot e) = l at hword hkeep hL ⊢
  obtain ⟨gst, gpc, gtr, hG⟩ := l.engineGo_leaves e
  generalize l.engineGo e = u at gst gpc gtr hG ⊢
  have hmem : u.mem = l.mem := hG.2 .mem (by simp)
  refine ⟨gst, ?_, ?_, ?_, fun i hi => ?_, ?_, ?_⟩
  · rw [gpc, State.pePc, State.fld_congr (hL.1 _ rfl), ← State.pePc, hpc, Nat.mod_mod]
  · rw [gtr, State.trace, State.reg64_congr (hL.1 _ rfl) (hL.1 _ rfl), ← State.trace, htr]
  · rw [Frame.core_eq hG (by simp), Frame.core_eq hL (by simp), hcore]
  · rw [State.word, hmem, ← State.word, hword i hi]
  · rwa [hmem, ← (hR.2 .mem (by simp) : r.mem = s.mem)]
  · have hg : Frame (peBlock e) [.pe, .mem, .ecc] l u := hG.mono (fun a ha => by
      simp only [Bool.or_eq_true, beq_iff_eq] at ha
      obtain ⟨h0, h4⟩ := peCycles_peBlock e
      rcases ha with (rfl | rfl) | rfl
      exacts [peBlock_status e, h0, h4]) (by simp)
    exact ((hR.mono (fun _ h => h) (by simp)).trans (hL.mono (fun a ha => absurd ha (by simp [noRegs])) (by simp))).trans hg

/-- A dispatch up to its place, the free clusters of its cycle included (R174, R198). -/
theorem State.cycleDispatched_leaves (s : State) (same : Bool) (t : Task) (e : Nat) :
    (∀ v ∈ ((s.dispatchCycle same).dispatched t e).seq.tasks, v.phrase = t.phrase → v.folio = t.folio →
      v.st = (if e = 64 then .mix else .running e) ∧ v.disp = true) ∧
    ((s.dispatchCycle same).dispatched t e).reg64 Reg.SEQ_DISPATCHED = (s.reg64 Reg.SEQ_DISPATCHED + 1) % 2 ^ 64 ∧
    Frame (inRange Reg.SEQ_DISPATCHED 0x5000038) [.seq] s ((s.dispatchCycle same).dispatched t e) ∧
    SameTables s ((s.dispatchCycle same).dispatched t e) := by
  obtain ⟨hwF, hwT, -⟩ := s.dispatchCycle_leaves same
  generalize s.dispatchCycle same = w at hwF hwT ⊢
  obtain ⟨htasks, hcount, hF, hT⟩ := w.dispatched_leaves t e
  rw [State.reg64_congr (hwF.1 _ rfl) (hwF.1 _ rfl)] at hcount
  exact ⟨htasks, hcount, (hwF.mono (fun a ha => absurd ha (by simp [noRegs])) (fun _ h => h)).trans hF, hwT.trans hT⟩

/-- A dispatch goes to the place of the task, with the tables and the slot of the state before it (R174). -/
theorem State.cycleDispatch_eq {same : Bool} {v : Task} {e : Nat} (hst : s.seqState = 2 ∨ s.seqState = 3)
    (hn : (s.dispatchCycle same).nextDispatch = some (v, e)) : (s.dispatchCycle same).dispatch =
      if e = 64 then ((s.dispatchCycle same).dispatched v e).mixQueued v (s.descriptor v (s.taskSlot v) 0)
      else ((s.dispatchCycle same).dispatched v e).engineStart e v (s.taskSlot v) := by
  obtain ⟨hwF, hwT, hwS⟩ := s.dispatchCycle_leaves same
  have hw : (s.dispatchCycle same).seqState = s.seqState := State.fld_congr (hwF.1 _ rfl) _
  rw [← hw] at hst
  rw [State.dispatch_eq hst hn, hwS, hwT.descriptor]

theorem seqDispatched_apart (e : Fin 64) : peBlock e Reg.SEQ_DISPATCHED = false ∧ peBlock e (Reg.SEQ_DISPATCHED + 4) = false := by
  constructor <;>
  · rw [← Bool.not_eq_true, peBlock, inRange_iff]
    unfold Reg.PE_CTRL Reg.SEQ_DISPATCHED
    omega

/-! ### Feed signals -/

theorem State.task_updTask {p k : Nat} {f : Task → Task} (hf : ∀ v, (f v).phrase = v.phrase ∧ (f v).folio = v.folio) :
    (s.updTask p k f).task p k = (s.task p k).map f := by
  have hkey : ((fun v : Task => v.phrase == p && v.folio == k) ∘ fun v => if v.phrase = p ∧ v.folio = k then f v else v) =
      fun v => v.phrase == p && v.folio == k := by
    funext v
    by_cases h : v.phrase = p ∧ v.folio = k
    · simp [h, hf]
    · simp [h]
  rw [State.task, State.updTask, List.find?_map, hkey, ← State.task]
  cases h : s.task p k with
  | none => rfl
  | some v =>
    have hv := List.find?_some h
    simp only [Bool.and_eq_true, beq_iff_eq] at hv
    simp [hv]

theorem State.seq_raiseN (s : State) (src w3 : Nat) (hs : src < 320) : (s.raiseN src w3).seq = s.seq :=
  (s.raiseN_frame src w3 hs).2 .seq (by simp)

theorem State.seq_succCheck (s : State) (k owner : Nat) (feed : Bool) (l : List Nat) : (s.succCheck k owner feed l).seq = s.seq := by
  have hF : FrameEv noRegs [] s (s.succCheck k owner feed l) := by
    unfold State.succCheck
    exact .ite (Frame.refl.raiseOnce (AllowsEvents.ev _ _) _ _ 208 _ (by decide)) .refl
  exact hF.2 .seq (by simp)

theorem State.seq_syncTasks (s : State) : s.syncTasks.seq = s.seq := rfl

theorem State.seq_noEngine (s : State) : s.noEngine.seq = s.seq :=
  (Frame.noEngine .refl (AllowsEvents.ev noRegs [])).2 .seq (by simp)

theorem State.present_decTask (s : State) (p k : Nat) : (s.decTask p k).seq.present = s.seq.present := by
  unfold State.decTask
  split
  · rfl
  · split
    · rw [State.graphErr, State.seq_raiseN _ _ _ (by decide)]
    · rfl

/-- The present bit of a feed, set for a folio (R171). -/
def State.setPresent (s : State) (f k : Nat) : State :=
  { s with seq := { s.seq with present := SMap.set 0 s.seq.present (f * 4 + k % 4) (k + 1) } }

/-- The count of a task that a feed or a task counts down (R171-R173). -/
def countedDown (v : Task) : Task :=
  { v with count := v.count - 1, st := if v.count = 1 ∧ v.st = .pending then .ready else v.st }

theorem State.decTask_counts {p k : Nat} {v : Task} (hv : s.task p k = some v) (hc : v.count ≠ 0) :
    (s.decTask p k).task p k = some (countedDown v) := by
  have hd : s.decTask p k = s.updTask p k countedDown := by
    rw [State.decTask, hv]
    exact if_neg hc
  rw [hd, State.task_updTask (f := countedDown) fun _ => ⟨rfl, rfl⟩, hv]
  rfl

/-- The tasks of a feed's successors counted down (R171-R173). -/
def State.feedCounts (s : State) (f k : Nat) (l : List Nat) : State :=
  ((s.goodSucc l).foldl (fun s p => s.decTask p k) (s.succCheck k f true l)).syncTasks.noEngine

theorem State.feedSignal_eq {f k : Nat} (h : s.feedPresent f k = false) : s.feedSignal f k =
    if s.seq.tasks.any (fun v => v.folio == k) then (s.setPresent f k).feedCounts f k (s.feedSucc f) else s.setPresent f k := by
  rw [State.feedSignal, if_neg (by simp [h])]
  rfl

theorem State.seq_feedCounts (s : State) (f k : Nat) (l : List Nat) : (s.feedCounts f k l).seq =
    ((s.goodSucc l).foldl (fun s p => s.decTask p k) (s.succCheck k f true l)).seq := by
  rw [State.feedCounts, State.seq_noEngine, State.seq_syncTasks]

theorem State.present_feedCounts (s : State) (f k : Nat) (l : List Nat) : (s.feedCounts f k l).seq.present = s.seq.present := by
  rw [State.seq_feedCounts, ← s.seq_succCheck k f true l]
  generalize s.succCheck k f true l = w
  induction s.goodSucc l generalizing w with
  | nil => rfl
  | cons p ps ih => rw [List.foldl_cons, ih, State.present_decTask]

theorem State.feedPresent_setPresent (s : State) (f k : Nat) : (s.setPresent f k).feedPresent f k = true := by
  rw [State.feedPresent, State.setPresent, SMap.find_set_same, beq_self_eq_true]

theorem State.feedPresent_congr (h : t.seq.present = s.seq.present) (f k : Nat) : t.feedPresent f k = s.feedPresent f k := by
  rw [State.feedPresent, State.feedPresent, h]

theorem State.task_congr (h : t.seq = s.seq) (p k : Nat) : t.task p k = s.task p k := by rw [State.task, State.task, h]

theorem State.feedCounts_counts {f k q : Nat} {l : List Nat} {v : Task} (hg : s.goodSucc l = [q]) (hv : s.task q k = some v)
    (hc : v.count ≠ 0) : (s.feedCounts f k l).task q k = some (countedDown v) := by
  rw [State.task_congr (s.seq_feedCounts f k l), hg, List.foldl_cons, List.foldl_nil]
  exact State.decTask_counts ((State.task_congr (s.seq_succCheck k f true l) q k).trans hv) hc

theorem Frame.feedCounts {R : Nat → Bool} {P : List Part} (h : Frame R P s t) (hS : AllowsSeq R P) (f k : Nat) (l : List Nat) :
    Frame R P s (t.feedCounts f k l) :=
  ((Frame.foldl _ _ (h.succCheck hS _ _ _ _) fun _ q _ hu => hu.decTask hS q k).syncTasks hS).noEngine hS.1

theorem State.feedSignal_frame {f k : Nat} (h : s.feedPresent f k = false) : FrameEv seqRegs [.seq] s (s.feedSignal f k) := by
  have hS : AllowsSeq (fun a => eventReg a || seqRegs a) [.events, .seq] :=
    ⟨AllowsEvents.ev _ _, fun a ha => by simp [ha], by simp⟩
  have hP : FrameEv seqRegs [.seq] s (s.setPresent f k) := Frame.refl.seq (by simp) _
  rw [State.feedSignal_eq h]
  exact .ite (Frame.feedCounts hP hS _ _ _) hP

theorem State.task_folio {q k : Nat} {v : Task} (hv : s.task q k = some v) : s.seq.tasks.any (fun v => v.folio == k) = true := by
  have hm := List.mem_of_find?_eq_some hv
  have hk := List.find?_some hv
  simp only [Bool.and_eq_true] at hk
  exact List.any_eq_true.2 ⟨v, hm, hk.2⟩

end Sys2Proof.Machine
end

section
/-! Dispatch of the first ready task; feed signals and present bits. -/
open Sys2Proof Sys2Proof.Machine

/-- Settles O24: a dispatch is the task's mark and the count, then the engine cleared, loaded and started, or the queue of MIX;
its descriptor is made of tables that the mark leaves. A feed signal is the present bit, then one count down per successor. -/
theorem dispatchAndFeeds : Obligations.DispatchAndFeeds := by
  unfold Obligations.DispatchAndFeeds
  refine ⟨⟨?engine, ?mix⟩, ?feed, ?again⟩
  case engine =>
    intro same s t e hst hn
    have hd := State.cycleDispatch_eq hst hn
    rw [if_neg (by omega)] at hd
    refine ⟨_, congrArg Host.Outcome.next hd, ?_⟩
    obtain ⟨htasks, hcount, hF, hT⟩ := s.cycleDispatched_leaves same t e
    generalize (s.dispatchCycle same).dispatched t e = m at htasks hcount hF hT ⊢
    obtain ⟨hst, hpc, htr, hcore, hdesc, hkeep, hE⟩ := m.engineStart_leaves e t (s.taskSlot t)
    rw [State.startCore] at hcore
    rw [hT.pword] at hpc hcore
    rw [hT.descriptor] at hdesc
    rw [hT.mem] at hkeep
    have hseq : (m.engineStart e t (s.taskSlot t)).seq = m.seq := hE.2 .seq (by simp)
    obtain ⟨h0, h4⟩ := seqDispatched_apart e
    refine ⟨hst, hpc, htr, hcore, hdesc, hkeep, fun v hv hp hk => ?_, ?_, ?_⟩
    · have hm := htasks v (hseq ▸ hv) hp hk
      rwa [if_neg (by omega)] at hm
    · rw [State.reg64_congr (hE.1 _ h0) (hE.1 _ h4), hcount]
    · exact (hF.mono (fun a ha => by rw [ha, Bool.or_true]) (by simp)).trans (hE.mono (fun a ha => by rw [ha]; rfl) (by simp))
  case mix =>
    intro same s t hst hn
    have hd := State.cycleDispatch_eq hst hn
    rw [if_pos rfl] at hd
    refine ⟨_, congrArg Host.Outcome.next hd, ?_⟩
    obtain ⟨htasks, -, hF, -⟩ := s.cycleDispatched_leaves same t 64
    generalize (s.dispatchCycle same).dispatched t 64 = m at htasks hF ⊢
    have hmix : m.mix = s.mix := hF.2 .mix (by simp)
    refine ⟨?_, htasks, Frame.mix (hF.mono (fun _ h => h) (by simp)) (by simp) _⟩
    rw [State.mixQueued, hmix, List.map_append]
    rfl
  case feed =>
    intro f k s h
    refine ⟨_, rfl, ?_, fun q v hg hv hc => ?_, State.feedSignal_frame h⟩
    all_goals rw [State.feedSignal_eq h]
    · split
      · rw [State.feedPresent_congr (State.present_feedCounts _ _ _ _), State.feedPresent_setPresent]
      · exact s.feedPresent_setPresent f k
    · rw [if_pos (State.task_folio hv)]
      exact State.feedCounts_counts hg hv hc
  case again =>
    intro f k s h hq
    have he : exec (.feedSignal f k) s = .next (s.raiseN 209 f) := congrArg Host.Outcome.next (if_pos h)
    exact ⟨_, he, s.raiseN_shown 209 f (by decide) hq, s.seq_raiseN 209 f (by decide), s.raiseN_frame 209 f (by decide)⟩

end

section
/-! SUPPORT. What the sequencer's ENABLE writes and its start leave (R169, R170, R199, R204). -/

namespace Sys2Proof.Machine

variable {R : Nat → Bool} {P : List Part} {s t u : State}

/-! ### The write of SEQ_CTRL -/

theorem regRow_seqCtrl : regRow Reg.SEQ_CTRL = some ⟨0x5000000, 1, 0x4, 1, 0x4, 0x106, 0x0, 0x7, 0x0, 0x1f0, 0x0, 0, 1⟩ := by
  decide +kernel

/-- ENABLE takes its write, and the write is of SEQ_CTRL alone (R204). -/
theorem State.writeSeqCtrl_leaves (s : State) (data : Word) :
    (s.writeRw Reg.SEQ_CTRL data).fld Reg.SEQ_CTRL Fld.SEQ_CTRL_ENABLE = Fld.SEQ_CTRL_ENABLE.get data ∧
      Frame (fun a => a == Reg.SEQ_CTRL) [] s (s.writeRw Reg.SEQ_CTRL data) :=
  ⟨State.fld_writeWord s _ data _ _ regRow_seqCtrl (by decide) (by decide) (by decide), Frame.refl.writeWord _ _ (by simp)⟩

/-- The sequencer armed for a start boundary, or disarmed (R199). -/
def State.seqArm (s : State) (start : Option Nat) (st : Nat) : State :=
  { s with seq := { s.seq with startArmed := start } }.setSeqState st

theorem State.seqArm_leaves (s : State) (start : Option Nat) {st : Nat} (h : st < 4) :
    (s.seqArm start st).seqState = st ∧ Frame (fun a => a == Reg.SEQ_STATUS) [.seq] s (s.seqArm start st) :=
  ⟨State.seqState_setSeqState _ st h, Frame.setSeqState (Frame.refl.seq (by simp) _) st (by simp)⟩

/-- After a write of SEQ_CTRL a step that leaves SEQ_CTRL shows ENABLE as written. -/
theorem State.seqEnable_shown {data : Word}
    (hF : Frame (fun a => a == Reg.SEQ_STATUS) [.seq] (s.writeRw Reg.SEQ_CTRL data) t) :
    t.fld Reg.SEQ_CTRL Fld.SEQ_CTRL_ENABLE = Fld.SEQ_CTRL_ENABLE.get data ∧
      Frame (fun a => a == Reg.SEQ_CTRL || a == Reg.SEQ_STATUS) [.seq] s t := by
  obtain ⟨hw, hW⟩ := s.writeSeqCtrl_leaves data
  exact ⟨(State.fld_congr (hF.1 _ (by decide)) _).trans hw,
    (hW.mono (fun a ha => by rw [ha]; rfl) (by simp)).trans (hF.mono (fun a ha => by rw [ha, Bool.or_true]) fun _ h => h)⟩

/-- What a write of SEQ_CTRL leaves of the state, of audio and of the folio. -/
theorem State.writeSeqCtrl_keeps (s : State) (data : Word) : (s.writeRw Reg.SEQ_CTRL data).seqState = s.seqState ∧
    (s.writeRw Reg.SEQ_CTRL data).audio = s.audio ∧ (s.writeRw Reg.SEQ_CTRL data).folio = s.folio ∧
    (s.writeRw Reg.SEQ_CTRL data).seq = s.seq := by
  obtain ⟨-, hW⟩ := s.writeSeqCtrl_leaves data
  have hnow := hW.now_eq fun a ha => by
    rw [inRange_iff] at ha
    simp only [Reg.SEQ_CTRL, beq_eq_false_iff_ne]
    omega
  refine ⟨State.fld_congr (hW.1 _ (by decide)) _, State.bit_congr (hW.1 _ (by decide)) _, ?_, hW.2 .seq (by simp)⟩
  rw [State.folio, State.folio, State.hz, State.hz, State.rate, State.rate, State.fld_congr (hW.1 _ (by decide)), hnow]

/-- ENABLE written 1 arms an idle sequencer (R199). -/
theorem State.seqEnable_arms {data : Word} (hd : Fld.SEQ_CTRL_ENABLE.get data = 1) (h : s.seqState = 0) :
    s.seqEnable data = (s.writeRw Reg.SEQ_CTRL data).seqArm (if s.audio then some (s.folio + 1) else none) 1 := by
  obtain ⟨hst, ha, hk, -⟩ := s.writeSeqCtrl_keeps data
  rw [State.seqEnable, if_pos hd, if_pos (hst.trans h), ha, hk]
  rfl

/-- ENABLE written 0 disarms an armed sequencer, and ends RUNNING (R199). -/
theorem State.seqEnable_off {data : Word} (hd : Fld.SEQ_CTRL_ENABLE.get data = 0) :
    s.seqEnable data = if s.seqState = 1 then (s.writeRw Reg.SEQ_CTRL data).seqArm none 0
      else (s.writeRw Reg.SEQ_CTRL data).seqStop := by
  obtain ⟨hst, -⟩ := s.writeSeqCtrl_keeps data
  rw [State.seqEnable, if_neg (by rw [hd]; decide), hst]
  rfl

theorem State.tasks_seqStop (s : State) : s.seqStop.seq.tasks = s.seq.tasks := by
  unfold State.seqStop
  split
  · split <;> rfl
  · split <;> rfl

/-! ### Steps of a creation -/

/-- The registers that a creation may write besides those of events. -/
def creationRegs (a : Nat) : Bool := a == Reg.SEQ_STATUS || a == Reg.SEQ_INFLIGHT || busRegs a

/-- From s to t folios have been created: no task is gone, and of SEQ only tasks, folios and the next folio have changed. -/
structure Creates (s t : State) : Prop where
  frame : FrameEv creationRegs [.seq] s t
  state : t.seqState = s.seqState
  seq   : t.seq = { s.seq with tasks := t.seq.tasks, info := t.seq.info, next := t.seq.next }
  tasks : ∀ p k, (s.task p k).isSome = true → (t.task p k).isSome = true

theorem Creates.refl : Creates s s := ⟨.refl, rfl, rfl, fun _ _ h => h⟩

theorem Creates.trans (h : Creates s t) (h' : Creates t u) : Creates s u :=
  ⟨Frame.trans h.frame h'.frame, h'.state.trans h.state, h'.seq.trans (by rw [h.seq]),
    fun p k hk => h'.tasks p k (h.tasks p k hk)⟩

theorem Creates.foldl {α : Type} (f : State → α → State) (l : List α) (h : Creates s t) (hf : ∀ u x, Creates u (f u x)) :
    Creates s (l.foldl f t) := by
  induction l generalizing t with
  | nil => exact h
  | cons x l ih => exact ih (h.trans (hf t x))

/-- Accesses to the bus and events are no matter of SEQ. -/
theorem Creates.of_bus (hF : FrameEv busRegs [] s t) : Creates s t := by
  have hseq : t.seq = s.seq := hF.2 .seq (by simp)
  exact ⟨hF.widen (fun a ha => by rw [creationRegs, ha, Bool.or_true]) (by simp), State.fld_congr (hF.1 _ (by decide)) _,
    by rw [hseq], fun p k h => by rwa [State.task_congr hseq]⟩

theorem Creates.updTask (s : State) (p k : Nat) {f : Task → Task}
    (hf : ∀ v, (f v).phrase = v.phrase ∧ (f v).folio = v.folio) : Creates s (s.updTask p k f) := by
  refine ⟨Frame.refl.seq (by simp) _, rfl, rfl, fun q j h => ?_⟩
  obtain ⟨v, hv, hk⟩ := List.find?_isSome.1 h
  refine List.find?_isSome.2 ⟨_, List.mem_map.2 ⟨v, hv, rfl⟩, ?_⟩
  split
  · rwa [(hf v).1, (hf v).2]
  · exact hk

theorem Creates.syncTasks (s : State) : Creates s s.syncTasks := by
  refine ⟨?_, SeqStands.refl.syncTasks.1, rfl, fun p k h => h⟩
  exact ((Frame.refl.setFld _ _ _ (by decide)).setFld _ _ _ (by decide)).setBit _ _ _ (by decide)

theorem Creates.startCount (s : State) (p k : Nat) : Creates s (s.startCount p k) := by
  unfold State.startCount
  extract_lets n m s1
  have h1 : FrameEv busRegs [] s s1 := .ite (Frame.raiseN .refl (AllowsEvents.ev _ _) 208 _ (by decide)) .refl
  exact (Creates.of_bus h1).trans (.updTask _ _ _ fun _ => ⟨rfl, rfl⟩)

/-! ### The creation of a folio -/

/-- The tasks and the record of a folio, before their counts (R163, R169). -/
def State.folioTasks (s : State) (k : Nat) : State :=
  { s with seq := { s.seq with
    tasks := s.seq.tasks ++ s.phrases.map (fun p => newTask p k false)
    info := s.seq.info ++ [(⟨k, none, false, false⟩ : FolioInfo)]
    next := k + 1 } }

theorem Creates.folioTasks (s : State) (k : Nat) : Creates s (s.folioTasks k) := by
  refine ⟨Frame.refl.seq (by simp) _, rfl, rfl, fun p j h => ?_⟩
  obtain ⟨v, hv, hk⟩ := List.find?_isSome.1 h
  exact List.find?_isSome.2 ⟨v, List.mem_append_left _ hv, hk⟩

theorem State.task_folioTasks (s : State) (k : Nat) {p : Nat} (hp : p ∈ s.phrases) :
    ((s.folioTasks k).task p k).isSome = true :=
  List.find?_isSome.2 ⟨newTask p k false, List.mem_append_right _ (List.mem_map.2 ⟨p, hp, rfl⟩), by simp [newTask]⟩

theorem Frame.unitReadBus (h : Frame R P s t) (hB : AllowsBus R P) (code addr n : Nat) :
    Frame R P s (t.unitRead code addr n).2 := by
  unfold State.unitRead
  split
  · exact (h.holdTags _ hB.inflight).vatRead hB _ _ _
  · exact (h.holdTags 1 hB.inflight).xbarErr hB _ _ _ _

theorem Frame.succReport (h : Frame R P s t) (hA : AllowsEvents R P) (k owner : Nat) (feed : Bool) (l : List Nat) :
    Frame R P s (t.succCheck k owner feed l) := by
  unfold State.succCheck
  exact .ite (h.raiseOnce hA _ _ 208 _ (by decide)) h

/-- The creation of a folio adds its tasks; the reads of the tables, the reports of their errors and the counts take none away
(R163, R169, R170, R677). -/
theorem State.createFolio_creates (s : State) (k : Nat) : Creates s (s.createFolio k) ∧
    ∀ p ∈ s.phrases, ((s.createFolio k).task p k).isSome = true := by
  suffices h : Creates (s.folioTasks k) (s.createFolio k) from
    ⟨(Creates.folioTasks s k).trans h, fun p hp => h.tasks p k (s.task_folioTasks k hp)⟩
  have hB : AllowsBus (fun a => eventReg a || busRegs a) [.events] := AllowsBus.ev []
  unfold State.createFolio
  extract_lets ps _ s1 s2 s3 s4
  have h1 : FrameEv busRegs [] (s.folioTasks k) s1 := .foldl _ _ .refl fun _ _ _ hu => hu.unitReadBus hB _ _ _
  have h2 : FrameEv busRegs [] (s.folioTasks k) s2 := .foldl _ _ h1 fun _ _ _ hu => .ite (hu.raiseN hB.1 208 _ (by decide)) hu
  have h3 : FrameEv busRegs [] (s.folioTasks k) s3 := .foldl _ _ h2 fun _ _ _ hu => hu.succReport hB.1 _ _ _ _
  have h4 : FrameEv busRegs [] (s.folioTasks k) s4 := .foldl _ _ h3 fun _ _ _ hu => hu.succReport hB.1 _ _ _ _
  have h5 := (Creates.foldl (fun s p => s.startCount p k) ps (.of_bus h4) fun u p => .startCount u p k).trans (.syncTasks _)
  exact h5.trans (.of_bus (.noEngine .refl hB.1))

/-! ### The start -/

/-- The phrases that exist are read from the tables of SEQ (R163, R164). -/
theorem Frame.phrases_eq (h : Frame R P s t) (hm : Part.mem ∉ P) (he : Part.ecc ∉ P)
    (hR : ∀ a ∈ [Reg.SEQ_PTAB, Reg.SEQ_CTRL, Reg.SEQ_COUNTS, Reg.TIME_CTRL], R a = false) : t.phrases = s.phrases := by
  have hT : SameTables s { t with seq := s.seq } := ⟨h.1 _ (hR _ (by decide)), h.1 _ (hR _ (by decide)),
    h.1 _ (hR _ (by decide)), h.2 _ hm, h.2 _ he, rfl, rfl, rfl⟩
  have hv : t.pValid = s.pValid := funext fun p => congrArg (Nat.testBit · 0) (hT.pword p 0)
  rw [State.phrases, State.phrases, State.nPhrase, State.nPhrase, State.fld_congr (h.1 _ (hR Reg.SEQ_COUNTS (by decide))), hv]

theorem Creates.phrases (h : Creates s t) : t.phrases = s.phrases := h.frame.phrases_eq (by simp) (by simp) (by decide)

/-- Folios that are created one after the other hold a task of every phrase each (R163, R169). -/
theorem State.createFolios_creates (s : State) (n : Nat) : Creates s (s.createFolios n) ∧
    ∀ p ∈ s.phrases, ∀ i, i < n → ((s.createFolios n).task p (s.seq.next + i)).isSome = true := by
  induction n generalizing s with
  | zero => exact ⟨.refl, fun _ _ i hi => absurd hi (Nat.not_lt_zero i)⟩
  | succ n ih =>
    obtain ⟨h1, hfirst⟩ := s.createFolio_creates s.seq.next
    obtain ⟨h2, hrest⟩ := ih (s.createFolio s.seq.next)
    refine ⟨h1.trans h2, fun p hp i hi => ?_⟩
    cases i with
    | zero => exact h2.tasks p _ (hfirst p hp)
    | succ i =>
      rw [← h1.phrases] at hp
      have h := hrest p hp i (by omega)
      rwa [(s.createFolio_next s.seq.next).1, Nat.add_assoc, Nat.add_comm 1 i] at h

/-- The sequencer in RUNNING with its first folio, before the creation of any (R199). -/
def State.seqRuns (s : State) (k : Nat) : State :=
  let s1 := (s.setSeqState 2).foldAllFlips
  { s1 with seq := { s1.seq with first := k, next := k, released := none, slotOf := [], startArmed := none
                                 copies := [], info := [] } }

theorem State.seqRuns_leaves (s : State) (k : Nat) : (s.seqRuns k).seqState = 2 ∧ (s.seqRuns k).runahead = s.runahead ∧
    (s.seqRuns k).phrases = s.phrases ∧ Frame (fun a => a == Reg.SEQ_STATUS) [.seq] s (s.seqRuns k) := by
  have hF : Frame (fun a => a == Reg.SEQ_STATUS) [.seq] s (s.seqRuns k) :=
    Frame.seq ((Frame.refl.setSeqState 2 (by simp)).foldAllFlips (by simp)) (by simp) _
  refine ⟨State.seqState_setSeqState s 2 (by decide), congrArg (max 1) (State.fld_congr (hF.1 _ (by decide)) _),
    hF.phrases_eq (by simp) (by simp) (by decide), hF⟩

/-- At its start boundary the sequencer runs, with the tasks of RUNAHEAD folios (R169, R199). -/
theorem State.seqBegin_leaves (s : State) (k : Nat) : (s.seqBegin k).seqState = 2 ∧ (s.seqBegin k).seq.first = k ∧
    (s.seqBegin k).seq.next = k + s.runahead ∧ (s.seqBegin k).seq.released = none ∧
    (∀ p ∈ s.phrases, ∀ i, i < s.runahead → ((s.seqBegin k).task p (k + i)).isSome = true) ∧
    FrameEv (fun a => seqRegs a || busRegs a) [.seq] s (s.seqBegin k) := by
  obtain ⟨hst, hra, hps, hF⟩ := s.seqRuns_leaves k
  have he : s.seqBegin k = (s.seqRuns k).createFolios (s.seqRuns k).runahead := rfl
  obtain ⟨hC, htasks⟩ := (s.seqRuns k).createFolios_creates (s.seqRuns k).runahead
  obtain ⟨hnext, hrel⟩ := (s.seqRuns k).createFolios_next (s.seqRuns k).runahead
  rw [← he] at hC htasks hnext hrel
  rw [hra, hps] at htasks
  rw [hra] at hnext
  refine ⟨hC.state.trans hst, congrArg SeqSt.first hC.seq, hnext, hrel, htasks, ?_⟩
  refine (hF.toEv.widen (fun a ha => ?_) (by simp)).trans (hC.frame.widen (fun a ha => ?_) (by simp))
  · rw [beq_iff_eq.1 ha]
    decide
  · rw [creationRegs, Bool.or_eq_true, Bool.or_eq_true, beq_iff_eq, beq_iff_eq] at ha
    rcases ha with (rfl | rfl) | ha
    · decide
    · decide
    · rw [ha, Bool.or_true]

end Sys2Proof.Machine
end

section
/-! The states of the sequencer. -/
open Sys2Proof Sys2Proof.Machine

/-- Settles O23: ENABLE is the write of SEQ_CTRL, then the sequencer armed, disarmed or stopped; the start is RUNNING, then a
creation for each folio of RUNAHEAD, which takes no task away. -/
theorem sequencerStates : Obligations.SequencerStates := by
  unfold Obligations.SequencerStates
  refine ⟨?arm, ?off, ?start⟩
  case arm =>
    intro data s hd h
    obtain ⟨hst, hF⟩ := (s.writeRw Reg.SEQ_CTRL data).seqArm_leaves
      (if s.audio then some (s.folio + 1) else none) (st := 1) (by decide)
    rw [← State.seqEnable_arms hd h] at hst hF
    obtain ⟨hen, hframe⟩ := State.seqEnable_shown hF
    exact ⟨_, rfl, hst, hen.trans hd, by rw [State.seqEnable_arms hd h]; rfl, hframe⟩
  case off =>
    intro data s hd
    obtain ⟨hst, -, -, hseq⟩ := s.writeSeqCtrl_keeps data
    have he := s.seqEnable_off hd
    obtain ⟨harm, hA⟩ := (s.writeRw Reg.SEQ_CTRL data).seqArm_leaves none (st := 0) (by decide)
    have hF : Frame (fun a => a == Reg.SEQ_STATUS) [.seq] (s.writeRw Reg.SEQ_CTRL data) (s.seqEnable data) := by
      rw [he]
      exact .ite hA (Frame.refl.seqStop (by simp) (by simp))
    obtain ⟨hen, hframe⟩ := State.seqEnable_shown hF
    have hrun : s.seqState = 2 → s.seqEnable data = (s.writeRw Reg.SEQ_CTRL data).seqStop := fun h => by
      rw [he, if_neg (by omega)]
    refine ⟨_, rfl, hen.trans hd, fun h => ?_, fun h hi => ?_, fun h hi => ?_, ?_, hframe⟩
    · rw [he, if_pos h]
      exact ⟨harm, rfl⟩
    · rw [hrun h]
      exact (State.seqStop_running _ (hst.trans h)).2 (by rwa [hseq])
    · rw [hrun h]
      exact (State.seqStop_running _ (hst.trans h)).1 (by rwa [hseq])
    · rw [he]
      split
      · exact (congrArg SeqSt.tasks hseq :)
      · rw [State.tasks_seqStop, hseq]
  case start =>
    intro k s hst harm ha hk
    have he : exec (.seqStart k) s = .next (s.seqBegin k) := congrArg Host.Outcome.next (if_pos ⟨hst, harm, ha, hk⟩)
    exact ⟨_, he, s.seqBegin_leaves k⟩

end

section
/-! Tasks given up at a deadline, by a cancel or by an error of the tables. -/
open Sys2Proof Sys2Proof.Machine

namespace Sys2Proof.Machine

/-- The task of phrase 0 and folio 0 runs on engine 64, past the 64 engines of the device, which holds it and is in RUN. -/
def strayRunState : State :=
  ({ seq := { tasks := [⟨0, 0, 0, .running 64, false, true, none, 0⟩] }
     pe := [(64, { task := some (0, 0) })] } : State).setPeState 64 2

/-- A cancel aborts the engine that its task names, whatever its number: it goes from RUN to DRAIN (R148, R196). -/
theorem strayRunState_seqCancel : strayRunState.peState 64 = 2 ∧ (strayRunState.seqCancel 0 0).peState 64 = 3 := by decide +kernel

end Sys2Proof.Machine

/-- Refutes O25: its clause on a cancel ranges over every state, and where the task named runs on an engine beyond the 64 of the
device, the abort writes a PE_STATUS that lies beyond those that the clause's frame allows to change. -/
theorem not_tasksGivenUp : ¬ Obligations.TasksGivenUp := by
  rintro ⟨-, hcancel, -⟩
  obtain ⟨t, ht, -, -, -, -, hframe⟩ := hcancel 0 0 strayRunState _ rfl rfl
  obtain rfl : strayRunState.seqCancel 0 0 = t := Host.Outcome.next.inj ht
  have hkept : (strayRunState.seqCancel 0 0).peState 64 = strayRunState.peState 64 :=
    State.fld_congr (hframe.reg_eq _ (by decide) (by decide +kernel)) _
  obtain ⟨hrun, hdrain⟩ := strayRunState_seqCancel
  rw [hrun, hdrain] at hkept
  exact absurd hkept (by decide)

end

section
/-! SUPPORT. Accesses of a unit to vat memory, and the substitution of a task, take no cause bit back (R172, R181, R183, R402,
R404). -/

namespace Sys2Proof.Machine

variable {s t u : State}

theorem CauseLe.ite {c : Prop} [Decidable c] (h1 : CauseLe s t) (h2 : CauseLe s u) : CauseLe s (if c then t else u) := by
  split
  · exact h1
  · exact h2

theorem CauseLe.raiseOnce (h : CauseLe s t) (key k src w3 : Nat) : CauseLe s (t.raiseOnce key k src w3) := by
  have hr : CauseLe s { t with raised := SMap.set 0 t.raised key (k + 1) } := h.of_regs rfl rfl
  unfold State.raiseOnce
  exact .ite h (hr.raiseN src w3)

theorem CauseLe.raiseMs (h : CauseLe s t) (key src w3 : Nat) : CauseLe s (t.raiseMs key src w3) := by
  have hr : CauseLe s { t with raised := SMap.set 0 t.raised key (t.now + 1) } := h.of_regs rfl rfl
  unfold State.raiseMs
  exact .ite h (hr.raiseN src w3)

/-! ### Accesses of a unit -/

theorem CauseLe.xbarErr (h : CauseLe s t) (code addr : Nat) (write : Bool) (cause : Nat) :
    CauseLe s (t.xbarErr code addr write cause) :=
  ((h.setRegN Reg.XBAR_ERR_ADDR addr (by decide)).setRegN Reg.XBAR_ERR_INFO _ (by decide)).raiseN 160 _

theorem CauseLe.vatCorr (h : CauseLe s t) (addr n : Nat) : CauseLe s (t.vatCorr addr n) := by
  unfold State.vatCorr State.vatCount
  exact .ite h ((h.setRegN _ _ (by decide)).raiseMs _ 161 _)

theorem CauseLe.vatCorrs (h : CauseLe s t) (ws : List Nat) : CauseLe s (ws.foldl (fun s w => s.vatCorr w 8) t) :=
  .foldl _ _ h fun _ _ hu => hu.vatCorr _ _

theorem CauseLe.unitErr (h : CauseLe s t) (code addr : Nat) (write : Bool) : CauseLe s (t.unitErr code addr write) :=
  (h.holdTags 1).xbarErr _ _ _ _

theorem CauseLe.vatCheck (h : CauseLe s t) (code addr n : Nat) : CauseLe s (t.vatCheck code addr n) := by
  unfold State.vatCheck
  exact .ite (h.xbarErr _ _ _ _) (.ite (((h.vatCorr _ _).raiseN 162 _).xbarErr _ _ _ _) (h.vatCorr _ _))

theorem CauseLe.unitRead (h : CauseLe s t) (code addr n : Nat) : CauseLe s (t.unitRead code addr n).2 := by
  unfold State.unitRead
  split
  · exact .foldl _ _ (h.holdTags _) fun _ _ hu => hu.vatCheck _ _ _
  · exact h.unitErr _ _ _

theorem CauseLe.vatPut (h : CauseLe s t) (code addr : Nat) (bs : List Byte) : CauseLe s (t.vatPut code addr bs).2 := by
  unfold State.vatPut
  dsimp only
  split
  · exact h.xbarErr _ _ _ _
  · split
    · exact ((h.vatCorrs _).raiseN 162 _).xbarErr _ _ _ _
    · exact (h.vatCorrs _).of_regs rfl rfl

/-- Steps that hand on an answer besides the state. -/
theorem CauseLe.foldl_snd {α β : Type} (f : β × State → α → β × State) (l : List α) {r : β × State} (h : CauseLe s r.2)
    (hf : ∀ r x, CauseLe s r.2 → CauseLe s (f r x).2) : CauseLe s (l.foldl f r).2 := by
  induction l generalizing r with
  | nil => exact h
  | cons x l ih => exact ih (hf r x h)

theorem CauseLe.unitWrite (h : CauseLe s t) (code addr : Nat) (bs : List Byte) : CauseLe s (t.unitWrite code addr bs).2 := by
  unfold State.unitWrite
  split
  · exact .foldl_snd _ _ (h.holdTags _) fun _ _ hr => hr.vatPut _ _ _
  · exact h.unitErr _ _ _

/-! ### Tasks -/

theorem CauseLe.noEngine (h : CauseLe s t) : CauseLe s t.noEngine := by
  unfold State.noEngine
  exact .foldl _ _ h fun _ _ hu => .ite (hu.raiseOnce _ _ 207 _) hu

theorem CauseLe.decTask (h : CauseLe s t) (p k : Nat) : CauseLe s (t.decTask p k) := by
  unfold State.decTask
  split
  · exact h
  · exact .ite (h.raiseN 208 _) (h.of_regs rfl rfl)

theorem CauseLe.finTask (h : CauseLe s t) (p k : Nat) : CauseLe s (t.finTask p k) := by
  unfold State.finTask State.succCheck
  extract_lets l s1
  have h1 : CauseLe s s1 := .foldl _ _ (.ite (h.raiseOnce _ _ 208 _) h) fun _ q hu => hu.decTask q k
  exact .ite (h1.decTask _ _) h1

theorem CauseLe.syncTasks (h : CauseLe s t) : CauseLe s t.syncTasks :=
  ((h.setFld _ _ _ (by decide)).setFld _ _ _ (by decide)).setBit _ _ _ (by decide)

theorem CauseLe.seqCopyOut (h : CauseLe s t) (src dst n : Nat) : CauseLe s (t.seqCopyOut src dst n).2 := by
  unfold State.seqCopyOut
  split
  · exact h
  · dsimp only
    split
    · exact h.unitRead _ _ _
    · exact (h.unitRead _ _ _).unitWrite _ _ _

theorem CauseLe.substitute (h : CauseLe s t) (p k : Nat) : CauseLe s (t.substitute p k) := by
  unfold State.substitute
  extract_lets n dst start r c s1 _ s2
  have h1 : CauseLe s s1 := (h.seqCopyOut _ _ _).setRegN _ _ (by decide)
  have h2 : CauseLe s s2 := h1.of_regs rfl rfl
  exact (h2.finTask p k).syncTasks

theorem CauseLe.failTask (h : CauseLe s t) (p k : Nat) (st : TaskState) : CauseLe s (t.failTask p k st) := by
  unfold State.failTask
  split
  · exact h
  · exact .ite ((h.substitute p k).raiseN 206 _).noEngine h

end Sys2Proof.Machine
end

section
/-! SUPPORT. The end of a task stays as SEQ has noted it: what its successors count down changes no task that has ended (R172,
R181, R183). -/

namespace Sys2Proof.Machine

variable {s t : State} {p k : Nat} {x : TaskState} {d : BitVec 64}

/-- The task of a phrase and folio stands in a state, with a digest. -/
def TaskIs (p k : Nat) (x : TaskState) (d : BitVec 64) (s : State) : Prop := ∃ v, s.task p k = some v ∧ v.st = x ∧ v.digest = d

theorem TaskIs.congr (h : TaskIs p k x d s) (hs : t.seq = s.seq) : TaskIs p k x d t := by
  rwa [TaskIs, State.task_congr hs]

theorem TaskIs.map_eq (h : TaskIs p k x d s) : (s.task p k).map (fun w => (w.st, w.digest)) = some (x, d) := by
  obtain ⟨v, hv, rfl, rfl⟩ := h
  rw [hv]
  rfl

theorem TaskIs.map_st (h : TaskIs p k x d s) : (s.task p k).map (·.st) = some x := by
  obtain ⟨v, hv, rfl, -⟩ := h
  rw [hv]
  rfl

/-- A task after a change of the task of any phrase and folio. -/
theorem State.task_updTask_any (s : State) (q j : Nat) {f : Task → Task}
    (hf : ∀ v, (f v).phrase = v.phrase ∧ (f v).folio = v.folio) :
    (s.updTask q j f).task p k = (s.task p k).map fun v => if v.phrase = q ∧ v.folio = j then f v else v := by
  have hkey : ((fun v : Task => v.phrase == p && v.folio == k) ∘ fun v => if v.phrase = q ∧ v.folio = j then f v else v) =
      fun v => v.phrase == p && v.folio == k := by
    funext v
    by_cases h : v.phrase = q ∧ v.folio = j
    · simp [h, hf]
    · simp [h]
  rw [State.task, State.updTask, List.find?_map, hkey, ← State.task]

theorem State.updTask_taskIs {f : Task → Task} {v : Task} (hf : ∀ v, (f v).phrase = v.phrase ∧ (f v).folio = v.folio)
    (hv : s.task p k = some v) (hx : (f v).st = x) (hd : (f v).digest = d) : TaskIs p k x d (s.updTask p k f) :=
  ⟨f v, by rw [State.task_updTask hf, hv]; rfl, hx, hd⟩

theorem TaskIs.updTask {f : Task → Task} (h : TaskIs p k x d s) (q j : Nat)
    (hf : ∀ v, (f v).phrase = v.phrase ∧ (f v).folio = v.folio) (hx : ∀ v, v.st = x → (f v).st = x)
    (hd : ∀ v, (f v).digest = v.digest) : TaskIs p k x d (s.updTask q j f) := by
  obtain ⟨v, hv, hst, rfl⟩ := h
  rw [TaskIs, State.task_updTask_any s q j hf, hv]
  refine ⟨_, rfl, ?_, ?_⟩
  all_goals dsimp only
  · split
    · exact hx v hst
    · exact hst
  · split
    · exact hd v
    · rfl

/-- A count changes the state of a task that is pending only. -/
theorem TaskIs.decTask (hx : x ≠ .pending) (h : TaskIs p k x d s) (q j : Nat) : TaskIs p k x d (s.decTask q j) := by
  unfold State.decTask
  split
  · exact h
  · split
    · exact h.congr (s.seq_raiseN 208 _ (by decide))
    · exact h.updTask q j (fun _ => ⟨rfl, rfl⟩) (fun v hv => (if_neg fun h => hx (hv.symm.trans h.2)).trans hv) fun _ => rfl

theorem TaskIs.finTask (hx : x ≠ .pending) (h : TaskIs p k x d s) (q j : Nat) : TaskIs p k x d (s.finTask q j) := by
  have hfold : ∀ (l : List Nat) (u : State), TaskIs p k x d u → TaskIs p k x d (l.foldl (fun s q => s.decTask q j) u) := by
    intro l
    induction l with
    | nil => exact fun _ hu => hu
    | cons q l ih => exact fun u hu => ih _ (hu.decTask hx q j)
  unfold State.finTask
  extract_lets l s1
  have h1 : TaskIs p k x d s1 := hfold _ _ (h.congr (s.seq_succCheck j q false l))
  split
  · exact h1.decTask hx _ _
  · exact h1

/-- A task is substituted, whatever the copy of its output meets (R181). -/
theorem State.substitute_taskIs {v : Task} (hv : s.task p k = some v) : TaskIs p k .substituted 0 (s.substitute p k) := by
  unfold State.substitute
  extract_lets n dst start r c s1 _ s2
  have h1 : s1.task p k = some v := (State.task_congr ((OffSeq.refl.seqCopyOut _ _ _).2 .seq (by decide)) p k).trans hv
  clear_value s1
  have h2 : TaskIs p k .substituted 0 s2 := State.updTask_taskIs (fun _ => ⟨rfl, rfl⟩) h1 rfl rfl
  exact (h2.finTask (by decide) p k).congr (State.seq_syncTasks _)

/-- A task that SEQ holds in the state named is substituted when it fails (R183). -/
theorem State.failTask_taskIs {v : Task} (hv : s.task p k = some v) : TaskIs p k .substituted 0 (s.failTask p k v.st) := by
  have he : s.failTask p k v.st = ((s.substitute p k).taskSub p k).noEngine := by
    rw [State.failTask, hv]
    exact if_pos rfl
  rw [he]
  exact ((State.substitute_taskIs hv).congr (State.seq_raiseN _ 206 _ (by decide))).congr (State.seq_noEngine _)

/-- A task that SEQ holds in the state named is done, with its digest, when it completes (R146, R172). -/
theorem State.completeTask_taskIs {v : Task} (hv : s.task p k = some v) (d : BitVec 64) :
    TaskIs p k .done d (s.completeTask p k v.st d) := by
  unfold State.completeTask
  rw [hv]
  dsimp only
  rw [if_pos rfl]
  have h1 : TaskIs p k .done d (s.updTask p k fun t => { t with st := .done, digest := d }) :=
    State.updTask_taskIs (fun _ => ⟨rfl, rfl⟩) hv rfl rfl
  refine TaskIs.congr (TaskIs.finTask (by decide) ?_ p k) (State.seq_noEngine _)
  split <;> exact h1

end Sys2Proof.Machine
end

section
/-! SUPPORT. MIX at work: what the computation of a task may change before the task ends (R214-R231, R402, R404, R678). -/

namespace Sys2Proof.Machine

variable {s t u : State}

/-- The registers of MIX, of SEQ and of the bus. -/
def mixTaskRegs (a : Nat) : Bool := mixRegs a || seqRegs a || busRegs a

theorem allowsCopy_mix : AllowsCopy (fun a => eventReg a || mixTaskRegs a) [.events, .seq, .mem, .ecc] :=
  ⟨⟨AllowsEvents.ev _ _, fun a ha => by simp [mixTaskRegs, ha], by simp⟩, fun a ha => by simp [mixTaskRegs, ha], by simp,
    by simp⟩

/-- From s to t MIX has computed: blocks are written, counts and events follow, and neither the tasks of SEQ nor the queue of MIX
have changed. -/
def MixWorks (s t : State) : Prop := FrameEv mixTaskRegs [.mem, .ecc] s t

theorem allowsBus_mix : AllowsBus (fun a => eventReg a || mixTaskRegs a) [.events, .mem, .ecc] :=
  ⟨AllowsEvents.ev _ _, allowsCopy_mix.2.1⟩

theorem MixWorks.refl : MixWorks s s := Frame.refl

theorem MixWorks.takeFree (h : MixWorks s t) : MixWorks s t.takeFree.2 := Frame.takeFree h (by simp)

theorem MixWorks.unitRead (h : MixWorks s t) (code addr n : Nat) : MixWorks s (t.unitRead code addr n).2 :=
  Frame.unitReadBus h allowsBus_mix code addr n

theorem MixWorks.unitWrite (h : MixWorks s t) (code addr : Nat) (bs : List Byte) : MixWorks s (t.unitWrite code addr bs).2 := by
  have hseq : (t.unitWrite code addr bs).2.seq = t.seq := (OffSeq.refl.unitWrite code addr bs).2 .seq (by decide)
  refine Frame.trans h (Frame.drop (Frame.unitWrite allowsCopy_mix .refl code addr bs) fun p hp hq => ?_)
  obtain rfl : p = .seq := by
    simp only [List.mem_cons, List.not_mem_nil, or_false] at hp hq
    tauto
  exact hseq

theorem MixWorks.noted (h : MixWorks s t) {a : Nat} (n key k src w3 : Nat) (ha : mixRegs a = true) (hs : src < 320) :
    MixWorks s ((t.countHold a n).raiseOnce key k src w3) :=
  Frame.raiseOnce (Frame.countHold h a n (by simp [mixTaskRegs, ha])) allowsBus_mix.1 key k src w3 hs

/-! ### Crosspoints -/

theorem MixWorks.mixRead (h : MixWorks s t) (addr n : Nat) : MixWorks s (t.mixRead addr n).2 := by
  unfold State.mixRead
  split
  · exact h
  · exact h.unitRead _ _ _

theorem MixWorks.mixSource (h : MixWorks s t) (x : Xp) (k : Nat) : MixWorks s (t.mixSource x k).2 := by
  have h1 := h.unitRead mixCode ((x.base + k % 4 * x.stride) % 2 ^ 32) 32
  unfold State.mixSource
  dsimp only
  split
  · exact h1
  · split
    · exact h1
    · split <;> exact h1.unitRead _ _ _

theorem MixWorks.mixXp (h : MixWorks s t) (j : MixJob) (x : Xp) (i idlePos : Nat) (m : MixRun) :
    MixWorks s (t.mixXp j x i idlePos m).2 := by
  unfold State.mixXp
  split
  · exact h
  · split
    · exact h
    · dsimp only
      split <;> exact h.mixSource x j.folio

theorem MixWorks.mixXps (h : MixWorks s t) (j : MixJob) (recs : List Byte) (first idlePos : Nat) (is : List Nat) (m : MixRun) :
    MixWorks s (t.mixXps j recs first idlePos is m).2 := by
  induction is generalizing t m with
  | nil => exact h
  | cons i is ih =>
    have h1 := h.mixXp j (Xp.of (slice recs (16 * (i - first)) 16)) i idlePos m
    unfold State.mixXps
    dsimp only
    split
    · exact h1
    · exact ih h1 _

/-! ### Buses -/

theorem MixWorks.mixRow (h : MixWorks s t) (j : MixJob) (r : MixRow) : MixWorks s (t.mixRow j r).2 := by
  unfold State.mixRow
  extract_lets w k s1 s2
  have h0 : MixWorks s w.2 := h.unitWrite _ _ _
  have h1 : MixWorks s s1 := by
    unfold s1
    split
    · exact h0
    · exact h0.noted _ _ _ 224 _ (by decide) (by decide)
  unfold s2
  split
  · exact h1
  · exact h1.noted _ _ _ 225 _ (by decide) (by decide)

theorem MixWorks.mixBus (h : MixWorks s t) (j : MixJob) (xo idlePos i : Nat) (m : MixRun) :
    MixWorks s (t.mixBus j xo idlePos i m).2 := by
  unfold State.mixBus
  extract_lets r b is x y o
  have h1 : MixWorks s r.2 := h.mixRead _ _
  have h2 : MixWorks s o.2 := ((h1.mixRead _ _).mixRead _ _).mixRead _ _
  clear_value r o
  split
  · exact h1
  · split
    · exact h1
    · split
      · extract_lets _ m1 q w p st'
        have h3 : MixWorks s q.2 := h2.mixXps _ _ _ _ _ _
        split
        · exact h2
        · split
          · exact h3
          · exact h3.mixRow _ _
      · exact h2

theorem MixWorks.mixBuses (h : MixWorks s t) (j : MixJob) (xo idlePos : Nat) (is : List Nat) (m : MixRun) :
    MixWorks s (t.mixBuses j xo idlePos is m).2 := by
  induction is generalizing t m with
  | nil => exact h
  | cons i is ih =>
    have h1 := h.mixBus j xo idlePos i m
    unfold State.mixBuses
    dsimp only
    split
    · exact h1
    · exact ih h1 _

/-! ### Tasks -/

theorem MixWorks.mixRest (h : MixWorks s t) (j : MixJob) (is : List Nat) (m : MixRun) : MixWorks s (t.mixRest j is m).2 := by
  induction is generalizing t m with
  | nil => exact h
  | cons i is ih =>
    have h1 := h.mixRead (j.stateIn + 16 * i) 16
    unfold State.mixRest
    dsimp only
    split
    · exact ih h m
    · split
      · exact h1
      · exact ih h1 _

theorem MixWorks.mixRun (h : MixWorks s t) (j : MixJob) (limit : Nat) : MixWorks s (t.mixRun j limit).2 := by
  have h1 := h.takeFree.mixRead j.param 16
  unfold State.mixRun
  dsimp only
  split
  · exact h1
  · split
    · exact h1
    · exact h1.mixBuses _ _ _ _ _

/-- A whole task, run from s on. -/
theorem State.mixWhole_works (s : State) (j : MixJob) : MixWorks s (s.mixWhole j).2 := by
  have h1 := MixWorks.refl.mixRun (s := s) j 1024
  unfold State.mixWhole
  dsimp only
  split
  · exact h1
  · exact h1.mixRest _ _ _

end Sys2Proof.Machine
end

section
/-! SUPPORT. The ends of a mix task: MIX is idle again, and SEQ has its completion, its fault or the acknowledgement of its abort
(R212, R213, R217, R678). -/

namespace Sys2Proof.Machine

variable {s t u : State} {j : MixJob}

theorem allowsSeq_ev : AllowsSeq (fun a => eventReg a || seqRegs a) [.events, .seq] :=
  ⟨AllowsEvents.ev _ _, fun a ha => by simp [ha], by simp⟩

/-- The task that MIX held in s has ended in t. -/
structure MixEnds (s t : State) : Prop where
  running : t.mix.running = none
  queue   : t.mix.queue = s.mix.queue
  busy    : t.bit Reg.MIX_STATUS Fld.MIX_STATUS_BUSY = false
  frame   : FrameEv mixTaskRegs [.seq, .mix, .mem, .ecc] s t

/-- MIX is idle, with the cycles of the task counted, once it has computed. -/
theorem MixWorks.idle (h : MixWorks s t) (n : Nat) : MixEnds s (t.count64 Reg.MIX_BUSY_CYCLES n).mixIdle := by
  have hmix : t.mix = s.mix := h.2 .mix (by simp)
  have hF : FrameEv mixTaskRegs [.seq, .mix, .mem, .ecc] s t := FrameEv.widen h (fun _ h => h) (by simp)
  have hc : FrameEv mixTaskRegs [.seq, .mix, .mem, .ecc] s (t.count64 Reg.MIX_BUSY_CYCLES n) :=
    Frame.count64 hF _ _ (by decide) (by decide)
  exact ⟨rfl, (congrArg MixSt.queue hmix :), State.bit_setBit_same _ _ _ _ (by decide) rfl,
    (Frame.mix hc (by simp) _).setBit _ _ _ (by decide)⟩

/-- What the sequencer makes of the end leaves MIX idle. -/
theorem MixEnds.after (h : MixEnds s t) (hF : FrameEv (fun a => seqRegs a || busRegs a) [.seq, .mem, .ecc] t u) :
    MixEnds s u := by
  obtain ⟨hr, hq, hb, hf⟩ := h
  have hmix : u.mix = t.mix := hF.2 .mix (by simp)
  refine ⟨by rw [hmix, hr], by rw [hmix, hq], (State.bit_congr (hF.1 _ (by decide)) _).trans hb, hf.trans ?_⟩
  exact hF.widen (fun a ha => by rw [mixTaskRegs, Bool.or_assoc, ha, Bool.or_true]) (by simp)

theorem MixEnds.failTask (h : MixEnds s t) (p k : Nat) (st : TaskState) : MixEnds s (t.failTask p k st) :=
  h.after (Frame.failTask allowsCopy_ev .refl p k st)

/-- A fault completion, once MIX has computed up to the error (R217). -/
theorem MixWorks.fault (h : MixWorks s t) (cause : Nat) : MixEnds s (t.mixFault j cause) ∧
    (s.tally.silent = false → (t.mixFault j cause).shown 226) ∧
    ∀ v, s.task j.phrase j.folio = some v → v.st = .mix → TaskIs j.phrase j.folio .substituted 0 (t.mixFault j cause) := by
  have h1 := h.takeFree.idle t.takeFree.1
  have hseq : (t.takeFree.2.count64 Reg.MIX_BUSY_CYCLES t.takeFree.1).mixIdle.seq = s.seq := h.2 .seq (by simp)
  unfold State.mixFault
  dsimp only
  generalize (t.takeFree.2.count64 Reg.MIX_BUSY_CYCLES t.takeFree.1).mixIdle = w at h1 hseq ⊢
  have hR := w.raiseN_frame 226 (j.phrase + cause * 2 ^ 12) (by decide)
  refine ⟨(h1.after (hR.widen (fun _ h => Bool.noConfusion h) (by simp))).failTask _ _ _, fun hs => ?_, fun v hv hst => ?_⟩
  · refine (CauseLe.refl.failTask _ _ _).shown 226 (by decide) (w.raiseN_shown 226 _ (by decide) ?_)
    rw [h1.frame.silent_eq (by simp), hs]
  · rw [← hst]
    exact State.failTask_taskIs ((State.task_congr ((hR.2 .seq (by simp)).trans hseq) _ _).trans hv)

/-- An abort stops the task at a bus record, with its acknowledgement or with the error found by then (R213). -/
theorem State.mixStop_leaves (s : State) (j : MixJob) : MixEnds s (s.mixStop j) ∧
    ∀ v, s.task j.phrase j.folio = some v → v.st = .mix → TaskIs j.phrase j.folio .substituted 0 (s.mixStop j) := by
  have h1 := MixWorks.refl.takeFree.mixRun (s := s) j (s.takeFree.1 / 2 % 1025)
  unfold State.mixStop
  dsimp only
  generalize s.takeFree.2.mixRun j (s.takeFree.1 / 2 % 1025) = r at h1 ⊢
  split
  · next cause _ _ =>
    obtain ⟨hE, -, hsub⟩ := h1.fault (j := j) cause
    exact ⟨hE, hsub⟩
  · have hseq : (r.2.takeFree.2.count64 Reg.MIX_BUSY_CYCLES r.2.takeFree.1).mixIdle.seq = s.seq := h1.2 .seq (by simp)
    refine ⟨(h1.takeFree.idle _).failTask _ _ _, fun v hv hst => ?_⟩
    rw [← hst]
    exact State.failTask_taskIs ((State.task_congr hseq _ _).trans hv)

/-- The state in which SEQ learns that MIX has completed a task: its state is written, its cycles are counted (R178, R212). -/
def State.mixWritten (s : State) (j : MixJob) : State :=
  (((s.mixWhole j).2.unitWrite mixCode j.stateOut (s.mixWhole j).1.st).2.count64 Reg.MIX_BUSY_CYCLES
    (64 + 4 * (s.mixWhole j).1.nbus + ((s.mixWhole j).1.nxp + 1) / 2)).mixIdle

theorem State.mixDone_completes (hr : s.mix.running = some j) (ha : s.mix.aborting = false) (he : (s.mixWhole j).1.err = none)
    (hw : ((s.mixWhole j).2.unitWrite mixCode j.stateOut (s.mixWhole j).1.st).1 = true) :
    s.mixDone = (s.mixWritten j).completeTask j.phrase j.folio .mix (mixDigest j (s.mixWhole j).1) := by
  rw [State.mixDone, hr]
  simp only [ha, he, hw, Bool.false_eq_true, if_false, if_true]
  rfl

theorem State.mixDone_faults (hr : s.mix.running = some j) (ha : s.mix.aborting = false) {cause : Nat}
    (he : (s.mixWhole j).1.err = some cause) : s.mixDone = (s.mixWhole j).2.mixFault j cause := by
  rw [State.mixDone, hr]
  simp only [ha, he, Bool.false_eq_true, if_false]

theorem State.mixDone_idle (h : s.mix.running = none ∨ s.mix.aborting = true) : s.mixDone = s := by
  unfold State.mixDone
  split
  · rfl
  · next j hr => exact if_pos (h.resolve_left (by simp [hr]))

theorem State.mixDropQueued_of_find {p slot : Nat}
    (h : s.mix.queue.find? (fun j => j.phrase == p && j.folio % 4 == slot) = some j) :
    s.mixDropQueued p slot =
      { s with mix := { s.mix with queue := s.mix.queue.erase j } }.failTask j.phrase j.folio .mix := by
  rw [State.mixDropQueued, h]

end Sys2Proof.Machine
end

section
/-! The tasks of MIX. -/
open Sys2Proof Sys2Proof.Machine

/-- Settles O26: MIX computes under one frame, and every end of a task is MIX idle, followed by what SEQ makes of it; a task that
has ended is changed by no count of its successors. -/
theorem mixTasks : Obligations.MixTasks := by
  unfold Obligations.MixTasks
  refine ⟨?start, ?nothing, ?done, ?fault, ?idle, ?abort, ?drop⟩
  case start =>
    intro s j q hr hq
    refine ⟨_, congrArg Host.Outcome.next (by rw [State.mixStart, hr, hq]), rfl, rfl, rfl, ?_, ?_, ?_⟩
    · rw [State.bit, State.fld, State.reg_setRegN, if_pos rfl, beq_iff_eq, Field.get, BitVec.toNat_ofNat]
      simp only [Fld.MIX_STATUS_BUSY, Nat.shiftRight_zero]
      omega
    · rw [State.regN, State.reg_setRegN, if_pos rfl, BitVec.toNat_ofNat]
    · exact (Frame.mix .refl (by simp) _).setRegN _ _ (by simp)
  case nothing =>
    intro s h
    refine congrArg Host.Outcome.next ?_
    unfold State.mixStart
    split
    · next hr hq => simp [hr, hq] at h
    · rfl
  case done =>
    intro s j hr ha he hw
    have hW : MixWorks s _ := s.mixWhole_works j |>.unitWrite mixCode j.stateOut (s.mixWhole j).1.st
    have hE : MixEnds s (s.mixWritten j) := hW.idle _
    have hseq : (s.mixWritten j).seq = s.seq := hW.2 .seq (by simp)
    have hC := Frame.completeTask (s := s.mixWritten j) .refl allowsSeq_ev j.phrase j.folio .mix (mixDigest j (s.mixWhole j).1)
    obtain ⟨h1, h2, h3, h4⟩ := hE.after (FrameEv.widen hC (fun a ha => by rw [ha]; rfl) (by simp))
    rw [← State.mixDone_completes hr ha he hw] at h1 h2 h3 h4 hC
    refine ⟨_, rfl, h1, h2, h3, hC.2 .mem (by simp), fun v hv hst => ?_, h4⟩
    rw [State.mixDone_completes hr ha he hw, ← hst]
    exact (State.completeTask_taskIs ((State.task_congr hseq _ _).trans hv) _).map_eq
  case fault =>
    intro s j hr ha he hs
    obtain ⟨cause, he⟩ := Option.ne_none_iff_exists'.1 he
    obtain ⟨⟨h1, h2, h3, h4⟩, hshown, hsub⟩ := (s.mixWhole_works j).fault (j := j) cause
    exact ⟨_, congrArg Host.Outcome.next (State.mixDone_faults hr ha he), h1, h2, h3, hshown hs,
      fun v hv hst => (hsub v hv hst).map_st, h4⟩
  case idle => exact fun s h => congrArg Host.Outcome.next (State.mixDone_idle h)
  case abort =>
    intro s j p slot hr hp hk
    have he : s.mixAbort p slot = s.mixStop j := by
      rw [State.mixAbort, hr]
      exact if_pos (by simp [hp, hk])
    obtain ⟨⟨h1, h2, h3, h4⟩, hsub⟩ := s.mixStop_leaves j
    exact ⟨_, congrArg Host.Outcome.next he, h1, h2, h3, fun v hv hst => (hsub v hv hst).map_st, h4⟩
  case drop =>
    intro s j p slot hr hf
    have he : s.mixAbort p slot =
        { s with mix := { s.mix with queue := s.mix.queue.erase j } }.failTask j.phrase j.folio .mix := by
      rw [State.mixAbort, hr]
      exact State.mixDropQueued_of_find hf
    have hF := Frame.failTask allowsCopy_ev (.refl (s := { s with mix := { s.mix with queue := s.mix.queue.erase j } })) j.phrase
      j.folio .mix
    have hmix := hF.2 .mix (by simp)
    refine ⟨_, congrArg Host.Outcome.next he, ?_, ?_, ?_⟩
    · rw [hmix, hr]
    · rw [hmix]
    · exact (Frame.mix .refl (by simp) _).trans (FrameEv.widen hF (fun _ h => h) (by simp))

end

section
/-! SUPPORT. What a write of a converter channel's configuration leaves of the channel, its state and SRC_LOCKED (R241, R247,
R256-R258). -/

namespace Sys2Proof.Machine

variable {R : Nat → Bool} {P : List Part} {s t : State}

/-- The registers that the configuration of a channel changes. -/
def srcCfgRegs (n a : Nat) : Bool :=
  a == Reg.SRC_CH_CFG n || a == Reg.SRC_CH_STATE n || a == Reg.SRC_LOCKED || a == Reg.SRC_LOCKED + 4

@[simp] theorem State.srcCh_setSrcCh (s : State) (n m : Nat) (c : SrcCh) :
    (s.setSrcCh n c).srcCh m = if n = m then c else s.srcCh m := SMap.find_set ..

@[simp] theorem State.reg_setSrcCh (s : State) (n a : Nat) (c : SrcCh) : (s.setSrcCh n c).reg a = s.reg a := rfl

theorem State.srcCh_congr (h : t.src = s.src) (n : Nat) : t.srcCh n = s.srcCh n := by rw [State.srcCh, h, State.srcCh]

/-! ### The state of a channel -/

theorem srcState_apart (n : Nat) : Reg.SRC_LOCKED ≠ Reg.SRC_CH_STATE n ∧ Reg.SRC_LOCKED + 4 ≠ Reg.SRC_CH_STATE n ∧
    Reg.SRC_LOCKED ≠ Reg.SRC_CH_CFG n ∧ Reg.SRC_LOCKED + 4 ≠ Reg.SRC_CH_CFG n ∧ Reg.SRC_CH_STATE n ≠ Reg.SRC_CH_CFG n := by
  unfold Reg.SRC_LOCKED Reg.SRC_CH_STATE Reg.SRC_CH_CFG
  omega

theorem State.srcState_setSrcState (s : State) (n : Nat) {st : Nat} (h : st < 4) : (s.setSrcState n st).srcState n = st := by
  obtain ⟨h0, h4, -⟩ := srcState_apart n
  rw [State.srcState, State.fld_congr (s := s.setFld (Reg.SRC_CH_STATE n) Fld.SRC_CH_STATE_STATE st),
    State.fld_setFld_same _ _ _ _ (by decide)]
  · exact Nat.mod_eq_of_lt h
  · rw [State.setSrcState, State.reg_setReg64, if_neg h4, if_neg h0]

theorem State.reg_setSrcState_cfg (s : State) (n st : Nat) :
    (s.setSrcState n st).reg (Reg.SRC_CH_CFG n) = s.reg (Reg.SRC_CH_CFG n) := by
  obtain ⟨-, -, h0, h4, hst⟩ := srcState_apart n
  rw [State.setSrcState, State.reg_setReg64, if_neg h4, if_neg h0, State.reg_setFld, if_neg hst]

theorem State.reg64_lt (s : State) (a : Nat) : s.reg64 a < 2 ^ 64 := by
  have h0 := (s.reg a).isLt
  have h4 := (s.reg (a + 4)).isLt
  rw [State.reg64, State.regN, State.regN]
  omega

/-- A bit of a number is 0 once its weight has been taken off. -/
theorem cleared_div_pow (m n : Nat) : (m - m / 2 ^ n % 2 * 2 ^ n) / 2 ^ n % 2 = 0 := by
  rw [Nat.mul_comm, Nat.sub_mul_div]
  omega

/-- SRC_LOCKED shows no channel that is not in LOCKED (R256). -/
theorem State.locked_setSrcState (s : State) (n : Nat) {st : Nat} (h : st ≠ 2) :
    (s.setSrcState n st).reg64 Reg.SRC_LOCKED / 2 ^ n % 2 = 0 := by
  have hb : bitOf (st == 2) * 2 ^ n = 0 := by rw [beq_false_of_ne h, bitOf, if_neg Bool.false_ne_true, Nat.zero_mul]
  have hm := (s.setFld (Reg.SRC_CH_STATE n) Fld.SRC_CH_STATE_STATE st).reg64_lt Reg.SRC_LOCKED
  rw [State.setSrcState, hb, Nat.add_zero, State.reg64_setReg64 _ _ _ (Nat.lt_of_le_of_lt (Nat.sub_le _ _) hm)]
  exact cleared_div_pow _ _

theorem Frame.setSrcState (h : Frame R P s t) (n st : Nat) (hR : ∀ a, srcCfgRegs n a = true → R a = true) :
    Frame R P s (t.setSrcState n st) :=
  (h.setFld _ _ _ (hR _ (by simp [srcCfgRegs]))).setReg64 _ _ (hR _ (by simp [srcCfgRegs])) (hR _ (by simp [srcCfgRegs]))

/-! ### The configuration -/

theorem regRow_srcCfg : ∀ n : Fin 64, regRow (Reg.SRC_CH_CFG n) =
    some ⟨0x5200100, 64, 0x10, 1, 0x10, 0x0, 0x0, 0x7ff, 0x0, 0x0, 0x0, 0, 1⟩ := by decide +kernel

theorem State.srcCfg_enables {n : Nat} {data : Word} (h : s.bit (Reg.SRC_CH_CFG n) Fld.SRC_CH_CFG_EN = false)
    (hd : Fld.SRC_CH_CFG_EN.get data = 1) : s.srcCfg n data = ((s.writeRw (Reg.SRC_CH_CFG n) data).setSrcCh n
      { cfg := (s.writeRw (Reg.SRC_CH_CFG n) data).reg (Reg.SRC_CH_CFG n) }).srcAcquire n := by
  rw [State.srcCfg]
  simp only [h, hd, Bool.false_eq_true, if_false, beq_self_eq_true, if_true]

theorem State.srcCfg_disables {n : Nat} {data : Word} (h : s.bit (Reg.SRC_CH_CFG n) Fld.SRC_CH_CFG_EN = true)
    (hd : Fld.SRC_CH_CFG_EN.get data = 0) : s.srcCfg n data = ((s.setBit (Reg.SRC_CH_CFG n) Fld.SRC_CH_CFG_EN false).setSrcCh n
      { s.srcCh n with upAt := none, downAt := none }).setSrcState n 0 := by
  rw [State.srcCfg]
  simp only [h, hd, if_true]
  rfl

/-- The track of a channel afresh (R245). -/
def State.srcFresh (s : State) (n : Nat) : State :=
  s.setSrcCh n { s.srcCh n with blocks := [], tracks := [], samples := [], run := 0 }

theorem State.srcAcquire_eq (s : State) (n : Nat) : s.srcAcquire n =
    ((s.srcFresh n).setSrcState n 1).setFld (Reg.SRC_CH_STATE n) Fld.SRC_CH_STATE_LOCK_RUN 0 := rfl

theorem State.srcCh_srcAcquire (s : State) (n m : Nat) : (s.srcAcquire n).srcCh m = (s.srcFresh n).srcCh m := rfl

/-- A channel in ACQUIRE, its track afresh (R245). -/
theorem State.srcAcquire_leaves (s : State) (n : Nat) : (s.srcAcquire n).srcState n = 1 ∧
    (s.srcAcquire n).srcCh n = { s.srcCh n with blocks := [], tracks := [], samples := [], run := 0 } ∧
    (∀ m, m ≠ n → (s.srcAcquire n).srcCh m = s.srcCh m) ∧
    (s.srcAcquire n).reg (Reg.SRC_CH_CFG n) = s.reg (Reg.SRC_CH_CFG n) ∧ Frame (srcCfgRegs n) [.src] s (s.srcAcquire n) := by
  obtain ⟨-, -, -, -, hst⟩ := srcState_apart n
  refine ⟨?_, ?_, fun m hm => ?_, ?_, ?_⟩
  · rw [State.srcAcquire_eq, State.srcState, State.fld_setFld_apart _ _ (by decide) (.inr (by decide)), ← State.srcState,
      State.srcState_setSrcState _ _ (by decide)]
  · rw [State.srcCh_srcAcquire, State.srcFresh, State.srcCh_setSrcCh, if_pos rfl]
  · rw [State.srcCh_srcAcquire, State.srcFresh, State.srcCh_setSrcCh, if_neg hm.symm]
  · rw [State.srcAcquire_eq, State.reg_setFld, if_neg hst, State.reg_setSrcState_cfg, State.srcFresh, State.reg_setSrcCh]
  · exact ((Frame.src .refl (by simp) _).setSrcState n 1 fun _ h => h).setFld _ _ _ (by simp [srcCfgRegs])

end Sys2Proof.Machine
end

section
/-! SUPPORT. The blocks of a group of converter channels, and the feed that the group signals (R171, R241, R248). -/

namespace Sys2Proof.Machine

variable {R : Nat → Bool} {P : List Part} {s t : State}

/-- A signal leaves the feed present, whether it is the first of the folio or not (R171). -/
theorem State.feedSignal_leaves (s : State) (f k : Nat) :
    (s.feedSignal f k).feedPresent f k = true ∧ FrameEv seqRegs [.seq] s (s.feedSignal f k) := by
  cases h : s.feedPresent f k with
  | false =>
    refine ⟨?_, State.feedSignal_frame h⟩
    rw [State.feedSignal_eq h]
    split
    · rw [State.feedPresent_congr (State.present_feedCounts _ _ _ _), State.feedPresent_setPresent]
    · exact s.feedPresent_setPresent f k
  | true =>
    have he : s.feedSignal f k = s.raiseN 209 f := if_pos h
    rw [he]
    exact ⟨(State.feedPresent_congr (by rw [s.seq_raiseN 209 f (by decide)]) f k).trans h,
      (s.raiseN_frame 209 f (by decide)).widen (fun _ h => Bool.noConfusion h) (by simp)⟩

theorem Frame.unitPut (h : Frame R P s t) (hB : AllowsBus R P) (hm : Part.mem ∈ P) (he : Part.ecc ∈ P) (a : Nat)
    (bs : List Byte) : Frame R P s (t.unitPut a bs) := by
  unfold State.unitPut
  dsimp only
  split
  · split
    · exact ((h.vatCorrs hB _).takeFree hB.1.2).vatUncorr hB _ _
    · exact ((h.vatCorrs hB _).write hm _ _).eccClearW he _ _ _
  · exact h

/-- Whole 64-bit words need no read before they are written (R404). -/
theorem State.unitPut_whole {a : Nat} {bs : List Byte} (ha : a % 8 = 0) (hn : bs.length % 8 = 0)
    (hv : inVat a bs.length = true) :
    s.unitPut a bs = (s.write a bs).eccClear (a / 8 * 8) ((a + bs.length + 7) / 8 * 8 - a / 8 * 8) := by
  have hw : rmwWords a bs.length = [] := by
    rw [rmwWords, if_neg (by omega), if_neg (by omega)]
    rfl
  rw [State.unitPut]
  simp only [hv, hw, if_true, List.filter_nil, List.foldl_nil]

/-- The block of a channel for a folio. -/
def State.srcBytes (s : State) (n k : Nat) : List Byte :=
  ((List.range 8).map fun j => (s.srcCh n).inSample k j).flatMap wordBytes

theorem State.length_srcBytes (s : State) (n k : Nat) : (s.srcBytes n k).length = 32 := by
  rw [State.srcBytes, length_flatMap_wordBytes, List.length_map, List.length_range]

theorem Frame.srcWrite (h : Frame R P s t) (hB : AllowsBus R P) (hs : Part.src ∈ P) (hm : Part.mem ∈ P) (he : Part.ecc ∈ P)
    (n k : Nat) : Frame R P s (t.srcWrite n k) := Frame.unitPut (Frame.src h hs _) hB hm he _ _

/-- A channel writes its block at its base (R241). -/
theorem State.srcWrite_leaves {n k : Nat} (hv : inVat (s.regN (Reg.SRC_CH_BASE n) + 32 * (k % 4)) 32 = true)
    (ha : s.regN (Reg.SRC_CH_BASE n) % 8 = 0) :
    (s.srcWrite n k).mem = Memory.write s.mem (s.regN (Reg.SRC_CH_BASE n) + 32 * (k % 4)) (s.srcBytes n k) ∧
      Frame noRegs [.src, .mem, .ecc] s (s.srcWrite n k) := by
  have hl := s.length_srcBytes n k
  have he : ∀ c, (s.setSrcCh n c).unitPut (s.regN (Reg.SRC_CH_BASE n) + 32 * (k % 4)) (s.srcBytes n k) =
      ((s.setSrcCh n c).write (s.regN (Reg.SRC_CH_BASE n) + 32 * (k % 4)) (s.srcBytes n k)).eccClear _ _ := fun c =>
    State.unitPut_whole (by omega) (by omega) (by rwa [hl])
  have hs : s.srcWrite n k = (s.setSrcCh n { s.srcCh n with
      wrote := some k, lastOut := ((List.range 8).map fun j => (s.srcCh n).inSample k j).getD 7 0 }).unitPut
      (s.regN (Reg.SRC_CH_BASE n) + 32 * (k % 4)) (s.srcBytes n k) := rfl
  rw [hs, he]
  exact ⟨rfl, ((Frame.src .refl (by simp) _).write (by simp) _ _).eccClearW (by simp) _ _ _⟩

theorem State.srcGroupFeed_eq {g k : Nat} (h : s.srcGroup g ≠ []) : s.srcGroupFeed g k =
    ((s.srcGroup g).foldl (fun s n => s.srcWrite n k) s).feedSignal (s.fld (Reg.SRC_GFEED g) Fld.SRC_GFEED_FEED) k :=
  if_neg (by simpa using h)

end Sys2Proof.Machine
end

section
/-! Converter channels. -/
open Sys2Proof Sys2Proof.Machine

/-- Settles O27: a write of a channel's configuration by the write of EN that it is; a group by the block of each of its channels,
followed by the signal of its feed. -/
theorem converterChannels : Obligations.ConverterChannels := by
  unfold Obligations.ConverterChannels
  refine ⟨?on, ?off, ?kept, ?nolock, ?locked, ?block, ?group, ?none⟩
  case on =>
    intro n data s h hd
    obtain ⟨hst, hch, hother, hcfg, hF⟩ := ((s.writeRw (Reg.SRC_CH_CFG n) data).setSrcCh n
      { cfg := (s.writeRw (Reg.SRC_CH_CFG n) data).reg (Reg.SRC_CH_CFG n) }).srcAcquire_leaves n
    refine ⟨_, congrArg Host.Outcome.next (State.srcCfg_enables h hd), hst, ?_, ?_, fun m hm => ?_, ?_⟩
    · rw [State.bit_congr hcfg, State.bit_congr (State.reg_setSrcCh _ _ _ _), State.bit]
      have hw := State.fld_writeWord s _ data _ Fld.SRC_CH_CFG_EN (regRow_srcCfg n) (by decide) (by decide) (by decide)
      rw [State.writeRw, hw, hd]
      rfl
    · rw [hch, hcfg, State.srcCh_setSrcCh, if_pos rfl]
      rfl
    · have hv : m.val ≠ n.val := Fin.val_ne_of_ne hm
      rw [hother m hv, State.srcCh_setSrcCh, if_neg hv.symm]
      exact State.srcCh_congr (State.writeWord_src _ _ _) m
    · exact Frame.trans (Frame.src (Frame.refl.writeWord _ _ (by simp)) (by simp) _) hF
  case off =>
    intro n data s h hd
    refine ⟨_, congrArg Host.Outcome.next (State.srcCfg_disables h hd), State.srcState_setSrcState _ _ (by decide), ?_,
      State.locked_setSrcState _ _ (by decide), ?_⟩
    · rw [State.bit_congr (State.reg_setSrcState_cfg _ _ _), State.bit_congr (State.reg_setSrcCh _ _ _ _)]
      exact State.bit_setBit_same _ _ _ _ (by decide) rfl
    · exact Frame.setSrcState (Frame.src (Frame.refl.setBit _ _ _ (by simp)) (by simp) _) n 0 fun _ h => h
  case kept =>
    intro n data s h hd
    refine congrArg Host.Outcome.next ?_
    rw [State.srcCfg]
    simp only [h, hd, if_true, beq_self_eq_true]
  case nolock =>
    intro n s h hs
    have he : s.srcNolock n = s.raiseN 235 n := if_pos h
    exact ⟨_, congrArg Host.Outcome.next he, s.raiseN_shown 235 n (by decide) hs, s.raiseN_frame 235 n (by decide)⟩
  case locked => exact fun n s h => congrArg Host.Outcome.next (if_neg h)
  case block =>
    intro g k n s hg hv ha
    have he := State.srcGroupFeed_eq (s := s) (g := g) (k := k) (by simp [hg])
    rw [hg] at he
    obtain ⟨hmem, hF⟩ := State.srcWrite_leaves hv ha
    obtain ⟨hp, hS⟩ := (s.srcWrite n k).feedSignal_leaves (s.fld (Reg.SRC_GFEED g) Fld.SRC_GFEED_FEED) k
    have hm := (hS.2 .mem (by simp)).trans hmem
    have hl := s.length_srcBytes n k
    refine ⟨_, congrArg Host.Outcome.next he, hp, ?_, ?_, ?_⟩
    · rw [State.read, List.foldl_cons, List.foldl_nil, hm]
      have hr := Memory.read_write_same s.mem (s.regN (Reg.SRC_CH_BASE n) + 32 * (k % 4)) (s.srcBytes n k)
      rwa [hl] at hr
    · have hk := keepsOutside_of_write hm
      rwa [hl] at hk
    · exact (hF.toEv.widen (fun _ h => Bool.noConfusion h) (by simp)).trans (hS.widen (fun _ h => h) (by simp))
  case group =>
    intro g k s hg
    have hB : AllowsBus (fun a => eventReg a || (seqRegs a || busRegs a)) [.events, .src, .mem, .ecc, .seq] :=
      ⟨AllowsEvents.ev _ _, fun a ha => by simp [ha]⟩
    obtain ⟨hp, hS⟩ := ((s.srcGroup g).foldl (fun s n => s.srcWrite n k) s).feedSignal_leaves
      (s.fld (Reg.SRC_GFEED g) Fld.SRC_GFEED_FEED) k
    have hF := Frame.foldl (fun s n => s.srcWrite n k) (s.srcGroup g) (.refl (s := s)) fun u n _ hu =>
      hu.srcWrite hB (by simp) (by simp) (by simp) n k
    exact ⟨_, congrArg Host.Outcome.next (State.srcGroupFeed_eq hg), hp,
      hF.trans (hS.widen (fun a ha => by rw [ha]; rfl) (by simp))⟩
  case none => exact fun g k s hg => congrArg Host.Outcome.next (if_pos (by simp [hg]))

end

section
/-! SUPPORT. Felt blocks as bytes: what the receiver reads of a block as the sender writes it (R466). -/

namespace Sys2Proof

theorem length_beBytes (n v : Nat) : (beBytes n v).length = n := by rw [beBytes, List.length_reverse, length_leBytes]

theorem beNat_beBytes (n v : Nat) : beNat (beBytes n v) = v % 256 ^ n := by
  rw [beNat, beBytes, List.reverse_reverse, leNat_leBytes]

theorem beNat_beBytes_word (v : Nat) : beNat (beBytes 4 v) = v % 2 ^ 32 := beNat_beBytes 4 v

/-- The bytes between those before and those behind them. -/
theorem slice_append {xs ys : List Byte} {i n : Nat} (hi : xs.length = i) (hn : ys.length = n) (zs : List Byte) :
    slice (xs ++ (ys ++ zs)) i n = ys := by rw [slice, List.drop_left' hi, List.take_left' hn]

end Sys2Proof

namespace Sys2Proof.Machine

/-- The first three words of a felt block. -/
def feltHead (type f p o n : Nat) : List Byte :=
  beBytes 4 (type * 2 ^ 28 + 2 ^ 24 + n) ++ beBytes 4 f ++ beBytes 4 (p + o * 2 ^ 12)

theorem feltBlock_eq (type f p o : Nat) (payload : List Byte) : feltBlock type f p o payload =
    feltHead type f p o payload.length ++
      beBytes 4 (crc32c (feltHead type f p o payload.length ++ payload)).toNat ++ payload := rfl

theorem length_feltHead (type f p o n : Nat) : (feltHead type f p o n).length = 12 := by
  rw [feltHead, List.length_append, List.length_append, length_beBytes, length_beBytes, length_beBytes]

section
variable (type f p o : Nat) (payload : List Byte)

theorem feltBlock_take : (feltBlock type f p o payload).take 12 = feltHead type f p o payload.length := by
  rw [feltBlock_eq, List.append_assoc]
  exact List.take_left' (length_feltHead ..)

theorem feltBlock_drop : (feltBlock type f p o payload).drop 16 = payload := by
  rw [feltBlock_eq]
  exact List.drop_left' (by rw [List.length_append, length_feltHead, length_beBytes])

/-- The CRC of a block is that of its other bytes. -/
theorem feltBlock_crc : beNat (slice (feltBlock type f p o payload) 12 4) =
    (crc32c ((feltBlock type f p o payload).take 12 ++ payload)).toNat := by
  rw [feltBlock_take, feltBlock_eq, List.append_assoc, slice_append (length_feltHead ..) (length_beBytes ..),
    beNat_beBytes_word]
  exact Nat.mod_eq_of_lt (BitVec.isLt _)

/-- The three words of the head. -/
theorem feltBlock_words : beNat ((feltBlock type f p o payload).take 4) = (type * 2 ^ 28 + 2 ^ 24 + payload.length) % 2 ^ 32 ∧
    beNat (slice (feltBlock type f p o payload) 4 4) = f % 2 ^ 32 ∧
    beNat (slice (feltBlock type f p o payload) 8 4) = (p + o * 2 ^ 12) % 2 ^ 32 := by
  have hb : ∃ bs, feltBlock type f p o payload = beBytes 4 (type * 2 ^ 28 + 2 ^ 24 + payload.length) ++
      (beBytes 4 f ++ (beBytes 4 (p + o * 2 ^ 12) ++ bs)) := by
    rw [feltBlock_eq, feltHead]
    simp only [List.append_assoc]
    exact ⟨_, rfl⟩
  obtain ⟨bs, hb⟩ := hb
  rw [hb]
  refine ⟨?_, ?_, ?_⟩
  · rw [List.take_left' (length_beBytes ..), beNat_beBytes_word]
  · rw [slice_append (length_beBytes ..) (length_beBytes ..), beNat_beBytes_word]
  · rw [← List.append_assoc, slice_append (by rw [List.length_append, length_beBytes, length_beBytes]) (length_beBytes ..),
      beNat_beBytes_word]

end

/-! ### Blocks that are taken -/

section
variable {s : State} {lane : Nat} (hp : s.pair = true) (hr : s.role ≠ 0xC0) (hf : s.felt ≠ 0) (hl : s.lane (8 + lane) = 4)
include hp hr hf hl

/-- A block of a standby that has felt is taken for the folio that it names (R466, R469). -/
theorem State.feltBlockReceive_taken {type f p o : Nat} {payload : List Byte} (h0 : type ≠ 0) (h5 : type ≤ 5)
    (hF : f < 2 ^ 32) (hP : p < 2 ^ 12) (hO : o < 2 ^ 20) (hn : payload.length < 2 ^ 13) :
    s.feltBlockReceive lane (feltBlock type f p o payload) =
      if type = 4 then s.trackBlock (p % 2 ^ 6) (s.folioNear f) payload else s.sheetBlock (s.folioNear f) type p o payload := by
  obtain ⟨hw0, hw1, hw2⟩ := feltBlock_words type f p o payload
  have hcrc := feltBlock_crc type f p o payload
  unfold State.feltBlockReceive
  rw [hw0, hw1, hw2, feltBlock_drop, hcrc, Nat.mod_eq_of_lt hF, Nat.mod_eq_of_lt (a := p + o * 2 ^ 12) (by omega),
    Nat.mod_eq_of_lt (b := 2 ^ 32) (by omega)]
  have htype : (type * 2 ^ 28 + 2 ^ 24 + payload.length) / 2 ^ 28 = type := by omega
  have hversion : (type * 2 ^ 28 + 2 ^ 24 + payload.length) / 2 ^ 24 % 2 ^ 4 = 1 := by omega
  have hlength : (type * 2 ^ 28 + 2 ^ 24 + payload.length) % 2 ^ 13 = payload.length := by omega
  have hphrase : (p + o * 2 ^ 12) % 2 ^ 12 = p ∧ (p + o * 2 ^ 12) / 2 ^ 12 = o ∧ (p + o * 2 ^ 12) % 2 ^ 6 = p % 2 ^ 6 := by
    omega
  dsimp only
  rw [htype, hversion, hlength, hphrase.1, hphrase.2.1, hphrase.2.2, if_neg]
  simp only [hp, hr, hl, hf, h0, Nat.not_lt.2 h5, ne_eq, Bool.not_true, Bool.false_eq_true, not_true_eq_false, or_self,
    not_false_eq_true]

end

/-! ### What is kept -/

variable {s : State}

theorem State.trackBlock_kept {n m : Nat} {payload : List Byte} (h : s.now < s.boundary m) :
    (∃ tr, (n, tr) ∈ (s.trackBlock n m payload).redun.tracks ∧ tr.folio = m ∧ tr.rho = beNat (slice payload 2 6) ∧
      tr.pos = signed 64 (beNat (slice payload 8 8))) ∧ Frame noRegs [.redun] s (s.trackBlock n m payload) := by
  rw [State.trackBlock, if_pos h]
  exact ⟨⟨_, List.mem_append_right _ (List.mem_singleton.2 rfl), rfl, rfl, rfl⟩, Frame.redun .refl (by simp) _⟩

theorem State.sheetOf_setSheet (s : State) (x : Sheet) (k : Nat) :
    (s.setSheet x).sheetOf k = if k = x.folio then x else s.sheetOf k := by
  have hfind : ∀ l : List Sheet, (l.filter fun y => y.folio != x.folio).find? (fun y => y.folio == k) =
      if k = x.folio then none else l.find? fun y => y.folio == k := by
    intro l
    split
    · next h => exact List.find?_eq_none.2 fun y hy => by simpa [h] using (List.mem_filter.1 hy).2
    · next h =>
      rw [List.find?_filter]
      refine congrArg (List.find? · l) (funext fun y => ?_)
      by_cases hy : y.folio = k
      · simp [hy, h]
      · simp [hy]
  rw [State.sheetOf, State.setSheet, List.find?_append, hfind]
  by_cases h : k = x.folio
  · simp [h]
  · rw [if_neg h, if_neg h, List.find?_cons_of_neg (by simpa using Ne.symm h), List.find?_nil, Option.or_none, State.sheetOf]

/-- A STATE block joins the sheet of its folio, which has no HEAD yet (R467, R469). -/
theorem State.sheetBlock_state {k p o : Nat} {payload : List Byte} (hs : s.sheetOf k = { folio := k })
    (h : s.now < s.releasePt (k + 1)) : s.sheetBlock k 3 p o payload =
      s.setSheet { folio := k, states := [(p, 16 * o, payload)], bytes := 16 + payload.length } := by
  have hnot : ¬(({ folio := k } : Sheet).closed = true ∨ s.releasePt (k + 1) ≤ s.now) := fun hc =>
    hc.elim (fun h => Bool.noConfusion h) fun h' => absurd h (Nat.not_lt.2 h')
  rw [State.sheetBlock, hs]
  dsimp only
  rw [if_neg hnot, if_neg (fun h => absurd h.1 (by decide))]
  simp [Sheet.join]

end Sys2Proof.Machine
end

section
/-! SUPPORT. The window of a deckle: the bit of its port, its counts and its events (R480-R482). -/

namespace Sys2Proof.Machine

variable {s : State} {p : Nat} {c : Option (BitVec 5)} {ack : Bool}

/-- The registers of a deckle window. -/
def deckleRegs (a : Nat) : Bool :=
  a == Reg.REDUN_DECKLE_WIN || a == Reg.REDUN_DECKLE_CHANGES || a == Reg.REDUN_DECKLE_NOACK

/-- A count of the deckles with its event. -/
theorem State.deckleCount_leaves (s : State) (a key src w3 : Nat) (hs : src < 320) (ha : eventReg a = false) :
    ((s.countHold a 1).raiseMs key src w3).regN a = min (s.regN a + 1) 0xFFFFFFFF ∧
      FrameEv (fun b => b == a) [] s ((s.countHold a 1).raiseMs key src w3) := by
  have hc : FrameEv (fun b => b == a) [] s (s.countHold a 1) := Frame.refl.countHold a 1 (by simp)
  have hr : FrameEv noRegs [] (s.countHold a 1) ((s.countHold a 1).raiseMs key src w3) :=
    Frame.raiseMs .refl (AllowsEvents.ev _ _) key src w3 hs
  refine ⟨?_, Frame.raiseMs hc (AllowsEvents.ev _ _) key src w3 hs⟩
  rw [State.regN, hr.reg_eq a ha rfl, State.countHold, State.reg_setRegN, if_pos rfl, BitVec.toNat_ofNat]
  omega

/-- The decision of a window shown in WIN (R481). -/
def State.deckleShown (s : State) (p : Nat) (win : Bool) : State :=
  { s.setReg Reg.REDUN_DECKLE_WIN (maskSet (s.reg Reg.REDUN_DECKLE_WIN) p win) with
    redun := { s.redun with decided := maskSet s.redun.decided p true } }

/-- A decision that has changed, counted and reported (R482). -/
def State.deckleChanged (s : State) (p : Nat) (win : Bool) : State :=
  if s.redun.decided.toNat.testBit p && win != testBit (s.reg Reg.REDUN_DECKLE_WIN) p then
    ((s.deckleShown p win).countHold Reg.REDUN_DECKLE_CHANGES 1).raiseMs (limitKey 302 p) 302 (p + bitOf win * 2 ^ 8)
  else s.deckleShown p win

/-- A window that is lost without an acknowledge, counted and reported (R482). -/
def State.deckleLost (s : State) (p : Nat) : State :=
  (s.countHold Reg.REDUN_DECKLE_NOACK 1).raiseMs (limitKey 303 p) 303 p

theorem State.deckle_eq (h : s.takesPart p = true) (c : Option (BitVec 5)) (ack : Bool) : s.deckle p c ack =
    if !deckleWins s.deckleCode c && !ack then (s.deckleChanged p (deckleWins s.deckleCode c)).deckleLost p
    else s.deckleChanged p (deckleWins s.deckleCode c) := if_pos h

theorem State.reg_deckleShown (s : State) (p : Nat) (win : Bool) (a : Nat) : (s.deckleShown p win).reg a =
    if Reg.REDUN_DECKLE_WIN = a then maskSet (s.reg Reg.REDUN_DECKLE_WIN) p win else s.reg a :=
  State.reg_setReg s _ a _

theorem State.deckleChanged_leaves (s : State) (p : Nat) (win : Bool) :
    (s.deckleChanged p win).reg Reg.REDUN_DECKLE_WIN = maskSet (s.reg Reg.REDUN_DECKLE_WIN) p win ∧
    (s.deckleChanged p win).regN Reg.REDUN_DECKLE_NOACK = s.regN Reg.REDUN_DECKLE_NOACK ∧
    FrameEv deckleRegs [.redun] s (s.deckleChanged p win) := by
  have h1 : Frame deckleRegs [.redun] s (s.deckleShown p win) := Frame.redun (Frame.refl.setReg _ _ (by decide)) (by simp) _
  have h2 : FrameEv (fun b => b == Reg.REDUN_DECKLE_CHANGES) [] (s.deckleShown p win) (s.deckleChanged p win) :=
    .ite (State.deckleCount_leaves _ _ _ 302 _ (by decide) (by decide)).2 .refl
  refine ⟨?_, ?_, h1.toEv.trans (h2.widen (fun a ha => by simp [deckleRegs, beq_iff_eq.1 ha]) (by simp))⟩
  · rw [h2.reg_eq _ (by decide) (by decide), State.reg_deckleShown, if_pos rfl]
  · rw [State.regN, h2.reg_eq _ (by decide) (by decide), State.reg_deckleShown, if_neg (by decide), State.regN]

/-- A window in which the unit takes part (R481, R482). -/
theorem State.deckle_part (h : s.takesPart p = true) :
    (s.deckle p c ack).reg Reg.REDUN_DECKLE_WIN = maskSet (s.reg Reg.REDUN_DECKLE_WIN) p (deckleWins s.deckleCode c) ∧
    (deckleWins s.deckleCode c = false → ack = false →
      (s.deckle p c ack).regN Reg.REDUN_DECKLE_NOACK = min (s.regN Reg.REDUN_DECKLE_NOACK + 1) 0xFFFFFFFF) ∧
    FrameEv deckleRegs [.redun] s (s.deckle p c ack) := by
  obtain ⟨hw, hn, hF⟩ := s.deckleChanged_leaves p (deckleWins s.deckleCode c)
  have hL := (s.deckleChanged p (deckleWins s.deckleCode c)).deckleCount_leaves Reg.REDUN_DECKLE_NOACK (limitKey 303 p) 303 p
    (by decide) (by decide)
  rw [← State.deckleLost, hn] at hL
  rw [State.deckle_eq h]
  split
  · refine ⟨?_, fun _ _ => hL.1, hF.trans (hL.2.widen (fun a ha => by simp [deckleRegs, beq_iff_eq.1 ha]) (by simp))⟩
    rw [hL.2.reg_eq _ (by decide) (by decide), hw]
  · next hno => exact ⟨hw, fun h1 h2 => absurd (by rw [h1, h2]; rfl) hno, hF⟩

theorem State.deckle_apart (h : s.takesPart p = false) : s.deckle p c ack =
    s.setReg Reg.REDUN_DECKLE_WIN (maskSet (s.reg Reg.REDUN_DECKLE_WIN) p false) := if_neg (by simp [h])

end Sys2Proof.Machine
end

section
/-! Felt blocks and deckle windows. -/
open Sys2Proof Sys2Proof.Machine

/-- Settles O36: a block is read as it was written, and joins what is kept of its folio; a window is the bit of its port, then its
counts with their events. -/
theorem feltAndDeckle : Obligations.FeltAndDeckle := by
  unfold Obligations.FeltAndDeckle
  refine ⟨?discarded, ?track, ?state, ?window, ?apart⟩
  case discarded =>
    intro lane bs s h
    refine congrArg Host.Outcome.next (if_pos ?_)
    rcases h with h | h | h | h | h <;> simp [h]
  case track =>
    intro lane f n payload s hp hr hf hl hF hn hlen h
    have he := State.feltBlockReceive_taken hp hr hf hl (type := 4) (o := 0) (by decide) (by decide) hF
      (show n < 2 ^ 12 by omega) (by decide) (show payload.length < 2 ^ 13 by omega)
    rw [if_pos rfl, Nat.mod_eq_of_lt (b := 2 ^ 6) hn] at he
    exact ⟨_, congrArg Host.Outcome.next he, State.trackBlock_kept h⟩
  case state =>
    intro lane f p o payload s hp hr hf hl hF hP hO hlen hs h
    have he := State.feltBlockReceive_taken hp hr hf hl (type := 3) (by decide) (by decide) hF hP hO
      (show payload.length < 2 ^ 13 by omega)
    rw [if_neg (by decide), State.sheetBlock_state hs h] at he
    refine ⟨_, congrArg Host.Outcome.next he, ?_, fun k hk => ?_, Frame.redun .refl (by simp) _⟩
    · rw [State.sheetOf_setSheet, if_pos rfl]
    · rw [State.sheetOf_setSheet, if_neg hk]
  case window =>
    intro p c ack s h
    obtain ⟨hw, hn, hF⟩ := State.deckle_part (c := c) (ack := ack) h
    refine ⟨_, rfl, ?_, fun q hq => ?_, hn, hF⟩
    · rw [testBit, hw, testBit_maskSet _ p.isLt, if_pos rfl]
    · rw [testBit, hw, testBit_maskSet _ p.isLt, if_neg (Fin.val_ne_of_ne hq.symm), testBit]
  case apart =>
    intro p c ack s h
    refine ⟨_, congrArg Host.Outcome.next (State.deckle_apart h), ?_, Frame.refl.setReg _ _ (by simp)⟩
    rw [State.reg_setReg, if_pos rfl, testBit, testBit_maskSet _ p.isLt, if_pos rfl]

end

section
/-! SUPPORT. The words of a clause slot: its state, its code and record, what CLAUSE keeps of it, and how each is
changed (R267, R297, R300). -/

namespace Sys2Proof.Machine

variable {R : Nat → Bool} {P : List Part} {s t u : State}

/-! ### Registers as numbers and counters -/

theorem State.regN_congr {a : Nat} (h : t.reg a = s.reg a) : t.regN a = s.regN a := by rw [State.regN, h, State.regN]

theorem State.regN_setFld_ne (s : State) {a b : Nat} (f : Field) (n : Nat) (h : a ≠ b) :
    (s.setFld a f n).regN b = s.regN b := State.regN_congr (s.reg_setReg_ne a b _ h)

theorem State.regN_countHold_same (s : State) (a n : Nat) :
    (s.countHold a n).regN a = min (s.regN a + n) 0xFFFFFFFF := by
  rw [State.regN, State.countHold, State.reg_setRegN, if_pos rfl, BitVec.toNat_ofNat]
  exact Nat.mod_eq_of_lt (by omega)

theorem State.reg_countHold_ne (s : State) {a b : Nat} (n : Nat) (h : a ≠ b) : (s.countHold a n).reg b = s.reg b :=
  s.reg_setReg_ne a b _ h

/-! ### The registers of a slot -/

theorem clauseRegs_state (n : Nat) : clauseRegs n (Reg.CLAUSE_SLOT_STATE n) = true := by
  simp [clauseRegs, inRange_iff]

theorem clauseRegs_tag (n : Nat) : clauseRegs n (Reg.CLAUSE_SLOT_TAG n) = true := by
  simp [clauseRegs, inRange_iff, Reg.CLAUSE_SLOT_TAG, Reg.CLAUSE_SLOT_STATE]; omega

theorem clauseRegs_gen (n : Nat) : clauseRegs n (Reg.CLAUSE_SLOT_GEN n) = true := by
  simp [clauseRegs, inRange_iff, Reg.CLAUSE_SLOT_GEN, Reg.CLAUSE_SLOT_STATE]; omega

theorem clauseRegs_flip (n : Nat) : clauseRegs n (Reg.CLAUSE_SLOT_FLIP n) = true := by
  simp [clauseRegs, inRange_iff, Reg.CLAUSE_SLOT_FLIP, Reg.CLAUSE_SLOT_STATE]; omega

theorem clauseRegs_status (n : Nat) : clauseRegs n Reg.CLAUSE_STATUS = true := by simp [clauseRegs]

theorem clauseRegs_refusals (n : Nat) : clauseRegs n Reg.CLAUSE_REFUSALS = true := by simp [clauseRegs]

theorem clauseRegs_timeStatus (n : Nat) : clauseRegs n Reg.TIME_STATUS = true := by simp [clauseRegs]

theorem slotState_high (n : Nat) : 0x200000 ≤ Reg.CLAUSE_SLOT_STATE n := by unfold Reg.CLAUSE_SLOT_STATE; omega

/-- The slots lie above the other registers that a change of one writes. -/
theorem slotState_ne {a : Nat} (n : Nat) (h : a < 0x8000100) : a ≠ Reg.CLAUSE_SLOT_STATE n := by
  unfold Reg.CLAUSE_SLOT_STATE; omega

/-! ### The state of a slot -/

theorem State.slotState_congr {n : Nat} (h : t.reg (Reg.CLAUSE_SLOT_STATE n) = s.reg (Reg.CLAUSE_SLOT_STATE n)) :
    t.slotState n = s.slotState n := State.fld_congr h _

theorem State.slot_congr (h : t.clause.slots = s.clause.slots) (n : Nat) : t.slot n = s.slot n := by
  rw [State.slot, h, State.slot]

@[simp] theorem State.slot_setSlot_same (s : State) (n : Nat) (q : ClauseSlot) : (s.setSlot n q).slot n = q :=
  SMap.find_set_same _ _ _ _

theorem State.slot_setSlot_ne (s : State) {n i : Nat} (q : ClauseSlot) (h : n ≠ i) :
    (s.setSlot n q).slot i = s.slot i := SMap.find_set_ne _ _ _ _ _ _ h

@[simp] theorem State.reg_setSlot (s : State) (n : Nat) (q : ClauseSlot) (a : Nat) : (s.setSlot n q).reg a = s.reg a := rfl

theorem Steady.setSlot (h : Steady R P s t) (hP : Part.clause ∈ P) (n : Nat) (q : ClauseSlot) :
    Steady R P s (t.setSlot n q) := h.of_frame (h.1.clause hP _) rfl rfl

/-! ### Writing the state of a slot -/

@[simp] theorem State.slot_setSlotState (s : State) (n st i : Nat) : (s.setSlotState n st).slot i = s.slot i := rfl

/-- Beside CLAUSE_STATUS and TIME_STATUS, the field STATE of the slot alone is written. -/
theorem State.reg_setSlotState (s : State) (n st : Nat) {a : Nat} (h1 : a ≠ Reg.CLAUSE_STATUS) (h2 : a ≠ Reg.TIME_STATUS) :
    (s.setSlotState n st).reg a =
      (s.setFld (Reg.CLAUSE_SLOT_STATE n) Fld.CLAUSE_SLOT_STATE_STATE st).reg a := by
  rw [State.setSlotState, State.syncRatePending, State.reg_setBit, if_neg h2.symm, State.syncClause, State.reg_setBit,
    if_neg h1.symm, State.reg_setFld, if_neg h1.symm]

theorem State.reg_setSlotState_ne (s : State) (n st : Nat) {a : Nat} (h1 : a ≠ Reg.CLAUSE_STATUS)
    (h2 : a ≠ Reg.TIME_STATUS) (h3 : a ≠ Reg.CLAUSE_SLOT_STATE n) : (s.setSlotState n st).reg a = s.reg a := by
  rw [s.reg_setSlotState n st h1 h2, State.reg_setFld, if_neg h3.symm]

/-- A field of the slot's word after its state is written. -/
theorem State.fld_setSlotState (s : State) (n st : Nat) (f : Field) :
    (s.setSlotState n st).fld (Reg.CLAUSE_SLOT_STATE n) f =
      (s.setFld (Reg.CLAUSE_SLOT_STATE n) Fld.CLAUSE_SLOT_STATE_STATE st).fld (Reg.CLAUSE_SLOT_STATE n) f :=
  State.fld_congr (s.reg_setSlotState n st (slotState_ne n (by decide)).symm (slotState_ne n (by decide)).symm) f

theorem State.slotState_setSlotState_same (s : State) (n st : Nat) : (s.setSlotState n st).slotState n = st % 2 ^ 4 :=
  (s.fld_setSlotState n st _).trans (s.fld_setFld_same _ _ st (by decide))

theorem Steady.setSlotState (h : Steady R P s t) {n : Nat} (hR : ∀ a, clauseRegs n a = true → R a = true) (st : Nat) :
    Steady R P s (t.setSlotState n st) :=
  (((h.setFld _ _ st (hR _ (clauseRegs_state n)) (slotState_high n)).setFld _ _ _ (hR _ (clauseRegs_status n))
    (by decide)).setBit _ _ _ (hR _ (clauseRegs_status n)) (by decide)).setBit _ _ _ (hR _ (clauseRegs_timeStatus n))
    (by decide)

theorem State.setSlotState_frame (s : State) (n st : Nat) : Frame (clauseRegs n) [] s (s.setSlotState n st) :=
  (Steady.refl.setSlotState (fun _ h => h) st).1

/-! ### Refusals -/

@[simp] theorem State.clause_raiseN (s : State) {src : Nat} (w3 : Nat) (hs : src < 320) :
    (s.raiseN src w3).clause = s.clause := (s.raise_frame src _ hs).2 .clause (by decide)

theorem State.slotState_raiseN (s : State) {src : Nat} (w3 : Nat) (hs : src < 320) (n : Nat) :
    (s.raiseN src w3).slotState n = s.slotState n :=
  State.slotState_congr (s.reg_raiseN_high w3 hs (slotState_high n))

theorem State.slot_raiseN (s : State) {src : Nat} (w3 : Nat) (hs : src < 320) (n : Nat) :
    (s.raiseN src w3).slot n = s.slot n := State.slot_congr (by rw [s.clause_raiseN w3 hs]) n

theorem State.silent_raiseN (s : State) {src : Nat} (w3 : Nat) (hs : src < 320) :
    (s.raiseN src w3).tally.silent = s.tally.silent := Frame.silent_eq (s.raise_frame src _ hs) (by decide)

theorem Steady.slotRefused (h : Steady R P s t) (hA : AllowsEvents R P) {n : Nat}
    (hR : ∀ a, clauseRegs n a = true → R a = true) (code rec : Nat) : Steady R P s (t.slotRefused n code rec) :=
  Steady.raiseN (Steady.countHold (Steady.setSlotState ((h.setFld _ _ _ (hR _ (clauseRegs_state n))
    (slotState_high n)).setFld _ _ _ (hR _ (clauseRegs_state n)) (slotState_high n)) hR 10) _ _
    (hR _ (clauseRegs_refusals n)) (by decide)) hA 306 _ (by decide)

/-- The slot's words after a refusal are those written before CLAUSE_REFUSALS counts it. -/
theorem State.reg_slotRefused (s : State) (n code rec : Nat) {a : Nat} (h : a ≠ Reg.CLAUSE_REFUSALS)
    (hl : 0x200000 ≤ a) : (s.slotRefused n code rec).reg a =
      (((s.setFld (Reg.CLAUSE_SLOT_STATE n) Fld.CLAUSE_SLOT_STATE_CODE code).setFld (Reg.CLAUSE_SLOT_STATE n)
        Fld.CLAUSE_SLOT_STATE_RECORD rec).setSlotState n 10).reg a :=
  (State.reg_raiseN_high _ _ (by decide) hl).trans (State.reg_countHold_ne _ _ h.symm)

theorem State.clause_slotRefused (s : State) (n code rec : Nat) : (s.slotRefused n code rec).clause = s.clause :=
  State.clause_raiseN _ _ (by decide)

theorem State.slotState_slotRefused_same (s : State) (n code rec : Nat) : (s.slotRefused n code rec).slotState n = 10 :=
  (State.slotState_congr (s.reg_slotRefused n code rec (slotState_ne n (by decide)).symm (slotState_high n))).trans
    (State.slotState_setSlotState_same _ n 10)

theorem State.code_slotRefused (s : State) (n code rec : Nat) :
    (s.slotRefused n code rec).fld (Reg.CLAUSE_SLOT_STATE n) Fld.CLAUSE_SLOT_STATE_CODE = code % 2 ^ 4 := by
  rw [State.fld_congr (s.reg_slotRefused n code rec (slotState_ne n (by decide)).symm (slotState_high n)),
    State.fld_setSlotState, State.fld_setFld_apart _ _ (by decide) (by decide),
    State.fld_setFld_apart _ _ (by decide) (by decide)]
  exact s.fld_setFld_same _ _ code (by decide)

theorem State.record_slotRefused (s : State) (n code rec : Nat) :
    (s.slotRefused n code rec).fld (Reg.CLAUSE_SLOT_STATE n) Fld.CLAUSE_SLOT_STATE_RECORD = rec % 2 ^ 13 := by
  rw [State.fld_congr (s.reg_slotRefused n code rec (slotState_ne n (by decide)).symm (slotState_high n)),
    State.fld_setSlotState, State.fld_setFld_apart _ _ (by decide) (by decide)]
  exact State.fld_setFld_same _ _ _ rec (by decide)

theorem State.refusals_slotRefused (s : State) (n code rec : Nat) :
    (s.slotRefused n code rec).regN Reg.CLAUSE_REFUSALS = min (s.regN Reg.CLAUSE_REFUSALS + 1) 0xFFFFFFFF := by
  have hn := slotState_ne (a := Reg.CLAUSE_REFUSALS) n (by decide)
  rw [State.slotRefused, State.regN_congr (State.reg_raiseN_high _ _ (by decide) (by decide)),
    State.regN_countHold_same, State.regN_congr (State.reg_setSlotState_ne _ n 10 (by decide) (by decide) hn),
    State.regN_setFld_ne _ _ _ hn.symm, State.regN_setFld_ne _ _ _ hn.symm]

theorem State.slotRefused_shown (s : State) (n code rec : Nat) (hq : s.tally.silent = false) :
    (s.slotRefused n code rec).shown 306 := State.raiseN_shown _ 306 _ (by decide) hq

/-! ### Refused commands -/

/-- CMD_ERR and CMD_SLOT show a refused command, CLAUSE_REFUSALS counts it, CLAUSE_REFUSED is raised. -/
theorem State.cmdRefused_does (s : State) {n code : Nat} (hn : n < 16) (hc : code < 16) (hq : s.tally.silent = false) :
    CmdRefused n code noRegs s (s.cmdRefused n code) := by
  have h1 : (s.cmdRefused n code).reg Reg.CLAUSE_STATUS = ((s.setFld Reg.CLAUSE_STATUS Fld.CLAUSE_STATUS_CMD_ERR
      code).setFld Reg.CLAUSE_STATUS Fld.CLAUSE_STATUS_CMD_SLOT n).reg Reg.CLAUSE_STATUS :=
    (State.reg_raiseN_high _ _ (by decide) (by decide)).trans (State.reg_countHold_ne _ _ (by decide))
  have h2 : (s.cmdRefused n code).regN Reg.CLAUSE_REFUSALS = min (s.regN Reg.CLAUSE_REFUSALS + 1) 0xFFFFFFFF := by
    rw [State.cmdRefused, State.regN_congr (State.reg_raiseN_high _ _ (by decide) (by decide)),
      State.regN_countHold_same, State.regN_setFld_ne _ _ _ (by decide), State.regN_setFld_ne _ _ _ (by decide)]
  refine ⟨?err, ?slot, h2, State.raiseN_shown _ 306 _ (by decide) hq, ?frame⟩
  case err =>
    rw [State.fld_congr h1, State.fld_setFld_apart _ _ (by decide) (by decide), State.fld_setFld_same _ _ _ _ (by decide)]
    exact Nat.mod_eq_of_lt hc
  case slot =>
    rw [State.fld_congr h1, State.fld_setFld_same _ _ _ _ (by decide)]
    exact Nat.mod_eq_of_lt hn
  case frame =>
    have h0 : FrameEv (fun a => a == Reg.CLAUSE_STATUS || a == Reg.CLAUSE_REFUSALS || noRegs a) [] s s := Frame.refl
    exact Frame.raiseN (((h0.setFld _ _ _ (by decide)).setFld _ _ _ (by decide)).countHold _ _ (by decide))
      (AllowsEvents.ev _ _) 306 _ (by decide)

/-- A refused command stays one when registers beside its own are written after it. -/
theorem CmdRefused.then {n code : Nat} {regs : Nat → Bool} (h : CmdRefused n code noRegs s t) (hf : Frame regs [] t u)
    (h1 : regs Reg.CLAUSE_STATUS = false) (h2 : regs Reg.CLAUSE_REFUSALS = false)
    (hc : ∀ g < 10, regs (Reg.EVG_CAUSE g) = false) : CmdRefused n code regs s u := by
  obtain ⟨herr, hslot, hcount, hshown, hframe⟩ := h
  refine ⟨(State.fld_congr (hf.1 _ h1) _).trans herr, (State.fld_congr (hf.1 _ h1) _).trans hslot,
    (State.regN_congr (hf.1 _ h2)).trans hcount, ?_, ?_⟩
  · rw [State.shown, hf.1 _ (hc _ (by decide))]
    exact hshown
  · exact Frame.trans (hframe.mono (fun a ha => by simp [noRegs] at ha ⊢; tauto) (fun p hp => hp))
      (hf.mono (fun a ha => by simp [ha]) (fun p hp => absurd hp (List.not_mem_nil)))

end Sys2Proof.Machine
end

section
/-! SUPPORT. The idle copies of a clause: reading its image, filling, taking the fill back, and the mirror pass (R264, R267,
R274-R280). -/

namespace Sys2Proof.Machine

variable {R : Nat → Bool} {P : List Part} {s t u : State}

/-! ### Accesses of a unit -/

theorem Steady.vatCorr (h : Steady R P s t) (hB : AllowsBus R P) (addr n : Nat) : Steady R P s (t.vatCorr addr n) :=
  ⟨h.1.vatCorr hB addr n, h.2.vatCorr addr n⟩

theorem Steady.vatUncorr (h : Steady R P s t) (hB : AllowsBus R P) (code addr : Nat) :
    Steady R P s (t.vatUncorr code addr) := h.raiseN hB.1 162 _ (by decide)

theorem Steady.vatScan (h : Steady R P s t) (hB : AllowsBus R P) (addr n : Nat) : Steady R P s (t.vatScan addr n) := by
  have h1 := (h.takeFree hB.1.2).vatCorr hB addr n
  unfold State.vatScan State.vatLook
  exact .ite (h1.vatUncorr hB _ _) h1

theorem Steady.unitPut (h : Steady R P s t) (hB : AllowsBus R P) (hm : Part.mem ∈ P) (he : Part.ecc ∈ P) (a : Nat)
    (bs : List Byte) : Steady R P s (t.unitPut a bs) := by
  refine ⟨h.1.unitPut hB hm he a bs, ?_⟩
  unfold State.unitPut
  dsimp only
  split
  · split
    · exact (h.2.vatCorrs _).takeFree.raiseN 162 _
    · exact (h.2.vatCorrs _).of_regs rfl rfl
  · exact h.2

/-- What a state keeps of memory outside the vat window. -/
def KeepsBesideVat (m m' : Memory) : Prop := KeepsOutside m m' vatLo (vatHi - vatLo)

theorem KeepsBesideVat.refl {m : Memory} : KeepsBesideVat m m := fun _ _ => rfl

theorem KeepsBesideVat.trans {m m' m'' : Memory} (h : KeepsBesideVat m m') (h' : KeepsBesideVat m' m'') :
    KeepsBesideVat m m'' := fun x hx => (h' x hx).trans (h x hx)

/-- A unit's write lands in vat memory only (R403). -/
theorem State.unitPut_besideVat (s : State) (a : Nat) (bs : List Byte) : KeepsBesideVat s.mem (s.unitPut a bs).mem := by
  have hc := (s.vatCorrs_mem_ecc (rmwWords a bs.length)).1
  unfold State.unitPut
  dsimp only
  split
  case isTrue hv =>
    rw [inVat_iff] at hv
    split
    · have hf := ((Steady.refl (s := s) (R := fun a => eventReg a || busRegs a) (P := [.events])).trans
        ⟨Frame.refl.vatCorrs (AllowsBus.ev _) (rmwWords a bs.length), CauseLe.refl.vatCorrs _⟩).takeFree (by decide)
      exact fun x _ => congrArg (Memory.byte · x) ((hf.vatUncorr (AllowsBus.ev _) _ _).1.2 .mem (by decide))
    · intro x hx
      refine (Memory.write_keeps _ a bs x ?_).trans (congrArg (Memory.byte · x) hc)
      unfold vatLo vatHi at hx
      omega
  case isFalse => exact .refl

/-- A step of the filling: it names the registers and parts of an access to vat memory and of the spare versions, and what
stands beside the vat window stays. -/
def FillStep (s t : State) : Prop :=
  Steady (fun a => eventReg a || busRegs a) [.events, .mem, .ecc, .spare] s t ∧ KeepsBesideVat s.mem t.mem

theorem fillStep_bus : AllowsBus (fun a => eventReg a || busRegs a) [.events, .mem, .ecc, .spare] :=
  ⟨AllowsEvents.ev _ _, fun a ha => by simp [ha]⟩

theorem FillStep.refl : FillStep s s := ⟨.refl, .refl⟩

theorem FillStep.trans (h : FillStep s t) (h' : FillStep t u) : FillStep s u := ⟨h.1.trans h'.1, h.2.trans h'.2⟩

theorem FillStep.foldl {α : Type} (f : State → α → State) (l : List α) (h : FillStep s t)
    (hf : ∀ u x, x ∈ l → FillStep s u → FillStep s (f u x)) : FillStep s (l.foldl f t) := by
  induction l generalizing t with
  | nil => exact h
  | cons x l ih => exact ih (hf t x (by simp) h) (fun u y hy => hf u y (List.mem_cons_of_mem _ hy))

theorem FillStep.unitPut (h : FillStep s t) (a : Nat) (bs : List Byte) : FillStep s (t.unitPut a bs) :=
  ⟨h.1.unitPut fillStep_bus (by decide) (by decide) a bs, h.2.trans (t.unitPut_besideVat a bs)⟩

/-- Reading an image or a source of a record changes no memory and none of what CLAUSE keeps. -/
theorem State.vatScan_steady (s : State) (a n : Nat) :
    Steady (fun a => eventReg a || busRegs a) [.events] s (s.vatScan a n) := Steady.refl.vatScan (AllowsBus.ev _) a n

theorem FillStep.vatScan (h : FillStep s t) (a n : Nat) : FillStep s (t.vatScan a n) := by
  refine ⟨h.1.vatScan fillStep_bus a n, h.2.trans ?_⟩
  rw [show (t.vatScan a n).mem = t.mem from (t.vatScan_steady a n).1.2 .mem (by decide)]
  exact .refl

theorem FillStep.spare (h : FillStep s t) (m : Memory) : FillStep s { t with spare := m } :=
  ⟨h.1.of_frame (h.1.1.spare (by decide) m) rfl rfl, h.2⟩

theorem FillStep.ite {c : Prop} [Decidable c] (h1 : FillStep s t) (h2 : FillStep s u) : FillStep s (if c then t else u) := by
  split
  · exact h1
  · exact h2

theorem FillStep.slots_eq (h : FillStep s t) : t.clause = s.clause := h.1.1.2 .clause (by decide)

theorem FillStep.reg_eq (h : FillStep s t) {a : Nat} (h1 : eventReg a = false) (h2 : busRegs a = false) :
    t.reg a = s.reg a := FrameEv.reg_eq h.1.1 a h1 h2

/-! ### Filling and its reverse -/

theorem State.imgScan_steady (s : State) (n : Nat) :
    Steady (fun a => eventReg a || busRegs a) [.events] s (s.imgScan n) := by
  unfold State.imgScan
  exact .ite (s.vatScan_steady _ _) .refl

theorem FillStep.imgScan (h : FillStep s t) (n : Nat) : FillStep s (t.imgScan n) := by
  unfold State.imgScan
  exact .ite (h.vatScan _ _) h

theorem FillStep.bankRec (h : FillStep s t) (tab : Nat) (b : Bool) (r : Rec) : FillStep s (t.bankRec tab b r) := by
  unfold State.bankRec
  exact .ite (h.unitPut _ _) (h.unitPut _ _)

theorem FillStep.fillRec (h : FillStep s t) (tab : Nat) (r : Rec) : FillStep s (t.fillRec tab r) := by
  unfold State.fillRec
  split
  · exact h.bankRec _ _ _
  · exact (h.vatScan _ _).bankRec _ _ _
  · exact h.unitPut _ _
  · exact (FillStep.ite h (h.vatScan _ _)).spare _
  · exact h

theorem State.fillSlot_step (s : State) (n : Nat) : FillStep s (s.fillSlot n) :=
  .foldl _ _ (.imgScan .refl n) fun _ _ _ h => h.fillRec _ _

theorem FillStep.unfillRec (h : FillStep s t) (tab : Nat) (r : Rec) : FillStep s (t.unfillRec tab r) := by
  unfold State.unfillRec
  dsimp only
  split
  · exact h.unitPut _ _
  · exact h.unitPut _ _
  · exact h.unitPut _ _
  · exact h.spare _
  · exact h

/-! ### Entering UNWIND -/

/-- The copies of a slot that unwinds: they are taken back where they have been written. -/
def State.unfilled (s : State) (n : Nat) (filled : Bool) : State :=
  if filled then (s.slotRecs n).foldl (fun t r => t.unfillRec (s.slot n).ptab r) (s.imgScan n) else s

theorem State.unfilled_step (s : State) (n : Nat) (filled : Bool) : FillStep s (s.unfilled n filled) := by
  unfold State.unfilled
  exact .ite (.foldl _ _ (.imgScan .refl n) fun _ _ _ h => h.unfillRec _ _) .refl

theorem State.slotUnwind_eq (s : State) (n end_ : Nat) (filled : Bool) : s.slotUnwind n end_ filled =
    ((s.unfilled n filled).setSlot n { s.slot n with endState := end_ }).setSlotState n 9 := rfl

/-- A slot that enters UNWIND keeps how it is to end, and what it has not filled it leaves. -/
theorem State.slotUnwind_leaves (s : State) (n end_ : Nat) (filled : Bool) :
    (s.slotUnwind n end_ filled).slotState n = 9 ∧ ((s.slotUnwind n end_ filled).slot n).endState = end_ ∧
      (filled = false → (s.slotUnwind n end_ filled).mem = s.mem ∧ (s.slotUnwind n end_ filled).spare = s.spare) ∧
      FrameEv (fun a => clauseRegs n a || busRegs a) [.mem, .ecc, .spare, .clause] s (s.slotUnwind n end_ filled) := by
  rw [s.slotUnwind_eq n end_ filled]
  refine ⟨State.slotState_setSlotState_same _ n 9, ?_, ?_, ?_⟩
  · rw [State.slot_setSlotState, State.slot_setSlot_same]
  · rintro rfl
    exact ⟨rfl, rfl⟩
  · have h : Steady (fun a => eventReg a || (clauseRegs n a || busRegs a)) [.events, .mem, .ecc, .spare, .clause] s
        (s.unfilled n filled) :=
      (s.unfilled_step n filled).1.mono (fun a ha => by simp at ha ⊢; tauto) (by decide)
    exact ((h.setSlot (by decide) n _).setSlotState (fun a ha => by simp [ha]) 9).1

end Sys2Proof.Machine
end

section
/-! SUPPORT. What the admission of a clause checks: each check on its own, and what passing all of them says (R269-R272,
R284, R291, R605). -/

namespace Sys2Proof.Machine

variable {s t : State} {n : Nat}

/-! ### Checks in order -/

theorem recIdx_eq_none {recs : List Rec} {p : Rec → Bool} : recIdx recs p = none ↔ ∀ r ∈ recs, p r = false := by
  simp [recIdx, List.findIdx?_eq_none_iff]

theorem minIdx_eq_none {a b : Option Nat} : minIdx a b = none ↔ a = none ∧ b = none := by
  cases a <;> cases b <;> simp [minIdx]

theorem firstRefusal_eq_none {l : List (Nat × Option Nat)} : firstRefusal l = none ↔ ∀ x ∈ l, x.2 = none := by
  induction l with
  | nil => simp [firstRefusal]
  | cons x l ih =>
    obtain ⟨code, _ | i⟩ := x
    · simpa [firstRefusal] using ih
    · simp [firstRefusal]

theorem ite_some_eq_none {c : Prop} [Decidable c] {i : Nat} : (if c then some i else none) = none ↔ ¬ c := by
  split <;> simp_all

/-! ### Images -/

/-- Code FORMAT by the header alone (R260, R269). -/
theorem State.formatErr_header {img : Nat} (h : img % 16 ≠ 0 ∨ inVat img 32 = false ∨ s.imgWord img 0 % 2 ^ 13 = 0 ∨
    4096 < s.imgWord img 0 % 2 ^ 13) : s.formatErr img = some 0 := by
  unfold State.formatErr
  dsimp only
  rcases h with h | h | h | h
  · exact if_pos (.inl h)
  · exact if_pos (.inr (by simp [h]))
  · split
    · rfl
    · exact if_pos (.inl h)
  · split
    · rfl
    · exact if_pos (.inr (.inl h))

/-- An image of a right form has no bad record, and every record lies inside the vat window (R260, R261). -/
theorem State.formatErr_records {img : Nat} (h : s.formatErr img = none) :
    ∀ r ∈ s.imgRecs img (s.imgWord img 0 % 2 ^ 13), r.bad = false := by
  unfold State.formatErr at h
  dsimp only at h
  split at h
  · cases h
  split at h
  · cases h
  simp only [minIdx_eq_none, ite_some_eq_none] at h
  obtain ⟨⟨hbad, -⟩, hin⟩ := h
  have hm : recsInside img (s.imgWord img 0 % 2 ^ 13) = s.imgWord img 0 % 2 ^ 13 :=
    Nat.le_antisymm (Nat.min_le_left _ _) (Nat.le_of_not_lt hin)
  rw [hm] at hbad
  exact recIdx_eq_none.1 hbad

/-! ### What a clause that passes has shown -/

theorem State.admission_format {i : Nat} (h : s.formatErr (s.slot n).image = some i) : s.admission n = .inl (1, i) := by
  rw [State.admission, h]

theorem State.admission_crc (h : s.formatErr (s.slot n).image = none)
    (hc : s.imgCrcOk (s.slot n).image (s.slot n).nrec = false) : s.admission n = .inl (2, 0) := by
  simp only [State.admission, h, hc, Bool.not_false, if_true]

/-- The checks that a clause has passed, of those that are about its records, its times and the other staged clauses. -/
structure Passed (n : Nat) (s : State) : Prop where
  format : s.formatErr (s.slot n).image = none
  crc : s.imgCrcOk (s.slot n).image (s.slot n).nrec = true
  kind : ∃ restart, kindErr (s.slot n).kind (s.imgRecs (s.slot n).image (s.slot n).nrec) restart = none
  target : ∃ tab np plls, s.targetErr tab np plls (s.imgRecs (s.slot n).image (s.slot n).nrec) = none
  range : (s.slot n).immediate = false → (s.commitTime n).2 ≤ s.now + 3600 * secUnit
  edge : (s.slot n).immediate = false → (s.commitTime n).1.isSome
  lead : (s.slot n).immediate = false → (s.slot n).submitPt + (s.slot n).armLead * usUnit < (s.commitTime n).2
  bandwidth : s.bandwidthErr (s.pendingSlots n) (s.imgRecs (s.slot n).image (s.slot n).nrec) = none
  overlap : ∃ sameC, overlapErr (s.pendingSlots n) (s.imgRecs (s.slot n).image (s.slot n).nrec) sameC = none
  fresh : staleGen (s.reg Reg.CLAUSE_GEN_LAST) (s.pendingSlots n) (s.commitTime n).2 (s.slot n).gen = false
  seal_ : s.sealErr (s.imgRecs (s.slot n).image (s.slot n).nrec) = none
  stopped : (s.slot n).immediate = true → s.seqState = 0

/-- A clause is admitted where every check passes, and keeps what its image and its slot said (R267, R269). -/
theorem State.admission_passed {q : ClauseSlot} (h : s.admission n = .inr q) : Passed n s ∧
    q.recs = s.imgRecs (s.slot n).image (s.slot n).nrec ∧ q.c = (s.commitTime n).2 := by
  unfold State.admission at h
  dsimp only at h
  split at h
  · cases h
  rename_i hformat
  split at h
  · cases h
  rename_i hcrc
  split at h
  · cases h
  rename_i hchecks
  simp only [firstRefusal_eq_none, List.forall_mem_cons, minIdx_eq_none, ite_some_eq_none] at hchecks
  obtain ⟨hkind, htarget, ⟨⟨-, hrange⟩, -⟩, hedge, hlead, hband, -, -, hover, hfresh, hseal, hstop, -⟩ := hchecks
  cases h
  refine ⟨⟨hformat, by simpa using hcrc, ⟨_, hkind⟩, ⟨_, _, _, htarget⟩, ?_, ?_, ?_, hband, ⟨_, hover⟩, by simpa using hfresh,
    hseal, ?_⟩, rfl, rfl⟩
  · intro hi
    simpa [hi] using hrange
  · intro hi
    rw [hi, if_pos (by decide), minIdx_eq_none, ite_some_eq_none] at hedge
    simpa [Option.isSome_iff_ne_none] using hedge.1
  · intro hi
    simpa [hi] using hlead
  · intro hi
    simpa [hi] using hstop

/-! ### What the checks say of the records -/

theorem kindErr_none {kind : Nat} {recs : List Rec} {restart : List Nat} (h : kindErr kind recs restart = none) :
    ∀ r ∈ recs, (r.op = 7 → kind = 2) ∧ (r.op = 8 → kind = 1) := by
  simp only [kindErr, minIdx_eq_none] at h
  obtain ⟨⟨-, h7⟩, h8, -⟩ := h
  intro r hr
  constructor <;> intro hop <;> by_contra hk
  · rw [if_neg hk] at h7
    simpa [hop] using recIdx_eq_none.1 h7 r hr
  · rw [if_neg hk] at h8
    simpa [hop] using recIdx_eq_none.1 h8 r hr

theorem State.targetErr_none {tab np : Nat} {plls : List Nat} {recs : List Rec} (h : s.targetErr tab np plls recs = none) :
    (∀ r ∈ recs, r.op = 1 → shBits r.w1 ≠ 0 ∧ r.w1 ≠ Reg.MIX_RCTRL) ∧ (∀ r ∈ recs, r.op = 4 → r.sink < 16462) ∧
      ∀ r ∈ recs, r.op = 5 →
        r.w1 < (if r.mac then 16384 else 8192) ∧ (r.w2 ≠ 0 → inVat r.w2 (entrySize r.mac) = true) := by
  have hr := recIdx_eq_none.1 h
  refine ⟨fun r hm hop => ?_, fun r hm hop => ?_, fun r hm hop => ?_⟩ <;> have h1 := hr r hm <;> simp only [hop] at h1
  · simp only [Bool.or_eq_false_iff, beq_eq_false_iff_ne] at h1
    exact h1.1
  · simpa using h1
  · simpa [or_iff_not_imp_left] using h1

/-- A target whose net change is not zero is named by a GUARANTEE record. -/
theorem netOf_named {recs : List Rec} {t : Nat} (h : netOf recs t ≠ 0) : ∃ r ∈ recs, r.op = 6 ∧ r.target = t := by
  by_contra hn
  push Not at hn
  refine h (List.foldlRecOn recs _ (motive := (· = 0)) rfl fun b hb r hr => ?_)
  rw [if_neg fun hc => hn r hr hc.1 hc.2, hb]

theorem State.bandwidthErr_none {ps : List ClauseSlot} {recs : List Rec} (h : s.bandwidthErr ps recs = none) (t : Nat)
    (ht : 0 < netOf recs t) : (s.regN (Reg.XBAR_GSUM t) : Int) + netOf recs t +
      (ps.map (fun p => max 0 (netOf p.recs t))).foldl (· + ·) 0 ≤ s.capOf t := by
  obtain ⟨r, hr, hop, rfl⟩ := netOf_named ht.ne'
  simpa [hop, ht] using recIdx_eq_none.1 h r hr

theorem overlapErr_none {ps : List ClauseSlot} {recs : List Rec} {sameC : Bool} (h : overlapErr ps recs sameC = none) :
    ∀ p ∈ ps, ∀ x ∈ recs, ∀ y ∈ p.recs, x.object = Rec.object y → x.object = none := by
  have hr := recIdx_eq_none.1 (minIdx_eq_none.1 h).2
  intro p hp x hx y hy he
  have h1 := hr x hx
  cases ho : x.object with
  | none => rfl
  | some o =>
    rw [ho] at h1
    simp only [List.contains_eq_mem, decide_eq_false_iff_not, List.mem_flatMap, List.mem_filterMap] at h1
    exact absurd ⟨p, hp, y, hy, he ▸ ho⟩ h1

theorem staleGen_false {force gen : Word} {ps : List ClauseSlot} {c : Nat} (h : staleGen force ps c gen = false) :
    seqAhead gen force = true ∧
      ∀ p ∈ ps, (p.c < c → seqAhead gen p.gen = true) ∧ (c < p.c → seqAhead p.gen gen = true) := by
  simp only [staleGen, Bool.or_eq_false_iff, Bool.not_eq_false', List.any_eq_false, Bool.or_eq_true, Bool.and_eq_true,
    decide_eq_true_eq, Bool.not_eq_true', not_or, not_and, Bool.not_eq_false] at h
  exact h

theorem State.sealErr_none {recs : List Rec} (h : s.sealErr recs = none) :
    ∀ r ∈ recs, r.op = 7 → r.w1 ≠ 0 ∧ s.regN (stagedReg (bitOf r.mac)) = r.w1 := by
  intro r hr hop
  simpa [hop] using recIdx_eq_none.1 h r hr

/-- A clause that has passed the checks is admissible. -/
theorem Passed.admissible (h : Passed n s) : Admissible n s := by
  obtain ⟨-, -, ⟨_, hkind⟩, ⟨_, _, _, htarget⟩, hrange, hedge, hlead, hband, ⟨_, hover⟩, hfresh, hseal, hstop⟩ := h
  obtain ⟨hreg, hroute, hentry⟩ := State.targetErr_none htarget
  obtain ⟨hgen, hgens⟩ := staleGen_false hfresh
  exact ⟨kindErr_none hkind, hreg, hroute, hentry, fun hi => ⟨hrange hi, hlead hi, hedge hi⟩, State.bandwidthErr_none hband,
    overlapErr_none hover, hgen, hgens, State.sealErr_none hseal, hstop⟩

end Sys2Proof.Machine
end

section
/-! SUPPORT. The admission of a clause: its RDLY is staged beside what the slots hold, and the slot is refused, waits for idle
banks, or is filled (R239, R267, R269, R282). -/

namespace Sys2Proof.Machine

variable {s t : State} {n : Nat}

/-! ### Staged delays -/

/-- From s to t the slots have been given RDLY, and nothing else has changed. -/
def Delayed (s t : State) : Prop :=
  t = { s with clause := { s.clause with slots := t.clause.slots } } ∧
    ∀ i, t.slot i = { s.slot i with rdly := (t.slot i).rdly }

theorem Delayed.refl : Delayed s s := ⟨rfl, fun _ => rfl⟩

theorem Delayed.setRdly (h : Delayed s t) (i : Nat) (d : Option (SMap Nat)) :
    Delayed s (t.setSlot i { s.slot i with rdly := d }) := by
  obtain ⟨heq, hslot⟩ := h
  refine ⟨?_, fun j => ?_⟩
  · rw [heq]
    rfl
  · by_cases hij : i = j
    · subst hij
      rw [State.slot_setSlot_same]
    · rw [State.slot_setSlot_ne _ _ hij]
      exact hslot j

theorem State.stageDelays_delayed (s : State) (n : Nat) : Delayed s (s.stageDelays n) := by
  unfold State.stageDelays
  extract_lets before held earlier apply delays q s0
  split
  · refine List.foldlRecOn held _ (motive := Delayed s) .refl fun t ht i _ => ?_
    split
    · exact ht.setRdly i _
    · exact ht
  · exact .refl

theorem Delayed.regs_eq (h : Delayed s t) : t.regs = s.regs := by rw [h.1]

theorem Delayed.retiring_eq (h : Delayed s t) : t.clause.retiring = s.clause.retiring := by rw [h.1]

theorem Delayed.stream_eq (h : Delayed s t) : t.stream = s.stream := by rw [h.1]

theorem Delayed.steady (h : Delayed s t) {R : Nat → Bool} {P : List Part} (hP : Part.clause ∈ P) : Steady R P s t := by
  rw [h.1]
  exact Steady.refl.of_frame (Frame.refl.clause hP _) rfl rfl

/-! ### Idle banks -/

/-- Whether banks are idle depends on the slots but for their RDLY, and on the frames in flight. -/
theorem State.banksBusy_congr (hst : ∀ i, t.slotState i = s.slotState i)
    (hq : ∀ i, t.slot i = { s.slot i with rdly := (t.slot i).rdly }) (hr : t.clause.retiring = s.clause.retiring)
    (hs : t.stream = s.stream) (n : Nat) (inPass : Bool) : t.banksBusy n inPass = s.banksBusy n inPass := by
  have hrecs : ∀ i, (t.slot i).recs = (s.slot i).recs := fun i => by rw [hq i]
  have hmirror : ∀ i, (t.slot i).mirror = (s.slot i).mirror := fun i => by rw [hq i]
  have hbanks : ∀ i, (t.slot i).banks = (s.slot i).banks := fun i => by
    rw [hq i]
    rfl
  have hdrain : ∀ mac i, t.draining mac i = s.draining mac i := fun mac i => by
    rw [State.draining, State.stillRetiring, State.flying, hr, hs]
    rfl
  simp only [State.banksBusy, hst, hrecs, hmirror, hbanks, hdrain]

/-! ### Admission -/

theorem State.clauseAdmit_eq (h1 : s.slotState n = 1)
    (hf : ∀ i : Fin 16, s.slotState i = 1 → (s.slot i).submittedBefore (s.slot n) = false) :
    s.clauseAdmit n = match s.admission n with
      | .inl r => (s.imgScan n).slotRefused n r.1 r.2
      | .inr q =>
        (((s.imgScan n).setSlot n q).stageDelays n).setSlotState n
          (if (((s.imgScan n).setSlot n q).stageDelays n).banksBusy n true then 3 else 2) := by
  unfold State.clauseAdmit
  refine if_pos ⟨h1, List.all_eq_true.2 fun i hi => ?_⟩
  by_cases hs : s.slotState i = 1
  · simp [hf ⟨i, List.mem_range.1 hi⟩ hs]
  · simp [hs]

theorem busRegs_slotState (i : Nat) : busRegs (Reg.CLAUSE_SLOT_STATE i) = false := by
  rw [busRegs, ← Bool.not_eq_true, inRange_iff]
  unfold Reg.CLAUSE_SLOT_STATE
  omega

theorem State.silent_imgScan (s : State) (n : Nat) : (s.imgScan n).tally.silent = s.tally.silent :=
  (s.imgScan_steady n).2.2

theorem State.clause_imgScan (s : State) (n : Nat) : (s.imgScan n).clause = s.clause :=
  (s.imgScan_steady n).1.2 .clause (by decide)

theorem State.slotState_imgScan (s : State) (n i : Nat) : (s.imgScan n).slotState i = s.slotState i :=
  State.slotState_congr (FrameEv.reg_eq (s.imgScan_steady n).1 _ (eventReg_high _ (slotState_high i))
    (busRegs_slotState i))

theorem State.refusals_imgScan (s : State) (n : Nat) : (s.imgScan n).regN Reg.CLAUSE_REFUSALS = s.regN Reg.CLAUSE_REFUSALS :=
  State.regN_congr (FrameEv.reg_eq (s.imgScan_steady n).1 _ (by decide) (by decide))

/-- A clause that is not admitted is refused with the code and the record of the check that it fails. -/
theorem State.clauseAdmit_refused {code rec : Nat} (h1 : s.slotState n = 1)
    (hf : ∀ i : Fin 16, s.slotState i = 1 → (s.slot i).submittedBefore (s.slot n) = false)
    (h : s.admission n = .inl (code, rec)) : s.clauseAdmit n = (s.imgScan n).slotRefused n code rec := by
  rw [State.clauseAdmit_eq h1 hf, h]

/-- What the admission of a clause leaves: its slot as admitted but for RDLY, in FILLING or waiting for idle banks. -/
theorem State.clauseAdmit_admitted {q : ClauseSlot} (h1 : s.slotState n = 1)
    (hf : ∀ i : Fin 16, s.slotState i = 1 → (s.slot i).submittedBefore (s.slot n) = false) (h : s.admission n = .inr q) :
    (∀ i, (s.clauseAdmit n).slot i =
      { (s.setSlot n q).slot i with rdly := ((s.clauseAdmit n).slot i).rdly }) ∧
    (s.clauseAdmit n).slotState n = if (s.setSlot n q).banksBusy n true then 3 else 2 := by
  have hd := State.stageDelays_delayed ((s.imgScan n).setSlot n q) n
  have hslot : ∀ i, ((s.imgScan n).setSlot n q).slot i = (s.setSlot n q).slot i :=
    fun i => State.slot_congr (by rw [State.setSlot, State.clause_imgScan]; rfl) i
  have hdslot : ∀ i, (((s.imgScan n).setSlot n q).stageDelays n).slot i = { (s.setSlot n q).slot i with
      rdly := ((((s.imgScan n).setSlot n q).stageDelays n).slot i).rdly } := fun i => hslot i ▸ hd.2 i
  rw [State.clauseAdmit_eq h1 hf, h]
  refine ⟨hdslot, ?_⟩
  have hbusy : (((s.imgScan n).setSlot n q).stageDelays n).banksBusy n true = (s.setSlot n q).banksBusy n true := by
    refine State.banksBusy_congr (fun i => ?_) hdslot ?_ ?_ n true
    · exact (State.slotState_congr (State.reg_congr _ _ hd.regs_eq _)).trans (s.slotState_imgScan n i)
    · exact hd.retiring_eq.trans (congrArg ClauseSt.retiring (s.clause_imgScan n) :)
    · exact hd.stream_eq.trans ((s.imgScan_steady n).1.2 .stream (by decide))
  rw [State.slotState_setSlotState_same, hbusy]
  split <;> rfl

theorem State.clauseAdmit_frame (s : State) (n : Nat) :
    FrameEv (fun a => clauseRegs n a || busRegs a) [.clause] s (s.clauseAdmit n) := by
  have hA : AllowsEvents (fun a => eventReg a || (clauseRegs n a || busRegs a)) [.events, .clause] := AllowsEvents.ev _ _
  have h0 : Steady (fun a => eventReg a || (clauseRegs n a || busRegs a)) [.events, .clause] s (s.imgScan n) :=
    (s.imgScan_steady n).mono (fun a ha => by simp at ha ⊢; tauto) (by decide)
  unfold State.clauseAdmit
  dsimp only
  split
  · split
    · exact (h0.slotRefused hA (fun a ha => by simp [ha]) _ _).1
    · exact (((h0.setSlot (by decide) n _).trans
        ((State.stageDelays_delayed _ n).steady (by decide))).setSlotState (fun a ha => by simp [ha]) _).1
  · exact Frame.refl

/-- A refusal as the obligations name it. -/
theorem State.slotRefused_refused (s : State) (n : Nat) {code : Nat} (rec : Nat) (hc : code < 16)
    (hq : s.tally.silent = false) : SlotRefused n code (s.slotRefused n code rec) :=
  ⟨s.slotState_slotRefused_same n code rec, (s.code_slotRefused n code rec).trans (Nat.mod_eq_of_lt hc),
    s.slotRefused_shown n code rec hq⟩

end Sys2Proof.Machine
end

section
/-! What the admission of a clause checks (R262, R269-R272, R284, R291, R292). -/

open Sys2Proof Sys2Proof.Machine

/-- Settles O59: the checks are made in order, so a clause that is admitted has passed each of them, and what each says of the
records and of the other staged clauses is what the statement lists. -/
theorem clauseAdmission : Obligations.ClauseAdmission := by
  unfold Obligations.ClauseAdmission
  intro n s h1 hf hq
  have hqi : (s.imgScan n).tally.silent = false := (s.silent_imgScan n).trans hq
  refine ⟨s.clauseAdmit n, rfl, ?format, ?crc, ?state, ?admitted⟩
  case format =>
    intro h
    rw [State.clauseAdmit_refused h1 hf (State.admission_format (State.formatErr_header h))]
    exact State.slotRefused_refused _ n 0 (by decide) hqi
  case crc =>
    intro hform hcrc
    rw [State.clauseAdmit_refused h1 hf (State.admission_crc hform hcrc)]
    exact State.slotRefused_refused _ n 0 (by decide) hqi
  case state =>
    cases h : s.admission n with
    | inl r =>
      left
      rw [State.clauseAdmit_refused h1 hf h]
      exact State.slotState_slotRefused_same _ _ _ _
    | inr q =>
      right
      rw [(State.clauseAdmit_admitted h1 hf h).2]
      split
      · exact .inr rfl
      · exact .inl rfl
  case admitted =>
    intro h10
    cases h : s.admission n with
    | inl r =>
      rw [State.clauseAdmit_refused h1 hf h] at h10
      exact absurd (State.slotState_slotRefused_same _ _ _ _) h10
    | inr q =>
      obtain ⟨hp, hrecs, hc⟩ := State.admission_passed h
      have hslot := (State.clauseAdmit_admitted h1 hf h).1 n
      rw [State.slot_setSlot_same] at hslot
      refine ⟨hp.crc, hp.admissible, fun hn => ?_, ?_, ?_⟩
      · rw [hn]
        exact State.formatErr_records hp.format
      · rw [hslot]
        exact hrecs
      · rw [hslot]
        exact hc

end

section
/-! SUPPORT. The commands of a clause slot beside its admission and its commit: SUBMIT, the end of FILLING, CONFIRM, ABORT,
the arm deadline, the end of UNWIND and of the mirror pass (R266, R267, R280, R288, R289). -/

namespace Sys2Proof.Machine

variable {R : Nat → Bool} {P : List Part} {s t u : State}

/-! ### SUBMIT -/

theorem State.hostBarred_boot (s : State) (a : Nat) : s.hostBarred .boot a = false := rfl

theorem State.hostBarred_submitter {m : RegMaster} (a : Nat) (h : s.released = true ∨ m = .boot) :
    s.hostBarred m a = false := by
  rcases h with h | rfl
  · exact s.hostBarred_released m a h
  · exact s.hostBarred_boot a

/-- Where the master may submit, SUBMIT asks for a slot that is free (R266). -/
theorem State.clauseSubmit_eq {m : RegMaster} (h : s.released = true ∨ m = .boot) (n img : Nat) : s.clauseSubmit m n img =
    if slotFree (s.slotState n) then s.clauseTake m n img else s.cmdRefused n 14 := by
  unfold State.clauseSubmit
  refine if_neg ?_
  rcases h with h | rfl <;> simp [*]

/-- What a slot holds of an image whose header lies in the vat window (R266, R267). -/
def State.takenSlot (s : State) (m : RegMaster) (img : Nat) : ClauseSlot :=
  { image := img, nrec := s.imgWord img 0 % 2 ^ 13, twoPhase := (s.imgWord img 0).testBit 13,
    immediate := (s.imgWord img 0).testBit 14, kind := s.imgWord img 0 / 2 ^ 16 % 4,
    gen := BitVec.ofNat 32 (s.imgWord img 2), c := (s.absPt (s.imgWord img 4) (s.imgWord img 3) 0).toNat,
    armLead := s.armLead, submitPt := s.now, master := m, order := s.clause.count + 1, group := s.submitGroup }

/-- What CLAUSE keeps once a slot is taken. -/
def State.withTaken (s : State) (n : Nat) (q : ClauseSlot) : State :=
  { s with clause := { s.clause with
    count := s.clause.count + 1, groups := s.submitGroup, lastPt := some s.now } }.setSlot n q

theorem State.clauseTake_eq (s : State) (m : RegMaster) (n : Nat) {img : Nat} (h : inVat img 32 = true) :
    s.clauseTake m n img =
      (((((s.withTaken n (s.takenSlot m img)).setRegN (Reg.CLAUSE_SLOT_TAG n) (s.imgWord img 1)).setRegN
        (Reg.CLAUSE_SLOT_GEN n) (s.imgWord img 2)).setFld (Reg.CLAUSE_SLOT_STATE n) Fld.CLAUSE_SLOT_STATE_CODE 0).setFld
        (Reg.CLAUSE_SLOT_STATE n) Fld.CLAUSE_SLOT_STATE_RECORD 0).setSlotState n 1 := by
  unfold State.clauseTake
  simp only [h, if_true]
  rfl

theorem State.slot_withTaken_same (s : State) (n : Nat) (q : ClauseSlot) : (s.withTaken n q).slot n = q :=
  State.slot_setSlot_same _ n q

theorem State.slot_withTaken_ne (s : State) {n i : Nat} (q : ClauseSlot) (h : n ≠ i) :
    (s.withTaken n q).slot i = s.slot i := State.slot_setSlot_ne _ q h

theorem Frame.withTaken (h : Frame R P s t) (hP : Part.clause ∈ P) (n : Nat) (q : ClauseSlot) :
    Frame R P s (t.withTaken n q) := Frame.clause h hP _

theorem State.clause_clauseTake (s : State) (m : RegMaster) (n : Nat) {img : Nat} (h : inVat img 32 = true) :
    (s.clauseTake m n img).clause = (s.withTaken n (s.takenSlot m img)).clause := by
  rw [s.clauseTake_eq m n h]
  rfl

theorem State.slot_clauseTake (s : State) (m : RegMaster) (n i : Nat) {img : Nat} (h : inVat img 32 = true) :
    (s.clauseTake m n img).slot i = if n = i then s.takenSlot m img else s.slot i := by
  rw [State.slot_congr (congrArg ClauseSt.slots (s.clause_clauseTake m n h))]
  split
  case isTrue hi => rw [← hi, State.slot_withTaken_same]
  case isFalse hi => exact s.slot_withTaken_ne _ hi

/-- The TAG and GEN of a slot are two of its words beside its state. -/
theorem slotTag_ne (n : Nat) : Reg.CLAUSE_SLOT_TAG n ≠ Reg.CLAUSE_SLOT_STATE n ∧
    Reg.CLAUSE_SLOT_TAG n ≠ Reg.CLAUSE_STATUS ∧ Reg.CLAUSE_SLOT_TAG n ≠ Reg.TIME_STATUS := by
  unfold Reg.CLAUSE_SLOT_TAG Reg.CLAUSE_SLOT_STATE Reg.CLAUSE_STATUS Reg.TIME_STATUS
  omega

theorem slotGen_ne (n : Nat) : Reg.CLAUSE_SLOT_GEN n ≠ Reg.CLAUSE_SLOT_STATE n ∧
    Reg.CLAUSE_SLOT_GEN n ≠ Reg.CLAUSE_SLOT_TAG n ∧
    Reg.CLAUSE_SLOT_GEN n ≠ Reg.CLAUSE_STATUS ∧ Reg.CLAUSE_SLOT_GEN n ≠ Reg.TIME_STATUS := by
  unfold Reg.CLAUSE_SLOT_GEN Reg.CLAUSE_SLOT_TAG Reg.CLAUSE_SLOT_STATE Reg.CLAUSE_STATUS Reg.TIME_STATUS
  omega

theorem State.tag_clauseTake (s : State) (m : RegMaster) (n : Nat) {img : Nat} (h : inVat img 32 = true) :
    (s.clauseTake m n img).reg (Reg.CLAUSE_SLOT_TAG n) = s.word (img + 4) := by
  obtain ⟨h1, h2, h3⟩ := slotTag_ne n
  rw [s.clauseTake_eq m n h, State.reg_setSlotState_ne _ n 1 h2 h3 h1, State.reg_setFld, if_neg h1.symm, State.reg_setFld,
    if_neg h1.symm, State.reg_setRegN, if_neg (slotGen_ne n).2.1, State.reg_setRegN, if_pos rfl]
  exact BitVec.ofNat_toNat 32 _

theorem State.gen_clauseTake (s : State) (m : RegMaster) (n : Nat) {img : Nat} (h : inVat img 32 = true) :
    (s.clauseTake m n img).reg (Reg.CLAUSE_SLOT_GEN n) = s.word (img + 8) := by
  obtain ⟨h1, -, h2, h3⟩ := slotGen_ne n
  rw [s.clauseTake_eq m n h, State.reg_setSlotState_ne _ n 1 h2 h3 h1, State.reg_setFld, if_neg h1.symm, State.reg_setFld,
    if_neg h1.symm, State.reg_setRegN, if_pos rfl]
  exact BitVec.ofNat_toNat 32 _

theorem State.clauseTake_frame (s : State) (m : RegMaster) (n : Nat) {img : Nat} (h : inVat img 32 = true) :
    Frame (clauseRegs n) [.clause] s (s.clauseTake m n img) := by
  have h0 : Frame (clauseRegs n) [.clause] s (s.withTaken n (s.takenSlot m img)) := .withTaken .refl (by decide) _ _
  rw [s.clauseTake_eq m n h]
  exact Frame.trans ((((h0.setRegN _ _ (clauseRegs_tag n)).setRegN _ _ (clauseRegs_gen n)).setFld _ _ _
    (clauseRegs_state n)).setFld _ _ _ (clauseRegs_state n))
    ((State.setSlotState_frame _ n 1).mono (fun _ ha => ha) (by simp))

/-! ### The end of FILLING and of UNWIND -/

/-- A clause is prepared once its filling ends (R267, R291). -/
theorem State.clauseFilled_eq {n : Nat} (h : s.slotState n = 2) : s.clauseFilled n =
    if (s.slot n).immediate then
      ((s.fillSlot n).raiseN 304 (n + (s.slot n).gen.toNat % 2 ^ 16 * 2 ^ 16)).commitSlots s.now s.folio [n]
    else ((s.fillSlot n).raiseN 304 (n + (s.slot n).gen.toNat % 2 ^ 16 * 2 ^ 16)).setSlotState n
      (if (s.slot n).twoPhase then 4 else 5) := if_pos h

/-- The states in which an unwound slot ends, with its event: only REFUSED has a code (R267). -/
theorem State.clauseUnwound_frame (s : State) (n : Nat) : FrameEv (clauseRegs n) [.clause] s (s.clauseUnwound n) := by
  have hA : AllowsEvents (fun a => eventReg a || clauseRegs n a) [.events, .clause] := AllowsEvents.ev _ _
  have hR : ∀ a, clauseRegs n a = true → (eventReg a || clauseRegs n a) = true := fun a ha => by simp [ha]
  have h1 : Steady (fun a => eventReg a || clauseRegs n a) [.events, .clause] s (s.setSlot n { s.slot n with recs := [] }) :=
    Steady.refl.setSlot (by decide) n _
  unfold State.clauseUnwound
  dsimp only
  split
  · split
    · exact (h1.slotRefused hA hR 7 0).1
    · exact ((h1.setSlotState hR 11).raiseN hA 307 n (by decide)).1
    · exact ((h1.setSlotState hR 12).raiseN hA 308 n (by decide)).1
  · exact Frame.refl

theorem State.clauseUnwound_recs {n : Nat} (h : s.slotState n = 9) : ((s.clauseUnwound n).slot n).recs = [] := by
  have h1 : ((s.setSlot n { s.slot n with recs := [] }).slot n).recs = [] := by rw [State.slot_setSlot_same]
  rw [State.clauseUnwound, if_pos h]
  dsimp only
  split
  · rw [State.slot_congr (congrArg ClauseSt.slots (State.clause_slotRefused _ n 7 0))]
    exact h1
  · rw [State.slot_raiseN _ _ (by decide)]
    exact h1
  · rw [State.slot_raiseN _ _ (by decide)]
    exact h1

/-! ### The mirror pass -/

theorem FillStep.mirrorObject (h : FillStep s t) (n o : Nat) : FillStep s (t.mirrorObject n o) :=
  .foldl _ _ h fun _ _ _ hu => hu.fillRec _ _

/-- The objects of a slot whose pass can start. -/
def State.mirrorGoes (s : State) (q : ClauseSlot) : List Nat := q.mirror.filter (s.mirrorReady q)

/-- The objects of a slot whose pass waits on. -/
def State.mirrorWaits (s : State) (q : ClauseSlot) : List Nat := q.mirror.filter (fun o => !(s.mirrorGoes q).contains o)

theorem State.mirrorStart_eq {n : Nat} (h : s.slotState n = 7) : s.mirrorStart n =
    ((s.mirrorGoes (s.slot n)).foldl (fun t o => t.mirrorObject n o) s).setSlot n
      { s.slot n with mirror := s.mirrorWaits (s.slot n) } := if_pos h

theorem State.mirrorStart_steady (s : State) (n : Nat) :
    Steady (fun a => eventReg a || busRegs a) [.events, .mem, .ecc, .spare, .clause] s (s.mirrorStart n) ∧
      KeepsBesideVat s.mem (s.mirrorStart n).mem := by
  by_cases h : s.slotState n = 7
  · have hf : FillStep s ((s.mirrorGoes (s.slot n)).foldl (fun t o => t.mirrorObject n o) s) :=
      .foldl _ _ .refl fun _ _ _ hu => hu.mirrorObject n _
    rw [State.mirrorStart_eq h]
    exact ⟨(hf.1.mono (fun _ ha => ha) (by decide)).setSlot (by decide) n _, hf.2⟩
  · have he : s.mirrorStart n = s := if_neg h
    rw [he]
    exact ⟨.refl, .refl⟩

theorem State.slotState_mirrorStart (s : State) (n i : Nat) : (s.mirrorStart n).slotState i = s.slotState i :=
  State.slotState_congr (FrameEv.reg_eq (s.mirrorStart_steady n).1.1 _ (eventReg_high _ (slotState_high i))
    (busRegs_slotState i))

theorem State.mirror_mirrorStart {n : Nat} (h : s.slotState n = 7)
    (hm : ∀ o ∈ (s.slot n).mirror, s.mirrorReady (s.slot n) o = true) : ((s.mirrorStart n).slot n).mirror = [] := by
  rw [State.mirrorStart_eq h, State.slot_setSlot_same, State.mirrorWaits, State.mirrorGoes, List.filter_eq_self.2 hm]
  simp

end Sys2Proof.Machine
end

section
/-! SUPPORT. A retiring version that drains too long: the frames that hold it leave their queues (R281). -/

namespace Sys2Proof.Machine

variable {s t u : State}

/-- The versions of a table that one commit retired. -/
def mineOf (mac : Bool) (c : Nat) (r : Bool × Nat × Nat × Nat) : Bool := r.1 == mac && r.2.2.2 == c

/-- Only STREAM changes, and no port gains a frame or loses the one in transmission. -/
def Drained (s t : State) : Prop :=
  Steady noRegs [.stream] s t ∧ ∀ p, (t.egress p).current = (s.egress p).current ∧
    ∀ f ∈ (t.egress p).timed ++ (t.egress p).bulk, f ∈ (s.egress p).timed ++ (s.egress p).bulk

theorem Drained.refl : Drained s s := ⟨.refl, fun _ => ⟨rfl, fun _ h => h⟩⟩

theorem Drained.trans (h : Drained s t) (h' : Drained t u) : Drained s u :=
  ⟨h.1.trans h'.1, fun p => ⟨(h'.2 p).1.trans (h.2 p).1, fun f hf => (h.2 p).2 f ((h'.2 p).2 f hf)⟩⟩

theorem State.egress_setEgress (s : State) (p i : Nat) (e : Egress) :
    (s.setEgress p e).egress i = if p = i then e else s.egress i := SMap.find_set _ _ _ _ _

theorem State.egress_dropDescs (s : State) (l : List QFrame) (p : Nat) :
    (l.foldl (fun s f => s.dropDesc f.desc) s).egress p = s.egress p :=
  List.foldlRecOn l _ (motive := fun (t : State) => t.egress p = s.egress p) rfl fun _ h _ _ => h

/-- The frames of a port that hold one of some versions leave its queues. -/
theorem State.egress_drainPort (s : State) (rs : List (Bool × Nat × Nat × Nat)) (p i : Nat) :
    (s.drainPort rs p).2.egress i = if p = i then { s.egress p with
      timed := (s.egress p).timed.filter (fun f => !rs.any f.holds)
      bulk := (s.egress p).bulk.filter (fun f => !rs.any f.holds) } else s.egress i := by
  unfold State.drainPort
  dsimp only
  rw [State.egress_dropDescs, State.egress_setEgress]

theorem State.drainPort_drained (s : State) (rs : List (Bool × Nat × Nat × Nat)) (p : Nat) :
    Drained s (s.drainPort rs p).2 := by
  refine ⟨?_, fun i => ?_⟩
  · have h0 : Steady noRegs [.stream] s s := .refl
    refine Steady.foldl _ _ (h0.of_frame (h0.1.stream (by decide) _) rfl rfl) fun u f _ hu => ?_
    exact hu.of_frame (hu.1.stream (by decide) _) rfl rfl
  · rw [State.egress_drainPort]
    by_cases h : p = i
    · subst h
      rw [if_pos rfl]
      refine ⟨rfl, fun f hf => ?_⟩
      simp only [List.mem_append, List.mem_filter] at hf ⊢
      exact hf.imp And.left And.left
    · rw [if_neg h]
      exact ⟨rfl, fun _ hf => hf⟩

theorem State.drainPort_holds (s : State) (rs : List (Bool × Nat × Nat × Nat)) (p : Nat) :
    ∀ f ∈ ((s.drainPort rs p).2.egress p).timed ++ ((s.drainPort rs p).2.egress p).bulk, rs.any f.holds = false := by
  intro f hf
  rw [State.egress_drainPort, if_pos rfl] at hf
  simp only [List.mem_append, List.mem_filter, Bool.not_eq_true'] at hf
  exact hf.elim And.right And.right

/-- The ports drained one after the other, with the number of the frames that they lose. -/
def State.drainPorts (s : State) (rs : List (Bool × Nat × Nat × Nat)) (d : Nat) (l : List Nat) : Nat × State :=
  l.foldl (fun (a : Nat × State) p => (a.1 + (a.2.drainPort rs p).1, (a.2.drainPort rs p).2)) (d, s)

theorem State.drainPorts_drained (s : State) (rs : List (Bool × Nat × Nat × Nat)) (d : Nat) (l : List Nat) :
    Drained s (s.drainPorts rs d l).2 ∧ ∀ p ∈ l, ∀ f ∈ ((s.drainPorts rs d l).2.egress p).timed ++
      ((s.drainPorts rs d l).2.egress p).bulk, rs.any f.holds = false := by
  induction l generalizing s d with
  | nil => exact ⟨.refl, fun p hp => absurd hp List.not_mem_nil⟩
  | cons x l ih =>
    obtain ⟨h1, h2⟩ := ih (s.drainPort rs x).2 (d + (s.drainPort rs x).1)
    refine ⟨(s.drainPort_drained rs x).trans h1, fun p hp f hf => ?_⟩
    rcases List.mem_cons.1 hp with rfl | hp
    · exact s.drainPort_holds rs p f ((h1.2 p).2 f hf)
    · exact h2 p hp f hf

theorem State.drainTimeout_some {mac : Bool} {c : Bool × Nat × Nat × Nat} (h : s.freeRetired.clause.retiring.find?
    (fun r => r.1 == mac && decide (r.2.2.2 + 2 * usUnit ≤ s.now)) = some c) :
    ∃ d : Nat × State, s.drainTimeout mac = (d.2.countHold Reg.CLAUSE_DRAIN_DISCARD d.1).raiseN 309
        (bitOf mac + min d.1 0xFFFF * 2 ^ 16) ∧
      d = State.drainPorts { s.freeRetired with clause := { s.freeRetired.clause with
        retiring := s.freeRetired.clause.retiring.filter fun r => !mineOf mac c.2.2.2 r } }
        (s.freeRetired.clause.retiring.filter (mineOf mac c.2.2.2)) 0 (List.range 8) := by
  refine ⟨_, ?_, rfl⟩
  unfold State.drainTimeout
  dsimp only
  rw [h]
  rfl

theorem State.drainTimeout_none {mac : Bool} (h : s.freeRetired.clause.retiring.find?
    (fun r => r.1 == mac && decide (r.2.2.2 + 2 * usUnit ≤ s.now)) = none) : s.drainTimeout mac = s.freeRetired := by
  unfold State.drainTimeout
  dsimp only
  rw [h]

end Sys2Proof.Machine
end

section
/-! SUPPORT. What each command of a clause slot does, as its caller finds it (R264-R269, R280-R289). -/

namespace Sys2Proof.Machine

variable {s : State} {m : RegMaster} {n : Fin 16}

theorem State.slot_holdTags (s : State) (k i : Nat) : (s.holdTags k).slot i = s.slot i := rfl

theorem exec_clauseSubmit (h : s.released = true ∨ m = .boot) : exec (.clauseSubmit m n) s =
    .next ((if slotFree (s.slotState n) then s.clauseTake m n (s.regN Reg.CLAUSE_IMAGE)
      else s.cmdRefused n 14).holdTags 1) := by
  rw [← State.clauseSubmit_eq h, ← State.unlessBarred_free (s.hostBarred_submitter Reg.CLAUSE_CMD h)]
  rfl

/-- SUBMIT of an image into a free slot (R266, R267). -/
theorem clauseSubmit_takes (hm : s.released = true ∨ m = .boot) (hfree : slotFree (s.slotState n) = true)
    (hv : inVat (s.regN Reg.CLAUSE_IMAGE) 32 = true) : Completes (.clauseSubmit m n) s fun t => t.slotState n = 1 ∧
      t.reg (Reg.CLAUSE_SLOT_TAG n) = s.word (s.regN Reg.CLAUSE_IMAGE + 4) ∧
      t.reg (Reg.CLAUSE_SLOT_GEN n) = s.word (s.regN Reg.CLAUSE_IMAGE + 8) ∧
      (t.slot n).image = s.regN Reg.CLAUSE_IMAGE ∧ (t.slot n).submitPt = s.now ∧ (t.slot n).master = m ∧
      (t.slot n).nrec = (s.word (s.regN Reg.CLAUSE_IMAGE)).toNat % 2 ^ 13 ∧
      (∀ i : Fin 16, i ≠ n → t.slot i = s.slot i) ∧
      Frame (fun a => clauseRegs n a || a == Reg.XBAR_INFLIGHT) [.clause] s t := by
  have he : exec (.clauseSubmit m n) s = .next ((s.clauseTake m n (s.regN Reg.CLAUSE_IMAGE)).holdTags 1) :=
    (exec_clauseSubmit hm).trans (by rw [hfree]; rfl)
  generalize s.regN Reg.CLAUSE_IMAGE = img at hv he ⊢
  have hreg : ∀ a, 0x8000000 ≤ a → ((s.clauseTake m n img).holdTags 1).reg a = (s.clauseTake m n img).reg a :=
    fun a ha => State.reg_holdTags _ 1 a (by unfold Reg.XBAR_INFLIGHT; omega)
  have hslot : ∀ i, ((s.clauseTake m n img).holdTags 1).slot i = if n.val = i then s.takenSlot m img else s.slot i :=
    fun i => (State.slot_holdTags _ 1 i).trans (s.slot_clauseTake m n i hv)
  have hn : ((s.clauseTake m n img).holdTags 1).slot n = s.takenSlot m img := (hslot n).trans (if_pos rfl)
  refine ⟨_, he, ?state, ?tag, ?gen, congrArg ClauseSlot.image hn, congrArg ClauseSlot.submitPt hn,
    congrArg ClauseSlot.master hn, congrArg ClauseSlot.nrec hn, fun i hi => ?others, ?frame⟩
  case state =>
    rw [State.slotState_congr (hreg _ (by unfold Reg.CLAUSE_SLOT_STATE; omega)), s.clauseTake_eq m n hv]
    exact State.slotState_setSlotState_same _ n 1
  case tag =>
    rw [hreg _ (by unfold Reg.CLAUSE_SLOT_TAG; omega)]
    exact s.tag_clauseTake m n hv
  case gen =>
    rw [hreg _ (by unfold Reg.CLAUSE_SLOT_GEN; omega)]
    exact s.gen_clauseTake m n hv
  case others => exact (hslot i).trans (if_neg fun h => hi (Fin.ext h.symm))
  case frame =>
    exact ((s.clauseTake_frame m n hv).mono (fun a ha => by simp [ha]) (fun _ hp => hp)).holdTags 1 (by simp)

/-- SUBMIT to a slot in use (R266). -/
theorem clauseSubmit_busy (hm : s.released = true ∨ m = .boot) (hfree : slotFree (s.slotState n) = false)
    (hq : s.tally.silent = false) : Completes (.clauseSubmit m n) s (CmdRefused n 14 (· == Reg.XBAR_INFLIGHT) s) := by
  have he : exec (.clauseSubmit m n) s = .next ((s.cmdRefused n 14).holdTags 1) := by
    rw [exec_clauseSubmit hm, hfree]
    rfl
  exact ⟨_, he, (s.cmdRefused_does n.isLt (by decide) hq).then (State.holdTags_frame _ 1) (by decide) (by decide) (by decide)⟩

/-- The admission of the first submission that waits (R267, R269). -/
theorem clauseAdmit_does (h1 : s.slotState n = 1)
    (hf : ∀ i : Fin 16, s.slotState i = 1 → (s.slot i).submittedBefore (s.slot n) = false) (hq : s.tally.silent = false) :
    Completes (.clauseAdmit n) s fun t =>
      (∀ code rec, s.admission n = .inl (code, rec) → t.slotState n = 10 ∧ t.shown 306 ∧
        t.fld (Reg.CLAUSE_SLOT_STATE n) Fld.CLAUSE_SLOT_STATE_CODE = code % 2 ^ 4 ∧
        t.fld (Reg.CLAUSE_SLOT_STATE n) Fld.CLAUSE_SLOT_STATE_RECORD = rec % 2 ^ 13 ∧
        t.regN Reg.CLAUSE_REFUSALS = min (s.regN Reg.CLAUSE_REFUSALS + 1) 0xFFFFFFFF ∧ t.clause = s.clause) ∧
      (∀ q, s.admission n = .inr q → t.slot n = { q with rdly := (t.slot n).rdly } ∧
        (∀ i : Fin 16, i ≠ n → t.slot i = { s.slot i with rdly := (t.slot i).rdly }) ∧
        t.slotState n = if (s.setSlot n q).banksBusy n true then 3 else 2) ∧
      FrameEv (fun a => clauseRegs n a || busRegs a) [.clause] s t := by
  refine ⟨s.clauseAdmit n, rfl, fun code rec h => ?refused, fun q h => ?admitted, s.clauseAdmit_frame n⟩
  case refused =>
    rw [State.clauseAdmit_refused h1 hf h]
    refine ⟨State.slotState_slotRefused_same _ _ _ _, State.slotRefused_shown _ _ _ _ ((s.silent_imgScan n).trans hq),
      State.code_slotRefused _ _ _ _, State.record_slotRefused _ _ _ _, ?_, ?_⟩
    · rw [State.refusals_slotRefused, s.refusals_imgScan n]
    · rw [State.clause_slotRefused, s.clause_imgScan n]
  case admitted =>
    obtain ⟨hslot, hstate⟩ := State.clauseAdmit_admitted h1 hf h
    refine ⟨?_, fun i hi => ?_, hstate⟩
    · have h2 := hslot n
      rwa [State.slot_setSlot_same] at h2
    · have h2 := hslot i
      rwa [State.slot_setSlot_ne _ _ fun h => hi (Fin.ext h.symm)] at h2

/-- Idle banks that are free start the filling (R267, R282). -/
theorem clauseBankFree_fills (h3 : s.slotState n = 3) (hb : s.banksBusy n false = false) :
    Completes (.clauseBankFree n) s fun t => t.slotState n = 2 ∧ Frame (clauseRegs n) [] s t :=
  ⟨s.setSlotState n 2, congrArg Host.Outcome.next (if_pos ⟨h3, by simp [hb]⟩), State.slotState_setSlotState_same _ _ 2,
    State.setSlotState_frame _ _ 2⟩

/-- The end of the filling prepares a clause that waits for its C (R267, R288). -/
theorem clauseFillDone_prepares (h2 : s.slotState n = 2) (hi : (s.slot n).immediate = false)
    (hq : s.tally.silent = false) : Completes (.clauseFillDone n) s fun t =>
      t.slotState n = (if (s.slot n).twoPhase then 4 else 5) ∧ t.shown 304 ∧ t.mem = (s.fillSlot n).mem ∧
      t.spare = (s.fillSlot n).spare ∧ FrameEv (fun a => clauseRegs n a || busRegs a) [.mem, .ecc, .spare] s t := by
  have hR : ∀ a, clauseRegs n a = true → (eventReg a || (clauseRegs n a || busRegs a)) = true := fun a ha => by simp [ha]
  have hfill : Steady (fun a => eventReg a || (clauseRegs n a || busRegs a)) [.events, .mem, .ecc, .spare] s
      (s.fillSlot n) := (s.fillSlot_step n).1.mono (fun a ha => by simp at ha ⊢; tauto) (by decide)
  set w3 := (n : Nat) + (s.slot n).gen.toNat % 2 ^ 16 * 2 ^ 16
  have he : s.clauseFilled n = ((s.fillSlot n).raiseN 304 w3).setSlotState n (if (s.slot n).twoPhase then 4 else 5) := by
    rw [State.clauseFilled_eq h2, hi]
    rfl
  have hsteady := hfill.raiseN (AllowsEvents.ev _ _) 304 w3 (by decide)
  have hsame := State.raiseN_frame (s.fillSlot n) 304 w3 (by decide)
  refine ⟨s.clauseFilled n, rfl, ?_⟩
  rw [he]
  refine ⟨?_, ?_, hsame.2 .mem (by decide), hsame.2 .spare (by decide), (hsteady.setSlotState hR _).1⟩
  · rw [State.slotState_setSlotState_same]
    split <;> rfl
  · have hstate := Steady.refl (s := (s.fillSlot n).raiseN 304 w3) (R := clauseRegs n) (P := []) |>.setSlotState
      (fun _ h => h) (if (s.slot n).twoPhase then 4 else 5)
    exact hstate.2.shown 304 (by decide) (State.raiseN_shown _ 304 _ (by decide) (hfill.2.2.trans hq))

/-- CONFIRM of a clause that waits for it (R288). -/
theorem clauseConfirm_arms (h4 : s.slotState n = 4) (hd : s.now < s.armDeadline n) : Completes (.clauseConfirm n) s fun t =>
    t.slotState n = 5 ∧ Frame (clauseRegs n) [] s t :=
  ⟨s.setSlotState n 5, congrArg Host.Outcome.next (if_pos ⟨h4, hd⟩), State.slotState_setSlotState_same _ _ 5,
    State.setSlotState_frame _ _ 5⟩

/-- CONFIRM of any other slot (R288, log entry 47). -/
theorem clauseConfirm_wrong (h : s.slotState n ≠ 4 ∨ s.armDeadline n ≤ s.now) (hq : s.tally.silent = false) :
    Completes (.clauseConfirm n) s (CmdRefused n 15 noRegs s) :=
  ⟨s.cmdRefused n 15, congrArg Host.Outcome.next (if_neg (by omega)), s.cmdRefused_does n.isLt (by decide) hq⟩

/-- ABORT up to the freeze point (R289, log entry 51). -/
theorem clauseAbort_unwinds (h1 : 1 ≤ s.slotState n) (h5 : s.slotState n ≤ 5) (hb : s.beforeFreeze n = true) :
    Completes (.clauseAbort n) s fun t => t.slotState n = 9 ∧ (t.slot n).endState = 12 ∧
      (s.slotState n ≤ 3 → t.mem = s.mem ∧ t.spare = s.spare) ∧
      FrameEv (fun a => clauseRegs n a || busRegs a) [.mem, .ecc, .spare, .clause] s t := by
  obtain ⟨hstate, hend, hkeep, hframe⟩ := s.slotUnwind_leaves n 12 (s.slotFilled n)
  exact ⟨s.slotUnwind n 12 (s.slotFilled n), congrArg Host.Outcome.next (if_pos ⟨h1, h5, hb⟩), hstate, hend,
    fun h3 => hkeep (decide_eq_false (by omega)), hframe⟩

/-- ABORT of any other slot, or after the freeze point (R289). -/
theorem clauseAbort_wrong (h : s.slotState n = 0 ∨ 6 ≤ s.slotState n ∨ s.beforeFreeze n = false)
    (hq : s.tally.silent = false) : Completes (.clauseAbort n) s (CmdRefused n 15 noRegs s) := by
  refine ⟨s.cmdRefused n 15, congrArg Host.Outcome.next (if_neg ?_), s.cmdRefused_does n.isLt (by decide) hq⟩
  rintro ⟨h1, h5, hb⟩
  rw [hb] at h
  simp only [Bool.true_eq_false, or_false] at h
  omega

/-- A clause that is not armed by its deadline (R267, R282, R288, log entry 51). -/
theorem clauseArmDeadline_unwinds (hd : s.armDeadline n ≤ s.now) (hi : (s.slot n).immediate = false)
    (h1 : 1 ≤ s.slotState n) (h4 : s.slotState n ≤ 4) : Completes (.clauseArmDeadline n) s fun t => t.slotState n = 9 ∧
      (t.slot n).endState = (if s.slotState n = 4 then 11 else 10) ∧
      (s.slotState n ≤ 3 → t.mem = s.mem ∧ t.spare = s.spare) ∧
      FrameEv (fun a => clauseRegs n a || busRegs a) [.mem, .ecc, .spare, .clause] s t := by
  have hout : s.clauseDeadline n = if 1 ≤ s.slotState n ∧ s.slotState n ≤ 3 then s.slotUnwind n 10 false
      else if s.slotState n = 4 then s.slotUnwind n 11 true else s := if_pos ⟨hd, by simp [hi]⟩
  by_cases h3 : s.slotState n ≤ 3
  · have h34 : s.slotState n ≠ 4 := by omega
    obtain ⟨hstate, hend, hkeep, hframe⟩ := s.slotUnwind_leaves n 10 false
    rw [if_neg h34]
    exact ⟨_, congrArg Host.Outcome.next (hout.trans (if_pos ⟨h1, h3⟩)), hstate, hend, fun _ => hkeep rfl, hframe⟩
  · have h34 : s.slotState n = 4 := by omega
    obtain ⟨hstate, hend, -, hframe⟩ := s.slotUnwind_leaves n 11 true
    rw [if_neg fun h => h3 h.2, if_pos h34] at hout
    rw [if_pos h34]
    exact ⟨_, congrArg Host.Outcome.next hout, hstate, hend, fun h => absurd h h3, hframe⟩

/-- The arm deadline of a clause that is armed, of one without a deadline, or before it (R282). -/
theorem clauseArmDeadline_idle (h : s.now < s.armDeadline n ∨ (s.slot n).immediate = true ∨ 5 ≤ s.slotState n) :
    exec (.clauseArmDeadline n) s = .next s := by
  refine congrArg Host.Outcome.next ?_
  unfold State.clauseDeadline
  dsimp only
  split
  case isFalse => rfl
  case isTrue hc =>
    have h5 : 5 ≤ s.slotState n := by
      rcases h with h | h | h
      · omega
      · simp [h] at hc
      · exact h
    rw [if_neg (by omega), if_neg (by omega)]

/-- The freeze point of an armed clause (R267). -/
theorem clauseFreeze_freezes (h5 : s.slotState n = 5) (hb : s.beforeFreeze n = false) :
    Completes (.clauseFreeze n) s fun t => t.slotState n = 6 ∧ Frame (clauseRegs n) [] s t :=
  ⟨s.setSlotState n 6, congrArg Host.Outcome.next (if_pos ⟨h5, by simp [hb]⟩), State.slotState_setSlotState_same _ _ 6,
    State.setSlotState_frame _ _ 6⟩

/-- The end of UNWIND (R267). -/
theorem clauseUnwindDone_ends (h9 : s.slotState n = 9) (hq : s.tally.silent = false) :
    Completes (.clauseUnwindDone n) s fun t => (t.slot n).recs = [] ∧
      ((s.slot n).endState = 10 → t.slotState n = 10 ∧ t.shown 306 ∧
        t.fld (Reg.CLAUSE_SLOT_STATE n) Fld.CLAUSE_SLOT_STATE_CODE = 7) ∧
      ((s.slot n).endState = 11 → t.slotState n = 11 ∧ t.shown 307) ∧
      ((s.slot n).endState = 12 → t.slotState n = 12 ∧ t.shown 308) ∧ FrameEv (clauseRegs n) [.clause] s t := by
  refine ⟨s.clauseUnwound n, rfl, State.clauseUnwound_recs h9, fun he => ?refused, fun he => ?expired, fun he => ?aborted,
    s.clauseUnwound_frame n⟩
  case refused =>
    have hu : s.clauseUnwound n = (s.setSlot n { s.slot n with recs := [] }).slotRefused n 7 0 := by
      simp only [State.clauseUnwound, h9, if_true, he]
    rw [hu]
    exact ⟨State.slotState_slotRefused_same _ _ _ _, State.slotRefused_shown _ _ _ _ hq, State.code_slotRefused _ _ _ _⟩
  case expired =>
    have hu : s.clauseUnwound n = ((s.setSlot n { s.slot n with recs := [] }).setSlotState n 11).raiseN 307 n := by
      simp only [State.clauseUnwound, h9, if_true, he]
    rw [hu, State.slotState_raiseN _ _ (by decide)]
    exact ⟨State.slotState_setSlotState_same _ _ 11, State.raiseN_shown _ 307 _ (by decide) hq⟩
  case aborted =>
    have hu : s.clauseUnwound n = ((s.setSlot n { s.slot n with recs := [] }).setSlotState n 12).raiseN 308 n := by
      simp only [State.clauseUnwound, h9, if_true, he]
    rw [hu, State.slotState_raiseN _ _ (by decide)]
    exact ⟨State.slotState_setSlotState_same _ _ 12, State.raiseN_shown _ 308 _ (by decide) hq⟩

/-- The mirror pass of the last object (R267, R280). -/
theorem clauseMirrorDone_ends (h7 : s.slotState n = 7) (hm : ∀ o ∈ (s.slot n).mirror, s.mirrorReady (s.slot n) o = true) :
    Completes (.clauseMirrorDone n) s fun t => t.slotState n = 8 ∧ (t.slot n).mirror = [] ∧
      FrameEv (fun a => clauseRegs n a || busRegs a) [.mem, .ecc, .spare, .clause] s t := by
  have hnil := State.mirror_mirrorStart h7 hm
  have he : s.clauseMirrored n = (s.mirrorStart n).setSlotState n 8 :=
    if_pos ⟨(s.slotState_mirrorStart n n).trans h7, by rw [hnil]; rfl⟩
  refine ⟨s.clauseMirrored n, rfl, ?_⟩
  rw [he]
  have hsteady : Steady (fun a => eventReg a || (clauseRegs n a || busRegs a)) [.events, .mem, .ecc, .spare, .clause] s
      (s.mirrorStart n) := (s.mirrorStart_steady n).1.mono (fun a ha => by simp at ha ⊢; tauto) (fun _ hp => hp)
  exact ⟨State.slotState_setSlotState_same _ _ 8, hnil, (hsteady.setSlotState (fun a ha => by simp [ha]) 8).1⟩

/-- A retiring version that drains too long (R281, log entry 65). -/
theorem drainTimeout_drains {mac : Bool} {c : Bool × Nat × Nat × Nat}
    (h : s.freeRetired.clause.retiring.find? (fun r => r.1 == mac && decide (r.2.2.2 + 2 * usUnit ≤ s.now)) = some c)
    (hq : s.tally.silent = false) : Completes (.drainTimeout mac) s fun t =>
      (∀ r ∈ t.clause.retiring, r ∈ s.clause.retiring ∧ (r.1 ≠ mac ∨ r.2.2.2 ≠ c.2.2.2)) ∧ t.shown 309 ∧
      (∀ p : Fin 8, ∀ f ∈ (t.egress p).timed ++ (t.egress p).bulk, f ∈ (s.egress p).timed ++ (s.egress p).bulk ∧
        ∀ r ∈ s.freeRetired.clause.retiring, r.1 = mac → r.2.2.2 = c.2.2.2 → f.holds r = false) ∧
      (∀ p : Fin 8, (t.egress p).current = (s.egress p).current) ∧
      FrameEv (fun a => a == Reg.CLAUSE_DRAIN_DISCARD) [.clause, .stream] s t := by
  obtain ⟨d, he, hd⟩ := State.drainTimeout_some h
  set s1 : State := { s.freeRetired with clause := { s.freeRetired.clause with
    retiring := s.freeRetired.clause.retiring.filter fun r => !mineOf mac c.2.2.2 r } } with hs1
  obtain ⟨⟨hsteady, hports⟩, hgone⟩ := s1.drainPorts_drained (s.freeRetired.clause.retiring.filter (mineOf mac c.2.2.2)) 0
    (List.range 8)
  rw [← hd] at hsteady hports hgone
  have hraise := State.raiseN_frame (d.2.countHold Reg.CLAUSE_DRAIN_DISCARD d.1) 309 (bitOf mac + min d.1 0xFFFF * 2 ^ 16)
    (by decide)
  have hstream : (s.drainTimeout mac).stream = d.2.stream := by rw [he]; exact hraise.2 .stream (by decide)
  have hegress : ∀ p, (s.drainTimeout mac).egress p = d.2.egress p := fun p => by rw [State.egress, hstream, State.egress]
  have hretiring : (s.drainTimeout mac).clause.retiring = s1.clause.retiring := by
    rw [he, State.clause_raiseN _ _ (by decide)]
    exact congrArg ClauseSt.retiring (hsteady.1.2 .clause (by decide))
  refine ⟨s.drainTimeout mac, rfl, fun r hr => ?retiring, ?shown, fun p f hf => ?queued, fun p => ?current, ?frame⟩
  case retiring =>
    rw [hretiring] at hr
    obtain ⟨hr, hmine⟩ := List.mem_filter.1 hr
    refine ⟨List.mem_of_mem_filter hr, ?_⟩
    simpa [mineOf, or_iff_not_imp_left] using hmine
  case shown =>
    rw [he]
    exact State.raiseN_shown _ 309 _ (by decide) (hsteady.2.2.trans hq)
  case queued =>
    rw [hegress p] at hf
    refine ⟨(hports p).2 f hf, fun r hr hmac hc => ?_⟩
    have hnone := hgone p (List.mem_range.2 p.isLt) f hf
    rw [List.any_eq_false] at hnone
    exact Bool.eq_false_iff.2 (hnone r (List.mem_filter.2 ⟨hr, by simp [mineOf, hmac, hc]⟩))
  case current =>
    rw [hegress p]
    exact (hports p).1
  case frame =>
    have h1 : FrameEv (fun a => a == Reg.CLAUSE_DRAIN_DISCARD) [.clause, .stream] s s1 :=
      Frame.clause Frame.refl (by decide) _
    have h2 : FrameEv (fun a => a == Reg.CLAUSE_DRAIN_DISCARD) [.clause, .stream] s1 d.2 :=
      hsteady.1.mono (fun _ h => Bool.noConfusion h) (by decide)
    rw [he]
    exact Frame.raiseN (Frame.countHold (h1.trans h2) _ d.1 (by decide)) (AllowsEvents.ev _ _) 309 _ (by decide)

theorem drainTimeout_idle {mac : Bool}
    (h : s.freeRetired.clause.retiring.find? (fun r => r.1 == mac && decide (r.2.2.2 + 2 * usUnit ≤ s.now)) = none) :
    exec (.drainTimeout mac) s = .next s.freeRetired := congrArg Host.Outcome.next (State.drainTimeout_none h)

end Sys2Proof.Machine
end

section
/-! SUPPORT. The registers that clauses may set, by the rows of the register map, and those that a commit writes besides
(R277, R283, R637). -/

namespace Sys2Proof.Machine

/-! ### SH registers -/

/-- The rows of the register map that hold bits for clauses. -/
def shRows : List RegRow := (List.range 0xA1).flatMap fun k => (regRows (k * 0x100000)).filter fun r => r.sh != 0

/-- The rows of an address are those of the first address of one page. -/
theorem mem_regRows {a : Nat} {r : RegRow} (h : r ∈ regRows a) : ∃ k < 0xA1, r ∈ regRows (k * 0x100000) := by
  by_cases h40 : 0x40 ≤ a / 0x100000 ∧ a / 0x100000 < 0x50
  · refine ⟨0x40, by decide, ?_⟩
    rwa [regRows, if_pos h40] at h
  · have hk : a / 0x100000 * 0x100000 / 0x100000 = a / 0x100000 := Nat.mul_div_cancel _ (by decide)
    have he : regRows (a / 0x100000 * 0x100000) = regRows a := by
      rw [regRows, hk, regRows]
    refine ⟨a / 0x100000, ?_, he ▸ h⟩
    by_contra hge
    rw [regRows, if_neg h40] at h
    split at h
    on_goal -1 => exact absurd h List.not_mem_nil
    all_goals omega

/-- An address with bits for clauses lies in one of their rows. -/
theorem shBits_row {a : Nat} (h : shBits a ≠ 0) : ∃ r ∈ shRows, r.has a = true := by
  cases hr : regRow a with
  | none => exact absurd (by rw [shBits, hr]) h
  | some r =>
    have hsh : r.sh ≠ 0 := by
      rintro h0
      exact h (by rw [shBits, hr]; simp [h0])
    obtain ⟨k, hk, hmem⟩ := mem_regRows (List.mem_of_find?_eq_some hr)
    refine ⟨r, List.mem_flatMap.2 ⟨k, List.mem_range.2 hk, List.mem_filter.2 ⟨hmem, by simpa using hsh⟩⟩, ?_⟩
    exact List.find?_some (p := fun r => RegRow.has r a) hr

/-- A row lies from its base on. -/
theorem RegRow.has_span {r : RegRow} {a : Nat} (h : r.has a = true) (hs : 0 < r.s1) :
    r.base ≤ a ∧ a < r.base + r.n1 * r.s1 := by
  simp only [RegRow.has, Bool.and_eq_true, decide_eq_true_eq] at h
  obtain ⟨⟨⟨hb, hn⟩, -⟩, -⟩ := h
  have := (Nat.div_lt_iff_lt_mul hs).1 hn
  omega

/-- Whether no row with bits for clauses reaches into a range of addresses. -/
def shFree (lo hi : Nat) : Bool :=
  shRows.all fun r => decide (0 < r.s1) && (decide (r.base + r.n1 * r.s1 ≤ lo) || decide (hi ≤ r.base))

theorem shBits_of_free {lo hi a : Nat} (h : shFree lo hi = true) (ha : inRange lo hi a = true) : shBits a = 0 := by
  by_contra hne
  obtain ⟨r, hr, hhas⟩ := shBits_row hne
  have h1 := List.all_eq_true.1 h r hr
  simp only [Bool.and_eq_true, Bool.or_eq_true, decide_eq_true_eq] at h1
  have h2 := RegRow.has_span hhas h1.1
  rw [inRange_iff] at ha
  omega

/-! ### What a commit writes beside the values of its clauses -/

/-- The registers that stand once a commit has brought its values into force: PT, the guarantees, the generation and the count
of commits, the slots, and every register with bits for clauses. -/
def heldByCommit (a : Nat) : Bool :=
  inRange 0x200010 0x200020 a || inRange 0x3001000 0x3003000 a || inRange 0x8000014 0x8000018 a ||
    inRange 0x800001C 0x8000020 a || inRange 0x8000100 0x8000200 a

/-- The registers that the rest of a commit may write. -/
def tailRegs (a : Nat) : Bool := shBits a == 0 && !heldByCommit a

theorem tailRegs_sh {a : Nat} (h : shBits a ≠ 0) : tailRegs a = false := by
  rw [tailRegs, beq_eq_false_iff_ne.2 h, Bool.false_and]

theorem tailRegs_held {a : Nat} (h : heldByCommit a = true) : tailRegs a = false := by simp [tailRegs, h]

/-- A range without bits for clauses that touches none of the held registers. -/
theorem tailRegs_range {lo hi a : Nat} (h : shFree lo hi = true) (ha : inRange lo hi a = true)
    (hh : heldByCommit a = false) : tailRegs a = true := by simp [tailRegs, shBits_of_free h ha, hh]

theorem heldByCommit_iff {a : Nat} : heldByCommit a = true ↔ 0x200010 ≤ a ∧ a < 0x200020 ∨ 0x3001000 ≤ a ∧ a < 0x3003000 ∨
    0x8000014 ≤ a ∧ a < 0x8000018 ∨ 0x800001C ≤ a ∧ a < 0x8000020 ∨ 0x8000100 ≤ a ∧ a < 0x8000200 := by
  simp only [heldByCommit, Bool.or_eq_true, inRange_iff, or_assoc]

theorem heldByCommit_eq_false {a : Nat} (h : ¬ (0x200010 ≤ a ∧ a < 0x200020 ∨ 0x3001000 ≤ a ∧ a < 0x3003000 ∨
    0x8000014 ≤ a ∧ a < 0x8000018 ∨ 0x800001C ≤ a ∧ a < 0x8000020 ∨ 0x8000100 ≤ a ∧ a < 0x8000200)) :
    heldByCommit a = false := Bool.eq_false_iff.2 (mt heldByCommit_iff.1 h)

theorem eventReg_span {a : Nat} (h : eventReg a = true) :
    inRange 0 0x100010 a = true ∨ inRange 0x100040 0x1001A0 a = true := by
  simp only [eventReg, Bool.or_eq_true, Bool.and_eq_true, beq_iff_eq, decide_eq_true_eq] at h
  simp only [inRange_iff]
  omega

theorem tailRegs_event {a : Nat} (h : eventReg a = true) : tailRegs a = true := by
  have hh : heldByCommit a = false := heldByCommit_eq_false fun hc => by
    simp [eventReg_high a (by omega)] at h
  rcases eventReg_span h with h | h
  · exact tailRegs_range (by decide +kernel) h hh
  · exact tailRegs_range (by decide +kernel) h hh

theorem tailRegs_bus {a : Nat} (h : busRegs a = true) : tailRegs a = true := by
  refine tailRegs_range (by decide +kernel) h (heldByCommit_eq_false ?_)
  rw [busRegs, inRange_iff, Reg.XBAR_INFLIGHT] at h
  omega

/-- The counters of an entry's block (R399). -/
theorem tailRegs_entryCount {a : Nat} (h : inRange 0x2200000 0x2240000 a = true) : tailRegs a = true := by
  refine tailRegs_range (by decide +kernel) h (heldByCommit_eq_false ?_)
  rw [inRange_iff] at h
  omega

/-- The sums of the guarantees of a target (R270). -/
theorem tailRegs_sums {a : Nat} (h : inRange 0x3000400 0x3000600 a = true) : tailRegs a = true := by
  refine tailRegs_range (by decide +kernel) h (heldByCommit_eq_false ?_)
  rw [inRange_iff] at h
  omega

/-- The registers of an engine lie at the end of its window, where no row holds bits for clauses; the number of an engine is
not bounded here. -/
theorem shRows_beside_engines : shRows.all (fun r => decide (0 < r.s1) && (decide (r.base + r.n1 * r.s1 ≤ 0x4000000) ||
    (decide (r.base / 0x40000 = (r.base + r.n1 * r.s1) / 0x40000) &&
      decide ((r.base + r.n1 * r.s1) % 0x40000 ≤ 0x3F000)))) = true := by decide +kernel

theorem tailRegs_engine {a : Nat} (h4 : 0x4000000 ≤ a) (hw : 0x3F000 ≤ a % 0x40000) : tailRegs a = true := by
  have hsh : shBits a = 0 := by
    by_contra hne
    obtain ⟨r, hr, hhas⟩ := shBits_row hne
    have h1 := List.all_eq_true.1 shRows_beside_engines r hr
    simp only [Bool.and_eq_true, Bool.or_eq_true, decide_eq_true_eq] at h1
    have h2 := RegRow.has_span hhas h1.1
    omega
  have hh : heldByCommit a = false := heldByCommit_eq_false (by omega)
  simp [tailRegs, hsh, hh]

theorem tailRegs_peStatus (e : Nat) : tailRegs (Reg.PE_STATUS e) = true :=
  tailRegs_engine (by unfold Reg.PE_STATUS; omega) (by unfold Reg.PE_STATUS; omega)

theorem tailRegs_peCycles (e : Nat) : tailRegs (Reg.PE_CYCLES e) = true ∧ tailRegs (Reg.PE_CYCLES e + 4) = true :=
  ⟨tailRegs_engine (by unfold Reg.PE_CYCLES; omega) (by unfold Reg.PE_CYCLES; omega),
    tailRegs_engine (by unfold Reg.PE_CYCLES; omega) (by unfold Reg.PE_CYCLES; omega)⟩

/-- The single registers that the rest of a commit writes. -/
def tailList : List Nat := [Reg.SEQ_STATUS, Reg.SEQ_INFLIGHT, Reg.SEQ_CANCEL_COUNT, Reg.SEQ_LATE_APPLY, Reg.SEQ_SQUASHED,
  Reg.REDUN_STATUS, Reg.REDUN_CLAIM, Reg.REDUN_SHEET_SIZE, Reg.FAB_LANE_STATUS 8, Reg.FAB_LANE_STATUS 9,
  Reg.FAB_LINK_DOWNS 8, Reg.FAB_LINK_DOWNS 9, Reg.FAB_WAKE_CTRL, Reg.GLOBAL_REMOTE_SUMMARY, Reg.GLOBAL_REMOTE_SUMMARY + 4,
  Reg.HOST_RELAY_LOST, Reg.HOST_RELAY_LOST + 4, Reg.MIX_USAGE, Reg.CLAUSE_EPOCH, Reg.STREAM_USAGE, Reg.STREAM_MAC_COUNT,
  Reg.DRAM_STATUS, Reg.CLAUSE_GEN, Reg.BOOT_FW_CPA, Reg.BOOT_FW_CPB, Reg.BOOT_STAGED_CPA, Reg.BOOT_STAGED_CPB,
  Reg.CLAUSE_STATUS, Reg.TIME_STATUS]

theorem tailRegs_list : tailList.all tailRegs = true := by decide +kernel

theorem tailRegs_mem {a : Nat} (h : a ∈ tailList) : tailRegs a = true := List.all_eq_true.1 tailRegs_list a h

end Sys2Proof.Machine
end

section
/-! SUPPORT. The steps of a commit once its values stand: what they keep of the registers, of the tables of STREAM, of the
slots, and of the banks of the phrases (R186-R195, R283). -/

namespace Sys2Proof.Machine

variable {s t u : State} {ps : List Nat}

/-- The bytes of the stream table and of the MAC table stay. -/
def KeepsTables (m m' : Memory) : Prop := ∀ x, 0x2080000 ≤ x → x < 0x2140000 → Memory.byte m' x = Memory.byte m x

theorem KeepsTables.refl {m : Memory} : KeepsTables m m := fun _ _ _ => rfl

theorem KeepsTables.trans {m m' m'' : Memory} (h : KeepsTables m m') (h' : KeepsTables m' m'') : KeepsTables m m'' :=
  fun x h1 h2 => (h' x h1 h2).trans (h x h1 h2)

/-- What is kept outside a range that lies above the tables keeps them. -/
theorem KeepsOutside.tables {m m' : Memory} {a n : Nat} (h : KeepsOutside m m' a n) (ha : 0x2140000 ≤ a) : KeepsTables m m' :=
  fun x _ hx => h x (.inl (by omega))

/-- The parts that a step of a commit may change without a word here: neither memory, nor SEQ, nor CLAUSE. -/
def quietParts : List Part :=
  [.events, .spare, .ecc, .pe, .mix, .xbar, .dramc, .redun, .ain, .aout, .boot, .sent, .host]

/-- The parts that a commit may change. -/
def commitParts : List Part := [.mem, .seq, .clause] ++ quietParts

/-- A step of a commit that flips the banks of some phrases. -/
structure CommitStep (ps : List Nat) (s t : State) : Prop where
  steady : Steady tailRegs commitParts s t
  tables : KeepsTables s.mem t.mem
  slotC  : ∀ i, (t.slot i).c = (s.slot i).c
  banks  : ∀ p, t.bankNewest p = if p ∈ ps then !s.bankNewest p else s.bankNewest p

theorem tail_events : AllowsEvents tailRegs quietParts := ⟨fun _ h => tailRegs_event h, by decide⟩

theorem tail_bus : AllowsBus tailRegs quietParts := ⟨tail_events, fun _ h => tailRegs_bus h⟩

theorem CommitStep.refl : CommitStep [] s s := ⟨.refl, .refl, fun _ => rfl, fun _ => by simp⟩

theorem CommitStep.trans (h : CommitStep ps s t) (h' : CommitStep [] t u) : CommitStep ps s u := by
  refine ⟨h.steady.trans h'.steady, h.tables.trans h'.tables, fun i => (h'.slotC i).trans (h.slotC i), fun p => ?_⟩
  rw [h'.banks p, if_neg List.not_mem_nil, h.banks p]

theorem CommitStep.after (h : CommitStep [] s t) (h' : CommitStep ps t u) : CommitStep ps s u := by
  refine ⟨h.steady.trans h'.steady, h.tables.trans h'.tables, fun i => (h'.slotC i).trans (h.slotC i), fun p => ?_⟩
  rw [h'.banks p, h.banks p, if_neg List.not_mem_nil]

theorem CommitStep.ite {c : Prop} [Decidable c] (h1 : CommitStep ps s t) (h2 : CommitStep ps s u) :
    CommitStep ps s (if c then t else u) := by
  split
  · exact h1
  · exact h2

theorem CommitStep.foldl {α : Type} (f : State → α → State) (l : List α) (h : CommitStep ps s t)
    (hf : ∀ u x, CommitStep ps s u → CommitStep ps s (f u x)) : CommitStep ps s (l.foldl f t) :=
  List.foldlRecOn l f h fun u hu x _ => hf u x hu

/-- A register that the rest of a commit does not write. -/
theorem CommitStep.reg_eq (h : CommitStep ps s t) {a : Nat} (ha : tailRegs a = false) : t.reg a = s.reg a :=
  h.steady.1.1 a ha

theorem State.bankNewest_congr (hf : t.seq.flips = s.seq.flips) (hb : t.seq.bank = s.seq.bank) (p : Nat) :
    t.bankNewest p = s.bankNewest p := by rw [State.bankNewest, hf, hb, State.bankNewest]

/-! ### Steps that leave memory, SEQ and CLAUSE -/

theorem CommitStep.quiet (h : CommitStep ps s t) (hq : Steady tailRegs quietParts t u) : CommitStep ps s u := by
  refine h.trans ⟨hq.mono (fun _ h => h) fun p hp => List.mem_append_right _ hp, ?_, fun i => ?_, fun p => ?_⟩
  · rw [show u.mem = t.mem from hq.1.2 .mem (by decide)]
    exact .refl
  · rw [State.slot_congr (congrArg ClauseSt.slots (hq.1.2 .clause (by decide)))]
  · have hs : u.seq = t.seq := hq.1.2 .seq (by decide)
    exact (State.bankNewest_congr (by rw [hs]) (by rw [hs]) p).trans (if_neg List.not_mem_nil).symm

theorem CommitStep.setReg (h : CommitStep ps s t) (a : Nat) (w : Word) (ha : tailRegs a = true) (hl : 0x200000 ≤ a) :
    CommitStep ps s (t.setReg a w) := h.quiet (Steady.refl.setReg a w ha hl)

theorem CommitStep.setRegN (h : CommitStep ps s t) (a n : Nat) (ha : tailRegs a = true) (hl : 0x200000 ≤ a) :
    CommitStep ps s (t.setRegN a n) := h.setReg a _ ha hl

theorem CommitStep.setFld (h : CommitStep ps s t) (a : Nat) (f : Field) (n : Nat) (ha : tailRegs a = true)
    (hl : 0x200000 ≤ a) : CommitStep ps s (t.setFld a f n) := h.setReg a _ ha hl

theorem CommitStep.setBit (h : CommitStep ps s t) (a : Nat) (f : Field) (b : Bool) (ha : tailRegs a = true)
    (hl : 0x200000 ≤ a) : CommitStep ps s (t.setBit a f b) := h.setReg a _ ha hl

theorem CommitStep.countHold (h : CommitStep ps s t) (a n : Nat) (ha : tailRegs a = true) (hl : 0x200000 ≤ a) :
    CommitStep ps s (t.countHold a n) := h.setReg a _ ha hl

theorem CommitStep.raiseN (h : CommitStep ps s t) (src w3 : Nat) (hs : src < 320) : CommitStep ps s (t.raiseN src w3) :=
  h.quiet (Steady.refl.raiseN tail_events src w3 hs)

/-! ### Steps of SEQ -/

/-- A step that changes SEQ but for its banks. -/
theorem CommitStep.seq (h : CommitStep ps s t) (x : SeqSt) (hf : x.flips = t.seq.flips) (hb : x.bank = t.seq.bank) :
    CommitStep ps s { t with seq := x } :=
  h.trans ⟨Steady.refl.of_frame (Frame.refl.seq (by decide) x) rfl rfl, .refl, fun _ => rfl,
    fun p => (State.bankNewest_congr hf hb p).trans (if_neg List.not_mem_nil).symm⟩

theorem CommitStep.updTask (h : CommitStep ps s t) (p k : Nat) (f : Task → Task) : CommitStep ps s (t.updTask p k f) :=
  h.seq _ rfl rfl

theorem CommitStep.addGen (h : CommitStep ps s t) (k : Nat) (gen : Word) : CommitStep ps s (t.addGen k gen) :=
  h.seq _ rfl rfl

theorem CommitStep.syncTasks (h : CommitStep ps s t) : CommitStep ps s t.syncTasks :=
  ((h.setFld _ _ _ (tailRegs_mem (by decide)) (by decide)).setFld _ _ _ (tailRegs_mem (by decide)) (by decide)).setBit _ _ _
    (tailRegs_mem (by decide)) (by decide)

theorem CommitStep.noEngine (h : CommitStep ps s t) : CommitStep ps s t.noEngine :=
  h.quiet (Steady.refl.noEngine tail_events)

theorem CommitStep.setSeqState (h : CommitStep ps s t) (n : Nat) : CommitStep ps s (t.setSeqState n) :=
  h.setFld _ _ _ (tailRegs_mem (by decide)) (by decide)

theorem CommitStep.startCount (h : CommitStep ps s t) (p k : Nat) : CommitStep ps s (t.startCount p k) := by
  unfold State.startCount
  exact (CommitStep.ite (h.raiseN 208 _ (by decide)) h).updTask _ _ _

theorem CommitStep.succCheck (h : CommitStep ps s t) (k owner : Nat) (feed : Bool) (l : List Nat) :
    CommitStep ps s (t.succCheck k owner feed l) := by
  unfold State.succCheck
  exact .ite (h.quiet (Steady.refl.raiseOnce tail_events _ _ 208 _ (by decide))) h

theorem CommitStep.unitRead (h : CommitStep ps s t) (code addr n : Nat) : CommitStep ps s (t.unitRead code addr n).2 :=
  h.quiet ⟨Frame.refl.unitReadBus tail_bus code addr n, CauseLe.refl.unitRead code addr n⟩

theorem CommitStep.createFolio (h : CommitStep ps s t) (k : Nat) : CommitStep ps s (t.createFolio k) := by
  unfold State.createFolio
  extract_lets ps' _ s1 s2 s3 s4
  have h1 : CommitStep ps s s1 := .foldl _ _ (h.seq _ rfl rfl) fun _ _ hu => hu.unitRead _ _ _
  have h2 : CommitStep ps s s2 := .foldl _ _ h1 fun _ _ hu => .ite (hu.raiseN 208 _ (by decide)) hu
  have h3 : CommitStep ps s s3 := .foldl _ _ h2 fun _ _ hu => hu.succCheck _ _ _ _
  have h4 : CommitStep ps s s4 := .foldl _ _ h3 fun _ _ hu => hu.succCheck _ _ _ _
  exact (CommitStep.foldl _ _ h4 fun _ _ hu => hu.startCount _ _).syncTasks.noEngine

theorem CommitStep.createFolios (h : CommitStep ps s t) (n : Nat) : CommitStep ps s (t.createFolios n) := by
  induction n generalizing t with
  | zero => exact h
  | succ n ih => exact ih (h.createFolio _)

/-! ### Giving up tasks -/

theorem Steady.peAbort {R : Nat → Bool} {P : List Part} (h : Steady R P s t) (hE : Part.events ∈ P) (hp : Part.pe ∈ P)
    (e : Nat) (h1 : R (Reg.PE_STATUS e) = true) (h2 : R (Reg.PE_CYCLES e) = true) (h3 : R (Reg.PE_CYCLES e + 4) = true) :
    Steady R P s (t.peAbort e) := by
  have hu : Steady R P s (t.peUnstall e) := by
    unfold State.peUnstall
    exact .ite (((h.takeFree hE).setReg64 _ _ h2 h3 (by unfold Reg.PE_CYCLES; omega)).setCore hp _ _) h
  unfold State.peAbort
  exact .ite (hu.setFld _ _ _ h1 (by unfold Reg.PE_STATUS; omega)) h

theorem CommitStep.giveUp (h : CommitStep ps s t) (x : Task) (counts : Bool) : CommitStep ps s (t.giveUp x counts) := by
  have hc : CommitStep ps s (t.countHold Reg.SEQ_CANCEL_COUNT 1) :=
    h.countHold _ _ (tailRegs_mem (by decide)) (by decide)
  have hm : ∀ y, CommitStep ps s { t with mix := y } := fun y =>
    h.quiet (Steady.refl.of_frame (Frame.refl.mix (by decide) y) rfl rfl)
  unfold State.giveUp
  split
  · rename_i e _
    exact .ite (h.quiet (Steady.refl.peAbort (by decide) (by decide) e (tailRegs_peStatus e) (tailRegs_peCycles e).1
      (tailRegs_peCycles e).2)) h
  · exact .ite (hm _) (hm _)
  · exact .ite hc h
  · exact .ite hc h
  · exact h

theorem CommitStep.giveUps (h : CommitStep ps s t) (l : List Task) (counts : Bool) :
    CommitStep ps s (l.foldl (fun s x => s.giveUp x counts) t) := .foldl _ _ h fun _ _ hu => hu.giveUp _ _

theorem CommitStep.discardTasks (h : CommitStep ps s t) : CommitStep ps s t.discardTasks := by
  unfold State.discardTasks
  exact CommitStep.syncTasks (CommitStep.seq (h.giveUps _ false) _ rfl rfl)

/-! ### Banks -/

/-- The banks after a list of flips, read for one phrase. -/
theorem find_foldl_flips (l : List (Nat × Nat × Bool)) (m : SMap Bool) (p : Nat) :
    SMap.find false (l.foldl (fun m f => SMap.set false m f.1 f.2.2) m) p =
      l.foldl (fun b f => if f.1 = p then f.2.2 else b) (SMap.find false m p) := by
  induction l generalizing m with
  | nil => rfl
  | cons f l ih => rw [List.foldl_cons, List.foldl_cons, ih, SMap.find_set]

theorem State.bankNewest_foldAllFlips (s : State) (p : Nat) : s.foldAllFlips.bankNewest p = s.bankNewest p :=
  find_foldl_flips s.seq.flips s.seq.bank p

theorem CommitStep.foldAllFlips (h : CommitStep ps s t) : CommitStep ps s t.foldAllFlips :=
  h.trans ⟨Steady.refl.of_frame (Frame.refl.foldAllFlips (by decide)) rfl rfl, .refl, fun _ => rfl,
    fun p => (t.bankNewest_foldAllFlips p).trans (if_neg List.not_mem_nil).symm⟩

/-- The flip of one phrase. -/
def State.addFlip (s : State) (flip p : Nat) : State :=
  { s with seq := { s.seq with
    flips := s.seq.flips.filter (fun f => !(f.1 == p && decide (flip ≤ f.2.1))) ++ [(p, flip, !s.bankNewest p)] } }

theorem foldl_bank_filter (q : Nat × Nat × Bool → Bool) (p : Nat) (l : List (Nat × Nat × Bool)) (b : Bool)
    (hq : ∀ f ∈ l, f.1 = p → q f = true) : (l.filter q).foldl (fun b f => if f.1 = p then f.2.2 else b) b =
      l.foldl (fun b f => if f.1 = p then f.2.2 else b) b := by
  induction l generalizing b with
  | nil => rfl
  | cons f l ih =>
    have ih := fun b => ih b fun g hg => hq g (List.mem_cons_of_mem _ hg)
    by_cases hf : f.1 = p
    · rw [List.filter_cons_of_pos (hq f List.mem_cons_self hf), List.foldl_cons, List.foldl_cons, ih]
    · by_cases hqf : q f = true
      · rw [List.filter_cons_of_pos hqf, List.foldl_cons, List.foldl_cons, ih]
      · rw [List.filter_cons_of_neg hqf, List.foldl_cons, if_neg hf, ih]

theorem State.bankNewest_addFlip (s : State) (flip p i : Nat) :
    (s.addFlip flip p).bankNewest i = if p = i then !s.bankNewest i else s.bankNewest i := by
  have h : (s.addFlip flip p).bankNewest i = if p = i then !s.bankNewest p else
      (s.seq.flips.filter (fun f => !(f.1 == p && decide (flip ≤ f.2.1)))).foldl (fun b f => if f.1 = i then f.2.2 else b)
        (SMap.find false s.seq.bank i) := by
    simp only [State.addFlip, State.bankNewest, List.foldl_append, List.foldl_cons, List.foldl_nil]
  rw [h]
  by_cases hp : p = i
  · rw [if_pos hp, if_pos hp, hp]
  · rw [if_neg hp, if_neg hp]
    exact foldl_bank_filter _ i _ _ fun f _ hf => by simp [hf, Ne.symm hp]

/-- Phrases that are named once each flip, and the others stay. -/
theorem CommitStep.addFlips (h : CommitStep [] s t) (flip : Nat) (hd : ps.Nodup) : CommitStep ps s (t.addFlips ps flip) := by
  refine h.after ?_
  have hother : Steady tailRegs commitParts t (t.addFlips ps flip) ∧ (t.addFlips ps flip).mem = t.mem ∧
      (t.addFlips ps flip).clause = t.clause := by
    refine List.foldlRecOn ps _ (motive := fun u => Steady tailRegs commitParts t u ∧ u.mem = t.mem ∧ u.clause = t.clause)
      ⟨.refl, rfl, rfl⟩ fun u hu p _ => ?_
    exact ⟨hu.1.of_frame (hu.1.1.seq (by decide) _) rfl rfl, hu.2⟩
  obtain ⟨hsteady, hmem, hclause⟩ := hother
  refine ⟨hsteady, hmem ▸ .refl, fun i => by rw [State.slot_congr (congrArg ClauseSt.slots hclause)], fun i => ?_⟩
  have hfold : ∀ (l : List Nat) (v : State), l.Nodup → (l.foldl (fun s p => s.addFlip flip p) v).bankNewest i =
      if i ∈ l then !v.bankNewest i else v.bankNewest i := by
    intro l
    induction l with
    | nil => exact fun v _ => by simp
    | cons p l ih =>
      intro v hl
      obtain ⟨hpl, hl⟩ := List.nodup_cons.1 hl
      rw [List.foldl_cons, ih _ hl, State.bankNewest_addFlip]
      by_cases hp : p = i
      · subst hp
        simp [hpl]
      · simp [hp, Ne.symm hp]
  exact hfold ps t hd

/-! ### What SEQ does at a commit -/

theorem CommitStep.restart (h : CommitStep ps s t) (c : Nat) : CommitStep ps s (t.restart c) := by
  unfold State.restart
  extract_lets u slots s1
  have h1 : CommitStep ps s s1 := (h.discardTasks.raiseN 211 c (by decide)).foldAllFlips
  refine CommitStep.createFolios (h1.seq _ ?_ ?_) _ <;> rfl

theorem CommitStep.flipFrom (h : CommitStep ps s t) (l : List Nat) (gen : Word) (est n j : Nat) :
    CommitStep ps s (t.flipFrom l gen est n j).2 := by
  induction n generalizing t j with
  | zero => exact h
  | succ n ih =>
    unfold State.flipFrom
    split
    · exact h
    · exact ih ((h.countHold _ _ (tailRegs_mem (by decide)) (by decide)).raiseN 204 _ (by decide)) _

theorem CommitStep.squash (h : CommitStep ps s t) (l : List Nat) (flip : Nat) (couch : Bool) :
    CommitStep ps s (t.squash l flip couch) := by
  unfold State.squash
  extract_lets all cut set inSet s1 _ s2 order s3
  have h1 : CommitStep ps s s1 := h.giveUps _ true
  have h2 : CommitStep ps s s2 := h1.seq _ rfl rfl
  have h3 : CommitStep ps s s3 := .foldl _ _ h2 fun _ _ hu => hu.startCount _ _
  exact .ite h ((h3.syncTasks.countHold _ _ (tailRegs_mem (by decide)) (by decide)).raiseN 205 _ (by decide)).noEngine

/-- What SEQ does at a commit flips the banks of the phrases whose parameters the commit has changed (R186-R195). -/
theorem State.seqCommit_step (s : State) (t c g : Nat) (gen : Word) (crit : Nat) (restart : Bool) (hd : ps.Nodup) :
    CommitStep ps s (s.seqCommit t c g ps gen crit restart).2 := by
  unfold State.seqCommit
  split
  · exact ((CommitStep.refl.addFlips g hd).foldAllFlips).addGen g gen
  · split
    · split
      · exact ((CommitStep.refl.addFlips c hd).addGen g gen).restart c
      · exact ((((CommitStep.refl.addFlips g hd).addGen g gen).discardTasks).setSeqState 0).foldAllFlips
    · exact (((CommitStep.refl.flipFrom ps gen _ _ _).addFlips _ hd).addGen _ gen).squash _ _ _

end Sys2Proof.Machine
end

section
/-! SUPPORT. What follows a commit in the units: the claim and the felt lanes, the summaries, a change of rate, the
activation of firmware, the seal's leaf, and the mirror passes that can start (R18, R42, R280, R450, R470, R605, R629). -/

namespace Sys2Proof.Machine

variable {R : Nat → Bool} {P : List Part} {s t u : State} {ps : List Nat}

/-! ### The claim and the felt lanes -/

theorem CommitStep.redun (h : CommitStep ps s t) (x : RedunSt) : CommitStep ps s { t with redun := x } :=
  h.quiet (Steady.refl.of_frame (Frame.refl.redun (by decide) x) rfl rfl)

theorem CommitStep.setRedunStatus (h : CommitStep ps s t) (f : Field) (n : Nat) :
    CommitStep ps s (t.setFld Reg.REDUN_STATUS f n) := h.setFld _ f n (tailRegs_mem (by decide)) (by decide)

theorem CommitStep.setAdopt (h : CommitStep ps s t) (a : Option Adoption) : CommitStep ps s (t.setAdopt a) :=
  (h.redun { t.redun with adopt := a }).setRedunStatus _ _

theorem CommitStep.syncClaim (h : CommitStep ps s t) : CommitStep ps s t.syncClaim :=
  (h.setRegN _ _ (tailRegs_mem (by decide)) (by decide)).setRedunStatus _ _

theorem CommitStep.soloInbox (h : CommitStep ps s t) : CommitStep ps s t.soloInbox := by
  unfold State.soloInbox
  exact .ite h (h.redun _)

/-- The felt lanes belong to no port (R301). -/
theorem State.portOf_felt (s : State) {n : Nat} (hn : 8 ≤ n) : s.portOf n = none := by
  rw [State.portOf, List.find?_eq_none]
  intro m _
  simp only [Bool.and_eq_true, decide_eq_true_eq]
  omega

theorem tailRegs_feltLane {n : Nat} (hn : n = 8 ∨ n = 9) {a : Nat} (ha : laneRegs n a = true) : tailRegs a = true := by
  simp only [laneRegs, Bool.or_eq_true, beq_iff_eq] at ha
  rcases ha with (rfl | rfl) | rfl
  · rcases hn with rfl | rfl <;> exact tailRegs_mem (by decide)
  · exact tailRegs_mem (by decide)
  · exact tailRegs_mem (by decide)

theorem CommitStep.feltGo (h : CommitStep ps s t) {n : Nat} (hn : n = 8 ∨ n = 9) :
    CommitStep ps s (t.laneGo n 0 6 false) := by
  have h1 : CommitStep ps s (t.setLane n 0) :=
    h.quiet (Steady.refl.setLane tail_events n 0 fun _ ha => tailRegs_feltLane hn ha)
  have hd : tailRegs (Reg.FAB_LINK_DOWNS n) = true := by
    rcases hn with rfl | rfl <;> exact tailRegs_mem (by decide)
  have h2 := (h1.countHold (Reg.FAB_LINK_DOWNS n) 1 hd (by unfold Reg.FAB_LINK_DOWNS; omega)).raiseN 97 (n + 6 * 2 ^ 4)
    (by decide)
  unfold State.laneGo State.laneLeft
  dsimp only
  rw [State.portOf_felt _ (show 8 ≤ n by omega)]
  exact .ite h2 h1

theorem CommitStep.feltLanes (h : CommitStep ps s t) : CommitStep ps s t.feltLanes := by
  have hlane : ∀ {u : State} {n : Nat}, n = 8 ∨ n = 9 → CommitStep ps s u →
      CommitStep ps s (if u.pair then u.laneStart n else if u.lane n = 0 then u else u.laneGo n 0 6 false) := fun hn hu =>
    .ite (hu.quiet (Steady.refl.laneStart tail_events _ fun _ ha => tailRegs_feltLane hn ha)) (.ite hu (hu.feltGo hn))
  exact hlane (.inr rfl) (hlane (.inl rfl) h)

theorem CommitStep.claimForm (h : CommitStep ps s t) : CommitStep ps s t.claimForm := by
  unfold State.claimForm
  extract_lets _ s1 _ s2
  have h1 : CommitStep ps s s1 := CommitStep.setAdopt (h.redun _) none
  have h2 : CommitStep ps s s2 := .ite (h1.setRedunStatus _ _) (.ite (CommitStep.setRedunStatus (h1.redun _) _ _) h1)
  exact h2.syncClaim.soloInbox.feltLanes

/-! ### Summaries and usage -/

theorem CommitStep.setReg64Low (h : CommitStep ps s t) (a n : Nat) (ha : tailRegs a = true) (hb : tailRegs (a + 4) = true)
    (hc : isCause a = false) (hd : isCause (a + 4) = false) : CommitStep ps s (t.setReg64 a n) :=
  h.quiet ⟨Frame.refl.setReg64 a n ha hb, CauseLe.refl.setReg64 a n hc hd⟩

theorem CommitStep.syncSummary (h : CommitStep ps s t) : CommitStep ps s t.syncSummary :=
  h.quiet ⟨Frame.refl.syncSummary tail_events, CauseLe.refl.syncSummary⟩

theorem CommitStep.commitFollow (h : CommitStep ps s t) (recs : List Rec) : CommitStep ps s (t.commitFollow recs) := by
  unfold State.commitFollow
  extract_lets names _ s1 s2 s3 valid mask64
  have h1 : CommitStep ps s s1 := .ite (h.quiet (Steady.refl.of_frame (Frame.refl.dramc (by decide) _) rfl rfl)) h
  have h2 : CommitStep ps s s2 := .ite h1.claimForm h1
  have h3 : CommitStep ps s s3 := .ite (h2.setFld _ _ _ (tailRegs_mem (by decide)) (by decide)) h2
  have h4 : CommitStep ps s (mask64 (mask64 s3 Reg.GLOBAL_REMOTE_SUMMARY) Reg.HOST_RELAY_LOST) :=
    (h3.setReg64Low _ _ (tailRegs_mem (by decide)) (tailRegs_mem (by decide)) (by decide) (by decide)).setReg64Low _ _
      (tailRegs_mem (by decide)) (tailRegs_mem (by decide)) (by decide) (by decide)
  exact (h4.quiet (Steady.refl.syncFelt tail_events (tailRegs_mem (by decide)))).syncSummary

theorem CommitStep.syncMixUsage (h : CommitStep ps s t) : CommitStep ps s t.syncMixUsage :=
  (h.setFld _ _ _ (tailRegs_mem (by decide)) (by decide)).setFld _ _ _ (tailRegs_mem (by decide)) (by decide)

theorem CommitStep.rateFollow (h : CommitStep ps s t) : CommitStep ps s t.rateFollow :=
  (h.raiseN 73 _ (by decide)).quiet ((Steady.refl.resyncAin (by decide) 3).resyncAout (by decide))

/-! ### Firmware and the seal's leaf -/

/-- The bytes of a list of addresses are written into memory (R605). -/
theorem Memory.byte_puts (l : Memory) (m : Memory) (x : Nat) (h : ∀ e ∈ l, e.1 ≠ x) :
    Memory.byte (l.foldl (fun m e => Memory.setByte m e.1 e.2) m) x = Memory.byte m x := by
  induction l generalizing m with
  | nil => rfl
  | cons e l ih =>
    rw [List.foldl_cons, ih _ fun f hf => h f (List.mem_cons_of_mem _ hf), Memory.byte, Memory.setByte,
      SMap.find_set_ne _ _ _ _ _ _ (h e List.mem_cons_self), Memory.byte]

/-- The code bank of a processor lies beside the tables of STREAM. -/
theorem codeLo_high (p : Nat) : 0x2140000 ≤ codeLo p := by
  unfold codeLo
  split <;> decide

theorem State.swapBanks_keeps_outside (s : State) (p : Nat) : KeepsOutside s.mem (s.swapBanks p).mem (codeLo p) codeSize := by
  intro x hx
  have hm : (s.swapBanks p).mem = (Memory.move (s.idleBank p) 0 codeSize (codeLo p)).foldl
      (fun m e => Memory.setByte m e.1 e.2) (Memory.clear s.mem (codeLo p) (codeLo p + codeSize)) := by
    unfold State.swapBanks State.setIdle
    split <;> rfl
  rw [hm, Memory.byte_puts, Memory.byte, Memory.clear,
    SMap.find_filter _ (fun a => decide (a < codeLo p) || decide (codeLo p + codeSize ≤ a)), if_pos, Memory.byte]
  · simpa using hx
  · intro e he
    simp only [Memory.move, List.mem_map, List.mem_filter, Bool.and_eq_true, decide_eq_true_eq] at he
    obtain ⟨f, ⟨-, h0, h1⟩, rfl⟩ := he
    dsimp only
    omega

theorem Steady.swapBanks (h : Steady R P s t) (hm : Part.mem ∈ P) (hb : Part.boot ∈ P) (p : Nat) :
    Steady R P s (t.swapBanks p) := by
  unfold State.swapBanks State.setIdle
  split
  · exact h.of_frame ((h.1.mem hm _).boot hb _) rfl rfl
  · exact h.of_frame ((h.1.mem hm _).boot hb _) rfl rfl

/-- A step that changes memory above the tables of STREAM. -/
theorem CommitStep.memory (h : CommitStep ps s t) (hs : Steady tailRegs commitParts t u) (hm : KeepsTables t.mem u.mem)
    (hc : u.clause = t.clause) (hq : u.seq = t.seq) : CommitStep ps s u :=
  h.trans ⟨hs, hm, fun i => by rw [State.slot_congr (congrArg ClauseSt.slots hc)],
    fun p => (State.bankNewest_congr (by rw [hq]) (by rw [hq]) p).trans (if_neg List.not_mem_nil).symm⟩

theorem CommitStep.swapBanks (h : CommitStep ps s t) (p : Nat) : CommitStep ps s (t.swapBanks p) := by
  refine h.memory (Steady.refl.swapBanks (by decide) (by decide) p)
    ((t.swapBanks_keeps_outside p).tables (codeLo_high p)) ?_ ?_
  all_goals
    unfold State.swapBanks State.setIdle
    split <;> rfl

theorem tailRegs_firmware (p : Nat) : (tailRegs (fwReg p) = true ∧ 0x200000 ≤ fwReg p) ∧
    tailRegs (stagedReg p) = true ∧ 0x200000 ≤ stagedReg p := by
  unfold fwReg stagedReg
  split
  · exact ⟨⟨tailRegs_mem (by decide), by decide⟩, tailRegs_mem (by decide), by decide⟩
  · exact ⟨⟨tailRegs_mem (by decide), by decide⟩, tailRegs_mem (by decide), by decide⟩

theorem CommitStep.activate (h : CommitStep ps s t) (p : Nat) : CommitStep ps s (t.activate p) := by
  obtain ⟨⟨hf, hfl⟩, hs, hsl⟩ := tailRegs_firmware p
  have hboot : ∀ (u : State) x, CommitStep ps s u → CommitStep ps s { u with boot := x } := fun u x hu =>
    hu.quiet (Steady.refl.of_frame (Frame.refl.boot (by decide) x) rfl rfl)
  have hhost : ∀ (u : State) w, CommitStep ps s u → CommitStep ps s { u with host := { u.host with wdogAt := w } } :=
    fun u w hu => hu.quiet (Steady.refl.of_frame (Frame.refl.host (by decide) _ rfl rfl) rfl rfl)
  have hprev : ∀ (u : State) w, CommitStep ps s u → CommitStep ps s (u.setPrev p w) := fun u w hu => by
    unfold State.setPrev
    exact .ite (hboot u _ hu) (hboot u _ hu)
  unfold State.activate
  exact CommitStep.raiseN (hboot _ _ (hhost _ _ (hprev _ _ (((h.swapBanks p).setReg _ _ hf hfl).setReg _ _ hs hsl))))
    317 _ (by decide)

theorem CommitStep.ledgerLeaf (h : CommitStep ps s t) (leaf : Nat) : CommitStep ps s (t.ledgerLeaf leaf) := by
  have hl : LedgerStep t (t.ledgerLeaf leaf) := LedgerStep.refl.setControl _
  exact h.memory (hl.1.mono (fun a ha => tailRegs_event (by simpa [noRegs] using ha)) (by decide))
    (hl.2.tables (by decide)) (hl.1.1.2 .clause (by decide)) (hl.1.1.2 .seq (by decide))

/-! ### The mirror passes -/

theorem KeepsBesideVat.tables {m m' : Memory} (h : KeepsBesideVat m m') : KeepsTables m m' :=
  KeepsOutside.tables h (by decide)

theorem State.slotC_mirrorStart (s : State) (n i : Nat) : ((s.mirrorStart n).slot i).c = (s.slot i).c := by
  by_cases h : s.slotState n = 7
  · have hf : FillStep s ((s.mirrorGoes (s.slot n)).foldl (fun t o => t.mirrorObject n o) s) :=
      .foldl _ _ .refl fun _ _ _ hu => hu.mirrorObject n _
    rw [State.mirrorStart_eq h]
    by_cases hi : n = i
    · subst hi
      rw [State.slot_setSlot_same]
    · rw [State.slot_setSlot_ne _ _ hi, State.slot_congr (congrArg ClauseSt.slots hf.slots_eq)]
  · rw [show s.mirrorStart n = s from if_neg h]

theorem CommitStep.mirrorStart (h : CommitStep ps s t) (n : Nat) : CommitStep ps s (t.mirrorStart n) := by
  obtain ⟨hs, hm⟩ := t.mirrorStart_steady n
  have hq : (t.mirrorStart n).seq = t.seq := hs.1.2 .seq (by decide)
  exact h.trans ⟨hs.mono (fun a ha => (Bool.or_eq_true_iff.1 ha).elim tailRegs_event tailRegs_bus) (by decide), hm.tables,
    t.slotC_mirrorStart n, fun p => (State.bankNewest_congr (by rw [hq]) (by rw [hq]) p).trans (if_neg List.not_mem_nil).symm⟩

theorem CommitStep.mirrorStarts (h : CommitStep ps s t) : CommitStep ps s t.mirrorStarts :=
  .foldl _ _ h fun _ _ hu => hu.mirrorStart _

end Sys2Proof.Machine
end

section
/-! SUPPORT. The register values of a commit: what its REG records write, and the updates of the PLLs (R88, R277). -/

namespace Sys2Proof.Machine

variable {R : Nat → Bool} {P : List Part} {s t u : State}

/-! ### Registers by PLL -/

theorem synthPlls_eq_nil {a : Nat} (h : synthPlls a = []) :
    a ≠ Reg.SYNTH_ROUTE ∧ synthOwns 0 a = false ∧ synthOwns 1 a = false := by
  unfold synthPlls at h
  split at h
  · cases h
  · rename_i hr
    simpa [hr, List.filter_eq_nil_iff] using h

theorem synthPlls_of_owns {x a : Nat} (hx : x = 0 ∨ x = 1) (h : synthOwns x a = true) : synthPlls a ≠ [] := by
  intro hn
  obtain ⟨-, h0, h1⟩ := synthPlls_eq_nil hn
  rcases hx with rfl | rfl
  · simp [h0] at h
  · simp [h1] at h

theorem synthPlls_beside {a : Nat} (h : a < 0x300000 ∨ 0x300300 ≤ a) : synthPlls a = [] := by
  have hr : a ≠ Reg.SYNTH_ROUTE := by unfold Reg.SYNTH_ROUTE; omega
  have ho : ∀ x, x = 0 ∨ x = 1 → synthOwns x a = false := fun x hx => by
    rw [← Bool.not_eq_true, synthOwns, Bool.or_eq_true, beq_iff_eq, Bool.and_eq_true, decide_eq_true_eq, decide_eq_true_eq]
    unfold Reg.SYNTH_CTRL
    omega
  simp [synthPlls, hr, ho]

/-- The registers that the values of a commit may write: those with bits for clauses, and those of the PLLs. -/
def valueRegs (a : Nat) : Bool := shBits a != 0 || !(synthPlls a).isEmpty

theorem valueRegs_sh {a : Nat} (h : shBits a ≠ 0) : valueRegs a = true := by
  rw [valueRegs, bne_iff_ne.2 h, Bool.true_or]

theorem valueRegs_owned {x a : Nat} (hx : x = 0 ∨ x = 1) (h : synthOwns x a = true) : valueRegs a = true := by
  simp [valueRegs, synthPlls_of_owns hx h]

theorem synthOwns_high {x a : Nat} (h : synthOwns x a = true) : 0x200000 ≤ a := by
  rw [synthOwns, Bool.or_eq_true, beq_iff_eq, Bool.and_eq_true, decide_eq_true_eq, decide_eq_true_eq] at h
  unfold Reg.SYNTH_ROUTE Reg.SYNTH_CTRL at h
  omega

/-- A frame that names no cause word and not the silence of the tally is steady. -/
theorem Frame.steady (h : Frame R P s t) (hR : ∀ a, isCause a = true → R a = false) (hP : Part.silent ∉ P) : Steady R P s t :=
  ⟨h, fun g i hg hb => by
    rw [h.1 _ (hR _ (List.any_eq_true.2 ⟨g, List.mem_range.2 hg, by simp⟩))]
    exact hb, h.silent_eq hP⟩

/-! ### Updates of the PLLs -/

theorem isCause_not_owned {x a : Nat} (h : isCause a = true) : synthOwns x a = false := by
  rw [← Bool.not_eq_true]
  intro ho
  rw [isCause_of_le (synthOwns_high ho)] at h
  cases h

theorem State.synthUpdate_steady (s : State) (x : Nat) :
    Steady (fun a => eventReg a || synthOwns x a) [.events, .synth, .ain, .aout] s (s.synthUpdate x) := by
  by_cases h : (s.updateCode x).1 = 0
  · have h0 : Frame (synthOwns x) [.synth, .ain, .aout] s (s.stagedTaken x) := Frame.refl.synth (by decide) _
    have hf : Frame (synthOwns x) [.synth, .ain, .aout] (s.stagedTaken x) (s.synthFollow (s.synthApply x) x) :=
      Frame.synthFollow (Frame.synthApply x) (by decide) (by decide) s x
        (by simp [updateRegs, synthOwns_ctrl, synthOwns_status, synthOwns_steer])
    rw [State.synthUpdate_done h]
    exact ((h0.trans hf).steady (fun _ => isCause_not_owned) (by decide)).mono (fun a ha => by simp [ha]) (by decide)
  · have hcode : Steady (fun a => eventReg a || synthOwns x a) [.events, .synth, .ain, .aout] s (s.updateCode x).2 := by
      rcases s.updateCode_state x with hs | hs <;> rw [hs]
      · exact .refl
      · exact Steady.refl.takeFree (by decide)
    have hl := synthOwns_high (synthOwns_status x)
    have hl' := synthOwns_high (synthOwns_ctrl x)
    rw [State.synthUpdate_refused h]
    exact ((hcode.setFld _ _ _ (by simp [synthOwns_status]) hl).setBit _ _ _ (by simp [synthOwns_ctrl]) hl').raiseN
      ⟨fun a ha => by simp [ha], by decide⟩ 14 _ (by decide)

/-! ### REG records -/

theorem State.reg_regRec (s : State) (r : Rec) (a : Nat) : (s.regRec r).reg a =
    if r.w1 = a then mergeWord (s.reg r.w1) r.2.2.1 (r.2.2.2 &&& shBits r.w1) else s.reg a := State.reg_setReg ..

theorem mergeWord_none (w d : Word) : mergeWord w d 0#32 = w := by
  change (w &&& BitVec.allOnes 32) ||| (d &&& 0#32) = w
  rw [BitVec.and_zero, BitVec.or_zero, BitVec.and_allOnes]

/-- The bits for clauses alone are written. -/
theorem State.reg_regRec_kept (s : State) (r : Rec) {a : Nat} (h : shBits a = 0) : (s.regRec r).reg a = s.reg a := by
  rw [State.reg_regRec]
  split
  case isTrue he =>
    subst he
    rw [h, show r.2.2.2 &&& (0 : Word) = 0#32 from BitVec.and_zero, mergeWord_none]
  case isFalse => rfl

theorem State.regRec_congr {r : Rec} {a : Nat} (h : t.reg a = s.reg a) : (t.regRec r).reg a = (s.regRec r).reg a := by
  rw [State.reg_regRec, State.reg_regRec]
  split
  case isTrue he => rw [he, h]
  case isFalse => exact h

/-- The value of a register after the REG records depends on its own value alone. -/
theorem State.projectRegs_congr (recs : List Rec) {a : Nat} (h : t.reg a = s.reg a) :
    (t.projectRegs recs).reg a = (s.projectRegs recs).reg a := by
  unfold State.projectRegs
  induction recs generalizing s t with
  | nil => exact h
  | cons r recs ih =>
    rw [List.foldl_cons, List.foldl_cons]
    refine ih ?_
    split
    · exact State.regRec_congr h
    · exact h

theorem State.reg_projectRegs_kept (s : State) (recs : List Rec) {a : Nat} (h : shBits a = 0) :
    (s.projectRegs recs).reg a = s.reg a := by
  refine List.foldlRecOn recs _ (motive := fun (t : State) => t.reg a = s.reg a) rfl fun t ht r _ => ?_
  split
  · exact (t.reg_regRec_kept r h).trans ht
  · exact ht

/-- The REG values of a commit before the PLLs are updated. -/
def State.stageRegs (s : State) (recs : List Rec) : State :=
  (recs.filter (fun r => r.op == 1)).foldl (fun s r =>
    if (synthPlls r.w1).isEmpty then s.regRec r
    else s.synthStage r.w1 (mergeWord (s.stagedOr r.w1) r.2.2.1 (r.2.2.2 &&& shBits r.w1))) s

theorem State.commitRegs_eq (s : State) (recs : List Rec) :
    s.commitRegs recs = (commitPlls recs).foldl (fun s x => s.synthUpdate x) (s.stageRegs recs) := rfl

/-- One record of them. -/
def State.stageReg (s : State) (r : Rec) : State :=
  if (synthPlls r.w1).isEmpty then s.regRec r
  else s.synthStage r.w1 (mergeWord (s.stagedOr r.w1) r.2.2.1 (r.2.2.2 &&& shBits r.w1))

theorem State.reg_stageReg (r : Rec) {a : Nat} (ha : synthPlls a = []) (h : t.reg a = s.reg a) :
    (t.stageReg r).reg a = (s.regRec r).reg a := by
  unfold State.stageReg
  split
  case isTrue => exact State.regRec_congr h
  case isFalse hn =>
    rw [State.reg_regRec, if_neg]
    · exact h
    · rintro rfl
      exact hn (by simp [ha])

theorem State.reg_stageRegs (s : State) (recs : List Rec) {a : Nat} (ha : synthPlls a = []) :
    (s.stageRegs recs).reg a = (s.projectRegs recs).reg a := by
  have h : ∀ (l : List Rec) (t u : State), t.reg a = u.reg a →
      ((l.filter (fun r => r.op == 1)).foldl State.stageReg t).reg a = (u.projectRegs l).reg a := by
    intro l
    induction l with
    | nil => exact fun t u h => h
    | cons r l ih =>
      intro t u h
      by_cases hr : r.op = 1
      · have hu : u.projectRegs (r :: l) = (u.regRec r).projectRegs l := by
          simp only [State.projectRegs, List.foldl_cons, hr, if_true]
        rw [List.filter_cons_of_pos (by simp [hr]), List.foldl_cons, hu]
        exact ih _ _ (State.reg_stageReg r ha h)
      · have hu : u.projectRegs (r :: l) = u.projectRegs l := by
          simp only [State.projectRegs, List.foldl_cons, hr, if_false]
        rw [List.filter_cons_of_neg (by simp [hr]), hu]
        exact ih _ _ h
  exact h recs s s rfl

theorem Frame.regRec (h : Frame R P s t) (r : Rec) (hR : ∀ a, shBits a ≠ 0 → R a = true) : Frame R P s (t.regRec r) := by
  refine h.trans ⟨fun a ha => t.reg_regRec_kept r ?_, fun p _ => by cases p <;> simp [Part.same, State.regRec]⟩
  by_contra hne
  rw [hR a hne] at ha
  cases ha

theorem State.stageRegs_frame (s : State) (recs : List Rec) : Frame valueRegs [.synth] s (s.stageRegs recs) := by
  refine Frame.refl.foldl _ _ fun t r _ ht => ?_
  exact .ite (ht.regRec r fun a ha => valueRegs_sh ha) (ht.synthStage _ _ (by decide))

theorem commitPlls_lt (recs : List Rec) : ∀ x ∈ commitPlls recs, x = 0 ∨ x = 1 := by
  intro x hx
  unfold commitPlls at hx
  dsimp only at hx
  split at hx
  · simpa using hx
  · simpa using List.mem_of_mem_filter hx

theorem isCause_not_value {a : Nat} (h : isCause a = true) : valueRegs a = false := by
  obtain ⟨g, hg, ha⟩ := List.any_eq_true.1 h
  rw [beq_iff_eq] at ha
  have hlt := List.mem_range.1 hg
  have hsh : shBits a = 0 := by
    have h4 : tailRegs a = true := tailRegs_event (ha ▸ eventReg_cause g hlt)
    simp only [tailRegs, Bool.and_eq_true, beq_iff_eq] at h4
    exact h4.1
  have hp : synthPlls a = [] := by
    rw [synthPlls, if_neg]
    · simp [isCause_not_owned h]
    · rintro rfl
      exact absurd h (by decide)
  simp [valueRegs, hsh, hp]

/-- What the REG values of a commit leave beside registers with bits for clauses and those of the PLLs. -/
theorem State.commitRegs_steady (s : State) (recs : List Rec) :
    Steady (fun a => eventReg a || valueRegs a) [.events, .synth, .ain, .aout] s (s.commitRegs recs) := by
  rw [State.commitRegs_eq]
  have h0 : Steady (fun a => eventReg a || valueRegs a) [.events, .synth, .ain, .aout] s (s.stageRegs recs) :=
    ((s.stageRegs_frame recs).steady (fun _ => isCause_not_value) (by decide)).mono (fun a ha => by simp [ha]) (by decide)
  refine Steady.foldl _ _ h0 fun t x hx ht => ht.trans ((t.synthUpdate_steady x).mono (fun a ha => ?_) fun _ hp => hp)
  rw [Bool.or_eq_true] at ha ⊢
  exact ha.imp_right (valueRegs_owned (commitPlls_lt recs x hx))

/-- Beside the PLLs the REG records of a commit write what they say. -/
theorem State.reg_commitRegs (s : State) (recs : List Rec) {a : Nat} (he : eventReg a = false) (ha : synthPlls a = []) :
    (s.commitRegs recs).reg a = (s.projectRegs recs).reg a := by
  rw [State.commitRegs_eq, ← s.reg_stageRegs recs ha]
  refine List.foldlRecOn (commitPlls recs) _ (motive := fun (t : State) => t.reg a = (s.stageRegs recs).reg a) rfl
    fun t ht x hx => ?_
  refine (FrameEv.reg_eq (t.synthUpdate_steady x).1 a he ?_).trans ht
  by_contra ho
  exact synthPlls_of_owns (commitPlls_lt recs x hx) (by simpa using ho) ha

end Sys2Proof.Machine
end

section
/-! SUPPORT. The versions that a commit brings into force: the route bank, the table entries, and the guarantees with their
sums (R235, R270, R276, R278, R279, R399). -/

namespace Sys2Proof.Machine

variable {R : Nat → Bool} {P : List Part} {s t u : State}

theorem nodup_eraseDups {α : Type} [BEq α] [LawfulBEq α] (l : List α) : l.eraseDups.Nodup := by
  induction h : l.length using Nat.strong_induction_on generalizing l with
  | _ n ih =>
    cases l with
    | nil => simp
    | cons a l =>
      rw [List.eraseDups_cons, List.nodup_cons, List.mem_eraseDups]
      refine ⟨by simp, ih _ ?_ _ rfl⟩
      have := List.length_filter_le (fun b => !b == a) l
      rw [List.length_cons] at h
      omega

/-! ### The route bank -/

theorem State.commitRoute_steady (t s : State) (g : Nat) (recs : List Rec) (staged : Option (SMap Nat)) :
    Steady (· == Reg.MIX_RCTRL) [.mix] t (t.commitRoute s g recs staged) := by
  unfold State.commitRoute
  extract_lets moved t1 b r0 m seed
  have h1 : Steady (· == Reg.MIX_RCTRL) [.mix] t t1 := .ite (Steady.refl.setFld _ _ _ (by decide) (by decide)) .refl
  refine .ite ?_ .refl
  unfold State.addRoute
  exact h1.of_frame (Frame.mix (Frame.mix h1.1 (by decide) _) (by decide) _) rfl rfl

/-- A ROUTE record brings the other route bank into force (R276). -/
theorem State.commitRoute_bank (t s : State) (g : Nat) {recs : List Rec} (staged : Option (SMap Nat)) {r : Rec}
    (hr : r ∈ recs) (hop : r.op = 4) : (t.commitRoute s g recs staged).fld Reg.MIX_RCTRL Fld.MIX_RCTRL_BANK =
      1 - s.fld Reg.MIX_RCTRL Fld.MIX_RCTRL_BANK := by
  have hm : recs.any (fun r => r.op == 4) = true := List.any_eq_true.2 ⟨r, hr, by simp [hop]⟩
  have hreg : (t.commitRoute s g recs staged).reg Reg.MIX_RCTRL = (t.setFld Reg.MIX_RCTRL Fld.MIX_RCTRL_BANK
      (1 - s.fld Reg.MIX_RCTRL Fld.MIX_RCTRL_BANK)).reg Reg.MIX_RCTRL := by
    unfold State.commitRoute
    simp only [hm, Bool.true_or, if_true]
    rfl
  rw [State.fld_congr hreg, State.fld_setFld_same _ _ _ _ (by decide)]
  exact Nat.mod_eq_of_lt (by rw [show Fld.MIX_RCTRL_BANK.width = 1 from rfl]; omega)

/-! ### Table entries -/

/-- An entry that exists (R261). -/
def entryExists (e : Bool × Nat) : Prop := e.2 < if e.1 then 16384 else 8192

/-- Two entries that exist share no byte. -/
theorem entryAt_apart {e f : Bool × Nat} (he : entryExists e) (hf : entryExists f) (h : e ≠ f) :
    entryAt e.1 e.2 + entrySize e.1 ≤ entryAt f.1 f.2 ∨ entryAt f.1 f.2 + entrySize f.1 ≤ entryAt e.1 e.2 := by
  obtain ⟨a, i⟩ := e
  obtain ⟨b, j⟩ := f
  have hij : a = b → i ≠ j := fun hab hij => h (by rw [hab, hij])
  cases a <;> cases b
  all_goals
    simp only [entryExists, entryAt, entrySize, macAt, streamAt, Bool.false_eq_true, if_false, if_true,
      true_implies, reduceCtorEq, false_implies] at *
    omega

theorem entryAt_tables {e : Bool × Nat} (he : entryExists e) :
    0x2080000 ≤ entryAt e.1 e.2 ∧ entryAt e.1 e.2 + entrySize e.1 ≤ 0x2140000 := by
  obtain ⟨a, i⟩ := e
  cases a
  all_goals
    simp only [entryExists, entryAt, entrySize, macAt, streamAt, Bool.false_eq_true, if_false, if_true] at *
    omega

/-- The change of places of one entry's versions at a commit (R278, R281, R399). -/
def State.commitEntry (s : State) (t : Nat) (e : Bool × Nat) : State :=
  let s1 := { s with clause := { s.clause with
    retiring := s.clause.retiring ++ [(e.1, e.2, s.tableEpoch e.1, t)] } }.switchEntry e.1 e.2
  if e.1 then s1 else s1.clearEntryCounts e.2

theorem State.mem_clearEntryCounts (s : State) (i : Nat) : (s.clearEntryCounts i).mem = s.mem ∧
    (s.clearEntryCounts i).spare = s.spare :=
  List.foldlRecOn _ _ (motive := fun (t : State) => t.mem = s.mem ∧ t.spare = s.spare) ⟨rfl, rfl⟩ fun _ h _ _ => h

theorem State.mem_commitEntry (s : State) (t : Nat) (e : Bool × Nat) :
    (s.commitEntry t e).mem =
        Memory.write s.mem (entryAt e.1 e.2) (Memory.read s.spare (entryAt e.1 e.2) (entrySize e.1)) ∧
      (s.commitEntry t e).spare =
        Memory.write s.spare (entryAt e.1 e.2) (Memory.read s.mem (entryAt e.1 e.2) (entrySize e.1)) := by
  unfold State.commitEntry
  dsimp only
  split
  · exact ⟨rfl, rfl⟩
  · exact State.mem_clearEntryCounts _ _

theorem State.read_commitEntry_same (s : State) (t : Nat) (e : Bool × Nat) :
    Memory.read (s.commitEntry t e).mem (entryAt e.1 e.2) (entrySize e.1) =
      Memory.read s.spare (entryAt e.1 e.2) (entrySize e.1) := by
  have h := Memory.read_write_same s.mem (entryAt e.1 e.2) (Memory.read s.spare (entryAt e.1 e.2) (entrySize e.1))
  rw [Memory.length_read] at h
  rw [(s.mem_commitEntry t e).1, h]

theorem State.read_commitEntry_other (s : State) (t : Nat) {e f : Bool × Nat} (he : entryExists e) (hf : entryExists f)
    (h : e ≠ f) : Memory.read (s.commitEntry t e).mem (entryAt f.1 f.2) (entrySize f.1) =
        Memory.read s.mem (entryAt f.1 f.2) (entrySize f.1) ∧
      Memory.read (s.commitEntry t e).spare (entryAt f.1 f.2) (entrySize f.1) =
        Memory.read s.spare (entryAt f.1 f.2) (entrySize f.1) := by
  have hd := entryAt_apart he hf h
  obtain ⟨hm, hs⟩ := s.mem_commitEntry t e
  rw [hm, hs]
  exact ⟨Memory.read_write_apart _ _ _ _ _ (by rw [Memory.length_read]; omega),
    Memory.read_write_apart _ _ _ _ _ (by rw [Memory.length_read]; omega)⟩

/-- Entries that are named once each take their spare versions, and the others stay. -/
theorem State.read_commitEntries (t : Nat) (es : List (Bool × Nat)) (hd : es.Nodup) (hes : ∀ e ∈ es, entryExists e)
    {f : Bool × Nat} (hf : entryExists f) (s : State) :
    Memory.read (es.foldl (fun s e => s.commitEntry t e) s).mem (entryAt f.1 f.2) (entrySize f.1) =
      if f ∈ es then Memory.read s.spare (entryAt f.1 f.2) (entrySize f.1)
      else Memory.read s.mem (entryAt f.1 f.2) (entrySize f.1) := by
  induction es generalizing s with
  | nil => rfl
  | cons e es ih =>
    obtain ⟨hn, hd⟩ := List.nodup_cons.1 hd
    have he := hes e List.mem_cons_self
    rw [List.foldl_cons, ih hd (fun g hg => hes g (List.mem_cons_of_mem _ hg))]
    by_cases hef : e = f
    · subst hef
      rw [if_neg hn, if_pos List.mem_cons_self, State.read_commitEntry_same]
    · obtain ⟨hm, hs⟩ := s.read_commitEntry_other t he hf hef
      rw [hm, hs]
      simp [Ne.symm hef]

theorem tailRegs_counter {i w : Nat} (hi : i < 8192) (hw : w < 8) : tailRegs (Reg.STREAM_ENTRY_COUNT i w) = true := by
  refine tailRegs_entryCount (inRange_iff.2 ?_)
  unfold Reg.STREAM_ENTRY_COUNT
  omega

theorem Steady.clearEntryCounts (h : Steady R P s t) {i : Nat} (hi : i < 8192) (hR : ∀ a, tailRegs a = true → R a = true) :
    Steady R P s (t.clearEntryCounts i) := by
  refine Steady.foldl _ _ h fun u w hw hu => hu.setReg _ _ (hR _ (tailRegs_counter hi (List.mem_range.1 hw))) ?_
  unfold Reg.STREAM_ENTRY_COUNT
  omega

/-- What the change of one entry leaves: the slots and every register of the front. -/
theorem State.commitEntry_steady (s : State) (t : Nat) {e : Bool × Nat} (he : entryExists e) :
    Steady tailRegs [.mem, .spare, .clause] s (s.commitEntry t e) ∧ (s.commitEntry t e).clause.slots = s.clause.slots := by
  have h1 : Steady tailRegs [.mem, .spare, .clause] s ({ s with clause := { s.clause with
      retiring := s.clause.retiring ++ [(e.1, e.2, s.tableEpoch e.1, t)] } }.switchEntry e.1 e.2) :=
    Steady.refl.of_frame (Frame.spare (Frame.write (Frame.clause Frame.refl (by decide) _) (by decide) _ _) (by decide) _)
      rfl rfl
  unfold State.commitEntry
  obtain ⟨mac, i⟩ := e
  cases mac
  · refine ⟨h1.clearEntryCounts he fun _ h => h, ?_⟩
    exact List.foldlRecOn _ _ (motive := fun (u : State) => u.clause.slots = s.clause.slots) rfl fun _ h _ _ => h
  · exact ⟨h1, rfl⟩

/-- The entries that the records of a commit name. -/
def entriesOf (recs : List Rec) : List (Bool × Nat) :=
  ((recs.filter (fun r => r.op == 5)).map (fun r => (r.mac, r.w1))).eraseDups

theorem mem_entriesOf {recs : List Rec} {e : Bool × Nat} : e ∈ entriesOf recs ↔ ∃ r ∈ recs, r.op = 5 ∧ (r.mac, r.w1) = e := by
  simp [entriesOf, and_assoc]

/-- The epoch of a table that a commit has changed goes one up (R398). -/
def State.bumpEpoch (s : State) (es : List (Bool × Nat)) (mac : Bool) : State :=
  if es.any (fun e => e.1 == mac) then
    s.setFld Reg.CLAUSE_EPOCH (if mac then Fld.CLAUSE_EPOCH_MAC else Fld.CLAUSE_EPOCH_STREAM) (s.tableEpoch mac + 1)
  else s

theorem State.commitEntries_eq (s : State) (t : Nat) (recs : List Rec) : s.commitEntries t recs =
    if (entriesOf recs).isEmpty then s else
      (((((entriesOf recs).foldl (fun s e => s.commitEntry t e) s).bumpEpoch (entriesOf recs) false).bumpEpoch
        (entriesOf recs) true).syncUsage).syncMacCount := rfl

theorem Steady.bumpEpoch (h : Steady R P s t) (hR : R Reg.CLAUSE_EPOCH = true) (es : List (Bool × Nat)) (mac : Bool) :
    Steady R P s (t.bumpEpoch es mac) := by
  unfold State.bumpEpoch
  exact .ite (h.setFld _ _ _ hR (by decide)) h

theorem State.mem_bumpEpoch (s : State) (es : List (Bool × Nat)) (mac : Bool) : (s.bumpEpoch es mac).mem = s.mem ∧
    (s.bumpEpoch es mac).clause = s.clause := by
  unfold State.bumpEpoch
  split <;> exact ⟨rfl, rfl⟩

theorem State.mem_syncCounts (s : State) : s.syncUsage.syncMacCount.mem = s.mem ∧
    s.syncUsage.syncMacCount.clause = s.clause := ⟨rfl, rfl⟩

theorem State.commitEntries_steady (s : State) (t : Nat) {recs : List Rec} (he : EntriesExist recs) :
    Steady tailRegs [.mem, .spare, .clause] s (s.commitEntries t recs) ∧
      (s.commitEntries t recs).clause.slots = s.clause.slots := by
  have hes : ∀ e ∈ entriesOf recs, entryExists e := fun e hm => by
    obtain ⟨r, hr, hop, rfl⟩ := mem_entriesOf.1 hm
    exact he r hr hop
  have hfold : Steady tailRegs [.mem, .spare, .clause] s ((entriesOf recs).foldl (fun s e => s.commitEntry t e) s) ∧
      ((entriesOf recs).foldl (fun s e => s.commitEntry t e) s).clause.slots = s.clause.slots := by
    refine List.foldlRecOn (entriesOf recs) (fun s e => s.commitEntry t e)
      (motive := fun (u : State) => Steady tailRegs [.mem, .spare, .clause] s u ∧ u.clause.slots = s.clause.slots)
      ⟨.refl, rfl⟩ fun u hu e hm => ?_
    obtain ⟨h1, h2⟩ := u.commitEntry_steady t (hes e hm)
    exact ⟨hu.1.trans h1, h2.trans hu.2⟩
  rw [State.commitEntries_eq]
  refine ⟨.ite .refl ?_, ?_⟩
  · exact (((hfold.1.bumpEpoch (tailRegs_mem (by decide)) _ _).bumpEpoch (tailRegs_mem (by decide)) _ _).setRegN _ _
      (tailRegs_mem (by decide)) (by decide)).setRegN _ _ (tailRegs_mem (by decide)) (by decide)
  · split
    · rfl
    · refine Eq.trans ?_ hfold.2
      rw [(State.mem_syncCounts _).2, (State.mem_bumpEpoch _ _ _).2, (State.mem_bumpEpoch _ _ _).2]

/-- An ENTRY record brings the spare version of its entry into force (R278). -/
theorem State.commitEntries_read (s : State) (t : Nat) {recs : List Rec} (he : EntriesExist recs) {r : Rec} (hr : r ∈ recs)
    (hop : r.op = 5) : Memory.read (s.commitEntries t recs).mem (entryAt r.mac r.w1) (entrySize r.mac) =
      Memory.read s.spare (entryAt r.mac r.w1) (entrySize r.mac) := by
  have hm : (r.mac, r.w1) ∈ entriesOf recs := mem_entriesOf.2 ⟨r, hr, hop, rfl⟩
  have hes : ∀ e ∈ entriesOf recs, entryExists e := fun e hm => by
    obtain ⟨r, hr, hop, rfl⟩ := mem_entriesOf.1 hm
    exact he r hr hop
  have hmem : (s.commitEntries t recs).mem = ((entriesOf recs).foldl (fun s e => s.commitEntry t e) s).mem := by
    rw [State.commitEntries_eq, if_neg (by simpa using List.ne_nil_of_mem hm),
      (State.mem_syncCounts _).1, (State.mem_bumpEpoch _ _ _).1, (State.mem_bumpEpoch _ _ _).1]
  rw [hmem]
  exact (State.read_commitEntries t _ (nodup_eraseDups _) hes (hes _ hm) s).trans (if_pos hm)

/-! ### Guarantees -/

/-- The registers of the guarantees. -/
def guarRegs (a : Nat) : Bool := inRange 0x3001000 0x3003000 a

theorem guarRegs_pair {t m : Nat} (ht : t < 64) (hm : m < 32) : guarRegs (Reg.XBAR_GUAR t m) = true := by
  refine inRange_iff.2 ?_
  unfold Reg.XBAR_GUAR
  omega

theorem guar_injective {t m t' m' : Nat} (hm : m < 32) (hm' : m' < 32) (h : (t, m) ≠ (t', m')) :
    Reg.XBAR_GUAR t m ≠ Reg.XBAR_GUAR t' m' ∧ t * 32 + m ≠ t' * 32 + m' := by
  have h2 : ¬ (t = t' ∧ m = m') := fun hc => h (by rw [hc.1, hc.2])
  unfold Reg.XBAR_GUAR
  omega

theorem Rec.target_lt (r : Rec) : r.target < 64 := Nat.mod_lt _ (by decide)

theorem Rec.master_lt (r : Rec) : r.master < 32 := Nat.mod_lt _ (by decide)

/-- What a guarantee becomes: its own value less what a pair still lacks, with the change; what would be below zero stays
owed (log entry 125). -/
def State.guarSum (s : State) (t m : Nat) (change : Int) : Int := (s.regN (Reg.XBAR_GUAR t m) : Int) - s.guarDebt t m + change

/-- What CLAUSE keeps of a pair for a change. -/
def State.guarCredit (s : State) (t m : Nat) (change : Int) : State :=
  let s1 := if s.regN (Reg.XBAR_GUAR t m) = 0 then s.setCredit t m 0 else s.setCredit t m (s.credit t m)
  { s1 with xbar := { s1.xbar with debt := SMap.set 0 s1.xbar.debt (t * 32 + m) (-(s.guarSum t m change)).toNat } }

theorem State.addGuarantee_eq (s : State) (t m : Nat) (change : Int) : s.addGuarantee t m change =
    (s.guarCredit t m change).setRegN (Reg.XBAR_GUAR t m) (s.guarSum t m change).toNat := rfl

theorem State.regs_guarCredit (s : State) (t m : Nat) (change : Int) : (s.guarCredit t m change).regs = s.regs := by
  unfold State.guarCredit
  dsimp only
  split <;> rfl

theorem State.guarDebt_guarCredit (s : State) (t m : Nat) (change : Int) {t' m' : Nat} (h : t * 32 + m ≠ t' * 32 + m') :
    (s.guarCredit t m change).guarDebt t' m' = s.guarDebt t' m' := by
  have hd : (s.guarCredit t m change).xbar.debt =
      SMap.set 0 s.xbar.debt (t * 32 + m) (-(s.guarSum t m change)).toNat := by
    unfold State.guarCredit
    dsimp only
    split <;> rfl
  rw [State.guarDebt, hd, SMap.find_set_ne _ _ _ _ _ _ h, State.guarDebt]

theorem State.guarCredit_frame (s : State) (t m : Nat) (change : Int) (hP : Part.xbar ∈ P) :
    Frame R P s (s.guarCredit t m change) := by
  unfold State.guarCredit
  dsimp only
  exact Frame.xbar (.ite (Frame.refl.xbar hP _) (Frame.refl.xbar hP _)) hP _

theorem State.addGuarantee_steady (s : State) {t m : Nat} (ht : t < 64) (hm : m < 32) (change : Int) :
    Steady guarRegs [.xbar] s (s.addGuarantee t m change) := by
  have hc := s.guarCredit_frame (R := guarRegs) (P := [.xbar]) t m change (by decide)
  have h1 : Steady guarRegs [.xbar] s (s.guarCredit t m change) :=
    Steady.refl.of_frame hc (s.regs_guarCredit t m change) (hc.silent_eq (by decide))
  rw [State.addGuarantee_eq]
  exact h1.setRegN _ _ (guarRegs_pair ht hm) (by unfold Reg.XBAR_GUAR; omega)

theorem State.regN_addGuarantee_same (s : State) (t m : Nat) (change : Int) :
    (s.addGuarantee t m change).regN (Reg.XBAR_GUAR t m) = (s.guarSum t m change).toNat % 2 ^ 32 := by
  rw [State.addGuarantee_eq, State.regN, State.reg_setRegN, if_pos rfl, BitVec.toNat_ofNat]

theorem State.guarSum_addGuarantee_other (s : State) {t m t' m' : Nat} (change change' : Int) (hm : m < 32) (hm' : m' < 32)
    (h : (t, m) ≠ (t', m')) : (s.addGuarantee t m change).guarSum t' m' change' = s.guarSum t' m' change' ∧
      (s.addGuarantee t m change).regN (Reg.XBAR_GUAR t' m') = s.regN (Reg.XBAR_GUAR t' m') := by
  obtain ⟨ha, hk⟩ := guar_injective hm hm' h
  have hr : (s.addGuarantee t m change).regN (Reg.XBAR_GUAR t' m') = s.regN (Reg.XBAR_GUAR t' m') := by
    rw [State.addGuarantee_eq]
    exact State.regN_congr ((State.reg_setReg_ne _ _ _ _ ha).trans (State.reg_congr _ _ (s.regs_guarCredit t m change) _))
  refine ⟨?_, hr⟩
  have hd : (s.addGuarantee t m change).guarDebt t' m' = s.guarDebt t' m' := s.guarDebt_guarCredit t m change hk
  rw [State.guarSum, hr, hd, State.guarSum]

/-- The changes of some pairs, added one after the other. -/
def State.addGuarantees (s : State) (f : Nat → Nat → Int) (pairs : List (Nat × Nat)) : State :=
  pairs.foldl (fun s p => s.addGuarantee p.1 p.2 (f p.1 p.2)) s

theorem State.addGuarantees_steady (s : State) (f : Nat → Nat → Int) {pairs : List (Nat × Nat)}
    (hp : ∀ p ∈ pairs, p.1 < 64 ∧ p.2 < 32) : Steady guarRegs [.xbar] s (s.addGuarantees f pairs) :=
  Steady.refl.foldl _ _ fun u p hm hu => hu.trans (u.addGuarantee_steady (hp p hm).1 (hp p hm).2 _)

/-- Each pair that is named once takes its change. -/
theorem State.regN_addGuarantees (f : Nat → Nat → Int) {pairs : List (Nat × Nat)} (hd : pairs.Nodup)
    (hp : ∀ p ∈ pairs, p.1 < 64 ∧ p.2 < 32) {q : Nat × Nat} (hq : q.2 < 32) (s : State) :
    (s.addGuarantees f pairs).regN (Reg.XBAR_GUAR q.1 q.2) =
      if q ∈ pairs then (s.guarSum q.1 q.2 (f q.1 q.2)).toNat % 2 ^ 32 else s.regN (Reg.XBAR_GUAR q.1 q.2) := by
  induction pairs generalizing s with
  | nil => rfl
  | cons p pairs ih =>
    obtain ⟨hn, hd⟩ := List.nodup_cons.1 hd
    have hb := hp p List.mem_cons_self
    have hcons : s.addGuarantees f (p :: pairs) = (s.addGuarantee p.1 p.2 (f p.1 p.2)).addGuarantees f pairs := rfl
    rw [hcons, ih hd fun r hr => hp r (List.mem_cons_of_mem _ hr)]
    by_cases hpq : p = q
    · subst hpq
      rw [if_neg hn, if_pos List.mem_cons_self, State.regN_addGuarantee_same]
    · obtain ⟨h1, h2⟩ := s.guarSum_addGuarantee_other (f p.1 p.2) (f q.1 q.2) hb.2 hq hpq
      rw [h1, h2]
      simp [Ne.symm hpq]

/-- The sums of a target follow, with the states of R414 on the two links. -/
theorem Steady.syncSums (h : Steady tailRegs quietParts s t) {i : Nat} (hi : i < 64) :
    Steady tailRegs quietParts s (t.syncSums i) := by
  have hg : tailRegs (Reg.XBAR_GSUM i) = true := tailRegs_sums (inRange_iff.2 (by unfold Reg.XBAR_GSUM; omega))
  have hs : tailRegs (Reg.XBAR_SSUM i) = true := tailRegs_sums (inRange_iff.2 (by unfold Reg.XBAR_SSUM; omega))
  have hjudge : ∀ {u : State} (c : Nat), Steady tailRegs quietParts s u → Steady tailRegs quietParts s (u.bwJudge c) := by
    intro u c hu
    have h1 := (hu.setBit Reg.DRAM_STATUS (dramDeg c) true (tailRegs_mem (by decide)) (by decide)).raiseN tail_events 164
      (c + u.regN (Reg.XBAR_DELIV (32 + c)) / 16 % 2 ^ 16 * 2 ^ 16) (by decide)
    unfold State.bwJudge
    exact .ite (Steady.raiseN (.ite h1 hu) tail_events 166 _ (by decide)) (.ite h1 hu)
  unfold State.syncSums
  extract_lets sum sac s1
  have h1 : Steady tailRegs quietParts s s1 := (h.setRegN _ _ hg (by unfold Reg.XBAR_GSUM; omega)).setRegN _ _ hs
    (by unfold Reg.XBAR_SSUM; omega)
  exact .ite (hjudge _ h1) h1

/-- The pairs that the records of a commit name. -/
def pairsOf (recs : List Rec) : List (Nat × Nat) :=
  ((recs.filter (fun r => r.op == 6)).map (fun r => (r.target, r.master))).eraseDups

theorem mem_pairsOf {recs : List Rec} {p : Nat × Nat} :
    p ∈ pairsOf recs ↔ ∃ r ∈ recs, r.op = 6 ∧ (r.target, r.master) = p := by
  simp [pairsOf, and_assoc]

theorem pairsOf_lt {recs : List Rec} : ∀ p ∈ pairsOf recs, p.1 < 64 ∧ p.2 < 32 := by
  intro p hp
  obtain ⟨r, -, -, rfl⟩ := mem_pairsOf.1 hp
  exact ⟨r.target_lt, r.master_lt⟩

/-- The guarantees of a commit, then the sums of their targets. -/
theorem State.commitGuarantees_sums (s : State) (recs : List Rec) :
    Steady tailRegs quietParts (s.addGuarantees (netPair recs) (pairsOf recs)) (s.commitGuarantees recs) := by
  refine Steady.foldl _ _ .refl fun u i hi hu => hu.syncSums ?_
  split at hi
  · exact (List.mem_range.1 hi).trans (by decide)
  · obtain ⟨r, -, rfl⟩ := List.mem_map.1 (List.mem_eraseDups.1 hi)
    exact r.target_lt

/-- The GUARANTEE records of a pair bring their net change (R270, R411, log entry 125). -/
theorem State.commitGuarantees_pair (s : State) {recs : List Rec} {r : Rec} (hr : r ∈ recs) (hop : r.op = 6) :
    (s.commitGuarantees recs).regN (Reg.XBAR_GUAR r.target r.master) =
      (s.guarSum r.target r.master (netPair recs r.target r.master)).toNat % 2 ^ 32 := by
  have hheld : tailRegs (Reg.XBAR_GUAR r.target r.master) = false :=
    tailRegs_held (heldByCommit_iff.2 (.inr (.inl (inRange_iff.1 (guarRegs_pair r.target_lt r.master_lt)))))
  rw [State.regN_congr ((s.commitGuarantees_sums recs).1.1 _ hheld)]
  exact (State.regN_addGuarantees (netPair recs) (nodup_eraseDups _) pairsOf_lt (q := (r.target, r.master)) r.master_lt
    s).trans (if_pos (mem_pairsOf.2 ⟨r, hr, hop, rfl⟩))

theorem State.commitGuarantees_steady (s : State) (recs : List Rec) :
    Steady (fun a => tailRegs a || guarRegs a) quietParts s (s.commitGuarantees recs) :=
  ((s.addGuarantees_steady (netPair recs) pairsOf_lt).mono (fun a ha => by simp [ha]) (by decide)).trans
    ((s.commitGuarantees_sums recs).mono (fun a ha => by simp [ha]) fun _ hp => hp)

end Sys2Proof.Machine
end

section
/-! SUPPORT. The commit of one clause: its stages one after the other, and what each leaves to the next (R283-R287). -/

namespace Sys2Proof.Machine

variable {s t u : State} {n : Nat} {recs : List Rec}

/-! ### The stages -/

/-- The values of a commit, with its generation. -/
def State.commitValues (s : State) (recs : List Rec) (gen : Word) : State :=
  (s.commitRegs recs).setReg Reg.CLAUSE_GEN_LAST gen

/-- The values and the versions that a commit brings into force. -/
def State.commitFront (s : State) (t : Nat) (recs : List Rec) (gen : Word) (staged : Option (SMap Nat)) : State :=
  ((((s.commitValues recs gen).commitRoute s ((s.commitValues recs gen).firstGoverned t) recs staged)).commitEntries t
    recs).commitGuarantees recs

/-- What follows in the units. -/
def State.commitBack (s : State) (recs : List Rec) (rated : Bool) : State :=
  recs.foldl (fun s x =>
    match Rec.op x with
    | 7 => s.activate (bitOf (Rec.mac x))
    | 8 => s.ledgerLeaf (Rec.w1 x % 2 ^ 8)
    | _ => s) (if rated then (s.commitFollow recs).syncMixUsage.rateFollow else (s.commitFollow recs).syncMixUsage)

/-- The slot, and the mirror passes that can start. -/
def State.commitEnd (s : State) (flip n : Nat) : State := ((s.slotCommitted flip n).mirrorStarts).syncForce

/-- The commit of one clause by its stages. -/
theorem State.commitSlots_one (s : State) (t c n : Nat) : ∃ staged g crit restart rated,
    s.commitSlots t c [n] =
      let gen := genMax (s.slot n).gen (s.reg Reg.CLAUSE_GEN_LAST)
      let r := (s.commitFront t (s.slot n).recs gen staged).seqCommit t c g (s.slot n).affected.eraseDups gen crit restart
      (r.2.commitBack (s.slot n).recs rated).commitEnd r.1 n := by
  unfold State.commitSlots
  simp only [List.flatMap_cons, List.flatMap_nil, List.append_nil, List.foldl_cons, List.foldl_nil]
  exact ⟨_, _, _, _, _, rfl⟩

/-! ### The front -/

/-- The registers that the values and versions of a commit leave: PT, the count of commits, and the slots. -/
def keptByFront (a : Nat) : Bool :=
  inRange 0x200010 0x200020 a || inRange 0x800001C 0x8000020 a || inRange 0x8000100 0x8000200 a

theorem keptByFront_iff {a : Nat} : keptByFront a = true ↔
    0x200010 ≤ a ∧ a < 0x200020 ∨ 0x800001C ≤ a ∧ a < 0x8000020 ∨ 0x8000100 ≤ a ∧ a < 0x8000200 := by
  simp only [keptByFront, Bool.or_eq_true, inRange_iff, or_assoc]

theorem valueRegs_kept {a : Nat} (h : keptByFront a = true) : valueRegs a = false := by
  have hsh : shBits a = 0 := by
    simp only [keptByFront, Bool.or_eq_true] at h
    rcases h with (h | h) | h
    · exact shBits_of_free (by decide +kernel) h
    · exact shBits_of_free (by decide +kernel) h
    · exact shBits_of_free (by decide +kernel) h
  have hp : synthPlls a = [] := synthPlls_beside (by rw [keptByFront_iff] at h; omega)
  simp [valueRegs, hsh, hp]

theorem State.commitValues_steady (s : State) (recs : List Rec) (gen : Word) :
    Steady (fun a => !keptByFront a) [.events, .synth, .ain, .aout] s (s.commitValues recs gen) := by
  refine ((s.commitRegs_steady recs).mono (fun a ha => ?_) fun _ hp => hp).setReg _ _ (by decide) (by decide)
  by_contra hk
  rw [Bool.not_eq_true, Bool.not_eq_false'] at hk
  rw [valueRegs_kept hk, Bool.or_false] at ha
  have h1 := tailRegs_event ha
  rw [tailRegs_held (heldByCommit_iff.2 (by rw [keptByFront_iff] at hk; omega))] at h1
  cases h1

theorem tailRegs_notKept {a : Nat} (h : tailRegs a = true) : (!keptByFront a) = true := by
  by_contra hk
  rw [Bool.not_eq_true, Bool.not_eq_false'] at hk
  rw [tailRegs_held (heldByCommit_iff.2 (by rw [keptByFront_iff] at hk; omega))] at h
  cases h

theorem guarRegs_notKept {a : Nat} (h : guarRegs a = true) : (!keptByFront a) = true := by
  rw [guarRegs, inRange_iff] at h
  rw [Bool.not_eq_true', ← Bool.not_eq_true, keptByFront_iff]
  omega

/-- The parts that the values and versions of a commit may change. -/
def frontParts : List Part := [.synth, .mem, .clause] ++ quietParts

/-- The route bank of a commit stands after its values. -/
def State.commitRouted (s : State) (t : Nat) (recs : List Rec) (gen : Word) (staged : Option (SMap Nat)) : State :=
  (s.commitValues recs gen).commitRoute s ((s.commitValues recs gen).firstGoverned t) recs staged

theorem State.commitFront_eq (s : State) (t : Nat) (recs : List Rec) (gen : Word) (staged : Option (SMap Nat)) :
    s.commitFront t recs gen staged = ((s.commitRouted t recs gen staged).commitEntries t recs).commitGuarantees recs := rfl

theorem State.commitRouted_steady (s : State) (t : Nat) (recs : List Rec) (gen : Word) (staged : Option (SMap Nat)) :
    Steady (fun a => !keptByFront a) [.events, .synth, .ain, .aout, .mix] s (s.commitRouted t recs gen staged) := by
  refine ((s.commitValues_steady recs gen).mono (fun _ h => h) (by decide)).trans
    ((State.commitRoute_steady _ s _ recs staged).mono (fun a ha => ?_) (by decide))
  rw [beq_iff_eq] at ha
  subst ha
  decide

section
variable (s) (t : Nat) (gen : Word) (staged : Option (SMap Nat)) (he : EntriesExist recs)
include he

theorem State.commitFront_steady : Steady (fun a => !keptByFront a) frontParts s (s.commitFront t recs gen staged) := by
  have h1 := (s.commitRouted_steady t recs gen staged).mono (fun _ h => h) (P' := frontParts) (by decide)
  have h2 := ((s.commitRouted t recs gen staged).commitEntries_steady t he).1.mono (R' := fun a => !keptByFront a)
    (fun _ h => tailRegs_notKept h) (P' := frontParts) (by decide)
  have h3 := (((s.commitRouted t recs gen staged).commitEntries t recs).commitGuarantees_steady recs).mono
    (R' := fun a => !keptByFront a) (fun a ha => (Bool.or_eq_true_iff.1 ha).elim tailRegs_notKept guarRegs_notKept)
    (P' := frontParts) (by decide)
  exact (h1.trans h2).trans h3

theorem State.commitFront_slots : (s.commitFront t recs gen staged).clause.slots = s.clause.slots := by
  have h1 : (s.commitRouted t recs gen staged).clause = s.clause :=
    (s.commitRouted_steady t recs gen staged).1.2 .clause (by decide)
  have h2 := ((s.commitRouted t recs gen staged).commitEntries_steady t he).2
  have h3 := (((s.commitRouted t recs gen staged).commitEntries t recs).commitGuarantees_steady recs).1.2 .clause (by decide)
  exact (congrArg ClauseSt.slots h3).trans (h2.trans (congrArg ClauseSt.slots h1))

/-- A register that only the values and the route bank write keeps through the entries and the guarantees. -/
theorem State.commitFront_reg {a : Nat} (h1 : tailRegs a = false) (h2 : guarRegs a = false) :
    (s.commitFront t recs gen staged).reg a = (s.commitRouted t recs gen staged).reg a := by
  have h3 := (((s.commitRouted t recs gen staged).commitEntries t recs).commitGuarantees_steady recs).1.1 a (by simp [h1, h2])
  exact h3.trans (((s.commitRouted t recs gen staged).commitEntries_steady t he).1.1.1 a h1)

/-- A register beside the PLLs with bits for clauses has its value after the REG records (R277). -/
theorem State.commitFront_value {a : Nat} (hsh : shBits a ≠ 0) (hp : synthPlls a = []) (hm : a ≠ Reg.MIX_RCTRL) :
    (s.commitFront t recs gen staged).reg a = (s.projectRegs recs).reg a := by
  have hg : guarRegs a = false := by
    by_contra h
    exact hsh (shBits_of_free (lo := 0x3001000) (hi := 0x3003000) (by decide +kernel) (by simpa [guarRegs] using h))
  have hev : eventReg a = false := by
    by_contra h
    have := tailRegs_event (by simpa using h)
    rw [tailRegs_sh hsh] at this
    cases this
  have hlast : Reg.CLAUSE_GEN_LAST ≠ a := by
    rintro rfl
    exact hsh (by decide +kernel)
  rw [s.commitFront_reg t gen staged he (tailRegs_sh hsh) hg, State.commitRouted,
    (State.commitRoute_steady _ s _ recs staged).1.1 a (by simpa using hm), State.commitValues,
    State.reg_setReg_ne _ _ _ _ hlast, s.reg_commitRegs recs hev hp]

theorem State.commitFront_gen : (s.commitFront t recs gen staged).reg Reg.CLAUSE_GEN_LAST = gen := by
  rw [s.commitFront_reg t gen staged he (tailRegs_held (by decide)) (by decide), State.commitRouted,
    (State.commitRoute_steady _ s _ recs staged).1.1 _ (by decide), State.commitValues, State.reg_setReg, if_pos rfl]

theorem State.commitFront_bank {r : Rec} (hr : r ∈ recs) (hop : r.op = 4) :
    (s.commitFront t recs gen staged).fld Reg.MIX_RCTRL Fld.MIX_RCTRL_BANK = 1 - s.fld Reg.MIX_RCTRL Fld.MIX_RCTRL_BANK := by
  rw [State.fld_congr (s.commitFront_reg t gen staged he (tailRegs_sh (by decide +kernel)) (by decide))]
  exact State.commitRoute_bank _ s _ staged hr hop

theorem State.commitFront_entry {r : Rec} (hr : r ∈ recs) (hop : r.op = 5) :
    Memory.read (s.commitFront t recs gen staged).mem (entryAt r.mac r.w1) (entrySize r.mac) =
      Memory.read s.spare (entryAt r.mac r.w1) (entrySize r.mac) := by
  have hmem : (s.commitFront t recs gen staged).mem = ((s.commitRouted t recs gen staged).commitEntries t recs).mem :=
    (((s.commitRouted t recs gen staged).commitEntries t recs).commitGuarantees_steady recs).1.2 .mem (by decide)
  have hspare : (s.commitRouted t recs gen staged).spare = s.spare :=
    (s.commitRouted_steady t recs gen staged).1.2 .spare (by decide)
  rw [hmem, State.commitEntries_read _ t he hr hop, hspare]

/-- The pairs of a commit take their changes from what stood before it. -/
theorem State.commitFront_pair {r : Rec} (hr : r ∈ recs) (hop : r.op = 6) :
    (s.commitFront t recs gen staged).regN (Reg.XBAR_GUAR r.target r.master) =
      (s.guarSum r.target r.master (netPair recs r.target r.master)).toNat % 2 ^ 32 := by
  have hg := guarRegs_pair r.target_lt r.master_lt
  have hheld : tailRegs (Reg.XBAR_GUAR r.target r.master) = false :=
    tailRegs_held (heldByCommit_iff.2 (.inr (.inl (inRange_iff.1 hg))))
  have hsh : shBits (Reg.XBAR_GUAR r.target r.master) = 0 := shBits_of_free (by decide +kernel) hg
  have hev : eventReg (Reg.XBAR_GUAR r.target r.master) = false := eventReg_high _ (by unfold Reg.XBAR_GUAR; omega)
  have ha := inRange_iff.1 hg
  have hp : synthPlls (Reg.XBAR_GUAR r.target r.master) = [] := synthPlls_beside (by omega)
  have hm : Reg.XBAR_GUAR r.target r.master ≠ Reg.MIX_RCTRL := by unfold Reg.MIX_RCTRL; omega
  have hl : Reg.CLAUSE_GEN_LAST ≠ Reg.XBAR_GUAR r.target r.master := by unfold Reg.CLAUSE_GEN_LAST; omega
  have hreg : ((s.commitRouted t recs gen staged).commitEntries t recs).regN (Reg.XBAR_GUAR r.target r.master) =
      s.regN (Reg.XBAR_GUAR r.target r.master) := by
    refine State.regN_congr (((State.commitEntries_steady _ t he).1.1.1 _ hheld).trans ?_)
    rw [State.commitRouted, (State.commitRoute_steady _ s _ recs staged).1.1 _ (by simpa using hm),
      State.commitValues, State.reg_setReg_ne _ _ _ _ hl,
      s.reg_commitRegs recs hev hp, s.reg_projectRegs_kept recs hsh]
  have hxbar : ((s.commitRouted t recs gen staged).commitEntries t recs).xbar = s.xbar :=
    ((State.commitEntries_steady _ t he).1.1.2 .xbar (by decide)).trans
      ((s.commitRouted_steady t recs gen staged).1.2 .xbar (by decide))
  rw [State.commitFront_eq, State.commitGuarantees_pair _ hr hop, State.guarSum, hreg, State.guarDebt, hxbar]
  rfl

end

end Sys2Proof.Machine
end

section
/-! SUPPORT. The commit of one clause as a whole: its slot, its generation and count, the flips of its phrases, and its
records in force (R283-R287). -/

namespace Sys2Proof.Machine

variable {s t u : State} {n : Nat} {recs : List Rec} {ps : List Nat}

theorem CommitStep.commitBack (h : CommitStep ps s t) (recs : List Rec) (rated : Bool) :
    CommitStep ps s (t.commitBack recs rated) := by
  have h3 := (h.commitFollow recs).syncMixUsage
  refine CommitStep.foldl _ _ (.ite h3.rateFollow h3) fun u x hu => ?_
  split
  · exact hu.activate _
  · exact hu.ledgerLeaf _
  · exact hu

/-! ### The slot after its commit -/

/-- The slot of a committed clause but for its state (R294, R295). -/
def State.slotFlipped (s : State) (flip n : Nat) : State :=
  (s.setSlot n { s.slot n with mirror := (s.slot n).banks, flip := flip }).setRegN (Reg.CLAUSE_SLOT_FLIP n) flip

theorem State.reg_slotFlipped (s : State) (flip : Nat) {n a : Nat} (h : Reg.CLAUSE_SLOT_FLIP n ≠ a) :
    (s.slotFlipped flip n).reg a = s.reg a := (State.reg_setReg_ne _ _ _ _ h).trans (s.reg_setSlot n _ a)

theorem State.slotCommitted_eq (s : State) (flip n : Nat) : s.slotCommitted flip n =
    (((s.slotFlipped flip n).setSlotState n 7).countHold Reg.CLAUSE_COMMITS 1).raiseN 305
      (n + (s.slot n).gen.toNat % 2 ^ 16 * 2 ^ 16) := rfl

/-- The registers that the end of a commit writes: those of the slot and the count of commits, and the bank in force. -/
def endRegs (n a : Nat) : Bool := tailRegs a || clauseRegs n a || a == Reg.CLAUSE_COMMITS || a == Reg.MIX_RCTRL

theorem endRegs_events (n : Nat) : AllowsEvents (endRegs n) commitParts :=
  ⟨fun a ha => by simp [endRegs, tailRegs_event ha], by decide⟩

theorem State.slotCommitted_steady (s : State) (flip n : Nat) :
    Steady (endRegs n) commitParts s (s.slotCommitted flip n) := by
  have hR : ∀ a, clauseRegs n a = true → endRegs n a = true := fun a ha => by simp [endRegs, ha]
  have h0 : Steady (endRegs n) commitParts s (s.slotFlipped flip n) :=
    (Steady.refl.setSlot (by decide) n _).setRegN _ _ (hR _ (clauseRegs_flip n)) (by unfold Reg.CLAUSE_SLOT_FLIP; omega)
  rw [State.slotCommitted_eq]
  exact ((h0.setSlotState hR 7).countHold _ _ (by simp [endRegs]) (by decide)).raiseN (endRegs_events n) 305 _ (by decide)

theorem State.slotState_slotCommitted (s : State) (flip n : Nat) : (s.slotCommitted flip n).slotState n = 7 := by
  rw [State.slotCommitted_eq, State.slotState_raiseN _ _ (by decide),
    State.slotState_congr (State.reg_countHold_ne _ _ (slotState_ne n (by decide)))]
  exact State.slotState_setSlotState_same _ n 7

theorem slotFlip_ne {n : Nat} : Reg.CLAUSE_SLOT_FLIP n ≠ Reg.CLAUSE_COMMITS ∧
    Reg.CLAUSE_COMMITS ≠ Reg.CLAUSE_SLOT_STATE n := by
  unfold Reg.CLAUSE_SLOT_FLIP Reg.CLAUSE_COMMITS Reg.CLAUSE_SLOT_STATE
  omega

theorem State.commits_slotCommitted (s : State) (flip n : Nat) :
    (s.slotCommitted flip n).regN Reg.CLAUSE_COMMITS = min (s.regN Reg.CLAUSE_COMMITS + 1) 0xFFFFFFFF := by
  rw [State.slotCommitted_eq, State.regN_congr (State.reg_raiseN_high _ _ (by decide) (by decide)),
    State.regN_countHold_same,
    State.regN_congr (State.reg_setSlotState_ne _ n 7 (by decide) (by decide) slotFlip_ne.2),
    State.regN_congr (s.reg_slotFlipped flip slotFlip_ne.1)]

theorem State.slotCommitted_shown (s : State) (flip n : Nat) (hq : s.tally.silent = false) :
    (s.slotCommitted flip n).shown 305 := State.raiseN_shown _ 305 _ (by decide) hq

/-- Beside the slot, a commit's end leaves memory, SEQ and the times of the slots. -/
theorem State.slotCommitted_leaves (s : State) (flip n : Nat) : (s.slotCommitted flip n).mem = s.mem ∧
    (s.slotCommitted flip n).seq = s.seq ∧ ∀ i, ((s.slotCommitted flip n).slot i).c = (s.slot i).c := by
  have hraise := State.raiseN_frame (((s.slotFlipped flip n).setSlotState n 7).countHold Reg.CLAUSE_COMMITS 1) 305
    (n + (s.slot n).gen.toNat % 2 ^ 16 * 2 ^ 16) (by decide)
  rw [← State.slotCommitted_eq] at hraise
  refine ⟨hraise.2 .mem (by decide), hraise.2 .seq (by decide), fun i => ?_⟩
  rw [State.slot_congr (congrArg ClauseSt.slots (hraise.2 .clause (by decide)))]
  change ((s.setSlot n { s.slot n with mirror := (s.slot n).banks, flip := flip }).slot i).c = (s.slot i).c
  by_cases hi : n = i
  · subst hi
    rw [State.slot_setSlot_same]
  · rw [State.slot_setSlot_ne _ _ hi]

/-! ### From the values on -/

/-- What the rest of a commit leaves, from the state in which its values and versions are in force. -/
structure CommitRest (ps : List Nat) (n : Nat) (s t : State) : Prop where
  steady  : Steady (endRegs n) commitParts s t
  tables  : KeepsTables s.mem t.mem
  slotC   : ∀ i, (t.slot i).c = (s.slot i).c
  banks   : ∀ p, t.bankNewest p = if p ∈ ps then !s.bankNewest p else s.bankNewest p
  state   : t.slotState n = 7
  commits : t.regN Reg.CLAUSE_COMMITS = min (s.regN Reg.CLAUSE_COMMITS + 1) 0xFFFFFFFF
  shown   : s.tally.silent = false → t.shown 305
  bank    : t.fld Reg.MIX_RCTRL Fld.MIX_RCTRL_BANK = s.fld Reg.MIX_RCTRL Fld.MIX_RCTRL_BANK

theorem CommitStep.late (h : CommitStep ps s t) (n : Nat) : Steady (endRegs n) commitParts s t :=
  h.steady.mono (fun a ha => by simp [endRegs, ha]) fun _ hp => hp

theorem tailRegs_slotState {n : Nat} (hn : n < 16) : tailRegs (Reg.CLAUSE_SLOT_STATE n) = false :=
  tailRegs_held (heldByCommit_iff.2 (by unfold Reg.CLAUSE_SLOT_STATE; omega))

theorem tailRegs_rctrl : tailRegs Reg.MIX_RCTRL = false := tailRegs_sh (by decide +kernel)

/-- CLAUSE_GEN and IN_FORCE follow the folios: no other bit changes (R253, R295). -/
theorem State.reg_syncForce (s : State) {a : Nat} (h1 : a ≠ Reg.CLAUSE_GEN) (h2 : a ≠ Reg.MIX_RCTRL) :
    s.syncForce.reg a = s.reg a := by
  rw [State.syncForce, State.reg_setBit, if_neg h2.symm, State.reg_setReg, if_neg h1.symm]

theorem State.bank_syncForce (s : State) :
    s.syncForce.fld Reg.MIX_RCTRL Fld.MIX_RCTRL_BANK = s.fld Reg.MIX_RCTRL Fld.MIX_RCTRL_BANK := by
  rw [State.syncForce, State.fld_setBit_apart _ _ (by decide) (by decide)]
  exact State.fld_setReg_ne _ _ _ _ _ (by decide)

theorem State.syncForce_leaves (s : State) : s.syncForce.mem = s.mem ∧ s.syncForce.seq = s.seq ∧
    s.syncForce.clause = s.clause := ⟨rfl, rfl, rfl⟩

theorem Steady.syncForceEnd (h : Steady (endRegs n) commitParts s t) : Steady (endRegs n) commitParts s t.syncForce :=
  h.syncForce (by simp [endRegs, tailRegs_mem (a := Reg.CLAUSE_GEN) (by decide)]) (by simp [endRegs])

theorem State.rctrl_slotCommitted (s : State) (flip n : Nat) :
    (s.slotCommitted flip n).reg Reg.MIX_RCTRL = s.reg Reg.MIX_RCTRL := by
  rw [State.slotCommitted_eq, State.reg_raiseN_high _ _ (by decide) (by decide), State.reg_countHold_ne _ _ (by decide),
    State.reg_setSlotState_ne _ n 7 (by decide) (by decide) (slotState_ne n (by decide))]
  exact s.reg_slotFlipped flip (by unfold Reg.CLAUSE_SLOT_FLIP Reg.MIX_RCTRL; omega)

/-- The rest of a commit, from the flips of its phrases to the bank in force. -/
theorem CommitStep.rest (h : CommitStep ps s t) {n : Nat} (hn : n < 16) (flip : Nat) :
    CommitRest ps n s (t.commitEnd flip n) := by
  obtain ⟨hmem, hseq, hslotC⟩ := t.slotCommitted_leaves flip n
  have hslot := t.slotCommitted_steady flip n
  have hstate := t.slotState_slotCommitted flip n
  have hcommits := t.commits_slotCommitted flip n
  have hshown := t.slotCommitted_shown flip n
  have hrctrl := t.rctrl_slotCommitted flip n
  unfold State.commitEnd
  generalize t.slotCommitted flip n = v at *
  have hm : CommitStep [] v v.mirrorStarts := CommitStep.refl.mirrorStarts
  generalize v.mirrorStarts = w at *
  obtain ⟨hmem', hseq', hclause'⟩ := w.syncForce_leaves
  have hne : (Reg.CLAUSE_SLOT_STATE n ≠ Reg.CLAUSE_GEN) ∧ Reg.CLAUSE_SLOT_STATE n ≠ Reg.MIX_RCTRL := by
    unfold Reg.CLAUSE_SLOT_STATE Reg.CLAUSE_GEN Reg.MIX_RCTRL
    omega
  refine ⟨((h.late n).trans hslot).trans (hm.late n).syncForceEnd, ?tables, fun i => ?slotC, fun p => ?banks, ?state,
    ?commits, fun hq => ?shown, ?bank⟩
  case tables =>
    rw [hmem']
    have htables := hm.tables
    rw [hmem] at htables
    exact h.tables.trans htables
  case slotC => rw [State.slot_congr (congrArg ClauseSt.slots hclause'), hm.slotC, hslotC, h.slotC]
  case banks =>
    rw [State.bankNewest_congr (congrArg SeqSt.flips hseq') (congrArg SeqSt.bank hseq') p, hm.banks,
      if_neg List.not_mem_nil, State.bankNewest_congr (congrArg SeqSt.flips hseq) (congrArg SeqSt.bank hseq) p, h.banks]
  case state =>
    rw [State.slotState_congr (State.reg_syncForce _ hne.1 hne.2), State.slotState_congr (hm.reg_eq (tailRegs_slotState hn)),
      hstate]
  case commits =>
    rw [State.regN_congr (State.reg_syncForce _ (by decide) (by decide)),
      State.regN_congr (hm.reg_eq (tailRegs_held (by decide))), hcommits, State.regN_congr (h.reg_eq (tailRegs_held (by decide)))]
  case shown => exact (hm.late n).syncForceEnd.2.shown 305 (by decide) (hshown (h.steady.2.2.trans hq))
  case bank =>
    rw [State.bank_syncForce, State.fld_congr (hm.reg_eq tailRegs_rctrl), State.fld_congr hrctrl,
      State.fld_congr (h.reg_eq tailRegs_rctrl)]

/-! ### The whole -/

/-- What the commit of one clause leaves (R283, R284, R294). -/
structure Committed (n : Nat) (s t : State) : Prop where
  cause   : CauseLe s t
  state   : t.slotState n = 7
  others  : ∀ i < 16, i ≠ n → t.slotState i = s.slotState i
  slotC   : ∀ i, (t.slot i).c = (s.slot i).c
  now     : t.now = s.now
  shown   : s.tally.silent = false → t.shown 305
  gen     : t.reg Reg.CLAUSE_GEN_LAST = genMax (s.slot n).gen (s.reg Reg.CLAUSE_GEN_LAST)
  commits : t.regN Reg.CLAUSE_COMMITS = min (s.regN Reg.CLAUSE_COMMITS + 1) 0xFFFFFFFF
  banks   : ∀ p ∈ (s.slot n).affected, t.bankNewest p = !s.bankNewest p
  inForce : RecordsInForce (s.slot n).recs s t

theorem endRegs_kept {n a : Nat} (h1 : tailRegs a = false) (h2 : clauseRegs n a = false) (h3 : a ≠ Reg.CLAUSE_COMMITS)
    (h4 : a ≠ Reg.MIX_RCTRL) : endRegs n a = false := by simp [endRegs, h1, h2, h3, h4]

theorem clauseRegs_iff {n a : Nat} : clauseRegs n a = true ↔ (0x8000100 + n * 0x10 ≤ a ∧ a < 0x8000100 + n * 0x10 + 16) ∨
    a = Reg.CLAUSE_STATUS ∨ a = Reg.CLAUSE_REFUSALS ∨ a = Reg.TIME_STATUS := by
  simp only [clauseRegs, Bool.or_eq_true, inRange_iff, beq_iff_eq, or_assoc, Reg.CLAUSE_SLOT_STATE]

/-- No register with bits for clauses is one of the end of a commit, but for the route control. -/
theorem endRegs_sh {n a : Nat} (hn : n < 16) (hsh : shBits a ≠ 0) (hm : a ≠ Reg.MIX_RCTRL) : endRegs n a = false := by
  have hc : ¬ inRange 0x8000000 0x8000200 a = true := fun h => hsh (shBits_of_free (by decide +kernel) h)
  rw [inRange_iff] at hc
  refine endRegs_kept (tailRegs_sh hsh) ?_ (by unfold Reg.CLAUSE_COMMITS; omega) hm
  rw [← Bool.not_eq_true, clauseRegs_iff]
  rintro (h | h | h | h)
  · omega
  · unfold Reg.CLAUSE_STATUS at h
    omega
  · unfold Reg.CLAUSE_REFUSALS at h
    omega
  · rw [h] at hsh
    exact hsh (by decide +kernel)

/-- The guarantees, the generation, PT and the other slots are not among them. -/
theorem endRegs_held {n a : Nat} (hn : n < 16) (h : (0x200010 ≤ a ∧ a < 0x200020) ∨ (0x3001000 ≤ a ∧ a < 0x3003000) ∨
    (0x8000014 ≤ a ∧ a < 0x8000018) ∨ (0x8000100 ≤ a ∧ a < 0x8000200 ∧ ¬ (0x8000100 + n * 0x10 ≤ a ∧
      a < 0x8000100 + n * 0x10 + 16))) : endRegs n a = false := by
  refine endRegs_kept (tailRegs_held (heldByCommit_iff.2 (by omega))) ?_ (by unfold Reg.CLAUSE_COMMITS; omega)
    (by unfold Reg.MIX_RCTRL; omega)
  rw [← Bool.not_eq_true, clauseRegs_iff]
  unfold Reg.CLAUSE_STATUS Reg.CLAUSE_REFUSALS Reg.TIME_STATUS
  omega

theorem State.commitSlots_committed (s : State) (t c : Nat) {n : Nat} (hn : n < 16) (he : EntriesExist (s.slot n).recs) :
    Committed n s (s.commitSlots t c [n]) := by
  obtain ⟨staged, g, crit, restart, rated, hcommit⟩ := s.commitSlots_one t c n
  dsimp only at hcommit
  rw [hcommit]
  generalize hgen : genMax (s.slot n).gen (s.reg Reg.CLAUSE_GEN_LAST) = gen
  generalize hfront : s.commitFront t (s.slot n).recs gen staged = u
  generalize hr : u.seqCommit t c g (s.slot n).affected.eraseDups gen crit restart = r
  have hseq : CommitStep (s.slot n).affected.eraseDups u r.2 :=
    hr ▸ u.seqCommit_step t c g gen crit restart (nodup_eraseDups _)
  have hsteady : Steady (fun a => !keptByFront a) frontParts s u := by
    rw [← hfront]
    exact s.commitFront_steady t gen staged he
  have hrest := (hseq.commitBack (s.slot n).recs rated).rest hn r.1
  generalize (r.2.commitBack (s.slot n).recs rated).commitEnd r.1 n = v at hrest ⊢
  have hslots : u.clause.slots = s.clause.slots := hfront ▸ s.commitFront_slots t gen staged he
  have hkept : ∀ a, keptByFront a = true → u.reg a = s.reg a := fun a ha => hsteady.1.1 a (by simp [ha])
  have hlate : ∀ a, endRegs n a = false → v.reg a = u.reg a := hrest.steady.1.1
  refine ⟨hsteady.2.trans hrest.steady.2, hrest.state, fun i hi hne => ?others, fun i => ?slotC, ?now, fun hq => ?shown,
    ?gen, ?commits, fun p hp => ?banks, fun r hr hop hp hm => ?value, fun r hr hop => ?route, fun r hr hop => ?entry,
    fun r hr hop => ?pair⟩
  case others =>
    have ha : 0x8000100 ≤ Reg.CLAUSE_SLOT_STATE i ∧ Reg.CLAUSE_SLOT_STATE i < 0x8000200 ∧
        ¬ (0x8000100 + n * 0x10 ≤ Reg.CLAUSE_SLOT_STATE i ∧ Reg.CLAUSE_SLOT_STATE i < 0x8000100 + n * 0x10 + 16) := by
      unfold Reg.CLAUSE_SLOT_STATE
      omega
    exact State.slotState_congr ((hlate _ (endRegs_held hn (.inr (.inr (.inr ha))))).trans
      (hkept _ (keptByFront_iff.2 (.inr (.inr ⟨ha.1, ha.2.1⟩)))))
  case slotC => rw [hrest.slotC i, State.slot_congr hslots]
  case now =>
    refine State.now_congr _ _ fun a ha => ?_
    rw [inRange_iff] at ha
    exact (hlate a (endRegs_held hn (.inl ha))).trans (hkept a (keptByFront_iff.2 (.inl ha)))
  case shown => exact hrest.shown (hsteady.2.2.trans hq)
  case gen =>
    rw [hlate _ (endRegs_held hn (.inr (.inr (.inl (by decide))))), ← hfront]
    exact (s.commitFront_gen t gen staged he).trans hgen.symm
  case commits =>
    rw [hrest.commits, State.regN_congr (hkept _ (by decide))]
  case banks =>
    have hs : u.seq = s.seq := hsteady.1.2 .seq (by decide)
    rw [hrest.banks, if_pos (List.mem_eraseDups.2 hp),
      State.bankNewest_congr (congrArg SeqSt.flips hs) (congrArg SeqSt.bank hs) p]
  case value =>
    by_cases hsh : shBits r.w1 = 0
    · rw [hsh]
      exact (BitVec.and_zero ..).trans (BitVec.and_zero ..).symm
    · rw [hlate _ (endRegs_sh hn hsh hm), ← hfront, s.commitFront_value t gen staged he hsh hp hm]
  case route =>
    rw [hrest.bank, ← hfront]
    exact s.commitFront_bank t gen staged he hr hop
  case entry =>
    obtain ⟨hlo, hhi⟩ := entryAt_tables (e := (r.mac, r.w1)) (he r hr hop)
    rw [State.read, Memory.read_congr _ u.mem _ _ fun x h1 h2 =>
      hrest.tables x (hlo.trans h1) (Nat.lt_of_lt_of_le h2 hhi), ← hfront]
    exact s.commitFront_entry t gen staged he hr hop
  case pair =>
    have hg := inRange_iff.1 (guarRegs_pair r.target_lt r.master_lt)
    rw [State.regN_congr (hlate _ (endRegs_held hn (.inr (.inl hg)))), ← hfront]
    exact s.commitFront_pair t gen staged he hr hop

end Sys2Proof.Machine
end

section
/-! SUPPORT. The commit as its callers find it: at C of a clause that waits for it, and at the end of the filling of one
that is IMMEDIATE (R283, R286, R291). -/

namespace Sys2Proof.Machine

variable {s t u : State} {n : Fin 16} {recs : List Rec}

theorem State.mem_dueSlots {i : Nat} :
    i ∈ s.dueSlots ↔ i < 16 ∧ (s.slotState i = 5 ∨ s.slotState i = 6) ∧ (s.slot i).c ≤ s.now := by
  simp [State.dueSlots]

/-- Once the one clause that was due has committed, none is. -/
theorem Committed.dueSlots_nil (h : Committed n s t) (hd : s.dueSlots = [n.val]) : t.dueSlots = [] := by
  refine List.eq_nil_iff_forall_not_mem.2 fun i hi => ?_
  obtain ⟨hlt, hstate, hc⟩ := State.mem_dueSlots.1 hi
  rw [h.slotC, h.now] at hc
  by_cases hin : i = n
  · rw [hin, h.state] at hstate
    omega
  · rw [h.others i hlt hin] at hstate
    have hmem : i ∈ s.dueSlots := State.mem_dueSlots.2 ⟨hlt, hstate, hc⟩
    rw [hd, List.mem_singleton] at hmem
    exact hin hmem

theorem State.commitDue_idle (h : s.dueSlots = []) (fuel : Nat) : s.commitDue fuel = s := by
  cases fuel with
  | zero => rfl
  | succ fuel =>
    rw [State.commitDue, h]
    rfl

/-- A clause that alone is due commits, with C and its folio (R283, R286). -/
theorem State.clauseCommit_one (hd : s.dueSlots = [n.val]) (he : EntriesExist (s.slot n).recs) :
    s.clauseCommit n = s.commitSlots (s.slot n).c (s.slot n).cFolio [n.val] := by
  have hcommitted := s.commitSlots_committed (s.slot n).c (s.slot n).cFolio n.isLt he
  have hstep : s.commitDue 16 = (s.commitSlots (s.slot n).c (s.slot n).cFolio [n.val]).commitDue 15 := by
    rw [State.commitDue, hd]
    rfl
  rw [State.clauseCommit, hd, if_pos (by simp), hstep, State.commitDue_idle (hcommitted.dueSlots_nil hd)]

/-- C of an armed clause (R283, R284, R294). -/
theorem clauseCommit_commits (hd : s.dueSlots = [n.val]) (hq : s.tally.silent = false) (he : EntriesExist (s.slot n).recs) :
    Completes (.clauseCommit n) s fun t => t.slotState n = 7 ∧ t.shown 305 ∧
      t.reg Reg.CLAUSE_GEN_LAST = genMax (s.slot n).gen (s.reg Reg.CLAUSE_GEN_LAST) ∧
      t.regN Reg.CLAUSE_COMMITS = min (s.regN Reg.CLAUSE_COMMITS + 1) 0xFFFFFFFF ∧
      (∀ p ∈ (s.slot n).affected, t.bankNewest p = !s.bankNewest p) ∧ RecordsInForce (s.slot n).recs s t := by
  have h := s.commitSlots_committed (s.slot n).c (s.slot n).cFolio n.isLt he
  exact ⟨_, congrArg Host.Outcome.next (State.clauseCommit_one hd he), h.state, h.shown hq, h.gen, h.commits, h.banks,
    h.inForce⟩

/-- C of a slot that is not due (R286). -/
theorem clauseCommit_idle (h : n.val ∉ s.dueSlots) : exec (.clauseCommit n) s = .next s :=
  congrArg Host.Outcome.next (if_neg (by simpa using h))

/-- What a raise leaves of the state from which a commit's records take effect. -/
theorem RecordsInForce.before_raiseN {src w3 : Nat} (hs : src < 320) (h : RecordsInForce recs (s.raiseN src w3) t) :
    RecordsInForce recs s t := by
  have hf := s.raiseN_frame src w3 hs
  obtain ⟨hvalue, hroute, hentry, hpair⟩ := h
  refine ⟨fun r hr hop hp hm => ?_, fun r hr hop => ?_, fun r hr hop => ?_, fun r hr hop => ?_⟩
  · rw [hvalue r hr hop hp hm]
    by_cases hsh : shBits r.w1 = 0
    · rw [hsh]
      exact (BitVec.and_zero ..).trans (BitVec.and_zero ..).symm
    · have hev : eventReg r.w1 = false := by
        by_contra hev
        rw [Bool.not_eq_false] at hev
        exact absurd (tailRegs_event hev) (by rw [tailRegs_sh hsh]; decide)
      rw [State.projectRegs_congr recs (hf.reg_eq _ hev rfl)]
  · rw [hroute r hr hop, State.fld_congr (s.reg_raiseN_high w3 hs (by decide))]
  · rw [hentry r hr hop, show (s.raiseN src w3).spare = s.spare from hf.2 .spare (by decide)]
  · have hx : (s.raiseN src w3).xbar = s.xbar := hf.2 .xbar (by decide)
    rw [hpair r hr hop, State.regN_congr (s.reg_raiseN_high w3 hs (by unfold Reg.XBAR_GUAR; omega)), State.guarDebt, hx]
    rfl

/-- The end of the filling of an IMMEDIATE clause commits it (R291). -/
theorem clauseFillDone_commits (h2 : s.slotState n = 2) (hi : (s.slot n).immediate = true) (hq : s.tally.silent = false)
    (he : EntriesExist (s.slot n).recs) : Completes (.clauseFillDone n) s fun t => t.slotState n = 7 ∧ t.shown 304 ∧
      t.shown 305 ∧ t.reg Reg.CLAUSE_GEN_LAST = genMax (s.slot n).gen (s.reg Reg.CLAUSE_GEN_LAST) ∧
      RecordsInForce (s.slot n).recs (s.fillSlot n) t := by
  have hfill := s.fillSlot_step n
  generalize hw : (n : Nat) + (s.slot n).gen.toNat % 2 ^ 16 * 2 ^ 16 = w3
  have hout : s.clauseFilled n = ((s.fillSlot n).raiseN 304 w3).commitSlots s.now s.folio [n.val] := by
    rw [State.clauseFilled_eq h2, hi, hw]
    rfl
  have hslot : ((s.fillSlot n).raiseN 304 w3).slot n = s.slot n := by
    rw [State.slot_raiseN _ _ (by decide), State.slot_congr (congrArg ClauseSt.slots hfill.slots_eq)]
  have hsilent : (s.fillSlot n).tally.silent = false := hfill.1.2.2.trans hq
  have hgen : ((s.fillSlot n).raiseN 304 w3).reg Reg.CLAUSE_GEN_LAST = s.reg Reg.CLAUSE_GEN_LAST :=
    (State.reg_raiseN_high _ _ (by decide) (by decide)).trans (hfill.reg_eq (by decide) (by decide))
  have h := State.commitSlots_committed ((s.fillSlot n).raiseN 304 w3) s.now s.folio n.isLt (by rw [hslot]; exact he)
  refine ⟨_, congrArg Host.Outcome.next hout, h.state,
    h.cause.shown 304 (by decide) (State.raiseN_shown _ 304 _ (by decide) hsilent), h.shown ((State.silent_raiseN _ _ (by decide)).trans hsilent), ?_, ?_⟩
  · rw [h.gen, hslot, hgen]
  · have hr := h.inForce
    rw [hslot] at hr
    exact hr.before_raiseN (by decide)

end Sys2Proof.Machine
end

section
/-! A clause from its submission to its end (R264-R269, R280-R293). -/

open Sys2Proof Sys2Proof.Machine

/-- Settles O28: each command of a slot is one step of its state machine; the commit of an IMMEDIATE clause is the one stage
that reaches beyond CLAUSE, and what it writes after its records touches, but for IN_FORCE, no register with bits for clauses. -/
theorem clauseUpToArming : Obligations.ClauseUpToArming := by
  unfold Obligations.ClauseUpToArming
  exact ⟨fun _ _ _ => clauseSubmit_takes, fun _ _ _ => clauseSubmit_busy, fun _ _ => clauseAdmit_does,
    fun _ _ => clauseBankFree_fills, fun _ _ => clauseFillDone_prepares, fun _ _ => clauseFillDone_commits,
    fun _ _ => clauseConfirm_arms, fun _ _ => clauseConfirm_wrong, fun _ _ => clauseAbort_unwinds,
    fun _ _ => clauseAbort_wrong⟩

/-- Settles O29: after the one clause that is due has committed none is due, so its commit is one commit of one slot; the
other commands are steps of the slot's state machine, and a drain takes from each port what holds a version of the commit. -/
theorem clauseFromDeadline : Obligations.ClauseFromDeadline := by
  unfold Obligations.ClauseFromDeadline
  exact ⟨fun _ _ => clauseArmDeadline_unwinds, fun _ _ => clauseArmDeadline_idle, fun _ _ => clauseFreeze_freezes,
    fun _ _ => clauseCommit_commits, fun _ _ => clauseCommit_idle, fun _ _ => clauseUnwindDone_ends,
    fun _ _ => clauseMirrorDone_ends, fun _ _ _ => drainTimeout_drains, fun _ _ => drainTimeout_idle⟩

end
